-- ==== Sys2Proof/Word.lean ====
section
/-! DEFINITION. The word types of the PHK-2548 model: bytes, registers, the 48-bit frame number (R3), the 56 ARGS bytes
of a command entry (R296), byte strings on a serial link, and sparse tables keyed by a number. -/
namespace Sys2Proof

/-- One byte. -/
abbrev Byte := BitVec 8

/-- A 16-bit field. -/
abbrev Word16 := BitVec 16

/-- A 32-bit register of the set-up window (R290). -/
abbrev Word32 := BitVec 32

/-- A 64-bit field: a connection entry (R63), a page epoch (R68), a fingerprint (R384). -/
abbrev Word64 := BitVec 64

/-- A frame number: 48 bits, all arithmetic modulo 2^48 (R3). -/
abbrev FN := BitVec 48

/-- The 56 bytes of ARGS of a command entry as one little-endian number (R296, R8). -/
abbrev Args := BitVec 448

/-- Bytes in transmission (or address) order. -/
abbrev Bytes := List Byte

/-- A sparse table: keys strictly rising, and no key holding the table's default. -/
abbrev SMap (α : Type) := List (Nat × α)

end Sys2Proof
end

