-- ==== Sys2Proof/Syntax.lean ====
section
/-! DEFINITION. The commands and happenings of the PHK-2548: one constructor of Instr per row of the table of
operations and events, with the operands the host, the partners and the pins give each, and the plain data those
operands are made of (modes, pages, journalled configuration, scheduled effects). -/
namespace Sys2Proof

/-- The eight modes of R25. -/
inductive Mode where
  | boot | safe | quiet | solo | active | standby | isolated | service
  deriving DecidableEq, Repr

/-- The three switching tiers (R15). -/
inductive Tier where
  | ho | lo | ds0
  deriving DecidableEq, Repr

/-- A leg of a selector: A working, B protection (R184). -/
inductive Leg where
  | a | b
  deriving DecidableEq, Repr

/-- The condition of a leg (R179). -/
inductive Cond where
  | ok | sd | sf
  deriving DecidableEq, Repr

/-- The flag of CONN_COMMIT (R80). -/
inductive CommitFlag where
  | defer | split | fail
  deriving DecidableEq, Repr

/-- The staged-page states of R77. CANCELLED is reported only in a completion, so it is no state of the page. -/
inductive PageState where
  | opened | sealed | final | split
  deriving DecidableEq, Repr

/-- A command entry as it stands in the command ring, less its OPCODE byte, which the row names (R296). -/
structure CmdEntry where
  /-- Byte 1: bit 0 is PHASE, bits 7 to 1 are reserved. -/
  flags : Byte
  /-- Bytes 2 and 3: bytes of ARGS in use. -/
  len : Word16
  /-- Bytes 4 to 7, echoed in the completion. -/
  tag : Word32
  /-- Bytes 8 to 63. -/
  args : Args
  deriving DecidableEq, Repr

/-- What a completion echoes of its command: OPCODE, TAG and ring position (R299). -/
structure CmdTok where
  opcode : Byte
  tag : Word32
  pos : Nat
  deriving DecidableEq, Repr

/-- A receiver or a carrier, and what was received on it in the time that a row speaks of. -/
structure Watched where
  obj : Nat
  ev : List Nat
  deriving DecidableEq, Repr

/-- A carrier, and how many of how many of its multiframes or superframes were errored (R120, R121). -/
structure Errored where
  car : Nat
  errs : Nat
  total : Nat
  deriving DecidableEq, Repr

/-- Which way something changes, or which of two things it is, and what was received that shows it. -/
structure Shown where
  on : Bool
  ev : List Nat
  deriving DecidableEq, Repr

/-- Whether an analyser gains its pattern, and the bits received (R396). -/
structure PrbsShown where
  gain : Bool
  bits : List Bool
  deriving DecidableEq, Repr

/-- A mate lane, the alignment blocks of its last superframes, and the data blocks of the last with a wrong header (R239). -/
structure MlBlocks where
  lane : Bool
  blocks : List (BitVec 66)
  bad : Nat
  deriving DecidableEq, Repr

/-- A mate lane, the block at which the alignment block recurs, and the data headers found right after it (R239). -/
structure MlAgain where
  lane : Bool
  again : BitVec 66
  heads : Nat
  deriving DecidableEq, Repr

/-- One page of the connection memory (R68): only items other than the empty ones of R66 are listed. -/
structure Page where
  ho : SMap Word64
  lo : SMap Word64
  ds0 : SMap Word64
  /-- Carrier records (R110), those other than the unconfigured record. -/
  car : SMap (BitVec 128)
  /-- Quiesce map: bit p is FP p. -/
  quiesce : BitVec 256
  epoch : Word64
  deriving DecidableEq, Repr

/-- A page created from nothing (R66). -/
def Page.empty : Page := { ho := [], lo := [], ds0 := [], car := [], quiesce := 0, epoch := 0 }

/-- The physical schedule that the route solver derives from a page (R46, R53): for each leg of the high-order fabric and of
the low-order groomer, 512 × the item it reads + the port it leaves by, and its middle-stage slot. A leg's key is 4 × egress index + 0 for SRC_A, 1 for SRC_B
and, in the high order, 2 for the internal leg of a groom position (R50). -/
structure Schedule where
  ho : SMap (Nat × Nat) := []
  lo : SMap (Nat × Nat) := []
  deriving DecidableEq, Repr

/-- A scheduled commit as the mirrored staged page carries it (R94, R278): its COMMIT_ID, the target asked for and the one
aimed at, flag, retries, part, and the member whose host issued it. -/
structure SealedCommit where
  id : Word32
  first : Nat
  target : Nat
  flag : CommitFlag
  retries : Nat
  part : Nat
  nParts : Nat
  slice : Nat
  unit : Bool
  deriving DecidableEq, Repr

/-- A change to the staged page, as mirrored on the STAGED channel (R242, R274): its content, or its state (R94, R278). -/
inductive StagedWrite where
  | entry (t : Tier) (i : Nat) (w : Word64)
  | carrier (c : Nat) (r : BitVec 128)
  | quiesce (p : Nat) (on : Bool)
  | clearTier (t : Tier)
  | discard
  | sealed (c : SealedCommit)
  | opened
  deriving DecidableEq, Repr

/-- The configuration of a lane (LANE_CONFIG CONFIGURE, R327, R328). Lists of bytes: [] stands for all zero. -/
structure LaneCfg where
  mode : Byte
  /-- Byte 3 of ARGS: RX_INV, TX_INV, TX_DISABLE, FEC_ON, AIS_ON_TIM, VBL_ID_ENFORCE, TIM_EN. -/
  flags : Byte
  /-- Byte 4 of ARGS: J0 format and TTI comparison. -/
  j0 : Byte
  sfExp : Byte
  sdExp : Byte
  test : Byte
  amp : BitVec 10
  shelfTag : Word32
  cardId : Word32
  txTrace : Bytes
  expTrace : Bytes
  slotMap : Bytes
  pmTti : Bytes
  pmTribs : Bytes
  deriving DecidableEq, Repr

/-- A lane in DISABLED with the defaults of R132, R152, R162 and R168. -/
def LaneCfg.disabled : LaneCfg :=
  { mode := 0, flags := 0x08, j0 := 0, sfExp := 3, sdExp := 6, test := 0, amp := 0, shelfTag := 0, cardId := 0,
    txTrace := [], expTrace := [], slotMap := [], pmTti := [], pmTribs := [] }

/-- What an external fabric port is bound to (R39). -/
inductive PortUse where
  | unbound
  | lane (l : Nat) (base : Nat)
  | monitor
  deriving DecidableEq, Repr

/-- J1 trace setting of a fabric port (R159, PORT_CONFIG TRACE). -/
structure TraceCfg where
  long : Bool
  pfx : Bytes
  deriving DecidableEq, Repr

/-- A linear APS group (R197). -/
structure LinearCfg where
  oneToN : Bool
  n : Nat
  bidir : Bool
  revertive : Bool
  extra : Bool
  sdEn : Bool
  holdOff : Nat
  wtr : Nat
  prot : Nat
  work : List Nat
  deriving DecidableEq, Repr

/-- A two-fibre ring (R199). -/
structure RingCfg where
  east : Nat
  west : Nat
  node : Nat
  map : List Nat
  extra : Bool
  holdOff : Nat
  wtr : Nat
  squelch : Bytes
  deriving DecidableEq, Repr

/-- The objects PROT_COMMAND can name (R333). -/
inductive ProtObj where
  | sel (t : Tier) (i : Nat)
  | linear (g : Nat)
  | ring (r : Nat)
  | lane (l : Nat)
  deriving DecidableEq, Repr

/-- An external command held by an object (R192): the request code of R191, and its channel or side. -/
structure ExtHeld where
  req : Byte
  chan : Nat
  deriving DecidableEq, Repr

/-- The setting of a PRBS unit (R336, R395). -/
structure PrbsCfg where
  gen : Bool
  ana : Bool
  pattern : Nat
  inv : Bool
  tier : Tier
  idx : Nat
  deriving DecidableEq, Repr

/-- The setting of a tap (R336, R391). -/
structure TapCfg where
  output : Bool
  tier : Tier
  idx : Nat
  fp : Nat
  first : Nat
  slots : Nat
  deriving DecidableEq, Repr

/-- The twin configuration, with the defaults of R236. -/
structure TwinCfg where
  unit : Bool := false
  slice : Nat := 0
  ghaEn : Bool := true
  ghbEn : Bool := true
  ttl : Nat := 50
  deriving DecidableEq, Repr

/-- The group configuration (R270). -/
structure GroupCfg where
  gid : Word32
  slices : Nat
  deriving DecidableEq, Repr

/-- The state of a power domain (R421). -/
inductive DomState where
  | off | on | retain
  deriving DecidableEq, Repr

/-- Everything the journal's configuration records hold (R431). -/
structure Cfg where
  lanes : SMap LaneCfg
  ports : SMap PortUse
  traces : SMap TraceCfg
  /-- Normal remap versions: key 192 p + S, entries other than the identity (R194). -/
  remap : SMap Word64
  linear : SMap LinearCfg
  rings : SMap RingCfg
  /-- FLIP_LIMIT and TRUST_DELAY per lane (R181), where not the defaults. -/
  distrust : SMap (Nat × Nat)
  /-- SNCP profiles other than the default record (R189). -/
  profiles : SMap Word64
  /-- External commands held, by object key (R192). -/
  ext : SMap ExtHeld
  /-- Reference slot records other than the default (R207). -/
  slots : SMap (BitVec 128)
  /-- Block-wide timing settings: bytes 8 to 20 of ARGS (R334). -/
  block : BitVec 104
  lockouts : List Nat
  forcedSlot : Option Nat
  forceHold : Bool
  forceFree : Bool
  /-- PM export selection per class (R177). -/
  pmExport : SMap Byte
  /-- Expected traces by object key: byte 2 of ARGS and the 64 bytes (R162). -/
  expTrace : SMap (Byte × Bytes)
  /-- POWER_DOMAIN states that are not off (R421). -/
  domains : SMap DomState
  twin : Option TwinCfg
  group : Option GroupCfg
  /-- CONFIG_EPOCH (R271). -/
  epoch : Word64
  deriving DecidableEq, Repr

/-- The block settings of R209 at their defaults: option 1, G.8262, QL_MODE on, CONFLICT 2.0 ppm, SLOPE_LIMIT
7.5 µs/s, SEC (code 0xB of G.781 option 1, PRESUMED) as HOLDOVER_QL and SOFT_QL. -/
def Cfg.defaultBlock : BitVec 104 := 0x0000000000004B1400BB06#104

/-- The configuration after a cold reset with nothing to restore. -/
def Cfg.initial : Cfg :=
  { lanes := [], ports := [], traces := [], remap := [], linear := [], rings := [], distrust := [], profiles := [],
    ext := [], slots := [], block := Cfg.defaultBlock, lockouts := [], forcedSlot := none, forceHold := false,
    forceFree := false, pmExport := [], expTrace := [], domains := [], twin := none, group := none, epoch := 0 }

/-- A change that takes effect at a scheduled moment (R190, R193, R323, R341, R395), or that the mate or the
Bellwether mirrors (R243, R274). -/
inductive Effect where
  | lane (l : Nat) (c : LaneCfg)
  | bind (base : Nat) (l : Nat)
  | monitor (fp : Nat)
  | unbind (fp : Nat)
  | trace (fp : Nat) (t : TraceCfg)
  | linear (g : Nat) (c : LinearCfg)
  | ring (r : Nat) (c : RingCfg)
  | remap (fp : Nat) (entries : List Word64)
  | distrust (l : Nat) (limit : Nat) (delay : Nat)
  | delLinear (g : Nat)
  | delRing (r : Nat)
  | profile (p : Nat) (r : Word64)
  | ext (o : ProtObj) (req : Byte) (chan : Nat)
  | prbs (u : Nat) (c : Option PrbsCfg) (clear : Bool)
  | tod (sec : FN) (ns : Word32)
  deriving DecidableEq, Repr

/-- An audit record (R388) as the log holds it. -/
structure Audit where
  seq : Nat
  kind : Nat
  origin : Nat
  slice : Nat
  unit : Bool
  part : Nat
  parts : Nat
  fn : FN
  opcode : Byte
  epoch : Word64
  data : Word64
  deriving DecidableEq, Repr

/-- The kinds of journal record (R431). -/
inductive JKind where
  | commit | config | membership | update
  deriving DecidableEq, Repr

/-- A journal record: its format is internal (R431), so the model holds what a restore needs of it. -/
structure JRecord where
  seq : Nat
  kind : JKind
  crcOk : Bool
  macOk : Bool
  page : Option Page
  fp : Word64
  cfg : Cfg
  member : Bool
  audits : List Audit
  /-- Journal space taken, in bytes (R432). -/
  size : Nat
  deriving DecidableEq, Repr

/-- A snapshot of the live state (R433). -/
structure Snapshot where
  seq : Nat
  closed : Bool
  macOk : Bool
  page : Page
  fp : Word64
  cfg : Cfg
  member : Bool
  audits : List Audit
  /-- In a mate's or a member's image, the changes that make the sender's staged page of its live one, oldest first (R262); a
  snapshot of the journal has none. -/
  staged : List StagedWrite := []
  deriving DecidableEq, Repr

/-- A position at which the search of a VBL lane finds its word (R150): the word as it came a frame later, the uncorrectable codewords
of row 0 in that frame, and its header, bytes 16 to 107. -/
structure VblCand where
  pos : Nat
  word : Bytes
  uncorr : Nat
  header : Bytes
  deriving DecidableEq, Repr

/-- What an aligned receiver of a VBL lane found: the alignment words of successive frames, and their uncorrectable codewords. -/
structure VblSeen where
  words : List Bytes
  uncorr : List Nat
  deriving DecidableEq, Repr

/-- A write of DB_IRQ: whether it is a 32-bit access aligned to its register, and the value. -/
structure IrqWrite where
  aligned32 : Bool
  value : Word32
  deriving DecidableEq, Repr

/-- A port of the group ring, and the code groups it received. -/
structure PortCodes where
  west : Bool
  codes : List (BitVec 10)
  deriving DecidableEq, Repr

/-- The supply rises or falls, with the address pins A0 to A2 at that time. -/
structure SupplyEdge where
  rising : Bool
  pins : BitVec 3
  deriving DecidableEq, Repr

/-- The three rings (R292). -/
inductive RingId where
  | cmd | cpl | evt
  deriving DecidableEq, Repr

/-- Power domains, memories and words that an ECC finding can name (R381, R382). -/
inductive MemRef where
  | mbCore (b : Nat)
  | mbDma (b : Nat) (ch : Nat)
  | engineData (e : Nat)
  | bankFetch (cluster : Nat) (engine : Nat) (addr : Nat)
  | bankScrub (cluster : Nat) (addr : Nat)
  | spareBank (cluster : Nat)
  | liveEntry (t : Tier) (i : Nat)
  | liveCarrier (c : Nat)
  | liveQuiesce (p : Nat)
  | schedule
  | dmaBuffer (ch : Nat)
  deriving DecidableEq, Repr

/-- How a PMBus transaction came in: with no PEC, a correct one or a wrong one. -/
inductive Pec where
  | absent | correct | wrong
  deriving DecidableEq, Repr

/-- What makes the host's link unavailable (R305). -/
inductive LinkLoss where
  | busMaster | d3hot | down
  deriving DecidableEq, Repr

/-- What MSIX_UNMASK does: unmask the vector, or write the function's mask and enable (R313, R482). -/
inductive MsixOp where
  | vector | function | enable
  deriving DecidableEq, Repr

/-- One second's measurement of a monitored object (R171): blocks and errored blocks, the far end's counts as they came (a value, and in
how many blocks), and the EXTRA counts of R176. The defects of the second stand in the state. -/
structure PmMeas where
  cls : Nat
  obj : Nat
  monitored : Bool
  nearBlocks : Nat
  nearErrs : Nat
  far : List (Nat × Nat)
  extraA : Nat
  extraB : Nat
  deriving DecidableEq, Repr

/-- The two reset pins' and four power-fail sources' identities. -/
inductive PfwSource where
  | pin | vin
  deriving DecidableEq, Repr

/-- The commands and happenings of the module, one per row of the table. The operand of a host command is its
command entry; of a register access its offset and value; of a received message its bytes as received; of a
happening of the signals or the environment what the receiver or the sensor found. -/
inductive Instr where
  -- commands of the command ring (R318)
  | nop (c : CmdEntry)
  | queryState (c : CmdEntry)
  | setMode (c : CmdEntry)
  | reset (c : CmdEntry)
  | laneConfigConfigure (c : CmdEntry)
  | vblSend (c : CmdEntry)
  | vblRxBuffer (c : CmdEntry)
  | portConfigBind (c : CmdEntry)
  | portConfigMonitor (c : CmdEntry)
  | portConfigUnbind (c : CmdEntry)
  | portConfigQuiesce (c : CmdEntry)
  | portConfigTrace (c : CmdEntry)
  | carrierConfig (c : CmdEntry)
  | connStage (c : CmdEntry)
  | connStageBulk (c : CmdEntry)
  | connCommit (c : CmdEntry)
  | connAbort (c : CmdEntry)
  | connReadback (c : CmdEntry)
  | routeCheck (c : CmdEntry)
  | protConfigLinearGroup (c : CmdEntry)
  | protConfigRing (c : CmdEntry)
  | protConfigRemap (c : CmdEntry)
  | protConfigVblDistrust (c : CmdEntry)
  | protConfigDelete (c : CmdEntry)
  | protCommand (c : CmdEntry)
  | sncpProfile (c : CmdEntry)
  | sncpProfileRead (c : CmdEntry)
  | timingConfigSlot (c : CmdEntry)
  | timingConfigBlock (c : CmdEntry)
  | timingStatus (c : CmdEntry)
  | timingLockout (c : CmdEntry)
  | timingClearLockout (c : CmdEntry)
  | timingForce (c : CmdEntry)
  | timingClearForce (c : CmdEntry)
  | clearWtr (c : CmdEntry)
  | historyClear (c : CmdEntry)
  | forceHoldover (c : CmdEntry)
  | forceFreeRun (c : CmdEntry)
  | forceClear (c : CmdEntry)
  | softEnter (c : CmdEntry)
  | softWord (c : CmdEntry)
  | softExit (c : CmdEntry)
  | pmConfigExport (c : CmdEntry)
  | pmConfigPostBuffer (c : CmdEntry)
  | pmConfigExpectedTrace (c : CmdEntry)
  | pmConfigWithdraw (c : CmdEntry)
  | pmRead (c : CmdEntry)
  | tapConfig (c : CmdEntry)
  | prbsConfig (c : CmdEntry)
  | auditRead (c : CmdEntry)
  | twinConfig (c : CmdEntry)
  | groupConfig (c : CmdEntry)
  | gatehouseKey (c : CmdEntry)
  | imageBegin (c : CmdEntry)
  | imageChunk (c : CmdEntry)
  | imageVerify (c : CmdEntry)
  | imageActivate (c : CmdEntry)
  | imageConfirm (c : CmdEntry)
  | imageReject (c : CmdEntry)
  | journalStatus (c : CmdEntry)
  | journalCompact (c : CmdEntry)
  | powerDomain (c : CmdEntry)
  | todSet (c : CmdEntry)
  -- rings (R298 to R307)
  | commandFetch
  | cmdPhaseTimeout
  | waitingCommandDone (i : Nat)
  | completionWrite
  | eventWrite
  | hostSlow
  | dbCmd (aligned32 : Bool) (v : Word32) (mem : List Host.Cell)
  | dbCpl (aligned32 : Bool) (v : Word32)
  | dbEvt (aligned32 : Bool) (v : Word32)
  | dbIrqRearm (x : IrqWrite)
  -- set-up window (R290, R475 to R482)
  | topSetupLock (v : Word32)
  | ringEnable (r : RingId) (v : Word32)
  | ringDisable (r : RingId) (v : Word32)
  | lowHalfRead (off : Nat)
  | setupBadAccess (write : Bool) (off : Nat) (size : Nat)
  | registerWrite (off : Nat) (v : Word32)
  | ovfClear (v : Word32)
  | countClear (v : Word32)
  | pmcCtrlWrite (n : Nat) (k : Nat) (v : Word32)
  -- DMA (R355 to R368)
  | dmaGo (ch : Nat) (v : Word32)
  | dmaPause (ch : Nat) (v : Word32)
  | dmaResume (ch : Nat) (v : Word32)
  | dmaStop (ch : Nat) (v : Word32)
  | dmaPaceEvent (ch : Nat)
  | dmaBurstDone (ch : Nat)
  | dmaBurstRetry (ch : Nat) (cause : Nat)
  | dmaWithdrawn (ch : Nat)
  | msixUnmask (op : MsixOp)
  | perstN (low : Bool)
  | linkUnavailable (why : LinkLoss)
  | linkRestored (why : LinkLoss)
  | busTimeout (target : Nat) (master : Nat)
  | busDrainDone (master : Nat)
  -- frames and selectors
  | frameStart
  | holdOffExpiry (t : Tier) (i : Nat) (l : Leg)
  | wtrExpiry (t : Tier) (i : Nat)
  -- commits
  | routeSolveDone
  | readinessPoint
  | finalPoint
  | commitSwap
  | journalRecordClose
  | prepareDeadline
  | prepareRx (slice : Nat) (unit : Bool) (m : Bytes)
  | readyRx (slice : Nat) (unit : Bool) (m : Bytes)
  | readyDeadline
  | commitRx (slice : Nat) (unit : Bool) (m : Bytes)
  | ackRx (slice : Nat) (unit : Bool) (m : Bytes)
  | ackDeadline
  | abortRx (slice : Nat) (unit : Bool) (m : Bytes)
  | refuseRx (slice : Nat) (unit : Bool) (m : Bytes)
  -- group
  | groupRecordRx (slice : Nat) (unit : Bool) (sliceCount : Nat) (m : Bytes)
  | groupRecordLapse (slice : Nat) (unit : Bool)
  | bellwetherChange
  | groupPacketRx (west : Bool) (m : Bytes)
  | groupConfigPacketRx (fn : FN) (e : Effect)
  | groupStagedRx (ws : List StagedWrite)
  | catchup (slice : Nat) (unit : Bool) (fromSeq : Nat)
  | groupJournalRx (snap : Option Snapshot) (recs : List JRecord)
  | groupLinkDown (x : PortCodes)
  | pageRestore
  -- twin pair
  | mateHeaderRx (lane : Bool) (m : Bytes)
  | mateLinkUp
  | mateLinkDown (lane : Bool) (why : Nat)
  | mlLof (lane : Bool)
  | relayGrant (port : Bool) (anchor : FN) (m : Bytes)
  | released (epoch : Word32) (fn : FN)
  | retransmit (chan : Nat) (first : Nat) (count : Nat)
  | mateCommandRx (fn : FN) (e : Effect)
  | mateRecordRx (m : Bytes)
  | mateJournalRx (seq : Nat) (r : JRecord)
  | mateStagedRx (seq : Nat) (ws : List StagedWrite)
  | mateBulkRx (last : Bool) (tag : Nat) (img : Snapshot)
  | mirrorGapTimeout (chan : Nat)
  | resyncInstall
  | mateAlignStep
  | grantRx (port : Bool) (m : Bytes)
  | roleTakeEffect
  | leaseEnd
  | grantTtlExpiry (port : Bool)
  | keyOverlapExpiry (port : Bool)
  | forcedTakeover
  -- VBL lanes
  | vblHeaderRx (lane : Nat) (m : Bytes)
  | trustRestore (lane : Nat)
  | distrustRepeat (lane : Nat)
  | vblMessageRx (lane : Nat) (m : Bytes)
  | vblFrameVerify (lane : Nat) (cands : List VblCand)
  | vblOof (lane : Nat) (x : VblSeen)
  | vblDefectChange (lane : Nat) (bit : Nat) (on : Bool)
  -- SONET/SDH and OTN lanes
  | laneFrameVerify (obj : Nat) (cands : List Nat)
  | laneOof (obj : Nat)
  | laneFalseLockExit (x : Watched)
  | laneTieTimeout (obj : Nat) (b1 : List (Nat × Nat))
  | laneReadmission (obj : Nat)
  | laneDefectChange (cls : Nat) (obj : Nat) (bit : Nat) (on : Bool) (info : Bytes)
  | pathDefectChange (cls : Nat) (obj : Nat) (bit : Nat) (on : Bool) (info : Bytes)
  | berDeclare (cls : Nat) (obj : Nat) (n : Nat) (on : Bool)
  | kbyteAccept (lane : Nat) (k : BitVec 13)
  | psbf (lane : Nat)
  | kstorm (lane : Nat) (on : Bool)
  | fop (ring : Bool) (g : Nat) (on : Bool)
  | apsSwitch (ring : Bool) (g : Nat) (st : Nat)
  -- carriers
  | carrierAlignVerify (car : Nat) (cands : List (Nat × Bytes))
  | carrierTieTimeout (car : Nat) (left : List Nat)
  | carrierFalseLockExit (x : Errored)
  | carrierBarLapse (car : Nat)
  | carrierInterworkFallback (car : Nat)
  | carrierDefectChange (car : Nat) (bit : Nat) (x : Shown)
  | carrierSlip (car : Nat) (delete : Bool)
  | sigHoldExpiry (car : Nat)
  -- reporting and performance monitoring
  | defectEventPeriod
  | pmSecondFinal (cls : Nat) (obj : Nat)
  | pmBinClose (cls : Nat) (obj : Nat) (day : Bool)
  | pmBufferTimeout
  -- synchronisation
  | selectionTick
  | refFailureCondition (slot : Nat) (bit : Nat) (on : Bool)
  | refHoldOffExpiry (slot : Nat)
  | refWtrExpiry (slot : Nat)
  | acqFail
  | dpllLocked
  | ssmTimeout (slot : Nat)
  | ssmAccept (slot : Nat) (code : BitVec 4)
  | freqMonitorUpdate (slot : Nat) (freq : Int)
  | refConflict (a : Nat) (b : Nat)
  -- Belvedere
  | counterGather
  | fpBackgroundCheck (found : Word64)
  | prbsSyncChange (u : Nat) (x : PrbsShown)
  -- engines and memories
  | engineOverrun (e : Nat)
  | bankSwitch (n : Nat)
  | bankReadyTimeout (n : Nat)
  | eccUncorrectable (w : MemRef)
  | scrubCorrection (w : MemRef)
  | bankRepairDone (n : Nat)
  | liveItemRewrite (w : MemRef)
  | domainOnDone (d : Nat)
  | domainFault (d : Nat)
  -- journal and update
  | debugResponse (vendorKey : Bytes) (vendorSig : Bytes) (custKey : Bytes) (custSig : Bytes)
  -- resets
  | powerOn (x : SupplyEdge)
  | railFault (pd : Option Nat)
  | coldPin (low : Bool)
  | warmPin (low : Bool)
  | thermalTripClear (tenths : Int)
  | thermalWarn (tenths : Int)
  | trimLoadRetry (copyOk : Bool)
  | xoCheckRetry (ok : Bool)
  | powerFailWarning (src : PfwSource)
  | vbakCheck (millivolts : Nat)
  -- I2C and PMBus
  | clearFaults (pec : Pec)
  | capability (pec : Pec)
  | statusWord (pec : Pec)
  | statusInput (pec : Pec)
  | statusTemperature (pec : Pec)
  | statusCml (pec : Pec)
  | statusMfrSpecific (pec : Pec)
  | readVin (pec : Pec)
  | readIin (pec : Pec)
  | readTemperature1 (pec : Pec)
  | readPin (pec : Pec)
  | pmbusRevision (pec : Pec)
  | mfrId (pec : Pec)
  | mfrModel (pec : Pec)
  | mfrRevision (pec : Pec)
  | mfrSerial (pec : Pec)
  | mfrModuleState (pec : Pec)
  | mfrReset (pec : Pec) (key : Word32)
  | mfrResetHistory (pec : Pec)
  | mfrReadVbak (pec : Pec)
  | i2cInvalidCommand (badData : Bool)
  -- rows the table lists last
  | mlOof (x : MlBlocks)
  | mlFrameVerify (x : MlAgain)
  | codeGroupAlignment (x : PortCodes)
  | timingAlignmentChange (err : Int)
  | carrierLossOfAlignment (x : Watched)
  | multiframeAlignment (car : Nat) (x : Shown)
  | vblBarLapse (lane : Nat)
  | sensorFault (sensor : Nat) (tenths : Int)
  | vinOvervoltage (millivolts : Nat)
  | pmSecondEnd (ms : List PmMeas)
  -- happenings without operands: the journal, field update and the debug port, resets
  | compactionStart
  | compactionDone
  | journalFault
  | managementHandover
  | handoverTimeout
  | microcodeSwitch
  | imageSelfConfirm
  | trialDeadline
  | debugChallenge
  | debugReset
  | clockFault
  | ganderWarm
  | ganderKick
  | ganderCold
  | thermal
  | coldRelease
  | warmRelease
  | optionLoadRetry
  | safeRestartEntry
  | pfwClear
  deriving DecidableEq, Repr

end Sys2Proof
end

