-- ==== Sys2Proof/Decode.lean ====
section
/-! DEFINITION. The decoder the host asks for. The table of operations and events gives no row any bits: a command reaches the
module as an entry of the command ring or as an access, and a happening has no encoding at all. So no word spells a
command. -/
namespace Sys2Proof

/-- The command that a word spells by the table's bits: none, since no row has bits. -/
def decodeTableWord (_nbits _w : Nat) : Option Instr := none

end Sys2Proof
end

