-- ==== Sys2Proof/Config.lean ====
section
/-! DEFINITION. What the manual leaves open, as constants without a body: no proof can see a value of one, so a
statement that mentions one holds whatever it is. Each is named in the assumption log. -/
namespace Sys2Proof.Config

/-- The security block's random source (R246, R452, R454): 32 bytes per draw, undetermined. -/
opaque random : Nat → Bytes

/-- Bursts of a DMA transfer that are begun and unanswered when PAUSE or STOP reaches the channel (R365, R366): the
manual bounds them by 16 (R355) and fixes no number. -/
opaque dmaBegun : Nat → Nat

/-- A byte that the DMA engine reads through an alias window (R356): the content of the memory it aliases. -/
opaque busByte : Nat → Nat → Byte

/-- Middle-stage slot that a solution gives a leg of a fabric (0 high order, 1 low order), from the live schedule and the
page (R49, R51, R53), where the slots so given pass the check: which ones the solver takes is internal. -/
opaque middleSlot : Nat → Schedule → Page → Nat → Nat

/-- How many exponents above the least one that holds a reading its LINEAR11 word uses, and whether it is rounded up (R314): the
manual fixes neither exponent nor rounding. -/
opaque linearExp : Int → Nat
opaque linearUp : Int → Bool

/-- Kind of a host-memory failure, by draw: 0 completer abort, 1 unsupported request, 2 poisoned completion, 3 completion timeout
(R304). -/
opaque hostFailure : Nat → Nat

/-- MFR_REVISION text of a silicon revision and an image version (R315): the manual says only that it is ASCII. -/
opaque revisionText : Word16 → Word32 → Bytes

/-- Journal space of a closing record, or of another record, in units of 16 bytes (R432): internal, and bounded. -/
opaque recordUnits : Nat → Nat

/-- Journal fill of a compaction's result, in bytes (R433): internal. -/
opaque compactedBytes : Nat → Nat

/-- Present output frequency of the DPLL while it tracks, in 0.001 ppb (R219): follows the reference, within the range of R221. -/
opaque trackedFreq : Nat → Int

/-- Offset of XO_IN from nominal in 0.001 ppb, by draw (R219): a property of the oscillator. -/
opaque xoFreq : Nat → Int

/-- Phase difference between the input and the output of the DPLL when the loop takes an input up, in 0.1 ps, by draw (R223): a
property of the signals. -/
opaque phaseStep : Nat → Int

/-- Phase that the loop absorbs in a frame, in 0.1 ps, at a bandwidth in mHz from a difference (R222, R223), within what R223 says of it:
the manual gives the bandwidth and a bound on the damping, not the loop. -/
opaque loopStep : Nat → Int → Int

/-- Damping factor of the loop at a bandwidth, in hundredths (R222): the manual bounds it. -/
opaque damping : Nat → Nat

/-- Input current in milliamperes, for the readings of R315. -/
opaque inputPower : Nat → Nat

/-- A counter of R400 or R401 that counts happenings below the model's grain: its increment between two gathers. -/
opaque counted : Nat → Nat → Nat

/-- Arrival of the mate's alignment block on a lane (0 ML0, 1 ML1) in a superframe of this unit, from the superframe's first
frame, in 100 ps (R244): a property of the link and of both units' phases. -/
opaque mateArrival : Nat → Nat → Nat

/-- Payload of an internal message between modules (R242, R243, R274): the format is internal. -/
opaque internalPayload : Nat → Bytes

/-- Payloads of internal formats, by their content (R242, R274): an image or a catch-up, and a closed journal record. -/
opaque imagePayload : Option Snapshot → List JRecord → Bytes
opaque recordPayload : JRecord → Bytes

/-- A byte of the packet stream that a mate lane (0 ML0, 1 ML1) brings in the superframe beginning in frame FN, by its place
(R241). -/
opaque mateByte : Nat → Nat → Nat → Byte

/-- A newly generated device identity key pair's public part, 96 bytes (R452, R455). -/
opaque newIdentity : Nat → Bytes

/-- A byte of the payload received on an object (2^24 × class + index, class 8 being lane-side slot 192 × FP + S) in frame FN, by its
place in the frame: what the line brings is outside the manual. -/
opaque payload : Nat → Nat → Nat → Byte

/-- A byte that a lane brings in frame FN, by its place in the frame: what a facility loopback sends back (R131), and what a VBL receiver
descrambles and decodes (R138, R139). -/
opaque lineByte : Nat → Nat → Nat → Byte

/-- Byte of the stream that an OPU2e carries for an object, by its place (R132): the OPU is faster than its OC-192, and the manual does
not say what fills the rest. -/
opaque otu2eByte : Nat → Nat → Byte

/-- Lane-side slot 192 × FP + S shows a concatenation indication in frame FN (R146, R194). -/
opaque lineConc : Nat → Nat → Bool

/-- The octet and the ABCD received in a DS0 index in carrier frame FN. -/
opaque octet : Nat → Nat → Byte
opaque abcd : Nat → Nat → BitVec 4

/-- Parity errors received on an object in frame FN. -/
opaque rxErrors : Nat → Nat → Nat

/-- J0 of an OC-192 or OC-768 that the module sends inside an ODU (R158): LANE_CONFIG sets the TTI of such a lane, and the manual
gives its client no trace. -/
opaque clientJ0 : Nat → Byte

/-- What an egress pointer generator's elastic store asks for in frame FN, by selector key: 1 a positive justification, 2 a
negative one, else none (R109): it follows the rate of the source. -/
opaque storeAsks : Nat → Nat → Nat

/-- Pointer value at which a generator takes a source up in frame FN (R62, R109): the source's phase. -/
opaque pointerStart : Nat → Nat → Nat

/-- A leg, by its egress GS, is one that an uncorrectable error of the live schedule concerns (R382). -/
opaque legHit : Nat → Bool

/-- After a fault, the blocks of the flash that remain cannot hold a snapshot and the records that follow (R434). -/
opaque blocksShort : Nat → Bool

/-- Bytes of a snapshot, by draw (R433): its format is internal. -/
opaque snapshotBytes : Nat → Nat

/-- What the register bridge has at an address of T5 (R346): 0 nothing, 1 a window that the host's requests reach, otherwise a register
of the module's own. -/
opaque bridgeHolds : Nat → Nat

end Sys2Proof.Config
end

