-- ==== Sys2Proof/Machine/Bits.lean ====
section
/-! DEFINITION. Bit fields, byte strings and sparse tables: the shared helpers every other file of the machine uses. -/
namespace Sys2Proof.Machine

/-- The `w` bits of `x` from bit `off` up, as a number. -/
def fld {n : Nat} (x : BitVec n) (off w : Nat) : Nat := (x.extractLsb' off w).toNat

/-- Bit `i` of `x`. -/
def bit {n : Nat} (x : BitVec n) (i : Nat) : Bool := x.getLsbD i

/-- The word with the bits [off + w - 1 : off] set. -/
def ones (n off w : Nat) : BitVec n := BitVec.ofNat n ((2 ^ w - 1) * 2 ^ off)

/-- `v` placed at bit `off` of a word of `n` bits. -/
def place (n off : Nat) (v : Nat) : BitVec n := BitVec.ofNat n (v * 2 ^ off)

/-- A Bool as a number. -/
def nat01 (b : Bool) : Nat := if b then 1 else 0

/-- Set or clear bit `i`. -/
def putBit {n : Nat} (x : BitVec n) (i : Nat) (on : Bool) : BitVec n :=
  if on then x ||| place n i 1 else x &&& ~~~(place n i 1)

/-- Byte `i` of a string, zero beyond its end. -/
def byteAt (bs : Bytes) (i : Nat) : Byte := bs.getD i 0

/-- `n` bytes from `off`. -/
def slice (bs : Bytes) (off n : Nat) : Bytes := (List.range n).map fun i => byteAt bs (off + i)

/-- A number from bytes, least significant first (R8). -/
def fromLE : Bytes → Nat
  | [] => 0
  | b :: bs => b.toNat + 256 * fromLE bs

/-- A number from bytes, most significant first (R136, R237, R245, R273). -/
def fromBE (bs : Bytes) : Nat := fromLE bs.reverse

/-- The `n` low bytes of a number, least significant first. -/
def toLE : Nat → Nat → Bytes
  | 0, _ => []
  | n + 1, v => BitVec.ofNat 8 v :: toLE n (v / 256)

/-- The `n` low bytes of a number, most significant first. -/
def toBE (n v : Nat) : Bytes := (toLE n v).reverse

/-- The little-endian field of `n` bytes at `off`. -/
def le (bs : Bytes) (off n : Nat) : Nat := fromLE (slice bs off n)

/-- The big-endian field of `n` bytes at `off`. -/
def be (bs : Bytes) (off n : Nat) : Nat := fromBE (slice bs off n)

/-- `n` zero bytes. -/
def zeros (n : Nat) : Bytes := List.replicate n 0

/-- Bytes cut or padded with zeros to `n`. -/
def fit (n : Nat) (bs : Bytes) : Bytes := slice bs 0 n

/-- ASCII text as bytes. -/
def ascii (t : String) : Bytes := t.toList.map fun c => BitVec.ofNat 8 c.toNat

/-- The entry of a table. -/
def tfind {α : Type} : SMap α → Nat → Option α
  | [], _ => none
  | (k', v) :: m, k => if k' = k then some v else tfind m k

/-- The entry of a table whose unlisted keys hold `d`. -/
def tget {α : Type} (d : α) (m : SMap α) (k : Nat) : α := (tfind m k).getD d

/-- Take a key out of a table. -/
def terase {α : Type} : SMap α → Nat → SMap α
  | [], _ => []
  | (k', v) :: m, k => if k' = k then terase m k else (k', v) :: terase m k

/-- Put an entry into a table, in the order of the keys. -/
def tinsert {α : Type} : SMap α → Nat → α → SMap α
  | [], k, v => [(k, v)]
  | (k', v') :: m, k, v =>
    if k < k' then (k, v) :: (k', v') :: m
    else if k = k' then (k, v) :: m
    else (k', v') :: tinsert m k v

/-- Write an entry of a table whose unlisted keys hold `d`: writing `d` takes the key out. -/
def tset {α : Type} [DecidableEq α] (d : α) (m : SMap α) (k : Nat) (v : α) : SMap α :=
  if v = d then terase m k else tinsert m k v

/-- Change an entry. -/
def tmod {α : Type} [DecidableEq α] (d : α) (m : SMap α) (k : Nat) (f : α → α) : SMap α :=
  tset d m k (f (tget d m k))

/-- Keys strictly rising from above `lo`, and no entry equal to `d`: the canonical form of a table. -/
def tableWf {α : Type} [DecidableEq α] (d : α) : Nat → SMap α → Bool
  | _, [] => true
  | lo, (k, v) :: m => decide (lo ≤ k) && decide (v ≠ d) && tableWf d (k + 1) m

/-- Consecutive keys with consecutive values, as for a run of stores. -/
def tsetRun {α : Type} [DecidableEq α] (d : α) : SMap α → Nat → List α → SMap α
  | m, _, [] => m
  | m, k, v :: vs => tsetRun d (tset d m k v) (k + 1) vs

/-- The host's memory form of Memory: what an unlisted address reads as is zero. -/
abbrev Memory := List Host.Cell

/-- Memory in canonical form: addresses strictly rising, no entry zero. -/
def Memory.wf (m : Memory) : Bool := tableWf (0 : Byte) 0 m

/-- One byte of the host's memory. -/
def memByte (m : Memory) (a : Nat) : Byte := tget 0 m a

/-- `n` bytes of the host's memory from address `a`. -/
def memBytes (m : Memory) (a n : Nat) : Bytes := (List.range n).map fun i => memByte m (a + i)

/-- Store bytes from address `a` up. -/
def memStore (m : Memory) (a : Nat) (bs : Bytes) : Memory := tsetRun 0 m a bs

end Sys2Proof.Machine
end

