-- ==== Sys2Proof/Machine/State.lean ====
section
/-! DEFINITION. The state of the PHK-2548 as plain data: one structure per part of the module, each field with the
rule that names it, and as its default the value it holds in State.reset: a module whose supply has just risen, its
POWER_ON cold reset asserted and not yet released (R404, R405, R409), and its flash, fuses and battery-backed
domain as the assumption log names them (entries 4 to 6). -/
namespace Sys2Proof.Machine

/-- Faults of the model: none. Every happening the manual gives an effect has one, and what the manual calls an error
(an error response, a halted ring, a faulted cluster) is state. The constructor stands for an address of the host's
memory above 2^64, which no descriptor can name; no meaning raises it, so it is safe. -/
inductive Fault where
  | hostAddress
  deriving DecidableEq, Repr

/-- Refusals of the model. `notModelled` names a row that has no meaning yet; no arm answers it. Safe. -/
inductive Refusal where
  | notModelled (mnemonic : String)
  deriving DecidableEq, Repr

/-- Where the reset controller stands (R404 to R410). -/
inductive RstPhase where
  | running | coldAsserted | warmAsserted | coldRelease | warmRelease
  deriving DecidableEq, Repr

/-- The drive of a GPIO pin (R414). -/
inductive GpioLevel where
  | highZ | pullUp | pullDown | low | high
  deriving DecidableEq, Repr

/-- What holds a release: the trim load (R411), an option retry (R412), XO_IN (R425) or the boot ROM (R381). -/
inductive RstHold where
  | none | trim | option | xo | rom
  deriving DecidableEq, Repr

/-- Operating mode and restart bookkeeping. -/
structure ModeSt where
  /-- Present operating mode. 4 bits. [R25] -/
  mode : Mode := .boot
  /-- SYNC_STATE of a STANDBY unit. 3 bits. [R261] -/
  sync : BitVec 3 := 0
  /-- FN of the first frame in the present mode. 48 bits. [R324] -/
  since : FN := 0
  /-- SET_MODE accepted and not yet in force: target and completion token. [R30] -/
  req : Option (Mode × Option CmdTok) := none
  /-- Mode held before the reset in progress. 4 bits. [R28] -/
  before : Mode := .boot
  /-- Mode whose outputs a warm reset keeps. 4 bits. [R32] -/
  outMode : Mode := .boot
  /-- Mode held on entry to ISOLATED. 4 bits. [R267] -/
  isoFrom : Mode := .standby
  /-- The data hierarchy carries a live page since the last mode entry, with no cold reset and no SAFE since. 1 bit. [R28] -/
  carried : Bool := false
  /-- A restart of the control hierarchy into SAFE is in progress. 1 bit. [R30] -/
  safeRestart : Bool := false
  /-- Mode named as old in the MODE_CHANGE that ends the restart, and FN of its first frame. [R26] -/
  safeFrom : Mode := .quiet
  /-- FN of the first frame of the restart into SAFE. 48 bits. [R26] -/
  safeFn : FN := 0
  deriving DecidableEq, Repr

/-- What is due at the start of a frame besides FRAME_START itself: the rows of these names, after which the frame's headers
and records are sent. -/
inductive StartStep where
  | readiness | final | swap | role | lease | takeover | restore
  deriving DecidableEq, Repr

/-- Frame number, frame clock and time of day. -/
structure ClockSt where
  /-- Frame number FN. 48 bits. [R3] -/
  fn : FN := 0
  /-- SCLK cycles for which FSYNC is high in the present frame: 8, 64 or 0. [R228] -/
  fsync : Nat := 0
  /-- TOD seconds. 48 bits. [R174] -/
  todSec : FN := 0
  /-- TOD nanoseconds. 32 bits. [R174] -/
  todNs : Word32 := 0
  /-- A step of the TOD counter scheduled with AT_FN: FN, seconds, nanoseconds. [R341] -/
  todStep : List (FN × FN × Word32) := []
  /-- TOD_SET has been executed since the last cold reset. 1 bit. [R405] -/
  todSet : Bool := false
  /-- Steps of this frame's start still to come; its sends follow the last (the model's own order). [R26, R82, R141, R275] -/
  start : List StartStep := []
  deriving DecidableEq, Repr

/-- One option copy as applied at step 3 of a release (R413). -/
structure Options where
  xoSel : BitVec 3
  pinEn : Bool
  vinEn : Bool
  pfwThresh : Nat
  pcieGen : BitVec 2
  pcieWidth : BitVec 2
  srEn : Bool
  gpioFn : SMap (BitVec 4)
  deriving DecidableEq, Repr

/-- The fused safe defaults before the fuse fields XO_SAFE and PFW_SAFE are put in (R413). -/
def Options.safe : Options :=
  { xoSel := 0, pinEn := true, vinEn := true, pfwThresh := 85, pcieGen := 0, pcieWidth := 0, srEn := false,
    gpioFn := [] }

/-- A swap made during a warm reset, whose COMMIT event, audit entry and journal record wait for mode entry (R95). -/
structure LateCommit where
  fn : FN
  epoch : Word64
  fp : Word64
  /-- Issued by this unit's host, or the member that issued it. -/
  own : Bool
  slice : Nat
  unit : Bool
  part : Nat
  nParts : Nat
  deriving DecidableEq, Repr

/-- The reset controller, the Gander watchdog and the release sequence. -/
structure ResetSt where
  /-- Reset asserted, release running, or in service. [R408] -/
  phase : RstPhase := .coldAsserted
  /-- Last step of R409 that the release has completed. [R409] -/
  step : Nat := 0
  /-- What holds the release. [R411, R412, R425, R381] -/
  hold : RstHold := .none
  /-- COLD_N is recognised low. 1 bit. [R407] -/
  coldPin : Bool := false
  /-- WARM_N is recognised low. 1 bit. [R407] -/
  warmPin : Bool := false
  /-- RECOV_N level, low is true. 1 bit. [R29, R415] -/
  recovLow : Bool := false
  /-- The thermal trip still holds the cold reset. 1 bit. [R420] -/
  thermHold : Bool := false
  /-- VIN is at or above the UVLO threshold. 1 bit. [R404] -/
  vinGood : Bool := true
  /-- Ticks of 125 µs since the release first reached step 7. [R410] -/
  relTicks : Option Nat := none
  /-- Ticks of 125 µs since the last kick of Gander. [R419] -/
  kickTicks : Nat := 0
  /-- Ticks of 125 µs since a GANDER_WARM reset was asserted, until mode entry. [R419] -/
  ganderTicks : Option Nat := none
  /-- Three consecutive option loads failed in this release. 1 bit. [R412] -/
  optFailed : Bool := false
  /-- Option values in force. [R413] -/
  opts : Options := Options.safe
  /-- The fuse map has been applied to the pins since power-on. 1 bit. [R414] -/
  fuseMap : Bool := false
  /-- Step 8 found no bootable image. 1 bit. [R447] -/
  noImage : Bool := false
  /-- JOURNAL event kind to post at mode entry: 0 none, 1 verification failed, 5 MAC failure. [R436] -/
  jFail : Nat := 0
  /-- Sequence number of the record or snapshot at which verification failed, 0 for none. [R342, R436] -/
  jFailSeq : Nat := 0
  /-- Step 10 decided to restore the journalled page. 1 bit. [R29] -/
  restore : Bool := false
  /-- Swaps made during a warm reset, oldest first. [R95, R300] -/
  lateCommits : List LateCommit := []
  /-- PRBS units whose sync changed during a reset, whose OBSERVE events wait. [R396] -/
  latePrbs : List Nat := []
  /-- VBAK_LOW is to be raised at mode entry. 1 bit. [R417] -/
  vbakLow : Bool := false
  /-- The boot ROM passes its own check. 1 bit. [R381] -/
  romOk : Bool := true
  /-- XO_IN passed its last check. 1 bit. [R425] -/
  xoOk : Bool := true
  /-- A cold reset lies between the last mode entry and the next. 1 bit. [R310, R409] -/
  coldEntry : Bool := true
  /-- A warm release has come to mode entry, which the next frame start makes. 1 bit. [R26, R409] -/
  entering : Bool := false
  /-- Levels that GPIO0 to GPIO15 hold during a warm reset. [R415] -/
  gpio : List GpioLevel := []
  deriving DecidableEq, Repr

/-- The battery-backed domain (R416). -/
structure BakSt where
  /-- RST_COUNT per cause code. 8 bits each. [R416] -/
  counts : SMap Byte := [(1, 1)]
  /-- RST_TOTAL. 32 bits. [R416] -/
  total : Word32 := 1
  /-- RST_LAST.CAUSE. 8 bits. [R416, R418] -/
  last : Byte := 1
  /-- RST_LAST.BAK_LOST. 1 bit. [R417] -/
  lost : Bool := false
  /-- A valid copy stands. 1 bit. [R416, R417] -/
  valid : Bool := true
  /-- TRIAL. 2 bits. [R416, R447] -/
  trial : BitVec 2 := 0
  /-- OPT_MARK. 1 bit. [R412] -/
  optMark : Bool := false
  /-- OPT_FAILS. 2 bits. [R412] -/
  optFails : BitVec 2 := 0
  /-- LIFECYCLE code. 3 bits. [R416, R452] -/
  lifecycle : BitVec 3 := 0
  /-- LIFECYCLE holds the internal erasing value. 1 bit. [R454] -/
  erasing : Bool := false
  deriving DecidableEq, Repr

/-- The eFuses. -/
structure FuseSt where
  /-- GPIOn_RST. 3 bits each. [R414] -/
  gpioRst : SMap (BitVec 3) := []
  /-- TX_WARM_AIS. 1 bit. [R414] -/
  txWarmAis : Bool := false
  /-- XO_SAFE. 3 bits. [R414] -/
  xoSafe : BitVec 3 := 0
  /-- PFW_SAFE. 9 bits. [R414] -/
  pfwSafe : BitVec 9 := 0
  /-- Vendor root key hash. 384 bits. [R439] -/
  rootHash : BitVec 384 := 0
  /-- Customer key hash, 0 for none fused. 384 bits. [R439, R453] -/
  custHash : BitVec 384 := 0
  /-- Anti-rollback counter, a thermometer of 63 fuses. [R450] -/
  rollback : Nat := 0
  /-- PROVISIONED fused. 1 bit. [R452] -/
  provisioned : Bool := false
  /-- FIELD fused. 1 bit. [R452] -/
  field : Bool := false
  /-- RETIRED fused. 1 bit. [R452] -/
  retired : Bool := false
  /-- Boot-ROM revision. 16 bits. [R437] -/
  romRev : Word16 := 0
  /-- Silicon revision. 16 bits. [R288, R476] -/
  silicon : Word16 := 0
  /-- Serial number, 16 ASCII characters. [R481, R315] -/
  serial : Bytes := []
  /-- A trim copy reads correctly. 1 bit. [R411] -/
  trimOk : Bool := true
  deriving DecidableEq, Repr

/-- A boot record (R430). -/
structure BootRec where
  runSlot : Bool
  trialSlot : Option Bool
  seq : Word32
  crcOk : Bool
  deriving DecidableEq, Repr

/-- The flash (R429). -/
structure FlashSt where
  /-- Option copy 0, 256 bytes, [] erased. [R413, R429] -/
  opt0 : Bytes := []
  /-- Option copy 1, 256 bytes, [] erased. [R413, R429] -/
  opt1 : Bytes := []
  /-- Boot record copy 0. [R430] -/
  boot0 : Option BootRec := none
  /-- Boot record copy 1. [R430] -/
  boot1 : Option BootRec := none
  /-- Content of slot A, up to 32 MiB. [R429] -/
  slotA : Bytes := []
  /-- Content of slot B, up to 32 MiB. [R429] -/
  slotB : Bytes := []
  /-- Journal records, oldest first. [R431] -/
  journal : List JRecord := []
  /-- Snapshot area 0. [R433] -/
  snap0 : Option Snapshot := none
  /-- Snapshot area 1. [R433] -/
  snap1 : Option Snapshot := none
  /-- Journal area in use, in bytes. [R432] -/
  used : Nat := 0
  /-- Bytes of the journal area that the newest snapshot takes, what exceeds its own area. [R433] -/
  spill : Nat := 0
  /-- The blocks that remain cannot hold a snapshot. 1 bit. [R434] -/
  noRoom : Bool := false
  /-- Journal MAC key in the sealed key store. [R452] -/
  macKey : Option Bytes := none
  /-- Device identity public key, x then y, 96 bytes. [R481] -/
  idKey : Option Bytes := none
  /-- Gatehouse key of GHA. 256 bits. [R250] -/
  keyA : Option Bytes := none
  /-- Gatehouse key of GHB. 256 bits. [R250] -/
  keyB : Option Bytes := none
  /-- Self-restore is pending re-provisioning. 1 bit. [R455] -/
  reprov : Bool := false
  /-- A cold reset has passed since the erasure. 1 bit. [R455] -/
  reprovReset : Bool := false
  /-- A record has been lost since the last completed compaction. 1 bit. [R434, R435] -/
  lostRecord : Bool := false
  deriving DecidableEq, Repr

/-- A compaction in progress (R433). -/
structure Compaction where
  /-- Sequence number s of R433: records at or before it are erased. -/
  seq : Nat
  snap : Snapshot
  deriving DecidableEq, Repr

/-- The flash controller's working state. -/
structure JournalSt where
  /-- Records that fell due and are not yet closed, held in MB3 while a warning stands. [R427] -/
  due : List JRecord := []
  /-- Sequence number of the next record. 48 bits. [R431] -/
  nextSeq : Nat := 0
  /-- A compaction is running. [R433] -/
  compaction : Option Compaction := none
  /-- The journal has faulted. 1 bit. [R434] -/
  fault : Bool := false
  /-- The journal was verified at the last release. 1 bit. [R338, R436] -/
  verified : Bool := false
  deriving DecidableEq, Repr

/-- A later part of a SPLIT series whose PREPARE has gone out before the part in progress has swapped (R283). -/
structure Ahead where
  id : Word32
  target : Nat
  participants : Byte
  readyFrom : Byte
  deriving DecidableEq, Repr

/-- A commit scheduled or in progress (R80 to R88, R279 to R283). -/
structure CommitJob where
  tok : Option CmdTok
  /-- Target BN of the whole commit. -/
  first : Nat
  /-- BN aimed at now. -/
  target : Nat
  flag : CommitFlag
  startFn : FN
  retries : Nat
  incremental : Bool
  ready : Bool
  id : Word32
  /-- Pages of the parts still to swap, the final target last. -/
  parts : List Page
  part : Nat
  nParts : Nat
  /-- BN of each swap made, first first. -/
  swapped : List Nat
  /-- A cause of R84 stands for the boundary aimed at: its status. -/
  cause : Option Byte
  announced : Bool
  /-- Issued by this unit's host. -/
  own : Bool
  slice : Nat
  unit : Bool
  stagedFp : Word64
  prepared : Bool
  sentCommit : Bool
  holdsCommit : Bool
  aborted : Bool
  /-- REFUSE has been sent and is repeated until ABORT. -/
  refused : Bool
  participants : Byte
  readyFrom : Byte
  ackFrom : Byte
  /-- Later parts that are prepared, next first, and how many are solved. -/
  ahead : List Ahead := []
  solvedAhead : Nat := 0
  deriving DecidableEq, Repr

/-- The pages, the schedule memory and the commit in progress. -/
structure PageSt where
  /-- The live page. [R68] -/
  live : Page := Page.empty
  /-- The staged page. [R68] -/
  staged : Page := { Page.empty with epoch := 1 }
  /-- State of the staged page. [R77] -/
  state : PageState := .opened
  /-- Live fingerprint. 64 bits. [R385] -/
  liveFp : Word64 := 0
  /-- Staged fingerprint. 64 bits. [R385] -/
  stagedFp : Word64 := 0
  /-- The commit scheduled. [R81] -/
  job : Option CommitJob := none
  /-- The page its last swap replaced. [R284] -/
  retained : Option Page := none
  /-- The schedule that the last swap replaced. [R284] -/
  retainedSched : Schedule := {}
  /-- FN at which the retained page was replaced. 48 bits. [R284] -/
  retainedFn : FN := 0
  /-- The idle half holds a solution of the staged page that a ROUTE_CHECK made. 1 bit. [R58] -/
  kept : Bool := false
  /-- The solver works, and the FN at which it started. [R53] -/
  solving : Option FN := none
  /-- The live half of the schedule memory. [R46, R53] -/
  sched : Schedule := {}
  /-- The idle half of the schedule memory, once a schedule is written and checked. [R53] -/
  idle : Option Schedule := none
  /-- Live items lost to an uncorrectable error and not yet rewritten. [R382] -/
  bad : List MemRef := []
  /-- Valid live entries, by selector key, and bound carriers, by 3 × 2^24 + carrier, lost with a bank that failed in service and
  not replaced by a later page. [R52] -/
  lost : List Nat := []
  /-- The live half of the schedule memory is being rebuilt. 1 bit. [R382] -/
  schedBad : Bool := false
  /-- COMMIT_ID last used. 32 bits. [R279] -/
  commitId : Word32 := 0
  /-- The announcement stands done until this FN: target FN and epoch. [R149] -/
  annDone : Option (FN × Word64) := none
  /-- ABORTs being repeated: the payload, and the FN at which it is sent last. [R281, R283] -/
  aborting : List (Bytes × FN) := []
  deriving DecidableEq, Repr

/-- A selector (R183 to R186). -/
structure SelState where
  leg : Leg := .a
  /-- Request in force, as the priority of R184. -/
  req : Nat := 9
  condA : Cond := .ok
  condB : Cond := .ok
  /-- FN in which the hold-off of leg A started. -/
  hoA : Option FN := none
  hoB : Option FN := none
  /-- FN in which WTR started. -/
  wtr : Option FN := none
  deriving DecidableEq, Repr

/-- The protocol state of a linear group or a ring (R198, R200, R203). -/
structure ApsState where
  /-- Linear: the channel that the selector takes from protection, 0 for none. Ring: 0 IDLE, 1 SWITCH_E, 2 SWITCH_W, 3
  SWITCH_EW, 4 PASS. -/
  st : Nat := 0
  /-- Linear 1:N: the channel bridged onto protection, 0 for none. Ring in SWITCH_E or SWITCH_W: one more than the node ID of the far
  switching node, by which it squelches (R201). -/
  br : Nat := 0
  /-- The selector and bridge that the protocol decides on, and since when they differ from those in force. [R202] -/
  want : Nat := 0
  wantBr : Nat := 0
  wantFn : Option FN := none
  /-- The state the protocol goes to once the normal version has been applied for one frame. -/
  next : Option (Nat × Nat) := none
  /-- First frame of that normal version. [R196] -/
  nextFn : FN := 0
  /-- Conditions that stand and since when: key 2 × channel or side, plus 1 for SD. [R197] -/
  cond : SMap FN := []
  /-- The local request: its code of G.841's K1, and its channel or side. [R198] -/
  req : Nat := 0
  chan : Nat := 0
  /-- FN in which WTR started. -/
  wtr : Option FN := none
  fop : Bool := false
  /-- FN since which the conditions of R203 have differed from what is declared. -/
  fopFn : Option FN := none
  deriving DecidableEq, Repr

/-- The distrust counter of a VBL lane (R181, R182). -/
structure Distrust where
  on : Bool := false
  forced : Bool := false
  /-- Flips in the present second. -/
  flips : Nat := 0
  /-- Consecutive seconds with at most FLIP_LIMIT / 8 flips. -/
  quiet : Nat := 0
  /-- FN at which distrust, or trust, began. -/
  since : FN := 0
  deriving DecidableEq, Repr

/-- A pointer generator of an egress position (R62, R109). -/
structure GenState where
  val : Nat := 0
  /-- Justification made in the present frame or multiframe: 0 none, 1 positive, 2 negative. -/
  just : Nat := 0
  /-- FN of the last pointer event. -/
  last : FN := 0
  deriving DecidableEq, Repr

/-- The K-byte filter of a lane (R166). -/
structure KState where
  accepted : BitVec 13 := 0
  /-- A value has been accepted since the lane was configured. -/
  got : Bool := false
  psbf : Bool := false
  kstorm : Bool := false
  /-- FNs of the accepted changes of the last 8,000 frames, the latest first. -/
  changes : List FN := []
  lastFn : FN := 0
  /-- FN since which KSTORM has stood. -/
  stormFn : FN := 0
  /-- K1 and K2 sent, K1 in the upper byte; K2 bits 6 to 8 give way to RDI-L (R158). -/
  sent : Word16 := 0
  deriving DecidableEq, Repr

/-- Selectors, protocols, remap versions and line-card bitmaps. -/
structure ProtSt where
  /-- Selectors by key 2^24 × tier + index. [R183] -/
  sel : SMap SelState := []
  /-- Linear group protocols. [R198] -/
  linear : SMap ApsState := []
  /-- Ring protocols. [R200] -/
  rings : SMap ApsState := []
  /-- Ports that apply their protect version. [R196] -/
  prot : SMap Bool := []
  /-- Protect versions: key 192 p + S, entries other than the identity. [R194] -/
  remapP : SMap Word64 := []
  /-- Distrust counters per VBL lane. [R181] -/
  distrust : SMap Distrust := []
  /-- K-byte filters per lane. [R166] -/
  kb : SMap KState := []
  /-- Filtered bitmap defects per VBL slot: key 384 L + v. [R142] -/
  bitmap : SMap Bool := []
  /-- Consecutive headers that disagree with the filtered defect: key 384 L + v. [R142] -/
  bitRun : SMap Nat := []
  /-- Lanes whose filter has to adopt each slot afresh: key 384 L + v. [R182] -/
  bitFresh : SMap Bool := []
  /-- Positions whose source changed in one of the last four frames, by selector key, and the FN of the first frame of the new
  source: their NDF. [R62, R109, R187] -/
  moved : SMap FN := []
  /-- Pointer generators, by selector key. [R109] -/
  gens : SMap GenState := []
  /-- Parity of what was last sent, by selector key: BIP-8 of a rebuilt slot's SPE, BIP-2 of a carrier's tributary, whose
  present multiframe stands 2^28 above. [R159, R160] -/
  parity : SMap Byte := []
  /-- Switches to report in the present 80-frame period: selector key, leg delivered, the request that caused the switch,
  and its FN. [R188] -/
  switched : List (Nat × Leg × Nat × FN) := []
  deriving DecidableEq, Repr

/-- What a pointer interpreter has found (R107): nothing yet, a normal pointer, AIS, loss of pointer, or a concatenation
indication (R44). -/
inductive PtrPhase where
  | unread | norm | ais | lop | conc
  deriving DecidableEq, Repr

/-- A pointer interpreter of G.783 (R44, R107): its state, and the runs of words that move it. -/
structure PtrState where
  st : PtrPhase := .unread
  /-- Pointer value in force. -/
  val : Nat := 0
  /-- Value and length of the run of identical valid pointers. -/
  cand : Nat := 0
  same : Nat := 0
  /-- Consecutive invalid, NDF-enabled, all-ones and concatenation words. -/
  inval : Nat := 0
  ndf : Nat := 0
  ones : Nat := 0
  conc : Nat := 0
  /-- Words since the last pointer event, counted to 3. -/
  since : Nat := 3
  /-- Structure shown by the last words (1 a pointer, 2 a concatenation indication), for how many in a row, and the structure that has
  stood for 3 (R44, R163). -/
  shown : Nat := 0
  run : Nat := 0
  str : Nat := 0
  deriving DecidableEq, Repr

/-- The H4 multiframe of an ingress groom position (R108). -/
structure H4State where
  phase : Nat := 0
  /-- Consecutive frames with the expected phase, and with an unexpected one. -/
  good : Nat := 0
  bad : Nat := 0
  aligned : Bool := false
  lost : Bool := false
  deriving DecidableEq, Repr

/-- Defects declared and what they feed. Object keys are 2^24 × class + object (R176). -/
structure DefectSt where
  /-- Defect sets. 64 bits each. [R343] -/
  set : SMap Word64 := []
  /-- BER declarations that stand: bit n for the threshold 10^−n. [R168, R178] -/
  ber : SMap Nat := []
  /-- Objects whose set changed in the present 80-frame period. [R170] -/
  dirty : List Nat := []
  /-- Structure settled of a groom position: key 8 GS + group for a group's size (1 VT1.5, 2 VT2, 3 VT6), 8 GS + 7 for the
  form of an AU-4 structure's TUG-3 (1 TUG-2 structured, 2 TU-3); absent unsettled. [R105] -/
  found : SMap Nat := []
  /-- Last reading of each key of `found`, and how often it has come in a row. [R105] -/
  reading : SMap (Nat × Nat) := []
  /-- Pointer interpreters of ingress slots (class 2) and ingress tributaries (class 3), by object key. [R44, R107] -/
  ptr : SMap PtrState := []
  /-- H4 multiframes of ingress groom positions. [R108] -/
  h4 : SMap H4State := []
  /-- Trace accepted last, by object key. [R162] -/
  traces : SMap Bytes := []
  deriving DecidableEq, Repr

/-- A position barred by a false-lock exit (R119, R150, R154): the FN of the exit, and whether another candidate has verified in
the time after which the position is readmitted. -/
structure Bar where
  pos : Nat
  fn : FN
  other : Bool := false
  deriving DecidableEq, Repr

/-- The receiver of a SONET/SDH or OTN signal, or of a VBL lane (R150, R154). -/
structure RxState where
  inFrame : Bool := false
  /-- Bit position held. -/
  pos : Nat := 0
  /-- Positions barred by false-lock exits. -/
  barred : List Bar := []
  /-- The position held was taken after readmission. -/
  readmitted : Bool := false
  /-- Barred positions that were readmitted and not yet left behind. -/
  lifted : List Nat := []
  /-- A server layer of the signal stood in the last frame. [R164] -/
  masked : Bool := false
  /-- Tied candidates under watch, and the FN at which they verified. -/
  tied : List Nat := []
  tiedFn : FN := 0
  ambiguous : Bool := false
  /-- FN at which the lane went out of frame, or came in frame. -/
  since : FN := 0
  deriving DecidableEq, Repr

/-- What the module last received in a VBL header (R140). -/
structure VblRx where
  hdr : Bytes := []
  /-- Consecutive CRC failures, and consecutive valid headers. -/
  bad : Nat := 0
  good : Nat := 0
  /-- Messages relayed in the present frame. -/
  relayed : Nat := 0
  /-- The parse of the present frame's block has stopped. [R144] -/
  stopped : Bool := false
  dropped : Nat := 0
  seq : Byte := 0
  /-- CARD_ID differs from the expected value, REMOTE_FAIL is set, and since how many valid headers each is so. -/
  idDiff : Bool := false
  idRun : Nat := 0
  rf : Bool := false
  rfRun : Nat := 0
  /-- Uncorrectable codewords in the present second, and in the last whole one. [R151] -/
  uncorr : Nat := 0
  uncorrLast : Nat := 0
  deriving DecidableEq, Repr

/-- A logical lane's identity in an OTL3.4 or OTL4.4 group (R156). -/
structure LlmState where
  /-- Identity accepted: LLM mod 4, or mod 20. -/
  id : Option Nat := none
  /-- Identity of the run of consistent markers, and the run. -/
  cand : Nat := 0
  run : Nat := 0
  /-- Consecutive markers inconsistent with the accepted identity. -/
  miss : Nat := 0
  deriving DecidableEq, Repr

/-- The multiframe of an OTU signal, or the OMFI of an ODU4 (R157). -/
structure MfState where
  last : Nat := 0
  good : Nat := 0
  bad : Nat := 0
  inMf : Bool := false
  /-- FN at which the multiframe was found or lost. -/
  since : FN := 0
  deriving DecidableEq, Repr

/-- Lanes. -/
structure LaneSt where
  /-- Receivers: lane, 256 + FP for the OC-192 of an ODU2 tributary port, or 1024 + 32 × lane + n for logical lane n of an
  OTL3.4 or OTL4.4 group. [R154, R156] -/
  rx : SMap RxState := []
  /-- Identities of the logical lanes of groups, key 32 × lane + logical lane. [R156] -/
  llm : SMap LlmState := []
  /-- Third byte of SM or PM as it came last, by object key: BEI or BIAE, BDI and IAE. [R161] -/
  oh3 : SMap Byte := []
  /-- Skew between the logical lanes of a group, in ns. [R134, R156] -/
  skew : SMap Nat := []
  /-- Multiframes: key 2 × lane for the OTU, 2 × lane + 1 for the ODU4's OMFI. [R157] -/
  mfas : SMap MfState := []
  /-- VBL headers received, per lane. [R140] -/
  vbl : SMap VblRx := []
  /-- VBL messages that wait for transmission, oldest first: lane, TYPE, payload. [R145, R327] -/
  txq : List (Nat × Byte × Bytes) := []
  /-- Message SEQ per VBL lane. 8 bits each. [R144] -/
  txSeq : SMap Byte := []
  /-- Parities of the last frame sent, by signal: key 1024 × object for B1, 1024 × object + 1 + i for B2 of STS-1 i. [R158] -/
  parity : SMap Byte := []
  /-- Messages whose transfer to the buffer taken waits for the host's link: lane, message, buffer. [R305, R329, R364] -/
  rxWait : List (Nat × Bytes × (Nat × List (Nat × Nat))) := []
  /-- Posted VBL receive buffers in the order of posting: ADDR of the descriptor, and the segments it names. [R327] -/
  bufs : List (Nat × List (Nat × Nat)) := []
  deriving DecidableEq, Repr

/-- A carrier's alignment (R119 to R123), its slip buffer (R114), its signalling (R125) and the check bits it sends (R118). -/
structure CarState where
  aligned : Bool := false
  pos : Nat := 0
  /-- Position at which the next search starts. -/
  start : Nat := 0
  /-- Positions set aside by false-lock exits. -/
  barred : List Bar := []
  /-- Positions tied, and the FN at which they verified. -/
  tied : List Nat := []
  tiedFn : FN := 0
  ambiguous : Bool := false
  /-- FN since which the CRC-4 multiframe is sought and not found. -/
  seek : Option FN := none
  /-- CRC-4 multiframe (E1) aligned. -/
  mf : Bool := false
  casMf : Bool := false
  interwork : Bool := false
  /-- FN of the present alignment, or of its loss. -/
  since : FN := 0
  /-- FN at which the carrier failed: its signalling is held until the hold time ends. -/
  sigHold : Option FN := none
  /-- The held signalling has been replaced by IDLE_SIG. -/
  sigIdle : Bool := false
  /-- Signalling has been delivered since the carrier was configured: there is a last value to hold. -/
  sigSeen : Bool := false
  /-- FN at which the point of R123 was reached: octets are delivered from the next carrier frame. -/
  point : Option FN := none
  slips : Nat := 0
  /-- Carrier frames by which the interchange reads behind the slip buffer's first: one more for each frame repeated, one
  less for each deleted (R114). -/
  behind : Int := 0
  /-- CRC-4 or CRC-6 of the egress submultiframe or superframe being sent, and of the one before, which is carried now. -/
  crcRun : BitVec 6 := 0
  crcSent : BitVec 6 := 0
  deriving DecidableEq, Repr

/-- A posted PM buffer (R177). -/
structure PmBuf where
  segs : List (Nat × Nat)
  addr : Nat
  len : Nat
  written : Nat
  firstFn : FN
  deriving DecidableEq, Repr

/-- Counts of a bin or a second (R176). -/
structure PmCounts where
  start : Nat := 0
  flags : Nat := 0
  nES : Nat := 0
  nSES : Nat := 0
  nBBE : Nat := 0
  nUAS : Nat := 0
  fES : Nat := 0
  fSES : Nat := 0
  fBBE : Nat := 0
  fUAS : Nat := 0
  exA : Nat := 0
  exB : Nat := 0
  deriving DecidableEq, Repr

/-- A second not yet final (R172, R173). -/
structure PmSec where
  start : Nat
  /-- FN at which the second ended. -/
  endFn : FN
  monitored : Bool
  nErr : Nat
  fErr : Nat
  nSes : Bool
  fSes : Bool
  nUas : Bool
  fUas : Bool
  flags : Nat
  exA : Nat
  exB : Nat
  /-- A step of the TOD counter of at most 1 s fell in it (R174). -/
  stepped : Bool
  /-- Its counts have been taken into bins that a TOD step closed. -/
  binned : Bool
  deriving DecidableEq, Repr

/-- A monitored object (R171, R174). -/
structure PmObj where
  /-- Seconds not yet final, oldest first. -/
  secs : List PmSec := []
  nUnavail : Bool := false
  fUnavail : Bool := false
  cur15 : PmCounts := {}
  prev15 : PmCounts := {}
  curDay : PmCounts := {}
  prevDay : PmCounts := {}
  /-- Records of the object dropped since its last record (R177). -/
  lost : Nat := 0
  /-- Far-end counts out of range, each counted as 0 (R169). -/
  invalid : Nat := 0
  /-- A swap added it to the monitored set, or removed it, in the present second (R175). -/
  cut : Bool := false
  deriving DecidableEq, Repr

/-- Performance monitoring. -/
structure PmSt where
  /-- Posted buffers in the order of posting. [R177, R336] -/
  bufs : List PmBuf := []
  /-- Monitored objects by key. [R171] -/
  objs : SMap PmObj := []
  /-- TOD seconds at which the last second of measurements ended. 48 bits. [R172] -/
  lastSec : FN := 0
  /-- A step of the TOD counter of at most 1 s fell in the present second. 1 bit. [R174] -/
  suspect : Bool := false
  /-- Every defect that has stood in the present second, by object key. 64 bits each. [R171] -/
  seen : SMap Word64 := []
  /-- A warm reset fell within the present second. 1 bit. [R172, R175] -/
  gap : Bool := false
  /-- Carriers that have failed in a frame of the present second. [R125, R171] -/
  failed : List Nat := []
  deriving DecidableEq, Repr

/-- A reference slot (R210 to R217). -/
structure SlotState where
  /-- Failure conditions: [0] signal, [1] frame, [2] AIS, [3] out of window, [4] ACQ_FAIL, [5] mate (R335). -/
  conds : BitVec 6 := 0
  failed : Bool := false
  hold : Option FN := none
  wtr : Option FN := none
  /-- SSM accepted last; none is QL-FAILED. -/
  ssm : Option (BitVec 4) := none
  ssmFn : FN := 0
  /-- Measured offset in 0.01 ppm. -/
  offset : Int := 0
  /-- FN since which the offset has stayed within 0.9 × FREQ_LIMIT. -/
  inWin : Option FN := none
  /-- QL in force since the last tick; none is QL-FAILED. -/
  ql : Option (BitVec 4) := none
  /-- FN of the tick since which the slot has been a candidate without a break. -/
  since : Option FN := none
  deriving DecidableEq, Repr

/-- The synchronisation block. -/
structure TimSt where
  /-- DPLL state code. 3 bits. [R219] -/
  dpll : BitVec 3 := 0
  /-- Slot in use. [R215] -/
  use : Option Nat := none
  /-- A reference switch is in progress since this FN. [R216] -/
  switching : Option FN := none
  /-- Reference slots. [R206] -/
  slots : SMap SlotState := []
  /-- Output frequency, signed, in 0.001 ppb from nominal. [R218, R225] -/
  freq : Int := 0
  /-- Frequency to which the output ramps. [R218, R225] -/
  target : Int := 0
  /-- SOFT word, signed, in 0.001 ppb. 32 bits. [R225] -/
  soft : Int := 0
  /-- Holdover samples: FN and frequency, newest first. [R224] -/
  samples : List (FN × Int) := []
  /-- Holdover value, where one is valid. [R224] -/
  holdover : Option Int := none
  /-- The holdover value is mature. 1 bit. [R224] -/
  mature : Bool := false
  /-- History bits, FREE_RUN first. 5 bits. [R226] -/
  history : BitVec 5 := 0
  /-- The DPLL takes phase from the slot in use. 1 bit. [R212] -/
  tracking : Bool := false
  /-- Output QL held while the slot in use is in a hold-off. 4 bits. [R230] -/
  heldQl : Option (BitVec 4) := none
  /-- Pairs of slots flagged CONFLICT, and the FN since which each pair agrees. [R217] -/
  pairs : List (Nat × Nat × Option FN) := []
  /-- A change to DPLL selection waits for the next tick after SOFT_EXIT. 1 bit. [R225] -/
  softExit : Bool := false
  /-- Block settings in force at the last tick: bytes 8 to 20 of ARGS. 104 bits. [R209] -/
  block : BitVec 104 := Cfg.defaultBlock
  /-- The unit is timing-aligned to its mate. 1 bit. [R232] -/
  aligned : Bool := false
  /-- The unit has stepped to the mate it now tracks. 1 bit. [R233] -/
  stepped : Bool := false
  /-- Consecutive frames in which the phase and frequency errors have been within the lock criterion. [R221] -/
  lockRun : Nat := 0
  /-- The DPLL tracks the slot in use again from the next frame. 1 bit. [R212] -/
  resume : Bool := false
  /-- Offset of XO_IN from nominal as last taken, in 0.001 ppb. [R211, R219] -/
  xo : Int := 0
  /-- The mate reports its clock not running. 1 bit. [R210] -/
  mateStopped : Bool := false
  /-- DPLL and output clocks run. 1 bit. [R220, R228] -/
  running : Bool := false
  /-- Loop bandwidth in mHz, by the kind of the slot last switched to; none before any. [R222] -/
  bandwidth : Option Nat := none
  /-- Phase difference between the slot in use and the output still to be absorbed, in 0.1 ps. [R223] -/
  phaseDiff : Int := 0
  /-- Output phase moved since the block started, in 0.1 ps. [R223] -/
  phase : Int := 0
  /-- FN of the last selection tick. [R215] -/
  lastTick : Option FN := none
  deriving DecidableEq, Repr

/-- What the mate's last valid header said (R240). -/
structure MateHdr where
  raw : Bytes := []
  fn : FN := 0
  deriving DecidableEq, Repr

/-- A mate lane's receiver (R239). -/
structure MlRx where
  inFrame : Bool := false
  los : Bool := false
  lof : Bool := false
  oofFn : FN := 0
  /-- Consecutive superframes with a valid, correctly identified header. -/
  run : Nat := 0
  lastFn : FN := 0
  deriving DecidableEq, Repr

/-- A Gatehouse port (R245 to R250). -/
structure GhPort where
  /-- 0 OFF, 1 SEND, 2 REQUIRE. -/
  mode : Nat := 0
  /-- The key before the last change, and the FN until which it is accepted. -/
  prevKey : Option (Bytes × FN) := none
  seq : Word32 := 0
  /-- SEQ and FN of the STATUS messages of the last 256 frames, newest first. -/
  sent : List (Word32 × FN) := []
  /-- FN and SEQ of the last valid GRANT received on this port. -/
  grantFn : Option FN := none
  grantSeq : Word32 := 0
  /-- ARBITER_ID of the last valid GRANT. 16 bits. [R248] -/
  arbiter : Nat := 0
  macFails : Nat := 0
  /-- Discarded GRANTs by the first failed check of R249 (0 CRC and type, 1 reserved, 2 MAC, 3 TTL, 4 echo), stale and refused. -/
  discards : SMap Nat := []
  conflict : Bool := false
  /-- ROLE_EPOCH and ACTIVE code of the last valid GRANT of this port. [R253] -/
  named : Option (Word32 × Nat) := none
  deriving DecidableEq, Repr

/-- A GRANT that names this STANDBY unit and waits for the mate's release (R256). -/
structure PendingGrant where
  epoch : Word32
  leaseEnd : FN
  forced : Bool
  deriving DecidableEq, Repr

/-- Twin operation. -/
structure TwinSt where
  /-- Known epoch K. 32 bits. [R251] -/
  epoch : Word32 := 0
  /-- Lease end, where a lease runs. 48 bits. [R251] -/
  leaseEnd : Option FN := none
  /-- LEASE_STATE: 00 none, 01 granted, 10 carried, 11 released. 2 bits. [R240] -/
  lease : BitVec 2 := 0
  /-- A GRANT that waits to take effect. [R256] -/
  pending : Option PendingGrant := none
  /-- The mate link is in service. 1 bit. [R244] -/
  linkUp : Bool := false
  /-- MISWIRE stands. 1 bit. [R244] -/
  miswire : Bool := false
  /-- Mate lane ML0. [R239] -/
  ml0 : MlRx := {}
  /-- Mate lane ML1. [R239] -/
  ml1 : MlRx := {}
  /-- The mate's last valid header. [R240] -/
  hdr : MateHdr := {}
  /-- The live epoch or fingerprint differed from the mate's in the last header compared, one of the same superframe. 1 bit. [R247] -/
  pageDiff : Bool := false
  /-- Gatehouse port GHA. [R245] -/
  gha : GhPort := {}
  /-- Gatehouse port GHB. [R245] -/
  ghb : GhPort := {}
  /-- Packets of the present superframe: their channel, and bytes. [R241, R242] -/
  stream : List (Nat × Bytes) := []
  /-- RELEASED has been received from the mate since its last GRANT. 1 bit. [R256] -/
  mateReleased : Bool := false
  /-- FN of entry into PENDING. 48 bits. [R264] -/
  pendFn : FN := 0
  /-- Superframes in which RELEASED is still to be repeated. [R243] -/
  relRepeat : Nat := 0
  /-- FN from which the unit is STANDBY, as its RELEASED says. 48 bits. [R243] -/
  relFn : FN := 0
  /-- HEARTBEAT of the mate-link header. 16 bits. [R240] -/
  heartbeat : Word16 := 0
  /-- MIRROR_SEQ: sequence number of the last journal record closed or mirrored. 64 bits. [R240] -/
  mirrorSeq : Nat := 0
  /-- Next expected SEQ on JOURNAL and STAGED. 8 bits each. [R241, R242] -/
  rxSeq : SMap Nat := []
  /-- Gaps open on JOURNAL (2) and STAGED (3): the FN of detection. [R242] -/
  gaps : SMap FN := []
  /-- SEQ up to which an open gap must be filled, by channel. 8 bits each. [R242] -/
  gapTo : SMap Nat := []
  /-- Next SEQ to send, by channel. 8 bits each. [R241] -/
  chanSeq : SMap Nat := []
  /-- The last packets sent on JOURNAL and STAGED, at most 256 each: channel, SEQ and bytes. [R242] -/
  sentPkts : List (Nat × Nat × Bytes) := []
  /-- Packets of reserved channels and CONTROL messages of reserved types discarded. [R242, R243] -/
  discarded : Nat := 0
  /-- Resynchronisation image received so far. [R263] -/
  image : Option Snapshot := none
  /-- The image is complete. 1 bit. [R263] -/
  imageDone : Bool := false
  /-- MIRROR_SEQ with which the image is tagged. 64 bits. [R263] -/
  imageTag : Nat := 0
  /-- The image has been installed at a boundary. 1 bit. [R263] -/
  installed : Bool := false
  /-- Journal records received after the image and not yet applied, each with the changes of the staged page received after
  it. [R263] -/
  later : List (JRecord × List StagedWrite) := []
  /-- Changes of the staged page received before the image is installed and before any such record. [R263] -/
  laterStaged : List StagedWrite := []
  /-- Synchronisation was lost by timing alignment alone. 1 bit. [R264] -/
  copyGood : Bool := false
  /-- The image for the mate's present RESYNC has been sent. 1 bit. [R263] -/
  bulkSent : Bool := false
  /-- FP_MATE has been raised and no comparison has agreed since. 1 bit. [R386] -/
  fpMate : Bool := false
  /-- A forced takeover waits for the boundary at or after this FN. 48 bits. [R265] -/
  takeover : Option FN := none
  /-- The last handover was by SET_MODE, so STATUS shows RELEASE. 1 bit. [R246, R257] -/
  release : Bool := false
  /-- RX_OFFSET measured on ML0, in 100 ps. 32 bits. [R244] -/
  rxOffset : Nat := 0
  /-- RX_OFFSET measured on ML1, in 100 ps. 32 bits. [R244] -/
  rxOffset1 : Nat := 0
  /-- The fields of the last header sent, which a warm reset holds. 60 bytes. [R240] -/
  lastHdr : Bytes := []
  /-- Mode, role, LEASE_STATE and ELIGIBLE as the last STATUS showed them. [R246] -/
  shown : Nat := 0
  /-- The unit becomes STANDBY at the next frame. 1 bit. [R254, R268] -/
  yields : Bool := false
  /-- The unit becomes ISOLATED at the next frame. 1 bit. [R26, R27, R254] -/
  isolates : Bool := false
  /-- The unit leaves ISOLATED for its role on entry at the next frame. 1 bit. [R26, R268] -/
  resumes : Bool := false
  /-- ACTIVE after a warm reset, and not yet renewed by a GRANT. 1 bit. [R28] -/
  provisional : Bool := false
  deriving DecidableEq, Repr

/-- A record held for another member (R276). -/
structure MemberRec where
  raw : Bytes
  fn : FN
  deriving DecidableEq, Repr

/-- The clause 36 synchronisation of a group-bus port (R272): 0 LOSS_OF_SYNC; 1, 3, 5 COMMA_DETECT_1 to 3; 2, 4 ACQUIRE_SYNC_1
and 2; 6 to 9 SYNC_ACQUIRED_1 to 4. -/
structure PortSync where
  phase : Nat := 0
  /-- good_cgs: code groups without error since SYNC_ACQUIRED_2 to 4 was entered. -/
  good : Nat := 0
  /-- rx_even. -/
  even : Bool := false
  /-- Running disparity is positive. -/
  rd : Bool := false
  deriving DecidableEq, Repr

/-- Fabric group. Members are keyed 2 × slice + unit. -/
structure GroupSt where
  /-- Records held. [R276] -/
  recs : SMap MemberRec := []
  /-- The Bellwether in this member's view. [R277] -/
  bell : Option Nat := none
  /-- A Bellwether elected and not yet in office. [R278] -/
  elected : Option Nat := none
  /-- FN of the record that elected it. 48 bits. [R278] -/
  electedFn : FN := 0
  /-- The Bellwether's FN that this member steps past at the next frame. 48 bits. [R276] -/
  stepTo : Option FN := none
  /-- FENCED. 1 bit. [R285] -/
  fenced : Bool := false
  /-- BEHIND. 1 bit. [R286] -/
  behind : Bool := false
  /-- A CATCHUP has been sent and is not done. 1 bit. [R286] -/
  catching : Bool := false
  /-- FN of the last CATCHUP. 48 bits. [R286] -/
  catchFn : FN := 0
  /-- Epochs and fingerprints that the Bellwether's records have shown, newest first, at most 64. [R276] -/
  history : List (Nat × Nat) := []
  /-- East port down. 1 bit. [R272] -/
  eastDown : Bool := true
  /-- West port down. 1 bit. [R272] -/
  westDown : Bool := true
  /-- Synchronisation of the east port's receiver. [R272] -/
  eastSync : PortSync := {}
  /-- Synchronisation of the west port's receiver. [R272] -/
  westSync : PortSync := {}
  /-- Running disparity of the east port's transmitter is positive. 1 bit. [R272] -/
  eastRd : Bool := false
  /-- Running disparity of the west port's transmitter is positive. 1 bit. [R272] -/
  westRd : Bool := false
  /-- SEQ per TYPE of packets originated. 16 bits each. [R273] -/
  seq : SMap Nat := []
  /-- Packets accepted in the last 256 frames: originator, TYPE, SEQ, FN. [R273] -/
  seen : List (Nat × Nat × Nat × FN) := []
  /-- Packets of reserved types discarded. [R274] -/
  reserved : Nat := 0
  /-- Page and configuration to apply at the next boundary after a catch-up. [R286] -/
  install : Option Snapshot := none
  /-- Journal records to apply after the snapshot at successive boundaries. [R286] -/
  later : List JRecord := []
  /-- FP_GROUP has been raised and no comparison has agreed since. 1 bit. [R386] -/
  fpGroup : Bool := false
  /-- GROUP_NO_QUORUM stands. 1 bit. [R277] -/
  noQuorum : Bool := false
  /-- GROUP_FN_DISAGREE stands. 1 bit. [R276] -/
  fnBad : Bool := false
  /-- GROUP_MANIFEST_DISAGREE stands. 1 bit. [R276] -/
  compatBad : Bool := false
  /-- Members whose records show GROUP_MISWIRE. [R276] -/
  miswired : List Nat := []
  deriving DecidableEq, Repr

/-- A ring of the host (R292 to R294, R477). -/
structure Ring where
  base : Word64 := 0
  size : BitVec 5 := 0
  en : Bool := false
  /-- The module's fetch or write position. 17 bits. -/
  pos : BitVec 17 := 0
  /-- The last well-formed doorbell position. 17 bits. -/
  host : BitVec 17 := 0
  halted : Bool := false
  /-- FN since which the ring has been full with work held (R307). -/
  fullSince : Option FN := none
  deriving DecidableEq, Repr

/-- The registers of the PCIe function's configuration space that the host sets (R288, R289); Bus Master Enable, the power state and
the MSI-X control stand in HostSt. Their reset values are those of the PCI Express Base Specification (PRESUMED, entry 160). -/
structure PcieSt where
  /-- Bases of BAR0/1, BAR2/3 and BAR4/5. 64 bits each. [R289] -/
  bar : SMap Word64 := []
  /-- Memory Space Enable. 1 bit. [R288] -/
  memEn : Bool := false
  /-- Interrupt Line. 8 bits. [R288] -/
  intLine : Byte := 0
  /-- Max_Payload_Size. 3 bits. [R288] -/
  maxPayload : BitVec 3 := 0
  /-- Max_Read_Request_Size. 3 bits. [R288] -/
  maxRead : BitVec 3 := 2
  /-- Completion Timeout Value and Disable. 5 bits. [R288] -/
  cplTimeout : BitVec 5 := 0
  /-- ASPM Control. 2 bits. [R288] -/
  aspm : BitVec 2 := 0
  /-- AER: uncorrectable error status, mask and severity, correctable error status and mask. 32 bits each. [R288] -/
  uncStatus : Word32 := 0
  uncMask : Word32 := 0
  uncSev : Word32 := 0x00062030
  corStatus : Word32 := 0
  corMask : Word32 := 0x2000
  deriving DecidableEq, Repr

/-- A command fetched and not yet begun (R35, R298). -/
structure Fetched where
  opcode : Byte
  entry : CmdEntry
  pos : Nat
  deriving DecidableEq, Repr

/-- A completion held until it is written (R299). -/
structure Cpl where
  tok : CmdTok
  status : Byte
  obj : Byte
  result : Word64
  deriving DecidableEq, Repr

/-- An event of the queue (R300). -/
structure Evt where
  code : Byte
  mode : Mode
  seq : Word32
  fn : FN
  payload : BitVec 160
  deriving DecidableEq, Repr

/-- The EVENTS_LOST entry that collects discards (R301). -/
structure Lost where
  seq : Word32
  mode : Mode
  count : Word32
  first : FN
  last : FN
  deriving DecidableEq, Repr

/-- A scheduled effect, and the waiting command whose completion it carries (R319). -/
structure Sched where
  due : FN
  tok : Option CmdTok
  /-- Of this unit's own host (ORIGIN of its audit entry, R388). -/
  own : Bool
  effect : Effect
  /-- RESULT of the completion. -/
  result : Word64
  /-- The effect is in force and its completion is still to be posted. -/
  applied : Bool
  deriving DecidableEq, Repr

/-- Waiting commands whose moment is not a frame known in advance (R319). -/
inductive Waiter where
  | verify (tok : Option CmdTok) (due : FN)
  | activate (tok : Option CmdTok)
  | confirm (tok : Option CmdTok)
  | compact (tok : Option CmdTok)
  | domain (tok : Option CmdTok) (d : Nat) (target : DomState)
  deriving DecidableEq, Repr

/-- The host interface: PCIe, rings, set-up window, interrupt tree. -/
structure HostSt where
  /-- The host's memory as the module's accesses find it, in canonical form. [R292, R297] -/
  mem : List Host.Cell := []
  /-- The CH3 transfer of the command at the head of the ring has failed after its retries. 1 bit. [R304, R364] -/
  bulkFail : Bool := false
  /-- Bursts of the buffers of the command at the head of the ring that CH3 has read. [R73, R363] -/
  bulkBursts : Nat := 0
  /-- PCIe link up. 1 bit. [R305] -/
  linkUp : Bool := false
  /-- Configuration space. [R288, R289] -/
  pcie : PcieSt := {}
  /-- Bus Master Enable. 1 bit. [R305] -/
  busMaster : Bool := false
  /-- Function in D3hot. 1 bit. [R305] -/
  d3hot : Bool := false
  /-- PERST_N asserted. 1 bit. [R306] -/
  perst : Bool := false
  /-- TOP_SETUP_LOCK.LOCK. 1 bit. [R291, R476] -/
  lock : Bool := false
  /-- TOP_STATUS.HOST_TAG. 16 bits. [R476] -/
  tag : Word16 := 0
  /-- Command ring registers. [R477] -/
  cmd : Ring := {}
  /-- Completion ring registers. [R477] -/
  cpl : Ring := {}
  /-- Event ring registers. [R477] -/
  evt : Ring := {}
  /-- Held low half of a 64-bit register: offset and value. [R475] -/
  heldLow : Option (Nat × Word32) := none
  /-- Latched high halves by offset. 32 bits each. [R475] -/
  latched : SMap Word32 := []
  /-- Data returned by the last read of the set-up window. 32 bits. [R290] -/
  rdata : Word32 := 0
  /-- Cause registers of groups 0 to 18. 32 bits each. [R310, R478] -/
  causes : SMap Word32 := []
  /-- Enable registers of groups 0 to 18. 32 bits each. [R309, R478] -/
  enables : SMap Word32 := [(18, 3)]
  /-- TOP_ENABLE. 19 bits. [R478] -/
  topEnable : Word32 := 0x40000
  /-- DMA_DONE. 32 bits. [R478] -/
  dmaDone : Word32 := 0
  /-- DMA_HALT. 32 bits. [R478] -/
  dmaHalt : Word32 := 0
  /-- ENG_CLUSTER. 32 bits. [R478] -/
  engCluster : Word32 := 0
  /-- Enable of DMA_DONE. 32 bits. [R478] -/
  dmaDoneEn : Word32 := 0
  /-- Enable of DMA_HALT. 32 bits. [R478] -/
  dmaHaltEn : Word32 := 0
  /-- Enable of ENG_CLUSTER. 32 bits. [R478] -/
  engClusterEn : Word32 := 0
  /-- MSI-X Enable. 1 bit. [R313] -/
  msixEn : Bool := false
  /-- MSI-X function mask. 1 bit. [R313] -/
  funcMask : Bool := false
  /-- MSI-X vector mask. 1 bit. [R482] -/
  vecMask : Bool := true
  /-- MSI-X pending bit. 1 bit. [R482] -/
  pend : Bool := false
  /-- MSI-X message address. 64 bits. [R482] -/
  msixAddr : Word64 := 0
  /-- MSI-X message data. 32 bits. [R482] -/
  msixData : Word32 := 0
  /-- MSI-X messages sent (the model's own count of an output). [R313] -/
  msixSent : Nat := 0
  /-- TOP_CTR_CTRL.USER_EN. 1 bit. [R403] -/
  userEn : Bool := false
  /-- TOP_CTR_CTRL.MC_EXPOSE. 1 bit. [R403] -/
  mcExpose : Bool := false
  /-- BUS_WINn_CTRL. 32 bits each. [R352] -/
  winCtrl : SMap Word32 := []
  /-- BUS_WINn_TARGET. 32 bits each. [R352] -/
  winBase : SMap Word32 := []
  /-- BUS_CTRL.REMAP. 1 bit. [R347] -/
  remap : Bool := false
  /-- DMA_CTRL.HOST_CH. 4 bits. [R356] -/
  hostCh : BitVec 4 := 0
  /-- Commands fetched and not yet begun, in ring order. [R35, R298] -/
  fetched : List Fetched := []
  /-- Completion slots held by commands taken. [R298] -/
  held : Nat := 0
  /-- Completions that wait to be written, in the order in which commands ended. [R299] -/
  cplQ : List Cpl := []
  /-- Ring position whose entry shows the wrong PHASE and is being re-read. [R298] -/
  phaseWait : Option Nat := none
  /-- Event queue, oldest first, at most 8,192. [R301] -/
  evtQ : List Evt := []
  /-- EVENTS_LOST entry kept beyond the queue, and how many queued events precede it. [R301] -/
  lost : Option (Nat × Lost) := none
  /-- SEQ of the next event. 32 bits. [R300] -/
  evtSeq : Word32 := 0
  /-- Scheduled effects, in the order in which they were scheduled. [R319] -/
  sched : List Sched := []
  /-- Waiting commands whose moment is not a frame known in advance. [R319] -/
  waiters : List Waiter := []
  deriving DecidableEq, Repr

/-- A register set of a DMA channel (R358). -/
structure DmaSet where
  src : Word64 := 0
  dst : Word64 := 0
  len : Nat := 0
  /-- CTRL less GO, PAUSE and STOP. -/
  ctrl : Word32 := 0
  deriving DecidableEq, Repr

/-- The states of a DMA channel (R358). -/
inductive DmaPhase where
  | idle | armed | running | pausing | paused | halted
  deriving DecidableEq, Repr

/-- A DMA channel (R358). -/
structure DmaCh where
  set : DmaSet := {}
  shadow : DmaSet := {}
  shadowValid : Bool := false
  phase : DmaPhase := .idle
  pause : Bool := false
  done : Bool := false
  withdrawn : Bool := false
  paceMissed : Bool := false
  refused : Bool := false
  haltCause : BitVec 4 := 0
  retries : BitVec 2 := 0
  remain : Nat := 0
  /-- STOP withdraws the transfer once the begun bursts end. -/
  stopping : Bool := false
  /-- Bursts begun whose write response is awaited, while PAUSING or stopping. -/
  begun : Nat := 0
  /-- The channel was ARMED when it paused. -/
  wasArmed : Bool := false
  /-- A GO written together with STOP waits for the withdrawal (R480). -/
  goAfter : Bool := false
  deriving DecidableEq, Repr

/-- The DMA engine and the bus matrix. -/
structure DmaSt where
  /-- Channels 0 to 31. [R355, R358] -/
  ch : SMap DmaCh := []
  /-- Masters held in reset while the matrix drains them. [R354] -/
  draining : List Nat := []
  /-- Exclusive monitors: the 64-byte granule that a management core's covers. [R353] -/
  monitors : SMap Nat := []
  /-- The model's own counter of free values drawn by the DMA engine. -/
  draws : Nat := 0
  deriving DecidableEq, Repr

/-- Junction sensors, supply and power domains. -/
structure PowerSt where
  /-- Present state of each switched domain. [R421] -/
  dom : SMap DomState := []
  /-- Domains that are turning on, and the state aimed at. [R422] -/
  turning : SMap DomState := []
  /-- A power-fail warning is present. 1 bit. [R426] -/
  pfw : Bool := false
  /-- PFW_N is low. 1 bit. [R426] -/
  pfwPin : Bool := false
  /-- VIN in millivolts. [R315, R460] -/
  vin : Nat := 48000
  /-- VBAK in millivolts. [R417] -/
  vbak : Nat := 3000
  /-- Junction sensors 0 to 11, in 0.1 °C. [R420, R471] -/
  temps : SMap Int := []
  /-- Sensors excluded. [R420] -/
  excluded : List Nat := []
  /-- Junction at 140 °C or more. 1 bit. [R420] -/
  hot : Bool := false
  /-- A thermal trip is latched: THERM_N and STATUS_TEMPERATURE bit 7. 1 bit. [R315, R420] -/
  tripped : Bool := false
  /-- VIN above 80 V has been seen. 1 bit. [R315] -/
  seen80 : Bool := false
  /-- VIN is above 60 V. 1 bit. [R315] -/
  above60 : Bool := false
  /-- STATUS_INPUT power-fail warning bit. 1 bit. [R315] -/
  pfwSeen : Bool := false
  deriving DecidableEq, Repr

/-- A cluster of tributary engines (R369 to R379). -/
structure ClusterSt where
  faulted : Bool := false
  /-- The running bank is B. -/
  bankB : Bool := false
  /-- The cluster runs the trial's component. -/
  trial : Bool := false
  /-- FN of the last bank switch, while its ready state is awaited. -/
  awaiting : Option FN := none
  /-- Engines stopped by a bad instruction word: engine and address. -/
  stopped : List (Nat × Nat) := []
  /-- Address and FN of the last uncorrectable word of the running bank. -/
  lastBad : Option (Nat × FN) := none
  spareBad : Bool := false
  /-- Engine component that the spare bank has received, up to 64 KiB. [R19, R374, R376] -/
  spare : Bytes := []
  deriving DecidableEq, Repr

/-- Tributary engines. -/
structure EngineSt where
  /-- Clusters C0 to C31. [R369] -/
  cl : SMap ClusterSt := []
  /-- Consecutive overruns per engine. [R372] -/
  overruns : SMap Nat := []
  /-- FN of the last overrun per engine. [R372] -/
  overrunFn : SMap FN := []
  /-- Bytes written over the bus into data memories whose engines stand still, by bus address. [R19, R369] -/
  mem : List Host.Cell := []
  deriving DecidableEq, Repr

/-- A PRBS unit (R395, R396). -/
structure PrbsSt where
  cfg : Option PrbsCfg := none
  inSync : Bool := false
  errors : Word32 := 0
  /-- FN of the commit boundary at which the generator starts. -/
  start : FN := 0
  deriving DecidableEq, Repr

/-- Belvedere. -/
structure BelSt where
  /-- Audit log, newest first, at most 4,096. [R388, R389] -/
  audit : List Audit := []
  /-- SEQ of the next audit entry. 32 bits. [R389] -/
  auditSeq : Nat := 0
  /-- Highest SEQ that an AUDIT_READ has returned, plus one. [R390] -/
  auditRead : Nat := 0
  /-- OBS.AUDIT_HIGH has been raised and the newest entry not returned since. 1 bit. [R390] -/
  auditHigh : Bool := false
  /-- Taps 0 to 15 that are enabled. [R391] -/
  taps : SMap (Option TapCfg) := []
  /-- PRBS units 0 to 15. [R395] -/
  prbs : SMap PrbsSt := []
  /-- GEN of the counter window. 32 bits. [R399] -/
  gen : Word32 := 0
  /-- FN of the last gather. 48 bits. [R398] -/
  gatherFn : FN := 0
  /-- Block counters as they run, key 4 b + c, [47:0] COUNT and [63] OVF. 64 bits each. [R400] -/
  ctr : SMap Word64 := []
  /-- Core counters, key 9 n + 1 + k, and CYCLES at 9 n. 64 bits each. [R398, R401] -/
  core : SMap Word64 := []
  /-- The counter window as last gathered, by key as above, core counters from 1000. [R398] -/
  window : SMap Word64 := []
  /-- OVF_CLEAR waits for the next gather. 1 bit. [R403] -/
  ovfClear : Bool := false
  /-- MCn_PMCk_CTRL by 8 n + k. 32 bits each. [R401] -/
  pmcCtrl : SMap Word32 := []
  /-- MCn_PMCk_BASE by 8 n + k. 32 bits each. [R401] -/
  pmcBase : SMap Word32 := []
  /-- MCn_PMCk_LIMIT by 8 n + k. 32 bits each. [R401] -/
  pmcLimit : SMap Word32 := []
  deriving DecidableEq, Repr

/-- The I2C target. -/
structure I2cSt where
  /-- STATUS_CML bits 7, 6 and 5. 8 bits. [R315] -/
  cml : Byte := 0
  /-- Bytes of the last reply, its PEC last. [R314, R315] -/
  reply : Bytes := []
  /-- The last transaction was acknowledged. 1 bit. [R314] -/
  acked : Bool := false
  /-- A0 to A2 as sampled. 3 bits. [R314] -/
  addr : BitVec 3 := 0
  deriving DecidableEq, Repr

/-- A hitless activation or fallback in progress (R442, R445). -/
structure Activation where
  /-- Step of R442 that comes next: 2 handover, 3 engines, 4 microcode, 5 power controller; of R445: 7 the common return,
  8 the old firmware's handover. -/
  step : Nat
  /-- Next cluster, or next quad. -/
  next : Nat
  /-- FN at which the step began, or of the last switch. -/
  startFn : FN
  deriving DecidableEq, Repr

/-- Field update. -/
structure ImageSt where
  /-- Image state: 0 IDLE, 1 DOWNLOADING, 2 DOWNLOADED, 3 VERIFIED, 4 TRIAL. 3 bits. [R322, R338] -/
  state : BitVec 3 := 0
  /-- Bytes received of the package being downloaded. [R338] -/
  received : Nat := 0
  /-- PACKAGE_LEN of the package being downloaded. [R437] -/
  length : Nat := 0
  /-- Slot of the running image is B. 1 bit. [R429] -/
  runB : Bool := false
  /-- IMAGE_VERSION of the running image. 32 bits. [R437] -/
  version : Word32 := 0
  /-- COMPAT of the running image. 16 bits. [R437] -/
  compat : Word16 := 0
  /-- MANIFEST_ID of the running package. 64 bits. [R438] -/
  manifest : Word64 := 0
  /-- Activation in progress. [R442] -/
  act : Option Activation := none
  /-- Frames of the trial so far; none outside a trial. 48 bits. [R444] -/
  trialFn : Option FN := none
  /-- Trial began by a boot, not hitlessly. 1 bit. [R445] -/
  trialBoot : Bool := false
  /-- HOLD of the activation. 1 bit. [R338] -/
  holdFlag : Bool := false
  /-- The host has issued IMAGE_CONFIRM. 1 bit. [R444] -/
  confirmReq : Bool := false
  /-- Frames for which the health conditions have held; none while one of them fails. 48 bits. [R444] -/
  healthy : Option FN := none
  /-- A journal record has been appended and read back in this trial. 1 bit. [R444] -/
  readBack : Bool := false
  /-- A hitless fallback returns firmware at the next boundary. 1 bit. [R445, R446] -/
  fallback : Bool := false
  /-- Quads that run the trial's microcode. [R442] -/
  quads : List Nat := []
  /-- Command of an IMAGE_REJECT in TRIAL, completed once the old image runs again. [R339, R445] -/
  rejecting : Option CmdTok := none
  deriving DecidableEq, Repr

/-- The debug port (R454). -/
structure DebugSt where
  /-- The port is open. 1 bit. [R452, R454] -/
  opened : Bool := true
  /-- Challenge in force. 32 bytes. [R454] -/
  challenge : Option Bytes := none
  /-- Consecutive failed responses. [R454] -/
  fails : Nat := 0
  /-- Draws made from the security block's random source (the model's own counter). -/
  draws : Nat := 0
  deriving DecidableEq, Repr

/-- A message sent in the present frame (the model's record of the module's serial outputs). -/
inductive TxMsg where
  | vbl (lane : Nat) (header : Bytes)
  | vblMsg (lane : Nat) (m : Bytes)
  | mateHdr (lane : Bool) (m : Bytes)
  | mate (chan : Byte) (m : Bytes)
  | group (type : Byte) (m : Bytes)
  | groupFwd (west : Bool) (m : Bytes)
  | status (port : Bool) (m : Bytes)
  /-- Section and line overhead of a SONET/SDH signal: J0, K1, K2, S1, M0, M1. -/
  | line (obj : Nat) (m : Bytes)
  /-- OTN overhead of an interface: SM byte 3, PM byte 3 and PT of each ODU in turn. -/
  | otn (lane : Nat) (m : Bytes)
  /-- Path overhead of a rebuilt slot. -/
  | path (g : Nat) (m : Bytes)
  /-- Pointer word of an egress slot or tributary, by selector key. -/
  | pointer (k : Nat) (w : Word16)
  /-- Overhead byte of a carrier's tributary, and the carrier frame. -/
  | carrier (c : Nat) (v : Byte) (m : Bytes)
  deriving DecidableEq, Repr

/-- The state of the module. -/
structure State where
  /-- Commands and happenings that wait, first in, first out. -/
  pending : List Instr := []
  mode : ModeSt := {}
  clk : ClockSt := {}
  rst : ResetSt := {}
  bak : BakSt := {}
  fuse : FuseSt := {}
  flash : FlashSt := {}
  jrn : JournalSt := {}
  cfg : Cfg := Cfg.initial
  page : PageSt := {}
  prot : ProtSt := {}
  dft : DefectSt := {}
  lane : LaneSt := {}
  /-- Carriers. [R119] -/
  car : SMap CarState := []
  pm : PmSt := {}
  tim : TimSt := {}
  twin : TwinSt := {}
  grp : GroupSt := {}
  host : HostSt := {}
  dma : DmaSt := {}
  pwr : PowerSt := {}
  eng : EngineSt := {}
  bel : BelSt := {}
  i2c : I2cSt := {}
  img : ImageSt := {}
  dbg : DebugSt := {}
  /-- Messages sent on the serial links in the present frame. [R243, R246, R274] -/
  tx : List TxMsg := []
  /-- Free values drawn so far (the model's own counter). -/
  draws : Nat := 0
  deriving DecidableEq, Repr

/-- The module right after reset: supply risen, POWER_ON cold reset asserted (R404, R405). -/
def State.reset : State := {}

end Sys2Proof.Machine
end

