-- ==== Sys2Proof/Machine/Flags.lean ====
section
/-! DEFINITION. Codes and flags: the numbers by which modes, states and statuses are reported, the cause registers and
summaries of the interrupt tree (R309 to R312), and the HEALTH and ELIGIBLE flags (R247). -/
namespace Sys2Proof.Machine

/-- Mode codes (R25). -/
def modeCode : Mode → Nat
  | .boot => 0 | .safe => 1 | .quiet => 2 | .solo => 3 | .active => 4 | .standby => 5 | .isolated => 6 | .service => 7

/-- The mode of a code (R25). -/
def modeOf : Nat → Option Mode
  | 0 => some .boot | 1 => some .safe | 2 => some .quiet | 3 => some .solo | 4 => some .active
  | 5 => some .standby | 6 => some .isolated | 7 => some .service | _ => none

/-- Staged-page state codes (R77). -/
def pageCode : PageState → Nat
  | .opened => 0 | .sealed => 1 | .final => 2 | .split => 3

/-- Tier codes (R74). -/
def tierCode : Tier → Nat
  | .ho => 0 | .lo => 1 | .ds0 => 2

/-- The tier of a code (R74). -/
def tierOf : Nat → Option Tier
  | 0 => some .ho | 1 => some .lo | 2 => some .ds0 | _ => none

/-- Leg codes: 0 A, 1 B (R336). -/
def legCode : Leg → Nat
  | .a => 0 | .b => 1

/-- Condition codes (R336). -/
def condCode : Cond → Nat
  | .ok => 0 | .sd => 1 | .sf => 2

/-- Power-domain state codes of POWER_DOMAIN (R338). -/
def domCode : DomState → Nat
  | .off => 0 | .on => 1 | .retain => 2

-- Completion statuses (R320).
def stOk : Byte := 0x00
def stOkDeferred : Byte := 0x01
def stOkSplit : Byte := 0x02
def stBadOpcode : Byte := 0x10
def stBadArgument : Byte := 0x11
def stBadLength : Byte := 0x12
def stWrongMode : Byte := 0x20
def stWrongState : Byte := 0x21
def stBusy : Byte := 0x22
def stNoRoute : Byte := 0x30
def stNoResource : Byte := 0x31
def stGroupDisagree : Byte := 0x40
def stMateUnsync : Byte := 0x41
def stIntegrity : Byte := 0x50
def stAuth : Byte := 0x51
def stRollback : Byte := 0x52
def stHostMemory : Byte := 0x60
def stTimeout : Byte := 0x70
def stInternal : Byte := 0xFF

-- Groups of the interrupt tree (R310).
def gCpl : Nat := 0
def gEvt : Nat := 1
def gRingErr : Nat := 2
def gDma : Nat := 3
def gBus : Nat := 4
def gLane : Nat := 5
def gOvh : Nat := 6
def gProt : Nat := 7
def gTim : Nat := 8
def gTwin : Nat := 9
def gGrp : Nat := 10
def gCmem : Nat := 11
def gEng : Nat := 12
def gPwr : Nat := 13
def gTherm : Nat := 14
def gUpd : Nat := 15
def gSec : Nat := 16
def gObs : Nat := 17
def gRst : Nat := 18

/-- Set a cause (R309): leaf causes are sticky. -/
def raise (g b : Nat) (s : State) : State :=
  { s with host := { s.host with
      causes := tset 0 s.host.causes g (tget 0 s.host.causes g ||| place 32 b 1) } }

/-- Whether a cause stands. -/
def causeOf (s : State) (g b : Nat) : Bool := bit (tget 0 s.host.causes g) b

/-- The cause register of a group as it reads: its leaf causes and, for DMA and ENG, the summaries beneath (R309,
R478). -/
def groupCause (s : State) (g : Nat) : Word32 :=
  let c := tget 0 s.host.causes g
  if g = gDma then
    putBit (putBit c 0 (s.host.dmaDone &&& s.host.dmaDoneEn != 0)) 1 (s.host.dmaHalt &&& s.host.dmaHaltEn != 0)
  else if g = gEng then putBit c 0 (s.host.engCluster &&& s.host.engClusterEn != 0)
  else c

/-- The summary bit of a group: the OR of its enabled causes (R309). -/
def groupSummary (s : State) (g : Nat) : Bool := groupCause s g &&& tget 0 s.host.enables g != 0

/-- TOP_SUMMARY (R309, R310). -/
def topSummary (s : State) : Word32 :=
  (List.range 19).foldl (fun w g => if groupSummary s g then w ||| place 32 g 1 else w) 0

/-- The module is past mode entry: no reset, release or restart into SAFE is in progress (R300, R312). -/
def entered (s : State) : Bool := decide (s.rst.phase = .running) && !s.mode.safeRestart

/-- The interrupt condition, held false from a reset or restart until mode entry (R312). -/
def irqCond (s : State) : Bool := entered s && (topSummary s &&& s.host.topEnable != 0)

/-- IRQ_N is driven low (R312). -/
def irqLow (s : State) : Bool := irqCond s

/-- The twin settings in force: the defaults of R236 until TWIN_CONFIG sets others. -/
def twinSet (s : State) : TwinCfg := s.cfg.twin.getD {}

/-- A GRANT was received on a port within the last LEASE_TTL (R240). -/
def heardGrant (s : State) (p : GhPort) : Bool :=
  match p.grantFn with
  | some f => decide ((s.clk.fn - f).toNat ≤ 8 * (twinSet s).ttl)
  | none => false

/-- Live epoch and fingerprint equal those of the mate's last header (R247). -/
def pagesEqualMate (s : State) : Bool :=
  decide (be s.twin.hdr.raw 22 8 = s.page.live.epoch.toNat) && decide (be s.twin.hdr.raw 30 8 = s.page.liveFp.toNat)

/-- A cluster is on (R421). -/
def domOn (s : State) (d : Nat) : Bool := decide (tget .off s.pwr.dom d = .on)

/-- A port requires authentication and holds no key (R247, R250). -/
def keyAbsent (s : State) : Bool :=
  (s.twin.gha.mode == 2 && s.flash.keyA.isNone) || (s.twin.ghb.mode == 2 && s.flash.keyB.isNone)

/-- A LANE_CONFIG mode code is defined (R129). -/
def laneModeOk (m : Nat) : Bool := decide (m ≤ 4 ∨ (8 ≤ m ∧ m ≤ 0x10) ∨ m = 0x18)

/-- A mode takes all four lanes of a quad (R129). -/
def multiLane (m : Nat) : Bool := decide (0x0C ≤ m ∧ m ≤ 0x10)

/-- Rate family of a mode: 0 none, 1 S, 2 O2, 3 O2e, 4 O3, 5 O4, 6 V (R129). -/
def rateFamily (m : Nat) : Nat :=
  if m = 0 then 0 else if m ≤ 4 then 1 else if m = 8 ∨ m = 9 then 2 else if m = 0xA ∨ m = 0xB then 3
  else if m ≤ 0xF then 4 else if m = 0x10 then 5 else 6

/-- Fabric ports the interface of a lane mode takes (R40, R129). -/
def portCount (mode : Nat) : Nat :=
  if mode = 0 then 0 else if mode ≤ 0xB then 1 else if mode ≤ 0xF then 4 else if mode = 0x10 then 10 else 2

/-- The configuration of a lane. -/
def laneCfg (c : Cfg) (l : Nat) : LaneCfg := tget LaneCfg.disabled c.lanes l

/-- The mode of a lane. -/
def laneMode (c : Cfg) (l : Nat) : Nat := (laneCfg c l).mode.toNat

/-- A fabric port is bound to a lane (R39). -/
def portBound (c : Cfg) (p : Nat) : Bool :=
  match tget .unbound c.ports p with
  | .lane _ _ => true
  | _ => false

/-- A cluster serves a provisioned port: one of FP 8n to 8n + 7 is bound (R19, R247). -/
def clusterServes (s : State) (n : Nat) : Bool := (List.range 8).any fun i => portBound s.cfg (8 * n + i)

/-- A cluster is running (R247, R372). -/
def clusterRuns (s : State) (n : Nat) : Bool :=
  let c := tget {} s.eng.cl n
  domOn s (32 + n) && !c.faulted && c.stopped.isEmpty

/-- HEALTH (R247). -/
def health (s : State) : Word16 :=
  let b0 := !s.twin.linkUp
  let b1 := !s.tim.aligned
  let b2 := !s.twin.gaps.isEmpty || decide (s.twin.mirrorSeq < be s.twin.hdr.raw 38 8)
  let b3 := s.twin.pageDiff
  let b5 := (List.range 32).any fun n => clusterServes s n && !clusterRuns s n
  let w := (0 : Word16)
  putBit (putBit (putBit (putBit (putBit (putBit (putBit (putBit (putBit (putBit w 0 b0) 1 b1) 2 b2) 3 b3)
    4 s.jrn.fault) 5 b5) 6 s.pwr.pfw) 7 s.pwr.hot) 8 (decide (s.img.state = 4))) 9 (keyAbsent s)

/-- Frames run: FN counts (R33). -/
def framesRun (s : State) : Bool :=
  !(decide (s.mode.mode = .safe) || (decide (s.mode.mode = .boot) && s.rst.coldEntry))

end Sys2Proof.Machine
end

