-- ==== Sys2Proof/Machine/Ingress.lean ====
section
/-! DEFINITION. What the receivers make of the bytes they are given: pointer interpreters (R44, R107, R147), H4 multiframes
(R108), the readings of a groom position's structure (R105), and the framing patterns of E1 and T1 carriers (R119 to R124).
A row of the table that names such a happening brings the bytes received; whether the happening comes about is decided
here. -/
namespace Sys2Proof.Machine

-- Pointer interpreters.

/-- Bits in which two words differ. -/
def bitsOff {n : Nat} (a b : BitVec n) : Nat := (List.range n).countP fun i => bit a i != bit b i

/-- What a pointer word H1/H2 or V1/V2 says to an interpreter that holds a value (G.783). -/
inductive PtrWord where
  | allOnes | concat | ndf (v : Nat) | held | up | down | fresh (v : Nat) | bad
  deriving DecidableEq, Repr

/-- NDF enabled 1001 and disabled 0110, each with at most one bit wrong (G.783, PRESUMED). -/
def ndfEnabled (w : Word16) : Bool := decide (bitsOff (w.extractLsb' 12 4) (9#4) ≤ 1)
def ndfDisabled (w : Word16) : Bool := decide (bitsOff (w.extractLsb' 12 4) (6#4) ≤ 1)

/-- The ten bits of a pointer word, I and D bits in turn from the most significant. -/
def ptrBits (w : Word16) : BitVec 10 := w.extractLsb' 0 10

/-- I bits, and D bits, that differ from the value held (R107). -/
def iBitsOff (held : Nat) (w : Word16) : Nat :=
  [9, 7, 5, 3, 1].countP fun i => bit (ptrBits w) i != held.testBit i
def dBitsOff (held : Nat) (w : Word16) : Nat :=
  [8, 6, 4, 2, 0].countP fun i => bit (ptrBits w) i != held.testBit i

/-- The largest pointer value of an STS-1 or an AU (G.707). -/
def auTop : Nat := 782

/-- Read a pointer word whose values run to `top` (R107): I and D bits are judged by majority. The concatenation indication
1001 with ten ones is a word of a high-order pointer alone (R44). -/
def readPtr (top : Nat) (held : Option Nat) (w : Word16) : PtrWord :=
  let v := (ptrBits w).toNat
  if w = 0xFFFF then .allOnes
  else if top = auTop ∧ ndfEnabled w ∧ v = 1023 then .concat
  else if ndfEnabled w then (if v ≤ top then .ndf v else .bad)
  else if !ndfDisabled w then .bad
  else match held with
    | some h =>
      if v = h then .held
      else if 3 ≤ iBitsOff h w ∧ dBitsOff h w ≤ 2 then .up
      else if 3 ≤ dBitsOff h w ∧ iBitsOff h w ≤ 2 then .down
      else if v ≤ top then .fresh v else .bad
    | none => if v ≤ top then .fresh v else .bad

/-- A word shows a structure (0 none): one that three words in a row show is settled (R44, R163). -/
def showWord (x : PtrState) (c : Nat) : PtrState :=
  let n := if c = 0 then 0 else if c = x.shown then min (x.run + 1) 3 else 1
  { x with shown := c, run := n, str := if n = 3 then c else x.str }

/-- One word at an interpreter (R107): LOP after 8 invalid or 8 NDF-enabled pointers, AIS after 3 of all ones, normal after
3 identical valid pointers or one that is NDF-enabled, a justification not within 3 words of the last event; a
concatenation indication stands after 3 (R44). -/
def ptrStep (top : Nat) (x : PtrState) (w : Word16) : PtrState :=
  let k := readPtr top (if x.st = .norm then some x.val else none) w
  let valid := match k with | .held => some x.val | .fresh v => some v | _ => none
  let same := match valid with | some v => if x.cand = v ∧ x.same ≠ 0 then x.same + 1 else 1 | none => 0
  let x' : PtrState := { x with
    cand := valid.getD x.cand, same := min same 3,
    inval := (match k with | .bad => min (x.inval + 1) 8 | .fresh _ => min (x.inval + 1) 8 | _ => 0),
    ndf := (match k with | .ndf _ => min (x.ndf + 1) 8 | _ => 0),
    ones := (match k with | .allOnes => min (x.ones + 1) 3 | _ => 0),
    conc := (match k with | .concat => min (x.conc + 1) 3 | _ => 0),
    since := min (x.since + 1) 3 }
  let x' := showWord x' (match k with | .concat => 2 | .bad => 0 | .allOnes => 0 | _ => 1)
  if x'.ones = 3 then { x' with st := .ais }
  else if x'.conc = 3 then { x' with st := .conc }
  else if x'.ndf = 8 ∨ (x'.inval = 8 ∧ x'.same < 3) then { x' with st := .lop }
  else match k with
    | .ndf v => { x' with st := .norm, val := v, since := 0 }
    | .up => if x.since = 3 then { x' with val := (x.val + 1) % (top + 1), since := 0 } else x'
    | .down => if x.since = 3 then { x' with val := (x.val + top) % (top + 1), since := 0 } else x'
    | _ =>
      if x'.same = 3 ∧ (x.st ≠ .norm ∨ x.val ≠ x'.cand) then
        { x' with st := .norm, val := x'.cand, inval := 0, since := 0 }
      else x'

/-- Pointer words, two bytes each, H1 or V1 first. -/
def ptrWords (bs : Bytes) : List Word16 := (List.range (bs.length / 2)).map fun i => BitVec.ofNat 16 (be bs (2 * i) 2)

/-- The largest pointer value by the size of what it points into: 0 to 3 a VT1.5, VT2, VT6 or TU-3, 4 an STS or AU (G.707). -/
def ptrTop : Nat → Nat
  | 0 => 103 | 1 => 139 | 2 => 427 | 3 => 764 | _ => auTop

-- Persistence, markers and multiframes.

/-- The last n values received all satisfy a test, or all fail it (R163). -/
def persists (n : Nat) (on : Bool) (p : Byte → Bool) (bs : Bytes) : Bool := decide (bs.length = n) && bs.all fun b => p b == on

/-- A value received n times in a row is accepted. -/
def acceptedByte (n : Nat) (bs : Bytes) : Option Byte :=
  match bs with
  | b :: _ => if bs.length = n ∧ bs.all (· == b) then some b else none
  | [] => none

/-- One lane marker of a logical lane (R156), of n lanes: five consistent ones give an identity, five inconsistent ones end
it. -/
def llmStep (n : Nat) (x : LlmState) (v : Nat) : LlmState :=
  let d := v % n
  let run := if x.run ≠ 0 ∧ x.cand = d then min (x.run + 1) 5 else 1
  let miss := match x.id with | some a => if a = d then 0 else min (x.miss + 1) 5 | none => 0
  let id := if miss = 5 then none else x.id
  { cand := d, run := run, miss := if miss = 5 then 0 else miss,
    id := if id.isNone ∧ run = 5 then some d else id }

/-- One multiframe byte of an OTU, or OMFI of an ODU4, counting modulo n (R157): two expected in a row are in multiframe, five
unexpected out of it. -/
def mfStep (n : Nat) (now : FN) (x : MfState) (b : Byte) : MfState :=
  let want := (x.last + 1) % n
  if b.toNat = want then
    let g := min (x.good + 1) 2
    { last := want, good := g, bad := 0, inMf := x.inMf || g == 2, since := if !x.inMf && g == 2 then now else x.since }
  else
    let k := min (x.bad + 1) 5
    let out := x.inMf && k == 5
    { last := if x.inMf ∧ !out then want else b.toNat, good := 0, bad := k, inMf := x.inMf && !out,
      since := if out then now else x.since }

-- H4 and structure.

/-- One frame's H4 at a groom position (R108): two frames in the expected phase align it, eight in another lose it. -/
def h4Step (x : H4State) (b : Byte) : H4State :=
  let p := b.toNat % 4
  if p = (x.phase + 1) % 4 then
    let g := min (x.good + 1) 2
    { phase := p, good := g, bad := 0, aligned := x.aligned || g == 2, lost := x.lost && g != 2 }
  else
    let n := min (x.bad + 1) 8
    let gone := decide (n = 8)
    { phase := if x.aligned ∧ !gone then (x.phase + 1) % 4 else p, good := 0, bad := n, aligned := x.aligned && !gone,
      lost := x.lost || gone }

/-- What a reading of SS bits says of a group (R105): 11 VT1.5, 10 VT2, 00 VT6, 01 unsized. -/
def ssCode (ss : Nat) : Nat :=
  match ss with | 3 => 1 | 2 => 2 | 0 => 3 | _ => 0

/-- What the pointer of a TUG-3's column 1 says of it (R105): the null pointer indication 1001 with 1111100000 is TUG-2
structured, any other valid pointer a TU-3. -/
def tugCode (w : Word16) : Nat :=
  if (ptrBits w).toNat = 0x3E0 ∧ ndfEnabled w then 1
  else match readPtr 764 none w with
    | .ndf _ => 2 | .fresh _ => 2 | _ => 0

/-- One reading: a value read three times in a row is settled (R105); `lasting` says that a reading of 0 finds nothing and
leaves what is settled. -/
def takeReading (lasting : Bool) (k : Nat) (x : SMap (Nat × Nat) × SMap Nat) (v : Nat) : SMap (Nat × Nat) × SMap Nat :=
  let old := tget (0, 0) x.1 k
  let n := if old.1 = v then min (old.2 + 1) 3 else 1
  (tset (0, 0) x.1 k (v, n), if n = 3 ∧ (v ≠ 0 ∨ !lasting) then tset 0 x.2 k v else x.2)

-- Carrier framing.

/-- FAS x0011011 and bit 2 of NFAS in a time slot 0 (R120). -/
def fasOk (b : Byte) : Bool := decide (b &&& 0x7F = 0x1B)
def nfasOk (b : Byte) : Bool := bit b 6

/-- F bits of an SF superframe: Ft 101010 in odd frames, Fs 001110 in even ones (R121). -/
def sfPattern : List Bool := [true, false, false, false, true, true, false, true, true, true, false, false]

/-- FPS 001011, in frames 4, 8, … 24 of an ESF superframe (R121). -/
def fpsPattern : List Bool := [false, false, true, false, true, true]

/-- Bit i of a string of bits, one to a byte. -/
def flagAt (bs : Bytes) (i : Nat) : Bool := bit (byteAt bs i) 0

/-- The F bit of frame i (0 first) of an ESF superframe fits, as far as the FPS fixes it. -/
def fpsFits (i : Nat) (b : Bool) : Bool := decide (i % 4 ≠ 3) || b == fpsPattern.getD (i / 4) false

/-- The bytes read at a position verify it (R120, R121): time slot 0 of three frames for an E1; 36 F bits that fit the SF
pattern at one phase; for ESF 72 F bits that fit the FPS at one phase, after a byte with the CRC-6 computed over the last but
one of the superframes that lie whole within them, which the last of those carries. -/
def verifies (t1 esf : Bool) (bs : Bytes) : Bool :=
  if !t1 then decide (bs.length = 3) && fasOk (byteAt bs 0) && nfasOk (byteAt bs 1) && fasOk (byteAt bs 2)
  else if !esf then
    decide (bs.length = 36) && (List.range 12).any fun k =>
      (List.range 36).all fun i => flagAt bs i == sfPattern.getD ((i + k) % 12) false
  else
    let f := bs.drop 1
    decide (bs.length = 73) && (List.range 24).any fun k =>
      ((List.range 72).all fun i => fpsFits ((i + k) % 24) (flagAt f i)) &&
        (List.range 6).all fun i => flagAt f (48 - k + 4 * i + 1) == bit (byteAt bs 0) (5 - i)

/-- Three bytes in a row that all fail a test. -/
def threeBad (ok : Nat → Bool) : List Nat → Bool
  | a :: b :: c :: rest => (!ok a && !ok b && !ok c) || threeBad ok (b :: c :: rest)
  | _ => false

/-- The bytes of every second place of a list, from the first. -/
def everySecond : List Nat → List Nat
  | a :: _ :: rest => a :: everySecond rest
  | [a] => [a]
  | [] => []

/-- Errors in consecutive framing bits from place k of a pattern. -/
def framingErrors (pattern : List Bool) (k : Nat) (bits : List Nat) : List Bool :=
  (List.range bits.length).map fun i => decide (bits.getD i 0 = 1) != pattern.getD ((k + i) % pattern.length) false

/-- Two errors among four consecutive bits. -/
def twoInFour : List Bool → Bool
  | a :: b :: c :: d :: rest => decide (2 ≤ [a, b, c, d].countP id) || twoInFour (b :: c :: d :: rest)
  | l => decide (2 ≤ l.countP id)

/-- The bits received lose alignment (R120, R121). E1: time slot 0 of consecutive frames from one with FAS, three errored FAS
in a row or, with NFAS_LOSS, three errored bits 2 of NFAS. T1: the place of the first bit in Ft (SF) or FPS (ESF), then the
bits; two errored of four. -/
def losesAlignment (t1 esf nfasLoss : Bool) (ev : List Nat) : Bool :=
  if !t1 then
    threeBad (fun b => fasOk (BitVec.ofNat 8 b)) (everySecond ev) ||
      (nfasLoss && threeBad (fun b => nfasOk (BitVec.ofNat 8 b)) (everySecond ev.tail))
  else twoInFour (framingErrors (if esf then fpsPattern else [true, false]) (ev.headD 0) ev.tail)

/-- Errored blocks that make a false-lock exit (R120, R121): 915 of 1,000 CRC-4 submultiframes, 320 of 333 ESF superframes. -/
def falseLockErrors (t1 : Bool) (errs total : Nat) : Bool :=
  if t1 then decide (total = 333 ∧ 320 ≤ errs) else decide (total = 1000 ∧ 915 ≤ errs)

/-- Two valid MFAS of a CRC-4 multiframe, by their FN, the last now: spaced by 2 ms or a multiple of it, within 8 ms (R120). -/
def crc4Found (now : Nat) (ev : List Nat) : Bool :=
  ev.contains now && ev.any fun f => decide (f < now ∧ (now - f) % 16 = 0 ∧ now - f ≤ 64)

/-- A CAS multiframe begins (R120): MFAS 0000 in bits 1 to 4 of time slot 16 after a frame in which they are not. -/
def casFound (ev : List Nat) : Bool :=
  match ev with
  | [a, b] => decide (a / 16 % 16 ≠ 0) && decide (b / 16 % 16 = 0)
  | _ => false

/-- A CAS multiframe is lost (R120): two errored MFAS in a row, or sixteen time slots 16 of zeros. -/
def casLost (ev : List Nat) : Bool :=
  match ev with
  | [a, b] => decide (a / 16 % 16 ≠ 0 ∧ b / 16 % 16 ≠ 0)
  | l => decide (l.length = 16) && l.all (· == 0)

/-- AIS of a carrier by the zeros of two consecutive periods of 512 bits (E1) or 3,088 bits (T1): under 3 in each declares
it, 3 or more in each clears it (R124). -/
def carrierAisSeen (ev : List Nat) (on : Bool) : Bool :=
  match ev with
  | [a, b] => if on then decide (a < 3 ∧ b < 3) else decide (3 ≤ a ∧ 3 ≤ b)
  | _ => false

/-- RAI (R124): the A bit of three NFAS; the number of consecutive frames of SF, or of patterns in the data link of ESF, with
or without the indication. -/
def raiSeen (t1 esf : Bool) (ev : List Nat) (on : Bool) : Bool :=
  if !t1 then decide (ev.length = 3) && ev.all fun b => b.testBit 5 == on
  else decide ((if esf then 16 else 48) ≤ ev.headD 0)

/-- CAS RAI (R124): y, bit 6 of time slot 16 of frame 0, in three consecutive multiframes. -/
def casRaiSeen (ev : List Nat) (on : Bool) : Bool :=
  decide (ev.length = 3) && ev.all fun b => b.testBit 2 == on

end Sys2Proof.Machine
end

