-- ==== Sys2Proof/Machine/Crypto.lean ====
section
/-! DEFINITION. The published check codes the manual names: the CRC-32 of IEEE 802.3 (R140), SHA-256 and SHA-384
(R384, R437, R438), HMAC-SHA-256 (R250, R431) and the verification of ECDSA P-384 (R439, R454). The manual refers to
FIPS 180-4, 198-1 and 186-4 for them (R11); their constants are PRESUMED from those standards (entry 7). -/
namespace Sys2Proof.Machine

/-- One bit of the reflected CRC-32. -/
def crcBit (c : Word32) : Word32 := if bit c 0 then (c >>> 1) ^^^ 0xEDB88320#32 else c >>> 1

/-- One byte of the CRC-32. -/
def crcByte (c : Word32) (b : Byte) : Word32 :=
  crcBit (crcBit (crcBit (crcBit (crcBit (crcBit (crcBit (crcBit (c ^^^ b.setWidth 32))))))))

/-- CRC-32: reflected, initial value and final exclusive-or all ones (R140). -/
def crc32 (bs : Bytes) : Word32 := ~~~(bs.foldl crcByte 0xFFFFFFFF#32)

/-- The e-th root of n rounded down, its bits tried from bit `b - 1` of `r` downwards. -/
def rootFrom (e n : Nat) : Nat → Nat → Nat
  | 0, r => r
  | b + 1, r => rootFrom e n b (if (r + 2 ^ b) ^ e ≤ n then r + 2 ^ b else r)

/-- The first w bits of the fraction of the e-th root of p, for p below 2^9 (FIPS 180-4). -/
def rootFraction (w e p : Nat) : Nat := rootFrom e (p * 2 ^ (e * w)) (w + 5) 0 % 2 ^ w

/-- The 80 primes that the constants are taken from: each below 21^2. -/
def shaPrimes : List Nat :=
  (List.range 410).filter fun n => decide (2 ≤ n) && (List.range 21).all fun d => decide (d < 2 ∨ d = n ∨ n % d ≠ 0)

/-- The round constants of SHA-512 and SHA-384, from the cube roots of the primes; their high halves are those of SHA-256. -/
def shaK : List Word64 := shaPrimes.map fun p => BitVec.ofNat 64 (rootFraction 64 3 p)

/-- Eight initial words of w bits, from the square roots of the primes after the first `skip`. -/
def shaInit (w skip : Nat) : List (BitVec w) := ((shaPrimes.drop skip).take 8).map fun p => BitVec.ofNat w (rootFraction w 2 p)

/-- What tells the functions of FIPS 180-4 apart at a word width: the rotations of Σ0 and Σ1, and for σ0 and σ1 two rotations and
a shift. -/
structure ShaForm where
  sum0 : List Nat
  sum1 : List Nat
  mix0 : List Nat × Nat
  mix1 : List Nat × Nat

/-- SHA-256. -/
def form256 : ShaForm := { sum0 := [2, 13, 22], sum1 := [6, 11, 25], mix0 := ([7, 18], 3), mix1 := ([17, 19], 10) }

/-- SHA-384 and SHA-512. -/
def form512 : ShaForm := { sum0 := [28, 34, 39], sum1 := [14, 18, 41], mix0 := ([1, 8], 7), mix1 := ([19, 61], 6) }

/-- Exclusive-or of a word's rotations. -/
def rotations {n : Nat} (rs : List Nat) (x : BitVec n) : BitVec n := (rs.map x.rotateRight).foldl (· ^^^ ·) 0

/-- σ: rotations and a shift. -/
def mixWord {n : Nat} (p : List Nat × Nat) (x : BitVec n) : BitVec n := rotations p.1 x ^^^ (x >>> p.2)

/-- Ch: each bit of x takes the bit of y or of z. -/
def choiceWord {n : Nat} (x y z : BitVec n) : BitVec n := z ^^^ (x &&& (y ^^^ z))

/-- Maj: the bit that two of three hold. -/
def majorWord {n : Nat} (x y z : BitVec n) : BitVec n := (x &&& (y ||| z)) ||| (y &&& z)

/-- The next word of the message schedule from the 16 before it, oldest first. -/
def nextWord {n : Nat} (f : ShaForm) (win : List (BitVec n)) : BitVec n :=
  let old := fun (i : Nat) => win.getD i 0
  mixWord f.mix1 (old 14) + mixWord f.mix0 (old 1) + (old 9 + old 0)

/-- One round on the eight working words: what enters at the fifth, and what enters at the first. -/
def shaRound {n : Nat} (f : ShaForm) (v : List (BitVec n)) (kw : BitVec n) : List (BitVec n) :=
  let x := fun (i : Nat) => v.getD i 0
  let low := kw + x 7 + choiceWord (x 4) (x 5) (x 6) + rotations f.sum1 (x 4)
  let high := low + majorWord (x 0) (x 1) (x 2) + rotations f.sum0 (x 0)
  high :: v.take 3 ++ (x 3 + low) :: (v.drop 4).take 3

/-- The rounds of a block, the window of the schedule moving along with the constants. -/
def shaBlock {n : Nat} (f : ShaForm) : List (BitVec n) → List (BitVec n) → List (BitVec n) → List (BitVec n)
  | [], _, v => v
  | k :: ks, win, v => shaBlock f ks (win.tail ++ [nextWord f win]) (shaRound f v (k + win.headD 0))

/-- The blocks of a padded message, `todo` of them, of words of `size` bytes. -/
def shaBlocks {n : Nat} (f : ShaForm) (size : Nat) (ks : List (BitVec n)) : Nat → Bytes → List (BitVec n) → List (BitVec n)
  | 0, _, v => v
  | todo + 1, m, v =>
    let win := (List.range 16).map fun i => BitVec.ofNat n (be m (size * i) size)
    shaBlocks f size ks todo (m.drop (16 * size)) ((v.zip (shaBlock f ks win v)).map fun x => x.1 + x.2)

/-- The hash of a message: padded with a set bit, zeros and its length in bits over two words; the working words after its last
block, big-endian. -/
def shaHash {n : Nat} (f : ShaForm) (size : Nat) (ks init : List (BitVec n)) (m : Bytes) : Bytes :=
  let todo := (m.length + 2 * size) / (16 * size) + 1
  let fill := zeros (16 * size * todo - 2 * size - 1 - m.length)
  (shaBlocks f size ks todo (m ++ 0x80 :: fill ++ toBE (2 * size) (8 * m.length)) init).flatMap fun x => toBE size x.toNat

/-- SHA-256 (FIPS 180-4). -/
def sha256 (m : Bytes) : Bytes :=
  shaHash form256 4 ((shaK.take 64).map fun (x : Word64) => x.extractLsb' 32 32) (shaInit 32 0) m

/-- SHA-384 (FIPS 180-4): the first 48 bytes. -/
def sha384 (m : Bytes) : Bytes := (shaHash form512 8 shaK (shaInit 64 8) m).take 48

/-- HMAC-SHA-256 (FIPS 198-1). -/
def hmac256 (key msg : Bytes) : Bytes :=
  let k := fit 64 (if key.length > 64 then sha256 key else key)
  sha256 (k.map (· ^^^ 0x5c) ++ sha256 (k.map (· ^^^ 0x36) ++ msg))

/-- The prime of P-384. -/
def p384 : Nat := 2 ^ 384 - 2 ^ 128 - 2 ^ 96 + 2 ^ 32 - 1

/-- The order of the group of P-384. -/
def n384 : Nat :=
  0xffffffffffffffffffffffffffffffffffffffffffffffffc7634d81f4372ddf581a0db248b0a77aecec196accc52973

/-- The coefficient b of P-384. -/
def b384 : Nat :=
  0xb3312fa7e23ee7e4988e056be3f82d19181d9c6efe8141120314088f5013875ac656398d8a2ed19d2a85c8edd3ec2aef

/-- The base point of P-384. -/
def g384 : Nat × Nat :=
  (0xaa87ca22be8b05378eb1c71ef320ad746e1d3b628ba79b9859f741e082542a385502f25dbf55296c3a545e3872760ab7,
   0x3617de4a96262c6f5d9e98bf9292dc29f8f41dbd289a147ce9da3113b5f0b8c00a60b1ce1d7e819d7a431d7c90ea0e5f)

/-- `x ^ e` modulo `m`, over the bits of `e` from the top, `fuel` bits. -/
def powMod (m x : Nat) : Nat → Nat → Nat
  | 0, _ => 1 % m
  | fuel + 1, e =>
    let h := powMod m x fuel (e / 2)
    if e % 2 = 1 then h * h % m * x % m else h * h % m

/-- The inverse modulo a prime. -/
def invMod (m x : Nat) : Nat := powMod m x 384 (m - 2)

/-- Sum of two points; none is the point at infinity. -/
def ptAdd : Option (Nat × Nat) → Option (Nat × Nat) → Option (Nat × Nat)
  | none, q => q
  | p, none => p
  | some (x1, y1), some (x2, y2) =>
    if x1 = x2 ∧ (y1 + y2) % p384 = 0 then none
    else
      let l :=
        if x1 = x2 then (3 * x1 * x1 + (p384 - 3)) % p384 * invMod p384 (2 * y1 % p384) % p384
        else (y2 + (p384 - y1)) % p384 * invMod p384 ((x2 + (p384 - x1)) % p384) % p384
      let x3 := (l * l + (p384 - x1) + (p384 - x2)) % p384
      some (x3, (l * ((x1 + (p384 - x3)) % p384) + (p384 - y1)) % p384)

/-- `k` times a point, over `fuel` bits. -/
def ptMul (q : Option (Nat × Nat)) : Nat → Nat → Option (Nat × Nat)
  | 0, _ => none
  | fuel + 1, k =>
    let h := ptMul q fuel (k / 2)
    if k % 2 = 1 then ptAdd (ptAdd h h) q else ptAdd h h

/-- ECDSA P-384 over a SHA-384 digest (FIPS 186-4): key x then y, signature r then s, big-endian (R437, R439). -/
def ecdsa384 (key sig digest : Bytes) : Bool :=
  let x := be key 0 48
  let y := be key 48 48
  let r := be sig 0 48
  let s := be sig 48 48
  let onCurve := decide (x < p384 ∧ y < p384 ∧ y * y % p384 = (x * x * x + (p384 - 3) * x + b384) % p384)
  let inRange := decide (0 < r ∧ r < n384 ∧ 0 < s ∧ s < n384)
  let w := invMod n384 s
  let u1 := be digest 0 48 * w % n384
  let u2 := r * w % n384
  onCurve && inRange &&
    match ptAdd (ptMul (some g384) 384 u1) (ptMul (some (x, y)) 384 u2) with
    | none => false
    | some (px, _) => decide (px % n384 = r)

end Sys2Proof.Machine
end

