-- ==== Sys2Proof/Machine/Ops.lean ====
section
/-! DEFINITION. The named operations the meanings share: the interrupt message (R313), events and their queue (R300,
R301), completions (R299), host buffers (R297, R304), the audit log (R387 to R390), journal records (R431, R432) and
mode changes (R26). -/
namespace Sys2Proof.Machine

/-- Count happenings in counter `c` of block `b` (R400): 48 bits, wrapping into OVF (R402). -/
def bump (b c n : Nat) (s : State) : State :=
  let k := 4 * b + c
  let w := tget 0 s.bel.ctr k
  let v := fld w 0 48 + n
  let ovf := bit w 63 || decide (2 ^ 48 ≤ v)
  { s with bel := { s.bel with
      ctr := tset 0 s.bel.ctr k (BitVec.ofNat 64 (v % 2 ^ 48 + (if ovf then 2 ^ 63 else 0))) } }

/-- A message falls due: it is sent, or sets the pending bit while the vector or the function is masked (R313). -/
def sendMsix (s : State) : State :=
  if s.host.msixEn then
    if s.host.vecMask || s.host.funcMask then { s with host := { s.host with pend := true } }
    else { s with host := { s.host with msixSent := s.host.msixSent + 1, pend := false } }
  else s

/-- The MSI-X vector mirrors a rise of the interrupt condition from one state to the next (R313). -/
def irqEdge (s s' : State) : State := if irqCond s' && !irqCond s then sendMsix s' else s'

/-- The end of every step. -/
def finish (s s' : State) : Host.Outcome State Fault Refusal := .next (irqEdge s s')

/-- A payload or result field: first byte, bytes, value (R8). -/
abbrev Field := Nat × Nat × Nat

/-- A little-endian structure of `n` bits built from its fields. -/
def pack (n : Nat) (fs : List Field) : BitVec n :=
  fs.foldl (fun w f => w ||| place n (8 * f.1) (f.2.2 % 2 ^ (8 * f.2.1))) 0

/-- A little-endian structure as bytes. -/
def packBytes (n : Nat) (fs : List Field) : Bytes := toLE n (pack (8 * n) fs).toNat

/-- RESULT of a completion (R299). -/
def res (fs : List Field) : Word64 := pack 64 fs

/-- Entries a ring of size code n holds (R292). -/
def ringSize (r : Ring) : Nat := 2 ^ r.size.toNat

/-- Entries between a writer's position and a reader's (R293). -/
def ringDist (r : Ring) (w rd : Nat) : Nat := (w + 2 * (2 * ringSize r) - rd) % (2 * ringSize r)

/-- The next position, modulo 2N (R293). -/
def ringNext (r : Ring) : BitVec 17 := BitVec.ofNat 17 ((r.pos.toNat + 1) % (2 * ringSize r))

/-- PHASE of the entry at a position: 1 below N (R293). -/
def phaseAt (r : Ring) (p : Nat) : Bool := decide (p < ringSize r)

/-- A ring the module writes is full (R293). -/
def ringFull (r : Ring) : Bool := decide (ringDist r r.pos.toNat r.host.toNat = ringSize r)

/-- The host's link can be used (R305). -/
def linkUsable (s : State) : Bool := s.host.linkUp && s.host.busMaster && !s.host.d3hot && !s.host.perst

/-- The event ring cannot take an entry now (R301): disabled or full, and so in effect where it is halted or the link cannot be used
(R304 and R305 queue events under R301 too: DEDUCED, entry 161). -/
def evtHeld (s : State) : Bool := !s.host.evt.en || s.host.evt.halted || ringFull s.host.evt || !linkUsable s

/-- Events that are queued when the ring stops taking them are held there from then on, with EVT.QUEUED (R301). -/
def noteHeld (old s : State) : State :=
  if entered s && !evtHeld old && evtHeld s && (!s.host.evtQ.isEmpty || s.host.lost.isSome) then raise gEvt 1 s else s

/-- Post an event raised in frame `fn` (R300, R301): before mode entry it is lost; a full queue of 8,192 discards it into
the EVENTS_LOST entry, which takes the SEQ of the first discard. -/
def postAt (code : Byte) (fn : FN) (payload : BitVec 160) (s : State) : State :=
  if !entered s then s else
  let h := s.host
  let seq := h.evtSeq
  let s := { s with host := { h with evtSeq := seq + 1 } }
  if h.evtQ.length < 8192 then
    let s := { s with host := { s.host with
      evtQ := h.evtQ ++ [{ code := code, mode := s.mode.mode, seq := seq, fn := fn, payload := payload }] } }
    if evtHeld s then raise gEvt 1 s else s
  else
    match h.lost with
    | some (n, l) => { s with host := { s.host with lost := some (n, { l with count := l.count + 1, last := fn }) } }
    | none =>
      raise gEvt 2 { s with host := { s.host with
        lost := some (8192, { seq := seq, mode := s.mode.mode, count := 1, first := fn, last := fn }) } }

/-- Post an event raised in the present frame (R300). -/
def post (code : Byte) (fs : List Field) (s : State) : State := postAt code s.clk.fn (pack 160 fs) s

/-- Low bits of a signed number, as a field. -/
def signed (w : Nat) (v : Int) : Nat := (BitVec.ofInt w v).toNat

/-- SYNC_STATE as reported: 0 outside STANDBY (R261). -/
def syncCode (s : State) : Nat := if s.mode.mode = .standby then s.mode.sync.toNat else 0

/-- A TWIN cause and its event (R269, R342). -/
def twinNote (b : Nat) (s : State) : State :=
  post 0x40 [(0, 1, b), (1, 1, modeCode s.mode.mode), (2, 1, syncCode s), (4, 4, s.twin.epoch.toNat),
    (8, 8, s.page.live.epoch.toNat)] (raise gTwin b s)

/-- A member coded as R275 byte 54: [7] valid, [5:4] slice, [3] unit. -/
def memberByte : Option Nat → Nat
  | none => 0
  | some m => 0x80 + 16 * (m / 2 % 4) + 8 * (m % 2)

/-- A GRP cause and its event, naming the member concerned (R287, R342). -/
def grpNote (b : Nat) (m : Option Nat) (s : State) : State :=
  post 0x48 [(0, 1, b), (1, 1, memberByte m), (4, 8, s.cfg.epoch.toNat), (12, 8, s.page.live.epoch.toNat)]
    (raise gGrp b s)

/-- An UPD cause and its event (R342). -/
def updNote (b reason : Nat) (version : Word32) (s : State) : State :=
  post 0x60 [(0, 1, b), (1, 1, reason), (4, 4, version.toNat)] (raise gUpd b s)

/-- The hottest valid junction sensor in 0.1 °C (R315, R420). -/
def hottest (s : State) : Int :=
  (List.range 12).foldl
    (fun m i => if s.pwr.excluded.contains i then m else max m (tget 250 s.pwr.temps i)) (-550)

/-- A PWR or THERM cause and its ENVIRONMENT event (R342). -/
def envNote (g b : Nat) (s : State) : State :=
  post 0x68 [(0, 1, g), (1, 1, b), (2, 2, s.pwr.vin / 10), (4, 2, signed 16 (hottest s))] (raise g b s)

/-- A SEC cause and its event (R342). -/
def secNote (b port : Nat) (s : State) : State := post 0x70 [(0, 1, b), (1, 1, port)] (raise gSec b s)

/-- An OBS cause and its event (R342). -/
def obsNote (b who : Nat) (fp : Nat) (s : State) : State :=
  post 0x78 [(0, 1, b), (1, 1, who), (4, 8, fp)] (raise gObs b s)

/-- A JOURNAL event (R342). -/
def journalNote (kind seq : Nat) (s : State) : State := post 0x04 [(0, 1, kind), (4, 6, seq)] s

/-- A PROT event (R342). -/
def protNote (kind obj leg req idx : Nat) (s : State) : State :=
  post 0x20 [(0, 1, kind), (1, 1, obj), (2, 1, leg), (3, 1, req), (4, 4, idx)] s

/-- A completion enters the queue of those to be written (R299). -/
def complete (tok : CmdTok) (status obj : Byte) (result : Word64) (s : State) : State :=
  { s with host := { s.host with
      cplQ := s.host.cplQ ++ [{ tok := tok, status := status, obj := obj, result := result }] } }

/-- A completion of a command whose token may have been abandoned by a reset, SAFE entry or PERST_N (R35, R306). -/
def completeOpt (tok : Option CmdTok) (status obj : Byte) (result : Word64) (s : State) : State :=
  match tok with
  | some t => complete t status obj result s
  | none => s

/-- Completion with OK. -/
def completeOk (tok : CmdTok) (fs : List Field) (s : State) : State := complete tok stOk 0 (res fs) s

/-- Completion of a command that was refused for a cause outside its object's state. -/
def refuse (tok : CmdTok) (status : Byte) (fs : List Field) (s : State) : State := complete tok status 0 (res fs) s

/-- A host access on CH3 has failed for good: HOST_MEMORY and DMA.BULK_FAULT (R304). -/
def hostFail (tok : CmdTok) (fs : List Field) (s : State) : State :=
  refuse tok stHostMemory fs (raise gDma 3 { s with draws := s.draws + 1, host := { s.host with bulkFail := false, bulkBursts := 0 } })

/-- An audit entry of the present state (R388, R389): SEQ, the member's SLICE and UNIT, the FN of the change. -/
def auditOf (s : State) (kind origin : Nat) (slice : Nat) (unit : Bool) (part parts : Nat) (fn : FN) (opcode : Byte)
    (epoch data : Word64) : Audit :=
  { seq := s.bel.auditSeq, kind := kind, origin := origin, slice := slice, unit := unit, part := part, parts := parts,
    fn := fn, opcode := opcode, epoch := epoch, data := data }

/-- Write an audit entry: newest first, at most 4,096 held; AUDIT_HIGH when the newest SEQ exceeds the highest
returned by more than 3,072, once until the newest has been returned (R389, R390). -/
def auditAdd (a : Audit) (s : State) : State :=
  let b := s.bel
  let s := bump 116 1 1 { s with bel := { b with audit := (a :: b.audit).take 4096, auditSeq := b.auditSeq + 1 } }
  if a.seq + 1 > b.auditRead + 3072 && !b.auditHigh then
    obsNote 2 0xFF 0 { s with bel := { s.bel with auditHigh := true } }
  else s

/-- This member's SLICE and UNIT (R236). -/
def ownSlice (s : State) : Nat := (twinSet s).slice
def ownUnit (s : State) : Bool := (twinSet s).unit

/-- Journal space of a record (R432): a multiple of 16 bytes, at most 256 for a closing record and 2 KiB otherwise; the
size within those bounds is open. -/
def recordSize (kind : JKind) (seq : Nat) : Nat :=
  match kind with
  | .commit => 16 * (1 + Config.recordUnits seq % 16)
  | _ => 16 * (1 + Config.recordUnits seq % 128)

/-- A journal record falls due (R431): its content is the configuration after the change and, for a commit record, the
live page, its fingerprint and the audit entry. It takes its sequence number when it closes. -/
def recordDue (kind : JKind) (audits : List Audit) (s : State) : State :=
  let j := s.jrn
  let r : JRecord := {
    seq := 0, kind := kind, crcOk := true, macOk := true,
    page := (if kind = .commit then some s.page.live else none), fp := s.page.liveFp, cfg := s.cfg,
    member := s.cfg.twin.isSome || s.cfg.group.isSome, audits := audits, size := recordSize kind (j.nextSeq + j.due.length) }
  { s with jrn := { j with due := j.due ++ [r] } }

/-- A configuration change has taken effect: its audit entry (KIND 6) and its journal record (R387, R389, R431). -/
def configDone (origin : Nat) (opcode : Byte) (s : State) : State :=
  let a := auditOf s 6 origin (ownSlice s) (ownUnit s) 0 0 s.clk.fn opcode s.cfg.epoch 0
  recordDue .config [a] (auditAdd a s)

/-- A configuration record without an audit entry: settings that R387 does not list (timing, PM, power domains). -/
def configRecord (s : State) : State := recordDue .config [] s

/-- The mode changes at the start of frame `fn`: one MODE_CHANGE event with the old code, the new code, SYNC_STATE and
that FN, and RST.MODE_CHANGE (R26, R310, R342). -/
def modeChange (old : Mode) (fn : FN) (s : State) : State :=
  postAt 0x01 fn (pack 160 [(0, 1, modeCode old), (1, 1, modeCode s.mode.mode), (2, 1, syncCode s)]) (raise gRst 2 s)

/-- Enter a mode in service (R26): `carried` holds while the data hierarchy executes a page. -/
def toMode (m : Mode) (sync : BitVec 3) (s : State) : State :=
  let old := s.mode.mode
  if old = m then { s with mode := { s.mode with sync := sync } }
  else modeChange old s.clk.fn { s with mode := { s.mode with mode := m, sync := sync, since := s.clk.fn } }

/-- The module answers to its host in this mode: ORIGIN of an audit entry of its own host (R388). -/
def byHost : Nat := 0

/-- A fresh value of the random source (R452): 32 bytes the manual does not determine. -/
def drawRandom (s : State) : Bytes × State :=
  (fit 32 (Config.random s.dbg.draws), { s with dbg := { s.dbg with draws := s.dbg.draws + 1 } })

/-- Record a message the module sends in this frame. -/
def send (m : TxMsg) (s : State) : State := { s with tx := s.tx ++ [m] }

/-- CRC-32 of R140, placed big-endian. -/
def crcBE (bs : Bytes) : Bytes := toBE 4 (crc32 bs).toNat

/-- A byte string carries its own CRC over its first n bytes (R140). -/
def crcGood (bs : Bytes) (n : Nat) : Bool := decide (slice bs n 4 = crcBE (slice bs 0 n))

/-- A packet of the mate link (R241). -/
def matePacket (chan seq : Nat) (payload : Bytes) : Bytes :=
  let m := toBE 2 payload.length ++ [BitVec.ofNat 8 chan, BitVec.ofNat 8 seq] ++ payload
  m ++ crcBE m

/-- Send a packet on a channel of the mate link (R241, R242), keeping the last 256 of JOURNAL and of STAGED: none while the
link is out of service or the control hierarchy in reset (R240). -/
def sendMate (chan : Nat) (payload : Bytes) (s : State) : State :=
  if !s.twin.linkUp ∨ !entered s then s else
  let seq := tget 0 s.twin.chanSeq chan
  let (mine, other) := s.twin.sentPkts.partition fun p => p.1 == chan
  let m := matePacket chan seq payload
  let kept := if chan = 2 ∨ chan = 3 then other ++ ((chan, seq, m) :: mine).take 256 else s.twin.sentPkts
  bump 113 0 1 (send (.mate (BitVec.ofNat 8 chan) m)
    { s with twin := { s.twin with
      chanSeq := tset 0 s.twin.chanSeq chan ((seq + 1) % 256), sentPkts := kept, stream := s.twin.stream ++ [(chan, m)] } })

/-- A packet of the group bus (R273). -/
def groupPacket (type member hops seq : Nat) (payload : Bytes) : Bytes :=
  let m := [BitVec.ofNat 8 type, BitVec.ofNat 8 (16 * (member / 2) + 8 * (member % 2)), BitVec.ofNat 8 hops] ++ toBE 2 seq ++
    toBE 2 payload.length ++ payload
  m ++ crcBE m

/-- A member that knows nothing of its group: what the ports of its bus are stays (R13, R272). -/
def busPorts (g : GroupSt) : GroupSt :=
  { eastDown := g.eastDown, westDown := g.westDown, eastSync := g.eastSync, westSync := g.westSync,
    eastRd := g.eastRd, westRd := g.westRd }

/-- Originate a packet of the group bus on both ports (R273). -/
def sendGroup (type : Nat) (payload : Bytes) (s : State) : State :=
  match s.cfg.group with
  | none => s
  | some g =>
    if !entered s then s else
    let seq := tget 0 s.grp.seq type
    let me := 2 * ownSlice s + nat01 (ownUnit s)
    bump 114 0 1 (send (.group (BitVec.ofNat 8 type) (groupPacket type me (2 * g.slices - 1) seq payload))
      { s with grp := { s.grp with seq := tset 0 s.grp.seq type ((seq + 1) % 65536) } })

/-- Bytes from an address up to the next burst limit of R345: 16 beats of 16 bytes, and the 4 KiB boundary. -/
def burstRoom (a : Nat) : Nat := min (256 - a % 16) (4096 - a % 4096)

/-- Bytes that `k` bursts move from regions taken in order (R345, R363). -/
def bytesMoved : Nat → List (Nat × Nat) → Nat
  | 0, _ => 0
  | _, [] => 0
  | k + 1, (a, n) :: rest =>
    let b := min n (burstRoom a)
    b + bytesMoved k (if n ≤ b then rest else (a + b, n - b) :: rest)

/-- The earliest commit boundary that R80 permits from the present FN. -/
def earliestBn (s : State) : Nat := s.clk.fn.toNat / 48 + (if s.mode.mode = .active then 4 else 2)

/-- FN of a boundary. -/
def fnOf (bn : Nat) : FN := BitVec.ofNat 48 (48 * bn)

/-- Boundary number of an FN (R2). -/
def bnOf (fn : FN) : Nat := fn.toNat / 48

/-- Frames from FN `a` to FN `b`, as a signed distance modulo 2^48 (R3). -/
def fnDiff (b a : FN) : Int := (b - a).toInt

/-- Frame `a` is at or after frame `b` (R3). -/
def fnGe (a b : FN) : Bool := decide (0 ≤ fnDiff a b)

end Sys2Proof.Machine
end

