-- ==== Sys2Proof/Machine/Operands.lean ====
section
/-! DEFINITION. The operand forms of commands: fields of ARGS (R317), host-buffer descriptors (R297), the order in which
a command is checked (R35), the objects that waiting commands hold (R319), connection entries (R63, R64) and carrier
records (R110). -/
namespace Sys2Proof.Machine

/-- Bytes `i` to `i + w − 1` of ARGS as a number (R317, R8). -/
def arg (c : CmdEntry) (i w : Nat) : Nat := fld c.args (8 * i) (8 * w)

/-- Bit `b` of byte `i` of ARGS. -/
def argBit (c : CmdEntry) (i b : Nat) : Bool := bit c.args (8 * i + b)

/-- Bits [b + w − 1 : b] of byte `i` of ARGS. -/
def argBits (c : CmdEntry) (i b w : Nat) : Nat := fld c.args (8 * i + b) w

/-- `n` bytes of ARGS from byte `i`. -/
def argBytes (c : CmdEntry) (i n : Nat) : Bytes := toLE n (arg c i n)

/-- ARGS holds nothing outside the assigned fields (first bit, bits): every other byte is reserved (R9, R317). -/
def argsWithin (c : CmdEntry) (fields : List (Nat × Nat)) : Bool :=
  (fields.foldl (fun (w : Args) f => w &&& ~~~(ones 448 f.1 f.2)) c.args) == 0

/-- The sixteen bytes of a descriptor at byte `off` as one assigned field. -/
def descField (off : Nat) : Nat × Nat := (8 * off, 128)

/-- A descriptor as a 128-bit word. -/
def descAt (c : CmdEntry) (off : Nat) : BitVec 128 := BitVec.ofNat 128 (arg c off 16)

/-- LIST of a descriptor (R297). -/
def descList (d : BitVec 128) : Bool := bit d 96

/-- ADDR and LENGTH of a descriptor (R297). -/
def descAddr (d : BitVec 128) : Nat := fld d 0 64
def descLength (d : BitVec 128) : Nat := fld d 64 32

/-- The rules of R297 on a descriptor: alignment, length, direction, reserved bits, and those of LIST = 1. -/
def descOk (d : BitVec 128) (toHost : Bool) : Bool :=
  let addr := descAddr d
  let len := descLength d
  addr % 8 == 0 && len % 8 == 0 && decide (8 ≤ len) && (bit d 97 == toHost) && fld d 98 30 == 0 &&
    (!descList d || (addr % 16 == 0 && len % 16 == 0 && decide (16 ≤ len) && decide (len ≤ 1048576)))

/-- For a descriptor in ARGS with LIST = 0, its LENGTH against what the command requires (R35 step 3). -/
def descLenOk (d : BitVec 128) (ok : Nat → Bool) : Bool := descList d || ok (descLength d)

/-- The descriptors of a LIST = 1 array as it stands in host memory (R297). -/
def listAt (s : State) (d : BitVec 128) : List (BitVec 128) :=
  (List.range (descLength d / 16)).map fun i =>
    BitVec.ofNat 128 (fromLE (memBytes s.host.mem (descAddr d + 16 * i) 16))

/-- The buffers a descriptor names, as address and length, or the status that ends the command (R297, R304): the array
is read, each listed descriptor is judged, then the sum of the lengths. -/
def segments (s : State) (d : BitVec 128) (toHost : Bool) (ok : Nat → Bool) : Except Byte (List (Nat × Nat)) :=
  if (tget {} s.dma.ch 3).phase = .halted then .error stInternal
  else if s.host.bulkFail then .error stHostMemory
  else if descList d then
    let ds := listAt s d
    if ds.any fun e => descList e || !descOk e toHost then .error stBadArgument
    else if !ok (ds.foldl (fun n e => n + descLength e) 0) then .error stBadLength
    else .ok (ds.map fun e => (descAddr e, descLength e))
  else .ok [(descAddr d, descLength d)]

/-- Read the buffers in order. -/
def readSegs (s : State) (segs : List (Nat × Nat)) : Bytes := segs.flatMap fun g => memBytes s.host.mem g.1 g.2

/-- Write bytes over the buffers in order, from byte `off` of the whole. -/
def writeSegs : List (Nat × Nat) → Nat → Bytes → List Host.Cell → List Host.Cell
  | [], _, _, m => m
  | (a, n) :: segs, off, bs, m =>
    if n ≤ off then writeSegs segs (off - n) bs m
    else writeSegs segs 0 (bs.drop (n - off)) (memStore m (a + off) (bs.take (n - off)))

/-- End a command for a failed buffer (R304, R297): HOST_MEMORY also raises DMA.BULK_FAULT, and INTERNAL answers while
CH3 is halted (R364), with CMEM.ECC_UNCORRECTABLE (R321; which of its two causes: DESIGN CHOICE, entry 162). -/
def bufferEnd (tok : CmdTok) (e : Byte) (fs : List Field) (s : State) : State :=
  if e = stHostMemory then hostFail tok fs s
  else refuse tok e fs (if e = stInternal then raise gCmem 3 s else s)

/-- Read the buffer a command names, then go on with its bytes; `fs` is what RESULT holds under the status that ends the
command for its buffer. -/
def withRead (tok : CmdTok) (d : BitVec 128) (ok : Nat → Bool) (fs : Byte → List Field) (go : Bytes → State → State)
    (s : State) : State :=
  match segments s d false ok with
  | .error e => bufferEnd tok e (fs e) s
  | .ok segs => go (readSegs s segs) s

/-- No RESULT content (R321). -/
def noFields (_ : Byte) : List Field := []

/-- Write the buffer a command names, then go on: the data stands before the completion (R302). -/
def withWrite (tok : CmdTok) (d : BitVec 128) (ok : Nat → Bool) (bs : Bytes) (go : State → State) (s : State) :
    State :=
  match segments s d true ok with
  | .error e => bufferEnd tok e [] s
  | .ok segs => go { s with host := { s.host with mem := writeSegs segs 0 bs s.host.mem } }

/-- Kinds of object that a waiting command holds (R319): 0 lane, 1 fabric port, 2 linear group, 3 ring, 4 profile,
5 selector, 6 PRBS unit, 7 the TOD counter, 8 the image state, 9 the journal, 10 power domain. -/
abbrev ObjKey := Nat × Nat

/-- Key of a selector: 2^24 × tier + index (R183). -/
def selKey (t : Tier) (i : Nat) : Nat := 0x1000000 * tierCode t + i

/-- Key of a lane-side egress slot, beside the selector keys. -/
def laneKey (g : Nat) : Nat := 0x4000000 + g

/-- Key of a tap's copy. -/
def tapKey (u : Nat) : Nat := 0x5000000 + u

/-- Fabric ports bound to the interface of a lane, in order (R39, R40). -/
def portsOfLane (c : Cfg) (l : Nat) : List Nat :=
  (c.ports.filter fun p => match p.2 with | .lane l' _ => l' == l | _ => false).map fun p => p.1

/-- Fabric ports of the interface bound at a port, or the MONITOR port itself (R39). -/
def portRun (c : Cfg) (p : Nat) : List Nat :=
  match tget .unbound c.ports p with
  | .unbound => []
  | .monitor => [p]
  | .lane l _ => portsOfLane c l

/-- Lanes of the interface configured on a lane: the whole quad for a multi-lane mode (R129). -/
def lanesOf (mode l : Nat) : List Nat := if multiLane mode then [l, l + 1, l + 2, l + 3] else [l]

/-- The objects a scheduled effect names (R319). -/
def effectObjs (c : Cfg) : Effect → List ObjKey
  | .lane l m => (lanesOf (max m.mode.toNat (laneMode c l)) l).map fun x => (0, x)
  | .bind base l => (List.range (portCount (laneMode c l))).map fun i => (1, base + i)
  | .monitor fp => [(1, fp)]
  | .unbind fp => (1, fp) :: (portRun c fp).map fun p => (1, p)
  | .trace fp _ => [(1, fp)]
  | .linear g _ => [(2, g)]
  | .ring r _ => [(3, r)]
  | .remap fp _ => [(1, fp)]
  | .distrust l _ _ => [(0, l)]
  | .delLinear g => [(2, g)]
  | .delRing r => [(3, r)]
  | .profile p _ => [(4, p)]
  | .ext (.sel t i) _ _ => [(5, selKey t i)]
  | .ext (.linear g) _ _ => [(2, g)]
  | .ext (.ring r) _ _ => [(3, r)]
  | .ext (.lane l) _ _ => [(0, l)]
  | .prbs u _ _ => [(6, u)]
  | .tod _ _ => [(7, 0)]

/-- The object a waiting command other than a scheduled effect holds (R319). -/
def waiterObj : Waiter → ObjKey
  | .verify _ _ => (8, 0)
  | .activate _ => (8, 0)
  | .confirm _ => (8, 0)
  | .compact _ => (9, 0)
  | .domain _ d _ => (10, d)

/-- The token of a waiting command, none once it has been abandoned (R319). -/
def waiterTok : Waiter → Option CmdTok
  | .verify t _ => t
  | .activate t => t
  | .confirm t => t
  | .compact t => t
  | .domain t _ _ => t

/-- An object is held by a waiting command (R319). -/
def objHeld (s : State) (o : ObjKey) : Bool :=
  (s.host.sched.any fun x => x.tok.isSome && (effectObjs s.cfg x.effect).contains o) ||
    s.host.waiters.any fun w => (waiterTok w).isSome && waiterObj w == o

/-- Waiting commands outstanding (R319). -/
def waitingCount (s : State) : Nat :=
  (s.host.sched.filter fun x => x.tok.isSome).length + (s.host.waiters.filter fun w => (waiterTok w).isSome).length +
    (match s.page.job with | some j => if j.tok.isSome then 1 else 0 | none => 0)

/-- Answers of step 5 of R35: status, object-state code, RESULT. -/
abbrev Refused := Byte × Byte × Word64

/-- What a command is checked against before its own conditions (R35). -/
structure Checks where
  /-- LEN values it accepts (R317). -/
  lens : List Nat
  /-- Assigned bits of ARGS: first bit and count (R317). -/
  fields : List (Nat × Nat)
  /-- Ranges, relations and descriptors of the entry itself. -/
  argsOk : Bool
  /-- RESULT of the BAD_ARGUMENT that they give. -/
  argsRes : Word64 := 0
  /-- LENGTH of its LIST = 0 descriptors. -/
  lengthOk : Bool := true
  /-- Modes that execute it (R34). -/
  modes : List Mode
  /-- A RETIRED module executes it too (R453). -/
  retiredToo : Bool := false
  /-- A mode rule of its own (R131). -/
  modeOk : Bool := true
  /-- Step 5: what the present state of its object refuses. -/
  object : Option Refused := none
  /-- It is a waiting command in the present mode (R319). -/
  waits : Bool := false
  /-- It waits, unexecuted, while a power-fail warning stands (R483). -/
  pfwWaits : Bool := false
  /-- It names a host buffer. -/
  buffer : Bool := false
  /-- It has begun work of its own that is not done: it stays at the head, and the module's state is this (R53, R58). -/
  hold : Option State := none

/-- Steps 2 to 5 of R35; the first check that fails decides. -/
def verdict (s : State) (c : CmdEntry) (k : Checks) : Option Refused :=
  if !k.lens.contains c.len.toNat then some (stBadLength, 0, 0)
  else if bit c.flags 1 || bit c.flags 2 || bit c.flags 3 || bit c.flags 4 || bit c.flags 5 || bit c.flags 6 ||
      bit c.flags 7 || !argsWithin c k.fields || !k.argsOk then some (stBadArgument, 0, k.argsRes)
  else if !k.lengthOk then some (stBadLength, 0, 0)
  else if !k.modes.contains s.mode.mode || !k.modeOk then some (stWrongMode, 0, 0)
  else if s.mode.mode = .safe ∧ s.bak.lifecycle = 4 ∧ !k.retiredToo then some (stWrongState, 7, 0)
  else k.object

/-- Opcodes of R318. -/
def opcodes : List Byte :=
  [0x01, 0x02, 0x03, 0x10, 0x11, 0x12, 0x20, 0x21, 0x22, 0x23, 0x24, 0x25, 0x30, 0x31, 0x32, 0x40, 0x41, 0x50, 0x51] ++
  [0x60, 0x61, 0x62, 0x70, 0x71, 0x72, 0x80, 0x81, 0x82, 0x83, 0x84, 0x85, 0x90, 0x91, 0xA0, 0xA1, 0xF0]

/-- LEN values and highest code of the byte that selects an action, for the opcodes that have one: opcode, byte of
ARGS, highest action, LENs (R327, R333, R334, R336). -/
def actionTable : List (Byte × Nat × Nat × List Nat) :=
  [(0x10, 0, 2, [24, 40]), (0x11, 1, 4, [8, 24]), (0x30, 0, 5, [8, 24, 48]), (0x40, 0, 1, [24]), (0x41, 0, 12, [8]),
   (0x50, 0, 3, [8, 24])]

/-- What an entry that is no row of the command tables completes with: BAD_OPCODE, or for an undefined action
BAD_LENGTH or BAD_ARGUMENT (R35, R317, R318). -/
def badEntry (f : Fetched) : Option Byte :=
  if !opcodes.contains f.opcode then some stBadOpcode
  else match actionTable.find? fun r => r.1 == f.opcode with
    | some (_, at_, top, lens) =>
      if arg f.entry at_ 1 ≤ top then none
      else if lens.contains f.entry.len.toNat then some stBadArgument else some stBadLength
    | none => none

/-- PROT_CONFIG counts as a waiting command in every mode, whatever its OBJECT: with 64 outstanding it is not begun (R319). -/
def heldBack (s : State) (f : Fetched) : Bool := f.opcode == 0x30 && decide (64 ≤ waitingCount s)

/-- Complete the entries at the head of the ring that no row takes (R35, R318). -/
def drainBad (s : State) : List Fetched → State
  | [] => { s with host := { s.host with fetched := [] } }
  | f :: fs =>
    match (badEntry f).filter fun _ => !heldBack s f with
    | some st => drainBad (complete { opcode := f.opcode, tag := f.entry.tag, pos := f.pos } st 0 0 s) fs
    | none => { s with host := { s.host with fetched := f :: fs } }

/-- A command may begin: the module is past mode entry, no SET_MODE awaits its frame, and no IMAGE_REJECT the old image (R35, R319,
R339). -/
def mayBegin (s : State) : Bool := entered s && s.mode.req.isNone && s.img.rejecting.isNone

/-- Run a command of the ring (R35): it acts when its entry is at the head of the fetched commands and `row` holds (its
action is this row's); it stays there while 64 waiting commands are outstanding, while a power-fail warning holds it,
while the host's link is unavailable to a buffer it names, or while its own work is not done. A command that ends in a reset discards those behind it
(R308). -/
def runCmd (opcode : Byte) (row : Bool) (c : CmdEntry) (k : Checks) (body : CmdTok → State → State) (s : State) :
    State :=
  match s.host.fetched with
  | [] => s
  | f :: rest =>
    if f.opcode ≠ opcode || f.entry ≠ c || !row || !mayBegin s then s
    else if k.waits && decide (64 ≤ waitingCount s) then s
    else
      let tok : CmdTok := { opcode := opcode, tag := c.tag, pos := f.pos }
      match verdict s c k with
      | some (st, obj, r) => drainBad (complete tok st obj r s) rest
      | none =>
        if (k.pfwWaits && s.pwr.pfw) || (k.buffer && !linkUsable s) then s
        else
          match k.hold with
          | some s' => s'
          | none =>
            let s' := body tok s
            let s'' := { s' with host := { s'.host with bulkFail := false, bulkBursts := 0, fetched := rest } }
            if !entered s' then s' else if mayBegin s'' then drainBad s'' rest else s''

-- Rows of R34.
def everyMode : List Mode := [.safe, .quiet, .solo, .active, .standby, .isolated, .service]
def configModes : List Mode := [.quiet, .solo, .active, .service]
def readModes : List Mode := [.quiet, .solo, .active, .standby, .isolated, .service]
def serveModes : List Mode := [.quiet, .solo, .active, .standby, .service]

/-- A member of a group other than the Bellwether, ACTIVE: FOLLOWER (R271). -/
def isFollower (s : State) : Bool :=
  decide (s.mode.mode = .active) && s.cfg.group.isSome &&
    decide (s.grp.bell ≠ some (2 * ownSlice s + nat01 (ownUnit s)))

/-- The FOLLOWER refusal (R271, R322). -/
def followerRefusal (s : State) : Option Refused := if isFollower s then some (stWrongState, 5, 0) else none

/-- The BUSY refusal of a held object (R319). -/
def busyRefusal (s : State) (os : List ObjKey) : Option Refused :=
  if os.any fun o => objHeld s o then some (stBusy, 0, 0) else none

/-- The first refusal of two. -/
def orRefuse (a b : Option Refused) : Option Refused :=
  match a with
  | some x => some x
  | none => b

/-- The staged page must be OPEN (R77, R322). -/
def openRefusal (s : State) : Option Refused :=
  if s.page.state = .opened then none else some (stWrongState, BitVec.ofNat 8 (pageCode s.page.state), 0)

-- Connection entries (R63, R64).

/-- The empty entry (R66). -/
def emptyEntry : Word64 := 0x0000FFFFFFFFFFFF

/-- The unconfigured carrier record (R110). -/
def emptyCarrier : BitVec 128 := 0xFFFFFF

def eSrcA (e : Word64) : Nat := fld e 0 24
def eSrcB (e : Word64) : Nat := fld e 24 24
def eSel (e : Word64) : Nat := fld e 48 2
def eType (e : Word64) : Nat := fld e 50 3
def eFill (e : Word64) : Nat := fld e 53 2
def eGroom (e : Word64) : Bool := bit e 55
def eSncp (e : Word64) : Nat := fld e 56 6
def eMon (e : Word64) : Bool := bit e 62
def eValid (e : Word64) : Bool := bit e 63

/-- The source encoding that means none (R63). -/
def noSrc : Nat := 0xFFFFFF

/-- Entries of a tier (R15). -/
def tierSize : Tier → Nat
  | .ho => 49152 | .lo => 1376256 | .ds0 => 262144

/-- The entries of a page in a tier. -/
def tierOfPage (p : Page) : Tier → SMap Word64
  | .ho => p.ho | .lo => p.lo | .ds0 => p.ds0

/-- An entry of a page. -/
def entryAt (p : Page) (t : Tier) (i : Nat) : Word64 := tget emptyEntry (tierOfPage p t) i

/-- Replace the entries of a tier. -/
def setTier (p : Page) (t : Tier) (m : SMap Word64) : Page :=
  match t with
  | .ho => { p with ho := m }
  | .lo => { p with lo := m }
  | .ds0 => { p with ds0 := m }

/-- Write an entry of a page. -/
def putEntry (p : Page) (t : Tier) (i : Nat) (e : Word64) : Page :=
  setTier p t (tset emptyEntry (tierOfPage p t) i e)

/-- A carrier record of a page (R68, R110). -/
def carrierAt (p : Page) (c : Nat) : BitVec 128 := tget emptyCarrier p.car c

/-- Write a carrier record. -/
def putCarrier (p : Page) (c : Nat) (r : BitVec 128) : Page := { p with car := tset emptyCarrier p.car c r }

/-- Write a quiesce bit. -/
def putQuiesce (p : Page) (fp : Nat) (on : Bool) : Page := { p with quiesce := putBit p.quiesce fp on }

def cBind (r : BitVec 128) : Nat := fld r 0 24
def cConfigured (r : BitVec 128) : Bool := bit r 24
def cT1 (r : BitVec 128) : Bool := bit r 25
def cMapping (r : BitVec 128) : Nat := fld r 26 2
def cFraming (r : BitVec 128) : Nat := fld r 28 3
def cSignalling (r : BitVec 128) : Nat := fld r 32 2
def cRaiEn (r : BitVec 128) : Bool := bit r 34
def cNfasLoss (r : BitVec 128) : Bool := bit r 36
def cCondAis (r : BitVec 128) : Bool := bit r 37
def cIdleCode (r : BitVec 128) : Byte := r.extractLsb' 40 8
def cIdleSig (r : BitVec 128) : BitVec 4 := r.extractLsb' 48 4
def cSigHold (r : BitVec 128) : Nat := fld r 64 6

/-- A carrier is bound to a low-order index (R110). -/
def cBound (r : BitVec 128) : Bool := decide (cBind r ≠ noSrc)

/-- Global slot number (R5). -/
def gsOf (fp slot : Nat) : Nat := 192 * fp + slot

/-- Low-order index (R6). -/
def loOf (gs group member : Nat) : Nat := 28 * gs + 4 * group + member

/-- DS0 index (R7). -/
def ds0Of (carrier slot : Nat) : Nat := 32 * carrier + slot

/-- The k of a low-order index is valid for a tributary type (R6): VT2 uses members 0 to 2, VT6 member 0, TU-3 k = 0. -/
def kValid (type k : Nat) : Bool :=
  match type with
  | 0 => true
  | 1 => decide (k % 4 ≤ 2)
  | 2 => decide (k % 4 = 0)
  | _ => decide (k = 0)

/-- A DS0 index names time slot 24 to 31 of a carrier that a page configures as T1 (R7, R67). -/
def ds0Bad (p : Page) (i : Nat) : Bool :=
  let r := carrierAt p (i / 32)
  cConfigured r && cT1 r && decide (24 ≤ i % 32)

/-- R67 on one entry: it passes every check that staging makes. -/
def entryOk (p : Page) (t : Tier) (i : Nat) (e : Word64) : Bool :=
  let a := eSrcA e
  let b := eSrcB e
  let srcOk := fun x => decide (x = noSrc ∨ x < tierSize t)
  let typeOk := match t with | .ho => decide (eType e ≤ 5) | .lo => decide (eType e ≤ 3) | .ds0 => decide (eType e ≤ 2)
  typeOk && decide (i < tierSize t) && srcOk a && srcOk b && (!eGroom e || decide (t = .ho)) &&
    (decide (eSel e = 0) || decide (b ≠ noSrc)) &&
    (decide (eSel e < 2) || (decide (a ≠ noSrc) && decide (a ≠ b))) &&
    !(eValid e && decide (eSel e = 0) && decide (a = noSrc) && decide (eFill e = 0)) &&
    (decide (t ≠ .lo) || (kValid (eType e) (i % 28) && (decide (a = noSrc) || kValid (eType e) (a % 28)) &&
      (decide (b = noSrc) || kValid (eType e) (b % 28)))) &&
    (decide (t ≠ .ds0) || (!ds0Bad p i && (decide (a = noSrc) || !ds0Bad p a) && (decide (b = noSrc) || !ds0Bad p b)))

/-- R111 on one carrier record: codes, reserved bits, SIG_HOLD, LO_BIND. -/
def carrierOk (r : BitVec 128) : Bool :=
  let x := cBind r
  decide (cMapping r ≤ 1) && decide (cFraming r ≤ (if cT1 r then 1 else 2)) && bit r 31 == false &&
    decide (cSignalling r ≤ 1) && fld r 38 2 == 0 && fld r 52 4 == 0 && fld r 61 3 == 0 && fld r 70 26 == 0 &&
    fld r 96 32 == 0 && decide (cSigHold r ≤ 50) && decide (x = noSrc ∨ x < 1376256) &&
    (cT1 r || decide (x = noSrc) || decide (x % 4 ≠ 3)) && (cConfigured r || decide (x = noSrc))

/-- Connection-memory bank of an entry (R69). -/
def bankOf : Tier → Nat → Nat
  | .ho, i => i / 3072 | .lo, i => i / 86016 | .ds0, i => i / 16384

/-- A bank is powered (R69, R422). -/
def bankOn (s : State) (b : Nat) : Bool := domOn s (80 + b)

end Sys2Proof.Machine
end

