-- ==== Sys2Proof/Machine/Route.lean ====
section
/-! DEFINITION. The route solver's visible side: the checks of R56 over a page, the count of a change and whether it is
incremental (R54), the figures of R57, which connections a swap changes (R60), and the partition of a SPLIT series
(R87). The schedule itself is internal (R53). -/
namespace Sys2Proof.Machine

/-- Slots of a concatenation TYPE (R42, R64). -/
def blockSize (type : Nat) : Nat :=
  match type with
  | 1 => 3 | 2 => 12 | 3 => 48 | 4 => 192 | _ => 1

/-- Head of the aligned block of N slots that holds a slot (R42). -/
def blockHead (n g : Nat) : Nat := g - (g % 192) % n

/-- Slots an interface carries on each fabric port, by lane mode (R40). -/
def slotsCarried (mode : Nat) : Nat :=
  match mode with
  | 1 => 3 | 2 => 12 | 3 => 48 | _ => 192

/-- A bound interface carries the slot (R41). -/
def slotBacked (c : Cfg) (g : Nat) : Bool :=
  match tget .unbound c.ports (g / 192) with
  | .lane l _ => decide (g % 192 < slotsCarried (laneMode c l))
  | _ => false

/-- A MONITOR port (R39). -/
def isMonitor (c : Cfg) (p : Nat) : Bool := decide (tget .unbound c.ports p = .monitor)

/-- A groom position: VALID and GROOM (R16, R17). -/
def isGroom (p : Page) (g : Nat) : Bool := let e := entryAt p .ho g; eValid e && eGroom e

/-- The sources an entry names (R46). -/
def sources (e : Word64) : List Nat := [eSrcA e, eSrcB e].filter fun x => decide (x ≠ noSrc)

/-- A block head as R56 judges it: a concatenation entry that is aligned, or whose preceding slot of the port is no
entry of the same concatenation (DEDUCED). -/
def isHead (p : Page) (g : Nat) (e : Word64) : Bool :=
  let n := blockSize (eType e)
  decide (1 < n) && (decide ((g % 192) % n = 0) || decide (g % 192 = 0) ||
    (let b := entryAt p .ho (g - 1); !eValid b || decide (eType b ≠ eType e)))

/-- A source of member i agrees with the head's (R43). -/
def srcFollows (head x i : Nat) : Bool := if head = noSrc then x == noSrc else x == head + i

/-- Member i of the block headed at g0 agrees with its head in everything but GROOM (R43). -/
def memberOk (p : Page) (g0 i : Nat) : Bool :=
  let h := entryAt p .ho g0
  let m := entryAt p .ho (g0 + i)
  eValid m && eType m == eType h && eSel m == eSel h && eFill m == eFill h && eSncp m == eSncp h && eMon m == eMon h &&
    srcFollows (eSrcA h) (eSrcA m) i && srcFollows (eSrcB h) (eSrcB m) i

/-- AU-4 structure of a groom position (R101): its three GS form an STS-3c block with GROOM = 1. -/
def isAu4 (p : Page) (g : Nat) : Bool :=
  let h := blockHead 3 g
  (List.range 3).all fun i =>
    isGroom p (h + i) && decide (eType (entryAt p .ho (h + i)) = 1) && (i == 0 || memberOk p h i)

/-- Classes of R56: 1 V, 2 P, 3 W. A violation is its class, code, tier and index. -/
abbrev Violation := Nat × Nat × Tier × Nat

/-- A block's domain is on, or, on a standby, is powered on with the mirrored commit that needs it (R52, R262). -/
def willPower (s : State) (d : Nat) : Bool := domOn s d || decide (s.mode.mode = .standby)

/-- Blocks of a high-order entry are powered (R52). -/
def hoPowered (s : State) (g : Nat) (e : Word64) : Bool :=
  (g :: sources e).all (fun x => willPower s (64 + x / 3072)) && willPower s (80 + bankOf .ho g)

/-- Violations of one valid high-order entry. An entry of which both sources offend counts once, for R56 gives a code to the
entry; so too in the lower tiers (DESIGN CHOICE, entry 146). -/
def hoViolations (s : State) (p : Page) (g : Nat) (e : Word64) : List Violation :=
  let n := blockSize (eType e)
  let aligned := (g % 192) % n == 0
  let head := isHead p g e
  let v := fun code (b : Bool) => if b then [((1, code, Tier.ho, g) : Violation)] else []
  let members := if head then
      ((List.range n).drop 1).flatMap fun i =>
        if 192 ≤ g % 192 + i || (memberOk p g i && eGroom (entryAt p .ho (g + i)) == eGroom e) then []
        else [((1, 0x02, Tier.ho, g + i) : Violation)]
    else []
  v 0x01 (head && !aligned) ++ members ++ v 0x03 (head && (sources e).any fun x => x % n != 0) ++
    v 0x04 (eGroom e && decide (2 ≤ eType e)) ++
    v 0x05 (head && n == 3 && (eGroom (entryAt p .ho (g + 1)) != eGroom e ||
      eGroom (entryAt p .ho (g + 2)) != eGroom e)) ++
    (if hoPowered s g e then [] else [(2, 0x07, .ho, g)]) ++
    (if isMonitor s.cfg (g / 192) then [(2, 0x08, .ho, g)]
     else if slotBacked s.cfg g then [] else [(3, 0x10, .ho, g)]) ++
    (if (sources e).all (slotBacked s.cfg) then [] else [(3, 0x11, .ho, g)])

/-- A valid low-order entry breaks R102 in its groom position. Of a group of mixed sizes, which R102 gives code 0x06 without
saying at which entries, each entry that differs from a valid lower member is one (DESIGN CHOICE, entry 106). -/
def loStructureBad (p : Page) (i : Nat) (e : Word64) : Bool :=
  let g := i / 28
  let k := i % 28
  let tu3 := let z := entryAt p .lo (28 * g); eValid z && decide (eType z = 3)
  (decide (eType e = 3) && !isAu4 p g) || (decide (k ≠ 0) && tu3) ||
    ((List.range (k % 4)).any fun m =>
      let z := entryAt p .lo (i - k % 4 + m); eValid z && decide (eType z ≠ eType e))

/-- A carrier is bound to a low-order index (R18). -/
def isBound (p : Page) (i : Nat) : Bool := p.car.any fun x => decide (cBind x.2 = i)

/-- The sources a low-order entry takes: none where a carrier is bound to its index (R18). -/
def loSources (p : Page) (i : Nat) (e : Word64) : List Nat := if isBound p i then [] else sources e

/-- Violations of one valid low-order entry. -/
def loViolations (s : State) (p : Page) (i : Nat) (e : Word64) : List Violation :=
  let g := i / 28
  let srcs := loSources p i e
  (if isGroom p g && loStructureBad p i e then [(1, 0x06, .lo, i)] else []) ++
    (if (g :: srcs.map (· / 28)).all (fun x => willPower s (64 + x / 3072)) && willPower s (80 + bankOf .lo i) then []
     else [(2, 0x07, .lo, i)]) ++
    (if isGroom p g then [] else [(3, 0x12, .lo, i)]) ++
    (if srcs.all (fun x => isGroom p (x / 28)) then [] else [(3, 0x13, .lo, i)])

/-- A carrier is configured and bound (R116). -/
def carrierLive (p : Page) (c : Nat) : Bool := let r := carrierAt p c; cConfigured r && cBound r

/-- Time slots of a carrier that carry no DS0 (R7, R115): slot 0 of an E1, slot 16 of one with CAS, slots 24 to 31 of a T1. -/
def slotReserved (r : BitVec 128) (ts : Nat) : Bool :=
  if cT1 r then decide (24 ≤ ts) else decide (ts = 0) || (decide (ts = 16) && decide (cSignalling r = 1))

/-- A low-order entry switches its sources (R17, R18): valid, in a groom position, no carrier bound to its index. -/
def loExecuted (p : Page) (i : Nat) (e : Word64) : Bool :=
  eValid e && isGroom p (i / 28) && !isBound p i

/-- A DS0 entry is executed (R115, R116): valid, on a time slot that the reframer does not own, its egress carrier and its
sources' carriers configured and bound. -/
def ds0Executed (p : Page) (i : Nat) (e : Word64) : Bool :=
  eValid e && !slotReserved (carrierAt p (i / 32)) (i % 32) && carrierLive p (i / 32) &&
    (sources e).all fun x => carrierLive p (x / 32)

/-- The blocks of a carrier that a DS0 connection needs: its segment, and the fabric slice of its groom position (R52). -/
def carrierPowered (s : State) (p : Page) (c : Nat) : Bool :=
  willPower s (96 + c / 1024) && (!carrierLive p c || willPower s (64 + cBind (carrierAt p c) / 28 / 3072))

/-- Violations of one valid DS0 entry. -/
def ds0Violations (s : State) (p : Page) (i : Nat) (e : Word64) : List Violation :=
  let cs := i / 32 :: (sources e).map (· / 32)
  (if cs.all (carrierPowered s p) && willPower s (80 + bankOf .ds0 i) then [] else [(2, 0x07, .ds0, i)]) ++
    (if cs.all (carrierLive p) then [] else [(3, 0x14, .ds0, i)])

/-- Violations of the bound carriers (R111), each against the low-order index of its binding. -/
def carrierViolations (s : State) (p : Page) : List Violation :=
  p.car.flatMap fun (c, r) =>
    if !cBound r then [] else
    let x := cBind r
    let e := entryAt p .lo x
    let typeOk := eValid e && decide (eType e = if cT1 r then 0 else 1)
    let alone := p.car.all fun (c', r') => decide (c' = c) || decide (cBind r' ≠ x)
    (if typeOk && alone then [] else [((1, 0x06, Tier.lo, x) : Violation)]) ++
      (if willPower s (96 + c / 1024) && willPower s (80 + c / 512) then [] else [(2, 0x07, .lo, x)])

/-- Insert a violation in the order of tier and index (R332). -/
def insertViolation (v : Violation) : List Violation → List Violation
  | [] => [v]
  | w :: ws =>
    if selKey v.2.2.1 v.2.2.2 < selKey w.2.2.1 w.2.2.2 then v :: w :: ws else w :: insertViolation v ws

/-- Everything R56 finds in a page, in increasing order of tier and index. -/
def violations (s : State) (p : Page) : List Violation :=
  let found := p.ho.flatMap (fun x => if eValid x.2 then hoViolations s p x.1 x.2 else []) ++
    p.lo.flatMap (fun x => if eValid x.2 then loViolations s p x.1 x.2 else []) ++ carrierViolations s p ++
    p.ds0.flatMap (fun x => if eValid x.2 then ds0Violations s p x.1 x.2 else [])
  found.foldl (fun l v => insertViolation v l) []

/-- Violations of one class. -/
def ofClass (vs : List Violation) (c : Nat) : List Violation := vs.filter fun v => v.1 == c

/-- The verdict: 0 routes, 1 class V, 2 class P (R56, R330). -/
def routeVerdict (vs : List Violation) : Nat :=
  if !(ofClass vs 1).isEmpty then 1 else if !(ofClass vs 2).isEmpty then 2 else 0

/-- RESULT of a NO_ROUTE or NO_RESOURCE of the solver (R331): index and tier of the first violation of the class that
decides, and its code. -/
def violationResult (vs : List Violation) : Word64 :=
  match ofClass vs (routeVerdict vs) with
  | v :: _ => res [(0, 4, v.2.2.2 + 0x40000000 * tierCode v.2.2.1), (4, 1, v.2.1)]
  | [] => 0

/-- The fields of an entry that R54 and R60 compare: VALID, SRC_A, SRC_B, TYPE, FILL, GROOM. -/
def routeBits (e : Word64) : Word64 := e &&& (ones 64 0 48 ||| ones 64 50 6 ||| ones 64 63 1)

/-- Keys at which two tables of entries differ under a view `f`. -/
def diffKeys (f : Word64 → Word64) (a b : SMap Word64) : List Nat :=
  ((a.filter fun x => f x.2 != f (tget emptyEntry b x.1)).map fun x => x.1) ++
    ((b.filter fun x => (tfind a x.1).isNone && f x.2 != f emptyEntry).map fun x => x.1)

/-- Changed entries of a tier between two pages (R54). -/
def changedIn (a b : Page) (t : Tier) : List Nat := diffKeys routeBits (tierOfPage a t) (tierOfPage b t)

/-- The change is incremental (R54). -/
def incremental (a b : Page) : Bool :=
  decide ((changedIn a b .ho).length ≤ 8192) && decide ((changedIn a b .lo).length ≤ 131072)

/-- Frames within which the solver finishes (R54). -/
def solveBound (a b : Page) : Nat := if incremental a b then 20 else 320

/-- A tier of a page is unicast (R48, R51): no second source, no source named twice. -/
def tierUnicast (m : SMap Word64) : Bool :=
  let named := m.flatMap fun x => sources x.2
  m.all (fun x => decide (eSrcB x.2 = noSrc)) && decide named.Nodup

/-- A page is unicast in the high-order fabric (R48), and in the groomer (R51). -/
def isUnicast (p : Page) : Bool := tierUnicast p.ho
def isUnicastLo (p : Page) : Bool := tierUnicast p.lo

/-- A leg through a time-space-time fabric: its key, the port and item its first stage reads, the port it leaves by. -/
structure FabLeg where
  key : Nat
  inPort : Nat
  item : Nat
  outPort : Nat
  deriving DecidableEq, Repr

/-- The two source legs of an entry. -/
def sourceLegs (i span out : Nat) (srcs : List (Nat × Nat)) : List FabLeg :=
  (srcs.filter fun x => decide (x.2 ≠ noSrc)).map fun x => ⟨4 * i + x.1, x.2 / span, x.2, out⟩

/-- Legs of the high-order fabric (R46, R50): ports 0 to 255 are FP, 256 to 511 GP; the groomer's output is item 49,152 + GS. -/
def hoLegs (p : Page) : List FabLeg :=
  (p.ho.filter fun x => eValid x.2).flatMap fun x =>
    let fp := x.1 / 192
    let srcs := [(0, eSrcA x.2), (1, eSrcB x.2)]
    if eGroom x.2 then sourceLegs x.1 192 (256 + fp) srcs ++ [⟨4 * x.1 + 2, 256 + fp, 49152 + x.1, fp⟩]
    else sourceLegs x.1 192 fp srcs

/-- Legs of the groomer (R51): 5,376 positions to a port; an entry with a carrier takes no source (R18). -/
def loLegs (p : Page) : List FabLeg :=
  (p.lo.filter fun x => eValid x.2 && isGroom p (x.1 / 28)).flatMap fun x =>
    if (loSources p x.1 x.2).isEmpty then []
    else sourceLegs x.1 5376 (x.1 / 5376) [(0, eSrcA x.2), (1, eSrcB x.2)]

/-- What a leg connects, as one number: the item it reads and the port it leaves by. -/
def legRoute (l : FabLeg) : Nat := 512 * l.item + l.outPort

/-- Two legs may hold one middle-stage slot (R46): they have no port in common, or carry the same item. -/
def mayShare (a b : FabLeg) : Bool := (a.inPort != b.inPort && a.outPort != b.outPort) || a.item == b.item

/-- The middle-stage slot of a leg in a schedule. -/
def legSlot (m : SMap (Nat × Nat)) (l : FabLeg) : Option Nat := (tfind m l.key).map fun v => v.2

/-- The check of a schedule (R53): every leg has a slot of the n, and no two hold one that they may not share. -/
def scheduleFits (n : Nat) (legs : List FabLeg) (m : SMap (Nat × Nat)) : Bool :=
  legs.all fun l => match tfind m l.key with
    | none => false
    | some v => v.1 == legRoute l && decide (v.2 < n) &&
      legs.all fun k => k.key == l.key || mayShare l k || legSlot m k != some v.2

/-- The first middle-stage slot that is free. -/
def firstFree (n : Nat) (busy : List Nat) : Nat := ((List.range n).find? fun m => !busy.contains m).getD 0

/-- Give a leg the first middle-stage slot that no leg holds with which it may not share one. -/
def placeLeg (n : Nat) (legs : List FabLeg) (m : SMap (Nat × Nat)) (l : FabLeg) : SMap (Nat × Nat) :=
  tinsert m l.key (legRoute l, firstFree n ((legs.filter fun k => !mayShare l k).filterMap (legSlot m)))

/-- Solve one fabric of `n` middle-stage slots from its live schedule (R48, R49, R53): a unicast page keeps the slot of every
leg it keeps. Which slots the others take is internal: the open ones where they pass the check, else the first free ones
(DESIGN CHOICE, entry 107). -/
def solveTier (n : Nat) (unicast : Bool) (open_ : Nat → Nat) (live : SMap (Nat × Nat)) (legs : List FabLeg) :
    SMap (Nat × Nat) :=
  let keeps := fun (l : FabLeg) => (tfind live l.key).filter fun v => v.1 == legRoute l
  let try_ := legs.map fun l =>
    (l.key, (legRoute l, (if unicast then (keeps l).map fun v => v.2 else none).getD (open_ l.key % n)))
  if scheduleFits n legs try_ then try_
  else
    let kept := legs.filterMap fun l => (keeps l).map fun v => (l.key, v)
    (legs.filter fun l => (keeps l).isNone).foldl (placeLeg n legs) kept

/-- The schedule of a page, from the live one (R53): 384 middle-stage slots in the high order (R46), twice the positions of a
port in the groomer. -/
def solvePage (live : Schedule) (p : Page) : Schedule :=
  { ho := solveTier 384 (isUnicast p) (Config.middleSlot 0 live p) live.ho (hoLegs p),
    lo := solveTier 10752 (isUnicastLo p) (Config.middleSlot 1 live p) live.lo (loLegs p) }

/-- Legs on a port (R57): the middle-stage slots its first stage writes, or those its last stage reads; of legs that the
schedule does not hold, the items. -/
def portLegs (sch : Schedule) (legs : List FabLeg) (port : Nat) : Nat :=
  let used := fun (ls : List FabLeg) =>
    max (ls.filterMap (legSlot sch.ho)).eraseDups.length (ls.map fun l => l.item).eraseDups.length
  max (used (legs.filter fun l => l.inPort == port)) (used (legs.filter fun l => l.outPort == port))

/-- Largest number of legs on any port of the high-order fabric under a schedule (R57), at most 384 (R49). -/
def largestLegs (sch : Schedule) (p : Page) : Nat :=
  let legs := hoLegs p
  min 384 ((legs.flatMap fun l => [l.inPort, l.outPort]).eraseDups.foldl (fun m q => max m (portLegs sch legs q)) 0)

/-- Ports whose quiesce bit differs between two pages. -/
def quiesceChanged (a b : Page) (fp : Nat) : Bool := bit a.quiesce fp != bit b.quiesce fp

/-- The fields of a carrier record whose change restarts its alignment (R112): LO_BIND, KIND, MAPPING and FRAMING. -/
def alignBits (r : BitVec 128) : BitVec 128 := r &&& (ones 128 0 24 ||| ones 128 25 6)

/-- The fields of a carrier record whose change alters its DS0 connections (R112): those and SIGNALLING. -/
def carrierBits (r : BitVec 128) : BitVec 128 := r &&& (ones 128 0 24 ||| ones 128 25 6 ||| ones 128 32 2)

/-- A high-order connection makes a transition at a swap (R60, R98). -/
def hoChanged (a b : Page) (g : Nat) : Bool :=
  let x := entryAt a .ho g
  let y := entryAt b .ho g
  routeBits x != routeBits y || quiesceChanged a b (g / 192) || (sources y).any fun z => quiesceChanged a b (z / 192)

/-- Fabric ports whose ingress slots feed a groom position (R60). -/
def feeds (p : Page) (g : Nat) : List Nat := (sources (entryAt p .ho g)).map (· / 192)

/-- A low-order connection makes a transition at a swap (R60, R62): the ports on its path are the egress port and those that
feed its groom position and its sources'. -/
def loChanged (a b : Page) (i : Nat) : Bool :=
  let x := entryAt a .lo i
  let y := entryAt b .lo i
  let g := i / 28
  routeBits x != routeBits y || !(isGroom a g && isGroom b g) ||
    eType (entryAt a .ho g) != eType (entryAt b .ho g) ||
    (g / 192 :: feeds b g ++ (sources y).flatMap fun z => feeds b (z / 28)).any fun q => quiesceChanged a b q

/-- A DS0 connection makes a transition at a swap (R60, R112). -/
def ds0Changed (a b : Page) (i : Nat) : Bool :=
  let x := entryAt a .ds0 i
  let y := entryAt b .ds0 i
  routeBits x != routeBits y ||
    (i / 32 :: (sources y).map (· / 32)).any (fun c => carrierBits (carrierAt a c) != carrierBits (carrierAt b c)) ||
    ((i / 32 :: (sources y).map (· / 32)).flatMap fun c => feeds b (cBind (carrierAt b c) / 28)).any
      (fun q => quiesceChanged a b q) ||
    quiesceChanged a b (cBind (carrierAt b (i / 32)) / 28 / 192)

/-- The unchanged connections of the high-order and of the low-order tier whose legs a solution moves (R57). -/
def movedLegs (live : Schedule) (a : Page) (sch : Schedule) (b : Page) : List Nat × List Nat :=
  let moved := fun (x y : SMap (Nat × Nat)) (i : Nat) =>
    (List.range 3).any fun k => (tfind x (4 * i + k)).map (fun v => v.2) != (tfind y (4 * i + k)).map fun v => v.2
  (((b.ho.filter fun x => eValid x.2 && !hoChanged a b x.1 && moved live.ho sch.ho x.1).map (·.1)),
    (b.lo.filter fun x => eValid x.2 && !loChanged a b x.1 && moved live.lo sch.lo x.1).map (·.1))

/-- How many they are. -/
def legsMoved (live : Schedule) (a : Page) (sch : Schedule) (b : Page) : Nat :=
  let m := movedLegs live a sch b
  m.1.length + m.2.length

-- The partition of a SPLIT series (R87).

/-- An item of a change: an entry of a tier, or a carrier record (3). -/
abbrev Item := Nat × Nat

/-- Every item that differs between two pages, quiesce bits apart. -/
def changedItems (a b : Page) : List Item :=
  ((diffKeys id a.ho b.ho).map fun i => ((0, i) : Item)) ++ ((diffKeys id a.lo b.lo).map fun i => ((1, i) : Item)) ++
    ((diffKeys id a.ds0 b.ds0).map fun i => ((2, i) : Item)) ++
    (((a.car.map fun x => x.1) ++ (b.car.map fun x => x.1).filter fun c => (tfind a.car c).isNone).filter
      fun c => carrierAt a c != carrierAt b c).map fun c => ((3, c) : Item)

/-- GROOM or TYPE of an egress GS changes. -/
def reshaped (a b : Page) (g : Nat) : Bool :=
  let x := entryAt a .ho g
  let y := entryAt b .ho g
  eGroom x != eGroom y || eType x != eType y

/-- The unit of an item, named by tier and lowest egress index (R87 step 1): a concatenation block, a reshaped GS with
its low-order entries, a changed carrier with its DS0 entries, or the entry alone. -/
def unitOf (a b : Page) (it : Item) : Nat :=
  let block := fun g => blockHead (max (blockSize (eType (entryAt a .ho g))) (blockSize (eType (entryAt b .ho g)))) g
  match it with
  | (0, g) => block g
  | (1, i) => if reshaped a b (i / 28) then block (i / 28) else selKey .lo i
  | (2, i) => if carrierAt a (i / 32) != carrierAt b (i / 32) then selKey .ds0 (32 * (i / 32)) else selKey .ds0 i
  | (_, c) => selKey .ds0 (32 * c)

/-- A groom position created in the change. -/
def groomCreated (a b : Page) (g : Nat) : Bool := isGroom b g && !isGroom a g

/-- A carrier binding created in the change. -/
def bindCreated (a b : Page) (c : Nat) : Bool :=
  cBound (carrierAt b c) && cBind (carrierAt a c) != cBind (carrierAt b c)

/-- Units that an item must not come before (R87 step 2). -/
def itemDeps (a b : Page) (it : Item) : List Nat :=
  match it with
  | (0, _) => []
  | (1, i) => ((sources (entryAt b .lo i)).filter fun x => groomCreated a b (x / 28)).map fun x => unitOf a b (0, x / 28)
  | (2, i) => ((sources (entryAt b .ds0 i)).filter fun x => bindCreated a b (x / 32)).map fun x => unitOf a b (3, x / 32)
  | (_, c) =>
    let x := cBind (carrierAt b c)
    if cBound (carrierAt b c) && groomCreated a b (x / 28) then [unitOf a b (0, x / 28)] else []

/-- A unit: its name, its items, and the units it depends on. -/
abbrev PartUnit := Nat × List Item × List Nat

/-- The distinct members of a list of numbers, in increasing order. -/
def sortNat (l : List Nat) : List Nat := l.foldl (fun m k => m.filter (· < k) ++ k :: m.filter (k < ·)) []

/-- The units of a change in increasing order of tier and lowest index. -/
def units (a b : Page) : List PartUnit :=
  let items := changedItems a b
  (sortNat (items.map (unitOf a b))).map fun u =>
    let mine := items.filter fun it => unitOf a b it == u
    (u, mine, (sortNat (mine.flatMap (itemDeps a b))).filter (· != u))

/-- Names reachable from a unit by its dependencies, in `fuel` rounds. -/
def reach (us : List PartUnit) : Nat → List Nat → List Nat
  | 0, seen => seen
  | fuel + 1, seen =>
    reach us fuel (sortNat (seen ++ (us.filter fun u => seen.contains u.1).flatMap fun u => u.2.2))

/-- Merge the units joined by a dependency cycle into one, named by the lowest (R87 step 1). -/
def mergeCycles (us : List PartUnit) : List PartUnit :=
  let cyc := fun u => sortNat (u :: ((us.map fun w => w.1).filter fun v =>
    (reach us us.length [u]).contains v && (reach us us.length [v]).contains u))
  let names := sortNat (us.map fun u => (cyc u.1).headD u.1)
  names.map fun n =>
    let group := us.filter fun u => (cyc u.1).headD u.1 == n
    (n, group.flatMap fun u => u.2.1,
      (sortNat ((group.flatMap fun u => u.2.2).map fun d => (cyc d).headD d)).filter (· != n))

/-- Take the units in order, each after those it depends on (R87 steps 2 and 4). -/
def orderUnits : Nat → List PartUnit → List Nat → List PartUnit
  | 0, us, _ => us
  | fuel + 1, us, done =>
    match us.find? fun u => u.2.2.all fun d => done.contains d || !(us.any fun w => w.1 == d) with
    | some u => u :: orderUnits fuel (us.filter fun w => w.1 != u.1) (u.1 :: done)
    | none => us

/-- Every entry of the unit goes from VALID 1 to 0 (R87 step 3). The step speaks of entries; a carrier record that goes from
configured to unconfigured counts as one too (DESIGN CHOICE, entry 108). -/
def isRemoval (a b : Page) (u : PartUnit) : Bool :=
  u.2.1.all fun it =>
    match it with
    | (0, i) => eValid (entryAt a .ho i) && !eValid (entryAt b .ho i)
    | (1, i) => eValid (entryAt a .lo i) && !eValid (entryAt b .lo i)
    | (2, i) => eValid (entryAt a .ds0 i) && !eValid (entryAt b .ds0 i)
    | (_, c) => cConfigured (carrierAt a c) && !cConfigured (carrierAt b c)

/-- Changed high-order and low-order entries of a unit (R54). -/
def unitWeight (a b : Page) (u : PartUnit) : Nat × Nat :=
  (u.2.1.countP fun it => it.1 == 0 && routeBits (entryAt a .ho it.2) != routeBits (entryAt b .ho it.2),
   u.2.1.countP fun it => it.1 == 1 && routeBits (entryAt a .lo it.2) != routeBits (entryAt b .lo it.2))

/-- Fill parts with units while each stays within 8,192 high-order and 131,072 low-order changes (R87 step 4). -/
def fillParts (a b : Page) : List PartUnit → Nat × Nat → List PartUnit → List (List PartUnit)
  | [], _, cur => if cur.isEmpty then [] else [cur]
  | u :: us, w, cur =>
    let x := unitWeight a b u
    if cur.isEmpty || (decide (w.1 + x.1 ≤ 8192) && decide (w.2 + x.2 ≤ 131072)) then
      fillParts a b us (w.1 + x.1, w.2 + x.2) (cur ++ [u])
    else cur :: fillParts a b us x [u]

/-- Put an item of page `b` into a page. -/
def applyItem (b : Page) (p : Page) (it : Item) : Page :=
  match it with
  | (0, i) => putEntry p .ho i (entryAt b .ho i)
  | (1, i) => putEntry p .lo i (entryAt b .lo i)
  | (2, i) => putEntry p .ds0 i (entryAt b .ds0 i)
  | (_, c) => putCarrier p c (carrierAt b c)

/-- Pages after each part: the quiesce map travels with the first (R87 step 5), and the last is the final target. -/
def partPages (b : Page) : Page → List (List PartUnit) → List Page
  | _, [] => []
  | p, us :: rest =>
    let q := (us.flatMap fun u => u.2.1).foldl (applyItem b) { p with quiesce := b.quiesce }
    q :: partPages b q rest

/-- The partition of the change from `a` to `b` (R87): the page of each part, the final target last. -/
def partition (a b : Page) : List Page :=
  let us := mergeCycles (units a b)
  let adds := us.filter fun u => !isRemoval a b u
  let ordered := orderUnits adds.length adds []
  let parts := fillParts a b ordered (0, 0) [] ++ fillParts a b (us.filter (isRemoval a b)) (0, 0) []
  match partPages b a parts with
  | [] => [b]
  | ps => ps.dropLast ++ [b]

-- Fingerprints (R384).

/-- H of an item string: the first 8 bytes of its SHA-256 as a little-endian number (R384). -/
def itemHash (cls index : Nat) (content : Nat) : Word64 :=
  BitVec.ofNat 64 (fromLE ((sha256 ([BitVec.ofNat 8 cls, 0, 0, 0] ++ toLE 4 index ++ toLE 16 content)).take 8))

/-- Fingerprint of a page: the exclusive-or over its non-empty items (R384). -/
def fingerprint (p : Page) : Word64 :=
  let h := fun (w : Word64) (x : Word64) => w ^^^ x
  let tier := fun c (m : SMap Word64) => m.foldl (fun w x => h w (itemHash c x.1 x.2.toNat)) (0 : Word64)
  h (h (h (h (tier 0 p.ho) (tier 1 p.lo)) (tier 2 p.ds0)) (p.car.foldl (fun w x => h w (itemHash 3 x.1 x.2.toNat)) 0))
    ((List.range 256).foldl (fun w q => if bit p.quiesce q then h w (itemHash 4 q 0) else w) 0)

end Sys2Proof.Machine
end

