-- ==== Sys2Proof/Machine/Selectors.lean ====
section
/-! DEFINITION. The defect map (R178 to R180), the conditions of legs (R179), the selectors (R183 to R188) with their
hold-off, WTR and external commands, and how they cross a swap (R91, R92). -/
namespace Sys2Proof.Machine

/-- Key of an object: 2^24 × class + object (R176). -/
def objKey (cls obj : Nat) : Nat := 0x1000000 * cls + obj

/-- The defect set declared on an object (R343). -/
def defects (s : State) (cls obj : Nat) : Word64 := tget 0 s.dft.set (objKey cls obj)

/-- Some bit of a list stands in a defect set. -/
def anyBit (w : Word64) (bs : List Nat) : Bool := bs.any fun b => bit w b

-- Bits of R343.
def bLos : Nat := 0
def bOof : Nat := 1
def bLof : Nat := 2
def bTimS : Nat := 3
def bAisL : Nat := 4
def bSdL : Nat := 6
def bSfL : Nat := 7
def bAmb : Nat := 8
def bLop : Nat := 27
def bAisP : Nat := 28
def bUneq : Nat := 29
def bTim : Nat := 30
def bPlm : Nat := 31
def bCmm : Nat := 36
def bLomH4 : Nat := 37
def bTrib : Nat := 39
def bCarAis : Nat := 40
def bCarLof : Nat := 41
def bCarLomf : Nat := 42
def bVblLos : Nat := 45
def bVblOof : Nat := 46
def bVblLof : Nat := 47
def bVblHdr : Nat := 48
def bVblId : Nat := 50
def bPsbf : Nat := 52
def bKstorm : Nat := 53
def bCarAmb : Nat := 57
def bDistrust : Nat := 59

/-- The identity entry of a port's remap table (R194). -/
def identityRemap (p sl : Nat) : Word64 :=
  BitVec.ofNat 64 (p + 256 * sl + 0x100000000 * p + 0x10000000000 * sl)

/-- The fabric port a lane is bound to, for a lane that takes one. -/
def lanePort (c : Cfg) (l : Nat) : Nat := (portsOfLane c l).headD 0

/-- Working slots of a ring: H of R199. -/
def ringH (s : State) (r : RingCfg) : Nat := if laneMode s.cfg r.east = 3 then 24 else 96

/-- Replace the ingress half of a remap entry. -/
def putIn (e : Word64) (fp sl act : Nat) : Word64 :=
  (e &&& ~~~(ones 64 0 18)) ||| BitVec.ofNat 64 (fp + 256 * sl + 0x10000 * act)

/-- Replace the egress half of a remap entry. -/
def putEg (e : Word64) (fp sl act : Nat) : Word64 :=
  (e &&& ~~~(ones 64 32 18)) ||| BitVec.ofNat 64 (0x100000000 * fp + 0x10000000000 * sl + 0x1000000000000 * act)

/-- Slot S of port p is a protection slot of a ring without extra traffic that is IDLE (R199). -/
def idleProtection (s : State) (p sl : Nat) : Bool :=
  s.cfg.rings.any fun x =>
    let a := tget {} s.prot.rings x.1
    let h := ringH s x.2
    !x.2.extra && decide (a.st = 0) && a.next.isNone && decide (h ≤ sl ∧ sl < 2 * h) &&
      (decide (lanePort s.cfg x.2.east = p) || decide (lanePort s.cfg x.2.west = p))

/-- The remap entry in force for slot S of port p (R194, R196): of its protect version while it applies that one. The protection
slots of an IDLE ring without extra traffic are unequipped both ways, whatever their normal version holds (R199). -/
def remapAt (s : State) (p sl : Nat) : Word64 :=
  let k := 192 * p + sl
  if tget false s.prot.prot p then tget (identityRemap p sl) s.prot.remapP k
  else
    let e := tget (identityRemap p sl) s.cfg.remap k
    if idleProtection s p sl then putEg (putIn e p sl 2) p sl 3 else e

def rInFp (r : Word64) : Nat := fld r 0 8
def rInSlot (r : Word64) : Nat := fld r 8 8
def rInAct (r : Word64) : Nat := fld r 16 2
def rEgFp (r : Word64) : Nat := fld r 32 8
def rEgSlot (r : Word64) : Nat := fld r 40 8
def rEgAct (r : Word64) : Nat := fld r 48 2

/-- AIS-on-TIM of a lane (R328 byte 3 [4]). -/
def aisOnTim (s : State) (l : Nat) : Bool := bit (laneCfg s.cfg l).flags 4

/-- Identity enforcement of a VBL lane (R152). -/
def idEnforced (s : State) (l : Nat) : Bool := bit (laneCfg s.cfg l).flags 5

/-- A Vernolum lane delivers nothing (R152): VBL-LOS or VBL-LOF, or VBL-ID where identity is enforced. -/
def vblDown (s : State) (l : Nat) : Bool :=
  anyBit (defects s 7 l) [bVblLos, bVblLof] || (bit (defects s 7 l) bVblId && idEnforced s l)

/-- A section or line defect of a SONET signal puts AIS on its slots (R163): LOS, OOF, LOF, AIS-L, and TIM-S where
AIS-on-TIM is set. -/
def sonetAis (s : State) (l obj : Nat) : Bool :=
  let w := defects s 0 obj ||| defects s 1 obj
  anyBit w [bLos, bOof, bLof, bAisL] || (bit w bTimS && aisOnTim s l)

/-- An OTN defect of an interface acts as LOF (R163). -/
def otuAis (s : State) (l : Nat) : Bool :=
  let w := defects s 5 l
  anyBit w [bLos, bLof, 9, 10, 11, 12, 13] || (bit w 14 && aisOnTim s l)

/-- An ODU defect puts AIS on the slots of the ODU (R163): ODU-AIS, OCI, LCK, PLM, MSIM, and TIM-PM with AIS-on-TIM. -/
def oduAis (s : State) (l obj : Nat) : Bool :=
  let w := defects s 6 obj
  anyBit w [22, 23, 24, 25, 26] || (bit w 15 && aisOnTim s l)

/-- A multiplexed group of ODU2 tributaries (R129). -/
def muxed (m : Nat) : Bool := decide (m = 0x0E ∨ m = 0x0F ∨ m = 0x10)

/-- The lane side of fabric port q delivers AIS for a server defect of its interface (R163, R152). -/
def serverAis (s : State) (q : Nat) : Bool :=
  match tget .unbound s.cfg.ports q with
  | .lane l _ =>
    let m := laneMode s.cfg l
    if m = 0x18 then vblDown s l
    else if m ≤ 4 then sonetAis s l l
    else otuAis s l || oduAis s l l ||
      (if muxed m then oduAis s l (256 + q) || sonetAis s l (256 + q) else sonetAis s l l)
  | _ => false

/-- The worse of two BER bands: the smaller n, 0 being none (R178). -/
def worseBand (a b : Nat) : Nat := if a = 0 then b else if b = 0 then a else min a b

/-- The BER band of an object (R178): the smallest n for which a declaration stands, 0 for none. -/
def bandOf (s : State) (cls obj : Nat) : Nat :=
  ((List.range 10).find? fun n => (tget 0 s.dft.ber (objKey cls obj)).testBit n).getD 0

/-- The band an interface lays on its slots: the B2 band of the lane and the SM and PM bands of its ODU (R178). -/
def serverBand (s : State) (q : Nat) : Nat :=
  match tget .unbound s.cfg.ports q with
  | .lane l _ =>
    let m := laneMode s.cfg l
    let o := if muxed m then 256 + q else l
    worseBand (bandOf s 1 o) (worseBand (bandOf s 5 l) (worseBand (bandOf s 6 l) (bandOf s 6 o)))
  | _ => 0

/-- A lane's bitmap is trusted and attended to (R152, R182). -/
def bitmapHeard (s : State) (l : Nat) : Bool :=
  !(tget {} s.prot.distrust l).on && !vblDown s l && !bit (defects s 7 l) bVblHdr

/-- The bitmap defect of a lane-side slot (R142, R178). -/
def bitmapBit (s : State) (q sl : Nat) : Bool :=
  match tget .unbound s.cfg.ports q with
  | .lane l base =>
    decide (laneMode s.cfg l = 0x18) && bitmapHeard s l && tget false s.prot.bitmap (384 * l + 192 * (q - base) + sl)
  | _ => false

/-- An entry of the defect map (R178). -/
structure MapEntry where
  hard : Bool
  uneq : Bool
  tim : Bool
  bitmap : Bool
  band : Nat
  deriving DecidableEq, Repr

/-- A live item lost to an uncorrectable error is not yet rewritten (R382). -/
def itemBad (s : State) (r : MemRef) : Bool := s.page.bad.contains r

/-- Key of a carrier among the items lost with a bank. -/
def lostCarrierKey (c : Nat) : Nat := 0x3000000 + c

/-- An item of the live page was lost with its bank (R52): carried as a failure, not as absence. -/
def itemLost (s : State) (k : Nat) : Bool := s.page.lost.contains k

/-- The fabric slice of a port is powered (R52). -/
def sliceOn (s : State) (port : Nat) : Bool := domOn s (64 + port / 16)

-- Concatenation found at ingress (R44).

/-- Pointer interpreter of an object of class 2 or 3. -/
def ptrOf (s : State) (cls obj : Nat) : PtrState := tget {} s.dft.ptr (objKey cls obj)

/-- Slots of the concatenation whose head an ingress slot is found to be (R44): its own, and those after it on its port that
carry the concatenation indication. -/
def foundSize (s : State) (g : Nat) : Nat :=
  1 + (((List.range (192 - g % 192)).drop 1).takeWhile fun i => decide ((ptrOf s 2 (g + i)).str = 2)).length

/-- A leg's source block differs from the structure found at ingress (R44), once that has settled over 3 frames (R163); where no pointer
is found there is none to differ, and LOP-P or AIS-P speaks for the slot (DEDUCED, entry 109). -/
def concMismatch (s : State) (type x : Nat) : Bool :=
  if x = noSrc then false
  else
    let p := ptrOf s 2 x
    match p.st with
    | .lop => false
    | .ais => false
    | _ => decide (p.str = 2) || (decide (p.str = 1) && foundSize s x != blockSize type)

/-- The map entry of an ingress GS (R178), but for CMM: a mismatch depends on the leg (R44). -/
def mapHo (s : State) (g : Nat) : MapEntry :=
  let p := g / 192
  let r := remapAt s p (g % 192)
  let q := rInFp r
  let w := defects s 2 g
  { hard := (decide (rInAct r = 0) && serverAis s q && slotBacked s.cfg (192 * q + rInSlot r)) || decide (rInAct r = 1) || anyBit w [bLop, bAisP] ||
      bit s.page.live.quiesce p || !sliceOn s p || itemBad s (.liveQuiesce p),
    uneq := bit w bUneq || !slotBacked s.cfg g || decide (rInAct r = 2),
    tim := bit w bTim,
    bitmap := decide (rInAct r = 0) && bitmapBit s q (rInSlot r),
    band := worseBand (bandOf s 2 g) (if rInAct r = 0 then serverBand s q else 0) }

/-- The state of the selector at a key, or the fixed leg of an entry without one. -/
def legOf (s : State) (t : Tier) (i : Nat) (e : Word64) : Leg :=
  if eSel e = 0 then .a else if eSel e = 1 then .b else (tget {} s.prot.sel (selKey t i)).leg

/-- Block head whose selector a high-order entry follows (R43); an entry that is not valid follows none. -/
def headOf (p : Page) (g : Nat) : Nat :=
  let e := entryAt p .ho g
  if eValid e then blockHead (blockSize (eType e)) g else g

/-- The source an egress GS delivers, none where it has none (R16, R43). -/
def deliveredHo (s : State) (g : Nat) : Nat :=
  let e := entryAt s.page.live .ho g
  if !eValid e then noSrc else match legOf s .ho (headOf s.page.live g) e with | .a => eSrcA e | .b => eSrcB e

/-- What the leg of an egress GS carries in place of its source: path AIS, or unequipped (R163). A concatenation is judged
by the map entry of its head source (R179), a slot of it also by its own; a leg that a bad live schedule concerns delivers path
AIS (R382). -/
def legFails (s : State) (g : Nat) : Bool × Bool :=
  let head := headOf s.page.live g
  let x := deliveredHo s g
  let h := deliveredHo s head
  ((mapHo s h).hard || (mapHo s x).hard || (s.page.schedBad && Config.legHit g) || concMismatch s (eType (entryAt s.page.live .ho head)) h,
   (mapHo s h).uneq || (mapHo s x).uneq)

/-- HARD of the ingress low-order indices of groom position g by server propagation (R180), its LOM apart. FILL replaces the
selected source, which is what the groomer takes (R16, R65): path AIS, unequipped and PRBS bring it no tributaries (DEDUCED,
entry 125). -/
def groomFails (s : State) (g : Nat) : Bool :=
  let h := headOf s.page.live g
  let x := deliveredHo s h
  let f := legFails s g
  decide (x = noSrc) || decide (eFill (entryAt s.page.live .ho h) ≠ 0) || itemBad s (.liveEntry .ho g) || !sliceOn s (g / 192) || f.1 || f.2 || (mapHo s x).tim ||
    anyBit (defects s 2 x) [bLop, bAisP, bUneq, bTim] || bit (defects s 2 h) bPlm || bit (defects s 2 g) bPlm

/-- The groom position whose path overhead, H4 with it, serves groom position g: the head of an AU-4 block (R101, R108). -/
def h4Of (s : State) (g : Nat) : Nat := headOf s.page.live g

/-- The H4 multiframe of a groom position is lost: declared, or found so (R108). -/
def multiframeLost (s : State) (g : Nat) : Bool :=
  bit (defects s 2 (h4Of s g)) bLomH4 || (tget {} s.dft.h4 (h4Of s g)).lost

/-- Structure settled of a group (0 to 6) of a groom position, or of its TUG-3 (7); none while it holds no ingress slot, nor of a
group while its TUG-3 is not found TUG-2 structured (R105). -/
def settled (s : State) (g grp : Nat) : Nat :=
  if deliveredHo s g = noSrc ∨ (grp < 7 ∧ isAu4 s.page.live g ∧ tget 0 s.dft.found (8 * g + 7) ≠ 1) then 0
  else tget 0 s.dft.found (8 * g + grp)

/-- An ingress low-order index is a TU-3 of an AU-4 structure (R105). -/
def isTu3 (s : State) (i : Nat) : Bool :=
  isAu4 s.page.live (i / 28) && decide (i % 28 = 0) && decide (settled s (i / 28) 7 = 2)

/-- The structure found at an ingress low-order index agrees with a TYPE (R105, R106): in an AU-4 structure a TU-3 needs its
TUG-3 found so, and a VT a TUG-3 found TUG-2 structured; a VT needs its group's size. -/
def foundFits (s : State) (i type : Nat) : Bool :=
  let g := i / 28
  let au4 := isAu4 s.page.live g
  if type = 3 then isTu3 s i
  else (!au4 || decide (settled s g 7 = 1)) && decide (settled s g ((i % 28) / 4) = type + 1)

/-- The map entry of an ingress LO (R178, R180): a lost multiframe puts every tributary in LOP but a TU-3 (R108). -/
def mapLo (s : State) (i : Nat) : MapEntry :=
  let w := defects s 3 i
  { hard := anyBit w [bLop, bAisP] || groomFails s (i / 28) || (multiframeLost s (i / 28) && !isTu3 s i) ||
      !isGroom s.page.live (i / 28),
    uneq := bit w bUneq, tim := bit w bTim, bitmap := false, band := bandOf s 3 i }

/-- A carrier has reached the point from which it delivers (R123): aligned; with CRC-4, its multiframe; with interworking,
that or the fallback. -/
def reachesPoint (r : BitVec 128) (k : CarState) : Bool :=
  k.aligned && (cT1 r || decide (cFraming r = 0) || k.mf || (decide (cFraming r = 2) && k.interwork))

/-- A carrier delivers its octets: from the first carrier frame after that point (R123). -/
def delivers (s : State) (c : Nat) : Bool :=
  let k := tget {} s.car c
  reachesPoint (carrierAt s.page.live c) k && k.point.isSome && decide (k.point ≠ some s.clk.fn)

/-- A carrier delivers signalling (R123): while its CAS multiframe, or its superframe, is aligned. -/
def sigDelivered (s : State) (c : Nat) : Bool :=
  let r := carrierAt s.page.live c
  let k := tget {} s.car c
  decide (cSignalling r = 1) && k.aligned && (cT1 r || k.casMf)

/-- TRIB of a carrier (R124): its ingress tributary is in AIS, LOP or UNEQ, does not fit its TYPE, or shows PLM-V. -/
def tribBad (s : State) (c : Nat) : Bool :=
  let r := carrierAt s.page.live c
  let x := cBind r
  let m := mapLo s x
  m.hard || m.uneq || !foundFits s x (if cT1 r then 0 else 1) || bit (defects s 3 x) bPlm

/-- A carrier has failed (R125); FRAMING 1, a code of either kind, adds the time before its octets are delivered. -/
def carrierFailed (s : State) (c : Nat) : Bool :=
  anyBit (defects s 4 c) [bTrib, bCarAis, bCarLof] || tribBad s c || itemBad s (.liveCarrier c) ||
    itemLost s (lostCarrierKey c) || !domOn s (96 + c / 1024) || (decide (cFraming (carrierAt s.page.live c) = 1) && !delivers s c)

-- SNCP profiles (R189).

/-- The default profile record: bits 1111, SF 10^−3, SD 10^−6, no hold-off, WTR 5 minutes (R189). -/
def defaultProfile : Word64 := 0x050006030F

/-- A profile in force. -/
def profileOf (s : State) (n : Nat) : Word64 := tget defaultProfile s.cfg.profiles n

def pSdEn (r : Word64) : Bool := bit r 0
def pUneqEn (r : Word64) : Bool := bit r 1
def pTimEn (r : Word64) : Bool := bit r 2
def pBitmapEn (r : Word64) : Bool := bit r 3
def pRevertOff (r : Word64) : Bool := bit r 4
def pSfExp (r : Word64) : Nat := fld r 8 8
def pSdExp (r : Word64) : Nat := fld r 16 8
def pHoldOff (r : Word64) : Nat := fld r 24 8
def pWtr (r : Word64) : Nat := fld r 32 8

/-- R189's ranges on a profile record. -/
def profileOk (r : Word64) : Bool :=
  fld r 5 3 == 0 && decide (3 ≤ pSfExp r ∧ pSfExp r ≤ 5) && decide (5 ≤ pSdExp r ∧ pSdExp r ≤ 9) &&
    decide (pSfExp r < pSdExp r) && decide (pHoldOff r ≤ 100) && decide (1 ≤ pWtr r ∧ pWtr r ≤ 12) && fld r 40 24 == 0

/-- A map entry against a profile (R179). -/
def mapCond (m : MapEntry) (r : Word64) : Cond :=
  if m.hard || (m.uneq && pUneqEn r) || (m.tim && pTimEn r) || (m.bitmap && pBitmapEn r) ||
      (decide (m.band ≠ 0) && decide (m.band ≤ pSfExp r)) then .sf
  else if pSdEn r && decide (m.band ≠ 0) && decide (m.band ≤ pSdExp r) then .sd
  else .ok

/-- The condition of a leg with source x under entry `e` (R179), on the defect map of state `m` and the profiles of `s`. -/
def legCond (m s : State) (t : Tier) (e : Word64) (x : Nat) : Cond :=
  let r := profileOf s (eSncp e)
  match t with
  | .ho => if concMismatch m (eType e) x then .sf else mapCond (mapHo m x) r
  | .lo => if !foundFits m x (eType e) then .sf else mapCond (mapLo m x) r
  | .ds0 => if carrierFailed m (x / 32) then .sf else .ok

/-- Order of conditions: SF worst. -/
def sev : Cond → Nat
  | .ok => 0 | .sd => 1 | .sf => 2

/-- Recognise a leg's condition (R185): an improvement at once, a worsening after `ho` × 800 frames. `seen` is the frame
in which the map shows it. -/
def recognise (seen now : FN) (ho : Nat) (raw held : Cond) (timer : Option FN) : Cond × Option FN :=
  if sev raw ≤ sev held then (raw, none)
  else if ho = 0 then (raw, none)
  else match timer with
    | none => (held, some seen)
    | some f => if 800 * ho ≤ (now - f).toNat then (raw, none) else (held, some f)

/-- The external command an object holds (R192). -/
def extHeld (s : State) (k : Nat) : Option ExtHeld := tfind s.cfg.ext k

/-- Key of an object's external command; the two spans of a ring are objects of their own, side 0 east and 1 west (R191). -/
def extKey (o : ProtObj) (side : Nat) : Nat :=
  match o with
  | .sel t i => selKey t i
  | .linear g => 0x3000000 + g
  | .ring r => 0x4000000 + 2 * r + side
  | .lane l => 0x5000000 + l

/-- The request in force above WTR (R184): its priority, 9 for none. -/
def topRequest (a b : Cond) (ext : Option ExtHeld) : Nat :=
  let req := match ext with | some x => x.req.toNat | none => 0
  if req = 1 then 1 else if b = .sf then 2 else if req = 2 then 3 else if a = .sf then 4
  else if b = .sd then 5 else if a = .sd then 6 else if req = 3 ∨ req = 4 then 7 else 9

/-- The leg a request delivers (R184). -/
def legFor (prio : Nat) (ext : Option ExtHeld) (revertive : Bool) (present : Leg) : Leg :=
  match prio with
  | 1 => .a | 2 => .a | 3 => .b | 4 => .b | 5 => .a | 6 => .b
  | 7 => (match ext with | some x => if x.req = 4 then .a else .b | none => present)
  | 8 => .b
  | _ => if revertive then .a else present

/-- Revertive operation of an entry (R184, R189). -/
def revertive (s : State) (e : Word64) : Bool := decide (eSel e = 2) && !pRevertOff (profileOf s (eSncp e))

/-- The condition of a leg as its selector sees it: an entry lost to a memory error fails both legs (R382). -/
def rawCond (m s : State) (t : Tier) (i : Nat) (e : Word64) (x : Nat) : Cond :=
  if itemBad m (.liveEntry t i) then .sf else legCond m s t e x

/-- WTR starts (R186): B delivered, SF-A or SD-A ceasing to be recognised, no request above WTR. -/
def wtrStarts (rev : Bool) (top : Nat) (old : SelState) (condA : Cond) : Bool :=
  rev && decide (top = 9) && decide (old.leg = .b) && decide (0 < sev old.condA) && decide (condA = .ok)

/-- One evaluation of a selector (R184 to R186) in the frame `s.clk.fn`, on the map of state `m`. -/
def evalSel (m s : State) (t : Tier) (i : Nat) (e : Word64) (old : SelState) : SelState :=
  let r := profileOf s (eSncp e)
  let now := s.clk.fn
  let ca := recognise (now - 1) now (pHoldOff r) (rawCond m s t i e (eSrcA e)) old.condA old.hoA
  let cb := recognise (now - 1) now (pHoldOff r) (rawCond m s t i e (eSrcB e)) old.condB old.hoB
  let ext := extHeld s (selKey t i)
  let top := topRequest ca.1 cb.1 ext
  let rev := revertive s e
  let wtr := if top < 9 || !rev then none
    else if wtrStarts rev top old ca.1 then some now
    else match old.wtr with
      | some f => if 480000 * pWtr r ≤ (now - f).toNat then none else some f
      | none => none
  let prio := if top = 9 ∧ wtr.isSome then 8 else top
  { leg := legFor prio ext rev old.leg, req := prio, condA := ca.1, condB := cb.1, hoA := ca.2, hoB := cb.2, wtr := wtr }

/-- The entry has a selector of its own (R183): valid, SEL 10 or 11, for a concatenation its head (R43), and in the low-order
tier not bound to a carrier, which ignores SEL (R18). -/
def hasSelector (p : Page) (t : Tier) (i : Nat) (e : Word64) : Bool :=
  eValid e && decide (2 ≤ eSel e) && (decide (t ≠ .ho) || decide (headOf p i = i)) && (decide (t ≠ .lo) || !isBound p i)

/-- Remove the command a selector holds: audit KIND 7 and its journal record (R192, R387), and where it is reported the
PROT event CMD_REMOVED, with the leg now delivered, and PROT.CMD_REMOVED. -/
def removeExt (t : Tier) (i : Nat) (reported : Bool) (s : State) : State :=
  match extHeld s (selKey t i) with
  | none => s
  | some x =>
    let s := { s with cfg := { s.cfg with ext := terase s.cfg.ext (selKey t i) } }
    let leg := legCode (tget {} s.prot.sel (selKey t i)).leg
    let s := if reported then raise gProt 5 (protNote 6 (tierCode t) leg x.req.toNat i s) else s
    let a := auditOf s 7 2 (ownSlice s) (ownUnit s) 0 0 s.clk.fn 0x31 0
      (BitVec.ofNat 64 (i + 0x100000000 * x.req.toNat))
    recordDue .config [a] (auditAdd a s)

/-- The counter of a tier's selector switches (R400): block and counter of the egress index. -/
def switchCounter (t : Tier) (i : Nat) : Nat × Nat :=
  match t with
  | .ho => (64 + i / 3072, 0) | .lo => (64 + i / 86016, 1) | .ds0 => (96 + i / 32768, 3)

/-- A DS0 entry is carried: executed, where a source carrier that was lost with its bank is a failure and no absence (R52). -/
def ds0Carried (s : State) (i : Nat) (e : Word64) : Bool :=
  let p := s.page.live
  eValid e && !slotReserved (carrierAt p (i / 32)) (i % 32) && carrierLive p (i / 32) &&
    (sources e).all fun x => carrierLive p (x / 32) || itemLost s (lostCarrierKey (x / 32))

/-- A live entry is executed in its tier (R17, R18, R116). -/
def executed (s : State) (t : Tier) (i : Nat) (e : Word64) : Bool :=
  match t with
  | .ho => eValid e | .lo => loExecuted s.page.live i e | .ds0 => ds0Carried s i e

/-- The fabric slice of an egress index: of a DS0 none. -/
def sliceOf (t : Tier) (i : Nat) : Option Nat :=
  match t with | .ho => some (i / 3072) | .lo => some (i / 86016) | .ds0 => none

/-- A position takes a new source in this frame: its pointer carries one NDF, which its fabric slice counts (R62, R187, R400). -/
def markMoved (t : Tier) (i : Nat) (s : State) : State :=
  match sliceOf t i with
  | none => s
  | some b => bump (64 + b) 3 1 { s with prot := { s.prot with moved := tinsert s.prot.moved (selKey t i) s.clk.fn } }

/-- Evaluate one selector on the map of `m` and act on its switch (R187, R188): the PROT cause, the switch to report with the
request that caused it, its NDF, and a standing manual switch removed by a request of higher priority (R192). -/
def stepSel (m : State) (t : Tier) (s : State) (x : Nat × Word64) : State :=
  let (i, e) := x
  if !hasSelector s.page.live t i e || !executed s t i e then s else
  let k := selKey t i
  let old := tget {} s.prot.sel k
  let new := evalSel m s t i e old
  let s := { s with prot := { s.prot with sel := tset {} s.prot.sel k new } }
  let s := match extHeld s k with
    | some h => if new.req < 7 ∧ (h.req = 3 ∨ h.req = 4) then removeExt t i true s else s
    | none => s
  if new.leg = old.leg then s
  else
    let c := switchCounter t i
    bump c.1 c.2 1 (raise gProt 0 (markMoved t i { s with prot := { s.prot with
      switched := s.prot.switched ++ [(k, new.leg, new.req, s.clk.fn)] } }))

/-- Evaluate every selector on the map of `m` (R183): high order and DS0 in every frame, low order at each multiframe start. -/
def evalSelectors (m s : State) : State :=
  let s := s.page.live.ho.foldl (stepSel m .ho) s
  let s := s.page.live.ds0.foldl (stepSel m .ds0) s
  if s.clk.fn.toNat % 4 = 0 then s.page.live.lo.foldl (stepSel m .lo) s else s

/-- Between multiframe starts a low-order leg's improvement is recognised at once, and its hold-off starts and runs (R185). -/
def holdStep (now : FN) (ho : Nat) (raw held : Cond) (timer : Option FN) : Cond × Option FN :=
  if sev held < sev raw ∧ ho = 0 then (held, none) else recognise (now - 1) now ho raw held timer

/-- A low-order selector in a frame without its evaluation, on the map of `m`. -/
def holdTimers (m s : State) (x : Nat × Word64) : State :=
  if !hasSelector s.page.live .lo x.1 x.2 || !executed s .lo x.1 x.2 then s else
  let k := selKey .lo x.1
  let o := tget {} s.prot.sel k
  let ho := pHoldOff (profileOf s (eSncp x.2))
  let ca := holdStep s.clk.fn ho (rawCond m s .lo x.1 x.2 (eSrcA x.2)) o.condA o.hoA
  let cb := holdStep s.clk.fn ho (rawCond m s .lo x.1 x.2 (eSrcB x.2)) o.condB o.hoB
  let top := topRequest ca.1 cb.1 (extHeld s k)
  let wtr := if wtrStarts (revertive s x.2) top o ca.1 then some s.clk.fn else o.wtr
  { s with prot := { s.prot with sel := tset {} s.prot.sel k { o with
    condA := ca.1, condB := cb.1, hoA := ca.2, hoB := cb.2, wtr := wtr } } }

/-- The fields that R92's first row leaves unchanged. -/
def selBits (e : Word64) : Word64 := e &&& (ones 64 0 50 ||| ones 64 56 6)

/-- The change of R92's last row. -/
def srcsChanged (x y : Word64) : Bool :=
  eSrcA x != eSrcA y || eSrcB x != eSrcB y || !eValid x || eType x != eType y || eGroom x != eGroom y

/-- The leg from which a selector starts in a new page (R92). `s` holds the new page live; `x` is the old entry, `y` the
new one, `prev` the leg delivered in FN − 1. -/
def swapSel (s : State) (t : Tier) (x y : Word64) (old : SelState) : SelState × Bool :=
  let now := s.clk.fn
  let aSf := decide (legCond s s t y (eSrcA y) = .sf)
  let bSf := decide (eSrcB y ≠ noSrc) && decide (legCond s s t y (eSrcB y) = .sf)
  let present : Leg := if !eValid x then .a else if eSel x = 0 then .a else if eSel x = 1 then .b else old.leg
  let fixed : Leg := if eSel y = 1 then .b else .a
  let srcs := srcsChanged x y
  let fresh : SelState := { leg := .a }
  if srcs then
    let was := match present with | .a => eSrcA x | .b => eSrcB x
    let keepA := eValid x && decide (was ≠ noSrc) && decide (eSrcA y = was) && !aSf
    let keepB := eValid x && decide (was ≠ noSrc) && decide (eSrcB y = was) && !bSf
    let leg : Leg := if eSel y < 2 then fixed else if keepA then .a else if keepB then .b
      else if !aSf then .a else if !bSf then .b else .a
    ({ fresh with leg := leg }, false)
  else if eSel y < 2 then ({ fresh with leg := fixed }, false)
  else if eSel x < 2 then
    let ok := fun l => match l with | .a => !aSf | .b => !bSf
    let other : Leg := match present with | .a => .b | .b => .a
    let leg : Leg := if ok present then present else if ok other then other else .a
    ({ fresh with leg := leg, wtr := if revertive s y ∧ leg = .b ∧ !aSf then some now else none }, false)
  else if eSel x = 2 ∧ eSel y = 3 then ({ old with wtr := none }, true)
  else if eSel x = 3 ∧ eSel y = 2 then
    ({ old with wtr := if revertive s y ∧ old.leg = .b ∧ !aSf then some now else none }, true)
  else (old, true)

/-- A pending command on a selector that a swap clears is discarded: request 0xFF stands for it until frame F (R193). -/
def discardPending (t : Tier) (i : Nat) (s : State) : State :=
  { s with host := { s.host with sched := s.host.sched.map fun x =>
      match x.effect with
      | .ext (.sel t' i') _ ch => if t' = t ∧ i' = i ∧ !x.applied then { x with effect := .ext (.sel t i) 0xFF ch } else x
      | _ => x } }

/-- An entry as its selector reads it: of a low-order index with a carrier bound to it, none (R18). -/
def selEntry (p : Page) (t : Tier) (i : Nat) : Word64 := if t = .lo ∧ isBound p i then emptyEntry else entryAt p t i

/-- Key of the selector that an entry follows in a page: a concatenation's is its head's (R43). -/
def followedKey (p : Page) (t : Tier) (i : Nat) : Nat := selKey t (if t = .ho then headOf p i else i)

/-- Carry the selectors of a tier across a swap (R91, R92): the second component of swapSel says that external commands
are kept; a cleared command is removed, and reported by a PROT event in R92's last row only. The leg delivered before is that
of the head that the entry followed then. -/
def swapTier (old : Page) (t : Tier) (s : State) : State :=
  let binds := fun (p : Page) => if t = .lo then (p.car.map fun x => cBind x.2).filter (· ≠ noSrc) else []
  let changed := sortNat (diffKeys selBits (tierOfPage old t) (tierOfPage s.page.live t) ++
    changedIn old s.page.live t ++ ((binds old).filter fun i => !isBound s.page.live i) ++
    (binds s.page.live).filter fun i => !isBound old i)
  let was := s.prot.sel
  changed.foldl (fun s i =>
    let x := selEntry old t i
    let y := selEntry s.page.live t i
    let k := selKey t i
    if !hasSelector s.page.live t i y then
      let s := { s with prot := { s.prot with sel := terase s.prot.sel k } }
      discardPending t i (removeExt t i (eValid y && srcsChanged x y) s)
    else
      let (n, keep) := swapSel s t x y (tget {} was (followedKey old t i))
      let s := { s with prot := { s.prot with sel := tset {} s.prot.sel k n } }
      if keep then s else discardPending t i (removeExt t i (srcsChanged x y) s)) s

-- The engines that serve an object (R19, R370).

/-- Tributary engine of an object by class: the slot's, the carrier's, the lane's, or that of a fabric port's slot 0. -/
def servingEngine (s : State) (cls obj : Nat) : Nat :=
  match cls with
  | 2 => obj / 48
  | 3 => obj / 28 / 48
  | 4 => cBind (carrierAt s.page.live obj) / 28 / 48
  | _ => if obj < 128 then 8 * obj else 4 * (obj - 256)

/-- Engine functions of an object run: no reset of the control hierarchy, its cluster on and not faulted, its engine not
stopped (R13, R373, R378, R382). -/
def enginesServe (s : State) (cls obj : Nat) : Bool :=
  let e := servingEngine s cls obj
  let c := tget {} s.eng.cl (e / 32)
  entered s && domOn s (32 + e / 32) && !c.faulted && !(c.stopped.any fun x => x.1 == e % 32)

/-- Carry every selector across a swap that has put `s.page.live` in force. -/
def swapSelectors (old : Page) (s : State) : State := swapTier old .ds0 (swapTier old .lo (swapTier old .ho s))

end Sys2Proof.Machine
end

