-- ==== Sys2Proof/Machine/Defects.lean ====
section
/-! DEFINITION. Defect sets (R343): their change and the causes it raises (R170, R310), the server layers that hold back the
defects of what they carry (R164), traces (R162) and the thresholds of SD and SF (R168). -/
namespace Sys2Proof.Machine

/-- Whether an object's set changed in the period (R170). -/
def markDirty (k : Nat) (s : State) : State :=
  { s with dft := { s.dft with dirty := if s.dft.dirty.contains k then s.dft.dirty else s.dft.dirty ++ [k] } }

/-- The lane of an object of classes 0, 1, 5, 6 and 7 (R176): 256 + FP names the lane the port is bound to. -/
def laneOfObj (s : State) (obj : Nat) : Nat :=
  if obj < 256 then obj else match tget .unbound s.cfg.ports (obj - 256) with | .lane l _ => l | _ => 0

/-- The cause that a change of bit b of an object raises (R169, R170, R310). -/
def defectCause (s : State) (cls obj b : Nat) : Nat × Nat :=
  if b = 52 ∨ b = 53 then (gOvh, 3)
  else if 54 ≤ b ∧ b ≤ 56 then (gOvh, 4)
  else if cls = 2 then (gOvh, 0)
  else if cls = 3 then (gOvh, 1)
  else if cls = 4 then (gOvh, 2)
  else (gLane, laneOfObj s obj / 4)

/-- Write one bit of a defect set; a change is reported at the end of the period and raises its cause. -/
def putDefect (cls obj b : Nat) (on : Bool) (s : State) : State :=
  let k := objKey cls obj
  let w := tget 0 s.dft.set k
  if bit w b = on then s
  else
    let c := defectCause s cls obj b
    raise c.1 c.2 (markDirty k { s with
      dft := { s.dft with set := tset 0 s.dft.set k (putBit w b on) },
      pm := { s.pm with seen := tset 0 s.pm.seen k (tget 0 s.pm.seen k ||| w ||| (if on then place 64 b 1 else 0)) } })

/-- Put a whole defect set, bit by bit: what changes is reported, and raises its cause (R170). -/
def putSet (k : Nat) (w : Word64) (s : State) : State :=
  (List.range 64).foldl (fun s b => putDefect (k / 0x1000000) (k % 0x1000000) b (bit w b) s) s

-- Server layers (R164).

/-- A section or line defect that is a server layer (R164). -/
def sonetDown (s : State) (obj : Nat) : Bool :=
  anyBit (defects s 0 obj ||| defects s 1 obj) [bLos, bOof, bLof, bAisL]

/-- A section defect stands, which carries the line layer. -/
def sectionDown (s : State) (obj : Nat) : Bool := anyBit (defects s 0 obj) [bLos, bOof, bLof]

/-- ODU-AIS, OCI, LCK or PLM stands on an ODU (R164). -/
def oduDown (s : State) (obj : Nat) : Bool := anyBit (defects s 6 obj) [22, 23, 24, 25]

/-- A server layer of the slots of lane-side port q stands (R164). -/
def portDown (s : State) (q : Nat) : Bool :=
  match tget .unbound s.cfg.ports q with
  | .lane l _ =>
    let m := laneMode s.cfg l
    if m = 0x18 then vblDown s l
    else if m ≤ 4 then sonetDown s l
    else otuAis s l || oduDown s l || (if muxed m then oduDown s (256 + q) || sonetDown s (256 + q) else sonetDown s l)
  | _ => false

/-- The OTN layers below a client SONET signal or an ODU2 of a lane (R164). -/
def otnDown (s : State) (obj : Nat) : Bool :=
  let l := laneOfObj s obj
  let m := laneMode s.cfg l
  decide (5 ≤ m) && decide (m ≠ 0x18) && (otuAis s l || (decide (256 ≤ obj) && oduDown s l))

/-- A server layer of what a groom position carries stands (R164): its source's lane, its own pointer, or in an AU-4 the block's (R101). -/
def groomDown (s : State) (g : Nat) : Bool :=
  let x := deliveredHo s g
  let r := remapAt s (x / 192) (x % 192)
  anyBit (defects s 2 x ||| defects s 2 (deliveredHo s (headOf s.page.live g))) [bLop, bAisP] ||
    (decide (rInAct r = 0) && portDown s (rInFp r))

/-- A server layer of an object stands: its defects are neither declared nor reported (R164). -/
def serverDown (s : State) (cls obj : Nat) : Bool :=
  match cls with
  | 0 => otnDown s obj || (decide (5 ≤ laneMode s.cfg (laneOfObj s obj)) && oduDown s obj)
  | 1 => sectionDown s obj || otnDown s obj || (decide (5 ≤ laneMode s.cfg (laneOfObj s obj)) && oduDown s obj)
  | 2 => let r := remapAt s (obj / 192) (obj % 192)
    decide (rInAct r = 0) && portDown s (rInFp r)
  | 3 => groomDown s (obj / 28)
  | 4 => cBound (carrierAt s.page.live obj) && groomDown s (cBind (carrierAt s.page.live obj) / 28)
  | 6 => otnDown s obj
  | _ => false

/-- The bits that an object's own server defect does not withdraw: protection bytes are held (R166); CMM and LTM stand against an
egress index, whose number is no ingress slot's (R44, R106), and go with the server defects of its sources. -/
def heldBits : Word64 := ones 64 52 2 ||| place 64 bCmm 1 ||| place 64 38 1

/-- A mismatch of structure stands against an egress head (class 2) or an egress low-order index (class 3): of an entry that is
executed, and of a source under no server defect (R44, R106, R164). -/
def mismatch (s : State) (cls i : Nat) : Bool :=
  let p := s.page.live
  if cls = 2 then
    let e := entryAt p .ho i
    eValid e && decide (headOf p i = i) && (sources e).any fun y => !serverDown s 2 y && concMismatch s (eType e) y
  else
    let e := entryAt p .lo i
    loExecuted p i e && (sources e).any fun y => !serverDown s 3 y && !foundFits s y (eType e)

/-- CMM and LTM bits of a set, without those that stand no longer. -/
def dropMismatch (s : State) (k : Nat) (w : Word64) : Word64 :=
  let cls := k / 0x1000000
  let b := if cls = 2 then bCmm else 38
  if (cls = 2 ∨ cls = 3) ∧ bit w b ∧ !mismatch s cls (k % 0x1000000) then putBit w b false else w

/-- Withdraw, unreported, what the standing server layers carry (R164), whose detection starts afresh afterwards; what stood has
stood in its second (R171). -/
def suppress (s : State) : State :=
  let down := fun (k : Nat) => serverDown s (k / 0x1000000) (k % 0x1000000)
  let s : State := { s with dft := { s.dft with
    set := (s.dft.set.map fun (x : Nat × Word64) => if down x.1 then (x.1, x.2 &&& heldBits) else x).filter fun x => x.2 != 0,
    ber := s.dft.ber.filter fun x => !down x.1, ptr := s.dft.ptr.filter fun x => !down x.1,
    h4 := s.dft.h4.filter fun x => !groomDown s x.1, reading := s.dft.reading.filter fun x => !groomDown s (x.1 / 8) } }
  { s with dft := { s.dft with
    set := (s.dft.set.map fun (x : Nat × Word64) => (x.1, dropMismatch s x.1 x.2)).filter fun x => x.2 != 0 } }

/-- Declare or clear a defect (R163, R164): nothing is declared under a standing server layer, and a declaration may
itself be a server's. -/
def changeDefect (cls obj b : Nat) (on : Bool) (s : State) : State :=
  if on then (if serverDown s cls obj && !bit heldBits b then s else suppress (putDefect cls obj b true s))
  else putDefect cls obj b false s

-- Mismatches of structure.

/-- CMM against each egress head, and LTM against each egress low-order index, follow the structure found at ingress and the
live page (R44, R106): an entry that is not executed, or whose carrier ignores its sources, shows neither. -/
def evalMismatch (s : State) : State :=
  let p := s.page.live
  let stale := fun (cls b : Nat) (m : SMap Word64) =>
    (s.dft.set.filter fun x => x.1 / 0x1000000 == cls && bit x.2 b && (tfind m (x.1 % 0x1000000)).isNone).map fun x =>
      x.1 % 0x1000000
  let s := (stale 2 bCmm p.ho).foldl (fun s g => putDefect 2 g bCmm false s) s
  let s := (stale 3 38 p.lo).foldl (fun s i => putDefect 3 i 38 false s) s
  let s := p.ho.foldl (fun s x => putDefect 2 x.1 bCmm (mismatch s 2 x.1) s) s
  p.lo.foldl (fun s x => putDefect 3 x.1 38 (mismatch s 3 x.1) s) s

-- Traces (R162).

/-- The part of a TTI that a comparison covers (R162): SAPI in bytes 0 to 15, DAPI in bytes 16 to 31. -/
def ttiPart (cmp : Nat) (t : Bytes) : Bytes :=
  match cmp with
  | 0 => slice t 0 16
  | 1 => slice t 16 16
  | _ => slice t 0 32

/-- The expected trace of an object, cut to what is compared, and the same part of another trace: none while comparison is
off. -/
def traceCompare (s : State) (cls obj : Nat) (t : Bytes) : Option Bool :=
  match cls with
  | 0 =>
    let c := laneCfg s.cfg obj
    let n := match fld c.j0 0 2 with | 0 => 1 | 1 => 16 | _ => 64
    if 128 ≤ obj ∨ 5 ≤ laneMode s.cfg obj ∨ !bit c.flags 6 then none else some (decide (slice c.expTrace 0 n ≠ slice t 0 n))
  | 5 =>
    let c := laneCfg s.cfg obj
    if 128 ≤ obj ∨ !bit c.flags 6 then none
    else some (decide (ttiPart (fld c.j0 2 2) c.expTrace ≠ ttiPart (fld c.j0 2 2) t))
  | _ =>
    match tfind s.cfg.expTrace (objKey cls obj) with
    | none => none
    | some (v, e) =>
      if cls = 6 then some (decide (ttiPart (fld v 2 2) e ≠ ttiPart (fld v 2 2) t))
      else
        let n := match fld v 0 2 with | 1 => 1 | 2 => 16 | _ => 64
        some (decide (slice e 0 n ≠ slice t 0 n))

/-- The TIM bit of a class (R343). -/
def timBit : Nat → Nat
  | 0 => bTimS | 5 => 14 | 6 => 15 | _ => bTim

/-- TIM follows the accepted trace (R162): before any is accepted there is none, and while the trace is unstable TIM holds. -/
def evalTim (cls obj : Nat) (s : State) : State :=
  match tfind s.dft.traces (objKey cls obj) with
  | none => s
  | some t => if bit (defects s cls obj) 54 then s else changeDefect cls obj (timBit cls) ((traceCompare s cls obj t).getD false) s

-- SD and SF (R168).

/-- Exponents of the SF and SD thresholds of an object (R168): LANE_CONFIG's for lanes and ODUs; the most sensitive of the
profiles of the valid entries that name a path. -/
def thresholds (s : State) (cls obj : Nat) : Nat × Nat :=
  match cls with
  | 2 => overEntries .ho
  | 3 => overEntries .lo
  | _ => let c := laneCfg s.cfg (laneOfObj s obj)
    (c.sfExp.toNat, c.sdExp.toNat)
where
  overEntries (t : Tier) : Nat × Nat :=
    let es := (tierOfPage s.page.live t).filter fun x =>
      eValid x.2 && decide (2 ≤ eSel x.2) && (sources x.2).contains obj
    if es.isEmpty then (3, 6)
    else es.foldl (fun m x => let r := profileOf s (eSncp x.2); (max m.1 (pSfExp r), max m.2 (pSdExp r))) (0, 0)

/-- The SD and SF bits of a class (R343). -/
def degradeBits (cls : Nat) : Option (Nat × Nat) :=
  match cls with
  | 1 => some (bSdL, bSfL) | 2 => some (34, 35) | 3 => some (34, 35) | 5 => some (18, 19) | 6 => some (20, 21) | _ => none

/-- SD and SF of an object follow the declarations at its two thresholds (R168). -/
def evalBands (cls obj : Nat) (s : State) : State :=
  match degradeBits cls with
  | none => s
  | some (sd, sf) =>
    let w := tget 0 s.dft.ber (objKey cls obj)
    let t := thresholds s cls obj
    changeDefect cls obj sf (w.testBit t.1) (changeDefect cls obj sd (w.testBit t.2) s)

end Sys2Proof.Machine
end

