-- ==== Sys2Proof/Machine/Pm.lean ====
section
/-! DEFINITION. Performance monitoring (R171 to R177): which objects are monitored, seconds and availability, bins, records
and their export, and what a step of the TOD counter does to them. -/
namespace Sys2Proof.Machine

/-- An object is monitored (R171). The MON set is the set of low-order indices whose valid entry has MON = 1. -/
def isMonitored (s : State) (cls obj : Nat) : Bool :=
  let m := laneMode s.cfg obj
  let tributary := decide (256 ≤ obj ∧ obj < 512) &&
    (match tget .unbound s.cfg.ports (obj - 256) with | .lane l _ => muxed (laneMode s.cfg l) | _ => false)
  match cls with
  | 0 => (decide (obj < 128) && decide ((1 ≤ m ∧ m ≤ 4) ∨ (8 ≤ m ∧ m ≤ 0xD))) || tributary
  | 1 => (decide (obj < 128) && decide ((1 ≤ m ∧ m ≤ 4) ∨ (8 ≤ m ∧ m ≤ 0xD))) || tributary
  | 2 => slotBacked s.cfg obj
  | 3 => let e := entryAt s.page.live .lo obj; eValid e && eMon e && isGroom s.page.live (obj / 28)
  | 4 => cConfigured (carrierAt s.page.live obj)
  | 5 => decide (obj < 128) && decide (8 ≤ m ∧ m ≤ 0x10)
  | 6 => (decide (obj < 128) && decide (8 ≤ m ∧ m ≤ 0x10)) || tributary
  | 7 => decide (obj < 128) && decide (m = 0x18)
  | _ => false

/-- An object of PM. -/
def pmObj (s : State) (k : Nat) : PmObj := tget {} s.pm.objs k

/-- Replace it. -/
def putPm (k : Nat) (o : PmObj) (s : State) : State := { s with pm := { s.pm with objs := tset {} s.pm.objs k o } }

/-- 30 % of the blocks errored (R171). -/
def sesErrs (blocks errs : Nat) : Bool := decide (0 < blocks) && decide (3 * blocks ≤ 10 * errs)

/-- The last ten seconds all satisfy a test. -/
def lastTen (f : PmSec → Bool) (xs : List PmSec) : Bool := decide (10 ≤ xs.length) && (xs.drop (xs.length - 10)).all f

/-- Rewrite the last ten seconds, which a determination of R172 reaches back over. -/
def markTen (f : PmSec → PmSec) (xs : List PmSec) : List PmSec :=
  xs.take (xs.length - 10) ++ (xs.drop (xs.length - 10)).map f

/-- Classify a second and determine availability (R172). -/
def addSecond (o : PmObj) (x : PmSec) : PmObj :=
  let xs := o.secs ++ [{ x with nUas := o.nUnavail, fUas := o.fUnavail }]
  let nTurn := lastTen (fun y => y.monitored && y.nSes != o.nUnavail) xs
  let fTurn := lastTen (fun y => y.monitored && y.fSes != o.fUnavail) xs
  let n := o.nUnavail != nTurn
  let f := o.fUnavail != fTurn
  let xs := if nTurn then markTen (fun y => { y with nUas := n }) xs else xs
  let xs := if fTurn then markTen (fun y => { y with fUas := f }) xs else xs
  { o with secs := xs, nUnavail := n, fUnavail := f }

/-- Monitoring of an object runs: no reset, and its part of the module powered (R172). -/
def monitoringRuns (s : State) (cls obj : Nat) : Bool :=
  let quad := fun (l : Nat) => domOn s (l / 4)
  enginesServe s cls obj && (match cls with
    | 2 => sliceOn s (obj / 192)
    | 3 => sliceOn s (obj / 28 / 192)
    | 4 => domOn s (96 + obj / 1024)
    | _ =>
      if obj < 128 then quad obj
      else match tget .unbound s.cfg.ports (obj - 256) with | .lane l _ => quad l | _ => false)

/-- EXTRA_A (0) or EXTRA_B (1) of a class (R176): 0 where it has none; corrected symbols saturate. -/
def extraOf (cls which n : Nat) : Nat :=
  match cls, which with
  | 2, _ => n | 3, _ => n | 4, 0 => n
  | 5, 0 => min n 0xFFFFFFFF | 7, 0 => min n 0xFFFFFFFF
  | 5, _ => n | 7, _ => n
  | _, _ => 0

/-- The counts of a second (R172, R176): unavailable time counts UAS alone, for both directions of a class with a far
end. -/
def secCounts (cls : Nat) (x : PmSec) : PmCounts :=
  let far := decide (cls ≠ 0)
  let un := x.nUas || (far && x.fUas)
  let flags := x.flags ||| (if un then 4 else 0)
  let base : PmCounts := { start := x.start, flags := flags, exA := extraOf cls 0 x.exA, exB := extraOf cls 1 x.exB }
  if !x.monitored then { base with exA := 0, exB := 0 }
  else if un then { base with nUAS := 1, fUAS := nat01 far }
  else { base with
    nES := nat01 (x.nSes || decide (0 < x.nErr)), nSES := nat01 x.nSes, nBBE := if x.nSes then 0 else x.nErr,
    fES := nat01 (far && (x.fSes || decide (0 < x.fErr))), fSES := nat01 (far && x.fSes),
    fBBE := if x.fSes || !far then 0 else x.fErr }

/-- Take a second's counts into a bin: UNAVAILABLE follows the last second (R175). -/
def addCounts (cls : Nat) (b x : PmCounts) : PmCounts :=
  { start := b.start, flags := (b.flags &&& 0x1B) ||| x.flags, nES := b.nES + x.nES, nSES := b.nSES + x.nSES,
    nBBE := b.nBBE + x.nBBE, nUAS := b.nUAS + x.nUAS, fES := b.fES + x.fES, fSES := b.fSES + x.fSES,
    fBBE := b.fBBE + x.fBBE, fUAS := b.fUAS + x.fUAS, exA := extraOf cls 0 (b.exA + x.exA), exB := extraOf cls 1 (b.exB + x.exB) }

/-- A PM record (R176). -/
def pmRecord (kind cls obj : Nat) (c : PmCounts) : Bytes :=
  packBytes 64 [(0, 4, obj + 0x1000000 * cls + 0x20000000 * kind), (4, 2, c.flags), (8, 8, c.start), (16, 4, c.nES),
    (20, 4, c.nSES), (24, 4, c.nBBE), (28, 4, c.nUAS), (32, 4, c.fES), (36, 4, c.fSES), (40, 4, c.fBBE), (44, 4, c.fUAS),
    (48, 4, c.exA), (52, 4, c.exB)]

/-- Every count of a record is zero and its flags are clear: a sparse export omits it (R177). -/
def countsZero (c : PmCounts) : Bool := decide ({ c with start := 0 } = ({} : PmCounts))

/-- Announce a PM buffer: PM_BIN (R177, R342). -/
def announceBuf (b : PmBuf) (s : State) : State :=
  post 0x50 [(0, 8, b.addr), (8, 4, b.written), (12, 4, b.written / 64)] s

/-- Write a record into the first posted buffer, announcing it when full (R177, R336). -/
def writeRecord (bs : Bytes) (b : PmBuf) (rest : List PmBuf) (s : State) : State :=
  let b' := { b with written := b.written + 64, firstFn := if b.written = 0 then s.clk.fn else b.firstFn }
  let s := { s with host := { s.host with mem := writeSegs b.segs b.written bs s.host.mem } }
  if b'.len ≤ b'.written then announceBuf b' { s with pm := { s.pm with bufs := rest } }
  else { s with pm := { s.pm with bufs := b' :: rest } }

/-- PM records can be written: the link usable and CH3 not halted (R304, R305). -/
def pmWritable (s : State) : Bool := linkUsable s && decide ((tget {} s.dma.ch 3).phase ≠ .halted)

/-- A record of an object falls due (R177): written, omitted when sparse, or dropped with PM_OVERRUN. -/
def emitRecord (kind cls obj : Nat) (c : PmCounts) (s : State) : State :=
  let sel := tget 0 s.cfg.pmExport cls
  let k := objKey cls obj
  let o := pmObj s k
  let c := { c with flags := c.flags ||| (if 0 < o.lost then 16 else 0) }
  if !(if kind = 0 then bit sel 0 else bit sel 1) then s
  else if bit sel 2 && countsZero c then s
  else if !pmWritable s then
    post 0x51 [(0, 4, obj + 0x1000000 * cls), (4, 4, o.lost + 1)] (putPm k { o with lost := o.lost + 1 } s)
  else match s.pm.bufs with
    | b :: rest => writeRecord (pmRecord kind cls obj c) b rest (putPm k { o with lost := 0 } s)
    | [] => post 0x51 [(0, 4, obj + 0x1000000 * cls), (4, 4, o.lost + 1)] (putPm k { o with lost := o.lost + 1 } s)

/-- Take the counts of a second into both current bins. -/
def binSecond (cls : Nat) (x : PmSec) (o : PmObj) : PmObj :=
  if x.binned then o
  else { o with cur15 := addCounts cls o.cur15 (secCounts cls x), curDay := addCounts cls o.curDay (secCounts cls x) }

/-- The counts of a per-second record: a step of at most 1 s flags the second alone SUSPECT (R174). -/
def secRecord (cls : Nat) (x : PmSec) : PmCounts :=
  let c := secCounts cls x
  if x.stepped then { c with flags := c.flags ||| 2 } else c

/-- The oldest second of an object becomes final, 10 s after it ended (R173). -/
def pmFinal (cls obj : Nat) (s : State) : State :=
  let k := objKey cls obj
  let o := pmObj s k
  match o.secs with
  | [] => s
  | x :: rest =>
    if (s.clk.fn - x.endFn).toNat < 80000 then s
    else emitRecord 0 cls obj (secRecord cls x) (putPm k (binSecond cls x { o with secs := rest }) s)

/-- PM_SECOND_FINAL (R173). -/
def execPmSecondFinal (cls : Nat) (obj : Nat) (s : State) : Host.Outcome State Fault Refusal :=
  finish s (pmFinal cls obj s)

/-- Seconds of a bin. -/
def binLength (day : Bool) : Nat := if day then 86400 else 900

/-- TOD seconds at which a bin ends (R174). -/
def binEnd (day : Bool) (start : Nat) : Nat := (start / binLength day + 1) * binLength day

/-- Close a bin: it becomes the previous one and is exported (R173, R174). -/
def closeBin (cls obj : Nat) (day : Bool) (next : PmCounts) (s : State) : State :=
  let k := objKey cls obj
  let o := pmObj s k
  let c := if day then o.curDay else o.cur15
  let s := putPm k (if day then { o with prevDay := c, curDay := next } else { o with prev15 := c, cur15 := next }) s
  emitRecord (if day then 2 else 1) cls obj c s

/-- A bin closes 10 s after its end, once every second of it is final (R173). -/
def pmClose (cls obj : Nat) (day : Bool) (s : State) : State :=
  let o := pmObj s (objKey cls obj)
  let c := if day then o.curDay else o.cur15
  let e := binEnd day c.start
  if o = {} ∨ s.clk.todSec.toNat < e + 10 ∨ o.secs.any fun x => !x.binned && decide (x.start < e) then s
  else closeBin cls obj day { start := e } s

/-- PM_BIN_CLOSE (R173). -/
def execPmBinClose (cls : Nat) (obj : Nat) (day : Bool) (s : State) : Host.Outcome State Fault Refusal :=
  finish s (pmClose cls obj day s)

/-- A PM buffer is announced 8,000 frames after its first record (R336). -/
def pmTimeout (s : State) : State :=
  match s.pm.bufs with
  | b :: rest =>
    if b.written ≠ 0 ∧ 8000 ≤ (s.clk.fn - b.firstFn).toNat then announceBuf b { s with pm := { s.pm with bufs := rest } }
    else s
  | [] => s

/-- PM_BUFFER_TIMEOUT (R336). -/
def execPmBufferTimeout (s : State) : Host.Outcome State Fault Refusal := finish s (pmTimeout s)

/-- Bins of an object first monitored in the second that starts at `t` (R174, R175). -/
def newObj (t : Nat) : PmObj :=
  let bin := fun (day : Bool) =>
    let b := t / binLength day * binLength day
    ({ start := b, flags := if b = t then 0 else 1 } : PmCounts)
  { cur15 := bin false, curDay := bin true }

-- Defects of a second (R171).

/-- Near-end defects that make a second of a class SES (R171). -/
def nearBits : Nat → List Nat
  | 0 => [bLos, bLof]
  | 1 => [bAisL]
  | 2 => [bLop, bAisP, bUneq, bTim, bPlm]
  | 3 => [bLop, bAisP, bUneq, bTim, 38]
  | 4 => [bTrib, bCarAis, bCarLof]
  | 5 => [bLos, bLof, 9, 10, 11, 13]
  | 6 => [22, 23, 24, 25, 26]
  | 7 => [bVblLos, bVblLof]
  | _ => []

/-- The remote indication that makes a far-end second SES (R171). -/
def farBits : Nat → List Nat
  | 1 => [5] | 2 => [32] | 3 => [32] | 4 => [43] | 5 => [16] | 6 => [17] | 7 => [51] | _ => []

/-- Defects of R164's list that stand on the object itself: its own layer is a server of others, and the second is flagged
SERVER as in the worked example of a LOP-P after R177 (DEDUCED, entry 111). -/
def serverBits : Nat → List Nat
  | 0 => [bLos, bOof, bLof]
  | 1 => [bAisL]
  | 2 => [bLop, bAisP]
  | 5 => [bLos, bLof, 9, 10, 11, 12, 13]
  | 6 => [22, 23, 24, 25]
  | 7 => [bVblLos, bVblLof]
  | _ => []

/-- The largest count that M0 and M1 show in a line of n STS-1 (R158, G.707): the bits of B2, but 255 in an OC-48. -/
def remoteMax (n : Nat) : Nat := if n = 48 then 255 else 8 * n

/-- STS-1s of a signal (R129). -/
def stsCount (s : State) (o : Nat) : Nat :=
  if 256 ≤ o then 192
  else match laneMode s.cfg o with | 1 => 3 | 2 => 12 | 3 => 48 | 0x0C => 768 | 0x0D => 768 | _ => 192

/-- The greatest remote count of a class (R158 to R161, R169): M0/M1, REI-P, REI-V, an E-bit, BEI; the UNCORR echo has every value. -/
def farTop (s : State) (cls obj : Nat) : Nat :=
  match cls with
  | 1 => remoteMax (stsCount s obj) | 3 => 1 | 4 => 1 | 7 => 0xFFFF | _ => 8

/-- Blocks whose remote count names errors, and blocks whose count is out of range: those count 0, and as invalid (R158, R169). -/
def farBlocks (top : Nat) (far : List (Nat × Nat)) : Nat × Nat :=
  far.foldl (fun a x => if x.1 = 0 then a else if x.1 ≤ top then (a.1 + x.2, a.2) else (a.1, a.2 + x.2)) (0, 0)

/-- The state with every defect that has stood in the present second. -/
def secondView (s : State) : State := { s with dft := { s.dft with
  set := s.dft.set.foldl (fun m x => tset 0 m x.1 (tget 0 m x.1 ||| x.2)) s.pm.seen } }

/-- One object's second (R171, R172, R175), `v` showing the defects that stood in it. -/
def measure (start : Nat) (v s : State) (m : PmMeas) : State :=
  let k := objKey m.cls m.obj
  if !isMonitored s m.cls m.obj && !(pmObj s k).cut then s else
  let o := if (tfind s.pm.objs k).isSome then pmObj s k else newObj start
  let runs := m.monitored && monitoringRuns s m.cls m.obj && !s.pm.gap
  let (fErr, bad) := farBlocks (farTop s m.cls m.obj) m.far
  let w := defects v m.cls m.obj
  let carrier := decide (m.cls = 4) && (carrierFailed s m.obj || s.pm.failed.contains m.obj)
  let server := serverDown v m.cls m.obj
  let x : PmSec := {
    start := start, endFn := s.clk.fn, monitored := runs, nErr := m.nearErrs, fErr := fErr,
    nSes := sesErrs m.nearBlocks m.nearErrs || anyBit w (nearBits m.cls) || carrier || server,
    fSes := decide (m.cls ≠ 0) && (sesErrs m.nearBlocks fErr || anyBit w (farBits m.cls)), nUas := false,
    fUas := false,
    flags := nat01 (!runs || o.cut) + 2 * nat01 (!s.clk.todSet) + 8 * nat01 (server || anyBit w (serverBits m.cls)),
    exA := m.extraA, exB := m.extraB, stepped := s.pm.suspect, binned := false }
  putPm k { addSecond o x with invalid := o.invalid + bad, cut := false } s

/-- The end of a TOD second (R172). -/
def secondEnd (ms : List PmMeas) (s : State) : State :=
  if s.clk.todSec = 0 ∨ s.clk.todSec = s.pm.lastSec then s
  else
    let s' := ms.foldl (measure (s.clk.todSec.toNat - 1) (secondView s)) s
    { s' with pm := { s'.pm with lastSec := s.clk.todSec, suspect := false, seen := s.dft.set, gap := !entered s, failed := [] } }

/-- PM_SECOND_END (R172). -/
def execPmSecondEnd (ms : List PmMeas) (s : State) : Host.Outcome State Fault Refusal := finish s (secondEnd ms s)

/-- A step of the TOD counter by more than 1 s closes the current bins of an object at once, SUSPECT, and starts new ones
SUSPECT and INCOMPLETE (R174). -/
def stepBins (sec : Nat) (s : State) (x : Nat × PmObj) : State :=
  let cls := x.1 / 0x1000000
  let obj := x.1 % 0x1000000
  let o := pmObj s x.1
  let o := o.secs.foldl (fun o y => binSecond cls y o) o
  let mark := fun (c : PmCounts) => { c with flags := c.flags ||| 2 }
  let s := putPm x.1 { o with
    secs := o.secs.map (fun y => { y with binned := true }), cur15 := mark o.cur15, curDay := mark o.curDay } s
  closeBin cls obj true { start := sec, flags := 3 } (closeBin cls obj false { start := sec, flags := 3 } s)

/-- A swap changes the monitored set (R92, R175): the current bins of a tributary or carrier added to it or removed from it, and its
second, are INCOMPLETE. -/
def pmSwap (old s : State) : State :=
  let keys := ((old.page.live.lo ++ s.page.live.lo).map fun x => objKey 3 x.1) ++
    (old.page.live.car ++ s.page.live.car).map fun x => objKey 4 x.1
  keys.foldl (fun s k =>
    let was := isMonitored old (k / 0x1000000) (k % 0x1000000)
    let is_ := isMonitored s (k / 0x1000000) (k % 0x1000000)
    if was == is_ then s
    else
      let o := if (tfind s.pm.objs k).isSome then pmObj s k else newObj s.clk.todSec.toNat
      let mark := fun (c : PmCounts) => { c with flags := c.flags ||| 1 }
      putPm k { o with cur15 := mark o.cur15, curDay := mark o.curDay, cut := true } s) s

/-- Carriers that have failed in this frame (R125, R171). -/
def failedFrame (s : State) : State :=
  { s with pm := { s.pm with failed := ((s.page.live.car.map (·.1)).filter fun c =>
      cConfigured (carrierAt s.page.live c) && carrierFailed s c && !s.pm.failed.contains c) ++ s.pm.failed } }

/-- Nanoseconds of a time. -/
def nanos (sec : FN) (ns : Word32) : Int := (sec.toNat * 1000000000 + ns.toNat : Nat)

/-- Step the TOD counter (R174, R341). -/
def stepTod (sec : FN) (ns : Word32) (s : State) : State :=
  let d := nanos sec ns - nanos s.clk.todSec s.clk.todNs
  let s := { s with clk := { s.clk with todSec := sec, todNs := ns, todStep := s.clk.todStep.filter (·.1 != s.clk.fn), todSet := true } }
  if d.natAbs ≤ 1000000000 then { s with pm := { s.pm with suspect := true } }
  else
    let s := s.pm.objs.foldl (stepBins sec.toNat) s
    { s with pm := { s.pm with lastSec := sec } }

end Sys2Proof.Machine
end

