-- ==== Sys2Proof/Machine/Commit.lean ====
section
/-! DEFINITION. Commits: sealing, the route solver's end, readiness and final points, causes and flags, SPLIT series and
the swap (R80 to R97), in a twin pair or group by the messages of R279 to R283. -/
namespace Sys2Proof.Machine

/-- The commit passes through the protocol of a twin pair or group (R83). -/
def inPair (s : State) : Bool := decide (s.mode.mode = .active ∨ s.mode.mode = .standby ∨ s.mode.mode = .isolated)

/-- This unit as a member: 2 × slice + unit (R279). -/
def ownMember (s : State) : Nat := 2 * ownSlice s + nat01 (ownUnit s)

/-- This unit is the Bellwether (R277): in a pair outside a group, the ACTIVE unit. -/
def isBellwether (s : State) : Bool :=
  decide (s.mode.mode = .active) && (s.cfg.group.isNone || decide (s.grp.bell = some (ownMember s)))

/-- An internal message between modules: its content is internal (R242, R274). -/
def internalMsg (s : State) : Bytes × State := (Config.internalPayload s.draws, { s with draws := s.draws + 1 })

/-- Send a CONTROL message to the mate, or on the group bus in a group (R243, R274). -/
def sendCommitMsg (type : Nat) (payload : Bytes) (s : State) : State :=
  if s.cfg.group.isSome then sendGroup type payload s else sendMate 0x01 (BitVec.ofNat 8 type :: payload) s

/-- The payload of a commit message (R279). -/
def commitPayload (j : CommitJob) (fp : Nat) (cause : Nat) : Bytes :=
  toBE 4 j.id.toNat ++ toBE 6 (48 * j.target) ++
    [BitVec.ofNat 8 (j.part + 1), BitVec.ofNat 8 j.nParts,
     BitVec.ofNat 8 ((match j.flag with | .defer => 0 | .split => 1 | .fail => 2) + 16 * j.retries), j.participants] ++
    toBE 8 fp ++ [BitVec.ofNat 8 cause, 0]

/-- A member's bit in PARTICIPANTS (R279). -/
def memberBit (m : Nat) : Byte := place 8 m 1

-- Fields of a record (R275).

def recMode (r : Bytes) : Nat := (byteAt r 4).toNat % 16
def recRole (r : Bytes) : Bool := bit (byteAt r 5) 0
def recHealthy (r : Bytes) : Bool := bit (byteAt r 5) 1
def recFenced (r : Bytes) : Bool := bit (byteAt r 5) 2
def recBehind (r : Bytes) : Bool := bit (byteAt r 5) 3
def recRoleEpoch (r : Bytes) : Nat := be r 6 4
def recFn (r : Bytes) : FN := BitVec.ofNat 48 (be r 10 6)
def recCompat (r : Bytes) : Nat := be r 16 2
def recCfgEpoch (r : Bytes) : Nat := be r 26 8
def recEpoch (r : Bytes) : Nat := be r 34 8
def recFp (r : Bytes) : Nat := be r 42 8

/-- Of two units of one slice that show ROLE, the one counted as active (R276): the greater ROLE_EPOCH, at equal epochs unit
A. -/
def countedActive (rs : SMap Bytes) (x : Nat × Bytes) : Bool :=
  recRole x.2 &&
    (match tfind rs (4 * (x.1 / 2) + 1 - x.1) with
     | some o => !recRole o || decide (recRoleEpoch o < recRoleEpoch x.2) ||
         (decide (recRoleEpoch o = recRoleEpoch x.2) && decide (x.1 % 2 = 0))
     | none => true)

/-- The records held, and of this unit what R276 asks of an active one: its ROLE and ROLE_EPOCH. -/
def roleRecs (s : State) : SMap Bytes :=
  tinsert (s.grp.recs.map fun x => (x.1, x.2.raw)) (ownMember s) (zeros 5 ++ [1] ++ toBE 4 s.twin.epoch.toNat)

/-- A member's record shows it able to take part (R276, R280): counted as active, or STANDBY in SYNC; agreeing, its FN as it arrived; not
FENCED, not BEHIND. -/
def canTakePart (s : State) (k : Nat) (r : MemberRec) : Bool :=
  let raw := r.raw
  let d := fnDiff r.fn (recFn raw)
  let sync := (byteAt raw 4).toNat / 16 % 8
  ((decide (recMode raw = 4) && countedActive (roleRecs s) (k, raw)) || (decide (recMode raw = 5) && decide (sync = 3))) &&
    decide (-1 ≤ d ∧ d ≤ 1) && !recFenced raw && !recBehind raw && decide (recCompat raw = s.img.compat.toNat) &&
    decide (recCfgEpoch raw = s.cfg.epoch.toNat) && decide (recEpoch raw = s.page.live.epoch.toNat) &&
    decide (recFp raw = s.page.liveFp.toNat)

/-- PARTICIPANTS as the Bellwether's records show them, itself included (R280); with the mate link out of service the
standby does not count (R264). -/
def participants (s : State) : Byte :=
  s.grp.recs.foldl (fun w r =>
    if canTakePart s r.1 r.2 && (s.twin.linkUp || decide (r.1 / 2 ≠ ownSlice s)) then w ||| memberBit r.1 else w)
    (memberBit (ownMember s))

/-- Send a change of the staged page, or of the commit scheduled on it, to the mate and the group (R94, R242, R274, R278): the
content is internal. -/
def mirrorStaged (s : State) : State :=
  if s.mode.mode ≠ .active then s else
  let (m, s) := internalMsg s
  let s := sendMate 0x03 m s
  if isBellwether s then sendGroup 0x21 m s else s

/-- Replace the commit in progress. -/
def setJob (j : Option CommitJob) (s : State) : State := { s with page := { s.page with job := j } }

/-- Return the staged page to OPEN with no commit scheduled. -/
def openPage (s : State) : State :=
  { s with page := { s.page with state := .opened, job := none, solving := none, idle := none } }

/-- End the commit without a further swap: its completion carries a status, and CMEM.RESOLVED is raised for other than
OK (R85, R88, R310, R331). -/
def endCommit (status : Byte) (obj : Byte) (r : Word64) (s : State) : State :=
  match s.page.job with
  | none => openPage s
  | some j =>
    let s := mirrorStaged (completeOpt j.tok status obj r (openPage s))
    if status = stOk then s else raise gCmem 1 s

/-- The end of a commit that a cause stopped: a series that has swapped parts completes OK_SPLIT with the status and the
number of parts (R88), any other with the status, the last boundary tried and the retries (R331). -/
def stopCommit (status : Byte) (s : State) : State :=
  match s.page.job with
  | none => s
  | some j =>
    if j.part = 0 then endCommit status 0 (res [(0, 6, j.target), (7, 1, j.retries)]) s
    else endCommit stOkSplit 0 (res [(0, 6, j.swapped.headD 0), (6, 1, j.part), (7, 1, status.toNat)]) s

/-- Forget what a boundary has collected: READY, COMMIT, ACK, ABORT, the announcement, and what later parts have collected (R283). -/
def clearRound (j : CommitJob) : CommitJob :=
  { j with cause := none, announced := false, prepared := false, sentCommit := false, holdsCommit := false,
           aborted := false, refused := false, readyFrom := 0, ackFrom := 0, ahead := [] }

/-- The COMMIT_ID after one: never 0 (R279). -/
def nextId (i : Word32) : Word32 := if i = 0xFFFFFFFF then 1 else i + 1

/-- The commit as partitioned (R87): its first part is still to be solved. -/
def partJob (s : State) (j : CommitJob) : CommitJob :=
  let ps := partition s.page.live s.page.staged
  { j with parts := ps, nParts := ps.length, ready := false, startFn := s.clk.fn, ahead := [], solvedAhead := 0 }

/-- Where a commit stands once the boundary aimed at has failed it (R85, R88): the next boundary, and one retry more, but
for a later part that waits for its own schedule, which is no cause of R88; SPLIT partitions a change that is not incremental
when the cause is the schedule, and solves its first part. -/
def deferJob (schedule : Bool) (s : State) (j : CommitJob) : State :=
  let parted := decide (j.flag = .split) && schedule && !j.incremental && decide (j.nParts = 1)
  let waits := schedule && decide (j.part ≠ 0)
  let j' := { clearRound (if parted then partJob s j else j) with
    target := j.target + 1, retries := if waits then j.retries else j.retries + 1 }
  mirrorStaged (setJob (some j') { s with page := { s.page with
    state := if j.part = 0 then .sealed else .split, solving := if parted then some s.clk.fn else s.page.solving } })

/-- A cause of R84 stands at one boundary: FAIL ends the commit; the others move it to the next boundary, up to 8 (R85, R88),
which the ACTIVE unit reports. A later part that waits for its schedule takes the first boundary at which it is ready (R87). -/
def resolveOnce (status : Byte) (schedule : Bool) (s : State) : State :=
  match s.page.job with
  | none => s
  | some j =>
    if schedule ∧ j.part ≠ 0 then deferJob schedule s j
    else if j.flag = .fail ∨ 8 ≤ j.retries then stopCommit status s
    else
      let s := deferJob schedule s j
      if s.mode.mode = .standby then s
      else post 0x03 [(0, 6, j.target + 1), (6, 1, j.retries + 1), (7, 1, status.toNat)] s

/-- No PREPARE can be sent any more for the boundary that the Bellwether's commit aims at: its T − 96 is over (R281). -/
def tooLate (s : State) : Bool :=
  match s.page.job with
  | some j => isBellwether s && !j.prepared && !fnGe (fnOf j.target - 96) s.clk.fn
  | none => false

/-- A boundary that the move leaves no time to prepare is missed in its turn, with cause TIMEOUT (R85, R281). -/
def resolveLate : Nat → State → State
  | 0, s => s
  | n + 1, s => if tooLate s then resolveLate n (resolveOnce stTimeout false s) else s

/-- A cause of R84 stands at the boundary aimed at (R85, R88): at most 9 boundaries are tried. -/
def resolveCause (status : Byte) (schedule : Bool) (s : State) : State := resolveLate 9 (resolveOnce status schedule s)

/-- The commit as a later part that is prepared sees it (R279, R283). -/
def aheadJob (j : CommitJob) (k : Nat) (a : Ahead) : CommitJob :=
  { j with id := a.id, target := a.target, part := j.part + 1 + k, retries := 0, participants := a.participants }

/-- ABORT is sent, and repeated in every frame until T − 8 (R281). -/
def abortOne (cause : Nat) (j : CommitJob) (s : State) : State :=
  let m := commitPayload j 0 cause
  sendCommitMsg 0x14 m { s with page := { s.page with aborting := s.page.aborting ++ [(m, fnOf j.target - 8)] } }

/-- ABORT of the part in progress, and of every later part that is prepared (R283). -/
def sendAbort (cause : Nat) (j : CommitJob) (s : State) : State :=
  j.ahead.zipIdx.foldl (fun s x => abortOne cause (aheadJob j x.2 x.1) s) (abortOne cause j s)

/-- The Bellwether sends ABORT for a cause of R281 and resolves the commit with the cause's status. -/
def abortRound (cause : Nat) (status : Byte) (s : State) : State :=
  match s.page.job with
  | none => s
  | some j => resolveCause status false (sendAbort cause j s)

/-- The Bellwether holds every ACK: the announcement starts (R90). Its own is withheld by a power-fail warning (R96). -/
def checkAcks (s : State) : State :=
  match s.page.job with
  | some j => if j.sentCommit ∧ !s.pwr.pfw ∧ j.participants &&& ~~~j.ackFrom = 0 then setJob (some { j with announced := true }) s else s
  | none => s

/-- The Bellwether sends COMMIT once every participant is READY, no later than T − 28 (R281); a power-fail warning withholds its
own readiness (R96). -/
def checkReady (s : State) : State :=
  match s.page.job with
  | some j =>
    if j.prepared ∧ !j.sentCommit ∧ !s.pwr.pfw ∧ j.participants &&& ~~~j.readyFrom = 0 ∧ fnGe (fnOf j.target - 28) s.clk.fn then
      checkAcks (sendCommitMsg 0x12 (commitPayload j 0 0)
        (setJob (some { j with sentCommit := true, holdsCommit := true, ackFrom := memberBit (ownMember s) }) s))
    else s
  | none => s

/-- The Bellwether sends PREPARE when its schedule is written and checked, no later than T − 96 (R281). A power-fail
warning withholds it (R96). -/
def tryPrepare (s : State) : State :=
  match s.page.job with
  | some j =>
    if isBellwether s ∧ j.ready ∧ !j.prepared ∧ !s.pwr.pfw ∧ fnGe (fnOf j.target - 96) s.clk.fn then
      let j := { j with prepared := true, participants := participants s, readyFrom := memberBit (ownMember s) }
      checkReady (sendCommitMsg 0x10 (commitPayload j s.page.stagedFp.toNat 0) (setJob (some j) s))
    else s
  | none => s

/-- The boundary of the next part to prepare: the first one after the part before it that its PREPARE can meet (R87, R281). -/
def aheadTarget (s : State) (after : Nat) : Nat := max (after + 1) ((s.clk.fn.toNat + 143) / 48)

/-- Prepare the later parts that are solved (R283), `fuel` at most: each follows the one before. -/
def prepareAhead : Nat → State → State
  | 0, s => s
  | fuel + 1, s =>
    match s.page.job with
    | none => s
    | some j =>
      let k := j.ahead.length
      if isBellwether s ∧ j.prepared ∧ k < j.solvedAhead ∧ !s.pwr.pfw then
        let last := j.ahead.getLastD { id := j.id, target := j.target, participants := 0, readyFrom := 0 }
        let a : Ahead := { id := nextId last.id, target := aheadTarget s last.target, participants := participants s,
                           readyFrom := memberBit (ownMember s) }
        prepareAhead fuel (sendCommitMsg 0x10 (commitPayload (aheadJob j k a) s.page.stagedFp.toNat 0)
          (setJob (some { j with ahead := j.ahead ++ [a] }) s))
      else s

/-- What the Bellwether prepares now (R281, R283). -/
def prepareAll (s : State) : State :=
  let s := tryPrepare s
  prepareAhead (match s.page.job with | some j => j.solvedAhead | none => 0) s

/-- This member takes part in a commit (R280, R285): PARTICIPANTS names it, and it is not FENCED. -/
def takesPart (s : State) (j : CommitJob) : Bool := j.participants &&& memberBit (ownMember s) != 0 && !s.grp.fenced

/-- A participant other than the Bellwether sends READY when its own schedule is written and checked (R281), withheld by
a power-fail warning (R96). -/
def tryReady (s : State) : State :=
  match s.page.job with
  | some j =>
    if !isBellwether s ∧ j.ready ∧ !j.holdsCommit ∧ !j.aborted ∧ takesPart s j ∧ !s.pwr.pfw then
      sendCommitMsg 0x11 (commitPayload j s.page.stagedFp.toNat 0) s
    else s
  | none => s

/-- READY for the later parts that are prepared and solved here (R281, R283). -/
def readyAhead (s : State) : State :=
  match s.page.job with
  | some j =>
    if isBellwether s ∨ j.aborted ∨ s.pwr.pfw then s
    else (j.ahead.zipIdx.filter fun x => decide (x.2 < j.solvedAhead)).foldl (fun s x =>
      sendCommitMsg 0x11 (commitPayload (aheadJob j x.2 x.1) s.page.stagedFp.toNat 0) s) s
  | none => s

/-- What a participant answers now (R281, R283). -/
def readyAll (s : State) : State := readyAhead (tryReady s)

/-- The boundary of a part whose schedule is written (R87, R281): in a pair or group a later part that is not prepared takes the
first boundary that its PREPARE can still meet. -/
def partTarget (s : State) (j : CommitJob) : Nat :=
  if inPair s && decide (j.part ≠ 0) && !j.prepared then max j.target ((s.clk.fn.toNat + 143) / 48) else j.target

/-- Parts of a series that come after the one in progress and are not solved (R283). -/
def unsolved (j : CommitJob) : Nat := j.parts.length - 1 - j.solvedAhead

/-- In a pair or group the solver goes on with the parts to come, so that each is prepared in time for the boundary after the one
before it (R87, R283). -/
def solveOn (s : State) : State :=
  match s.page.job with
  | some j => if inPair s ∧ j.ready ∧ 0 < unsolved j ∧ s.page.solving.isNone then
      { s with page := { s.page with solving := some s.clk.fn } } else s
  | none => s

/-- The solver has finished a later part: its schedule is known, and is written once the idle half is free (R283). -/
def solvedLater (j : CommitJob) (s : State) : State :=
  let s := setJob (some { j with solvedAhead := j.solvedAhead + 1 }) { s with page := { s.page with solving := none } }
  solveOn (readyAhead (prepareAll s))

/-- The solver has finished (R53, R56): class V or P of the whole page ends the commit in progress with nothing further
changed; otherwise the schedule is written into the idle half and checked. With no commit it is kept for one (R58). -/
def solvedNow (s : State) : State :=
  let vs := violations s s.page.staged
  let v := routeVerdict vs
  let sch := solvePage s.page.sched (match s.page.job with | some j => j.parts.headD s.page.staged | none => s.page.staged)
  let s := { s with page := { s.page with solving := none, idle := some sch } }
  match s.page.job with
  | none => { s with page := { s.page with kept := true } }
  | some j =>
    if v = 1 ∨ v = 2 then
      let status := if v = 1 then stNoRoute else stNoResource
      if j.part = 0 then endCommit status 0 (violationResult vs) s else stopCommit status s
    else
      let s := setJob (some { j with ready := true, target := partTarget s j }) s
      if inPair s then solveOn (readyAll (prepareAll s)) else s

/-- The solver has finished (R53): the part in progress, or one to come. -/
def solved (s : State) : State :=
  match s.page.job with
  | some j => if j.ready then (if 0 < unsolved j then solvedLater j s else { s with page := { s.page with solving := none } })
    else solvedNow s
  | none => solvedNow s

/-- Domains that a page needs (R52): fabric slices of its ports, connection-memory banks and DS0 segments. -/
def neededDomains (p : Page) : List Nat :=
  let ho := (p.ho.filter fun x => eValid x.2).flatMap fun x =>
    (80 + bankOf .ho x.1) :: (x.1 :: sources x.2).map fun g => 64 + g / 3072
  let lo := (p.lo.filter fun x => eValid x.2).flatMap fun x =>
    (80 + bankOf .lo x.1) :: (x.1 :: loSources p x.1 x.2).map fun i => 64 + i / 28 / 3072
  let ds := (p.ds0.filter fun x => eValid x.2).flatMap fun x =>
    (80 + bankOf .ds0 x.1) :: (x.1 :: sources x.2).map fun i => 96 + i / 32 / 1024
  let cs := p.car.flatMap fun x => [80 + x.1 / 512, 96 + x.1 / 1024]
  sortNat (ho ++ lo ++ ds ++ cs)

/-- Restart the carriers whose record a swap changes (R112, R122): a change of LO_BIND, KIND, MAPPING or FRAMING searches
again from position 0; a change of SIGNALLING searches the signalling multiframe. -/
def swapCarriers (fn : FN) (old new : Page) (cars : SMap CarState) : SMap CarState :=
  let keys := sortNat ((old.car.map fun x => x.1) ++ new.car.map fun x => x.1)
  keys.foldl (fun m c =>
    let x := carrierAt old c
    let y := carrierAt new c
    if alignBits x != alignBits y then tset {} m c { since := fn }
    else if cSignalling x != cSignalling y then tset {} m c { tget {} m c with casMf := false }
    else m) cars

/-- What of a defect set an object keeps across a swap to the page `new` (R112, R163): tributaries and the termination of
positions that groom no more lose theirs, and carriers whose alignment starts again. -/
def keptDefects (old new : Page) (k : Nat) (w : Word64) : Word64 :=
  let obj := k % 0x1000000
  match k / 0x1000000 with
  | 2 => if isGroom new obj then w else w &&& ~~~(place 64 31 1 ||| place 64 37 1)
  | 3 => if isGroom new (obj / 28) then w else 0
  | 4 => if alignBits (carrierAt old obj) != alignBits (carrierAt new obj) then 0 else w
  | _ => w

/-- Objects that a page no longer has lose their defects, which are reported as cleared (R163, R170). -/
def pruneDefects (old : Page) (s : State) : State :=
  let new := s.page.live
  let s := s.dft.set.foldl (fun s x => putSet x.1 (keptDefects old new x.1 x.2) s) s
  let lo := fun (k : Nat) => k / 0x1000000 != 3 || isGroom new (k % 0x1000000 / 28)
  { s with dft := { s.dft with
    ber := s.dft.ber.filter fun x => lo x.1, ptr := s.dft.ptr.filter fun x => lo x.1,
    h4 := s.dft.h4.filter fun x => isGroom new x.1, found := s.dft.found.filter fun x => isGroom new (x.1 / 8),
    reading := s.dft.reading.filter fun x => isGroom new (x.1 / 8) } }

/-- Count what a swap changes (R400): entries per bank of the connection memory, and the searches that carriers begin. -/
def countSwap (old : Page) (s : State) : State :=
  let new := s.page.live
  let tier := fun (t : Tier) (s : State) =>
    (diffKeys id (tierOfPage old t) (tierOfPage new t)).foldl (fun s i => bump (80 + bankOf t i) 0 1 s) s
  let s := tier .ds0 (tier .lo (tier .ho s))
  new.car.foldl (fun s x =>
    if carrierLive new x.1 && alignBits (carrierAt old x.1) != alignBits x.2 then bump (96 + x.1 / 1024) 1 1 s else s) s

/-- Count the legs that a swap moves, per fabric slice of their egress (R400). -/
def countLegs (before s : State) : State :=
  let m := movedLegs before.page.sched before.page.live s.page.sched s.page.live
  m.2.foldl (fun s i => bump (64 + i / 86016) 2 1 s) (m.1.foldl (fun s g => bump (64 + g / 3072) 2 1 s) s)

/-- The entries of a tier that either of two pages lists. -/
def eitherKeys (a b : SMap Word64) : List Nat := sortNat (a.map (·.1) ++ b.map (·.1))

/-- The carrier bound to a low-order index is another, or of another build, in two pages (R18, R112). -/
def boundChanged (a b : Page) (i : Nat) : Bool :=
  let of := fun (p : Page) => p.car.filter fun x => decide (cBind x.2 = i)
  (of a).map (fun x => (x.1, carrierBits x.2)) != (of b).map fun x => (x.1, carrierBits x.2)

/-- Positions whose connection changes at a swap carry one NDF (R62), those that turn unequipped too: high-order heads unless
the slot is rebuilt, and the tributaries of groom positions, which a carrier or a source fills. -/
def markChanged (old : Page) (s : State) : State :=
  let p := s.page.live
  let rebuilt := fun (g : Nat) => isGroom p g
  let ho := (eitherKeys old.ho p.ho).filter fun g => !rebuilt g && decide (headOf p g = g) && hoChanged old p g
  let lo := (eitherKeys old.lo p.lo).filter fun i => rebuilt (i / 28) && (loChanged old p i || boundChanged old p i)
  let s := ho.foldl (fun s g => markMoved .ho g s) s
  lo.foldl (fun s i => markMoved .lo i s) s

/-- The path of a tap is executed, in powered blocks (R393). -/
def tapRuns (s : State) (t : TapCfg) : Bool :=
  let p := s.page.live
  match t.tier with
  | .ho => eValid (entryAt p .ho t.idx) && sliceOn s (t.idx / 192)
  | .lo => eValid (entryAt p .lo t.idx) && isGroom p (t.idx / 28) && sliceOn s (t.idx / 28 / 192)
  | .ds0 => eValid (entryAt p .ds0 t.idx) && carrierLive p (t.idx / 32) && domOn s (96 + t.idx / 32 / 1024)

/-- A tap whose path has ceased to be executed raises OBS.TAP (R393). -/
def tapCheck (before s : State) : State :=
  s.bel.taps.foldl (fun s x =>
    match x.2 with
    | none => s
    | some t => if tapRuns before t ∧ !tapRuns s t then obsNote 5 x.1 0 s else s) s

/-- What follows a new live page besides the commit itself (R44, R62, R92, R106, R112, R163): defects, selectors, pointers'
NDF, the monitored set and the searches of carriers. -/
def liveChanged (before s : State) : State :=
  let old := before.page.live
  let s := { s with page := { s.page with lost := [] } }
  evalMismatch (pmSwap before (markChanged old (countSwap old (swapSelectors old (pruneDefects old s)))))

/-- The swap of one part (R82, R87, R89, R91): the part's page becomes live with the epoch one higher, on the schedule of
the idle half; selectors and carriers carry over; the page replaced is retained; the staged page follows R71 unless
further parts are to come. -/
def swapPage (s : State) (j : CommitJob) : State :=
  let old := s.page.live
  let target := j.parts.headD s.page.staged
  let last := decide (j.parts.length ≤ 1)
  let new := { target with epoch := old.epoch + 1 }
  countLegs s (liveChanged s { s with
    page := { s.page with
      live := new, liveFp := (if last then s.page.stagedFp else fingerprint new), retained := some old, retainedSched := s.page.sched, retainedFn := s.clk.fn, kept := false,
      sched := s.page.idle.getD (solvePage s.page.sched target), idle := none,
      annDone := some (fnOf j.target, new.epoch),
      staged := (if last then { new with epoch := new.epoch + 1 } else { s.page.staged with epoch := new.epoch + 1 }) },
    car := swapCarriers s.clk.fn old new s.car,
    mode := { s.mode with carried := true } })

/-- What a swap writes (R89): the audit entry (KIND 1), the COMMIT event and the journal record. -/
def commitWrites (c : LateCommit) (s : State) : State :=
  let a := auditOf s 1 (if c.own then 0 else 1) c.slice c.unit c.part c.nParts c.fn 0 c.epoch c.fp
  recordDue .commit [a] (auditAdd a (postAt 0x02 c.fn (pack 160 [(0, 8, c.epoch.toNat), (8, 8, c.fp.toNat),
    (16, 1, c.part), (17, 1, c.nParts), (18, 1, 2 * nat01 c.own)]) s))

/-- A swap raises CMEM.SWAP and writes what R89 gives; made while the control hierarchy is in reset, it leaves that for
mode entry (R95). -/
def recordSwap (j : CommitJob) (s : State) : State :=
  let s := raise gCmem 0 s
  let c : LateCommit := { fn := s.clk.fn, epoch := s.page.live.epoch, fp := s.page.liveFp, own := j.own, slice := j.slice,
                          unit := j.unit, part := j.part + 1, nParts := j.nParts }
  if entered s then commitWrites c s else { s with rst := { s.rst with lateCommits := s.rst.lateCommits ++ [c] } }

/-- The next part of a series after a swap (R87, R283): as it has been prepared, or else for the next boundary. -/
def nextPart (bn : Nat) (s : State) (j : CommitJob) : CommitJob :=
  let fresh := { clearRound j with
    target := bn + 1, retries := 0, ready := decide (0 < j.solvedAhead), parts := j.parts.tail, part := j.part + 1,
    solvedAhead := j.solvedAhead - 1, id := nextId j.id, startFn := s.clk.fn }
  match j.ahead with
  | a :: rest => { fresh with
      id := a.id, target := a.target, prepared := true, participants := a.participants, readyFrom := a.readyFrom, ahead := rest }
  | [] => { fresh with target := if fresh.ready then partTarget s fresh else fresh.target }

/-- The last part of a commit has swapped at a boundary: the commit completes (R81, R85, R331). -/
def commitDone (bn : Nat) (s : State) : State :=
  match s.page.job with
  | none => openPage s
  | some j =>
    if j.nParts > 1 then endCommit stOkSplit 0 (res [(0, 6, j.swapped.headD bn), (6, 1, j.nParts)]) s
    else if bn = j.first then endCommit stOk 0 (res [(0, 6, bn), (6, 1, 1)]) s
    else endCommit stOkDeferred 0 (res [(0, 6, bn), (6, 1, 1)]) s

/-- After a swap: the last part completes the commit (R81, R85, R331); another part starts the solver for the next
boundary (R87), unless it is solved: its schedule then goes into the idle half. A reset of the control hierarchy has abandoned the
parts to come (R35, R95). -/
def afterSwap (j : CommitJob) (s : State) : State :=
  let bn := j.target
  let swapped := j.swapped ++ [bn]
  if j.parts.length ≤ 1 then commitDone bn (setJob (some { j with swapped := swapped, part := j.part + 1 }) s)
  else if !entered s then openPage s
  else
    let j' := { nextPart bn s j with swapped := swapped }
    let s := setJob (some j') { s with page := { s.page with state := .split, commitId := j'.id } }
    if !j'.ready then { s with page := { s.page with solving := some s.clk.fn } }
    else solveOn { s with page := { s.page with idle := some (solvePage s.page.sched (j'.parts.headD s.page.staged)) } }

/-- Mirror a configuration change with its FN to the mate and the group (R243, R274), raising the config epoch of a
group (R271). -/
def mirrorConfig (s : State) : State :=
  if s.mode.mode ≠ .active then s else
  let (m, s) := internalMsg s
  let s := sendMate 0x01 (0x04 :: m) s
  if isBellwether s then sendGroup 0x20 m s else s

/-- A page is touched: with no commit scheduled, a kept solution and a solver at work for one are discarded (R58). -/
def dropSolution (s : State) : State :=
  if s.page.job.isSome then { s with page := { s.page with kept := false } }
  else { s with page := { s.page with kept := false, idle := none, solving := none } }

/-- The changes that make one page of another, and the commit scheduled on it (R262): what an image brings of the staged page. -/
def stagedChanges (s : State) : List StagedWrite :=
  let a := s.page.live
  let b := s.page.staged
  let tier := fun (t : Tier) => (diffKeys id (tierOfPage a t) (tierOfPage b t)).map fun i => StagedWrite.entry t i (entryAt b t i)
  let cars := (sortNat (a.car.map (·.1) ++ b.car.map (·.1))).filter fun c => carrierAt a c != carrierAt b c
  let quiet := (List.range 256).filter fun q => bit a.quiesce q != bit b.quiesce q
  tier .ho ++ tier .lo ++ tier .ds0 ++ cars.map (fun c => .carrier c (carrierAt b c)) ++
    quiet.map (fun q => .quiesce q (bit b.quiesce q)) ++
    (match s.page.job with
     | some j => [.sealed { id := j.id, first := j.first, target := j.target, flag := j.flag, retries := j.retries, part := j.part,
                            nParts := j.nParts, slice := j.slice, unit := j.unit }]
     | none => [])

/-- Put a new staged page: its fingerprint follows it and a kept solution is discarded (R58, R385); each item takes
journal space (R432). -/
def stage (p : Page) (items : Nat) (s : State) : State :=
  mirrorStaged (dropSolution { s with
    page := { s.page with staged := p, stagedFp := fingerprint p },
    flash := { s.flash with used := s.flash.used + 16 * items } })

end Sys2Proof.Machine
end

