-- ==== Sys2Proof/Machine/ConnCmds.lean ====
section
/-! DEFINITION. The connection commands: CONN_STAGE, CONN_STAGE_BULK, CONN_COMMIT, CONN_ABORT, CONN_READBACK,
ROUTE_CHECK, CARRIER_CONFIG and PORT_CONFIG QUIESCE (R73 to R80, R99, R111, R330 to R332). -/
namespace Sys2Proof.Machine

/-- A record to stage: tier, index, entry. -/
abbrev StageRec := Tier × Nat × Word64

/-- Position of the first record that fails a test (R73). -/
def firstBad (ok : StageRec → Bool) (rs : List StageRec) : Option Nat := rs.findIdx? fun r => !ok r

/-- Write records into a page in order. -/
def putRecs (p : Page) (rs : List StageRec) : Page := rs.foldl (fun p r => putEntry p r.1 r.2.1 r.2.2) p

/-- Valid low-order entries with MON = 1 of a page (R76). -/
def monCount (p : Page) : Nat := p.lo.countP fun x => eValid x.2 && eMon x.2

/-- Position of the first record that takes the running count of monitored entries above 262,144 (R76). -/
def monOver : Page → List StageRec → Nat → Nat
  | _, [], n => n
  | p, r :: rs, n =>
    let q := putEntry p r.1 r.2.1 r.2.2
    if 262144 < monCount q then n else monOver q rs (n + 1)

/-- RESULT of a staging command (R330): entries staged and the position of the first offending one. -/
def stageRes (n pos : Nat) : List Field := [(0, 4, n), (4, 4, pos)]

/-- The position that stands for no offending entry (R330). -/
def noPos : Nat := 0xFFFFFFFF

/-- Stage records on a page that CLEAR may already have emptied, all or none (R67, R69, R73, R76). -/
def stageRecs (tok : CmdTok) (p : Page) (rs : List StageRec) (s : State) : State :=
  match firstBad (fun r => entryOk p r.1 r.2.1 r.2.2) rs with
  | some n => refuse tok stBadArgument (stageRes 0 n) s
  | none =>
    match firstBad (fun r => r.2.2 == emptyEntry || bankOn s (bankOf r.1 r.2.1)) rs with
    | some n => refuse tok stNoResource (stageRes 0 n) s
    | none =>
      let q := putRecs p rs
      if 262144 < monCount q then refuse tok stNoResource (stageRes 0 (monOver p rs 0)) s
      else completeOk tok (stageRes rs.length noPos) (stage q rs.length s)

/-- The entries that CONN_STAGE carries inline (R330). -/
def inlineRecs (c : CmdEntry) : List StageRec :=
  match tierOf (argBits c 3 6 2) with
  | none => []
  | some t => (List.range (arg c 4 1)).map fun i => (t, arg c 0 3 + i, BitVec.ofNat 64 (arg c (8 + 8 * i) 8))

/-- Step 5 of the staging commands: FOLLOWER, then the staged-page state (R77, R271). -/
def stagingRefusal (s : State) : Option Refused := orRefuse (followerRefusal s) (openRefusal s)

/-- CONN_STAGE against R35: its inline entries are judged by R67 as far as the entry itself allows. -/
def stageChecks (s : State) (c : CmdEntry) : Checks :=
  let n := arg c 4 1
  let bad := firstBad (fun r => entryOk Page.empty r.1 r.2.1 r.2.2) (inlineRecs c)
  { lens := if 1 ≤ n ∧ n ≤ 6 then [8 + 8 * n] else [16, 24, 32, 40, 48, 56],
    fields := [(0, 24), (30, 2), (32, 8), (64, 64 * n)],
    argsOk := decide (1 ≤ n ∧ n ≤ 6) && (tierOf (argBits c 3 6 2)).isSome && bad.isNone,
    argsRes := res (stageRes 0 (bad.getD noPos)),
    modes := configModes, object := stagingRefusal s, pfwWaits := true }

/-- CONN_STAGE (R73). -/
def execConnStage (c : CmdEntry) (s : State) : Host.Outcome State Fault Refusal :=
  finish s (runCmd 0x20 true c (stageChecks s c) (fun tok s => stageRecs tok s.page.staged (inlineRecs c) s) s)

/-- The records of a bulk buffer (R74); `none` where a tier is 3 or a reserved bit is set. -/
def bulkRecs (bs : Bytes) : List (Option StageRec) :=
  (List.range (bs.length / 16)).map fun i =>
    let w := le bs (16 * i) 8
    match tierOf (w / 0x40000000 % 4) with
    | none => none
    | some t =>
      if w / 0x1000000 % 64 = 0 ∧ w / 0x100000000 = 0 then
        some (t, w % 0x1000000, BitVec.ofNat 64 (le bs (16 * i + 8) 8))
      else none

/-- CLEAR: every tier that a record names is emptied before the records are written (R74). -/
def clearTiers (p : Page) (rs : List StageRec) : Page :=
  [Tier.ho, .lo, .ds0].foldl (fun p t => if rs.any fun r => r.1 == t then setTier p t [] else p) p

/-- Stage the records of a buffer (R73, R74). -/
def stageBulk (tok : CmdTok) (clear : Bool) (bs : Bytes) (s : State) : State :=
  let rs := bulkRecs bs
  let good := rs.filterMap id
  let p := if clear then clearTiers s.page.staged good else s.page.staged
  match rs.findIdx? fun r => match r with | none => true | some r => !entryOk p r.1 r.2.1 r.2.2 with
  | some n => refuse tok stBadArgument (stageRes 0 n) s
  | none => stageRecs tok p good s

/-- Bulk lengths: 1 to 1,687,552 records of 16 bytes (R74). -/
def bulkLen (n : Nat) : Bool := decide (n % 16 = 0 ∧ 16 ≤ n ∧ n ≤ 16 * 1687552)

/-- CONN_STAGE_BULK against R35. -/
def bulkChecks (s : State) (c : CmdEntry) : Checks :=
  { lens := [24], fields := [descField 0, (128, 1)], argsOk := descOk (descAt c 0) false,
    argsRes := res (stageRes 0 noPos),
    lengthOk := descLenOk (descAt c 0) bulkLen, modes := configModes, object := stagingRefusal s, pfwWaits := true,
    buffer := true }

/-- Bytes of a buffer that host memory delivered before CH3 failed (R304, R363): a LIST array is read before what it lists. -/
def bytesRead (s : State) (d : BitVec 128) : Nat :=
  let named := (descAddr d, descLength d)
  if descList d then
    bytesMoved s.host.bulkBursts (named :: (listAt s d).map fun x => (descAddr x, descLength x)) - descLength d
  else bytesMoved s.host.bulkBursts [named]

/-- RESULT of a bulk buffer that cannot be used (R73, R330): under HOST_MEMORY the position of the first record that could
not be read; under BAD_ARGUMENT no record is at fault. -/
def bulkFields (s : State) (d : BitVec 128) (e : Byte) : List Field :=
  if e = stHostMemory then stageRes 0 (bytesRead s d / 16)
  else if e = stBadArgument then stageRes 0 noPos
  else []

/-- CONN_STAGE_BULK (R74). -/
def execConnStageBulk (c : CmdEntry) (s : State) : Host.Outcome State Fault Refusal :=
  finish s (runCmd 0x21 true c (bulkChecks s c)
    (fun tok s => withRead tok (descAt c 0) bulkLen (bulkFields s (descAt c 0)) (stageBulk tok (argBit c 16 0)) s) s)

/-- FLAG of CONN_COMMIT (R330). -/
def commitFlag : Nat → Option CommitFlag
  | 0 => some .defer | 1 => some .split | 2 => some .fail | _ => none

/-- Seal the page, computing its fingerprint, and start the solver (R81): a kept solution is used without solving again (R58);
SPLIT partitions a change that is not incremental and has under 320 frames (R86). -/
def sealPage (tok : CmdTok) (target : Nat) (flag : CommitFlag) (s : State) : State :=
  let inc := incremental s.page.live s.page.staged
  let lead := fnDiff (fnOf target - 24) s.clk.fn
  let parts := if flag = .split ∧ !inc ∧ lead < 320 then partition s.page.live s.page.staged else [s.page.staged]
  let job : CommitJob := {
    tok := some tok, first := target, target := target, flag := flag, startFn := s.clk.fn, retries := 0,
    incremental := inc, ready := false, id := nextId s.page.commitId, parts := parts, part := 0, nParts := parts.length,
    swapped := [], cause := none, announced := false, own := true, slice := ownSlice s, unit := ownUnit s,
    stagedFp := fingerprint s.page.staged, prepared := false, sentCommit := false, holdsCommit := false, aborted := false,
    refused := false, participants := 0, readyFrom := 0, ackFrom := 0 }
  let kept := s.page.kept
  let s := mirrorStaged { s with page := { s.page with
    state := .sealed, job := some job, stagedFp := job.stagedFp, kept := false, commitId := job.id,
    solving := some s.clk.fn } }
  if kept then solved s else s

/-- The conditions of CONN_COMMIT itself (R80): the window of the target boundary. -/
def commitBody (c : CmdEntry) (tok : CmdTok) (s : State) : State :=
  let first := earliestBn s
  let tbn := arg c 0 6
  let target := if tbn = 0 then first else tbn
  match commitFlag (arg c 8 1) with
  | none => refuse tok stBadArgument [] s
  | some flag =>
    if target < first ∨ s.clk.fn.toNat / 48 + 10000 < target then refuse tok stBadArgument [(0, 6, first)] s
    else sealPage tok target flag s

/-- CONN_COMMIT against R35. -/
def commitChecks (s : State) (c : CmdEntry) : Checks :=
  { lens := [16], fields := [(0, 48), (64, 8)], argsOk := (commitFlag (arg c 8 1)).isSome, modes := configModes,
    object := stagingRefusal s, waits := true }

/-- CONN_COMMIT (R80, R81). -/
def execConnCommit (c : CmdEntry) (s : State) : Host.Outcome State Fault Refusal :=
  finish s (runCmd 0x22 true c (commitChecks s c) (commitBody c) s)

/-- DISCARD sets the staged page equal to the live page under R71 (R79). -/
def discardStaged (s : State) : State :=
  let p := { s.page.live with epoch := s.page.live.epoch + 1 }
  mirrorStaged (dropSolution { s with page := { s.page with staged := p, stagedFp := s.page.liveFp } })

/-- End the commit in progress as cancelled (R79): SEALED completes WRONG_STATE with state 4; a series keeps its completed
parts. -/
def cancelJob (s : State) : State :=
  match s.page.job with
  | none => openPage s
  | some j =>
    if j.part = 0 then endCommit stWrongState 4 (res [(0, 6, j.target)]) s
    else endCommit stOkSplit 0 (res [(0, 6, j.swapped.headD 0), (6, 1, j.part)]) s

/-- Cancel the commit in progress (R79), in a pair or group with ABORT. -/
def cancelCommit (s : State) : State :=
  match s.page.job with
  | none => openPage s
  | some j => cancelJob (if inPair s ∧ j.prepared then sendAbort 1 j s else s)

/-- CONN_ABORT (R79): cancel what stands, then DISCARD where asked. -/
def abortBody (c : CmdEntry) (tok : CmdTok) (s : State) : State :=
  let before := pageCode s.page.state
  let cancelled := match s.page.job with | some j => j.parts.length | none => 0
  let s := if s.page.state = .sealed ∨ s.page.state = .split then cancelCommit s else s
  let s := if argBit c 0 0 then discardStaged s else s
  completeOk tok [(0, 1, before), (1, 1, pageCode s.page.state), (2, 1, cancelled)] s

/-- CONN_ABORT against R35: FINAL refuses it (R77). -/
def abortChecks (s : State) (c : CmdEntry) : Checks :=
  { lens := [8], fields := [(0, 1)], argsOk := decide (c.len.toNat = 8), modes := configModes,
    object := orRefuse (followerRefusal s) (if s.page.state = .final then some (stWrongState, 2, 0) else none) }

/-- CONN_ABORT (R79). -/
def execConnAbort (c : CmdEntry) (s : State) : Host.Outcome State Fault Refusal :=
  finish s (runCmd 0x23 true c (abortChecks s c) (abortBody c) s)

/-- Bytes of an item of WHAT (R330), as the page's bank reads (R69). -/
def readItem (s : State) (p : Page) (what i : Nat) : Bytes :=
  match what with
  | 0 => toLE 8 (if bankOn s (bankOf .ho i) then entryAt p .ho i else emptyEntry).toNat
  | 1 => toLE 8 (if bankOn s (bankOf .lo i) then entryAt p .lo i else emptyEntry).toNat
  | 2 => toLE 8 (if bankOn s (bankOf .ds0 i) then entryAt p .ds0 i else emptyEntry).toNat
  | 3 => toLE 16 (if bankOn s (i / 512) then carrierAt p i else emptyCarrier).toNat
  | _ => toLE 32 p.quiesce.toNat

/-- Bytes of one item of WHAT (R330). -/
def itemSize (what : Nat) : Nat := if what ≤ 2 then 8 else if what = 3 then 16 else 32

/-- Items of WHAT (R330). -/
def itemCount (what : Nat) : Nat :=
  match what with
  | 0 => 49152 | 1 => 1376256 | 2 => 262144 | 3 => 8192 | _ => 1

/-- The page a PAGE bit selects. -/
def pageOf (s : State) (stagedPage : Bool) : Page := if stagedPage then s.page.staged else s.page.live

/-- CONN_READBACK against R35. -/
def readbackChecks (c : CmdEntry) : Checks :=
  let what := arg c 1 1
  let first := arg c 4 4
  let n := arg c 8 4
  { lens := [32], fields := [(0, 1), (8, 8), (32, 32), (64, 32), descField 16],
    argsOk := decide (what ≤ 4) && decide (1 ≤ n) && decide (first + n ≤ itemCount what) && descOk (descAt c 16) true,
    lengthOk := descLenOk (descAt c 16) (· == n * itemSize what), modes := readModes, buffer := true }

/-- CONN_READBACK (R78): every item comes from one page, whose epoch is the RESULT. -/
def execConnReadback (c : CmdEntry) (s : State) : Host.Outcome State Fault Refusal :=
  finish s (runCmd 0x24 true c (readbackChecks c)
    (fun tok s =>
      let p := pageOf s (argBit c 0 0)
      let what := arg c 1 1
      let bs := (List.range (arg c 8 4)).flatMap fun i => readItem s p what (arg c 4 4 + i)
      withWrite tok (descAt c 16) (· == arg c 8 4 * itemSize what) bs (completeOk tok [(0, 8, p.epoch.toNat)]) s) s)

/-- The report of ROUTE_CHECK (R332). -/
def routeReport (vs : List Violation) : Bytes :=
  let recs := (vs.take 16).flatMap fun v => packBytes 8 [(0, 4, v.2.2.2 + 0x40000000 * tierCode v.2.2.1), (4, 1, v.2.1)]
  fit 144 (toLE 4 (ofClass vs 1).length ++ toLE 4 (ofClass vs 2).length ++ toLE 4 (ofClass vs 3).length ++ zeros 4 ++ recs)

/-- RESULT of ROUTE_CHECK (R57, R330) for a page on a schedule. -/
def routeRes (s : State) (p : Page) (sch : Schedule) (vs : List Violation) : List Field :=
  [(0, 1, routeVerdict vs), (1, 1, nat01 (incremental s.page.live p)), (2, 2, largestLegs sch p),
   (4, 4, legsMoved s.page.sched s.page.live sch p)]

/-- The solution that a check reports (R58): the live schedule, the solution of the scheduled commit or the kept one, or for
a SPLIT series, whose parts are solved one by one, that of its final target. -/
def checkedSchedule (s : State) (stagedPage : Bool) : Schedule :=
  let own := solvePage s.page.sched s.page.staged
  if !stagedPage then s.page.sched
  else match s.page.job with
    | some j => if j.nParts = 1 then s.page.idle.getD own else own
    | none => s.page.idle.getD own

/-- ROUTE_CHECK (R57, R58), once the solution it reports stands. -/
def routeBody (c : CmdEntry) (tok : CmdTok) (s : State) : State :=
  let p := pageOf s (argBit c 0 0)
  let vs := violations s p
  let done := completeOk tok (routeRes s p (checkedSchedule s (argBit c 0 0)) vs)
  if c.len = 24 then withWrite tok (descAt c 8) (· == 144) (routeReport vs) done s else done s

/-- A check of the staged page waits for the solver that works for a scheduled commit, or for its own, which it starts
(R53, R58). -/
def routeHold (s : State) (c : CmdEntry) : Option State :=
  if !argBit c 0 0 then none
  else if s.page.solving.isSome then some s
  else if s.page.job.isNone && !s.page.kept then some { s with page := { s.page with solving := some s.clk.fn } }
  else none

/-- ROUTE_CHECK against R35. -/
def routeChecks (s : State) (c : CmdEntry) : Checks :=
  { lens := [8, 24], fields := if c.len = 24 then [(0, 1), descField 8] else [(0, 1)],
    argsOk := !decide (c.len = 24) || descOk (descAt c 8) true,
    lengthOk := !decide (c.len = 24) || descLenOk (descAt c 8) (· == 144), modes := readModes,
    buffer := decide (c.len = 24), hold := routeHold s c }

/-- ROUTE_CHECK (R57). -/
def execRouteCheck (c : CmdEntry) (s : State) : Host.Outcome State Fault Refusal :=
  finish s (runCmd 0x25 true c (routeChecks s c) (routeBody c) s)

/-- Write carrier records into the staged page, all or none (R69, R111). -/
def stageCarriers (tok : CmdTok) (first : Nat) (rs : List (BitVec 128)) (s : State) : State :=
  match rs.findIdx? fun r => !carrierOk r with
  | some n => refuse tok stBadArgument [(4, 4, n)] s
  | none =>
    match (List.range rs.length).findIdx? fun i =>
        rs.getD i emptyCarrier != emptyCarrier && !bankOn s ((first + i) / 512) with
    | some n => refuse tok stNoResource [(4, 4, n)] s
    | none =>
      let p := (List.range rs.length).foldl (fun p i => putCarrier p (first + i) (rs.getD i emptyCarrier)) s.page.staged
      completeOk tok [(0, 2, first), (2, 2, rs.length)] (stage p rs.length s)

/-- CARRIER_CONFIG against R35 (R327): FORM 0 carries one record, FORM 1 a descriptor. -/
def carrierChecks (s : State) (c : CmdEntry) : Checks :=
  let first := arg c 0 2
  let n := arg c 2 2
  let bulk := argBit c 4 0
  { lens := [24], fields := [(0, 16), (16, 16), (32, 1), (64, 128)],
    argsOk := decide (1 ≤ n ∧ first + n ≤ 8192) &&
      (if bulk then descOk (descAt c 8) false else decide (n = 1) && carrierOk (descAt c 8)),
    lengthOk := !bulk || descLenOk (descAt c 8) (· == 16 * n), modes := configModes, object := stagingRefusal s,
    pfwWaits := true, buffer := bulk }

/-- CARRIER_CONFIG (R111). -/
def execCarrierConfig (c : CmdEntry) (s : State) : Host.Outcome State Fault Refusal :=
  finish s (runCmd 0x12 true c (carrierChecks s c)
    (fun tok s =>
      if argBit c 4 0 then
        withRead tok (descAt c 8) (· == 16 * arg c 2 2) noFields
          (fun bs => stageCarriers tok (arg c 0 2)
            ((List.range (arg c 2 2)).map fun i => BitVec.ofNat 128 (le bs (16 * i) 16))) s
      else stageCarriers tok (arg c 0 2) [descAt c 8] s) s)

/-- Set or clear a run of quiesce bits in the staged page (R99). -/
def quiesceRun (first n : Nat) (on : Bool) (s : State) : State :=
  stage ((List.range n).foldl (fun p i => putQuiesce p (first + i) on) s.page.staged) n s

/-- PORT_CONFIG QUIESCE against R35. -/
def quiesceChecks (s : State) (c : CmdEntry) : Checks :=
  { lens := [8], fields := [(0, 8), (8, 8), (16, 8), (24, 1)], argsOk := decide (arg c 0 1 + arg c 2 1 ≤ 255),
    modes := configModes, object := stagingRefusal s, pfwWaits := true }

/-- PORT_CONFIG QUIESCE (R99, R327). -/
def execPortConfigQuiesce (c : CmdEntry) (s : State) : Host.Outcome State Fault Refusal :=
  finish s (runCmd 0x11 (arg c 1 1 == 3) c (quiesceChecks s c)
    (fun tok s => completeOk tok [(0, 1, arg c 0 1)] (quiesceRun (arg c 0 1) (arg c 2 1 + 1) (argBit c 3 0) s)) s)

end Sys2Proof.Machine
end

