-- ==== Sys2Proof/Machine/Timing.lean ====
section
/-! DEFINITION. The synchronisation block: reference slots (R206 to R214), selection (R215 to R217), the DPLL, its
history and holdover (R219 to R226), the output QL (R230), TIMING_CONFIG and TIMING_CONTROL (R207, R209, R218, R334,
R335) and the happenings of the block. -/
namespace Sys2Proof.Machine

/-- The default slot record (R207). -/
def defaultSlot : BitVec 128 := 0x005C050500000000

/-- Record of a slot. -/
def slotRec (s : State) (i : Nat) : BitVec 128 := tget defaultSlot s.cfg.slots i

/-- State of a slot. -/
def slotSt (s : State) (i : Nat) : SlotState := tget {} s.tim.slots i

/-- Replace the state of a slot. -/
def putSlotSt (i : Nat) (x : SlotState) (s : State) : State :=
  { s with tim := { s.tim with slots := tset {} s.tim.slots i x } }

def rKind (r : BitVec 128) : Nat := fld r 0 2
def rSource (r : BitVec 128) : Nat := fld r 8 8
def rPriority (r : BitVec 128) : Nat := fld r 16 4
def rQlValue (r : BitVec 128) : BitVec 4 := r.extractLsb' 24 4
def rQlForce (r : BitVec 128) : Bool := bit r 28
def rHoldOff (r : BitVec 128) : Nat := fld r 32 8
def rWtr (r : BitVec 128) : Nat := fld r 40 8
def rFreqLimit (r : BitVec 128) : Nat := fld r 48 16

/-- Ranges and reserved bits of a slot record (R207). The table gives SOURCE no range for KIND 00: any value stands there
(DESIGN CHOICE, entry 113). -/
def slotOk (r : BitVec 128) : Bool :=
  fld r 2 6 == 0 && fld r 20 4 == 0 && fld r 29 3 == 0 && fld r 64 64 == 0 &&
    (match rKind r with | 1 => decide (rSource r ≤ 127) | 2 => decide (rSource r ≤ 3) | 3 => rSource r == 0 | _ => true) &&
    decide (rHoldOff r ≤ 100) && decide (rWtr r ≤ 60) && decide (1 ≤ rFreqLimit r ∧ rFreqLimit r ≤ 200)

-- Fields of the block settings (R209, R334).
def bOption2 (b : BitVec 104) : Bool := bit b 0
def bQlMode (b : BitVec 104) : Bool := bit b 2
def bHoldQl (b : BitVec 104) : BitVec 4 := b.extractLsb' 8 4
def bSoftQl (b : BitVec 104) : BitVec 4 := b.extractLsb' 12 4
def bQlFixed (b : BitVec 104) : BitVec 4 := b.extractLsb' 16 4
def bConflict (b : BitVec 104) : Nat := fld b 24 8
def bTinMode (b : BitVec 104) (i : Nat) : Nat := fld b (48 + 2 * i) 2
def bTout (b : BitVec 104) (i : Nat) : BitVec 16 := b.extractLsb' (72 + 16 * i) 16

/-- Ranges and reserved bits of the block settings (R334). -/
def blockOk (b : BitVec 104) : Bool :=
  fld b 3 5 == 0 && fld b 20 4 == 0 && decide (bConflict b ≤ 200) && decide (fld b 32 16 ≤ 1000) && fld b 68 4 == 0 &&
    (List.range 4).all (fun i => decide (bTinMode b i ≤ 2) && decide (fld b (56 + 3 * i) 3 ≤ 4)) &&
    (List.range 2).all fun i => decide (fld (bTout b i) 0 3 ≤ 4) && fld (bTout b i) 13 3 == 0

/-- The QL codes of an option, best first: G.781 option 1 and option 2 generation 2 (PRESUMED from G.781). -/
def qlOrder (option2 : Bool) : List Nat := if option2 then [1, 0, 7, 4, 13, 10, 12, 14, 15] else [2, 4, 8, 11, 15]

/-- Rank of a QL, 0 best; an undefined code ranks below every defined one. -/
def qlRank (option2 : Bool) (q : Option (BitVec 4)) : Nat :=
  match q with
  | none => 100
  | some c => ((qlOrder option2).findIdx? (· == c.toNat)).getD 99

/-- The source of a slot carries an SSM (R208). -/
def carriesSsm (s : State) (r : BitVec 128) : Bool :=
  match rKind r with
  | 1 => decide (1 ≤ laneMode s.cfg (rSource r) ∧ laneMode s.cfg (rSource r) ≤ 4)
  | 2 => decide (bTinMode s.tim.block (rSource r) ≠ 0)
  | 3 => true
  | _ => false

/-- QL of a slot as its record and its received SSM give it (R214). -/
def slotQl (s : State) (i : Nat) : Option (BitVec 4) :=
  let r := slotRec s i
  if rQlForce r then some (rQlValue r) else if carriesSsm s r then (slotSt s i).ssm else none

/-- Output QL (R230): QL_FIXED with QL_MODE off. With a slot in use that has no QL and none held it is HOLDOVER_QL (DESIGN CHOICE,
entry 166). -/
def outputQl (s : State) : BitVec 4 :=
  let b := s.tim.block
  if !bQlMode b then bQlFixed b
  else if s.tim.dpll = 4 then bSoftQl b
  else if s.tim.dpll = 0 ∨ s.tim.dpll = 3 then bHoldQl b
  else match s.tim.heldQl with
    | some q => q
    | none => match s.tim.use with
      | some i => ((slotSt s i).ql).getD (bHoldQl b)
      | none => bHoldQl b

/-- QL code of DNU and DUS (R214). -/
def qlDnu : BitVec 4 := 15

/-- S1 of a transmitted SONET signal of a lane (R230): DNU on the source of the slot in use. -/
def laneS1 (s : State) (l : Nat) : BitVec 4 :=
  if bQlMode s.tim.block && (match s.tim.use with
      | some i => rKind (slotRec s i) == 1 && rSource (slotRec s i) == l
      | none => false) then qlDnu else outputQl s

/-- TOUT i is squelched (R228, R229): off, in BOOT after a cold reset and in SAFE, its slot failed, or its QL worse than the
minimum in force. A source slot of KIND 00, of which the manual says nothing, does not squelch it (DESIGN CHOICE, entry 114). -/
def toutSquelched (s : State) (i : Nat) : Bool :=
  let t := bTout s.tim.block i
  let slot := fld t 4 4
  let q := if bit t 3 then slotQl s slot else some (outputQl s)
  !s.tim.running || !framesRun s || decide (fld t 0 3 = 0) || (bit t 3 && (slotSt s slot).failed) ||
    (bit t 12 && decide (qlRank (bOption2 s.tim.block) (some (t.extractLsb' 8 4)) < qlRank (bOption2 s.tim.block) q))

/-- What a TOUT pin carries (R229): nothing, low, AIS, a clock of 2.048 MHz or 8 kHz, or an E1 or T1 with its SSM, from the
DPLL or from a slot's recovered clock. -/
inductive ToutOut where
  | off | low | ais
  | clock (khz : Nat) (slot : Option Nat)
  | e1 (slot : Option Nat) (sa : Nat) (ssm : BitVec 4)
  | t1 (slot : Option Nat) (ssm : BitVec 4)
  deriving DecidableEq, Repr

/-- TOUT i (R229): a squelched clock is held low, a squelched E1 or T1 sends AIS; the SSM is the QL of the source, DNU or
DUS while it has none (DESIGN CHOICE, entry 165). -/
def toutOut (s : State) (i : Nat) : ToutOut :=
  let t := bTout s.tim.block i
  let slot := if bit t 3 then some (fld t 4 4) else none
  let q := match slot with | some j => (slotQl s j).getD qlDnu | none => outputQl s
  let quiet := toutSquelched s i
  match fld t 0 3 with
  | 0 => .off
  | 1 => if quiet then .low else .clock 2048 slot
  | 2 => if quiet then .low else .clock 8 slot
  | 3 => if quiet then .ais else .e1 slot (4 + fld s.tim.block (56 + 3 * i) 3) q
  | _ => if quiet then .ais else .t1 slot q

/-- A TIM cause and its event (R226, R342); `first` stands in byte 2 in place of the slot in use for a conflict. QL now, in
byte 4, is the output QL, also for a QL_CHANGE of a slot that is not in use (DESIGN CHOICE, entry 115). -/
def timNote (b : Nat) (first : Option Nat) (second : Nat) (s : State) : State :=
  post 0x30 [(0, 1, b), (1, 1, s.tim.dpll.toNat), (2, 1, (first.orElse fun _ => s.tim.use).getD 0xFF), (3, 1, second),
    (4, 1, (outputQl s).toNat)] (raise gTim b s)

/-- The DPLL enters a state (R220, R226): its history bit, its cause and its event. -/
def setDpll (st : BitVec 3) (s : State) : State :=
  if s.tim.dpll = st then s
  else timNote st.toNat none 0xFF { s with tim := { s.tim with dpll := st, history := putBit s.tim.history st.toNat true } }

/-- Samples between 310 s and 10 s before a moment (R224). -/
def samplesAt (s : State) (fn : FN) : List (FN × Int) :=
  s.tim.samples.filter fun x => decide (80000 ≤ (fn - x.1).toNat ∧ (fn - x.1).toNat ≤ 2480000)

/-- The holdover value computed at this moment (R224): the mean of those samples, valid from 1,000, mature at 30,000. The mean
is rounded down to 0.001 ppb (DESIGN CHOICE, entry 116: the manual gives no rounding). -/
def computeHoldover (s : State) : Option Int × Bool :=
  let xs := samplesAt s s.clk.fn
  if xs.length < 1000 then (none, false)
  else (some ((xs.foldl (fun n x => n + x.2) 0) / (xs.length : Int)), decide (30000 ≤ xs.length))

/-- The holdover value that would be used now: computed while the DPLL tracks, else as at the stopping moment. -/
def holdoverNow (s : State) : Option Int × Bool :=
  if s.tim.tracking then computeHoldover s else (s.tim.holdover, s.tim.mature)

/-- The DPLL stops tracking (R212, R224): the output frequency is held and the holdover value computed. Where it was to track again from
the next frame, it does not. -/
def stopTracking (s : State) : State :=
  if s.tim.resume then { s with tim := { s.tim with resume := false, heldQl := some (outputQl s) } }
  else if !s.tim.tracking then s
  else
    let h := computeHoldover s
    { s with tim := { s.tim with
      tracking := false, holdover := h.1, mature := h.2, heldQl := some (outputQl s), lockRun := 0 } }

/-- Enter HOLDOVER (R218, R220, R224): from FREE_RUN the output moves to the value by a ramp. -/
def toHoldover (s : State) : State :=
  let v := s.tim.holdover.getD 0
  let s := { s with tim := { s.tim with
    target := v, freq := (if s.tim.dpll = 0 then s.tim.freq else v), heldQl := none } }
  let s := setDpll 3 s
  if s.tim.mature then s else timNote 9 none 0xFF s

/-- The output runs from XO_IN (R219). -/
def fromXo (s : State) : State :=
  let x := Config.xoFreq s.draws
  { s with draws := s.draws + 1, tim := { s.tim with xo := x, freq := x, target := x } }

/-- Enter FREE_RUN (R219, R220). -/
def toFreeRun (s : State) : State := setDpll 0 (fromXo { s with tim := { s.tim with heldQl := none } })

/-- The loop opens with no slot chosen (R220). -/
def openLoop (s : State) : State :=
  let s := stopTracking s
  let s := { s with tim := { s.tim with use := none, switching := none, resume := false, heldQl := none } }
  if s.tim.holdover.isSome then toHoldover s else toFreeRun s

/-- The present mode; a warm reset leaves the synchronisation block in the mode before it (R235). -/
def timMode (s : State) : Mode := if s.mode.mode = .boot then s.mode.outMode else s.mode.mode

/-- A MATE slot may be a candidate only in STANDBY (R231). -/
def kindPermitted (s : State) (k : Nat) : Bool := decide (k ≠ 0) && (decide (k ≠ 3) || decide (timMode s = .standby))

/-- A slot is in cand (R214, R215). -/
def candidate (s : State) (i : Nat) : Bool :=
  let r := slotRec s i
  let x := slotSt s i
  kindPermitted s (rKind r) && decide (rPriority r ≠ 0) && !s.cfg.lockouts.contains i && !x.failed && x.wtr.isNone &&
    (!bQlMode s.tim.block || (x.ql.isSome && decide (x.ql ≠ some qlDnu)))

/-- Two slots tie (R217): the same PRIORITY and, with QL_MODE on, the same QL. -/
def slotsTie (s : State) (a b : Nat) : Bool :=
  decide (rPriority (slotRec s a) = rPriority (slotRec s b)) &&
    (!bQlMode s.tim.block || decide ((slotSt s a).ql = (slotSt s b).ql))

/-- The slot of a list that comes first under a key (R215). -/
def minBy (key : Nat → Nat) : List Nat → Option Nat
  | [] => none
  | x :: xs => match minBy key xs with
    | none => some x
    | some y => if key x ≤ key y then some x else some y

/-- The choice of a tick (R215 to R217, R231): during a switch, slots that became candidates after it are passed over. -/
def choose (s : State) (cand : List Nat) : Option Nat :=
  let inCand := fun i => cand.contains i
  let mate := if timMode s = .standby then cand.find? fun i => rKind (slotRec s i) == 3 else none
  let forced := match s.cfg.forcedSlot with | some i => if inCand i then some i else none | none => none
  let keep := match s.tim.use with | some i => if inCand i then some i else none | none => none
  if mate.isSome then mate
  else if forced.isSome then forced
  else if s.tim.switching.isSome ∧ keep.isSome then keep
  else
    let pool := match s.tim.switching with
      | some f => cand.filter fun i => match (slotSt s i).since with | some g => fnGe f g | none => false
      | none => cand
    let key := fun i => (if bQlMode s.tim.block then qlRank (bOption2 s.tim.block) (slotSt s i).ql else 0) * 16 +
      rPriority (slotRec s i)
    match minBy key pool with
    | none => none
    | some b =>
      let top := pool.filter fun i => key i == key b
      match keep with
      | some i => if top.contains i then some i else
          (if s.tim.pairs.any fun p => top.contains p.1 && top.contains p.2.1 then
            minBy (fun i => (slotSt s i).offset.natAbs) top else top.head?)
      | none =>
        if s.tim.pairs.any fun p => top.contains p.1 && top.contains p.2.1 then
          minBy (fun i => (slotSt s i).offset.natAbs) top else top.head?

/-- Put the block settings of the last TIMING_CONFIG in force (R209): a change of OPTION sets every received QL to
QL-FAILED. -/
def applyBlock (s : State) : State :=
  let fail := bOption2 s.cfg.block != bOption2 s.tim.block
  { s with tim := { s.tim with
      block := s.cfg.block,
      slots := if fail then s.tim.slots.map fun x => (x.1, { x.2 with ssm := none }) else s.tim.slots } }

/-- Bring a slot's QL into force (R214), raising QL_CHANGE. -/
def tickQl (s : State) (i : Nat) : State :=
  if rKind (slotRec s i) = 0 then s else
  let q := slotQl s i
  if q = (slotSt s i).ql then s else timNote 8 none 0xFF (putSlotSt i { slotSt s i with ql := q } s)

/-- Note since when each slot has been a candidate (R216). -/
def tickSince (s : State) (i : Nat) : State :=
  let x := slotSt s i
  let since := if !candidate s i then none else if x.since.isSome then x.since else some s.clk.fn
  putSlotSt i { x with since := since } s

/-- The output frequency of a tracking DPLL, within ±20 ppm of XO_IN, and its sample while LOCKED (R219, R221, R224). -/
def tickSample (s : State) : State :=
  if !s.tim.tracking then s else
  let f := max (s.tim.xo - 20000000) (min (s.tim.xo + 20000000) (Config.trackedFreq s.draws))
  let s := { s with draws := s.draws + 1, tim := { s.tim with freq := f, target := f } }
  if s.tim.dpll ≠ 2 then s
  else { s with tim := { s.tim with samples := ((s.clk.fn, f) :: s.tim.samples).take 31000 } }

/-- Loop bandwidth of a kind of slot, in mHz (R222): 1 Hz for a lane, 0.1 Hz for a TIN, 60 Hz for MATE. -/
def kindBandwidth (k : Nat) : Option Nat :=
  match k with | 1 => some 1000 | 2 => some 100 | 3 => some 60000 | _ => none

/-- Damping factor of the loop, in hundredths: at most 5 (R222). -/
def loopDamping (s : State) : Nat := min 500 (Config.damping (s.tim.bandwidth.getD 0))

/-- The loop takes an input up (R212, R223): it builds out no phase, so the difference is there to be absorbed. -/
def takePhase (s : State) : State :=
  { s with draws := s.draws + 1, tim := { s.tim with phaseDiff := Config.phaseStep s.draws } }

/-- The loop tracks the slot in use, whose phase difference it has still to absorb (R212, R223). -/
def startTracking (s : State) : State :=
  let s := takePhase s
  { s with tim := { s.tim with tracking := true, resume := false, heldQl := none, lockRun := 0 } }

/-- The loop acquires slot c (R215, R216, R220, R222, R223): a reference switch where it is not the slot in use. -/
def refSwitch (c : Nat) (s : State) : State :=
  let new := decide (s.tim.use ≠ some c)
  let s := { startTracking s with tim := { (startTracking s).tim with
    bandwidth := (kindBandwidth (rKind (slotRec s c))).orElse fun _ => s.tim.bandwidth,
    use := some c, switching := some s.clk.fn, tracking := (slotSt s c).hold.isNone, stepped := false } }
  let s := setDpll 1 s
  if new then bump 112 1 1 (timNote 5 none 0xFF s) else s

/-- What a tick's choice does to the loop (R218, R220, R225). -/
def actOn (choice : Option Nat) (s : State) : State :=
  let s' := { s with tim := { s.tim with softExit := false } }
  if s.tim.dpll = 4 ∧ !s.tim.softExit then
    if choice = s.tim.use then s
    else
      let s := { s with tim := { s.tim with use := choice } }
      if choice.isSome then bump 112 1 1 (timNote 5 none 0xFF s) else s
  else if s.cfg.forceHold ∧ s.tim.dpll = 3 then s'
  else if s.cfg.forceHold ∧ (holdoverNow s).1.isSome then toHoldover (stopTracking s')
  else if s.cfg.forceHold then (if s.tim.dpll = 0 then s' else toFreeRun (stopTracking s'))
  else if s.cfg.forceFree then (if s.tim.dpll = 0 then s' else toFreeRun s')
  else match choice with
    | none => if s.tim.dpll = 0 ∨ s.tim.dpll = 3 then { s' with tim := { s'.tim with use := none } } else openLoop s'
    | some c =>
      if s.tim.use = some c ∧ (s.tim.dpll = 1 ∨ s.tim.dpll = 2) then
        if s.tim.tracking ∨ s.tim.resume ∨ (slotSt s c).hold.isSome then s' else startTracking s'
      else refSwitch c s'

/-- Offsets of two slots differ by more than CONFLICT, which 0 disables (R209, R217). -/
def offsetsConflict (s : State) (a b : Nat) : Bool :=
  decide (bConflict s.tim.block ≠ 0) &&
    decide (10 * bConflict s.tim.block < ((slotSt s a).offset - (slotSt s b).offset).natAbs)

/-- Two slots are compared (R217): a conflict of two eligible tied slots is flagged; 8,000 frames of agreement clear it. -/
def refConflict (a b : Nat) (s : State) : State :=
  match s.tim.pairs.find? fun p => p.1 == a && p.2.1 == b with
  | none =>
    if a < b ∧ b < 16 ∧ candidate s a ∧ candidate s b ∧ slotsTie s a b ∧ offsetsConflict s a b then
      timNote 7 (some a) b { s with tim := { s.tim with pairs := s.tim.pairs ++ [(a, b, none)] } }
    else s
  | some p =>
    let rest := s.tim.pairs.filter fun q => q.1 != a || q.2.1 != b
    if offsetsConflict s a b then { s with tim := { s.tim with pairs := rest ++ [(a, b, none)] } }
    else match p.2.2 with
      | none => { s with tim := { s.tim with pairs := rest ++ [(a, b, some s.clk.fn)] } }
      | some f => if 8000 ≤ (s.clk.fn - f).toNat then { s with tim := { s.tim with pairs := rest } } else s

/-- Every pair of slots is compared at a tick (R215, R217). -/
def tickPairs (s : State) : State :=
  (List.range 16).foldl (fun s a => (List.range 16).foldl (fun s b => if a < b then refConflict a b s else s) s) s

/-- A selection tick (R215): FN mod 80 = 0, once in the frame, while the block runs. -/
def tick (s : State) : State :=
  if !s.tim.running ∨ s.clk.fn.toNat % 80 ≠ 0 ∨ s.tim.lastTick = some s.clk.fn then s else
  let s := bump 112 0 1 { s with tim := { s.tim with lastTick := some s.clk.fn } }
  let s := applyBlock s
  let s := (List.range 16).foldl tickQl s
  let s := tickSample s
  let s := tickPairs ((List.range 16).foldl tickSince s)
  actOn (choose s ((List.range 16).filter (candidate s))) s

/-- SELECTION_TICK (R215). -/
def execSelectionTick (s : State) : Host.Outcome State Fault Refusal := finish s (tick s)

/-- A slot fails (R210, R212): REF_FAIL, and its received QL is QL-FAILED until an SSM is accepted anew (R214). -/
def failSlot (i : Nat) (s : State) : State :=
  timNote 6 none 0xFF (putSlotSt i { slotSt s i with failed := true, hold := none, wtr := none, ssm := none } s)

/-- The DPLL stops tracking as a hold-off starts (R212): a tick in this frame records no sample (R224). -/
def holdOffStops (s : State) : State :=
  if !s.tim.tracking then s
  else stopTracking { s with tim := { s.tim with samples := s.tim.samples.filter fun x => x.1 != s.clk.fn } }

/-- A failure condition arises on a slot (R212, R213): the DPLL stops tracking it if it is in use; its hold-off runs; a
running WTR ends. -/
def condArises (i b : Nat) (s : State) : State :=
  let x := slotSt s i
  let first := decide (x.conds = 0)
  let s := putSlotSt i { x with
    conds := putBit x.conds b true, wtr := none,
    hold := if first ∧ !x.failed then some s.clk.fn else x.hold } s
  if !first ∨ x.failed then s else
  let s := bump 112 2 1 (if s.tim.use = some i then holdOffStops s else s)
  if rHoldOff (slotRec s i) = 0 then failSlot i s else s

/-- A failure condition clears on a slot (R211 to R213): the last one starts WTR on a failed slot, or ends the hold-off of
a slot that has not failed, whose tracking resumes from the next frame. -/
def condClears (i b : Nat) (s : State) : State :=
  let x := slotSt s i
  let c := putBit x.conds b false
  if c ≠ 0 then putSlotSt i { x with conds := c, inWin := none } s
  else if x.failed then
    let none' := decide (rWtr (slotRec s i) = 0)
    putSlotSt i { x with conds := 0, inWin := none, failed := !none', wtr := if none' then none else some s.clk.fn } s
  else
    let s := putSlotSt i { x with conds := 0, hold := none, inWin := none } s
    if s.tim.use = some i ∧ (s.tim.dpll = 1 ∨ s.tim.dpll = 2) then
      { s with tim := { s.tim with resume := true, heldQl := none } }
    else s

/-- The DPLL tracks again from this frame (R212). -/
def resumeFrame (s : State) : State := if s.tim.resume then startTracking s else s

/-- A failure condition of a slot changes, where it does change (R210, R212). -/
def slotCond (i b : Nat) (on : Bool) (s : State) : State :=
  if 16 ≤ i ∨ 6 ≤ b ∨ rKind (slotRec s i) = 0 ∨ bit (slotSt s i).conds b = on then s
  else if on then condArises i b s else condClears i b s

/-- The failure conditions that the module's own state shows of a slot's source (R210): bits of R335, signal, frame, AIS, mate. -/
def sourceConds (s : State) (r : BitVec 128) : BitVec 6 :=
  match rKind r with
  | 1 =>
    let l := rSource r
    let m := laneMode s.cfg l
    let w := if m = 0x18 then defects s 7 l else if m ≤ 4 then defects s 0 l ||| defects s 1 l else defects s 5 l
    let los := decide (m = 0) || !domOn s (l / 4) || bit w bLos || bit w bVblLos
    let lof := bit w bLof || bit w 9 || bit w 10 || bit w bVblLof
    putBit (putBit (putBit 0 0 los) 1 lof) 2 (bit w bAisL || bit w 13)
  | 3 => putBit 0 5 (!s.twin.linkUp || s.tim.mateStopped)
  | _ => 0

/-- A slot's conditions follow its source in the frame in which they change (R210, R212). A TIN of 2.048 MHz has no framing and no AIS. -/
def evalSlot (s : State) (i : Nat) : State :=
  let r := slotRec s i
  let w := sourceConds s r
  match rKind r with
  | 1 => slotCond i 2 (bit w 2) (slotCond i 1 (bit w 1) (slotCond i 0 (bit w 0) s))
  | 2 => if bTinMode s.tim.block (rSource r) = 0 then slotCond i 2 false (slotCond i 1 false s) else s
  | 3 => slotCond i 5 (bit w 5) s
  | _ => s

/-- Every slot against its source. -/
def evalSlots (s : State) : State := if s.tim.running then (List.range 16).foldl evalSlot s else s

/-- REF_FAILURE_CONDITION (R210, R212): a lane slot follows the lane's own defects, a TIN slot what its receiver finds, and a
MATE slot the link and the mate's report. -/
def refCondition (i b : Nat) (on : Bool) (s : State) : State :=
  let w := sourceConds s (slotRec s i)
  match rKind (slotRec s i) with
  | 1 => if b < 3 ∧ bit w b = on then slotCond i b on s else s
  | 2 => if b = 0 ∨ (b < 3 ∧ bTinMode s.tim.block (rSource (slotRec s i)) ≠ 0) then slotCond i b on s else s
  | 3 => if b = 5 then evalSlots { s with tim := { s.tim with mateStopped := on } } else s
  | _ => s

/-- REF_FAILURE_CONDITION (R210, R212). -/
def execRefFailureCondition (slot : Nat) (b : Nat) (on : Bool) (s : State) : Host.Outcome State Fault Refusal :=
  finish s (refCondition slot b on s)

/-- The end of a hold-off (R212). -/
def refHoldOff (i : Nat) (s : State) : State :=
  match (slotSt s i).hold with
  | some f => if 800 * rHoldOff (slotRec s i) ≤ (s.clk.fn - f).toNat ∧ (slotSt s i).conds ≠ 0 then failSlot i s else s
  | none => s

/-- REF_HOLD_OFF_EXPIRY (R212). -/
def execRefHoldOffExpiry (slot : Nat) (s : State) : Host.Outcome State Fault Refusal := finish s (refHoldOff slot s)

/-- The end of a WTR (R213). -/
def refWtr (i : Nat) (s : State) : State :=
  match (slotSt s i).wtr with
  | some f =>
    if 480000 * rWtr (slotRec s i) ≤ (s.clk.fn - f).toNat ∧ (slotSt s i).conds = 0 then
      putSlotSt i { slotSt s i with failed := false, wtr := none } s
    else s
  | none => s

/-- REF_WTR_EXPIRY (R213). -/
def execRefWtrExpiry (slot : Nat) (s : State) : Host.Outcome State Fault Refusal := finish s (refWtr slot s)

/-- No LOCKED within 100 s of a switch (R216): the slot fails with ACQ_FAIL, which clears at once and starts its WTR; with a
WTR of 0 it is eligible at once and stays the slot of the switch. -/
def acqFail (s : State) : State :=
  match s.tim.use, s.tim.switching with
  | some i, some f =>
    if s.tim.dpll ≠ 1 ∨ (s.clk.fn - f).toNat < 800000 then s else
    let s := condArises i 4 (putSlotSt i { slotSt s i with failed := true, hold := none } s)
    let s := condClears i 4 (timNote 6 none 0xFF (stopTracking s))
    if (slotSt s i).failed then s
    else { startTracking s with tim := { (startTracking s).tim with switching := some s.clk.fn } }
  | _, _ => s

/-- ACQ_FAIL (R216). -/
def execAcqFail (s : State) : Host.Outcome State Fault Refusal := finish s (acqFail s)

/-- Frequency of a slot's source from nominal, in 0.001 ppb, as its monitor finds it while ACQUIRING: from XO_IN (R211). -/
def acquiredFreq (s : State) (i : Nat) : Int := s.tim.xo + 10000 * (slotSt s i).offset

/-- The criterion of R221 in a frame: a phase error within ±1 µs, a frequency error within ±0.1 ppm, and a source within ±20 ppm of XO_IN. -/
def lockHolds (s : State) : Bool :=
  match s.tim.use with
  | some i => s.tim.tracking && decide (s.tim.phaseDiff.natAbs ≤ 10000000) &&
      decide ((s.tim.freq - acquiredFreq s i).natAbs ≤ 100000) && decide ((slotSt s i).offset.natAbs ≤ 2000)
  | none => false

/-- The frames for which the criterion has held (R221). -/
def lockFrame (s : State) : State :=
  { s with tim := { s.tim with lockRun := if s.tim.dpll = 1 ∧ lockHolds s then s.tim.lockRun + 1 else 0 } }

/-- LOCKED (R221): the criterion has held for 16,000 frames. -/
def dpllLocked (s : State) : State :=
  if s.tim.dpll = 1 ∧ lockHolds s ∧ 16000 ≤ s.tim.lockRun then
    setDpll 2 { s with tim := { s.tim with switching := none, lockRun := 0 } }
  else s

/-- DPLL_LOCKED (R221). -/
def execDpllLocked (s : State) : Host.Outcome State Fault Refusal := finish s (dpllLocked s)

/-- No SSM accepted for 5 s (R214). -/
def ssmTimeout (i : Nat) (s : State) : State :=
  if 40000 ≤ (s.clk.fn - (slotSt s i).ssmFn).toNat then putSlotSt i { slotSt s i with ssm := none } s else s

/-- SSM_TIMEOUT (R214). -/
def execSsmTimeout (slot : Nat) (s : State) : Host.Outcome State Fault Refusal := finish s (ssmTimeout slot s)

/-- An SSM is accepted on the source of a slot (R208, R214); a failed source gives none. -/
def ssmAccept (i : Nat) (code : BitVec 4) (s : State) : State :=
  if i < 16 ∧ carriesSsm s (slotRec s i) ∧ !((slotSt s i).failed && decide ((slotSt s i).conds ≠ 0)) then
    putSlotSt i { slotSt s i with ssm := some code, ssmFn := s.clk.fn } s
  else s

/-- SSM_ACCEPT (R208). -/
def execSsmAccept (slot : Nat) (code : BitVec 4) (s : State) : Host.Outcome State Fault Refusal :=
  finish s (ssmAccept slot code s)

/-- What a frequency monitor compares with (R211), in 0.001 ppb from nominal: the DPLL output, in FREE_RUN and ACQUIRING XO_IN. -/
def freqBase (s : State) : Int := if s.tim.dpll = 0 ∨ s.tim.dpll = 1 then s.tim.xo else s.tim.freq

/-- A slot's frequency as its gate of 8,000 frames finds it, from nominal in 0.001 ppb, gives its offset in 0.01 ppm at a selection tick
(R211; rounded down: DESIGN CHOICE, log 158): out of window beyond FREQ_LIMIT, back after 8,000 frames within 0.9 × FREQ_LIMIT. -/
def freqUpdate (i : Nat) (freq : Int) (s : State) : State :=
  if 16 ≤ i ∨ rKind (slotRec s i) = 0 ∨ s.clk.fn.toNat % 80 ≠ 0 then s else
  let off := (freq - freqBase s) / 10000
  let lim := rFreqLimit (slotRec s i)
  let x := slotSt s i
  let near := decide (off.natAbs ≤ 9 * lim)
  let inWin := if near then (if x.inWin.isSome then x.inWin else some s.clk.fn) else none
  let s := putSlotSt i { x with offset := off, inWin := inWin } s
  if 10 * lim < off.natAbs then slotCond i 3 true s
  else match inWin with
    | some f => if 8000 ≤ (s.clk.fn - f).toNat then slotCond i 3 false s else s
    | none => s

/-- FREQ_MONITOR_UPDATE (R211). -/
def execFreqMonitorUpdate (slot : Nat) (freq : Int) (s : State) : Host.Outcome State Fault Refusal :=
  finish s (freqUpdate slot freq s)

/-- REF_CONFLICT (R217). -/
def execRefConflict (a : Nat) (b : Nat) (s : State) : Host.Outcome State Fault Refusal := finish s (refConflict a b s)

/-- The slot a TIMING_CONFIG writes (R207, R334): a new source starts with no history, and its standing conditions with their
hold-off (R212). A slot in use is no longer tracked, and the next tick decides (DESIGN CHOICE, log 131). -/
def writeSlot (i : Nat) (r : BitVec 128) (s : State) : State :=
  let moved := fld (slotRec s i) 0 16 != fld r 0 16
  let s := configRecord { s with cfg := { s.cfg with slots := tset defaultSlot s.cfg.slots i r } }
  if !moved then s else
  let s := if s.tim.use = some i then
      let s := stopTracking s
      { s with tim := { s.tim with use := none, switching := none, resume := false } }
    else s
  (List.range 6).foldl (fun s b => slotCond i b (bit (sourceConds s r) b) s) (putSlotSt i {} s)

/-- TIMING_CONFIG slot against R35. -/
def timingSlotChecks (c : CmdEntry) : Checks :=
  { lens := [24], fields := [(0, 8), (8, 8), (64, 128)],
    argsOk := decide (arg c 1 1 ≤ 15) && slotOk (descAt c 8), modes := readModes, pfwWaits := true }

/-- TIMING_CONFIG slot (R207, R208). -/
def execTimingConfigSlot (c : CmdEntry) (s : State) : Host.Outcome State Fault Refusal :=
  finish s (runCmd 0x40 (arg c 0 1 == 0) c (timingSlotChecks c)
    (fun tok s =>
      let r := descAt c 8
      if rKind r ≠ 0 ∧ !rQlForce r ∧ !carriesSsm s r then refuse tok stBadArgument [] s
      else completeOk tok [(0, 1, arg c 1 1)] (writeSlot (arg c 1 1) r s)) s)

/-- Block settings of ARGS bytes 8 to 20 (R334). -/
def blockArgs (c : CmdEntry) : BitVec 104 := BitVec.ofNat 104 (arg c 8 13)

/-- TIMING_CONFIG block settings against R35. -/
def timingBlockChecks (c : CmdEntry) : Checks :=
  { lens := [24], fields := [(0, 8), (64, 104)], argsOk := blockOk (blockArgs c), modes := readModes, pfwWaits := true }

/-- TIMING_CONFIG block settings (R209): in force at the next tick. -/
def execTimingConfigBlock (c : CmdEntry) (s : State) : Host.Outcome State Fault Refusal :=
  finish s (runCmd 0x40 (arg c 0 1 == 1) c (timingBlockChecks c)
    (fun tok s => completeOk tok [] (configRecord { s with cfg := { s.cfg with block := blockArgs c } })) s)

/-- Byte 2 of the STATUS header (R335). -/
def timFlags (s : State) : Nat :=
  let h := holdoverNow s
  nat01 s.tim.switching.isSome + 2 * nat01 h.1.isSome + 4 * nat01 h.2 + 8 * nat01 s.cfg.forceHold +
    16 * nat01 s.cfg.forceFree

/-- RESULT of TIMING_CONTROL (R334). -/
def timRes (s : State) : List Field := [(0, 1, s.tim.dpll.toNat), (1, 1, s.tim.use.getD 0xFF), (2, 1, timFlags s)]

/-- Complete a TIMING_CONTROL action with the state that it leaves. -/
def timOk (tok : CmdTok) (s : State) : State := completeOk tok (timRes s) s

/-- TIMING_CONTROL against R35: LEN 24 is accepted with STATUS only; `state` is what the DPLL state refuses. -/
def timingChecks (s : State) (c : CmdEntry) (names : Bool) (bad : Bool) (waits : Bool) : Checks :=
  let action := arg c 0 1
  { lens := if action = 0 then [8, 24] else [8],
    fields := [(0, 8), (8, 8), (32, 32)] ++ (if c.len = 24 then [descField 8] else []),
    argsOk := (!names || decide (arg c 1 1 ≤ 15)) && (!decide (c.len = 24) || descOk (descAt c 8) true),
    lengthOk := !decide (c.len = 24) || descLenOk (descAt c 8) (· == 288), modes := readModes,
    object := if bad then some (stWrongState, s.tim.dpll.setWidth 8, 0) else none, pfwWaits := waits,
    buffer := decide (c.len = 24) }

/-- Remaining time of a timer that started at `f` and runs for `total` frames, in units of `per` frames. -/
def remaining (s : State) (f : Option FN) (total per : Nat) : Nat :=
  match f with
  | some f => (total - (s.clk.fn - f).toNat) / per
  | none => 0

/-- A slot record of STATUS (R335). -/
def slotStatus (s : State) (i : Nat) : Bytes :=
  let x := slotSt s i
  let r := slotRec s i
  packBytes 16 [(0, 4, signed 32 x.offset),
    (4, 1, (match x.ql with | some q => q.toNat | none => 0) + 16 * nat01 x.ssm.isSome),
    (5, 1, x.conds.toNat),
    (6, 1, nat01 x.hold.isSome + 2 * nat01 x.failed + 4 * nat01 (s.cfg.lockouts.contains i) +
      8 * nat01 (s.tim.pairs.any fun p => p.1 == i || p.2.1 == i) + 16 * nat01 (candidate s i)),
    (8, 4, remaining s x.wtr (480000 * rWtr r) 8000), (12, 4, remaining s x.hold (800 * rHoldOff r) 8)]

/-- The STATUS buffer (R335). -/
def timStatus (s : State) : Bytes :=
  packBytes 32 [(0, 1, s.tim.dpll.toNat), (1, 1, s.tim.use.getD 0xFF), (2, 1, timFlags s),
    (3, 1, s.cfg.forcedSlot.getD 0xFF), (4, 1, s.tim.history.toNat), (5, 1, (outputQl s).toNat),
    (8, 4, signed 32 ((holdoverNow s).1.getD 0)), (12, 4, signed 32 s.tim.soft), (16, 4, s.tim.samples.length)] ++
    (List.range 16).flatMap (slotStatus s)

/-- TIMING_CONTROL STATUS (R218, R335). -/
def execTimingStatus (c : CmdEntry) (s : State) : Host.Outcome State Fault Refusal :=
  finish s (runCmd 0x41 (arg c 0 1 == 0) c (timingChecks s c false false false)
    (fun tok s =>
      if c.len = 24 then withWrite tok (descAt c 8) (· == 288) (timStatus s) (timOk tok) s else timOk tok s) s)

/-- An action that names a slot (R218): BAD_ARGUMENT where the slot has KIND 00 or PRIORITY 0. -/
def onSlot (c : CmdEntry) (tok : CmdTok) (act : State → State) (s : State) : State :=
  let r := slotRec s (arg c 1 1)
  if rKind r = 0 ∨ rPriority r = 0 then refuse tok stBadArgument [] s else timOk tok (act s)

/-- TIMING_CONTROL LOCKOUT (R218). -/
def execTimingLockout (c : CmdEntry) (s : State) : Host.Outcome State Fault Refusal :=
  finish s (runCmd 0x41 (arg c 0 1 == 1) c (timingChecks s c true false true)
    (fun tok => onSlot c tok fun s =>
      configRecord { s with cfg := { s.cfg with lockouts := sortNat (s.cfg.lockouts ++ [arg c 1 1]) } }) s)

/-- TIMING_CONTROL CLEAR_LOCKOUT (R218). -/
def execTimingClearLockout (c : CmdEntry) (s : State) : Host.Outcome State Fault Refusal :=
  finish s (runCmd 0x41 (arg c 0 1 == 2) c (timingChecks s c true false true)
    (fun tok => onSlot c tok fun s =>
      configRecord { s with cfg := { s.cfg with lockouts := s.cfg.lockouts.filter (· != arg c 1 1) } }) s)

/-- TIMING_CONTROL FORCE (R218): the forced slot, replacing any other. -/
def execTimingForce (c : CmdEntry) (s : State) : Host.Outcome State Fault Refusal :=
  finish s (runCmd 0x41 (arg c 0 1 == 3) c (timingChecks s c true false true)
    (fun tok => onSlot c tok fun s =>
      configRecord { s with cfg := { s.cfg with forcedSlot := some (arg c 1 1) } }) s)

/-- TIMING_CONTROL CLEAR_FORCE (R218): the named slot is no longer the forced one. -/
def execTimingClearForce (c : CmdEntry) (s : State) : Host.Outcome State Fault Refusal :=
  finish s (runCmd 0x41 (arg c 0 1 == 4) c (timingChecks s c true false true)
    (fun tok => onSlot c tok fun s =>
      configRecord { s with cfg := { s.cfg with
        forcedSlot := if s.cfg.forcedSlot = some (arg c 1 1) then none else s.cfg.forcedSlot } }) s)

/-- End a running WTR (R213). -/
def clearWtr (i : Nat) (s : State) : State :=
  let x := slotSt s i
  if x.wtr.isSome then putSlotSt i { x with wtr := none, failed := false } s else s

/-- TIMING_CONTROL CLEAR_WTR (R213). -/
def execClearWtr (c : CmdEntry) (s : State) : Host.Outcome State Fault Refusal :=
  finish s (runCmd 0x41 (arg c 0 1 == 5) c (timingChecks s c true false false)
    (fun tok => onSlot c tok (clearWtr (arg c 1 1))) s)

/-- TIMING_CONTROL HISTORY_CLEAR (R226). -/
def execHistoryClear (c : CmdEntry) (s : State) : Host.Outcome State Fault Refusal :=
  finish s (runCmd 0x41 (arg c 0 1 == 6) c (timingChecks s c false false false)
    (fun tok s => timOk tok { s with tim := { s.tim with history := 0 } }) s)

/-- The slot in use is given up by a force or SOFT (R218, R225). -/
def dropRef (s : State) : State :=
  let s := stopTracking s
  { s with tim := { s.tim with use := none, switching := none, resume := false, heldQl := none } }

/-- TIMING_CONTROL FORCE_HOLDOVER (R218): refused without a valid holdover value and in SOFT. -/
def execForceHoldover (c : CmdEntry) (s : State) : Host.Outcome State Fault Refusal :=
  finish s (runCmd 0x41 (arg c 0 1 == 7) c
    (timingChecks s c false (decide (s.tim.dpll = 4) || (holdoverNow s).1.isNone) true)
    (fun tok s =>
      let s := dropRef { s with cfg := { s.cfg with forceHold := true, forceFree := false } }
      timOk tok (configRecord (if s.tim.dpll = 3 then s else toHoldover s))) s)

/-- TIMING_CONTROL FORCE_FREE_RUN (R218): refused in SOFT. -/
def execForceFreeRun (c : CmdEntry) (s : State) : Host.Outcome State Fault Refusal :=
  finish s (runCmd 0x41 (arg c 0 1 == 8) c (timingChecks s c false (decide (s.tim.dpll = 4)) true)
    (fun tok s =>
      let s := dropRef { s with cfg := { s.cfg with forceHold := false, forceFree := true } }
      timOk tok (configRecord (if s.tim.dpll = 0 then s else toFreeRun s))) s)

/-- TIMING_CONTROL FORCE_CLEAR (R218): refused where neither force stands. -/
def execForceClear (c : CmdEntry) (s : State) : Host.Outcome State Fault Refusal :=
  finish s (runCmd 0x41 (arg c 0 1 == 9) c (timingChecks s c false (!s.cfg.forceHold && !s.cfg.forceFree) true)
    (fun tok s =>
      timOk tok (configRecord { s with cfg := { s.cfg with forceHold := false, forceFree := false } })) s)

/-- TIMING_CONTROL SOFT_ENTER (R225): the loop opens at the present frequency, and selection goes on with the slot in use. -/
def execSoftEnter (c : CmdEntry) (s : State) : Host.Outcome State Fault Refusal :=
  finish s (runCmd 0x41 (arg c 0 1 == 10) c (timingChecks s c false (decide (s.tim.dpll = 4)) false)
    (fun tok s =>
      let s := stopTracking s
      timOk tok (setDpll 4 { s with tim := { s.tim with
        switching := none, resume := false, heldQl := none, soft := s.tim.freq, target := s.tim.freq, softExit := false } })) s)

/-- The signed frequency word of ARGS bytes 4 to 7 (R225). -/
def softArg (c : CmdEntry) : Int := (BitVec.ofNat 32 (arg c 4 4)).toInt

/-- TIMING_CONTROL SOFT_WORD against R35: SOFT, and a word within ±20 ppm. -/
def softWordChecks (s : State) (c : CmdEntry) : Checks :=
  let k := timingChecks s c false (decide (s.tim.dpll ≠ 4)) false
  { k with argsOk := k.argsOk && decide ((softArg c).natAbs ≤ 20000000) }

/-- TIMING_CONTROL SOFT_WORD (R225): within ±20 ppm; the output ramps to it. -/
def execSoftWord (c : CmdEntry) (s : State) : Host.Outcome State Fault Refusal :=
  finish s (runCmd 0x41 (arg c 0 1 == 11) c (softWordChecks s c)
    (fun tok s => timOk tok { s with tim := { s.tim with soft := softArg c, target := softArg c } }) s)

/-- TIMING_CONTROL SOFT_EXIT (R225): the next tick decides. -/
def execSoftExit (c : CmdEntry) (s : State) : Host.Outcome State Fault Refusal :=
  finish s (runCmd 0x41 (arg c 0 1 == 12) c (timingChecks s c false (decide (s.tim.dpll ≠ 4)) false)
    (fun tok s => timOk tok { s with tim := { s.tim with softExit := true } }) s)

/-- Phase that the output may move in a frame, in 0.1 ps (R223): SLOPE_LIMIT, in 0.1 µs/s, is 125 of them; none where it is 0 or
the slot in use is MATE. -/
def slopeBound (s : State) : Option Nat :=
  let lim := fld s.tim.block 32 16
  if lim = 0 ∨ s.tim.bandwidth = some 60000 then none else some (125 * lim)

/-- The part of a phase difference that a loop absorbs in a frame: 2π times its bandwidth in mHz, 6.3 µs/s of 1 µs at 1 Hz (R223),
within a tenth, for R223 says about (DESIGN CHOICE, log 159); at least 0.1 ps, and never beyond the difference. -/
def loopBound (bw diff : Nat) : Nat × Nat :=
  let n := diff * bw * 785398 / 1000000000000
  (min diff (max 1 (n * 9 / 10)), min diff (max 1 (n * 11 / 10 + 1)))

/-- The loop absorbs phase (R222, R223): at its own bandwidth, within the slope limiter; the rest is absorbed later. -/
def phaseFrame (s : State) : State :=
  if !s.tim.tracking ∨ s.tim.phaseDiff = 0 then s else
  let bw := s.tim.bandwidth.getD 0
  let r := loopBound bw s.tim.phaseDiff.natAbs
  let n : Int := max (r.1 : Int) (min (r.2 : Int) (Config.loopStep bw s.tim.phaseDiff))
  let d := if 0 < s.tim.phaseDiff then n else -n
  let m := match slopeBound s with | some b => max (-(b : Int)) (min (b : Int) d) | none => d
  { s with tim := { s.tim with phase := s.tim.phase + m, phaseDiff := s.tim.phaseDiff - m } }

/-- The ramp of 1 ppm per second in a frame: 125 units of 0.001 ppb (R218, R225). -/
def rampFrame (s : State) : State :=
  if s.tim.tracking ∨ s.tim.freq = s.tim.target then s else
  let d := s.tim.target - s.tim.freq
  let f := if d.natAbs ≤ 125 then s.tim.target else if 0 < d then s.tim.freq + 125 else s.tim.freq - 125
  { s with tim := { s.tim with freq := f } }

end Sys2Proof.Machine
end

