-- ==== Sys2Proof/Machine/Effects.lean ====
section
/-! DEFINITION. What a configuration change does when it takes effect (R190, R193, R323, R341): the remap versions of
linear groups and rings (R194 to R201), external commands and distrust (R182, R192), lanes and ports, and the audit
entry and journal record that each leaves (R387, R431). -/
namespace Sys2Proof.Machine

/-- A remap entry (R194). -/
def remapEntry (inFp inS inAct egFp egS egAct : Nat) : Word64 :=
  BitVec.ofNat 64 (inFp + 256 * inS + 0x10000 * inAct + 0x100000000 * egFp + 0x10000000000 * egS +
    0x1000000000000 * egAct)

/-- Write the 192 entries of a port into a table of versions. -/
def putVersion (m : SMap Word64) (p : Nat) (f : Nat → Word64) : SMap Word64 :=
  (List.range 192).foldl (fun m sl => tset (identityRemap p sl) m (192 * p + sl) (f sl)) m

/-- The normal version of a slot. -/
def normalAt (s : State) (p sl : Nat) : Word64 := tget (identityRemap p sl) s.cfg.remap (192 * p + sl)

/-- Return ports to their normal versions (R196, R333). -/
def toNormal (ps : List Nat) (s : State) : State :=
  { s with prot := { s.prot with prot := ps.foldl (fun m p => tset false m p false) s.prot.prot } }

/-- A port applies a protect version (R196). -/
def toProtect (p : Nat) (f : Nat → Word64) (s : State) : State :=
  { s with prot := { s.prot with prot := tset false s.prot.prot p true, remapP := putVersion s.prot.remapP p f } }

/-- Where the versions in force have changed, in frame f (R196): the lane-side egress slots with another source, and the
egress slots whose leg takes an ingress GS with another lane-side source, carry one NDF. -/
def remapMoves (f : FN) (was s : State) : State :=
  if was.cfg.remap = s.cfg.remap ∧ was.prot.prot = s.prot.prot ∧ was.prot.remapP = s.prot.remapP ∧
      was.cfg.rings = s.cfg.rings ∧ was.prot.rings = s.prot.rings then s
  else
    let differs := fun (lo g : Nat) => fld (remapAt was (g / 192) (g % 192)) lo 18 != fld (remapAt s (g / 192) (g % 192)) lo 18
    let eg := (s.cfg.ports.flatMap fun x => (List.range 192).map (192 * x.1 + ·)).filter (differs 32)
    let ho := s.page.live.ho.filter fun x =>
      headOf s.page.live x.1 == x.1 && deliveredHo s x.1 != noSrc && differs 0 (deliveredHo s x.1)
    let keys := eg.map laneKey ++ ho.map fun x => selKey .ho x.1
    let s := { s with prot := { s.prot with moved := keys.foldl (fun m k => tinsert m k f) s.prot.moved } }
    (eg ++ ho.map (·.1)).foldl (fun s g => bump (64 + g / 3072) 3 1 s) s

/-- Ports of a linear group: protection first (R197). -/
def linearPorts (c : Cfg) (g : LinearCfg) : List Nat := (g.prot :: g.work).map (lanePort c)

/-- The normal versions that the module writes for the ports of a linear group (R198). -/
def writeLinearNormal (g : LinearCfg) (s : State) : State :=
  let p := lanePort s.cfg g.prot
  let w := lanePort s.cfg (g.work.headD 0)
  let m := g.work.foldl (fun m l => putVersion m (lanePort s.cfg l) (identityRemap (lanePort s.cfg l))) s.cfg.remap
  let m := putVersion m p fun sl =>
    if !g.oneToN then remapEntry p sl 0 w sl 0
    else if g.extra then identityRemap p sl
    else remapEntry p sl 2 p sl 3
  { s with cfg := { s.cfg with remap := m } }

/-- The remap versions of a linear group while the selector takes channel `st` from protection and, in 1:N, channel `br` is
bridged onto it, 0 for none (R198). -/
def applyLinear (g : LinearCfg) (st br : Nat) (s : State) : State :=
  let s := toNormal (linearPorts s.cfg g) s
  let p := lanePort s.cfg g.prot
  let work := fun (i : Nat) => lanePort s.cfg (g.work.getD (i - 1) 0)
  let s := if st = 0 then s else toProtect (work st) (fun sl => remapEntry p sl 0 (work st) sl 0) s
  if g.oneToN ∧ (st ≠ 0 ∨ br ≠ 0) then
    toProtect p (fun sl =>
      let n := normalAt s p sl
      let e := if st = 0 then n else putIn n p sl 1
      if br = 0 then e else putEg e (work br) sl 0) s
  else s

/-- Source node of the K bytes accepted on a lane: K2 bits 1 to 4 of G.841 (PRESUMED). -/
def kNode (s : State) (l : Nat) : Nat := (tget {} s.prot.kb l).accepted.toNat / 2 % 16

/-- Nodes strictly between this one and the far switching node, going over the broken side (R201): the map is taken in
eastward order (PRESUMED). -/
def cutNodes (r : RingCfg) (far : Nat) (eastBroken : Bool) : List Nat :=
  let order := if eastBroken then r.map else r.map.reverse
  let after := (order ++ order).dropWhile (· != r.node) |>.drop 1
  if r.map.contains far then (after.takeWhile (· != far)).take r.map.length else []

/-- A working slot of a broken side is squelched (R199, R201): its entry names a node cut off, or names this node as its
own far end. -/
def squelched (s : State) (r : RingCfg) (far : Nat) (east : Bool) (sl : Nat) : Bool :=
  let port := lanePort s.cfg (if east then r.east else r.west)
  let head := headOf s.page.live (gsOf port sl) % 192
  let off := (if east then 0 else 192) + 2 * head
  let a := (byteAt r.squelch off).toNat
  let b := (byteAt r.squelch (off + 1)).toNat
  let cut := cutNodes r far east
  (decide (a ≠ 0xFF) && cut.contains a) || (decide (b ≠ 0xFF) && cut.contains b) ||
    (decide (a = r.node) && decide (b = r.node))

/-- The two ports of a ring in SWITCH for the span of port `a`, `b` being the other, with far switching node `far` (R200, R201). -/
def applySpan (r : RingCfg) (far : Nat) (east : Bool) (s : State) : State :=
  let a := lanePort s.cfg (if east then r.east else r.west)
  let b := lanePort s.cfg (if east then r.west else r.east)
  let h := ringH s r
  let sq := squelched s r far east
  let nA := normalAt s a
  let nB := normalAt s b
  let s := toProtect a (fun sl =>
    if sl < h then (if sq sl then putIn (nA sl) a sl 1 else putIn (nA sl) b (sl + h) 0)
    else if sl < 2 * h then putEg (nA sl) a sl 3 else nA sl) s
  toProtect b (fun sl =>
    if h ≤ sl ∧ sl < 2 * h then
      putIn (if sq (sl - h) then putEg (nB sl) b sl 2 else putEg (nB sl) a (sl - h) 0) b sl 1
    else nB sl) s

/-- The remap versions of a ring in a state of R200: 0 IDLE, 1 SWITCH_E, 2 SWITCH_W, 3 SWITCH_EW, 4 PASS; `br` names the far
switching node of a span. -/
def applyRing (r : RingCfg) (st br : Nat) (s : State) : State :=
  let e := lanePort s.cfg r.east
  let w := lanePort s.cfg r.west
  let h := ringH s r
  let nE := normalAt s e
  let nW := normalAt s w
  match st with
  | 0 => toNormal [e, w] s
  | 1 => applySpan r (br - 1) true s
  | 2 => applySpan r (br - 1) false s
  | 3 =>
    let f := fun (p : Nat) (n : Nat → Word64) (sl : Nat) => if sl < h then putIn (n sl) p sl 1 else n sl
    toProtect w (f w nW) (toProtect e (f e nE) s)
  | _ =>
    let f := fun (p q : Nat) (n : Nat → Word64) (sl : Nat) =>
      if h ≤ sl ∧ sl < 2 * h then putEg (putIn (n sl) p sl 1) q sl 1 else n sl
    toProtect w (f w e nW) (toProtect e (f e w nE) s)

/-- Protocol state of a linear group or ring. -/
def apsOf (s : State) (ring : Bool) (g : Nat) : ApsState := tget {} (if ring then s.prot.rings else s.prot.linear) g

/-- Replace it. -/
def putAps (ring : Bool) (g : Nat) (a : ApsState) (s : State) : State :=
  if ring then { s with prot := { s.prot with rings := tset {} s.prot.rings g a } }
  else { s with prot := { s.prot with linear := tset {} s.prot.linear g a } }

/-- Lanes on which a group or ring sends K bytes. -/
def apsLanes (s : State) (ring : Bool) (g : Nat) : List Nat :=
  if ring then (match tfind s.cfg.rings g with | some r => [r.east, r.west] | none => [])
  else match tfind s.cfg.linear g with | some l => [l.prot] | none => []

/-- Put the versions of a group or ring in a state, with its bridge, in force. -/
def applyAps (ring : Bool) (g st br : Nat) (s : State) : State :=
  if ring then (match tfind s.cfg.rings g with | some r => applyRing r st br s | none => s)
  else match tfind s.cfg.linear g with | some l => applyLinear l st br s | none => s

-- Distrust (R182).

/-- Distrust counter of a lane. -/
def distrustOf (s : State) (l : Nat) : Distrust := tget {} s.prot.distrust l

/-- Replace it. -/
def putDistrust (l : Nat) (d : Distrust) (s : State) : State :=
  { s with prot := { s.prot with distrust := tset {} s.prot.distrust l d } }

/-- A message joins those that wait for transmission on a VBL lane (R144). -/
def queueVbl (l : Nat) (type : Byte) (payload : Bytes) (s : State) : State :=
  { s with lane := { s.lane with txq := s.lane.txq ++ [(l, type, payload)] } }

/-- DISTRUST or TRUST to the card (R145). -/
def sendTrust (l : Nat) (on : Bool) (fn : FN) (s : State) : State := queueVbl l (if on then 1 else 2) (toBE 6 fn.toNat) s

/-- A lane becomes distrusted, or trusted again, which restarts the count (R182). -/
def setDistrust (l : Nat) (on forced : Bool) (fn : FN) (s : State) : State :=
  let d := distrustOf s l
  if d.on = on then putDistrust l { d with forced := forced } s
  else
    let s := putDistrust l { d with
      on := on, forced := forced, quiet := 0, since := fn, flips := if on then d.flips else 0 } s
    let s := putDefect 7 l bDistrust on s
    raise gProt (if on then 2 else 3) (protNote (if on then 2 else 3) 3 0 0 l (sendTrust l on fn s))

-- Audit entries and records of an effect.

/-- A forced distrust that the configuration holds is in force again on a lane that has started afresh (R182, R192): it holds until
TRUST. -/
def holdDistrust (l : Nat) (s : State) : State :=
  if (extHeld s (extKey (.lane l) 0)).isNone then s
  else
    let s := putDistrust l { distrustOf s l with on := true, forced := true, since := s.clk.fn } s
    sendTrust l true s.clk.fn (putDefect 7 l bDistrust true s)

/-- Every forced distrust held is in force, and the ports of every group and ring apply the versions of its state, after a
configuration has been put in place whole (R182, R196). -/
def renewProtection (s : State) : State :=
  let s := (List.range 128).foldl (fun s l => holdDistrust l s) { s with prot := { s.prot with
    prot := [], remapP := [],
    linear := s.prot.linear.filter fun x => (tfind s.cfg.linear x.1).isSome,
    rings := s.prot.rings.filter fun x => (tfind s.cfg.rings x.1).isSome } }
  let s := s.cfg.linear.foldl (fun s x => applyLinear x.2 (apsOf s false x.1).st (apsOf s false x.1).br s) s
  s.cfg.rings.foldl (fun s x => applyRing x.2 (apsOf s true x.1).st (apsOf s true x.1).br s) s

/-- The member whose host issued a mirrored change (R271, R388): the Bellwether of a group, else the mate. -/
def issuer (s : State) (own : Bool) : Nat × Bool :=
  if own then (ownSlice s, ownUnit s)
  else match s.cfg.group, s.grp.bell with
    | some _, some m => (m / 2, decide (m % 2 = 1))
    | _, _ => (ownSlice s, !ownUnit s)

/-- CONFIG_EPOCH rises with a mirrored change (R271). -/
def raiseEpoch (s : State) : State :=
  if s.mode.mode = .active ∨ s.mode.mode = .standby ∨ s.mode.mode = .isolated then
    { s with cfg := { s.cfg with epoch := s.cfg.epoch + 1 } }
  else s

/-- A configuration change has taken effect (R271, R387, R431): KIND 6. -/
def effectDone (own : Bool) (opcode : Byte) (s : State) : State :=
  let s := raiseEpoch s
  let who := issuer s own
  let a := auditOf s 6 (if own then 0 else 1) who.1 who.2 0 0 s.clk.fn opcode s.cfg.epoch 0
  recordDue .config [a] (auditAdd a s)

/-- An external command has been accepted or cleared (R387, R431): KIND 7. -/
def extDone (own : Bool) (kind idx : Nat) (req : Byte) (s : State) : State :=
  let s := raiseEpoch s
  let who := issuer s own
  let a := auditOf s 7 (if own then 0 else 1) who.1 who.2 0 0 s.clk.fn 0x31 0
    (BitVec.ofNat 64 (idx + 0x100000000 * req.toNat + 0x10000000000 * kind))
  recordDue .config [a] (auditAdd a s)

/-- Object kind and index of R333. -/
def objKind : ProtObj → Nat × Nat
  | .sel _ i => (0, i) | .linear g => (1, g) | .ring r => (2, r) | .lane l => (3, l)

/-- An external command takes effect at F (R192, R193). CLEAR of an object that holds none changes nothing. -/
def applyExt (own : Bool) (o : ProtObj) (req : Byte) (chan : Nat) (s : State) : State :=
  let k := extKey o chan
  let ki := objKind o
  if req = 0xFF then s
  else if req = 0 ∨ req = 0x11 then
    let held := (extHeld s k).isSome
    let s := { s with cfg := { s.cfg with ext := terase s.cfg.ext k } }
    let s := match o with
      | .lane l => (if (distrustOf s l).on then setDistrust l false false s.clk.fn s
          else putDistrust l { distrustOf s l with forced := false, flips := 0, quiet := 0 } s)
      | .linear _ => s
      | .ring _ => s
      | .sel _ _ => s
    if held ∨ req = 0x11 then extDone own ki.1 ki.2 req s else s
  else
    let s := { s with cfg := { s.cfg with ext := tinsert s.cfg.ext k { req := req, chan := chan } } }
    let s := match o with
      | .lane l => setDistrust l true true s.clk.fn s
      | .linear _ => s
      | .ring _ => s
      | .sel _ _ => s
    extDone own ki.1 ki.2 req s

-- Lanes and ports.

/-- The receivers of a lane that are objects: the lane and the ODU2 tributary ports bound to it (R154, R176). -/
def laneObjs (s : State) (l : Nat) : List Nat := l :: (portsOfLane s.cfg l).map (256 + ·)

/-- A lane that changes mode starts with an idle receiver: alignment, defects, bitmap, filter and messages of the old
line are gone; a forced distrust stays. -/
def restartLane (l : Nat) (s : State) : State :=
  let objs := laneObjs s l
  let s := objs.foldl (fun s o => [0, 1, 5, 6, 7].foldl (fun s c =>
    let k := objKey c o
    putSet k 0 { s with dft := { s.dft with ber := terase s.dft.ber k, traces := terase s.dft.traces k } }) s) s
  let logical := (List.range 20).map (1024 + 32 * l + ·)
  holdDistrust l { s with
    lane := { s.lane with
      rx := (objs ++ logical).foldl (fun m o => tset {} m o { since := s.clk.fn }) s.lane.rx,
      llm := s.lane.llm.filter fun x => x.1 / 32 != l, skew := terase s.lane.skew l,
      mfas := [2 * l, 2 * l + 1].foldl (fun m k => tset {} m k { since := s.clk.fn }) s.lane.mfas,
      vbl := terase s.lane.vbl l,
      txq := s.lane.txq.filter fun x => x.1 != l, txSeq := terase s.lane.txSeq l },
    prot := { s.prot with
      distrust := terase s.prot.distrust l, kb := terase s.prot.kb l,
      bitmap := s.prot.bitmap.filter fun x => x.1 / 384 != l, bitRun := s.prot.bitRun.filter fun x => x.1 / 384 != l,
      bitFresh := s.prot.bitFresh.filter fun x => x.1 / 384 != l } }

/-- The configuration of a lane takes effect (R130, R323). -/
def applyLane (l : Nat) (c : LaneCfg) (s : State) : State :=
  let moved := decide (c.mode ≠ (laneCfg s.cfg l).mode)
  let s := { s with cfg := { s.cfg with lanes := tset LaneCfg.disabled s.cfg.lanes l c } }
  if moved then restartLane l s else evalTim 5 l (evalTim 0 l s)

/-- Bind an interface to its run of fabric ports (R39). -/
def applyBind (base l : Nat) (s : State) : State :=
  let n := portCount (laneMode s.cfg l)
  { s with cfg := { s.cfg with
    ports := (List.range n).foldl (fun m i => tset .unbound m (base + i) (.lane l base)) s.cfg.ports } }

/-- Release the ports of an interface, or a MONITOR port (R39). -/
def applyUnbind (fp : Nat) (s : State) : State :=
  { s with cfg := { s.cfg with
    ports := (portRun s.cfg fp).foldl (fun m p => tset .unbound m p .unbound) s.cfg.ports } }

/-- The default trace setting of a port. -/
def defaultTrace : TraceCfg := { long := false, pfx := [] }

/-- A linear group takes effect (R197, R198): its normal versions, no channel switched. -/
def applyLinearCfg (g : Nat) (c : LinearCfg) (s : State) : State :=
  let s := match tfind s.cfg.linear g with | some o => toNormal (linearPorts s.cfg o) s | none => s
  let s := putAps false g {} { s with cfg := { s.cfg with linear := tinsert s.cfg.linear g c } }
  applyLinear c 0 0 (writeLinearNormal c s)

/-- A ring takes effect (R199): IDLE. -/
def applyRingCfg (r : Nat) (c : RingCfg) (s : State) : State :=
  let s := match tfind s.cfg.rings r with
    | some o => toNormal [lanePort s.cfg o.east, lanePort s.cfg o.west] s
    | none => s
  let s := putAps true r {} { s with cfg := { s.cfg with rings := tinsert s.cfg.rings r c } }
  applyRing c 0 0 s

/-- Delete a linear group or ring (R333): its ports return to their normal versions, its held command goes with it. -/
def applyDelete (ring : Bool) (g : Nat) (s : State) : State :=
  let lanes := apsLanes s ring g
  let ports := if ring then lanes.map (lanePort s.cfg)
    else match tfind s.cfg.linear g with | some l => linearPorts s.cfg l | none => []
  let s := putAps ring g {} (toNormal ports s)
  let gone := fun (m : SMap ExtHeld) (side : Nat) => terase m (extKey (if ring then .ring g else .linear g) side)
  { s with
    cfg := { s.cfg with
      linear := if ring then s.cfg.linear else terase s.cfg.linear g,
      rings := if ring then terase s.cfg.rings g else s.cfg.rings, ext := gone (gone s.cfg.ext 0) 1 },
    prot := { s.prot with kb := lanes.foldl (fun m l => tset {} m l { tget {} m l with sent := 0 }) s.prot.kb } }

/-- The normal version of a port takes effect (R195). -/
def applyRemap (fp : Nat) (es : List Word64) (s : State) : State :=
  { s with cfg := { s.cfg with remap := putVersion s.cfg.remap fp fun sl => es.getD sl 0 } }

-- PRBS units (R395, R396).

/-- A PRBS unit takes its setting (R395, R397): a generator starts at the next commit boundary; an analyser seeds itself;
counts are cleared where asked. -/
def applyPrbs (u : Nat) (c : Option PrbsCfg) (clear : Bool) (s : State) : State :=
  let x := tget {} s.bel.prbs u
  let same := decide (x.cfg = c)
  let n : PrbsSt := {
    cfg := c, inSync := (if same then x.inSync else false), errors := if clear then 0 else x.errors,
    start := if same then x.start else fnOf (s.clk.fn.toNat / 48 + 1) }
  { s with bel := { s.bel with prbs := tset {} s.bel.prbs u n } }

/-- A change takes effect (R190, R193, R323), with the audit entry and record it leaves. A step of the TOD counter is made by
the counter itself at its frame start (R341). -/
def applyEffect (own : Bool) (e : Effect) (s : State) : State :=
  match e with
  | .lane l c => effectDone own 0x10 (applyLane l c s)
  | .bind base l => effectDone own 0x11 (applyBind base l s)
  | .monitor fp => effectDone own 0x11 { s with cfg := { s.cfg with ports := tset .unbound s.cfg.ports fp .monitor } }
  | .unbind fp => effectDone own 0x11 (applyUnbind fp s)
  | .trace fp t =>
    effectDone own 0x11 { s with cfg := { s.cfg with traces := tset defaultTrace s.cfg.traces fp t } }
  | .linear g c => effectDone own 0x30 (remapMoves s.clk.fn s (applyLinearCfg g c s))
  | .ring r c => effectDone own 0x30 (remapMoves s.clk.fn s (applyRingCfg r c s))
  | .remap fp es => effectDone own 0x30 (remapMoves s.clk.fn s (applyRemap fp es s))
  | .distrust l lim d =>
    effectDone own 0x30 { s with cfg := { s.cfg with distrust := tset (1024, 60) s.cfg.distrust l (lim, d) } }
  | .delLinear g => effectDone own 0x30 (remapMoves s.clk.fn s (applyDelete false g s))
  | .delRing r => effectDone own 0x30 (remapMoves s.clk.fn s (applyDelete true r s))
  | .profile p r =>
    effectDone own 0x32 { s with cfg := { s.cfg with profiles := tset defaultProfile s.cfg.profiles p r } }
  | .ext o req ch => applyExt own o req ch s
  | .prbs u c clear => applyPrbs u c clear s
  | .tod _ _ => s

/-- Schedule an effect for a frame, with the completion it carries (R319). -/
def schedule (due : FN) (tok : Option CmdTok) (own : Bool) (e : Effect) (r : Word64) (s : State) : State :=
  { s with host := { s.host with
    sched := s.host.sched ++ [{ due := due, tok := tok, own := own, effect := e, result := r, applied := false }] } }

/-- A command whose change takes effect at the earliest boundary that R80 permits, mirrored in ACTIVE (R190, R262). -/
def atBoundary (tok : CmdTok) (e : Effect) (s : State) : State :=
  let fn := fnOf (earliestBn s)
  mirrorConfig (schedule fn (some tok) true e (res [(0, 6, fn.toNat)]) s)

/-- A command that takes effect when executed in QUIET, SOLO and SERVICE, and at the earliest boundary in ACTIVE (R323). -/
def atOnceOrBoundary (tok : CmdTok) (e : Effect) (r : List Field) (s : State) : State :=
  if s.mode.mode = .active then
    mirrorConfig (schedule (fnOf (earliestBn s)) (some tok) true e (res r) s)
  else completeOk tok r (applyEffect true e s)

end Sys2Proof.Machine
end

