-- ==== Sys2Proof/Machine/Aps.lean ====
section
/-! DEFINITION. The K-byte filter (R166, R167) and the protocols that it feeds: linear APS and two-fibre rings (R196 to R204).
The spec names G.841 for the protocols and does not reproduce it: its codes, ranks and handshake are taken from that
standard (PRESUMED, entry 120). -/
namespace Sys2Proof.Machine

-- The filter.

/-- A lane in a SONET/SDH mode: it has K bytes of its own. -/
def isSonet (s : State) (l : Nat) : Bool := decide (l < 128) && decide (1 ≤ laneMode s.cfg l ∧ laneMode s.cfg l ≤ 4)

/-- A lane that carries K bytes: a SONET/SDH lane, or one whose OTN signal carries an OC-192 (R129, R197, R199). -/
def hasK (s : State) (l : Nat) : Bool := isSonet s l || (decide (l < 128) && decide (8 ≤ laneMode s.cfg l ∧ laneMode s.cfg l ≤ 0xD))

/-- K-byte filter of a lane. -/
def kbOf (s : State) (l : Nat) : KState := tget {} s.prot.kb l

/-- Replace it. -/
def putKb (l : Nat) (x : KState) (s : State) : State := { s with prot := { s.prot with kb := tset {} s.prot.kb l x } }

/-- The accepted changes of the last 8,000 frames (R166). -/
def recentChanges (s : State) (x : KState) : List FN := x.changes.filter fun f => decide ((s.clk.fn - f).toNat < 8000)

/-- A K value passes the filter (R166); the protocols act on it at the next frame start. -/
def kAccept (l : Nat) (k : BitVec 13) (s : State) : State :=
  let x := kbOf s l
  let old := recentChanges s x
  changeDefect 1 l bPsbf false (putKb l { x with
    accepted := k, got := true, psbf := false, lastFn := s.clk.fn,
    changes := if k = x.accepted then old else s.clk.fn :: old } s)

/-- KBYTE_ACCEPT: three identical consecutive frames. -/
def execKbyteAccept (lane : Nat) (k : BitVec 13) (s : State) : Host.Outcome State Fault Refusal :=
  finish s (if hasK s lane then kAccept lane k s else s)

/-- PSBF: no value accepted within 12 successive frames. -/
def psbfNow (l : Nat) (s : State) : State :=
  let x := kbOf s l
  if hasK s l ∧ !x.psbf ∧ 12 ≤ (s.clk.fn - x.lastFn).toNat then
    changeDefect 1 l bPsbf true (putKb l { x with psbf := true } s)
  else s

/-- PSBF. -/
def execPsbf (lane : Nat) (s : State) : Host.Outcome State Fault Refusal := finish s (psbfNow lane s)

/-- KSTORM: more than 16 accepted changes within 8,000 frames; it clears after 8,000 frames with no more than 2. -/
def kstormNow (l : Nat) (on : Bool) (s : State) : State :=
  let x := kbOf s l
  let n := (recentChanges s x).length
  let due := if on then decide (16 < n) else decide (n ≤ 2) && decide (8000 ≤ (s.clk.fn - x.stormFn).toNat)
  if hasK s l && due && (x.kstorm != on) then
    changeDefect 1 l bKstorm on (putKb l { x with kstorm := on, stormFn := s.clk.fn } s)
  else s

/-- KSTORM. -/
def execKstorm (lane : Nat) (on : Bool) (s : State) : Host.Outcome State Fault Refusal := finish s (kstormNow lane on s)

-- The requests of a group or ring.

/-- SF of a lane (R197): OOF is none of its conditions. -/
def laneSf (s : State) (l : Nat) : Bool :=
  let m := laneMode s.cfg l
  let w := defects s 0 l ||| defects s 1 l
  anyBit w [bLos, bLof, bAisL] || (bit w bTimS && aisOnTim s l) || bit (defects s 1 l) bSfL ||
    (decide (8 ≤ m ∧ m ≤ 0xB) && (otuAis s l || oduAis s l l || bit (defects s 5 l) 19 || bit (defects s 6 l) 21))

/-- SD of a lane (R197). -/
def laneSd (s : State) (l : Nat) : Bool :=
  bit (defects s 1 l) bSdL || bit (defects s 5 l) 18 || bit (defects s 6 l) 20

/-- The engine of a group or ring does not run, so its protocol is frozen and its ports keep their versions (R204, R370, R373). -/
def apsFrozen (s : State) (ring : Bool) (g : Nat) : Bool := !enginesServe s 0 ((apsLanes s ring g).headD 0)

/-- The protocol of a group or ring holds its state: PSBF or KSTORM stands on a lane whose K bytes it reads (R166, R203), or it is
frozen. -/
def apsHeld (s : State) (ring : Bool) (g : Nat) : Bool :=
  apsFrozen s ring g || (apsLanes s ring g).any fun l => (kbOf s l).psbf || (kbOf s l).kstorm

/-- A group or ring is configured. -/
def apsExists (s : State) (ring : Bool) (g : Nat) : Bool := !(apsLanes s ring g).isEmpty

/-- Ports of a group or ring. -/
def apsPorts (s : State) (ring : Bool) (g : Nat) : List Nat :=
  if ring then (apsLanes s true g).map (lanePort s.cfg)
  else match tfind s.cfg.linear g with | some c => linearPorts s.cfg c | none => []

/-- The conditions of one lane: keys 2 × channel for SF and one more for SD. -/
def condKeys (s : State) (sd : Bool) (i l : Nat) : List (Nat × Bool) := [(2 * i, laneSf s l), (2 * i + 1, sd && laneSd s l)]

/-- Conditions and since when they stand: the start of their hold-off. -/
def trackConds (now : FN) (ks : List (Nat × Bool)) (m : SMap FN) : SMap FN :=
  ks.foldl (fun m k =>
    if !k.2 then terase m k.1 else if (tfind m k.1).isSome then m else tinsert m k.1 now) m

/-- A condition has stood for the hold-off of 100 ms steps (R197, R202). -/
def heldOff (now : FN) (ho : Nat) (m : SMap FN) (k : Nat) : Bool :=
  match tfind m k with
  | some f => decide (800 * ho ≤ (now - f).toNat)
  | none => false

/-- WTR has not ended (R197, R199). -/
def wtrRuns (now : FN) (minutes : Nat) (w : Option FN) : Bool :=
  match w with
  | some f => decide ((now - f).toNat < 480000 * minutes)
  | none => false

/-- A request: its code in K1, and its channel or side. -/
structure ApsReq where
  code : Nat
  chan : Nat
  deriving DecidableEq, Repr

-- Linear groups.

/-- Rank of a request of a linear group: its code, but that SF on the protection lane stands above a forced switch. -/
def linearRank (r : ApsReq) : Nat := if r.code = 12 ∧ r.chan = 0 then 29 else 2 * r.code

/-- Codes that a linear protocol defines. -/
def linearDefined (code : Nat) : Bool := [0, 1, 2, 4, 6, 8, 10, 11, 12, 13, 14, 15].contains code

/-- The lane of a channel, 0 being protection. -/
def channelLane (c : LinearCfg) (i : Nat) : Nat := if i = 0 then c.prot else c.work.getD (i - 1) 0

/-- The request of a group above WTR: 15 lockout, 14 forced, 12 SF, 10 SD, 8 manual, each with its channel; the lowest channel
among equals. -/
def linearTop (c : LinearCfg) (m : SMap FN) (ext : Option ExtHeld) (now : FN) : Option ApsReq :=
  let req := match ext with | some x => x.req.toNat | none => 0
  let chan := match ext with | some x => if c.oneToN then x.chan else 1 | none => 0
  let first := fun (k : Nat) => ((List.range (c.work.length + 1)).drop 1).find? fun i => heldOff now c.holdOff m (2 * i + k)
  if req = 1 then some ⟨15, 0⟩
  else if heldOff now c.holdOff m 0 then some ⟨12, 0⟩
  else if req = 2 then some ⟨14, chan⟩
  else match first 0 with
    | some i => some ⟨12, i⟩
    | none =>
      if heldOff now c.holdOff m 1 then some ⟨10, 0⟩
      else match first 1 with
        | some i => some ⟨10, i⟩
        | none => if req = 3 then some ⟨8, chan⟩ else if req = 4 then some ⟨8, 0⟩ else none

/-- The local request of a group, and its WTR: 6 WTR once SF or SD ceases on the channel switched, 4 exercise, 1 do not
revert, 0 none. -/
def linearLocal (c : LinearCfg) (a : ApsState) (m : SMap FN) (ext : Option ExtHeld) (now : FN) : ApsReq × Option FN :=
  match linearTop c m ext now with
  | some r => (r, none)
  | none =>
    if c.revertive && wtrRuns now c.wtr a.wtr then (⟨6, a.chan⟩, a.wtr)
    else if c.revertive && a.wtr.isNone && decide (a.req = 12 ∨ a.req = 10) && decide (a.chan ≠ 0 ∧ a.st = a.chan) then
      (⟨6, a.chan⟩, some now)
    else match ext with
      | some x => if x.req = 5 then (⟨4, if c.oneToN then x.chan else 1⟩, none) else (⟨0, 0⟩, none)
      | none => (if !c.revertive && decide (a.st ≠ 0) then ⟨1, a.st⟩ else ⟨0, 0⟩, none)

/-- Fields of an accepted value: K1's request and channel, K2's channel and its fifth bit. -/
def kCode (k : BitVec 13) : Nat := fld k 9 4
def kChan (k : BitVec 13) : Nat := fld k 5 4
def kChan2 (k : BitVec 13) : Nat := fld k 1 4
def kFifth (k : BitVec 13) : Bool := bit k 0

/-- A channel number lies in a group: the null channel, one of its own, or extra traffic. -/
def channelOk (c : LinearCfg) (i : Nat) : Bool := decide (i ≤ c.work.length) || (decide (i = 15) && c.extra)

/-- The far end's request, none where it is not one of the group's or failure of protocol stands (R203). -/
def linearRemote (c : LinearCfg) (a : ApsState) (x : KState) : ApsReq :=
  if x.got && !a.fop && linearDefined (kCode x.accepted) && channelOk c (kChan x.accepted) then
    ⟨kCode x.accepted, kChan x.accepted⟩
  else ⟨0, 0⟩

/-- What K1 sends: in a bidirectional group a far request that outranks the local one is answered by reverse request (2). -/
def linearSends (c : LinearCfg) (own far : ApsReq) : ApsReq :=
  let wins := decide (linearRank own < linearRank far) || (decide (linearRank own = linearRank far) && decide (far.chan < own.chan))
  if c.bidir && decide (far.code ≠ 2) && wins then ⟨2, far.chan⟩ else own

/-- The channel that a request asks to be bridged, 0 for none. -/
def bridged (c : LinearCfg) (r : ApsReq) : Nat := if r.code = 0 ∨ c.work.length < r.chan then 0 else r.chan

/-- The channel that a request asks the selector for: an exercise asks for a bridge alone. -/
def asked (c : LinearCfg) (r : ApsReq) : Nat := if r.code = 4 then 0 else bridged c r

/-- What failure of protocol keeps where no request of this end stands (R203): a switch already decided on, nothing once this end's
own request has ceased, else the present one. -/
def fopKeeps (a : ApsState) : Nat := if a.wantFn.isSome then a.want else if 5 ≤ a.req then 0 else a.st

/-- The selector: a unidirectional 1+1 end acts on its own request, any other on the request in force, its own or the one it
answers, once K2 shows the channel bridged that K1 names. Under failure of protocol it acts on this end's requests alone, and
1:N still waits for the bridge (R203). -/
def linearSelects (c : LinearCfg) (a : ApsState) (own far sent : ApsReq) (x : KState) : Nat :=
  let lead := if sent.code = 2 then far else own
  if a.fop then
    if own.code = 0 ∨ own.code = 4 then fopKeeps a
    else if !c.oneToN ∨ asked c own = 0 ∨ asked c own = a.st then asked c own
    else if x.got ∧ kChan2 x.accepted = asked c own then asked c own else a.st
  else if !c.oneToN && !c.bidir then asked c own
  else if x.got ∧ kChan2 x.accepted = bridged c sent then asked c lead else 0

/-- The bridge follows the channel that the far end's K1 asks for. -/
def linearBridges (c : LinearCfg) (a : ApsState) (far : ApsReq) : Nat := if a.fop then a.br else bridged c far

/-- K1 and K2 sent: K2 bits 6 to 8 show the direction, 101 bidirectional and 100 unidirectional. -/
def linearWord (c : LinearCfg) (sent : ApsReq) (bridge : Nat) : Word16 :=
  BitVec.ofNat 16 (4096 * sent.code + 256 * sent.chan + 16 * bridge + 8 * nat01 c.oneToN + (if c.bidir then 5 else 4))

/-- The conditions of R203 for a linear group. -/
def linearBad (c : LinearCfg) (sent : ApsReq) (x : KState) : Bool :=
  x.got && ((c.bidir && decide (kChan2 x.accepted ≠ sent.chan)) || (kFifth x.accepted != c.oneToN) ||
    !linearDefined (kCode x.accepted) || !channelOk c (kChan x.accepted) || !channelOk c (kChan2 x.accepted))

-- Rings.

/-- The side opposite: 0 east, 1 west. -/
def otherSide (z : Nat) : Nat := 1 - z

/-- The lane of a side. -/
def sideLane (r : RingCfg) (z : Nat) : Nat := if z = 0 then r.east else r.west

/-- The adjacent node on a side: the map is taken in eastward order (PRESUMED). -/
def adjacent (r : RingCfg) (z : Nat) : Nat :=
  let i := r.map.idxOf r.node
  let n := max 1 r.map.length
  r.map.getD (if z = 0 then (i + 1) % n else (i + n - 1) % n) 0

/-- The local request of a side above WTR, `ext` being the command of its span: 15 lockout, 13 forced, 11 SF, 8 SD, 6 manual. -/
def ringTop (r : RingCfg) (m : SMap FN) (ext : Option ExtHeld) (now : FN) (z : Nat) : Nat :=
  let req := match ext with | some x => x.req.toNat | none => 0
  if req = 1 then 15
  else if req = 2 then 13
  else if heldOff now r.holdOff m (2 * z) then 11
  else if heldOff now r.holdOff m (2 * z + 1) then 8
  else if req = 3 then 6
  else 0

/-- The request that a side's accepted K bytes bring, with the side of the span it is for: a short path request is for the
span it comes over, a long path request for the other; reverse requests (1) ask for nothing. -/
def ringRemote (r : RingCfg) (a : ApsState) (x : KState) (z : Nat) : ApsReq :=
  let k := x.accepted
  if x.got && !a.fop && decide (kChan k = r.node) && decide (kCode k ≠ 1) && r.map.contains (kChan2 k) then
    ⟨kCode k, if kFifth k then otherSide z else z⟩
  else ⟨0, z⟩

/-- The long path request passing through from a side, 0 for none. -/
def ringPasses (r : RingCfg) (a : ApsState) (x : KState) : Nat :=
  let k := x.accepted
  if x.got && !a.fop && kFifth k && decide (kChan k ≠ r.node) && decide (5 ≤ kCode k) && decide (kCode k < 15) then kCode k else 0

/-- The two requests that may stand together: forced and SF of the ring. -/
def coexist (a b : Nat) : Bool := decide (a = 13 ∨ a = 11) && decide (b = 13 ∨ b = 11)

/-- The state of a node (R200) by the requests of its spans and those passing through: a lockout allows no switch. -/
def ringState (east west pass : Nat) : Nat :=
  if east = 15 ∨ west = 15 then 0
  else
    let top := max east west
    let e := decide (5 ≤ east) && (decide (west < east) || coexist east west)
    let w := decide (5 ≤ west) && (decide (east < west) || coexist east west)
    if top < pass then 4
    else if e && w then 3 else if e then 1 else if w then 2 else if 5 ≤ pass then 4 else 0

/-- K1 and K2 of a ring: status 010 bridged and switched, 000 idle. -/
def ringWord (code dst src : Nat) (long : Bool) (status : Nat) : Word16 :=
  BitVec.ofNat 16 (4096 * code + 256 * dst + 16 * src + 8 * nat01 long + status)

/-- What a side sends in a state: a switching node its request on both paths, the far node of a span a reverse request on the
short one; a passing node what the other side received. -/
def ringSends (r : RingCfg) (st : Nat) (own : Nat → Nat) (span : Nat → Nat) (got : Nat → BitVec 13) (z : Nat) : Word16 :=
  let o := otherSide z
  if st = 4 then BitVec.ofNat 16 (8 * (got o).toNat)
  else if st = 3 ∨ st = 1 + o then ringWord (span o) (adjacent r o) r.node true 2
  else if st = 1 + z then ringWord (if own z = span z then own z else 1) (adjacent r z) r.node false 2
  else ringWord (if own z = 15 ∨ own z = 3 then own z else 0) (adjacent r z) r.node false 0

/-- Codes that a two-fibre ring defines: its ring requests, and the lockout of a span. -/
def ringDefined (code : Nat) : Bool := [0, 1, 3, 5, 6, 8, 11, 13, 15].contains code

/-- The conditions of R203 for a ring: a node ID that the map does not hold, or a request code that the protocol does not define. -/
def ringBad (r : RingCfg) (x : KState) : Bool :=
  x.got && (!r.map.contains (kChan x.accepted) || !r.map.contains (kChan2 x.accepted) || !ringDefined (kCode x.accepted))

-- The protocols, frame by frame.

/-- The protocol decides on a selector and a bridge: what is not yet in force waits for its frame boundary, from the first decision
that is not in force on (R196, R202). -/
def decideWant (now : FN) (st br : Nat) (a : ApsState) : ApsState :=
  let inForce := decide ((st, br) = a.next.getD (a.st, a.br))
  { a with want := st, wantBr := br, wantFn := if inForce then none else a.wantFn.orElse fun _ => some now }

/-- How long the conditions of R203 have differed from what is declared. -/
def watchFop (now : FN) (bad : Bool) (a : ApsState) : ApsState :=
  { a with fopFn := if bad = a.fop then none else a.fopFn.orElse (fun _ => some now) }

/-- Send K bytes on a lane. -/
def sendK (l : Nat) (w : Word16) (s : State) : State := putKb l { kbOf s l with sent := w } s

/-- A manual switch or exercise that a request of higher priority removes (R192): PROT event CMD_REMOVED, and its audit
entry and record. -/
def outrankExt (ring : Bool) (g side : Nat) (gone : Bool) (st : Nat) (s : State) : State :=
  let k := extKey (if ring then .ring g else .linear g) side
  match extHeld s k with
  | none => s
  | some x =>
    if !gone ∨ x.req.toNat < 3 then s
    else
      let kind := if ring then 2 else 1
      let s := { s with cfg := { s.cfg with ext := terase s.cfg.ext k } }
      let s := raise gProt 5 (protNote 6 kind st x.req.toNat g s)
      let a := auditOf s 7 2 (ownSlice s) (ownUnit s) 0 0 s.clk.fn 0x31 0
        (BitVec.ofNat 64 (g + 0x100000000 * x.req.toNat + 0x10000000000 * kind))
      recordDue .config [a] (auditAdd a s)

/-- The rank of the command a linear group holds. -/
def linearExtRank (x : ExtHeld) : Nat := if x.req = 5 then 8 else 16

/-- One frame of a linear group (R198). -/
def linearStep (s : State) (x : Nat × LinearCfg) : State :=
  let (g, c) := x
  if apsHeld s false g then s else
  let a := apsOf s false g
  let k := kbOf s c.prot
  let now := s.clk.fn
  let ext := extHeld s (extKey (.linear g) 0)
  let m := trackConds now ((List.range (c.work.length + 1)).flatMap fun i => condKeys s c.sdEn i (channelLane c i)) a.cond
  let (own, wtr) := linearLocal c a m ext now
  let far := linearRemote c a k
  let sent := linearSends c own far
  let br := if c.oneToN then linearBridges c a far else 0
  let sel := linearSelects c a own far sent k
  let a := { a with cond := m, req := own.code, chan := own.chan, wtr := wtr }
  let a := watchFop now (linearBad c sent k) (decideWant now sel br a)
  let top := max (linearRank own) (if c.bidir then linearRank far else 0)
  let gone := match ext with | some e => decide (linearExtRank e < top) | none => false
  outrankExt false g 0 gone a.st
    (sendK c.prot (linearWord c sent (if c.oneToN then br else bridged c far)) (putAps false g a s))

/-- One frame of a ring (R199 to R201). -/
def ringStep (s : State) (x : Nat × RingCfg) : State :=
  let (g, r) := x
  if apsHeld s true g then s else
  let a := apsOf s true g
  let now := s.clk.fn
  let ext := fun (z : Nat) => extHeld s (extKey (.ring g) z)
  let m := trackConds now ([0, 1].flatMap fun z => condKeys s true z (sideLane r z)) a.cond
  let top := fun (z : Nat) => ringTop r m (ext z) now z
  let idle := decide (top 0 = 0 ∧ top 1 = 0)
  let wtr := if !idle then none
    else if wtrRuns now r.wtr a.wtr then a.wtr
    else if a.wtr.isNone && decide (a.req = 11 ∨ a.req = 8) && decide (a.st ≠ 0) then some now else none
  let exer := fun (z : Nat) => match ext z with | some e => decide (e.req = 5) | none => false
  let own := fun (z : Nat) => if top z ≠ 0 then top z else if wtr.isSome ∧ a.chan = z then 5 else if exer z then 3 else 0
  let kb := fun (z : Nat) => kbOf s (sideLane r z)
  let far := [ringRemote r a (kb 0) 0, ringRemote r a (kb 1) 1]
  let span := fun (z : Nat) => max (own z) ((far.filter fun q => q.chan = z).foldl (fun n q => max n q.code) 0)
  let pass := max (ringPasses r a (kb 0)) (ringPasses r a (kb 1))
  let st := if a.fop ∧ own 0 < 5 ∧ own 1 < 5 then fopKeeps a else ringState (span 0) (span 1) pass
  let br := if a.fop ∧ st = a.st then a.br
    else if st = 1 then 1 + kNode s r.west else if st = 2 then 1 + kNode s r.east else 0
  let lead := if top 1 < top 0 then 0 else if top 0 < top 1 then 1 else if idle then a.chan else 0
  let req := if wtr.isSome then a.req else max (top 0) (top 1)
  let a := { a with cond := m, req := req, chan := lead, wtr := wtr }
  let a := watchFop now (ringBad r (kb 0) || ringBad r (kb 1)) (decideWant now st br a)
  let gone := fun (z : Nat) => match ext z with
    | some e => decide ((if e.req = 5 then 3 else 6) < max pass (max (span 0) (span 1)))
    | none => false
  let got := fun (z : Nat) => (kb z).accepted
  let s := [0, 1].foldl (fun s z => sendK (sideLane r z) (ringSends r st own span got z) s) (putAps true g a s)
  outrankExt true g 1 (gone 1) a.st (outrankExt true g 0 (gone 0) a.st s)

/-- The protocol's decision is put in force (R196): between two switched states the ports apply their normal versions for one
frame; `f` is the first frame with the new versions. -/
def apsMove (f : FN) (ring : Bool) (g : Nat) (s : State) : State :=
  let a := apsOf s ring g
  let w := (a.want, a.wantBr)
  let a' := { a with wantFn := none }
  let t :=
    if a.next.isSome then putAps ring g { a' with next := if w = (0, 0) then none else some w } s
    else if (a.st, a.br) ≠ (0, 0) ∧ w ≠ (0, 0) then
      toNormal (apsPorts s ring g) (putAps ring g { a' with st := 0, br := 0, next := some w, nextFn := f } s)
    else applyAps ring g w.1 w.2 (putAps ring g { a' with st := w.1, br := w.2 } s)
  raise gProt 6 (protNote 7 (if ring then 2 else 1) w.1 0 g (remapMoves f s t))

/-- A decision waits to be put in force. -/
def apsWaits (s : State) (ring : Bool) (g : Nat) : Bool := apsExists s ring g && !apsHeld s ring g && (apsOf s ring g).wantFn.isSome

/-- APS_SWITCH (R196): the selector `st` that the protocol has decided on, with its bridge. -/
def execApsSwitch (ring : Bool) (g : Nat) (st : Nat) (s : State) : Host.Outcome State Fault Refusal :=
  finish s (if apsWaits s ring g && decide ((apsOf s ring g).want = st) then apsMove (s.clk.fn + 1) ring g s else s)

/-- The switch of a group or ring that waits for its next frame (R196 step 3): the normal version has been sent for one; a frozen one
keeps it (R204). -/
def apsNext (ring : Bool) (s : State) (x : Nat × ApsState) : State :=
  match x.2.next with
  | some w =>
    if s.clk.fn = x.2.nextFn ∨ apsFrozen s ring x.1 then s
    else remapMoves s.clk.fn s (applyAps ring x.1 w.1 w.2 (putAps ring x.1 { x.2 with st := w.1, br := w.2, next := none } s))
  | none => s

/-- A decision is in force 80 frames after the declaration behind it at the latest, which the frame before it brought; one that goes
through the normal version takes a frame more (R196, R202). -/
def apsBound (ring : Bool) (s : State) (g : Nat) : State :=
  match (apsOf s ring g).wantFn with
  | some f =>
    let a := apsOf s ring g
    let both := (a.st, a.br) ≠ (0, 0) ∧ (a.want, a.wantBr) ≠ (0, 0)
    if apsWaits s ring g ∧ 79 ≤ (s.clk.fn - f).toNat + nat01 (decide both) then apsMove s.clk.fn ring g s else s
  | none => s

/-- The protocols in a frame: the versions of R196 step 3, the requests of G.841, the bound of R202. -/
def apsFrame (s : State) : State :=
  let s := s.prot.rings.foldl (apsNext true) (s.prot.linear.foldl (apsNext false) s)
  let s := s.cfg.rings.foldl ringStep (s.cfg.linear.foldl linearStep s)
  (tkeys s.cfg.rings).foldl (apsBound true) ((tkeys s.cfg.linear).foldl (apsBound false) s)
where
  /-- The numbers of the groups or rings of a table. -/
  tkeys {α : Type} (m : SMap α) : List Nat := m.map (·.1)

/-- Failure of protocol is declared or cleared once its conditions have persisted for 400 frames (R203): a switch not yet in force is
dropped at its declaration. -/
def fopNow (ring : Bool) (g : Nat) (on : Bool) (s : State) : State :=
  let a := apsOf s ring g
  let due := match a.fopFn with | some f => decide (400 ≤ (s.clk.fn - f).toNat) | none => false
  if !apsExists s ring g || apsHeld s ring g || (a.fop == on) || !due then s
  else
    let a := { a with fop := on, fopFn := none }
    let kept := a.next.getD (a.st, a.br)
    let s := putAps ring g (if on then { a with want := kept.1, wantBr := kept.2, wantFn := none } else a) s
    raise gProt 4 (protNote (if on then 4 else 5) (if ring then 2 else 1) a.st 0 g s)

/-- FOP. -/
def execFop (ring : Bool) (g : Nat) (on : Bool) (s : State) : Host.Outcome State Fault Refusal := finish s (fopNow ring g on s)

end Sys2Proof.Machine
end

