-- ==== Sys2Proof/Machine/LaneCmds.lean ====
section
/-! DEFINITION. The lane and port commands: LANE_CONFIG and PORT_CONFIG less QUIESCE (R39, R99, R129 to R133, R323,
R327 to R329). -/
namespace Sys2Proof.Machine

-- LANE_CONFIG CONFIGURE.

/-- Tributary slots and ODU2 tributary ports of a multiplexed mode (R132, R133). -/
def mapShape (mode : Nat) : Nat × Nat :=
  if mode = 0x0E then (16, 4) else if mode = 0x0F then (32, 4) else if mode = 0x10 then (80, 10) else (0, 0)

/-- The tributary-slot map of a lane buffer (R133, R328): all zero for the default, else every slot assigned, each port
to its share. In a mode that is not multiplexed R133 names no map: one that is not all zero is refused (DESIGN CHOICE, log
121). -/
def slotMapOk (mode : Nat) (m : Bytes) : Bool :=
  let (n, ports) := mapShape mode
  let used := m.take n
  m.all (· == 0) || ((m.drop n).all (· == 0) && decide (n ≠ 0) &&
    (List.range ports).all fun i => decide (used.countP (fun b => b.toNat == i + 1) = n / ports))

/-- A byte string with the all-zero one written as []. -/
def canonBytes (bs : Bytes) : Bytes := if bs.all (· == 0) then [] else bs

/-- The lane buffer of R328 put into a configuration. -/
def withBuffer (c : LaneCfg) (b : Bytes) : LaneCfg :=
  { c with txTrace := canonBytes (slice b 0 64), expTrace := canonBytes (slice b 64 64),
           slotMap := canonBytes (slice b 128 80), pmTti := canonBytes (slice b 256 64),
           pmTribs := canonBytes (slice b 320 640) }

/-- The configuration that CONFIGURE gives a lane, before its buffer (R327, R328): a change of mode without the buffer
returns traces and map to their defaults. -/
def laneOf (c : CmdEntry) (old : LaneCfg) : LaneCfg :=
  let mode := BitVec.ofNat 8 (arg c 2 1)
  let base := if mode = old.mode then old else LaneCfg.disabled
  { base with
    mode := mode, flags := BitVec.ofNat 8 (arg c 3 1), j0 := BitVec.ofNat 8 (arg c 4 1),
    sfExp := BitVec.ofNat 8 (arg c 5 1), sdExp := BitVec.ofNat 8 (arg c 6 1), test := BitVec.ofNat 8 (arg c 7 1),
    amp := BitVec.ofNat 10 (argBits c 8 0 10), shelfTag := BitVec.ofNat 32 (arg c 12 4),
    cardId := BitVec.ofNat 32 (arg c 16 4) }

/-- First lane of a lane's quad. -/
def quadHead (l : Nat) : Nat := l - l % 4

/-- The other lanes of a lane's quad. -/
def quadOthers (l : Nat) : List Nat := ((List.range 4).map (quadHead l + ·)).filter (· != l)

/-- R130 on present configuration: a quad shared with a multi-lane mode, a third rate family, or a change in a bound
lane's port count. -/
def laneConflict (s : State) (l mode : Nat) : Bool :=
  let others := (quadOthers l).map (laneMode s.cfg)
  let fams := sortNat ((rateFamily mode :: others.map rateFamily).filter (· != 0))
  let bound := !(portsOfLane s.cfg l).isEmpty
  (multiLane mode && others.any (· != 0)) ||
    (decide (mode ≠ 0) && !multiLane mode && multiLane (laneMode s.cfg (quadHead l))) ||
    decide (2 < fams.length) || (bound && decide (portCount mode ≠ portCount (laneMode s.cfg l)))

/-- R99: the staged page OPEN and every port concerned quiesced in the live page. -/
def quiesceRefusal (s : State) (ps : List Nat) : Option Refused :=
  orRefuse (openRefusal s) (if ps.all fun p => bit s.page.live.quiesce p then none else some (stWrongState, 6, 0))

/-- LANE_CONFIG CONFIGURE against R35. -/
def configureChecks (s : State) (c : CmdEntry) : Checks :=
  let l := arg c 1 1
  let mode := arg c 2 1
  { lens := [24, 40],
    fields := [(0, 64), (64, 10), (96, 64)] ++ (if c.len = 40 then [descField 24] else []),
    argsOk := decide (l ≤ 127) && laneModeOk mode && (!multiLane mode || decide (l % 4 = 0)) && !argBit c 3 7 &&
      decide (argBits c 4 0 2 ≤ 2 ∧ argBits c 4 2 2 ≤ 2 ∧ argBits c 4 4 4 = 0) &&
      decide (3 ≤ arg c 5 1 ∧ arg c 5 1 ≤ 5) && decide (5 ≤ arg c 6 1 ∧ arg c 6 1 ≤ 9) && decide (arg c 7 1 ≤ 4) &&
      (!decide (c.len = 40) || descOk (descAt c 24) false),
    lengthOk := !decide (c.len = 40) || descLenOk (descAt c 24) (· == 1024), modes := configModes,
    modeOk := decide (arg c 7 1 = 0) || decide (s.mode.mode = .service),
    object := orRefuse (followerRefusal s)
      (orRefuse (if mode = laneMode s.cfg l then none else quiesceRefusal s (portsOfLane s.cfg l))
        (busyRefusal s ((lanesOf (max mode (laneMode s.cfg l)) l).map fun x => ((0, x) : ObjKey)))),
    waits := decide (s.mode.mode = .active), pfwWaits := true, buffer := decide (c.len = 40) }

/-- Step 6 of CONFIGURE: R130 in its order, the quad's power, then the buffer. -/
def configureBody (c : CmdEntry) (tok : CmdTok) (s : State) : State :=
  let l := arg c 1 1
  let mode := arg c 2 1
  let r : List Field := [(0, 1, l), (1, 1, mode)]
  let go := fun (x : LaneCfg) (s : State) => atOnceOrBoundary tok (.lane l x) r s
  if laneConflict s l mode then refuse tok stBadArgument [] s
  else if mode ≠ 0 ∧ !domOn s (l / 4) then refuse tok stNoResource [] s
  else
    let base := laneOf c (laneCfg s.cfg l)
    if c.len = 40 then
      withRead tok (descAt c 24) (· == 1024) noFields (fun b s =>
        if slotMapOk mode (slice b 128 80) then go (withBuffer base b) s else refuse tok stBadArgument [] s) s
    else go base s

/-- LANE_CONFIG CONFIGURE (R130). -/
def execLaneConfigConfigure (c : CmdEntry) (s : State) : Host.Outcome State Fault Refusal :=
  finish s (runCmd 0x10 (arg c 0 1 == 0) c (configureChecks s c) (configureBody c) s)

-- The VBL message channel.

/-- Bytes a message takes in a block (R144). -/
def msgBytes (payload : Bytes) : Nat := 8 + payload.length

/-- Frames until the last of these messages is sent, blocks of 4,096 bytes being filled in order (R143, R144). -/
def framesFor : List Nat → Nat → Nat → Nat
  | [], _, k => k
  | n :: ns, room, k => if n ≤ room then framesFor ns (room - n) k else framesFor ns (4096 - n) (k + 1)

/-- Messages that wait on a lane. -/
def waitingOn (s : State) (l : Nat) : List (Nat × Byte × Bytes) := s.lane.txq.filter fun m => m.1 == l

/-- LENGTH that VBL_SEND requires: the message length rounded up to a multiple of 8, at least 8 (R327). -/
def sendLength (n : Nat) : Nat := max 8 ((n + 7) / 8 * 8)

/-- VBL_SEND against R35. -/
def vblSendChecks (s : State) (c : CmdEntry) : Checks :=
  let n := arg c 4 2
  { lens := [24], fields := [(0, 24), (32, 16), descField 8],
    argsOk := decide (arg c 1 1 ≤ 127) && decide (0x40 ≤ arg c 2 1) && decide (n ≤ 4088) && descOk (descAt c 8) false,
    lengthOk := descLenOk (descAt c 8) (· == sendLength n), modes := configModes,
    object := busyRefusal s [(0, arg c 1 1)], buffer := true }

/-- VBL_SEND at step 6 (R327): the lane in VBL mode, fewer than 64 host messages waiting on it. -/
def vblSendBody (c : CmdEntry) (tok : CmdTok) (s : State) : State :=
  let l := arg c 1 1
  let n := arg c 4 2
  if 64 ≤ (waitingOn s l).length then refuse tok stNoResource [] s
  else if laneMode s.cfg l ≠ 0x18 then refuse tok stBadArgument [] s
  else withRead tok (descAt c 8) (· == sendLength n) noFields (fun bs s =>
    let s := queueVbl l (BitVec.ofNat 8 (arg c 2 1)) (bs.take n) s
    let k := framesFor ((waitingOn s l).map fun m => msgBytes m.2.2) 4096 1
    completeOk tok [(0, 6, (s.clk.fn + BitVec.ofNat 48 k).toNat)] s) s

/-- LANE_CONFIG VBL_SEND (R327). -/
def execVblSend (c : CmdEntry) (s : State) : Host.Outcome State Fault Refusal :=
  finish s (runCmd 0x10 (arg c 0 1 == 1) c (vblSendChecks s c) (vblSendBody c) s)

/-- VBL_RX_BUFFER against R35. -/
def vblRxChecks (c : CmdEntry) : Checks :=
  { lens := [24], fields := [(0, 8), descField 8], argsOk := descOk (descAt c 8) true,
    lengthOk := descLenOk (descAt c 8) (· == 4096), modes := configModes, buffer := true }

/-- LANE_CONFIG VBL_RX_BUFFER (R327): at most 256 buffers. -/
def execVblRxBuffer (c : CmdEntry) (s : State) : Host.Outcome State Fault Refusal :=
  finish s (runCmd 0x10 (arg c 0 1 == 2) c (vblRxChecks c) (fun tok s =>
    if 256 ≤ s.lane.bufs.length then refuse tok stNoResource [] s
    else match segments s (descAt c 8) true (· == 4096) with
      | .error e => bufferEnd tok e [] s
      | .ok segs =>
        completeOk tok [(0, 2, s.lane.bufs.length + 1)]
          { s with lane := { s.lane with bufs := s.lane.bufs ++ [(descAddr (descAt c 8), segs)] } }) s)

-- PORT_CONFIG.

/-- Multiple that the base FP of an interface obeys (R40). -/
def baseMultiple (mode : Nat) : Nat := if portCount mode = 4 then 4 else if portCount mode = 1 then 1 else 2

/-- Ports that BIND concerns. -/
def bindPorts (s : State) (c : CmdEntry) : List Nat :=
  ((List.range (portCount (laneMode s.cfg (arg c 2 1)))).map (arg c 0 1 + ·)).filter (· ≤ 255)

/-- PORT_CONFIG BIND against R35. -/
def bindChecks (s : State) (c : CmdEntry) : Checks :=
  { lens := [8], fields := [(0, 8), (8, 8), (16, 8)], argsOk := decide (arg c 2 1 ≤ 127), modes := configModes,
    object := orRefuse (followerRefusal s) (orRefuse (quiesceRefusal s (bindPorts s c))
      (busyRefusal s ((0, arg c 2 1) :: (bindPorts s c).map fun p => ((1, p) : ObjKey)))),
    waits := decide (s.mode.mode = .active), pfwWaits := true }

/-- A binding breaks R39. -/
def bindBad (s : State) (base l : Nat) : Bool :=
  let mode := laneMode s.cfg l
  let n := portCount mode
  decide (mode = 0) || !(portsOfLane s.cfg l).isEmpty || decide (base % baseMultiple mode ≠ 0) ||
    decide (256 < base + n) || (List.range n).any fun i => decide (tget .unbound s.cfg.ports (base + i) ≠ .unbound)

/-- PORT_CONFIG BIND (R39). -/
def execPortConfigBind (c : CmdEntry) (s : State) : Host.Outcome State Fault Refusal :=
  finish s (runCmd 0x11 (arg c 1 1 == 0) c (bindChecks s c) (fun tok s =>
    let base := arg c 0 1
    let l := arg c 2 1
    if bindBad s base l then refuse tok stBadArgument [] s
    else atOnceOrBoundary tok (.bind base l) [(0, 1, base), (1, 1, portCount (laneMode s.cfg l))] s) s)

/-- PORT_CONFIG MONITOR and UNBIND against R35, for the ports they concern. -/
def portChecks (s : State) (c : CmdEntry) (ps : List Nat) : Checks :=
  { lens := [8], fields := [(0, 8), (8, 8)], argsOk := true, modes := configModes,
    object := orRefuse (followerRefusal s) (orRefuse (quiesceRefusal s ps)
      (busyRefusal s ((1, arg c 0 1) :: ps.map fun p => ((1, p) : ObjKey)))),
    waits := decide (s.mode.mode = .active), pfwWaits := true }

/-- PORT_CONFIG MONITOR (R39). -/
def execPortConfigMonitor (c : CmdEntry) (s : State) : Host.Outcome State Fault Refusal :=
  finish s (runCmd 0x11 (arg c 1 1 == 1) c (portChecks s c [arg c 0 1]) (fun tok s =>
    if tget .unbound s.cfg.ports (arg c 0 1) ≠ .unbound then refuse tok stBadArgument [] s
    else atOnceOrBoundary tok (.monitor (arg c 0 1)) [(0, 1, arg c 0 1), (1, 1, 1)] s) s)

/-- The ports that UNBIND releases: it names the base FP of an interface, or a MONITOR FP (R327). -/
def unbindPorts (s : State) (fp : Nat) : List Nat :=
  match tget .unbound s.cfg.ports fp with
  | .lane l base => if base = fp then portsOfLane s.cfg l else []
  | .monitor => [fp]
  | .unbound => []

/-- PORT_CONFIG UNBIND (R39): BAD_ARGUMENT where the FP names no interface's base and no MONITOR port. -/
def execPortConfigUnbind (c : CmdEntry) (s : State) : Host.Outcome State Fault Refusal :=
  let ps := unbindPorts s (arg c 0 1)
  finish s (runCmd 0x11 (arg c 1 1 == 2) c (portChecks s c ps) (fun tok s =>
    if ps.isEmpty then refuse tok stBadArgument [] s
    else atOnceOrBoundary tok (.unbind (arg c 0 1)) [(0, 1, arg c 0 1), (1, 1, ps.length)] s) s)

/-- PORT_CONFIG TRACE against R35: ten ASCII characters. -/
def traceChecks (s : State) (c : CmdEntry) : Checks :=
  { lens := [24], fields := [(0, 8), (8, 8), (16, 1), (64, 80)],
    argsOk := (argBytes c 8 10).all fun b => decide (b.toNat < 0x80), modes := configModes,
    object := orRefuse (followerRefusal s) (busyRefusal s [(1, arg c 0 1)]),
    waits := decide (s.mode.mode = .active), pfwWaits := true }

/-- PORT_CONFIG TRACE (R159, R327). -/
def execPortConfigTrace (c : CmdEntry) (s : State) : Host.Outcome State Fault Refusal :=
  finish s (runCmd 0x11 (arg c 1 1 == 4) c (traceChecks s c) (fun tok s =>
    atOnceOrBoundary tok (.trace (arg c 0 1) { long := argBit c 2 0, pfx := canonBytes (argBytes c 8 10) })
      [(0, 1, arg c 0 1)] s) s)

/-- Character `i` of a decimal of three digits. -/
def digitOf (n i : Nat) : Byte := BitVec.ofNat 8 (0x30 + n / 10 ^ (2 - i) % 10)

/-- The J1 trace that the module generates for slot `sl` of a fabric port (R159), less the CRC-7 of a 16-byte trace:
prefix, "/", the slot in three digits, then one space, or spaces to CR LF. -/
def j1Text (s : State) (fp sl : Nat) : Bytes :=
  let t := tget defaultTrace s.cfg.traces fp
  let head := fit 10 t.pfx ++ [0x2F, digitOf sl 0, digitOf sl 1, digitOf sl 2]
  if t.long then head ++ List.replicate 48 0x20 ++ [0x0D, 0x0A] else head ++ [0x20]

end Sys2Proof.Machine
end

