-- ==== Sys2Proof/Machine/Outputs.lean ====
section
/-! DEFINITION. What the module sends, read off its state: the outputs of each mode (R32), the content of egress slots (R65,
R98, R194), the VBL header and frame (R136 to R149), and the mate-link header, STATUS and group record (R240, R246,
R275). -/
namespace Sys2Proof.Machine

/-- What the lanes carry (R32). -/
inductive OutClass where
  | squelched | ais | traffic
  deriving DecidableEq, Repr

/-- The outputs of a mode (R32); a forced takeover sends path AIS until its page is installed (R265). -/
def classOf (s : State) (m : Mode) : OutClass :=
  match m with
  | .boot => .squelched
  | .safe => .squelched
  | .quiet => .ais
  | .solo => .traffic
  | .service => .traffic
  | .active => if s.twin.takeover.isSome then .ais else .traffic
  | .standby => if 3 ≤ s.mode.sync.toNat then .traffic else .ais
  | .isolated => if (s.mode.isoFrom = .active ∧ s.twin.takeover.isNone) ∨ 3 ≤ s.mode.sync.toNat then .traffic else .ais

/-- The outputs now: after a warm reset as before it, or path AIS by the fuse TX_WARM_AIS (R32). -/
def outClass (s : State) : OutClass :=
  if s.mode.mode ≠ .boot then classOf s s.mode.mode
  else if s.rst.coldEntry then .squelched
  else match classOf s s.mode.outMode with
    | .traffic => if s.fuse.txWarmAis then .ais else .traffic
    | c => c

/-- The role a mode shows (R32, R141): during a warm reset an ACTIVE unit's ends with its lease (R259). -/
def roleOf (s : State) (m : Mode) : Bool :=
  match m with
  | .solo => true
  | .active => decide (s.mode.mode = .active) || decide (s.twin.lease ≠ 0)
  | .isolated => decide (s.mode.isoFrom = .active)
  | _ => false

/-- ROLE of R141, and ACTIVE_N driven low (R258). -/
def roleShown (s : State) : Bool :=
  if s.mode.mode = .boot then !s.rst.coldEntry && roleOf s s.mode.outMode else roleOf s s.mode.mode

/-- Drive that the fuse map gives a GPIO pin (R414). -/
def fuseLevel (s : State) (i : Nat) : GpioLevel :=
  match (tget 0 s.fuse.gpioRst i).toNat with
  | 1 => .pullUp
  | 2 => .pullDown
  | 3 => .low
  | 4 => .high
  | _ => .highZ

/-- The condition of a GPIO_FN code (R413). -/
def gpioCond (s : State) (fn : Nat) : Bool :=
  match fn with
  | 1 => roleShown s
  | 2 => irqCond s
  | 3 => s.pwr.pfw
  | 4 => decide (s.tim.dpll = 2)
  | _ => s.pwr.hot

/-- GPIO pin i (R413 to R415): high-Z until the fuse map is applied, the fuse map's state in a cold reset, its level held in a warm
one, and by GPIO_FN from mode entry. -/
def gpioLevel (s : State) (i : Nat) : GpioLevel :=
  if !s.rst.fuseMap then .highZ
  else match s.rst.phase with
    | .coldAsserted => fuseLevel s i
    | .coldRelease => fuseLevel s i
    | .running =>
      let fn := (tget 0 s.rst.opts.gpioFn i).toNat
      if fn = 0 ∨ 6 ≤ fn then fuseLevel s i else if gpioCond s fn then .high else .low
    | _ => s.rst.gpio.getD i .highZ

/-- What an egress high-order slot carries (R65, R98): `from x` is ingress GS x, `passed x` lane-side ingress slot x = 192 × FP + S
(R194), `tap t k` slot k of the copy that tap t makes of a low-order or DS0 path (R391). -/
inductive HoOut where
  | unequipped | ais | forcedAis | prbs | from (x : Nat) | passed (x : Nat) | rebuilt | tap (t k : Nat)
  deriving DecidableEq, Repr

/-- Stages and tap of a pattern: PRBS-15, 23 and 31. -/
def prbsShape (pattern : Nat) : Nat × Nat := match pattern with | 0 => (15, 14) | 1 => (23, 18) | _ => (31, 28)

/-- The PRBS unit that generates at an index of a tier (R65, R395): from the commit boundary at which it starts. -/
def prbsAt (s : State) (t : Tier) (i : Nat) : Option PrbsSt :=
  (s.bel.prbs.find? fun x => match x.2.cfg with
    | some c => c.gen && decide (c.tier = t) && decide (c.idx = i) && fnGe s.clk.fn x.2.start
    | none => false).map (·.2)

/-- The content of an egress slot that its own entry gives (R32, R52, R65, R98, R163). In a mode that carries no traffic a
groomed slot is rebuilt with TU-AIS in its tributaries (R32; DEDUCED, log 124). FILL of a GROOM = 1 entry replaces the source that
the groomer takes, and not the rebuilt slot (R16, R65; DEDUCED, log 125). -/
def entryOut (s : State) (g : Nat) : HoOut :=
  let e := entryAt s.page.live .ho g
  if itemLost s (selKey .ho g) then .ais
  else if !eValid e then .unequipped
  else if bit s.page.live.quiesce (g / 192) ∨ itemBad s (.liveEntry .ho g) ∨ itemBad s (.liveQuiesce (g / 192)) ∨ !sliceOn s (g / 192) then .ais
  else if eGroom e then .rebuilt
  else if outClass s ≠ .traffic then .ais
  else match eFill e with
    | 1 => .forcedAis
    | 2 => .unequipped
    | 3 => if (prbsAt s .ho (headOf s.page.live g)).isSome then .prbs else .unequipped
    | _ =>
        let x := deliveredHo s g
        if x = noSrc then .unequipped
        else if (legFails s g).1 then .ais
        else if (legFails s g).2 then .unequipped
        else .from x

/-- An ingress GS as the fabric's legs take it, after remap and quiescing (R391). -/
def inputOut (s : State) (g : Nat) : HoOut :=
  if (mapHo s g).hard then .ais else if (mapHo s g).uneq then .unequipped else .from g

/-- The tap that fills a slot of a MONITOR port, and the slot's place in its copy. -/
def tapAt (s : State) (p sl : Nat) : Option (Nat × TapCfg × Nat) :=
  s.bel.taps.findSome? fun x => match x.2 with
    | some t => if t.fp = p ∧ t.first ≤ sl ∧ sl < t.first + t.slots then some (x.1, t, sl - t.first) else none
    | none => none

/-- The content of egress fabric slot g: of a MONITOR port, the copies of the taps (R41, R391, R393). A quiesce bit of that port
does not stop a copy: R98 speaks of connections, and its slots' entries are no connections (DESIGN CHOICE, log 147). -/
def hoOut (s : State) (g : Nat) : HoOut :=
  if isMonitor s.cfg (g / 192) then
    match tapAt s (g / 192) (g % 192) with
    | none => .unequipped
    | some (u, t, k) =>
      if !tapRuns s t || !sliceOn s (g / 192) then .ais
      else match t.tier with
        | .ho => if t.output then entryOut s (t.idx + k) else inputOut s (t.idx + k)
        | .lo => .tap u k
        | .ds0 => .tap u k
  else entryOut s g

/-- Lane-side ingress slot x brings path AIS, as an ingress GS that takes it through the remap shows (R194). -/
def sideAis (s : State) (x : Nat) : Bool :=
  s.dft.set.any fun y =>
    let g := y.1 % 0x1000000
    let r := remapAt s (g / 192) (g % 192)
    decide (y.1 / 0x1000000 = 2) && bit y.2 bAisP && decide (rInAct r = 0) && decide (192 * rInFp r + rInSlot r = x)

/-- The content of lane-side egress slot S of port p through its remap entry (R194): a slot passed through carries what its lane-side
slot brings, path AIS under a server defect or where it brings that (R142). One in LOP-P does not count as path AIS (DESIGN CHOICE,
entry 151). -/
def laneOut (s : State) (p sl : Nat) : HoOut :=
  let r := remapAt s p sl
  if outClass s ≠ .traffic ∧ rEgAct r = 1 then .ais
  else match rEgAct r with
  | 0 => hoOut s (192 * rEgFp r + rEgSlot r)
  | 1 =>
    let x := gsOf (rEgFp r) (rEgSlot r)
    if serverAis s (rEgFp r) || sideAis s x then .ais else .passed x
  | 2 => .ais
  | _ => .unequipped

-- Tributaries (R17, R18, R103).

/-- What an egress tributary carries: `carrier c` is built by the DS0 tier. -/
inductive LoOut where
  | unequipped | ais | prbs | from (x : Nat) | carrier (c : Nat)
  deriving DecidableEq, Repr

/-- The carrier bound to a low-order index (R18). -/
def boundCarrier (p : Page) (i : Nat) : Option Nat := (p.car.find? fun x => decide (cConfigured x.2 ∧ cBind x.2 = i)).map (·.1)

/-- The content of egress tributary i (R17, R18, R32, R52, R65, R106). -/
def loOut (s : State) (i : Nat) : LoOut :=
  let p := s.page.live
  let e := entryAt p .lo i
  if itemLost s (selKey .lo i) then .ais
  else if !isGroom p (i / 28) || !eValid e then .unequipped
  else if outClass s ≠ .traffic ∨ itemBad s (.liveEntry .lo i) then .ais
  else match boundCarrier p i with
    | some c => if itemBad s (.liveCarrier c) || !domOn s (96 + c / 1024) then .ais else .carrier c
    | none =>
      match eFill e with
      | 1 => .ais
      | 2 => .unequipped
      | 3 => if (prbsAt s .lo i).isSome then .prbs else .unequipped
      | _ =>
        let x := match legOf s .lo i e with | .a => eSrcA e | .b => eSrcB e
        if x = noSrc then .unequipped
        else if !foundFits s x (eType e) || (mapLo s x).hard then .ais
        else if (mapLo s x).uneq then .unequipped
        else .from x

/-- An ingress tributary after low-order pointer interpretation (R391). -/
def loInput (s : State) (x : Nat) : LoOut := if (mapLo s x).hard then .ais else .from x

/-- The TYPE of a group of a groomed slot (R17, R103): that of its valid entries, VT1.5 where it has none. -/
def groupType (p : Page) (g grp : Nat) : Nat :=
  match (List.range 4).find? fun m => eValid (entryAt p .lo (28 * g + 4 * grp + m)) with
  | some m => eType (entryAt p .lo (28 * g + 4 * grp + m))
  | none => 0

/-- A TUG-3 of an AU-4 structure carries a TU-3 (R102). -/
def sendsTu3 (p : Page) (g : Nat) : Bool :=
  let e := entryAt p .lo (28 * g)
  isAu4 p g && eValid e && decide (eType e = 3)

/-- Members of a group by TYPE. -/
def membersOf (type : Nat) : Nat := match type with | 0 => 4 | 1 => 3 | _ => 1

-- DS0s (R65, R115 to R117, R125).

/-- What an egress time slot carries: the idle code of its carrier, all ones, PRBS, the conditioning of a failed source
carrier, the idle code of a source carrier, or a source. -/
inductive DsOut where
  | idle | ones | prbs | cond (c : Nat) | idleOf (c : Nat) | from (x : Nat)
  deriving DecidableEq, Repr

/-- The source that an egress DS0 delivers. -/
def ds0Source (s : State) (d : Nat) : Nat :=
  let e := entryAt s.page.live .ds0 d
  match legOf s .ds0 d e with | .a => eSrcA e | .b => eSrcB e

/-- The content of a DS0 as its source carrier delivers it (R115, R123, R125, R52). -/
def ds0Input (s : State) (x : Nat) : DsOut :=
  let c := x / 32
  if slotReserved (carrierAt s.page.live c) (x % 32) then .idleOf c
  else if itemLost s (lostCarrierKey c) ∨ itemBad s (.liveCarrier c) ∨ !domOn s (96 + c / 1024) then .ones
  else if carrierFailed s c || !delivers s c then .cond c
  else .from x

/-- The content of egress DS0 d (R65, R116). -/
def ds0Out (s : State) (d : Nat) : DsOut :=
  let p := s.page.live
  let e := entryAt p .ds0 d
  if itemLost s (selKey .ds0 d) ∨ itemBad s (.liveEntry .ds0 d) then .ones
  else if !ds0Carried s d e then .idle
  else match eFill e with
    | 1 => .ones
    | 2 => .idle
    | 3 => if (prbsAt s .ds0 d).isSome then .prbs else .idle
    | _ => if ds0Source s d = noSrc then .idle else ds0Input s (ds0Source s d)

/-- A lane's transmitter is on: not squelched, not disabled, its quad powered (R32, R130, R423, R424). -/
def laneSends (s : State) (l : Nat) : Bool :=
  decide (outClass s ≠ .squelched) && decide (laneMode s.cfg l ≠ 0) && !bit (laneCfg s.cfg l).flags 2 &&
    domOn s (l / 4)

/-- A lane sends the frames of its mode: neither a facility loopback nor transmit PRBS-31 takes their place (R32, R131). -/
def sendsFrames (s : State) (l : Nat) : Bool :=
  laneSends s l && (laneCfg s.cfg l).test != 1 && (laneCfg s.cfg l).test != 3

-- The VBL.

/-- The announcement bits ANN_VALID, ANN_FINAL and ANN_DONE with their FN and epoch (R90, R149). -/
def announcement (s : State) : Nat × FN × Nat :=
  match s.page.job with
  | some j =>
    if s.page.state = .final then (0x30, fnOf j.target, s.page.live.epoch.toNat + 1)
    else if j.announced then (0x20, fnOf j.target, s.page.live.epoch.toNat + 1)
    else done
  | none => done
where
  done : Nat × FN × Nat :=
    match s.page.annDone with
    | some (f, e) => if (s.clk.fn - f).toNat < 8 then (0x08, f, e.toNat) else (0, 0, 0)
    | none => (0, 0, 0)

/-- FLAGS of the header to the card (R141). -/
def vblFlags (s : State) : Nat :=
  0x80 * nat01 (roleShown s) + 0x40 * nat01 (decide (outClass s = .traffic)) + (announcement s).1

/-- Eight bits as a byte, the first the most significant. -/
def byteOf (f : Nat → Bool) : Byte := BitVec.ofNat 8 ((List.range 8).foldl (fun n i => 2 * n + nat01 (f i)) 0)

/-- DEFECT of the header to the card (R142): egress slot v carries path AIS for any cause other than FILL. -/
def vblDefectBits (s : State) (l : Nat) : Bytes :=
  let base := lanePortOf s l
  (List.range 48).map fun k => byteOf fun i =>
    let v := 8 * k + i
    match base with
    | some p => decide (laneOut s (p + v / 192) (v % 192) = .ais)
    | none => false
where
  lanePortOf (s : State) (l : Nat) : Option Nat := (portsOfLane s.cfg l).head?

/-- REMOTE_FAIL (R140, R152). -/
def vblRemoteFail (s : State) (l : Nat) : Bool := vblDown s l

/-- Row and row byte of column c of row r of VBL slot v: rows 0 to 8, columns 1 to 90 (R137, R146). -/
def vblPlace (v r c : Nat) : Nat × Nat := (r, 1760 + 384 * (c - 1) + v)

/-- Codeword and symbol of a row byte (R138). -/
def vblSymbol (j : Nat) : Nat × Nat := (j % 160, j / 160)

/-- Bit of the scrambler sequence at which a frame byte begins (R139). -/
def vblScramblerBit (row j : Nat) : Nat := (38880 * row + j) * 8 - 128

/-- One bit of the scrambler 1 + x^18 + x^23: its output and next state, bit i − 1 holding state[i] (R139). -/
def scrambleStep (st : BitVec 23) : Bool × BitVec 23 :=
  let o := bit st 17 != bit st 22
  (o, (st <<< 1) ||| place 23 0 (nat01 o))

/-- The first n bits of the scrambler sequence (R139). -/
def scrambler : Nat → BitVec 23 → List Bool
  | 0, _ => []
  | n + 1, st => (scrambleStep st).1 :: scrambler n (scrambleStep st).2

/-- Product in GF(2^8) with x^8 + x^4 + x^3 + x^2 + 1 (R138). -/
def gfMul (a b : Byte) : Byte :=
  (List.range 8).foldl (fun r i =>
    let r2 := if bit r 7 then (r <<< 1) ^^^ 0x1D else r <<< 1
    if bit b (7 - i) then r2 ^^^ a else r2) 0

/-- Powers of α = 2 (R138). -/
def gfPow : Nat → Byte
  | 0 => 1
  | n + 1 => gfMul 2 (gfPow n)

/-- Coefficients below x^16 of the generator (x − α^0) … (x − α^15), highest first (R138). -/
def rsGenerator : List Byte :=
  ((List.range 16).foldl (fun (p : List Byte) i =>
    let shifted := p ++ [0]
    let scaled := 0 :: p.map (gfMul (gfPow i))
    List.zipWith (fun x y => x ^^^ y) shifted scaled) [1]).tail

/-- The 16 parity symbols of a codeword's 227 data symbols, from x^15 down (R138). -/
def rsParity (data : Bytes) : Bytes :=
  data.foldl (fun r d =>
    let f := d ^^^ r.headD 0
    List.zipWith (fun x g => x ^^^ gfMul f g) (r.tail ++ [0]) rsGenerator) (zeros 16)

/-- The bits of bytes, each most significant first. -/
def bitsOf (bs : Bytes) : List Bool := bs.flatMap fun b => (List.range 8).map fun i => bit b (7 - i)

/-- The scrambler of R139 after n bits. -/
def scrambledBy : Nat → BitVec 23 → BitVec 23
  | 0, st => st
  | n + 1, st => scrambledBy n (scrambleStep st).2

/-- Byte i of the sequence of R139, first bit most significant. -/
def scramblerByte (i : Nat) : Byte :=
  BitVec.ofNat 8 ((scrambler 8 (scrambledBy (8 * i) (BitVec.allOnes 23))).foldl (fun n b => 2 * n + nat01 b) 0)

/-- Value of a polynomial, highest coefficient first. -/
def polyAt (p : Bytes) (x : Byte) : Byte := p.foldl (fun r c => gfMul r x ^^^ c) 0

/-- Inverse in GF(2^8): the power 254. -/
def gfInv (a : Byte) : Byte := (List.range 254).foldl (fun r _ => gfMul r a) 1

/-- The 16 syndromes of a received word (R138): its values at the roots of the generator. -/
def syndromes (w : Bytes) : Bytes := (List.range 16).map fun i => polyAt w (gfPow i)

/-- The error locator as its recursion finds it: locator and last locator, lowest coefficient first, its degree, the steps and the
discrepancy since the last change of degree. -/
structure Locator where
  loc : Bytes
  last : Bytes
  deg : Nat
  gap : Nat
  disc : Byte
  deriving DecidableEq, Repr

/-- One step of the shift-register synthesis over the syndromes. -/
def Locator.step (syn : Bytes) (x : Locator) (r : Nat) : Locator :=
  let d := (List.range (x.deg + 1)).foldl (fun a i => if i ≤ r then a ^^^ gfMul (byteAt x.loc i) (byteAt syn (r - i)) else a) 0
  let f := gfMul d (gfInv x.disc)
  let next := (List.range 17).map fun i => byteAt x.loc i ^^^ (if i < x.gap then 0 else gfMul f (byteAt x.last (i - x.gap)))
  if d = 0 then { x with gap := x.gap + 1 }
  else if 2 * x.deg ≤ r then { loc := next, last := x.loc, deg := r + 1 - x.deg, gap := 1, disc := d }
  else { x with loc := next, gap := x.gap + 1 }

/-- The locator of a word's errors. -/
def locate (syn : Bytes) : Locator :=
  (List.range 16).foldl (Locator.step syn) { loc := [1], last := [1], deg := 0, gap := 1, disc := 1 }

/-- Value of the error at power k: the evaluator at the inverse of α^k over the derivative of the locator there. -/
def errorAt (syn loc : Bytes) (k : Nat) : Byte :=
  let x := gfInv (gfPow k)
  let omega := (List.range 16).map fun i => (List.range (i + 1)).foldl (fun a j => a ^^^ gfMul (byteAt loc j) (byteAt syn (i - j))) 0
  let slope := (List.range 8).map fun i => byteAt loc (2 * i + 1)
  gfMul (gfPow k) (gfMul (polyAt omega.reverse x) (gfInv (polyAt slope.reverse (gfMul x x))))

/-- A received word of RS(n, n − 16) corrected (R138): the symbols corrected, at most 8, and the word; none where it cannot be. -/
def rsDecode (w : Bytes) : Option (Nat × Bytes) :=
  let syn := syndromes w
  let n := w.length
  let l := locate syn
  let roots := (List.range n).filter fun k => polyAt l.loc.reverse (gfInv (gfPow k)) = 0
  let fixed := (List.range n).map fun i =>
    let k := n - 1 - i
    byteAt w i ^^^ (if roots.contains k then errorAt syn l.loc k else 0)
  if roots.length = l.deg ∧ l.deg ≤ 8 ∧ syndromes fixed = zeros 16 then some (l.deg, fixed) else none

/-- Byte j of a row of the VBL frame that lane l received in frame f, descrambled (R139). -/
def vblRxByte (l f row j : Nat) : Byte :=
  let b := Config.lineByte l f (38880 * row + j)
  if row = 0 ∧ j < 16 then b else b ^^^ scramblerByte (vblScramblerBit row j / 8)

/-- Codeword c of a row as received, and as decoded (R138). -/
def vblDecode (l f row c : Nat) : Option (Nat × Bytes) := rsDecode ((List.range 243).map fun k => vblRxByte l f row (160 * k + c))

/-- Byte j of a row as the receiver passes it on: corrected where its codeword can be (R138). -/
def vblRxData (l f row j : Nat) : Byte :=
  match vblDecode l f row (vblSymbol j).1 with
  | some x => byteAt x.2 (vblSymbol j).2
  | none => vblRxByte l f row j

/-- The decoding of the 1,440 codewords of the last VBL frame received: their corrected symbols. -/
def vblErrors (s : State) (l : Nat) : List (Option Nat) :=
  (List.range 1440).map fun k => (vblDecode l (s.clk.fn - 1).toNat (k / 160) (k % 160)).map (·.1)

/-- CORR: the symbols corrected in it, saturating (R138, R140). -/
def vblCorr (s : State) (l : Nat) : Nat := min 0xFFFF ((vblErrors s l).foldl (fun n x => n + x.getD 0) 0)

/-- UNCORR: its codewords that cannot be corrected (R138, R140). -/
def vblUncorr (s : State) (l : Nat) : Nat := (vblErrors s l).countP (·.isNone)

/-- Bytes 16 to 107 of a VBL header (R140). -/
def vblHeader (s : State) (l : Nat) : Bytes :=
  let c := laneCfg s.cfg l
  let ann := announcement s
  let rx := tget {} s.lane.vbl l
  let link := 0x80 * nat01 (tget {} s.lane.rx l).inFrame + 0x40 * nat01 (vblRemoteFail s l) +
    0x20 * nat01 (decide (0 < rx.bad))
  let body := [0x01, BitVec.ofNat 8 (vblFlags s)] ++ toBE 6 s.clk.fn.toNat ++ toBE 4 s.twin.epoch.toNat ++ toBE 2 l ++
    [BitVec.ofNat 8 (16 * ownSlice s + 8 * nat01 (ownUnit s)), 0] ++ toBE 4 c.shelfTag.toNat ++ toBE 6 ann.2.1.toNat ++
    toBE 8 ann.2.2 ++ vblDefectBits s l ++ toBE 2 (vblCorr s l) ++
    toBE 2 (vblUncorr s l) ++ [BitVec.ofNat 8 link, 0]
  body ++ crcBE body

/-- A message of the channel (R144). -/
def vblMessage (type seq : Byte) (payload : Bytes) : Bytes :=
  let m := toBE 2 payload.length ++ [type, seq] ++ payload
  m ++ crcBE m

/-- The alignment word of a VBL frame (R140). -/
def vblAlign : Bytes :=
  [0x3B, 0x9C, 0x4E, 0xA5, 0x71, 0xD2, 0x0F, 0x86, 0xE3, 0x5A, 0xC9, 0x27, 0xB4, 0x68, 0x1D, 0xF0]

-- The mate link, the Gatehouse ports and the group.

/-- Lease fields: the lease end, or 0. -/
def leaseEndField (s : State) : Nat := match s.twin.leaseEnd with | some e => e.toNat | none => 0

/-- The alignment block of a lane: header 10 and its word (R238). -/
def alignBlock (lane : Bool) : BitVec 66 := if lane then 0x25C3AE0916D2BF482 else 0x2A3C51F6E92D40B7D

/-- RX_OFFSET of a lane (R240). -/
def rxOffsetOf (s : State) (lane : Bool) : Nat := if lane then s.twin.rxOffset1 else s.twin.rxOffset

/-- Bytes 0 to 59 of the mate-link header in service (R240). -/
def mateFields (s : State) (lane : Bool) : Bytes :=
  [0x01, BitVec.ofNat 8 (0x80 * nat01 (ownUnit s) + 0x20 * ownSlice s + 0x10 * nat01 lane),
   BitVec.ofNat 8 (modeCode s.mode.mode + 16 * syncCode s),
   BitVec.ofNat 8 (s.tim.dpll.toNat + 8 * nat01 s.tim.aligned + 16 * (outputQl s).toNat)] ++
  toBE 6 s.clk.fn.toNat ++ toBE 4 s.twin.epoch.toNat ++
  [BitVec.ofNat 8 (s.twin.lease.toNat + 4 * nat01 (heardGrant s s.twin.gha) + 8 * nat01 (heardGrant s s.twin.ghb)), 0] ++
  toBE 6 (leaseEndField s) ++ toBE 8 s.page.live.epoch.toNat ++ toBE 8 s.page.liveFp.toNat ++ toBE 8 s.twin.mirrorSeq ++
  toBE 4 (rxOffsetOf s lane) ++ toBE 2 s.twin.heartbeat.toNat ++ toBE 2 (health s).toNat ++ zeros 6

/-- Replace n bytes of a string at `off`. -/
def splice (bs : Bytes) (off : Nat) (new : Bytes) : Bytes :=
  bs.take off ++ new ++ bs.drop (off + new.length)

/-- Bytes 0 to 59 during a warm reset (R240): the hardware keeps FN, DPLL state, TIMING_ALIGNED, RX_OFFSET, HEARTBEAT and
LEASE_STATE current. -/
def mateHeld (s : State) (lane : Bool) : Bytes :=
  let h := s.twin.lastHdr
  let b1 := (byteAt h 1 &&& 0xE0) ||| BitVec.ofNat 8 (0x10 * nat01 lane + 8)
  let b3 := (byteAt h 3 &&& 0xF0) ||| BitVec.ofNat 8 (s.tim.dpll.toNat + 8 * nat01 s.tim.aligned)
  let b14 := (byteAt h 14 &&& 0xFC) ||| s.twin.lease.setWidth 8
  let h := splice (splice (splice (splice (fit 60 h) 1 [b1]) 3 [b3]) 4 (toBE 6 s.clk.fn.toNat)) 14 [b14]
  splice (splice h 46 (toBE 4 (rxOffsetOf s lane))) 50 (toBE 2 s.twin.heartbeat.toNat)

/-- The 64-byte header of a mate lane (R240). -/
def mateHeader (s : State) (lane : Bool) : Bytes :=
  let b := if s.mode.mode = .boot then mateHeld s lane else mateFields s lane
  b ++ crcBE b

/-- ELIGIBLE (R247). -/
def eligible (s : State) : Bool :=
  let h := health s
  decide (s.mode.mode = .standby) && decide (s.mode.sync = 3 ∨ s.mode.sync = 5) && fld h 4 3 == 0 &&
    (decide (s.mode.sync ≠ 3) || fld h 0 4 == 0)

/-- A unit that R32 lists as sending STATUS. -/
def sendsStatus (s : State) : Bool :=
  s.cfg.twin.isSome && decide (s.mode.mode = .quiet ∨ s.mode.mode = .active ∨ s.mode.mode = .standby ∨
    s.mode.mode = .isolated)

/-- The unit holds the lease: granted or carried (R240, R246). -/
def holdsLease (s : State) : Bool := decide (s.twin.lease = 1 ∨ s.twin.lease = 2)

/-- A provisioned lane is in LOS, LOF, VBL-LOS or VBL-LOF (R246). -/
def laneFailed (s : State) (l : Nat) : Bool :=
  decide (laneMode s.cfg l ≠ 0) && (anyBit (defects s 0 l) [bLos, bLof] || anyBit (defects s 5 l) [bLos, bLof] ||
    anyBit (defects s 7 l) [bVblLos, bVblLof])

/-- FAILED_LANES (R246). -/
def failedLanes (s : State) : Nat := (List.range 128).countP fun l => laneFailed s l

/-- MAC of R250: the first 8 bytes of HMAC-SHA-256. -/
def ghMac (key msg : Bytes) : Bytes := (hmac256 key msg).take 8

/-- A STATUS message (R246). -/
def statusMsg (s : State) (b : Bool) (seq : Word32) : Bytes :=
  let p := if b then s.twin.ghb else s.twin.gha
  let key := if b then s.flash.keyB else s.flash.keyA
  let mac := decide (p.mode ≠ 0) && key.isSome
  let flags := nat01 (holdsLease s) + 2 * nat01 s.twin.release + 4 * nat01 (eligible s) +
    8 * nat01 (decide (s.twin.lease = 2)) + 16 * nat01 s.twin.linkUp + 32 * nat01 mac
  let m : Bytes :=
    [0x01, 0x01, BitVec.ofNat 8 (0x80 * nat01 (ownUnit s) + 0x20 * ownSlice s + 0x10 * nat01 b),
     BitVec.ofNat 8 (modeCode s.mode.mode + 16 * syncCode s), BitVec.ofNat 8 flags, BitVec.ofNat 8 (failedLanes s)] ++
    toBE 2 (health s).toNat ++ toBE 6 s.clk.fn.toNat ++ toBE 4 s.twin.epoch.toNat ++ toBE 6 (leaseEndField s) ++
    toBE 4 seq.toNat ++ toBE 4 p.grantSeq.toNat ++ toBE 8 s.page.live.epoch.toNat ++ toBE 8 s.page.liveFp.toNat ++ zeros 4
  let m := m ++ (if mac then ghMac (key.getD []) m else zeros 8)
  m ++ crcBE m

/-- What a change of which sends an extra STATUS (R246): mode, role, LEASE_STATE and ELIGIBLE. -/
def statusShown (s : State) : Nat :=
  modeCode s.mode.mode + 16 * nat01 (roleShown s) + 32 * s.twin.lease.toNat + 128 * nat01 (eligible s)

/-- The Bellwether in this unit's view: in a pair outside a group, its active unit (R277). -/
def bellView (s : State) : Option Nat :=
  if s.cfg.group.isSome then s.grp.bell
  else if s.mode.mode = .active then some (ownMember s)
  else if s.twin.linkUp ∧ (byteAt s.twin.hdr.raw 2).toNat % 16 = 4 then some (2 * ownSlice s + nat01 (!ownUnit s))
  else none

/-- A group record of this unit (R275): in a pair outside a group GROUP_ID is 0 (R243). -/
def groupRecord (s : State) : Bytes :=
  let gid := match s.cfg.group with | some g => g.gid.toNat | none => 0
  let flags := nat01 (roleShown s) + 2 * nat01 (fld (health s) 4 3 == 0) + 4 * nat01 s.grp.fenced + 8 * nat01 s.grp.behind
  toBE 4 gid ++ [BitVec.ofNat 8 (modeCode s.mode.mode + 16 * syncCode s), BitVec.ofNat 8 flags] ++
    toBE 4 s.twin.epoch.toNat ++ toBE 6 s.clk.fn.toNat ++ toBE 2 s.img.compat.toNat ++ toBE 8 s.img.manifest.toNat ++
    toBE 8 s.cfg.epoch.toNat ++ toBE 8 s.page.live.epoch.toNat ++ toBE 8 s.page.liveFp.toNat ++
    [BitVec.ofNat 8 (s.tim.dpll.toNat + 16 * (outputQl s).toNat), BitVec.ofNat 8 (pageCode s.page.state)] ++
    toBE 2 (health s).toNat ++ [BitVec.ofNat 8 (memberByte (bellView s)), 0] ++
    toBE 4 (match s.page.job with | some j => j.id.toNat | none => 0) ++ zeros 4

end Sys2Proof.Machine
end

