-- ==== Sys2Proof/Machine/VblRows.lean ====
section
/-! DEFINITION. What a Vernolum lane receives: headers and the slot defect bitmap (R140 to R142), distrust (R181, R182),
messages (R144, R145, R329), alignment (R150) and its defects (R151, R152). -/
namespace Sys2Proof.Machine

/-- The receiver of a lane, or of the SONET signal recovered from an ODU: key 256 + FP (R154). -/
def rxOf (s : State) (k : Nat) : RxState := tget {} s.lane.rx k

/-- Replace it. -/
def putRx (k : Nat) (x : RxState) (s : State) : State := { s with lane := { s.lane with rx := tset {} s.lane.rx k x } }

/-- What a VBL lane has received. -/
def vblOf (s : State) (l : Nat) : VblRx := tget {} s.lane.vbl l

/-- Replace it. -/
def putVbl (l : Nat) (x : VblRx) (s : State) : State := { s with lane := { s.lane with vbl := tset {} s.lane.vbl l x } }

/-- A lane runs the VBL (R129). -/
def isVbl (s : State) (l : Nat) : Bool := decide (l < 128) && decide (laneMode s.cfg l = 0x18)

/-- Bytes from the header's byte 16 to a field of R140. -/
def vblField (m : Bytes) (off n : Nat) : Nat := be m (off - 16) n

/-- DEFECT bit v of a header (R142). -/
def headerBit (m : Bytes) (v : Nat) : Bool := bit (byteAt m (34 + v / 8)) (7 - v % 8)

/-- The ingress GS of VBL slot v (R40, R146). -/
def vblGs (s : State) (l v : Nat) : Option Nat := (portsOfLane s.cfg l).head?.map fun p => 192 * (p + v / 192) + v % 192

/-- Give a slot's filtered bitmap defect a value; the defect is reported on its GS. -/
def setBitmap (l v : Nat) (on : Bool) (s : State) : State :=
  let k := 384 * l + v
  let s := { s with prot := { s.prot with
    bitmap := tset false s.prot.bitmap k on, bitRun := terase s.prot.bitRun k, bitFresh := terase s.prot.bitFresh k } }
  match vblGs s l v with
  | some g => changeDefect 2 g 58 on s
  | none => s

/-- Set the run of a slot's filter. -/
def setBitRun (k n : Nat) (s : State) : State :=
  { s with prot := { s.prot with bitRun := tset 0 s.prot.bitRun k n } }

/-- The two-header filter of a slot (R142); a slot that starts afresh adopts the first two headers that agree (R182), which
is no flip. The count of flips comes with the state. -/
def filterSlot (l : Nat) (m : Bytes) (x : Nat × State) (v : Nat) : Nat × State :=
  let (flips, s) := x
  let k := 384 * l + v
  let b := headerBit m v
  let run := tget 0 s.prot.bitRun k
  if tget false s.prot.bitFresh k then
    if run = 1 + nat01 b then (flips, setBitmap l v b s) else (flips, setBitRun k (1 + nat01 b) s)
  else if tget false s.prot.bitmap k = b then (flips, setBitRun k 0 s)
  else if 1 ≤ run then (flips + 1, setBitmap l v b s)
  else (flips, setBitRun k 1 s)

/-- FLIP_LIMIT and TRUST_DELAY of a lane (R181). -/
def distrustCfg (s : State) (l : Nat) : Nat × Nat := tget (1024, 60) s.cfg.distrust l

/-- Count flips; above FLIP_LIMIT the lane is distrusted from the next frame (R181, R182). -/
def countFlips (l n : Nat) (s : State) : State :=
  let d := distrustOf s l
  let s := if n = 0 then s else putDistrust l { d with flips := d.flips + n } s
  let lim := (distrustCfg s l).1
  if lim ≠ 0 ∧ lim < d.flips + n ∧ !d.on then setDistrust l true false (s.clk.fn + 1) s else s

/-- The bitmap of a valid header passes the filter, except while the lane delivers nothing (R152, R182). -/
def takeBitmap (l : Nat) (m : Bytes) (s : State) : State :=
  if vblDown s l then s
  else
    let x := (List.range 384).foldl (filterSlot l m) (0, s)
    countFlips l x.1 x.2

/-- A run of headers that agree on a test: its value now and its length. -/
def runOn (was now : Bool) (n : Nat) : Nat := if was = now then n + 1 else 1

/-- A header arrives (R140): a failed CRC discards it; the runs that VBL-HDR, VBL-ID and VBL-RF need are counted (R151). -/
def headerRx (l : Nat) (m : Bytes) (s : State) : State :=
  let x := vblOf s l
  if !crcGood m 88 then putVbl l { x with bad := x.bad + 1, good := 0 } s
  else
    let diff := decide (vblField m 32 4 ≠ (laneCfg s.cfg l).cardId.toNat)
    let rf := bit (byteAt m 86) 6
    let x := { x with
      hdr := m, bad := 0, good := x.good + 1, idDiff := diff, idRun := runOn x.idDiff diff x.idRun, rf := rf,
      rfRun := runOn x.rf rf x.rfRun }
    takeBitmap l m (putVbl l x s)

/-- VBL_HEADER_RX: bytes 16 to 107 of row 0 of a frame. -/
def execVblHeaderRx (lane : Nat) (m : Bytes) (s : State) : Host.Outcome State Fault Refusal :=
  finish s (if isVbl s lane && (rxOf s lane).inFrame then headerRx lane (fit 92 m) s else s)

/-- Trust returns after TRUST_DELAY quiet seconds (R182). -/
def trustRestore (l : Nat) (s : State) : State :=
  let d := distrustOf s l
  if isVbl s l && d.on && !d.forced && decide ((distrustCfg s l).2 ≤ d.quiet) then
    setDistrust l false false (s.clk.fn + 1) s
  else s

/-- TRUST_RESTORE. -/
def execTrustRestore (lane : Nat) (s : State) : Host.Outcome State Fault Refusal := finish s (trustRestore lane s)

/-- DISTRUST and TRUST are repeated every 8,000 frames while the state holds (R145). -/
def distrustRepeat (l : Nat) (s : State) : State :=
  let d := distrustOf s l
  let n := (s.clk.fn - d.since).toNat
  if isVbl s l ∧ d.since ≠ 0 ∧ n ≠ 0 ∧ n % 8000 = 0 ∧ n < 2 ^ 47 then sendTrust l d.on d.since s else s

/-- DISTRUST_REPEAT. -/
def execDistrustRepeat (lane : Nat) (s : State) : Host.Outcome State Fault Refusal := finish s (distrustRepeat lane s)

/-- What the card of a lane reports, SELECTED and EPOCH_ECHO of its last valid header, and the module to the host (R140, R148): the
manual gives the host no field for them (entry 144). -/
def cardReport (s : State) (l : Nat) : Option (Bool × Nat) :=
  let h := (vblOf s l).hdr
  if h.isEmpty then none else some (bit (byteAt h 1) 7, be h 8 4)

/-- Count a message that is dropped (R144, R145, R329). -/
def dropMessage (l : Nat) (s : State) : State := putVbl l { vblOf s l with dropped := (vblOf s l).dropped + 1 } s

/-- VBL_MESSAGE (R342). -/
def messageNote (l : Nat) (m : Bytes) (addr : Nat) (s : State) : State :=
  post 0x58 [(0, 1, l), (1, 1, (byteAt m 2).toNat), (2, 1, (byteAt m 3).toNat), (4, 2, be m 0 2), (8, 8, addr)] s

/-- Write a message into its buffer, then announce it (R302, R329). -/
def toBuffer (l : Nat) (m : Bytes) (b : Nat × List (Nat × Nat)) (s : State) : State :=
  messageNote l m b.1 { s with
    host := { s.host with mem := writeSegs b.2 0 (slice m 4 (be m 0 2)) s.host.mem } }

/-- The messages that waited for the host's link are written, at a frame start, as soon as it can be used (R364). -/
def flushRx (s : State) : State :=
  if !entered s ∨ !pmWritable s then s
  else s.lane.rxWait.foldl (fun s x => toBuffer x.1 x.2.1 x.2.2 s) { s with lane := { s.lane with rxWait := [] } }

/-- Relay a message to the host (R329): into the next posted buffer, or dropped where there is none; while the link is unavailable
its transfer waits (R364). -/
def relayMessage (l : Nat) (m : Bytes) (s : State) : State :=
  let x := vblOf s l
  let s := putVbl l { x with relayed := x.relayed + 1, seq := byteAt m 3 } s
  match s.lane.bufs with
  | b :: bs =>
    let s := { s with lane := { s.lane with bufs := bs } }
    if pmWritable s ∧ s.lane.rxWait.isEmpty then toBuffer l m b s
    else { s with lane := { s.lane with rxWait := s.lane.rxWait ++ [(l, m, b)] } }
  | [] => messageNote l m 0 (dropMessage l s)

/-- The block of this frame ends here: what follows in it is not parsed (R144). -/
def stopBlock (l : Nat) (s : State) : State := putVbl l { vblOf s l with stopped := true } s

/-- A message of a VBL lane (R144, R145): one that fails its CRC is counted and ends the parse of its block, as the end header
does; types from 0x40 are relayed, at most 8 in a frame. -/
def messageRx (l : Nat) (m : Bytes) (s : State) : State :=
  let n := be m 0 2
  if (vblOf s l).stopped then s
  else if n = 0 ∧ byteAt m 2 = 0 then stopBlock l s
  else if 4088 < n ∨ m.length ≠ n + 8 ∨ !crcGood m (4 + n) then stopBlock l (dropMessage l s)
  else if (byteAt m 2).toNat < 0x40 then s
  else if 8 ≤ (vblOf s l).relayed then dropMessage l s
  else relayMessage l m s

/-- VBL_MESSAGE_RX: one message as received, from LEN to CRC. -/
def execVblMessageRx (lane : Nat) (m : Bytes) (s : State) : Host.Outcome State Fault Refusal :=
  finish s (if isVbl s lane && (rxOf s lane).inFrame then messageRx lane m s else s)

/-- The element with the least key, the first among equals. -/
def leastBy {α : Type} (key : α → Nat) : List α → Option α
  | [] => none
  | c :: cs => match leastBy key cs with
    | some d => if key d < key c then some d else some c
    | none => some c

/-- Bits in which a received word differs from the alignment word (R150). -/
def wordErrors (w : Bytes) : Nat := ((bitsOf w).zip (bitsOf vblAlign)).countP fun x => x.1 != x.2

/-- A candidate verifies (R150 step 2): word, row-0 codewords and header CRC of the next frame. -/
def candVerifies (c : VblCand) : Bool :=
  decide (c.word.length = 16) && decide (wordErrors c.word ≤ 3) && decide (c.uncorr ≤ 16) && crcGood c.header 88

/-- A position is barred from the search for 32 frames (R150 step 5). That the bar lasts 'until no other candidate has verified
in that time' is taken to say no more than that: it lapses at the end of that time (DESIGN CHOICE, log 119). -/
def barredAt (s : State) (x : RxState) (p : Nat) : Bool :=
  x.barred.any fun b => b.pos == p && decide ((s.clk.fn - b.fn).toNat < 32)

/-- Candidates verify: the one with the fewest uncorrectable row-0 codewords is taken (R150 steps 2 and 3). -/
def vblVerify (l : Nat) (cands : List VblCand) (s : State) : State :=
  let x := rxOf s l
  if !isVbl s l || x.inFrame then s
  else match leastBy (·.uncorr) (cands.filter fun c => candVerifies c && !barredAt s x c.pos) with
    | none => s
    | some c => changeDefect 7 l bVblOof false (putRx l { x with inFrame := true, pos := c.pos, since := s.clk.fn } s)

/-- VBL_FRAME_VERIFY: the candidates of one frame, in the order found. -/
def execVblFrameVerify (lane : Nat) (cands : List VblCand) (s : State) : Host.Outcome State Fault Refusal :=
  finish s (vblVerify lane cands s)

/-- 5 consecutive errored frames (R150 step 4): their alignment words. -/
def wordsLost (ws : List Bytes) : Bool := decide (5 ≤ ws.length) && (ws.drop (ws.length - 5)).all fun w => decide (3 < wordErrors w)

/-- 720 or more uncorrectable codewords in each of 8 consecutive frames (R150 step 5). -/
def falseLocked (ns : List Nat) : Bool := decide (8 ≤ ns.length) && (ns.drop (ns.length - 8)).all fun n => decide (720 ≤ n)

/-- Out of frame (R150 steps 4 and 5), by the words and the uncorrectable codewords of the last frames; a false-lock exit bars the
position. -/
def vblOutOfFrame (l : Nat) (words : List Bytes) (uncorr : List Nat) (s : State) : State :=
  let x := rxOf s l
  let falseLock := falseLocked uncorr
  if !isVbl s l || !x.inFrame || !(wordsLost words || falseLock) then s
  else changeDefect 7 l bVblOof true (putRx l { x with
    inFrame := false, since := s.clk.fn,
    barred := if falseLock then { pos := x.pos, fn := s.clk.fn } :: x.barred else x.barred } s)

/-- VBL_OOF. -/
def execVblOof (lane : Nat) (x : VblSeen) (s : State) : Host.Outcome State Fault Refusal :=
  finish s (vblOutOfFrame lane x.words x.uncorr s)

/-- Every slot of a lane adopts its bitmap afresh (R182). -/
def freshBitmap (l : Nat) (s : State) : State :=
  { s with prot := { s.prot with
    bitFresh := (List.range 384).foldl (fun m v => tset false m (384 * l + v) true) s.prot.bitFresh,
    bitRun := (List.range 384).foldl (fun m v => terase m (384 * l + v)) s.prot.bitRun } }

/-- The uncorrectable codewords of a frame join the count of its second, one that begins at FN mod 8,000 = 0 (R151; DEDUCED, entry
153). -/
def fecFrame (s : State) : State :=
  (List.range 128).foldl (fun s l =>
    if !isVbl s l || !(rxOf s l).inFrame then s
    else
      let v := vblOf s l
      let n := vblUncorr s l
      putVbl l (if s.clk.fn.toNat % 8000 = 0 then { v with uncorrLast := v.uncorr + n, uncorr := 0 } else { v with uncorr := v.uncorr + n }) s) s

/-- The persistence of R151: frames out of frame or in frame, headers, uncorrectable codewords in a second, CARD_ID, REMOTE_FAIL.
VBL-LOS is the signal's. -/
def vblDefectDue (s : State) (l b : Nat) (on : Bool) : Bool :=
  let x := rxOf s l
  let v := vblOf s l
  match b with
  | 45 => true
  | 46 => on != x.inFrame
  | 47 => (on != x.inFrame) && decide (24 ≤ (s.clk.fn - x.since).toNat)
  | 48 => if on then decide (8 ≤ v.bad) else decide (2 ≤ v.good)
  | 49 => if on then decide (8000 < max v.uncorr v.uncorrLast) else decide (v.uncorrLast ≤ 80)
  | 50 => (v.idDiff == on) && decide (3 ≤ v.idRun)
  | 51 => (v.rf == on) && decide (3 ≤ v.rfRun)
  | _ => false

/-- A VBL defect is declared or cleared (R151, R152); when the lane delivers again, the bitmap starts afresh (R182). -/
def vblDefect (l b : Nat) (on : Bool) (s : State) : State :=
  if !isVbl s l || !vblDefectDue s l b on then s
  else
    let was := vblDown s l
    let s := changeDefect 7 l b on s
    evalSlots (if was && !vblDown s l then freshBitmap l s else s)

/-- VBL_DEFECT_CHANGE. -/
def execVblDefectChange (lane : Nat) (b : Nat) (on : Bool) (s : State) : Host.Outcome State Fault Refusal :=
  finish s (vblDefect lane b on s)

/-- The bars of 32 frames that have ended are forgotten (R150 step 5). -/
def vblBarLapse (l : Nat) (s : State) : State :=
  let x := rxOf s l
  if isVbl s l then putRx l { x with barred := x.barred.filter fun b => decide ((s.clk.fn - b.fn).toNat < 32) } s else s

/-- VBL_BAR_LAPSE. -/
def execVblBarLapse (lane : Nat) (s : State) : Host.Outcome State Fault Refusal := finish s (vblBarLapse lane s)

end Sys2Proof.Machine
end

