-- ==== Sys2Proof/Machine/CarrierRows.lean ====
section
/-! DEFINITION. E1 and T1 carriers (R113 to R125): alignment, multiframes, defects, slips and held signalling. -/
namespace Sys2Proof.Machine

/-- State of a carrier. -/
def carOf (s : State) (c : Nat) : CarState := tget {} s.car c

/-- Replace it. -/
def putCar (c : Nat) (x : CarState) (s : State) : State := { s with car := tset {} s.car c x }

/-- The live record of a carrier. -/
def carRec (s : State) (c : Nat) : BitVec 128 := carrierAt s.page.live c

/-- A carrier that the module frames: configured, bound (R111), its DS0 segment powered (R421). -/
def carRuns (s : State) (c : Nat) : Bool := decide (c < 8192) && carrierLive s.page.live c && domOn s (96 + c / 1024)

/-- The carrier has a CRC-4 multiframe (R120). -/
def usesCrc4 (r : BitVec 128) : Bool := !cT1 r && decide (1 ≤ cFraming r)

/-- The carrier has a CAS multiframe of its own (R120). -/
def usesCas (r : BitVec 128) : Bool := !cT1 r && decide (cSignalling r = 1)

/-- Positions a search examines (R119). -/
def carPositions (r : BitVec 128) : Nat := if cT1 r then 193 else 512

/-- Signalling of a carrier is not delivered (R123, R125): it has failed, or has none to deliver now. -/
def signalHeld (s : State) (c : Nat) : Bool :=
  carrierFailed s c || (decide (cSignalling (carRec s c) = 1) && !sigDelivered s c)

/-- Start or end the hold of a carrier's signalling (R125). -/
def evalSig (c : Nat) (s : State) : State :=
  let x := carOf s c
  if signalHeld s c then
    (if x.sigHold.isSome then s else putCar c { x with sigHold := some s.clk.fn, sigIdle := false } s)
  else putCar c { x with sigHold := none, sigIdle := false, sigSeen := x.sigSeen || sigDelivered s c } s

/-- Octets are delivered from the carrier frame after the point of R123, which this frame may bring. -/
def markPoint (c : Nat) (s : State) : State :=
  let x := carOf s c
  let p := if reachesPoint (carRec s c) x then x.point.orElse (fun _ => some s.clk.fn) else none
  putCar c { x with point := p } s

/-- A change of a carrier's defects, with the signalling actions that follow. -/
def carDefect (c b : Nat) (on : Bool) (s : State) : State := evalSig c (changeDefect 4 c b on s)

/-- Take a position (R119): the multiframe is sought from now, unless it has been sought since an earlier alignment. AIS
clears with frame alignment (R124). -/
def carTake (c p : Nat) (amb : Bool) (s : State) : State :=
  let x := carOf s c
  let s := putCar c { x with
    aligned := true, pos := p, tied := [], ambiguous := amb, mf := false, casMf := false, interwork := false,
    seek := (if usesCrc4 (carRec s c) then some (x.seek.getD s.clk.fn) else none), since := s.clk.fn } s
  markPoint c (carDefect c bCarAis false (if amb then changeDefect 4 c bCarAmb true s else s))

/-- Place of a position in the search order: it starts after the position last held or set aside (R119 step 2). -/
def searchPlace (r : BitVec 128) (x : CarState) (p : Nat) : Nat := (p + carPositions r - x.start) % carPositions r

/-- The first position in search order. -/
def firstPlace (r : BitVec 128) (x : CarState) (ps : List Nat) : Option Nat := leastBy (searchPlace r x) ps

/-- A position may be taken: the one that byte-synchronous mapping fixes is called 0 (DESIGN CHOICE, log 123); the others are
barred for 256 frames after a false-lock exit. That a bar lapses early 'if no other position verifies within that time' is
taken to say no more than that it ends then (DESIGN CHOICE, log 119). -/
def mayTake (s : State) (r : BitVec 128) (x : CarState) (p : Nat) : Bool :=
  if cMapping r = 1 then decide (p = 0)
  else decide (p < carPositions r) && !x.barred.any fun b => b.pos == p && decide ((s.clk.fn - b.fn).toNat < 256)

/-- The framing of a carrier is ESF. -/
def isEsf (r : BitVec 128) : Bool := cT1 r && decide (cFraming r = 1)

/-- Positions complete verification in one carrier frame (R119 steps 2 to 4), by the bits received there. While positions are
tied none is taken; a tied one leaves when the bits received there do not verify it, which is a framing error. -/
def carVerify (c : Nat) (cands : List (Nat × Bytes)) (s : State) : State :=
  let x := carOf s c
  let r := carRec s c
  if !carRuns s c || x.aligned || tribBad s c then s
  else
    let cs := (cands.filter fun p => verifies (cT1 r) (isEsf r) p.2 && mayTake s r x p.1).map (·.1)
    let left := x.tied.filter fun p => !(cands.any fun q => q.1 == p && !verifies (cT1 r) (isEsf r) q.2)
    let watch := if left.isEmpty then cs else left
    match watch with
    | [] => putCar c { x with tied := [] } s
    | [p] => carTake c p false s
    | ps => putCar c { x with tied := ps, tiedFn := (if left.isEmpty then s.clk.fn else x.tiedFn) } s

/-- CARRIER_ALIGN_VERIFY: positions, each with the bits received there that verify it or do not. -/
def execCarrierAlignVerify (car : Nat) (cands : List (Nat × Bytes)) (s : State) : Host.Outcome State Fault Refusal :=
  finish s (carVerify car cands s)

/-- More than one position remains after 96 frames: the first in search order is taken (R119 step 3). -/
def carTie (c : Nat) (left : List Nat) (s : State) : State :=
  let x := carOf s c
  if !carRuns s c || x.aligned || decide ((s.clk.fn - x.tiedFn).toNat < 96) then s
  else
    let ps := x.tied.filter fun p => left.contains p
    match firstPlace (carRec s c) x ps with
    | none => s
    | some p => carTake c p (decide (2 ≤ ps.length)) s

/-- CARRIER_TIE_TIMEOUT: the positions still tied. -/
def execCarrierTieTimeout (car : Nat) (left : List Nat) (s : State) : Host.Outcome State Fault Refusal :=
  finish s (carTie car left s)

/-- Alignment is lost (R119, R122): everything that follows it starts again; the ambiguous-alignment flag ends. -/
def carLose (c : Nat) (bar : Bool) (s : State) : State :=
  let x := carOf s c
  let s := putCar c { x with
    aligned := false, tied := [], ambiguous := false, mf := false, casMf := false, interwork := false, since := s.clk.fn,
    point := none, start := (x.pos + 1) % carPositions (carRec s c),
    barred := if bar then { pos := x.pos, fn := s.clk.fn } :: x.barred else x.barred } s
  carDefect c bCarAmb false (bump (96 + c / 1024) 1 1 s)

/-- A false-lock exit (R120, R121): a CRC-4 mode, outside the interworking fallback, whose multiframe has not come within 8 ms
or shows too many errored submultiframes; ESF by its CRC-6. -/
def falseLockDue (s : State) (c errs total : Nat) : Bool :=
  let r := carRec s c
  let x := carOf s c
  x.aligned && (if cT1 r then isEsf r && falseLockErrors true errs total
    else usesCrc4 r && !x.interwork &&
      (if x.mf then falseLockErrors false errs total else decide (64 ≤ (s.clk.fn - x.since).toNat)))

/-- A false-lock exit (R119 steps 4 and 5, R124): the position is barred, except in byte-synchronous mapping; FRAMING 1 is
in LOMF. -/
def carFalseLock (c errs total : Nat) (s : State) : State :=
  let r := carRec s c
  if !carRuns s c || !falseLockDue s c errs total then s
  else
    let s := bump (96 + c / 1024) 2 1 (carLose c (decide (cMapping r ≠ 1)) s)
    if !cT1 r && decide (cFraming r = 1) then carDefect c bCarLomf true s else s

/-- CARRIER_FALSE_LOCK_EXIT: errored submultiframes or superframes, of how many. -/
def execCarrierFalseLockExit (x : Errored) (s : State) : Host.Outcome State Fault Refusal :=
  finish s (carFalseLock x.car x.errs x.total s)

/-- The bars of 256 frames that have ended are forgotten (R119 step 4). -/
def carBarLapse (c : Nat) (s : State) : State :=
  let x := carOf s c
  putCar c { x with barred := x.barred.filter fun b => decide ((s.clk.fn - b.fn).toNat < 256) } s

/-- CARRIER_BAR_LAPSE. -/
def execCarrierBarLapse (car : Nat) (s : State) : Host.Outcome State Fault Refusal := finish s (carBarLapse car s)

/-- After 400 ms without a multiframe an interworking carrier stays on its FAS (R120); the search is retried every 400 ms. -/
def carInterwork (c : Nat) (s : State) : State :=
  let r := carRec s c
  let x := carOf s c
  match x.seek with
  | some f =>
    if carRuns s c ∧ usesCrc4 r ∧ cFraming r = 2 ∧ x.aligned ∧ !x.mf ∧ 3200 ≤ (s.clk.fn - f).toNat then
      evalSig c (markPoint c (putCar c { x with interwork := true, seek := some s.clk.fn } s))
    else s
  | none => s

/-- CARRIER_INTERWORK_FALLBACK. -/
def execCarrierInterworkFallback (car : Nat) (s : State) : Host.Outcome State Fault Refusal := finish s (carInterwork car s)

/-- TRIB is declared (R122, R124): alignment begins again once the tributary is clear. -/
def carTribFails (c : Nat) (s : State) : State :=
  let x := carOf s c
  let s := if x.aligned then carLose c false s else putCar c { x with tied := [] } s
  putCar c { carOf s c with seek := none } s

/-- Whether a carrier defect may change now (R124): TRIB and LOF from the carrier's own state, the others by what is received. -/
def carDefectDue (s : State) (c b : Nat) (on : Bool) (ev : List Nat) : Bool :=
  let x := carOf s c
  let r := carRec s c
  match b with
  | 39 => tribBad s c == on
  | 40 => carrierAisSeen ev on
  | 41 => (on != x.aligned) && decide (24 ≤ (s.clk.fn - x.since).toNat)
  | 42 => on && x.casMf && casLost ev
  | 43 => x.aligned && raiSeen (cT1 r) (isEsf r) ev on
  | 44 => usesCas r && x.casMf && casRaiSeen ev on
  | _ => false

/-- A carrier defect is declared or cleared (R124, R125). -/
def carChange (c b : Nat) (on : Bool) (ev : List Nat) (s : State) : State :=
  if !carRuns s c || !carDefectDue s c b on ev then s
  else
    let s := if b = bCarLomf then putCar c { carOf s c with casMf := false } s else s
    let s := carDefect c b on s
    if b = bTrib && on then carTribFails c s else s

/-- CARRIER_DEFECT_CHANGE, with what has been received. -/
def execCarrierDefectChange (car : Nat) (b : Nat) (x : Shown) (s : State) : Host.Outcome State Fault Refusal :=
  finish s (carChange car b x.on x.ev s)

/-- The slip buffer repeats or deletes one carrier frame for all its time slots (R114): counted; the signalling is not
disturbed. -/
def carSlip (c : Nat) (delete : Bool) (s : State) : State :=
  if carRuns s c && (carOf s c).aligned then
    let x := carOf s c
    bump (96 + c / 1024) 0 1 (putCar c { x with
      slips := x.slips + 1, behind := if delete then x.behind - 1 else x.behind + 1 } s)
  else s

/-- CARRIER_SLIP. -/
def execCarrierSlip (car : Nat) (delete : Bool) (s : State) : Host.Outcome State Fault Refusal := finish s (carSlip car delete s)

/-- The hold time of a failed carrier's signalling ends (R125): SIG_HOLD × 100 ms. -/
def carSigExpiry (c : Nat) (s : State) : State :=
  let x := carOf s c
  match x.sigHold with
  | some f => if !x.sigIdle ∧ 800 * cSigHold (carRec s c) ≤ (s.clk.fn - f).toNat then putCar c { x with sigIdle := true } s else s
  | none => s

/-- SIG_HOLD_EXPIRY. -/
def execSigHoldExpiry (car : Nat) (s : State) : Host.Outcome State Fault Refusal := finish s (carSigExpiry car s)

/-- An aligned carrier loses alignment by the framing bits received (R120, R121). -/
def carLoss (c : Nat) (ev : List Nat) (s : State) : State :=
  let r := carRec s c
  if carRuns s c && (carOf s c).aligned && losesAlignment (cT1 r) (isEsf r) (cNfasLoss r) ev then
    let s := carLose c false s
    putCar c { carOf s c with seek := none } s
  else s

/-- CARRIER_LOSS_OF_ALIGNMENT. -/
def execCarrierLossOfAlignment (x : Watched) (s : State) : Host.Outcome State Fault Refusal :=
  finish s (carLoss x.obj x.ev s)

/-- A multiframe is found (R120, R123): LOMF clears once every multiframe of the carrier is aligned (R124). In the interworking
fallback too one is taken whenever it is found: what 'retries every 400 ms' bounds is the search, whose length R120 does not
give (DESIGN CHOICE, entry 150). -/
def carMultiframe (c : Nat) (cas : Bool) (ev : List Nat) (s : State) : State :=
  let r := carRec s c
  let x := carOf s c
  if !carRuns s c || !x.aligned || !(if cas then usesCas r && casFound ev else usesCrc4 r && crc4Found s.clk.fn.toNat ev) then s
  else
    let x := if cas then { x with casMf := true } else { x with mf := true, interwork := false, seek := none }
    let s := markPoint c (putCar c x s)
    if (x.casMf || !usesCas r) && (x.mf || decide (cFraming r ≠ 1)) then carDefect c bCarLomf false s else evalSig c s

/-- MULTIFRAME_ALIGNMENT: time slots 16 of two frames for CAS, the FNs of the MFAS found for CRC-4. -/
def execMultiframeAlignment (car : Nat) (x : Shown) (s : State) : Host.Outcome State Fault Refusal :=
  finish s (carMultiframe car x.on x.ev s)

/-- Each frame, the signalling of every carrier follows its failures (R125). -/
def carFrame (s : State) : State :=
  s.page.live.car.foldl (fun s x => if carrierLive s.page.live x.1 then evalSig x.1 s else s) s

end Sys2Proof.Machine
end

