-- ==== Sys2Proof/Machine/CommitRows.lean ====
section
/-! DEFINITION. The happenings of a commit: the solver's end, readiness, final point and swap (R53, R82 to R90), the
messages and deadlines of R281 and R282, and the closing of journal records (R432). A happening whose condition does not
hold in the state leaves it unchanged. -/
namespace Sys2Proof.Machine

/-- ROUTE_SOLVE_DONE (R53): the schedule is written and checked. -/
def execRouteSolveDone (s : State) : Host.Outcome State Fault Refusal :=
  finish s (if s.page.solving.isSome then solved s else s)

/-- A step of the frame's start is due: FRAME_START found it so, and its row has not come yet. -/
def stepDue (x : StartStep) (s : State) : Bool := s.clk.start.contains x

/-- A step of the frame's start is done. -/
def stepDone (x : StartStep) (s : State) : State := { s with clk := { s.clk with start := s.clk.start.filter (· != x) } }

/-- The readiness point of a commit outside a pair falls at target FN − 24 (R55, R82). -/
def readinessDue (s : State) : Bool :=
  match s.page.job with
  | some j => !inPair s && decide (s.clk.fn = fnOf j.target - 24) && decide (s.page.state ≠ .final)
  | none => false

/-- READINESS_POINT (R55, R82, R84): a power-fail warning or a schedule that is not ready is a cause; otherwise the
announcement begins (R90). -/
def readiness (s : State) : State :=
  match s.page.job with
  | none => s
  | some j =>
    if s.pwr.pfw then resolveCause stTimeout false s
    else if !j.ready then resolveCause stTimeout true s
    else setJob (some { j with announced := true }) s

/-- The final point of a commit falls at target FN − 8 (R82, R282). -/
def finalDue (s : State) : Bool :=
  match s.page.job with
  | some j => decide (s.clk.fn = fnOf j.target - 8) && decide (s.page.state ≠ .final)
  | none => false

/-- The staged page is past the final point. -/
def toFinal (s : State) : State := { s with page := { s.page with state := .final } }

/-- A commit that another member decides, and that this one does not swap at the boundary aimed at (R85, R94): held for the next, or
ended by FAIL or the last retry; one of this unit's own host waits to hear whether it was made. -/
def heldOver (s : State) : State :=
  match s.page.job with
  | none => s
  | some j =>
    if j.flag = .fail ∨ 8 ≤ j.retries then (if j.own then s else openPage s)
    else setJob (some { clearRound j with aborted := true, target := j.target + 1, retries := j.retries + 1 }) s

/-- A commit of this unit's own host, decided elsewhere, of which nothing has been heard for a boundary after the last one tried: it
ends with GROUP_DISAGREE (R84, R94; DESIGN CHOICE, log 118). -/
def issuerLapse (s : State) : State :=
  match s.page.job with
  | some j =>
    if j.own ∧ inPair s ∧ !isBellwether s ∧ s.page.state ≠ .final ∧ (j.flag = .fail ∨ 8 ≤ j.retries) ∧
        fnGe s.clk.fn (fnOf j.target + 48) then stopCommit stGroupDisagree s
    else s
  | none => s

/-- The final point (R82, R96, R282): a commit without its announcement or its COMMIT does not pass it, nor does the
Bellwether's or a lone module's under a warning. -/
def finalPoint (s : State) : State :=
  match s.page.job with
  | none => s
  | some j =>
    if inPair s ∧ isBellwether s then
      if s.pwr.pfw then abortRound 5 stTimeout s
      else if j.announced then toFinal s
      else if j.sentCommit then abortRound 4 stGroupDisagree s
      else if j.prepared then abortRound 2 stGroupDisagree s
      else resolveCause stTimeout (!j.ready) s
    else if inPair s then if j.holdsCommit ∧ !j.aborted ∧ takesPart s j then toFinal s else heldOver s
    else if s.pwr.pfw then resolveCause stTimeout false s
    else if j.announced then toFinal s
    else resolveCause stTimeout (!j.ready) s

/-- The frame of a swap: the commit is past its final point and its target FN has come. -/
def swapDue (s : State) : Bool :=
  match s.page.job with
  | some j => decide (s.page.state = .final) && decide (s.clk.fn = fnOf j.target)
  | none => false

/-- COMMIT_SWAP (R82, R89, R91): all tiers swap; selectors cross under R92 and are then evaluated on this frame's map. A
standby powers on what the page needs (R262). -/
def commitSwap (s : State) : State :=
  match s.page.job with
  | none => s
  | some j =>
    if !swapDue s then s else
    let s' := swapPage s j
    let s' := if s.mode.mode = .standby then
        { s' with pwr := { s'.pwr with dom := (neededDomains s'.page.live).foldl (fun m d => tset .off m d .on) s'.pwr.dom } }
      else s'
    let s' := tapCheck s (recordSwap j s')
    afterSwap j (evalSelectors s' s')

/-- Bytes of the journal area (R429). -/
def journalArea : Nat := 50331648

/-- The journal faults (R434): CMEM.JOURNAL_FAULT and the event of its kind. -/
def faultJournal (s : State) : State :=
  raise gCmem 5 (journalNote 2 (s.jrn.nextSeq - 1) { s with jrn := { s.jrn with fault := true } })

/-- Close one record: it takes the next sequence number, is appended to the journal, counted in its fill and mirrored
(R240, R242, R432); while the journal faults it is lost, and where the journal is full it faults (R434). -/
def closeRecord (rec : JRecord) (s : State) : State :=
  if s.jrn.fault then { s with flash := { s.flash with lostRecord := true } } else
  if journalArea < s.flash.used + s.flash.spill + rec.size then
    faultJournal { s with flash := { s.flash with lostRecord := true } }
  else
  let r := { rec with seq := s.jrn.nextSeq }
  let s := { s with jrn := { s.jrn with nextSeq := s.jrn.nextSeq + 1 } }
  let s := bump 111 3 1 { s with
    flash := { s.flash with journal := s.flash.journal ++ [r], used := s.flash.used + r.size },
    img := { s.img with readBack := s.img.readBack || (decide (s.img.state = 4) && r.macOk && r.crcOk) },
    twin := { s.twin with mirrorSeq := if s.mode.mode = .standby then s.twin.mirrorSeq else r.seq } }
  if s.mode.mode = .active ∧ s.twin.linkUp then sendMate 0x02 (Config.recordPayload r) s else s

/-- Place of the record that closes next: the oldest, or while a power-fail warning stands the oldest commit record (R96,
R427). -/
def nextRecord (s : State) : Nat :=
  if s.pwr.pfw then s.jrn.due.findIdx fun r => decide (r.kind = .commit) else 0

/-- JOURNAL_RECORD_CLOSE (R89, R432). -/
def journalClose (s : State) : State :=
  let i := nextRecord s
  match s.jrn.due[i]? with
  | none => s
  | some r => closeRecord r { s with jrn := { s.jrn with due := s.jrn.due.eraseIdx i } }

/-- JOURNAL_RECORD_CLOSE (R432). -/
def execJournalRecordClose (s : State) : Host.Outcome State Fault Refusal := finish s (journalClose s)

/-- PREPARE_DEADLINE at T − 96 (R281): without a schedule the commit resolves by its flag with cause TIMEOUT. -/
def prepareDeadline (s : State) : State :=
  match s.page.job with
  | none => s
  | some j =>
    if !isBellwether s ∨ s.clk.fn ≠ fnOf j.target - 96 ∨ j.prepared then s
    else resolveCause stTimeout (!j.ready) s

/-- PREPARE_DEADLINE (R281). -/
def execPrepareDeadline (s : State) : Host.Outcome State Fault Refusal := finish s (prepareDeadline s)

/-- COMMIT_ID of a message (R279). -/
def msgId (m : Bytes) : Word32 := BitVec.ofNat 32 (be m 0 4)

/-- BN of a message's TARGET_FN (R279). -/
def msgTarget (m : Bytes) : Nat := be m 4 6 / 48

/-- A message is of the commit in progress and of the boundary aimed at (R282): others are discarded. -/
def ofRound (j : CommitJob) (m : Bytes) : Bool := decide (j.id = msgId m) && decide (j.target = msgTarget m)

/-- The member that sent a message: 2 × slice + unit. -/
def memberOf (slice : Nat) (unit : Bool) : Nat := 2 * slice + nat01 unit

/-- The commit that a PREPARE describes, as a participant holds it (R279). -/
def jobOfPrepare (s : State) (slice : Nat) (unit : Bool) (m : Bytes) : CommitJob :=
  let bn := msgTarget m
  let parts := (byteAt m 11).toNat
  let part := (byteAt m 10).toNat - 1
  { tok := none, first := bn, target := bn,
    flag := (commitFlag ((byteAt m 12).toNat % 4)).getD .defer, startFn := s.clk.fn,
    retries := (byteAt m 12).toNat / 16, incremental := incremental s.page.live s.page.staged, ready := false,
    id := msgId m, parts := if parts ≤ 1 then [s.page.staged] else (partition s.page.live s.page.staged),
    part := part, nParts := parts, swapped := [], cause := none, announced := false, own := false, slice := slice,
    unit := unit, stagedFp := s.page.stagedFp, prepared := true, sentCommit := false, holdsCommit := false,
    aborted := false, refused := false, participants := byteAt m 13, readyFrom := 0, ackFrom := 0 }

/-- PREPARE of a later part at a participant (R283): kept in its place behind those it knows, and answered with READY once its
schedule is known. -/
def prepareLater (j : CommitJob) (m : Bytes) (s : State) : State :=
  let k := (byteAt m 10).toNat - (j.part + 2)
  let a : Ahead := { id := msgId m, target := msgTarget m, participants := byteAt m 13, readyFrom := 0 }
  if (byteAt m 10).toNat < j.part + 2 ∨ j.ahead.length < k ∨ j.parts.length ≤ k + 1 then s
  else readyAhead (setJob (some { j with ahead := j.ahead.take k ++ [a] }) s)

/-- PREPARE at a participant (R281): it seals its mirrored page and solves; READY follows when its schedule is ready. A
repeat is answered with READY again; a PREPARE of a later retry starts the round afresh, and one that brings a partition follows
it (R87). -/
def prepareRx (slice : Nat) (unit : Bool) (m : Bytes) (s : State) : State :=
  let mayTake := (decide (s.mode.mode = .active) || (decide (s.mode.mode = .standby) && decide (s.mode.sync = 3))) &&
    !s.grp.fenced && !s.grp.behind && !isBellwether s && msgId m != 0 && (byteAt m 13) &&& memberBit (ownMember s) != 0
  if !mayTake then s else
  match s.page.job with
  | some j =>
    if j.id ≠ msgId m then prepareLater j m s
    else if j.nParts < (byteAt m 11).toNat ∧ j.part = 0 then
      setJob (some { clearRound (partJob s j) with
        target := msgTarget m, retries := (byteAt m 12).toNat / 16, prepared := true, participants := byteAt m 13 })
        { s with page := { s.page with solving := some s.clk.fn } }
    else if j.aborted ∨ j.retries < (byteAt m 12).toNat / 16 then
      tryReady (setJob (some { clearRound j with
        target := msgTarget m, retries := (byteAt m 12).toNat / 16, prepared := true, participants := byteAt m 13 }) s)
    else tryReady (setJob (some { j with target := msgTarget m, prepared := true, participants := byteAt m 13 }) s)
  | none =>
    if s.page.state ≠ .opened then s
    else { s with page := { s.page with
      state := .sealed, job := some (jobOfPrepare s slice unit m), solving := some s.clk.fn, kept := false } }

/-- PREPARE_RX (R281). -/
def execPrepareRx (slice : Nat) (unit : Bool) (m : Bytes) (s : State) : Host.Outcome State Fault Refusal :=
  finish s (prepareRx slice unit m s)

/-- READY at the Bellwether (R281): a different fingerprint aborts (cause 3); the last one lets COMMIT go. READY for a later part is
kept for its turn (R283). -/
def readyRx (slice : Nat) (unit : Bool) (m : Bytes) (s : State) : State :=
  match s.page.job with
  | none => s
  | some j =>
    if isBellwether s ∧ (j.ahead.any fun a => a.id == msgId m) ∧ be m 14 8 = s.page.stagedFp.toNat then
      let kept := j.ahead.map fun a =>
        if a.id = msgId m ∧ a.target = msgTarget m then
          { a with readyFrom := a.readyFrom ||| memberBit (memberOf slice unit) }
        else a
      setJob (some { j with ahead := kept }) s
    else if !isBellwether s ∨ !ofRound j m ∨ !j.prepared ∨ j.sentCommit then s
    else if be m 14 8 ≠ s.page.stagedFp.toNat then abortRound 3 stGroupDisagree s
    else checkReady (setJob (some { j with readyFrom := j.readyFrom ||| memberBit (memberOf slice unit) }) s)

/-- READY_RX (R281). -/
def execReadyRx (slice : Nat) (unit : Bool) (m : Bytes) (s : State) : Host.Outcome State Fault Refusal :=
  finish s (readyRx slice unit m s)

/-- READY_DEADLINE at T − 28 (R281): a READY that is missing aborts with cause 2; the Bellwether's own, withheld by a power-fail
warning, resolves with TIMEOUT as a REFUSE does (R96). -/
def readyDeadline (s : State) : State :=
  match s.page.job with
  | none => s
  | some j =>
    if isBellwether s ∧ s.clk.fn = fnOf j.target - 28 ∧ j.prepared ∧ !j.sentCommit then
      if s.pwr.pfw then abortRound 5 stTimeout s else abortRound 2 stGroupDisagree s
    else s

/-- READY_DEADLINE (R281). -/
def execReadyDeadline (s : State) : Host.Outcome State Fault Refusal := finish s (readyDeadline s)

/-- COMMIT at a participant (R281, R90, R96): it holds COMMIT, acknowledges and announces; a power-fail warning withholds
the acknowledgement. -/
def commitRx (m : Bytes) (s : State) : State :=
  match s.page.job with
  | none => s
  | some j =>
    if isBellwether s ∨ !ofRound j m ∨ j.aborted ∨ !takesPart s j ∨ s.page.state = .final ∨ s.pwr.pfw then s
    else sendCommitMsg 0x13 (commitPayload j 0 0) (setJob (some { j with holdsCommit := true, announced := true }) s)

/-- COMMIT_RX (R281). -/
def execCommitRx (_slice : Nat) (_unit : Bool) (m : Bytes) (s : State) : Host.Outcome State Fault Refusal :=
  finish s (commitRx m s)

/-- ACK at the Bellwether (R281): the last one starts the announcement. -/
def ackRx (slice : Nat) (unit : Bool) (m : Bytes) (s : State) : State :=
  match s.page.job with
  | none => s
  | some j =>
    if !isBellwether s ∨ !ofRound j m ∨ !j.sentCommit then s
    else checkAcks (setJob (some { j with ackFrom := j.ackFrom ||| memberBit (memberOf slice unit) }) s)

/-- ACK_RX (R281). -/
def execAckRx (slice : Nat) (unit : Bool) (m : Bytes) (s : State) : Host.Outcome State Fault Refusal :=
  finish s (ackRx slice unit m s)

/-- ACK_DEADLINE at T − 24 (R281): an ACK that is missing aborts with cause 4; the Bellwether's own, withheld by a power-fail
warning, with cause 5 (R96). -/
def ackDeadline (s : State) : State :=
  match s.page.job with
  | none => s
  | some j =>
    if isBellwether s ∧ s.clk.fn = fnOf j.target - 24 ∧ j.sentCommit ∧ !j.announced then
      if s.pwr.pfw then abortRound 5 stTimeout s else abortRound 4 stGroupDisagree s
    else s

/-- ACK_DEADLINE (R281). -/
def execAckDeadline (s : State) : Host.Outcome State Fault Refusal := finish s (ackDeadline s)

/-- Status of a commit that an ABORT's cause ends (R281). -/
def abortStatus (cause : Byte) : Byte := if cause = 5 then stTimeout else stGroupDisagree

/-- ABORT at a participant before its own T − 8 (R282): it will not swap. CONN_ABORT (cause 1) cancels the commit; any other
cause resolves it by its flag, on the unit whose host issued it with a completion (R85, R94). -/
def abortRx (m : Bytes) (s : State) : State :=
  match s.page.job with
  | none => s
  | some j =>
    if !isBellwether s ∧ (j.ahead.any fun a => a.id == msgId m && a.target == msgTarget m) then
      setJob (some { j with ahead := j.ahead.takeWhile fun a => a.id != msgId m }) s
    else if isBellwether s ∨ !ofRound j m ∨ s.page.state = .final ∨ fnGe s.clk.fn (fnOf j.target - 8) then s
    else if byteAt m 22 = 1 then (if j.own then cancelJob s else openPage s)
    else if j.own then resolveCause (abortStatus (byteAt m 22)) false s
    else heldOver s

/-- ABORT_RX (R282). -/
def execAbortRx (_slice : Nat) (_unit : Bool) (m : Bytes) (s : State) : Host.Outcome State Fault Refusal :=
  finish s (abortRx m s)

/-- REFUSE at the Bellwether (R281): ABORT with cause 5, status TIMEOUT, no later than T − 8. -/
def refuseRx (m : Bytes) (s : State) : State :=
  match s.page.job with
  | none => s
  | some j =>
    if !isBellwether s ∨ !ofRound j m ∨ s.page.state = .final then s else abortRound 5 stTimeout s

/-- REFUSE_RX (R281). -/
def execRefuseRx (_slice : Nat) (_unit : Bool) (m : Bytes) (s : State) : Host.Outcome State Fault Refusal :=
  finish s (refuseRx m s)

/-- A participant that has acknowledged sends REFUSE when a power-fail warning arises before its T − 12 (R281); outside a
pair nothing is sent. -/
def refuseOnWarning (s : State) : State :=
  match s.page.job with
  | some j =>
    if inPair s ∧ !isBellwether s ∧ j.holdsCommit ∧ !j.aborted ∧ !fnGe s.clk.fn (fnOf j.target - 12) then
      sendCommitMsg 0x15 (commitPayload j 0 5) (setJob (some { j with refused := true }) s)
    else s
  | none => s

/-- A role change in the pair or in any slice before every ACK ends the round at this boundary (R84, R94): the Bellwether aborts
with cause 6, another member will not swap. -/
def roleCause (s : State) : State :=
  match s.page.job with
  | some j =>
    if s.page.state = .final ∨ j.announced then s
    else if isBellwether s then abortRound 6 stGroupDisagree s
    else setJob (some { clearRound j with aborted := true }) s
  | none => s

/-- ABORT is repeated in every frame until its T − 8 (R281). -/
def abortRepeat (s : State) : State :=
  let still := s.page.aborting.filter fun x => !fnGe s.clk.fn x.2
  still.foldl (fun s x => sendCommitMsg 0x14 x.1 s) { s with page := { s.page with aborting := still } }

/-- What a commit repeats at a frame start (R281): PREPARE and READY every 8 frames, COMMIT in every frame until every
ACK, REFUSE in every frame until ABORT; what a warning held back follows once it has cleared (R96). -/
def roundRepeat (s : State) : State :=
  match s.page.job with
  | none => s
  | some j =>
    if !inPair s ∨ s.page.state = .final then s
    else if isBellwether s then
      if j.sentCommit ∧ !j.announced then checkAcks (sendCommitMsg 0x12 (commitPayload j 0 0) s)
      else if j.prepared ∧ !j.sentCommit then
        checkReady (if s.clk.fn.toNat % 8 = 0 then sendCommitMsg 0x10 (commitPayload j s.page.stagedFp.toNat 0) s else s)
      else prepareAll s
    else if j.refused then sendCommitMsg 0x15 (commitPayload j 0 5) s
    else if s.clk.fn.toNat % 8 = 0 then readyAll s else s

/-- PREPARE of later parts is repeated every 8 frames (R281, R283). -/
def aheadRepeat (s : State) : State :=
  match s.page.job with
  | none => s
  | some j =>
    if !isBellwether s ∨ s.clk.fn.toNat % 8 ≠ 0 then s
    else j.ahead.zipIdx.foldl (fun s x =>
      sendCommitMsg 0x10 (commitPayload (aheadJob j x.2 x.1) s.page.stagedFp.toNat 0) s) s

/-- What the commit protocol sends at a frame start (R281). -/
def commitRepeat (s : State) : State := issuerLapse (aheadRepeat (roundRepeat (abortRepeat s)))

end Sys2Proof.Machine
end

