-- ==== Sys2Proof/Machine/Package.lean ====
section
/-! DEFINITION. Ramzourn packages as they stand in a slot (R437 to R439): the checks of IMAGE_BEGIN's header (R440) and
of the whole package (R441), and the option copies (R412, R413). -/
namespace Sys2Proof.Machine

/-- Size of a slot: 32 MiB (R429). -/
def slotSize : Nat := 33554432

def hPackageLen (p : Bytes) : Nat := le p 12 4
def hSecVersion (p : Bytes) : Nat := le p 16 2
def hMinRom (p : Bytes) : Nat := le p 18 2
def hImageVersion (p : Bytes) : Word32 := BitVec.ofNat 32 (le p 20 4)
def hCompat (p : Bytes) : Word16 := BitVec.ofNat 16 (le p 24 2)
def hKind (p : Bytes) : Nat := (byteAt p 26).toNat
def hCoSigned (p : Bytes) : Bool := bit (byteAt p 27) 0
def hManifestOff (p : Bytes) : Nat := le p 28 4
def hManifestLen (p : Bytes) : Nat := le p 32 4
def hSigOff (p : Bytes) : Nat := le p 36 4
def hSigLen (p : Bytes) : Nat := le p 40 4

/-- KINDs that a lifecycle state admits (R452). -/
def kindAdmitted (life : BitVec 3) (kind : Nat) : Bool :=
  match life.toNat with
  | 0 => decide (kind ≤ 1)
  | 1 => decide (kind ≤ 3)
  | 2 => decide (kind ≤ 1 ∨ kind = 3)
  | 3 => decide (kind ≤ 1 ∨ kind = 3)
  | _ => false

/-- The refusal reason of a header, 0 for none (R440): the reasons of R338 in order. -/
def headerReason (s : State) (p : Bytes) : Nat :=
  if le p 188 4 ≠ (crc32 (slice p 0 188)).toNat ∨ le p 0 4 ≠ 0x4E525A52 ∨ le p 4 2 ≠ 1 ∨ le p 6 2 ≠ 192 ∨
      !kindAdmitted s.bak.lifecycle (hKind p) then 1
  else if le p 8 4 ≠ 0x25481F7A then 2
  else if hPackageLen p % 8 ≠ 0 ∨ slotSize < hPackageLen p then 3
  else if 63 < hSecVersion p ∨ hSecVersion p < s.fuse.rollback then 4
  else if s.fuse.romRev.toNat < hMinRom p then 5
  else 0

/-- The manifest of a package (R438). -/
def manifestOf (p : Bytes) : Bytes := slice p (hManifestOff p) (hManifestLen p)

/-- Entry `i` of the manifest: 64 bytes. -/
def manifestEntry (p : Bytes) (i : Nat) : Bytes := slice p (hManifestOff p + 16 + 64 * i) 64

/-- Entries of a manifest. -/
def manifestCount (p : Bytes) : Nat := (byteAt (manifestOf p) 2).toNat

/-- The entry of a TYPE. -/
def componentOf (p : Bytes) (type : Nat) : Option Bytes :=
  ((List.range (manifestCount p)).map (manifestEntry p)).find? fun e => (byteAt e 0).toNat == type

/-- The bytes of a component. -/
def componentBytes (p e : Bytes) : Bytes := slice p (le e 4 4) (le e 8 4)

/-- The types of the entries, as the KIND requires them (R438). -/
def typesOk (p : Bytes) : Bool :=
  let types := (List.range (manifestCount p)).map fun i => (byteAt (manifestEntry p i) 0).toNat
  match hKind p with
  | 0 => decide (types.length = 4) && [1, 2, 3, 4].all fun t => types.contains t
  | 1 => types == [5]
  | _ => types.isEmpty

/-- The manifest's rules (R438): format, count, placement of each component, the limit of 64 KiB for engine firmware
(R374) and the 256 bytes of an options component. -/
def manifestRules (p : Bytes) : Bool :=
  let m := manifestOf p
  let inside := fun off len => off % 8 == 0 && len % 8 == 0 && decide (off + len ≤ hPackageLen p)
  inside (hManifestOff p) (hManifestLen p) && inside (hSigOff p) (hSigLen p) &&
    decide (hSigLen p = 192 ∨ hSigLen p = 384) && le m 0 2 == 1 &&
    decide (hManifestLen p = 16 + 64 * manifestCount p) && typesOk p &&
    (List.range (manifestCount p)).all fun i =>
      let e := manifestEntry p i
      inside (le e 4 4) (le e 8 4) && (byteAt e 0 != 2 || decide (le e 8 4 ≤ 65536)) &&
        (byteAt e 0 != 5 || le e 8 4 == 256)

/-- Every component hash (R438, R441). -/
def hashesOk (p : Bytes) : Bool :=
  (List.range (manifestCount p)).all fun i =>
    let e := manifestEntry p i
    sha384 (componentBytes p e) == slice e 16 48

/-- A customer key is fused (R439). -/
def customerFused (s : State) : Bool := decide (s.fuse.custHash ≠ 0)

/-- The signatures of R439 over the digest of header and manifest. -/
def signaturesOk (s : State) (p : Bytes) : Bool :=
  let dig := sha384 (slice p 0 192 ++ manifestOf p)
  let sg := slice p (hSigOff p) (hSigLen p)
  let vKey := slice sg 0 96
  let cKey := slice sg 192 96
  let vendor := decide (fromBE (sha384 vKey) = s.fuse.rootHash.toNat) && ecdsa384 vKey (slice sg 96 96) dig
  let customer := hCoSigned p && decide (hSigLen p = 384) &&
    decide (fromBE (sha384 cKey) = s.fuse.custHash.toNat) && ecdsa384 cKey (slice sg 288 96) dig
  if !customerFused s then vendor
  else if hKind p = 1 ∧ slice sg 0 192 = zeros 192 then customer
  else vendor && customer

/-- IMAGE_VERIFY's outcome on a package (R441): none where it verifies, else INTEGRITY, AUTH or ROLLBACK. -/
def verifyPackage (s : State) (p : Bytes) : Option Byte :=
  if p.length < 192 ∨ headerReason s p ≠ 0 then some stIntegrity
  else if p.length ≠ hPackageLen p ∨ !manifestRules p ∨ !hashesOk p then some stIntegrity
  else if !signaturesOk s p then some stAuth
  else none

/-- MANIFEST_ID: the first 8 bytes of the SHA-384 of the manifest (R438). -/
def manifestId (p : Bytes) : Word64 := BitVec.ofNat 64 (be (sha384 (manifestOf p)) 0 8)

/-- The slots: B where the flag is set. -/
def slotOf (f : FlashSt) (b : Bool) : Bytes := if b then f.slotB else f.slotA

/-- Write a slot. -/
def putSlot (f : FlashSt) (b : Bool) (p : Bytes) : FlashSt := if b then { f with slotB := p } else { f with slotA := p }

-- Option copies (R412, R413).

/-- A valid option copy: MAGIC, FORMAT, CRC and defined values (R412); reserved bits are ignored (R9). -/
def optionValid (o : Bytes) : Bool :=
  decide (o.length = 256) && le o 0 4 == 0x7C3EA105 && le o 4 2 == 1 &&
    le o 252 4 == (crc32 (slice o 0 252)).toNat && decide ((byteAt o 12).toNat % 8 ≤ 4) &&
    decide (85 ≤ le o 14 2 ∧ le o 14 2 ≤ 450) && decide ((byteAt o 16).toNat / 4 % 4 ≤ 2) &&
    (slice o 18 8).all fun b => decide (b.toNat % 16 ≤ 5 ∧ b.toNat / 16 ≤ 5)

/-- `a` is the greater SEQ, compared modulo 2^32 (R412). -/
def seqGreater (a b : Nat) : Bool := decide (0 < (BitVec.ofNat 32 (a + 2 ^ 32 - b % 2 ^ 32)).toInt)

/-- The valid option copy with the greater SEQ (R412). -/
def optionCopy (f : FlashSt) : Option Bytes :=
  if optionValid f.opt0 then
    if optionValid f.opt1 && seqGreater (le f.opt1 8 4) (le f.opt0 8 4) then some f.opt1 else some f.opt0
  else if optionValid f.opt1 then some f.opt1 else none

/-- The values of an option copy (R413). -/
def optionsOf (o : Bytes) : Options :=
  { xoSel := BitVec.ofNat 3 (byteAt o 12).toNat, pinEn := bit (byteAt o 13) 0, vinEn := bit (byteAt o 13) 1,
    pfwThresh := le o 14 2, pcieGen := BitVec.ofNat 2 (byteAt o 16).toNat,
    pcieWidth := BitVec.ofNat 2 ((byteAt o 16).toNat / 4), srEn := bit (byteAt o 17) 0,
    gpioFn := (List.range 16).foldl
      (fun m i => tset 0 m i (BitVec.ofNat 4 ((byteAt o (18 + i / 2)).toNat / 16 ^ (i % 2)))) [] }

/-- The fused safe defaults (R413, R414). -/
def safeOptions (f : FuseSt) : Options :=
  { Options.safe with
    xoSel := if 5 ≤ f.xoSafe.toNat then 2 else f.xoSafe,
    pfwThresh := if 85 ≤ f.pfwSafe.toNat ∧ f.pfwSafe.toNat ≤ 450 then f.pfwSafe.toNat else 85 }

/-- An options component as the next copy (R430, R451): the copy with the lower SEQ, or an invalid one, is overwritten
with the higher SEQ plus one. -/
def writeOptions (f : FlashSt) (o : Bytes) : FlashSt :=
  let seq := match optionCopy f with | some c => (le c 8 4 + 1) % 2 ^ 32 | none => 0
  let body := slice o 0 8 ++ toLE 4 seq ++ slice o 12 240
  let new := body ++ toLE 4 (crc32 body).toNat
  if optionCopy f = some f.opt0 ∧ optionValid f.opt0 then { f with opt1 := new } else { f with opt0 := new }

-- Boot records (R430).

/-- The valid boot record with the greater SEQ (R447). -/
def bootRecord (f : FlashSt) : Option BootRec :=
  let ok := fun (b : Option BootRec) => b.filter fun r => r.crcOk
  match ok f.boot0, ok f.boot1 with
  | some a, some b => if seqGreater b.seq.toNat a.seq.toNat then some b else some a
  | some a, none => some a
  | none, b => b

/-- Write a boot record (R430): over the copy with the lower SEQ, with the higher SEQ plus one. -/
def writeBoot (f : FlashSt) (run : Bool) (trial : Option Bool) : FlashSt :=
  let seq : Word32 := match bootRecord f with | some r => r.seq + 1 | none => 0
  let r : BootRec := { runSlot := run, trialSlot := trial, seq := seq, crcOk := true }
  if f.boot0.isSome ∧ bootRecord f = f.boot0 then { f with boot1 := some r } else { f with boot0 := some r }

/-- RUN_SLOT: the confirmed slot; with no valid boot record, slot A (the running slot of a module that never wrote
one). -/
def runSlot (f : FlashSt) : Bool := match bootRecord f with | some r => r.runSlot | none => false

end Sys2Proof.Machine
end

