-- ==== Sys2Proof/Machine/Bus.lean ====
section
/-! DEFINITION. The bus matrix (R344 to R354): which target an address reaches and what a master may do there, the staging
target (R70), the alias windows (R352), the content the manual gives some targets (R369, R374, R429), exclusive monitors
(R353) and drains (R354). -/
namespace Sys2Proof.Machine

/-- Alias windows decode in BOOT, SAFE and SERVICE (R352). -/
def windowsLive (s : State) : Bool := decide (s.mode.mode = .boot ∨ s.mode.mode = .safe ∨ s.mode.mode = .service)

/-- A base lies in a target that a window may alias: T0 to T4, T7 or T8 (R346, R347, R352). -/
def aliasable (s : State) (base : Nat) : Bool :=
  decide (base < if s.host.remap then 0x200000 else 0x40000) || decide (0x10000000 ≤ base ∧ base < 0x10040000) || decide (0x20000000 ≤ base ∧ base < 0x20800000) ||
    decide (0x80000000 ≤ base ∧ base < 0x84000000) || decide (0xA0000000 ≤ base ∧ base < 0xA8000000)

/-- The address behind an alias-window address, where the window decodes there (R352). -/
def throughWindow (s : State) (a : Nat) : Option Nat :=
  let w := a / 0x1000000 % 16
  let ctl := tget 0x18 s.host.winCtrl w
  let size := fld ctl 1 5
  let base := (tget 0 s.host.winBase w).toNat
  if windowsLive s && decide (0x30000000 ≤ a ∧ a < 0x34000000) && bit ctl 0 && decide (12 ≤ size ∧ size ≤ 24) &&
      decide (a % 0x1000000 < 2 ^ size) && decide (base % 2 ^ size = 0) && aliasable s base then
    some (base + a % 0x1000000)
  else none

/-- The target of an address that is no window's: 10 is the default target (R346, R347). -/
def plainTarget (s : State) (a : Nat) : Nat :=
  if a < 0x40000 ∧ !s.host.remap then 4
  else if a < 0x200000 ∧ s.host.remap then 0
  else if 0x10000000 ≤ a ∧ a < 0x10040000 then 4
  else if 0x20000000 ≤ a ∧ a < 0x20800000 then (a - 0x20000000) / 0x200000
  else if 0x40000000 ≤ a ∧ a < 0x50000000 then 5
  else if 0x60000000 ≤ a ∧ a < 0x62000000 then 6
  else if 0x80000000 ≤ a ∧ a < 0x84000000 then 7
  else if 0xA0000000 ≤ a ∧ a < 0xA8000000 then 8
  else if 0xC0000000 ≤ a ∧ a < 0x100000000 then 9
  else 10

/-- Something backs an offset of a cluster's window (R369). -/
def clusterBacked (off : Nat) : Bool := decide (off < 0x1A0000) || decide (0x1F0000 ≤ off ∧ off < 0x1F1000)

/-- The range of R70 that holds an offset within the staged or the live view, and whether it may be written at all. -/
def stagingRange (off : Nat) : Option Bool :=
  if off < 0x60000 ∨ (0x80000 ≤ off ∧ off < 0xB00000) ∨ (0xC00000 ≤ off ∧ off < 0xE00000) ∨
      (0xE00000 ≤ off ∧ off < 0xE20000) ∨ (0xF00000 ≤ off ∧ off < 0xF00020) then some true
  else if 0xF00040 ≤ off ∧ off < 0xF00050 then some false
  else none

/-- An access to T6 is answered (R70): the live view is read only, the staged one writable while the page is OPEN. -/
def stagingAnswers (s : State) (write : Bool) (a : Nat) : Bool :=
  match stagingRange (a % 0x1000000) with
  | none => false
  | some free => !write || (free && decide (a < 0x61000000) && decide (s.page.state = .opened))

/-- Little-endian byte i of a word. -/
def byteOfWord {w : Nat} (x : BitVec w) (i : Nat) : Byte := BitVec.ofNat 8 (fld x (8 * i) 8)

/-- A word with its little-endian byte i replaced. -/
def withByte {w : Nat} (x : BitVec w) (i : Nat) (b : Byte) : BitVec w :=
  (x &&& ~~~(BitVec.ofNat w (255 * 2 ^ (8 * i)))) ||| BitVec.ofNat w (b.toNat * 2 ^ (8 * i))

/-- A page with a byte of its view replaced; epoch and fingerprint are read only (R70, R74, R76). -/
def setPageByte (off : Nat) (b : Byte) (p : Page) : Page :=
  let entry := fun (t : Tier) (o : Nat) => putEntry p t (o / 8) (withByte (entryAt p t (o / 8)) (o % 8) b)
  if off < 0x60000 then entry .ho off
  else if off < 0xC00000 then entry .lo (off - 0x80000)
  else if off < 0xE00000 then entry .ds0 (off - 0xC00000)
  else if off < 0xF00000 then
    let c := (off - 0xE00000) / 16
    putCarrier p c (withByte (carrierAt p c) (off % 16) b)
  else if off < 0xF00020 then { p with quiesce := withByte p.quiesce (off - 0xF00000) b }
  else p

/-- A byte of a page at an offset of its view (R70, R74, R76). -/
def pageByte (p : Page) (fp : Word64) (off : Nat) : Byte :=
  if off < 0x60000 then byteOfWord (entryAt p .ho (off / 8)) (off % 8)
  else if off < 0xC00000 then byteOfWord (entryAt p .lo ((off - 0x80000) / 8)) (off % 8)
  else if off < 0xE00000 then byteOfWord (entryAt p .ds0 ((off - 0xC00000) / 8)) (off % 8)
  else if off < 0xF00000 then byteOfWord (carrierAt p ((off - 0xE00000) / 16)) (off % 16)
  else if off < 0xF00020 then byteOfWord p.quiesce (off - 0xF00000)
  else if off < 0xF00048 then byteOfWord p.epoch (off - 0xF00040)
  else byteOfWord fp (off - 0xF00048)

/-- What the matrix answers (R348). -/
inductive BusAnswer where
  | okay | targetError | decodeError
  deriving DecidableEq, Repr

/-- An instruction bank of a cluster's window takes a master's write (R374): the running one no write of the bus, the spare one those
of M0 to M5. -/
def bankTakes (s : State) (master a : Nat) : Bool :=
  let off := a % 0x200000
  let bankB := (tget {} s.eng.cl ((a - 0x80000000) / 0x200000)).bankB
  if 0x180000 ≤ off ∧ off < 0x190000 then bankB && decide (master < 6)
  else if 0x190000 ≤ off ∧ off < 0x1A0000 then !bankB && decide (master < 6)
  else true

/-- What a master may do at a target (R346): a management core (0 to 3), DMA (4, 5), host inbound (6), debug (7). T6 is judged by
R70; of T7's control block only the cores' firmware has the use. -/
def mayAccess (s : State) (master target : Nat) (write : Bool) (a : Nat) : Bool :=
  let off := a % 0x200000
  match target with
  | 4 => !write && decide (master < 4 ∨ master = 7)
  | 5 => decide (master ≠ 6) || decide (Config.bridgeHolds a = 1)
  | 6 => if master = 7 then !write && stagingAnswers s write a else decide (master < 6) && stagingAnswers s write a
  | 7 => decide (master ≠ 6) && (decide (off < 0x1F0000) || decide (master < 4)) && (!write || bankTakes s master a)
  | 8 => !write && decide (master ≠ 6)
  | 9 => decide (master < 4)
  | _ => decide (master ≠ 6)

/-- A memory is powered and not in retention: MB1 and MB2 (R380), a cluster's window (R369). -/
def targetPowered (s : State) (target a : Nat) : Bool :=
  match target with
  | 1 => domOn s 109
  | 2 => domOn s 110
  | 7 => domOn s (32 + (a - 0x80000000) / 0x200000)
  | _ => true

/-- The answer to an access of one beat (R346 to R348, R352): debug reaches the default target alone while its port is shut. -/
def busAnswer (s : State) (master : Nat) (write : Bool) (a : Nat) : BusAnswer :=
  let inAlias := decide (0x30000000 ≤ a ∧ a < 0x34000000)
  match (if inAlias then throughWindow s a else some a) with
  | none => .decodeError
  | some b =>
    let t := plainTarget s b
    if t = 10 ∨ (master = 7 ∧ !s.dbg.opened) ∨ (t = 5 ∧ Config.bridgeHolds b = 0) ∨
        (t = 7 ∧ !clusterBacked ((b - 0x80000000) % 0x200000)) then .decodeError
    else if !mayAccess s master t write b ∨ !targetPowered s t b then .targetError
    else .okay

/-- The engine component of a package (R438). -/
def engineComponent (p : Bytes) : Bytes := match componentOf p 2 with | some e => componentBytes p e | none => []

/-- The engine component that a cluster's running bank holds (R374, R376): of the trial's package, or of the running slot. -/
def runningComponent (s : State) (n : Nat) : Bytes :=
  engineComponent (slotOf s.flash (runSlot s.flash != (tget {} s.eng.cl n).trial))

/-- A byte of an instruction bank (R19, R369, R374): the running component, or what the spare bank has received. -/
def bankByte (s : State) (n : Nat) (b : Bool) (off : Nat) : Option Byte :=
  let c := tget {} s.eng.cl n
  let code := if c.bankB = b then runningComponent s n else c.spare
  if off < code.length then some (byteAt code off) else none

/-- A byte of the flash (R429): an option copy or a slot; the layout of the other areas is internal. -/
def flashByte (s : State) (off : Nat) : Option Byte :=
  let at_ := fun (bs : Bytes) (i : Nat) => if i < bs.length then some (byteAt bs i) else none
  if off < 0x10000 then at_ s.flash.opt0 off
  else if off < 0x20000 then at_ s.flash.opt1 (off - 0x10000)
  else if 0x400000 ≤ off ∧ off < 0x2400000 then at_ s.flash.slotA (off - 0x400000)
  else if 0x2400000 ≤ off ∧ off < 0x4400000 then at_ s.flash.slotB (off - 0x2400000)
  else none

/-- The bus address that an access reaches, its window seen through (R352). -/
def busTarget (s : State) (a : Nat) : Nat :=
  if 0x30000000 ≤ a ∧ a < 0x34000000 then (throughWindow s a).getD a else a

/-- A byte read at a bus address: what the manual gives the memory there, else free by draw (R19, R70, R369, R429). -/
def busRead (s : State) (draw a : Nat) : Byte :=
  let b := busTarget s a
  let off := (b - 0x80000000) % 0x200000
  let known := match plainTarget s b with
    | 6 => some (if b < 0x61000000 then pageByte s.page.staged s.page.stagedFp (b % 0x1000000)
        else pageByte s.page.live s.page.liveFp (b % 0x1000000))
    | 7 =>
      let n := (b - 0x80000000) / 0x200000
      if 0x180000 ≤ off ∧ off < 0x190000 then bankByte s n false (off - 0x180000)
      else if 0x190000 ≤ off ∧ off < 0x1A0000 then bankByte s n true (off - 0x190000)
      else tfind s.eng.mem b
    | 8 => flashByte s (b - 0xA0000000)
    | _ => none
  known.getD (Config.busByte draw b)

/-- A byte is written into a cluster's window (R369, R374): the spare bank takes it; a data memory keeps it while its engines stand
still, and running engines work on their own. -/
def clusterWrite (b : Nat) (v : Byte) (s : State) : State :=
  let n := (b - 0x80000000) / 0x200000
  let off := (b - 0x80000000) % 0x200000
  let c := tget {} s.eng.cl n
  if 0x180000 ≤ off ∧ off < 0x1A0000 then
    let i := off % 0x10000
    let spare := fit (max c.spare.length (i + 1)) c.spare
    { s with eng := { s.eng with cl := tset {} s.eng.cl n { c with spare := spare.take i ++ [v] ++ spare.drop (i + 1) } } }
  else if c.faulted then { s with eng := { s.eng with mem := tinsert s.eng.mem b v } }
  else s

-- Exclusive pairs and drains.

/-- The granule of 64 bytes that an address lies in, by its address in the memory's own range: MB0 is one memory at both of its places
(R346, R353). -/
def granule (s : State) (a : Nat) : Nat :=
  let b := busTarget s a
  (if plainTarget s b = 0 ∧ b < 0x200000 then 0x20000000 + b else b) / 64

/-- A management core reads exclusively on T0 to T3: its monitor covers the granule (R353). -/
def exclusiveRead (core a : Nat) (s : State) : State :=
  if core < 4 ∧ plainTarget s (busTarget s a) < 4 ∧ busAnswer s core false a = .okay then
    { s with dma := { s.dma with monitors := tinsert s.dma.monitors core (granule s a) } }
  else s

/-- A write is accepted at an address: the other masters' monitors on its granule are cleared (R353). -/
def clearMonitors (master a : Nat) (s : State) : State :=
  { s with dma := { s.dma with monitors := s.dma.monitors.filter fun x => x.1 == master || x.2 != granule s a } }

/-- An error response is counted and raised (R348, R400). -/
def noteAnswer (a : BusAnswer) (s : State) : State :=
  match a with
  | .okay => s
  | .targetError => raise gBus 1 (bump 108 1 1 s)
  | .decodeError => raise gBus 0 (bump 108 0 1 s)

/-- A byte that a master writes at a bus address (R70, R346, R348): refused with an error response and unwritten, or put into the staged page or a
cluster's memory; it clears the others' monitors. What the management memories hold is internal. -/
def busWrite (master a : Nat) (v : Byte) (s : State) : State :=
  if busAnswer s master true a ≠ .okay then noteAnswer (busAnswer s master true a) s
  else
    let b := busTarget s a
    let s := clearMonitors master a s
    match plainTarget s b with
    | 6 => stage (setPageByte (b % 0x1000000) v s.page.staged) 0 s
    | 7 => clusterWrite b v s
    | _ => s

/-- An exclusive write takes place while the core's monitor stands on the granule, which it ends (R353). -/
def exclusiveWrite (core a : Nat) (s : State) : Bool × State :=
  if core < 4 ∧ tfind s.dma.monitors core = some (granule s a) ∧ busAnswer s core true a = .okay then
    let s := clearMonitors core a s
    (true, { s with dma := { s.dma with monitors := terase s.dma.monitors core } })
  else (false, s)

/-- Masters are reset and wait for the end of their drains; their monitors are cleared (R353, R354). -/
def startDrain (ms : List Nat) (s : State) : State :=
  { s with dma := { s.dma with
    draining := s.dma.draining ++ ms.filter fun m => !s.dma.draining.contains m,
    monitors := s.dma.monitors.filter fun x => !ms.contains x.1 } }

end Sys2Proof.Machine
end

