-- ==== Sys2Proof/Machine/Dma.lean ====
section
/-! DEFINITION. The DMA engine as the host sees it (R355 to R368, R480): the register-set channels given to the host, with GO
and its checks, pacing, bursts, completion, chaining and the shadow set, retries and halts, PAUSE and STOP, and the
halting of the ring channels CH0 to CH3 (R304, R364). -/
namespace Sys2Proof.Machine

/-- A channel. -/
def dmaCh (s : State) (n : Nat) : DmaCh := tget {} s.dma.ch n

/-- Replace a channel. -/
def putCh (n : Nat) (c : DmaCh) (s : State) : State := { s with dma := { s.dma with ch := tset {} s.dma.ch n c } }

/-- A channel belongs to the host (R356): HOST_CH 9 to 15 act as 8. -/
def hostOwns (s : State) (n : Nat) : Bool := decide (32 - min 8 s.host.hostCh.toNat ≤ n ∧ n < 32)

-- Fields of CTRL (R358).
def dRepeat (c : Word32) : Bool := bit c 3
def dSwap (c : Word32) : Nat := fld c 4 2
def dSrcHost (c : Word32) : Bool := bit c 6
def dDstHost (c : Word32) : Bool := bit c 7
def dDoneIrq (c : Word32) : Bool := bit c 8
def dPace (c : Word32) : Nat := fld c 9 3
def dChain (c : Word32) : Nat := fld c 12 5

/-- The bits of CTRL that a set holds: all but GO, PAUSE and STOP. -/
def dmaCtrlMask : Word32 := 0x1FFF8

/-- A bus-address range lies in one alias window (R346, R359). -/
def inWindow (a n : Nat) : Bool :=
  decide (0x30000000 ≤ a ∧ a + n ≤ 0x34000000) && decide (a / 0x1000000 = (a + n - 1) / 0x1000000)

/-- What R359 refuses of a set, for a host channel. -/
def dmaRefused (s : State) (n : Nat) (x : DmaSet) : Bool :=
  decide (x.src.toNat % 8 ≠ 0 ∨ x.dst.toNat % 8 ≠ 0 ∨ x.len % 8 ≠ 0 ∨ x.len = 0) || decide (dPace x.ctrl = 7) ||
    (decide (dPace x.ctrl = 6) && (decide (dChain x.ctrl < 4) || decide (dChain x.ctrl = n))) ||
    (dRepeat x.ctrl && decide (dPace x.ctrl = 0)) || !dDstHost x.ctrl ||
    (!dSrcHost x.ctrl && !(windowsLive s && inWindow x.src.toNat x.len))

/-- Put the set of a channel in force (R359): RUNNING, or ARMED under a pace; it waits PAUSED while PAUSE = 1. -/
def startSet (c : DmaCh) : DmaCh :=
  let armed := decide (dPace c.set.ctrl ≠ 0)
  { c with
    shadow := c.set, shadowValid := false, remain := c.set.len, retries := 0, begun := 0, stopping := false,
    wasArmed := armed, phase := if c.pause then .paused else if armed then .armed else .running }

/-- GO (R359, R360): on an IDLE channel it starts or arms, elsewhere it validates the shadow; a refused GO sets REFUSED. -/
def dmaGoOn (n : Nat) (s : State) : State :=
  let c := dmaCh s n
  match c.phase with
  | .idle =>
    if dmaRefused s n c.set then putCh n { c with refused := true } s else putCh n (startSet c) s
  | .halted => putCh n { c with refused := true } s
  | _ =>
    if dmaRefused s n c.shadow then putCh n { c with refused := true, shadowValid := false } s
    else putCh n { c with shadowValid := true } s

/-- The transfer in force is withdrawn (R366): IDLE, WITHDRAWN, no shadow, unless a GO of the same write takes it as the new
set (R480). -/
def leaveTransfer (n : Nat) (s : State) : State :=
  let c := dmaCh s n
  let set := if c.goAfter then c.shadow else c.set
  raise gDma 2 (putCh n { c with
    phase := .idle, withdrawn := true, shadow := set, set := set, shadowValid := false, stopping := false, begun := 0,
    retries := 0, goAfter := false } s)

/-- The withdrawal of a transfer whose begun bursts have ended, and the GO that was written with the STOP. -/
def withdraw (n : Nat) (s : State) : State :=
  if (dmaCh s n).goAfter then dmaGoOn n (leaveTransfer n s) else leaveTransfer n s

/-- Bursts that a transfer still has to make, at 256 bytes each. -/
def burstsLeft (c : DmaCh) : Nat := (c.remain + 255) / 256

/-- Bursts begun and unanswered when PAUSE or STOP arrives: at most 16, and no more than are left (R355, R365, R366). -/
def begunNow (s : State) (c : DmaCh) : Nat := min (Config.dmaBegun s.dma.draws % 17) (burstsLeft c)

/-- A draw of the engine has been used. -/
def drewDma (s : State) : State := { s with dma := { s.dma with draws := s.dma.draws + 1 } }

/-- STOP (R366): at once while ARMED or PAUSED or with no burst begun; otherwise once the begun bursts have ended. -/
def dmaStopOn (n : Nat) (s : State) : State :=
  let c := dmaCh s n
  match c.phase with
  | .armed => leaveTransfer n s
  | .paused => leaveTransfer n s
  | .running =>
    let k := begunNow s c
    let s := drewDma s
    if k = 0 then leaveTransfer n s
    else putCh n { c with stopping := true, begun := k, phase := .pausing, shadowValid := false } s
  | .pausing => putCh n { c with stopping := true, shadowValid := false } s
  | _ => s

/-- PAUSE takes a new value (R365). -/
def dmaPauseOn (n : Nat) (on : Bool) (s : State) : State :=
  let c := { dmaCh s n with pause := on }
  if on = (dmaCh s n).pause then s
  else if on then
    match c.phase with
    | .armed => putCh n { c with phase := .paused, wasArmed := true } s
    | .running =>
      let k := begunNow s c
      putCh n { c with phase := if k = 0 then .paused else .pausing, begun := k, wasArmed := false } (drewDma s)
    | _ => putCh n c s
  else
    match c.phase with
    | .pausing => putCh n (if c.stopping then c else { c with phase := .running, begun := 0 }) s
    | .paused => putCh n { c with phase := if c.wasArmed then .armed else .running } s
    | _ => putCh n c s

/-- The fields of CTRL that go to the set, or to the shadow while the channel is not IDLE (R360). -/
def dmaFields (n : Nat) (v : Word32) (s : State) : State :=
  let c := dmaCh s n
  if c.phase = .idle then putCh n { c with set := { c.set with ctrl := v &&& dmaCtrlMask } } s
  else putCh n { c with shadow := { c.shadow with ctrl := v &&& dmaCtrlMask } } s

/-- One write of DMA_CHn_CTRL (R480): STOP, PAUSE, the other fields, GO. -/
def dmaCtrlWrite (n : Nat) (v : Word32) (s : State) : State :=
  let c := dmaCh s n
  let both := bit v 0 && bit v 2 && decide (c.phase ≠ .idle) && decide (c.phase ≠ .halted)
  let s := if both then putCh n { c with goAfter := true } s else s
  let s := if bit v 2 then dmaStopOn n s else s
  let s := dmaFields n v (dmaPauseOn n (bit v 1) s)
  if bit v 0 ∧ !(dmaCh s n).goAfter then dmaGoOn n s else s

/-- A write of a host channel's CTRL through the set-up window; to another channel it is ignored with
BUS.LOCKED_WRITE, and until mode entry without a cause (R308, R480). -/
def hostCtrlWrite (n : Nat) (v : Word32) (s : State) : State :=
  if !entered s ∨ n < 4 ∨ 31 < n then s
  else if !hostOwns s n then raise gBus 3 s
  else dmaCtrlWrite n v { s with host := { s.host with heldLow := none } }

/-- DMA_GO (R359). -/
def execDmaGo (ch : Nat) (v : Word32) (s : State) : Host.Outcome State Fault Refusal :=
  finish s (if bit v 0 then hostCtrlWrite ch v s else s)

/-- DMA_PAUSE (R365). -/
def execDmaPause (ch : Nat) (v : Word32) (s : State) : Host.Outcome State Fault Refusal :=
  finish s (if bit v 1 then hostCtrlWrite ch v s else s)

/-- DMA_RESUME (R365). -/
def execDmaResume (ch : Nat) (v : Word32) (s : State) : Host.Outcome State Fault Refusal :=
  finish s (if bit v 1 then s else hostCtrlWrite ch v s)

/-- DMA_STOP (R366). -/
def execDmaStop (ch : Nat) (v : Word32) (s : State) : Host.Outcome State Fault Refusal :=
  finish s (if bit v 2 then hostCtrlWrite ch v s else s)

/-- A pacing event meets a channel (R361). -/
def paceEvent (n : Nat) (s : State) : State :=
  let c := dmaCh s n
  if c.phase = .armed then putCh n { c with phase := .running } s
  else bump 109 3 1 (putCh n { c with paceMissed := true } s)

/-- The pacing event of a channel falls in this frame (R361); the chained pace of a host channel comes with the completion
itself. -/
def paceDue (s : State) (n : Nat) : Bool :=
  let c := (dmaCh s n).set.ctrl
  let fn := s.clk.fn.toNat
  match dPace c with
  | 1 => true | 2 => fn % 8 == 0 | 3 => fn % 80 == 0 | 4 => fn % 48 == 0 | 5 => fn % 8000 == 0
  | 6 => !hostOwns s (dChain c)
  | _ => false

/-- DMA_PACE_EVENT (R361). -/
def execDmaPaceEvent (ch : Nat) (s : State) : Host.Outcome State Fault Refusal :=
  finish s (if 4 ≤ ch ∧ ch < 32 ∧ paceDue s ch then paceEvent ch s else s)

/-- Channels that wait on the completion of channel n (R361). -/
def chainPace (n : Nat) (s : State) : State :=
  (List.range 28).foldl (fun s i =>
    let c := (dmaCh s (4 + i)).set.ctrl
    if dPace c = 6 ∧ dChain c = n then paceEvent (4 + i) s else s) s

/-- What follows the last write response of a transfer (R360, R361, R363, R367): DONE, the chained starts, then the shadow,
the repeat, or IDLE. -/
def dmaComplete (n : Nat) (s : State) : State :=
  let c := { dmaCh s n with done := true, remain := 0, begun := 0, retries := 0 }
  let s := putCh n c s
  let s := if dDoneIrq c.set.ctrl then
      { s with host := { s.host with dmaDone := s.host.dmaDone ||| place 32 n 1 } } else s
  let s := if c.stopping then withdraw n s
    else if c.shadowValid then putCh n (startSet { c with set := c.shadow }) s
    else if dRepeat c.set.ctrl then putCh n (startSet c) s
    else putCh n { c with phase := .idle } s
  chainPace n s

/-- SWAP within the units of a burst (R362). -/
def swapBytes : Nat → Bytes → Bytes
  | 1, a :: b :: r => b :: a :: swapBytes 1 r
  | 2, a :: b :: c :: d :: r => d :: c :: b :: a :: swapBytes 2 r
  | 3, a :: b :: c :: d :: r => c :: d :: a :: b :: swapBytes 3 r
  | _, bs => bs

/-- Length of the next burst of a channel (R345, R363). -/
def burstLen (c : DmaCh) : Nat :=
  let off := c.set.len - c.remain
  min c.remain (min (burstRoom (c.set.src.toNat + off)) (burstRoom (c.set.dst.toNat + off)))

/-- Every byte of a burst is answered through its window (R346, R352). -/
def windowOpen (s : State) (a n : Nat) : Bool :=
  busAnswer s 4 false a = .okay && busAnswer s 4 false (a + n - 1) = .okay

/-- The data of a burst; through a window it is what the memory behind it holds. -/
def burstData (s : State) (c : DmaCh) (n : Nat) : Bytes :=
  let a := c.set.src.toNat + (c.set.len - c.remain)
  if dSrcHost c.set.ctrl then memBytes s.host.mem a n else (List.range n).map fun i => busRead s s.dma.draws (a + i)

/-- Neither of the engine's masters is held in reset by a drain (R354). -/
def dmaReady (s : State) : Bool := !s.dma.draining.contains 4 && !s.dma.draining.contains 5

/-- A burst of the channel can be answered now. -/
def burstGoes (s : State) (c : DmaCh) : Bool :=
  dmaReady s && (decide (c.phase = .running) || (decide (c.phase = .pausing) && decide (0 < c.begun))) && linkUsable s &&
    decide (0 < c.remain) &&
    (dSrcHost c.set.ctrl || windowOpen s (c.set.src.toNat + (c.set.len - c.remain)) (burstLen c))

/-- A burst of CH3 has been answered (R357, R363): it moves a command's buffer, and spent its retries. -/
def bulkBurst (s : State) : State :=
  if !entered s ∨ (dmaCh s 3).phase = .halted ∨ !linkUsable s then s
  else putCh 3 { dmaCh s 3 with retries := 0 } { s with host := { s.host with bulkBursts := s.host.bulkBursts + 1 } }

/-- A burst of CH0 to CH2 has been answered: what it moved is the ring's row; its retries are spent (R364). -/
def ringBurst (n : Nat) (s : State) : State :=
  if !entered s ∨ (dmaCh s n).phase = .halted then s else putCh n { dmaCh s n with retries := 0 } s

/-- The write response of a burst (R363, R365). -/
def burstDone (n : Nat) (s : State) : State :=
  let c := dmaCh s n
  if n < 3 then ringBurst n s else if n = 3 then bulkBurst s else
  if 31 < n ∨ !burstGoes s c then s else
  let k := burstLen c
  let bs := swapBytes (dSwap c.set.ctrl) (burstData s c k)
  let dst := c.set.dst.toNat + (c.set.len - c.remain)
  let s := drewDma (bump 109 0 k { s with host := { s.host with mem := memStore s.host.mem dst bs } })
  let c := { c with remain := c.remain - k, retries := 0, begun := c.begun - 1 }
  if c.remain = 0 then dmaComplete n (putCh n c s)
  else if c.phase = .pausing ∧ c.begun = 0 ∧ !c.stopping then putCh n { c with phase := .paused } s
  else putCh n c s

/-- DMA_BURST_DONE (R363). -/
def execDmaBurstDone (ch : Nat) (s : State) : Host.Outcome State Fault Refusal := finish s (burstDone ch s)

/-- A channel halts (R364). -/
def haltCh (n cause : Nat) (s : State) : State :=
  let c := dmaCh s n
  let s := putCh n { c with
    phase := .halted, haltCause := BitVec.ofNat 4 cause, shadowValid := false, begun := 0, stopping := false,
    goAfter := false } s
  bump 109 2 1 { s with host := { s.host with dmaHalt := s.host.dmaHalt ||| place 32 n 1 } }

/-- The ring that a halted channel 0 to 2 serves halts with it (R304). -/
def haltRing (n : Nat) (s : State) : State :=
  match n with
  | 0 => raise gRingErr 1 { s with host := { s.host with cmd := { s.host.cmd with halted := true } } }
  | 1 => raise gRingErr 2 { s with host := { s.host with cpl := { s.host.cpl with halted := true } } }
  | _ => noteHeld s (raise gRingErr 3 { s with host := { s.host with evt := { s.host.evt with halted := true } } })

/-- The last attempt of a burst has failed (R304, R364): a ring halts with CH0 to CH2; on CH3 a host-side failure ends only
the command that named the buffer. -/
def lastFailure (n cause : Nat) (s : State) : State :=
  match n with
  | 0 => haltRing 0 (haltCh 0 cause s)
  | 1 => haltRing 1 (haltCh 1 cause s)
  | 2 => haltRing 2 (haltCh 2 cause s)
  | 3 =>
    if cause = 4 then putCh 3 { dmaCh s 3 with retries := 0 } { s with host := { s.host with bulkFail := true } }
    else haltCh 3 cause s
  | _ => haltCh n cause s

/-- Advanced Error Reporting notes a host-memory failure (R288, R304): a poisoned completion and a completion timeout have a status
bit of their own, 12 and 14 (PRESUMED, entry 160); which failure it was is the bus's matter, a free draw. -/
def noteAer (s : State) : State :=
  let k := Config.hostFailure s.draws % 4
  { s with draws := s.draws + 1, host := { s.host with pcie := { s.host.pcie with
      uncStatus := s.host.pcie.uncStatus ||| (if k = 2 then 0x1000 else if k = 3 then 0x4000 else 0) } } }

/-- The error response that a burst receives is counted and raised (R348, R400): a decode error or a target error; a timeout has
its own row. -/
def noteError (cause : Nat) (s : State) : State :=
  match cause with
  | 1 => noteAnswer .targetError s
  | 2 => noteAnswer .decodeError s
  | 4 => noteAer s
  | _ => s

/-- A burst fails (R364): a target error, a timeout or a host-memory failure is reissued up to 3 times; a decode error, a
loop and an uncorrectable error in the buffer are not. While the link is unavailable nothing counts. -/
def burstFails (n cause : Nat) (s : State) : State :=
  let c := dmaCh s n
  let busy := decide (n < 4) && decide (c.phase ≠ .halted) ||
    (decide (n < 32) && (decide (c.phase = .running) || (decide (c.phase = .pausing) && decide (0 < c.begun))))
  if !entered s ∨ !busy ∨ !linkUsable s ∨ cause = 0 ∨ 6 < cause then s else
  let s := noteError cause s
  if (cause = 1 ∨ cause = 3 ∨ cause = 4) ∧ c.retries.toNat < 3 then
    bump 109 1 1 (putCh n { c with retries := c.retries + 1 } s)
  else lastFailure n cause s

/-- DMA_BURST_RETRY (R364). -/
def execDmaBurstRetry (ch : Nat) (cause : Nat) (s : State) : Host.Outcome State Fault Refusal :=
  finish s (burstFails ch cause s)

/-- DMA_WITHDRAWN (R366). -/
def execDmaWithdrawn (ch : Nat) (s : State) : Host.Outcome State Fault Refusal :=
  finish s (if (dmaCh s ch).stopping ∧ (dmaCh s ch).begun = 0 then withdraw ch s else s)

/-- Stop the channels of a list as by STOP, where they are not IDLE (R368, R480). -/
def stopChannels (ns : List Nat) (s : State) : State := ns.foldl (fun s n => dmaStopOn n s) s

/-- The ring channels return to IDLE and the host's channels stop as by STOP (R306, R364, R368); idle channels take the window's
Warm values. -/
def perstDma (s : State) : State :=
  let s := stopChannels ((List.range 28).map (4 + ·)) s
  { s with dma := { s.dma with ch := s.dma.ch.filter fun x => decide (4 ≤ x.1) && decide (x.2.phase ≠ .idle) } }

end Sys2Proof.Machine
end

