-- ==== Sys2Proof/Machine/Restart.lean ====
section
/-! DEFINITION. Resets and restarts: what each discards and keeps (R31, R306, R308, R311, R405, R406), how requests meet
(R408), the journal's verification (R436), the choice of image (R447), the release sequence (R409 to R412) and mode entry
(R28, R29). -/
namespace Sys2Proof.Machine

/-- Return the set-up and doorbell windows to their Warm values (R306, R308, R311); HOST_TAG, the MSI-X table and
ENG_CLUSTER stay, and the causes of groups 5 to 18. An OVF_CLEAR written and not yet gathered stays too, to take effect at
the next gather: R403 gives the bit Warm 0 and says no more (DESIGN CHOICE, entry 112). -/
def windowsWarm (s : State) : State :=
  { s with
    host := { s.host with
      lock := false, cmd := {}, cpl := {}, evt := {}, heldLow := none, latched := [],
      causes := s.host.causes.filter fun x => decide (5 ≤ x.1), enables := [(18, 3)], topEnable := 0x40000,
      dmaDone := 0, dmaHalt := 0, dmaDoneEn := 0, dmaHaltEn := 0, engClusterEn := 0, userEn := false,
      mcExpose := false, winCtrl := [], winBase := [], hostCh := 0, fetched := [], held := 0, cplQ := [],
      phaseWait := none, bulkFail := false, bulkBursts := 0 },
    bel := { s.bel with pmcCtrl := [], pmcBase := [], pmcLimit := [] } }

/-- A waiting command loses its completion (R306, R319). -/
def dropWaiter : Waiter → Waiter
  | .verify _ d => .verify none d
  | .activate _ => .activate none
  | .confirm _ => .confirm none
  | .compact _ => .compact none
  | .domain _ d t => .domain none d t

/-- Abandon every completion still owed (R35, R306, R319): effects already scheduled stand. -/
def dropToks (s : State) : State :=
  { s with
    host := { s.host with
      sched := s.host.sched.map fun x => { x with tok := none }, waiters := s.host.waiters.map dropWaiter },
    page := { s.page with job := s.page.job.map fun j => { j with tok := none } },
    mode := { s.mode with req := s.mode.req.map fun r => (r.1, none) },
    img := { s.img with rejecting := none } }

/-- Empty the event queue (R300, R308): SEQ starts at 0 at the next mode entry. -/
def dropEvents (s : State) : State := { s with host := { s.host with evtQ := [], lost := none, evtSeq := 0 } }

/-- Remove loopbacks, lane tests and PRBS insertion (R28, R30). -/
def removeTests (s : State) : State :=
  { s with
    cfg := { s.cfg with lanes := s.cfg.lanes.map fun x => (x.1, { x.2 with test := 0 }) },
    bel := { s.bel with prbs := s.bel.prbs.map fun x =>
      (x.1, { x.2 with cfg := x.2.cfg.bind fun c => if c.ana then some { c with gen := false } else none }) } }

/-- The control hierarchy's own working state, lost with MB0 to MB3 (R406): records of the group, buffers posted, the
download, compaction, waiting commands. -/
def dropControl (s : State) : State :=
  { s with
    host := { s.host with waiters := [] },
    bel := { s.bel with core := [] },
    mode := { s.mode with req := none },
    jrn := { s.jrn with compaction := none },
    grp := busPorts s.grp,
    lane := { s.lane with txq := [], bufs := [], rxWait := [] },
    pm := { s.pm with bufs := [] },
    twin := { s.twin with
      pending := none, gaps := [], gapTo := [], sentPkts := [], image := none, imageDone := false, installed := false,
      later := [], laterStaged := [], copyGood := false, bulkSent := false, release := false, yields := false,
      isolates := false, resumes := false, provisional := false, stream := [] },
    tx := [] }

/-- The start of a restart into SAFE (R30, R31, R308): the staged page, any scheduled commit and the page in force go; the
windows take their Warm values; SCLK and FSYNC stop. -/
def enterSafe (s : State) : State :=
  let old := s.mode.mode
  let s := startDrain [0, 1, 2, 3] (dropEvents (dropControl (dropToks (windowsWarm (perstDma s)))))
  { s with
    mode := { s.mode with
      mode := .safe, sync := 0, since := s.clk.fn, safeRestart := true, safeFrom := old, safeFn := s.clk.fn,
      carried := false },
    page := {}, cfg := { Cfg.initial with domains := s.cfg.domains }, clk := { s.clk with fsync := 0 },
    prot := {}, dft := {}, car := [], lane := {}, img := {}, twin := { s.twin with takeover := none },
    host := { s.host with remap := false, sched := [] } }

/-- Count a reset request (R416). -/
def countReset (cause : Nat) (s : State) : State :=
  let b := s.bak
  let c := tget 0 b.counts cause
  { s with bak := { b with
    counts := tset 0 b.counts cause (if c = 255 then c else c + 1),
    total := if b.total = 0xFFFFFFFF then b.total else b.total + 1 } }

/-- The assertion of a cold reset (R405): every block restarts; flash, fuses, the BAK domain, the reset controller's own
sequencing, the supply, the sensors and the host's memory are not the reset's. THERM_N and its latch stay except at
power-on (R420), a journal fault until a compaction (R434); an OPENED module returns to FIELD (R455). -/
def coldState (powerOn : Bool) (s : State) : State :=
  let r := State.reset
  let opened := decide (s.bak.lifecycle = 3)
  { r with
    pending := s.pending, draws := s.draws,
    bak := { s.bak with lifecycle := if opened then 2 else s.bak.lifecycle },
    fuse := s.fuse,
    flash := { s.flash with reprovReset := s.flash.reprovReset || opened },
    rst := { r.rst with
      coldPin := s.rst.coldPin, warmPin := s.rst.warmPin, recovLow := s.rst.recovLow, thermHold := s.rst.thermHold,
      vinGood := s.rst.vinGood, fuseMap := !powerOn && s.rst.fuseMap, romOk := s.rst.romOk, xoOk := s.rst.xoOk },
    host := { r.host with mem := s.host.mem, msixSent := s.host.msixSent },
    dma := { r.dma with draws := s.dma.draws },
    jrn := { r.jrn with fault := s.jrn.fault },
    pwr := { s.pwr with
      dom := [], turning := [], tripped := !powerOn && s.pwr.tripped, seen80 := false, pfwSeen := s.pwr.pfw },
    bel := { r.bel with auditSeq := s.bel.auditSeq },
    i2c := { r.i2c with addr := s.i2c.addr },
    dbg := { r.dbg with draws := s.dbg.draws, opened := opened != true && decide (s.bak.lifecycle ≠ 2) } }

/-- Assert a cold reset of a cause (R404, R408, R416). -/
def assertCold (cause : Nat) (s : State) : State :=
  let s := countReset cause s
  coldState (decide (cause = 1)) { s with bak := { s.bak with last := BitVec.ofNat 8 cause } }

/-- The staged page after a warm reset (R95): OPEN, unless the commit is past its final point. -/
def warmPage (s : State) : State :=
  if s.page.state = .final then s
  else { s with page := { s.page with state := .opened, job := none, solving := none, idle := none, kept := false, aborting := [] } }

/-- The assertion of a warm reset (R308, R406): the data hierarchy goes on; a hitless trial ends (R446). -/
def warmState (s : State) : State :=
  let before := s.mode.mode
  let trial := decide (s.img.state = 4)
  let held := (List.range 16).map (gpioLevel s)
  let s := warmPage (dropEvents (dropControl (dropToks (windowsWarm s))))
  { s with
    mode := { s.mode with
      mode := .boot, safeRestart := false, before := if s.mode.safeRestart then .safe else before,
      outMode := if before = .boot then s.mode.outMode else before },
    page := { s.page with kept := false },
    pm := { s.pm with gap := true },
    rst := { s.rst with
      phase := .warmAsserted, hold := .none, jFail := 0, entering := false, gpio := held },
    dma := { draws := s.dma.draws, draining := [0, 1, 2, 3, 4, 5, 6] },
    host := { s.host with remap := false },
    eng := { s.eng with
      cl := s.eng.cl.map fun x =>
        (x.1, { x.2 with faulted := false, stopped := [], awaiting := none, lastBad := none }),
      overruns := [], mem := [] },
    img := { s.img with
      state := 0, received := 0, length := 0, act := none, trialFn := none, confirmReq := false, healthy := none,
      fallback := s.img.fallback || trial || s.img.act.isSome } }

/-- Assert a warm reset of a cause (R408, R416): absorbed while a cold reset is asserted, in a release before step 7, and
while a warm reset is asserted. -/
def assertWarm (cause : Nat) (s : State) : State :=
  let s := countReset cause s
  let absorbed := match s.rst.phase with
    | .coldAsserted => true
    | .warmAsserted => true
    | .coldRelease => decide (s.rst.step < 7)
    | _ => false
  if absorbed then s
  else
    let s := warmState { s with bak := { s.bak with last := BitVec.ofNat 8 cause } }
    if cause = 0x0A then { s with rst := { s.rst with ganderTicks := some 0 } } else s

-- The journal's verification (R436).

/-- What a verified journal supplies (R436). -/
structure JFound where
  page : Page
  fp : Word64
  cfg : Cfg
  member : Bool
  audits : List Audit
  seq : Nat
  deriving DecidableEq, Repr

/-- The outcome of verification: an empty journal, a failure of the event's kind at a sequence number, or what it
supplies. -/
inductive JVerdict where
  | empty
  | failed (kind seq : Nat)
  | ok (f : JFound)
  deriving DecidableEq, Repr

/-- Apply a record to what the journal has supplied so far. -/
def applyRecord (f : JFound) (r : JRecord) : JFound :=
  { page := r.page.getD f.page, fp := if r.page.isSome then r.fp else f.fp, cfg := r.cfg, member := r.member,
    audits := (r.audits.reverse ++ f.audits).take 4096, seq := r.seq }

/-- The records after the snapshot, in sequence order (R436): an undetermined tail is discarded (R428). -/
def replay : List JRecord → JFound → JVerdict
  | [], f => .ok f
  | r :: rs, f =>
    if !r.crcOk ∧ rs.isEmpty then .ok f
    else if !r.crcOk then .failed 1 r.seq
    else if !r.macOk then .failed 5 r.seq
    else if r.seq ≠ f.seq + 1 then .failed 1 r.seq
    else replay rs (applyRecord f r)

/-- The closed snapshot with the greater sequence number (R436). -/
def newestSnapshot (f : FlashSt) : Option Snapshot :=
  let ok := fun (x : Option Snapshot) => x.filter fun n => n.closed
  match ok f.snap0, ok f.snap1 with
  | some a, some b => if a.seq < b.seq then some b else some a
  | some a, none => some a
  | none, b => b

/-- The journal area and both snapshot areas are erased (R436). -/
def journalErased (f : FlashSt) : Bool := f.journal.isEmpty && f.snap0.isNone && f.snap1.isNone && decide (f.used = 0)

/-- Verification of the journal (R436), with the recomputed fingerprint of the page (R385). -/
def verifyJournal (f : FlashSt) : JVerdict :=
  if journalErased f then .empty
  else match newestSnapshot f with
    | none => .failed 1 0
    | some n =>
      if !n.macOk then .failed 5 n.seq
      else
        match replay (f.journal.filter fun r => decide (n.seq < r.seq))
          { page := n.page, fp := n.fp, cfg := n.cfg, member := n.member, audits := n.audits, seq := n.seq } with
        | .ok g => if fingerprint g.page = g.fp then .ok g else .failed 1 g.seq
        | v => v

/-- Self-restore is enabled (R435). -/
def selfRestoreOn (s : State) : Bool :=
  s.rst.opts.srEn && (decide (s.bak.lifecycle = 1) || decide (s.bak.lifecycle = 2)) && s.flash.macKey.isSome &&
    !s.flash.reprov && !s.jrn.fault && !s.flash.lostRecord

/-- A snapshot of the live state (R433): the audit entries that records still due carry are not repeated in it. -/
def snapshotNow (seq : Nat) (s : State) : Snapshot :=
  { seq := seq, closed := true, macOk := true, page := s.page.live, fp := s.page.liveFp, cfg := s.cfg,
    member := s.cfg.twin.isSome || s.cfg.group.isSome, audits := s.bel.audit.filter fun a => !(s.jrn.due.any fun r => r.audits.contains a) }

/-- The initial snapshot of an empty journal, written after mode entry into QUIET before any record (R436). A power-fail
warning holds it. -/
def initialSnapshot (s : State) : State :=
  if !journalErased s.flash ∨ s.pwr.pfw ∨ s.mode.mode = .safe ∨ s.mode.mode = .boot then s
  else { s with
    flash := { s.flash with snap0 := some (snapshotNow s.jrn.nextSeq s) },
    jrn := { s.jrn with nextSeq := s.jrn.nextSeq + 1 } }

-- The release sequence (R409).

/-- The image of a slot runs from mode entry: its version, COMPAT and MANIFEST_ID (R437, R438). -/
def runImage (b : Bool) (s : State) : State :=
  let p := slotOf s.flash b
  { s with
    img := { s.img with runB := b, version := hImageVersion p, compat := hCompat p, manifest := manifestId p },
    host := { s.host with remap := true } }

/-- A slot may boot (R447, R450): it verifies, and its SEC_VERSION is not below the counter. -/
def slotBoots (s : State) (b : Bool) : Bool :=
  let p := slotOf s.flash b
  decide (verifyPackage s p = none) && decide (hKind p = 0)

/-- Clear TRIAL_SLOT and boot RUN_SLOT (R447). -/
def clearTrial (br : BootRec) (s : State) : State :=
  raise gUpd 6 { s with flash := writeBoot s.flash br.runSlot none }

/-- RUN_SLOT boots, or no image does (R29, R447). -/
def bootRun (b : Bool) (s : State) : State :=
  if slotBoots s b then runImage b s else { s with rst := { s.rst with noImage := true } }

/-- Raise the anti-rollback counter to the SEC_VERSION of RUN_SLOT (R450). -/
def raiseRollback (s : State) : State :=
  let p := slotOf s.flash (runSlot s.flash)
  if verifyPackage s p = none ∧ s.fuse.rollback < hSecVersion p then
    { s with fuse := { s.fuse with rollback := hSecVersion p } }
  else s

/-- Step 8 of a cold release: the choice of image and trial accounting (R447). With no valid boot record no image
boots. -/
def chooseImage (s : State) : State :=
  let s := raiseRollback s
  match bootRecord s.flash with
  | none => { s with rst := { s.rst with noImage := true } }
  | some br =>
    match br.trialSlot with
    | none => bootRun br.runSlot s
    | some t =>
      if s.bak.trial.toNat < 2 then
        let s := { s with bak := { s.bak with trial := s.bak.trial + 1 } }
        if slotBoots s t then
          let s := runImage t s
          { s with img := { s.img with state := 4, trialBoot := true } }
        else bootRun br.runSlot (clearTrial br s)
      else bootRun br.runSlot (clearTrial br s)

/-- The release is to enter SAFE without steps 8 to 10 (R29, R409, R453): RECOV_N, failed options, or RETIRED. -/
def safeEarly (s : State) : Bool := s.rst.recovLow || s.rst.optFailed || decide (s.bak.lifecycle = 4)

/-- The first frame of mode entry (R228). -/
def startFrame (s : State) : State :=
  { s with clk := { s.clk with
    fsync := if s.mode.mode = .safe then 0 else if s.clk.fn.toNat % 48 = 0 then 64 else 8 } }

/-- Events deferred to mode entry, in order after MODE_CHANGE (R95, R300, R396, R417, R436). -/
def lateEvents (s : State) : State :=
  let r := s.rst
  let s := { s with rst := { r with lateCommits := [], latePrbs := [], jFail := 0, vbakLow := false } }
  let s := r.lateCommits.foldl (fun s c => commitWrites c s) s
  let s := r.latePrbs.foldl (fun s u => post 0x78 [(0, 1, 4), (1, 1, u)] s) s
  let s := if r.vbakLow then envNote gPwr 3 s else s
  if r.jFail = 0 then s
  else journalNote r.jFail r.jFailSeq (if r.jFail = 5 then raise gSec 1 s else s)

/-- Mode entry (R26, R246, R300, R308, R310, R419, R444): the entry cause, MODE_CHANGE as the first event with SEQ 0, then
what a rule deferred; STATUS starts at a random SEQ on each port; a trial boot's 300 s begin. -/
def enterMode (m : Mode) (sync : BitVec 3) (s : State) : State :=
  let cold := s.rst.coldEntry
  let gander := match s.rst.ganderTicks with | some t => decide (t ≤ 16000) | none => false
  let old := s.mode.mode
  let (ra, s) := drawRandom s
  let (rb, s) := drawRandom s
  let trial := decide (s.img.state = 4) && s.img.trialBoot
  let s := { s with
    mode := { s.mode with mode := m, sync := sync, safeRestart := false, since := s.clk.fn, carried := decide (m ≠ .safe) },
    twin := { s.twin with
      takeover := if m = .active ∨ m = .isolated then s.twin.takeover else none,
      gha := { s.twin.gha with seq := BitVec.ofNat 32 (le ra 0 4) },
      ghb := { s.twin.ghb with seq := BitVec.ofNat 32 (le rb 0 4) } },
    img := { s.img with trialFn := (if trial then some 0 else s.img.trialFn), healthy := none },
    rst := { s.rst with
      phase := .running, step := 11, hold := .none, relTicks := none, kickTicks := 0,
      ganderTicks := none, coldEntry := false } }
  let s := startFrame (raise gRst (if cold then 0 else 1) s)
  let s := if gander then raise gRst 3 s else s
  initialSnapshot (lateEvents (modeChange old s.clk.fn s))

/-- Mode entry into SAFE at the end of a release (R29, R31): no page, no image. -/
def releaseSafe (s : State) : State :=
  enterMode .safe 0 { s with
    page := {}, cfg := { Cfg.initial with domains := s.cfg.domains }, prot := {}, dft := {}, car := [], lane := {},
    img := { s.img with state := 0, version := 0, compat := 0, manifest := 0 }, host := { s.host with remap := false } }

/-- The audit entry of a self-restore is kept with the newest record, or with the newest snapshot where no record follows
it: R431 gives a self-restore no record of its own, and the log survives every reset (R389). -/
def noteRestore (a : Audit) (f : FlashSt) : FlashSt :=
  match f.journal.reverse with
  | r :: rs => { f with journal := ({ r with audits := r.audits ++ [a] } :: rs).reverse }
  | [] =>
    let put := fun (x : Option Snapshot) =>
      if x.isSome && x == newestSnapshot f then x.map fun n => { n with audits := (a :: n.audits).take 4096 } else x
    { f with snap0 := put f.snap0, snap1 := put f.snap1 }

/-- Put the journalled page and configuration in force by self-restore (R29, R192, R385, R387). -/
def selfRestore (g : JFound) (s : State) : State :=
  let keep := s.mode.carried
  if keep then s
  else
    let s := renewProtection (removeTests { s with
      cfg := g.cfg,
      page :=
        { live := g.page, staged := { g.page with epoch := g.page.epoch + 1 }, liveFp := g.fp, stagedFp := g.fp,
          sched := solvePage {} g.page } })
    let a := auditOf s 3 2 (ownSlice s) (ownUnit s) 0 0 s.clk.fn 0 s.page.live.epoch s.page.liveFp
    auditAdd a { s with flash := noteRestore a s.flash }

/-- The order in which self-restore powers domains; they are turned off in the reverse order (R421). -/
def powerOrder : List Nat :=
  [(80, 16), (64, 16), (96, 8), (0, 32), (32, 32), (105, 3), (109, 2)].flatMap fun x => (List.range x.2).map (· + x.1)

/-- The domains the journal records as on or in retention are powered, one after another, at step 9 of a release that will
restore (R409, R421). -/
def restoreDomains (c : Cfg) (s : State) : State :=
  let turn := fun (m : SMap DomState) (d : Nat) => match tfind c.domains d with | some t => tset .off m d t | none => m
  { s with pwr := { s.pwr with dom := powerOrder.foldl turn s.pwr.dom } }

/-- The greatest sequence number in the journal and its snapshots. -/
def lastSeq (f : FlashSt) : Nat :=
  (f.journal.map (fun r => r.seq) ++ (f.snap0.toList ++ f.snap1.toList).map (fun n => n.seq)).foldl max 0

/-- Take up what the journal supplies to the controller: the sequence number and the audit log (R389, R431). -/
def adoptJournal (g : JFound) (s : State) : State :=
  { s with
    jrn := { s.jrn with nextSeq := max s.jrn.nextSeq (g.seq + 1), verified := true },
    bel := { s.bel with
      audit := g.audits.take 4096, auditSeq := max s.bel.auditSeq (match g.audits with | a :: _ => a.seq + 1 | [] => 0) },
    twin := { s.twin with mirrorSeq := max s.twin.mirrorSeq g.seq } }

/-- R29's decision once an image runs, at steps 9 to 11; tests of a SERVICE before end with it (R28). -/
def decideMode (s : State) : State :=
  let s := removeTests s
  match verifyJournal s.flash with
  | .empty => enterMode .quiet 0 { s with jrn := { s.jrn with verified := true } }
  | .failed k n =>
    enterMode .quiet 0 { s with
      rst := { s.rst with jFail := k, jFailSeq := n },
      jrn := { s.jrn with verified := false, nextSeq := max s.jrn.nextSeq (lastSeq s.flash + 1) } }
  | .ok g =>
    let s := adoptJournal g s
    if g.member then
      enterMode .standby 1 { s with cfg := { s.cfg with twin := g.cfg.twin, group := g.cfg.group, epoch := g.cfg.epoch } }
    else if selfRestoreOn s ∧ g.page.epoch ≠ 0 then
      enterMode .solo 0 (selfRestore g (if s.mode.carried then s else restoreDomains g.cfg s))
    else enterMode .quiet 0 s

/-- The mode and SYNC_STATE that R28 gives after a warm reset in service, and the state in which they are entered: a unit that
holds a running lease returns ACTIVE until that lease ends unrenewed, one with a carried lease as R254 has it, and one that
leaves ISOLATED with the link back and no GRANT heard takes its role on entry, a held lease as carried (R268). -/
def warmMode (s : State) : Mode × BitVec 3 × State :=
  let heard := heardGrant s s.twin.gha || heardGrant s s.twin.ghb
  let carried := decide (s.twin.lease = 2)
  let role : Mode × BitVec 3 × State :=
    if carried then (.active, 0, { s with twin := { s.twin with isolates := !s.twin.linkUp } })
    else if s.twin.leaseEnd.isSome then (.active, 0, { s with twin := { s.twin with provisional := true } })
    else (.standby, 1, s)
  match s.mode.before with
  | .active => role
  | .standby => (.standby, 1, s)
  | .isolated =>
    if !heard && !s.twin.linkUp then (.isolated, s.mode.sync, s)
    else if s.mode.isoFrom ≠ .active then (.standby, 1, s)
    else if heard then role
    else (.active, 0, { s with twin := { s.twin with leaseEnd := none, lease := 2 } })
  | .service => (.quiet, 0, s)
  | .solo => (.solo, 0, s)
  | _ => (.quiet, 0, s)

/-- Steps 8 to 11 of a release whose boot ROM runs (R409). -/
def afterRom (s : State) : State :=
  let s := { s with rst := { s.rst with step := 7, hold := .none } }
  let decides := decide (s.rst.phase = .coldRelease) || decide (s.mode.before = .boot) || decide (s.mode.before = .safe)
  if decides then
    if safeEarly s then releaseSafe s
    else
      let s := if s.rst.phase = .coldRelease then chooseImage s else bootRun (runSlot s.flash) s
      let s := { s with rst := { s.rst with step := 8 } }
      if s.rst.noImage then releaseSafe s else decideMode s
  else
    let s := bootRun (runSlot s.flash) s
    if s.rst.noImage then releaseSafe s
    else
      let (m, y, s) := warmMode s
      let s := if s.mode.before = .service then removeTests s else s
      enterMode m y s

/-- Mode entry of a warm release takes effect at the start of a frame (R26): of the next one, where frames run. -/
def entryFrame (s : State) : State :=
  if s.rst.entering then afterRom { s with rst := { s.rst with entering := false } } else s

/-- Step 7 (R381, R409, R410): the 2 s count starts the first time a release reaches it; a boot ROM that fails its own
check holds the module in BOOT. -/
def stepRom (s : State) : State :=
  let s := { s with rst := { s.rst with
    step := 7, noImage := false, entering := false, relTicks := s.rst.relTicks.orElse fun _ => some 0 } }
  if !s.rst.romOk then { s with rst := { s.rst with hold := .rom } }
  else if s.rst.phase = .warmRelease ∧ framesRun s then { s with rst := { s.rst with hold := .none, entering := true } }
  else afterRom s

/-- Step 6 (R220, R409, R425): XO_IN is checked, then the DPLL starts in FREE_RUN. -/
def stepXo (s : State) : State :=
  if s.rst.xoOk then
    let s := fromXo { s with tim := { s.tim with running := true, history := putBit s.tim.history 0 true } }
    stepRom { raise gTim 0 s with rst := { s.rst with step := 6, hold := .none } }
  else { s with rst := { s.rst with step := 5, hold := .xo } }

/-- Steps 4 and 5 (R409, R414): the fuse map, then MC0, MB0 and MB3. -/
def stepFuse (s : State) : State :=
  stepXo { s with
    rst := { s.rst with step := 5, hold := .none, fuseMap := true },
    pwr := { s.pwr with dom := [104, 108, 111].foldl (fun m d => tset .off m d .on) s.pwr.dom } }

/-- One turn of the loop of R412. -/
def optionTry (s : State) : State :=
  match optionCopy s.flash with
  | some o =>
    stepFuse { s with
      rst := { s.rst with step := 3, hold := .none, opts := optionsOf o },
      bak := { s.bak with optMark := false, optFails := 0 } }
  | none =>
    let fails := if 3 ≤ s.bak.optFails.toNat then s.bak.optFails else s.bak.optFails + 1
    if fails = 3 then
      stepFuse { s with
        rst := { s.rst with step := 3, hold := .none, opts := safeOptions s.fuse, optFailed := true },
        bak := { s.bak with optMark := false, optFails := fails } }
    else { s with rst := { s.rst with step := 2, hold := .option }, bak := { s.bak with optFails := fails } }

/-- Step 3 (R412): an interrupted load counts as a failure. -/
def stepOption (s : State) : State :=
  let fails := if s.bak.optMark ∧ s.bak.optFails.toNat < 3 then s.bak.optFails + 1 else s.bak.optFails
  optionTry { s with
    rst := { s.rst with step := 2, hold := .none }, bak := { s.bak with optMark := true, optFails := fails } }

/-- Step 2 (R411): the trim load. -/
def stepTrim (s : State) : State :=
  if s.fuse.trimOk then stepOption { s with rst := { s.rst with step := 2, hold := .none } }
  else { s with rst := { s.rst with step := 1, hold := .trim } }

/-- Lifecycle rebuilt from the fuses (R417, R452). -/
def fusedLifecycle (f : FuseSt) : BitVec 3 := if f.retired then 4 else if f.field then 2 else if f.provisioned then 1 else 0

/-- BAK contents lost before this release, or not (R417, R418). -/
def bakCheck (s : State) : State :=
  if s.bak.valid then { s with bak := { s.bak with lost := false } }
  else { s with
    bak := {
      counts := [], total := 0, last := 0, lost := true, valid := true, trial := 2, optMark := false, optFails := 0,
      lifecycle := fusedLifecycle s.fuse, erasing := false },
    rst := { s.rst with vbakLow := true } }

/-- Erase the key store, the journal and the snapshots, and make new keys (R454, R455). -/
def eraseSecrets (s : State) : State :=
  let k := Config.newIdentity s.dbg.draws
  let (r, s) := drawRandom s
  { s with
    flash := { s.flash with
      macKey := some r, idKey := some (fit 96 k), keyA := none, keyB := none, journal := [], snap0 := none, snap1 := none,
      used := 0, spill := 0, reprov := true, reprovReset := false },
    jrn := { s.jrn with due := [], compaction := none } }

/-- A release that finds the erasing value completes the erasure, then sets OPENED (R454). -/
def finishErasure (s : State) : State :=
  if !s.bak.erasing then s
  else
    let s := eraseSecrets s
    { s with bak := { s.bak with erasing := false, lifecycle := 3 }, dbg := { s.dbg with opened := true } }

/-- A cold reset may be released (R404, R407, R420): supply good, the pin high, the trip over. -/
def coldFree (s : State) : Bool := s.rst.vinGood && !s.rst.coldPin && !s.rst.thermHold

/-- Every cause is 0 at release of a cold reset (R311). -/
def clearCauses (s : State) : State :=
  { s with host := { s.host with causes := [], dmaDone := 0, dmaHalt := 0, engCluster := 0 } }

/-- The release of a cold reset (R409). -/
def coldRelease (s : State) : State :=
  if s.rst.phase = .coldAsserted ∧ coldFree s then
    let s := { s with rst := { s.rst with phase := .coldRelease, step := 1, optFailed := false, noImage := false } }
    stepTrim (finishErasure (bakCheck (clearCauses s)))
  else s

/-- The release of a warm reset (R408, R409): at step 7, once every warm source has ended. -/
def warmRelease (s : State) : State :=
  if (s.rst.phase = .warmAsserted ∨ s.rst.phase = .warmRelease) ∧ s.rst.hold = .none ∧ !s.rst.warmPin then
    stepRom { s with rst := { s.rst with phase := .warmRelease } }
  else s

end Sys2Proof.Machine
end

