-- ==== Sys2Proof/Machine/ImageCmds.lean ====
section
/-! DEFINITION. The update, journal, power and time commands (R338 to R341): IMAGE_BEGIN to IMAGE_REJECT, JOURNAL_STATUS,
JOURNAL_COMPACT, POWER_DOMAIN and TOD_SET, with the journal's compaction (R433), the fallback of a trial (R445) and the
domain rules (R421, R422) that they share with happenings. -/
namespace Sys2Proof.Machine

/-- Modes of IMAGE_BEGIN, IMAGE_CHUNK and IMAGE_VERIFY (R34). -/
def downloadModes : List Mode := [.safe, .quiet, .solo, .active, .standby, .service]

/-- The Glasshouse: the slot that does not hold the running image; with none running, the one that is not RUN_SLOT
(R429). -/
def glasshouse (s : State) : Bool := !runSlot s.flash

/-- The package in the Glasshouse. -/
def glassPackage (s : State) : Bytes := slotOf s.flash (glasshouse s)

/-- WRONG_STATE with the image state (R322, R338). -/
def imageWrong (s : State) : Option Refused := some (stWrongState, s.img.state.setWidth 8, 0)

/-- BUSY while a command holds the image state (R319), or its work goes on without it. -/
def imageBusy (s : State) : Option Refused :=
  if s.img.act.isSome || s.host.waiters.any (fun w => waiterObj w == ((8, 0) : ObjKey)) then some (stBusy, 0, 0) else none

/-- The image state must satisfy a test (R338). -/
def imageRefusal (s : State) (ok : Nat → Bool) : Option Refused :=
  orRefuse (if ok s.img.state.toNat then none else imageWrong s) (imageBusy s)

/-- Replace the image state. -/
def setImage (n : BitVec 3) (s : State) : State := { s with img := { s.img with state := n } }

/-- IMAGE_BEGIN against R35: the given bytes hold the header and do not exceed the package. -/
def beginChecks (s : State) (c : CmdEntry) : Checks :=
  let d := descAt c 8
  { lens := [24], fields := [(0, 32), descField 8], argsOk := arg c 0 4 % 8 == 0 && descOk d false,
    lengthOk := descLenOk d (192 ≤ ·), modes := downloadModes, object := imageRefusal s (· != 4), pfwWaits := true,
    buffer := true }

/-- Received bytes enter the Glasshouse; the last one moves the state to DOWNLOADED (R338). -/
def receive (p : Bytes) (s : State) : State :=
  { s with
    flash := putSlot s.flash (glasshouse s) p,
    img := { s.img with received := p.length, state := if p.length = s.img.length then 2 else 1 } }

/-- IMAGE_BEGIN (R440). -/
def execImageBegin (c : CmdEntry) (s : State) : Host.Outcome State Fault Refusal :=
  let d := descAt c 8
  finish s (runCmd 0x80 true c (beginChecks s c) (fun tok s => withRead tok d (192 ≤ ·) noFields (fun b s =>
    let r := headerReason s b
    if r ≠ 0 then
      refuse tok (if r = 4 then stRollback else stIntegrity) [(0, 1, r)] (updNote 0 r (hImageVersion b) s)
    else if hPackageLen b ≠ arg c 0 4 ∨ hPackageLen b < b.length then refuse tok stBadArgument [] s
    else completeOk tok [] (receive b { s with img := { s.img with length := hPackageLen b } })) s) s)

/-- LENGTH of IMAGE_CHUNK (R338). -/
def chunkLen (n : Nat) : Bool := decide (n ≤ 4194304)

/-- IMAGE_CHUNK against R35. -/
def chunkChecks (s : State) (c : CmdEntry) : Checks :=
  { lens := [24], fields := [(0, 32), descField 8], argsOk := descOk (descAt c 8) false,
    lengthOk := descLenOk (descAt c 8) chunkLen, modes := downloadModes, object := imageRefusal s (· == 1),
    pfwWaits := true, buffer := true }

/-- IMAGE_CHUNK (R338): the offset equals the bytes received, and the data does not pass PACKAGE_LEN. -/
def execImageChunk (c : CmdEntry) (s : State) : Host.Outcome State Fault Refusal :=
  let d := descAt c 8
  finish s (runCmd 0x81 true c (chunkChecks s c)
    (fun tok s =>
      if arg c 0 4 ≠ s.img.received then refuse tok stBadArgument [] s
      else withRead tok d chunkLen noFields (fun b s =>
        if s.img.length < s.img.received + b.length then refuse tok stBadArgument [] s
        else
          let s := receive (glassPackage s ++ b) s
          completeOk tok [(0, 4, s.img.received)] s) s) s)

/-- IMAGE_VERIFY against R35. -/
def verifyChecks (s : State) : Checks :=
  { lens := [0], fields := [], argsOk := true, modes := downloadModes, object := imageRefusal s (· == 2), waits := true }

/-- IMAGE_VERIFY (R441): it waits for at most 2 s. -/
def execImageVerify (c : CmdEntry) (s : State) : Host.Outcome State Fault Refusal :=
  finish s (runCmd 0x82 true c (verifyChecks s)
    (fun tok s => { s with host := { s.host with
      waiters := s.host.waiters ++ [.verify (some tok) (s.clk.fn + 16000)] } }) s)

/-- The end of IMAGE_VERIFY (R441). -/
def verifyDone (tok : Option CmdTok) (s : State) : State :=
  let p := glassPackage s
  match verifyPackage s p with
  | none =>
    completeOpt tok stOk 0 (res [(0, 4, (hImageVersion p).toNat), (4, 2, (hCompat p).toNat)])
      (updNote 1 0 (hImageVersion p) (setImage 3 s))
  | some st =>
    completeOpt tok st 0 0 (updNote 2 0 (hImageVersion p)
      { setImage 0 s with flash := putSlot s.flash (glasshouse s) [] })

/-- The mate's last header shows a synchronised standby (R261, R339). -/
def mateInSync (s : State) : Bool :=
  let b := (byteAt s.twin.hdr.raw 2).toNat
  s.twin.linkUp && decide (b % 16 = 5) && decide (b / 16 % 8 = 3)

/-- COMPAT of the group: the Bellwether's record, or this unit's own (R276, R339). -/
def groupCompat (s : State) : Nat :=
  match s.grp.bell with
  | some m => (match tfind s.grp.recs m with | some r => be r.raw 16 2 | none => s.img.compat.toNat)
  | none => s.img.compat.toNat

/-- What R339 refuses without FORCE. -/
def activateRefusal (s : State) (force : Bool) : Option Byte :=
  if force then none
  else if s.mode.mode = .active ∧ !mateInSync s then some stMateUnsync
  else if s.cfg.group.isSome ∧ (s.mode.mode = .active ∨ s.mode.mode = .standby) ∧
      (hCompat (glassPackage s)).toNat ≠ groupCompat s then some stGroupDisagree
  else none

/-- Intent (R442 step 1): the boot record with TRIAL_SLOT, and TRIAL 0. -/
def writeIntent (s : State) : State :=
  { s with
    flash := writeBoot s.flash (runSlot s.flash) (some (glasshouse s)), bak := { s.bak with trial := 0 } }

/-- A journal record of the update (R431). -/
def updateRecord (s : State) : State := recordDue .update [] s

/-- The sequence of R442 is under way from step 2, and IMAGE_ACTIVATE waits for its end. -/
def startUpdate (tok : CmdTok) (hold : Bool) (s : State) : State :=
  { s with
    img := { s.img with act := some { step := 2, next := 0, startFn := s.clk.fn }, holdFlag := hold },
    host := { s.host with waiters := s.host.waiters ++ [.activate (some tok)] } }

/-- A KIND 2 package (R453): the customer key hash, then FIELD. -/
def lifecycleField (p : Bytes) (s : State) : State :=
  let h := slice p 44 48
  secNote 5 0xFF { s with
    fuse := { s.fuse with
      custHash := if fromBE h = 0 then s.fuse.custHash else BitVec.ofNat 384 (fromBE h), field := true },
    bak := { s.bak with lifecycle := 2 }, dbg := { s.dbg with opened := false } }

/-- A KIND 3 package (R453): the erasure, RETIRED, and the cold reset. -/
def retire (s : State) : State :=
  assertCold 0x11 { s with
    flash := { s.flash with
      macKey := none, idKey := none, keyA := none, keyB := none, snap0 := none, snap1 := none, journal := [], used := 0, spill := 0,
      opt0 := [], opt1 := [] },
    fuse := { s.fuse with retired := true }, bak := { s.bak with lifecycle := 4 } }

/-- IMAGE_ACTIVATE by the KIND of the package (R442, R443, R451, R453). -/
def activate (tok : CmdTok) (hold : Bool) (s : State) : State :=
  let p := glassPackage s
  let v : List Field := [(0, 4, (hImageVersion p).toNat)]
  match hKind p with
  | 0 =>
    if s.mode.mode = .safe then assertCold 0x11 (writeIntent s)
    else updateRecord (startUpdate tok hold (writeIntent s))
  | 1 =>
    let o := match componentOf p 5 with | some e => componentBytes p e | none => []
    completeOk tok v { setImage 0 s with flash := writeOptions s.flash o }
  | 2 => completeOk tok v (lifecycleField p (setImage 0 s))
  | _ => retire s

/-- IMAGE_ACTIVATE against R35. -/
def activateChecks (s : State) : Checks :=
  { lens := [8], fields := [(0, 2)], argsOk := true, modes := [.safe, .quiet, .solo, .active, .standby],
    object := imageRefusal s (· == 3), waits := true, pfwWaits := true }

/-- IMAGE_ACTIVATE (R339, R442). -/
def execImageActivate (c : CmdEntry) (s : State) : Host.Outcome State Fault Refusal :=
  finish s (runCmd 0x83 true c (activateChecks s)
    (fun tok s => match activateRefusal s (argBit c 0 0) with
      | some st => refuse tok st [] s
      | none => activate tok (argBit c 0 1) s) s)

/-- IMAGE_CONFIRM against R35. -/
def confirmChecks (s : State) : Checks :=
  { lens := [0], fields := [], argsOk := true, modes := readModes, object := imageRefusal s (· == 4), waits := true }

/-- IMAGE_CONFIRM (R339, R444): it waits for the confirm record. -/
def execImageConfirm (c : CmdEntry) (s : State) : Host.Outcome State Fault Refusal :=
  finish s (runCmd 0x84 true c (confirmChecks s)
    (fun tok s => { s with
      img := { s.img with confirmReq := true },
      host := { s.host with waiters := s.host.waiters ++ [.confirm (some tok)] } }) s)

/-- End a waiting IMAGE_CONFIRM with a status and image state 0. -/
def endConfirm (st : Byte) (s : State) : State :=
  let (mine, rest) := s.host.waiters.partition fun w => match w with | .confirm _ => true | _ => false
  mine.foldl (fun s w => completeOpt (waiterTok w) st 0 0 s) { s with host := { s.host with waiters := rest } }

/-- The trial's bookkeeping ends. -/
def endTrial (s : State) : State :=
  { s with img := { s.img with
    act := none, trialFn := none, trialBoot := false, confirmReq := false, holdFlag := false, healthy := none, readBack := false } }

/-- A trial falls back (R445): after a trial boot, into RUN_SLOT by an IMAGE cold reset; after a hitless activation, the
boot record at once and the firmware at the next commit boundary. -/
def fallBack (s : State) : State :=
  let s := { s with flash := writeBoot s.flash (runSlot s.flash) none }
  if s.img.trialBoot then assertCold 0x11 s
  else
    let s := endTrial s
    { s with img := { s.img with
      state := 0, fallback := true, act := some { step := 7, next := 0, startFn := s.clk.fn } } }

/-- IMAGE_REJECT against R35: while an IMAGE_VERIFY or an activation is under way the image state is held. -/
def rejectChecks (s : State) : Checks :=
  let held := s.img.act.isSome || s.host.waiters.any fun w => match w with
    | .verify _ _ => true | .activate _ => true | _ => false
  { lens := [0], fields := [], argsOk := true, modes := readModes,
    object := orRefuse (if s.img.state = 0 then imageWrong s else none) (if held then some (stBusy, 0, 0) else none),
    pfwWaits := decide (s.img.state = 4) }

/-- IMAGE_REJECT (R339): a waiting IMAGE_CONFIRM completes with WRONG_STATE, image state 0; in TRIAL the completion is the old image's,
at the end of a hitless fallback. -/
def execImageReject (c : CmdEntry) (s : State) : Host.Outcome State Fault Refusal :=
  finish s (runCmd 0x85 true c (rejectChecks s)
    (fun tok s =>
      if s.img.state = 4 then
        let s := fallBack (endConfirm stWrongState s)
        if entered s then { s with img := { s.img with rejecting := some tok } } else s
      else completeOk tok [] { setImage 0 s with
        flash := putSlot s.flash (glasshouse s) [], img := { s.img with state := 0, received := 0, length := 0 } }) s)

-- The journal.

/-- Fill in per cent, rounded down (R432): the part of the newest snapshot that lies in the journal area is in use as well. -/
def journalFill (s : State) : Nat := 100 * (s.flash.used + s.flash.spill) / journalArea

/-- JOURNAL_STATUS against R35. -/
def statusChecks : Checks := { lens := [0], fields := [], argsOk := true, modes := everyMode }

/-- JOURNAL_STATUS (R338). -/
def execJournalStatus (c : CmdEntry) (s : State) : Host.Outcome State Fault Refusal :=
  finish s (runCmd 0x90 true c statusChecks
    (fun tok s => completeOk tok
      [(0, 1, journalFill s), (1, 1, nat01 s.jrn.fault + 2 * nat01 s.jrn.compaction.isSome + 4 * nat01 (selfRestoreOn s) +
        8 * nat01 s.jrn.verified), (2, 6, s.jrn.nextSeq - 1)] s) s)

/-- A compaction starts (R433): the live state at the last sequence number. -/
def startCompaction (s : State) : State :=
  let n := s.jrn.nextSeq - 1
  { s with jrn := { s.jrn with compaction := some { seq := n, snap := snapshotNow n s } } }

/-- Compaction begins (R310, R342, R433). -/
def beginCompaction (s : State) : State :=
  let s := startCompaction s
  raise gCmem 4 (journalNote 3 (s.jrn.nextSeq - 1) s)

/-- JOURNAL_COMPACT against R35. -/
def compactChecks (s : State) : Checks :=
  { lens := [0], fields := [], argsOk := true, modes := serveModes,
    object := if s.jrn.compaction.isSome then some (stBusy, 0, 0) else busyRefusal s [(9, 0)], waits := true,
    pfwWaits := true }

/-- JOURNAL_COMPACT (R340, R433). -/
def execJournalCompact (c : CmdEntry) (s : State) : Host.Outcome State Fault Refusal :=
  finish s (runCmd 0x91 true c (compactChecks s)
    (fun tok s =>
      if s.flash.noRoom then refuse tok stNoResource [] s
      else
        let s := beginCompaction s
        { s with host := { s.host with waiters := s.host.waiters ++ [.compact (some tok)] } }) s)

-- Power domains.

/-- State of a domain. -/
def domState (s : State) (d : Nat) : DomState := tget .off s.pwr.dom d

/-- Domains that a domain requires (R422). -/
def domRequires (d : Nat) : List Nat :=
  if 64 ≤ d ∧ d < 80 then [d + 16] else if 96 ≤ d ∧ d < 104 then [80 + 2 * (d - 96), 81 + 2 * (d - 96)] else []

/-- An on domain, or one that is turning on, requires this one (R422). -/
def domRequired (s : State) (d : Nat) : Bool :=
  (List.range 112).any fun x => (domRequires x).contains d && (domOn s x || (tfind s.pwr.turning x).isSome)

/-- A bank holds a non-empty item of either page (R69). -/
def bankInUse (s : State) (b : Nat) : Bool :=
  [s.page.live, s.page.staged].any fun p =>
    (p.ho.any fun x => bankOf .ho x.1 == b) || (p.lo.any fun x => bankOf .lo x.1 == b) ||
      (p.ds0.any fun x => bankOf .ds0 x.1 == b) || p.car.any fun x => x.1 / 512 == b

/-- Cluster Cn is in use (R378). -/
def clusterInUse (s : State) (n : Nat) : Bool :=
  clusterServes s n || (s.page.live.ho.any fun x => eValid x.2 && x.1 / 1536 == n) ||
    (s.page.live.car.any fun x => cBound x.2 && cBind x.2 / 28 / 1536 == n) ||
    (s.cfg.linear.any fun g => (g.2.prot :: g.2.work).any fun l => l / 4 == n) ||
    s.cfg.rings.any fun r => r.2.east / 4 == n || r.2.west / 4 == n

/-- A domain is in use (R52, R69, R130, R378, R422). -/
def domInUse (s : State) (d : Nat) : Bool :=
  domRequired s d ||
    (if d < 32 then (List.range 4).any fun i => laneMode s.cfg (4 * d + i) != 0 || quadHeld s d
     else if d < 64 then clusterInUse s (d - 32)
     else if d < 80 then (neededDomains s.page.live).contains d
     else if d < 96 then bankInUse s (d - 80)
     else if d < 104 then (neededDomains s.page.live).contains d
     else false)
where
  quadHeld (s : State) (q : Nat) : Bool := multiLane (laneMode s.cfg (4 * q))

/-- Domains that can be in retention (R421). -/
def canRetain (d : Nat) : Bool := decide (32 ≤ d ∧ d < 64) || decide (d = 109) || decide (d = 110)

/-- The state of a code of POWER_DOMAIN (R338). -/
def domTarget (n : Nat) : DomState := if n = 1 then .on else if n = 2 then .retain else .off

/-- A switch sequence of engine firmware runs (R376). -/
def switchRuns (s : State) : Bool :=
  s.img.fallback || (match s.img.act with | some a => decide (a.step = 3) | none => false)

/-- What the state of a domain refuses (R340, R376, R422). -/
def domRefusal (s : State) (d : Nat) (t : DomState) : Option Refused :=
  if (tfind s.pwr.turning d).isSome || objHeld s (10, d) || (decide (32 ≤ d ∧ d < 64) && switchRuns s) then
    some (stBusy, 0, 0)
  else if t ≠ .on ∧ domState s d ≠ t ∧ domInUse s d then some (stWrongState, 1, 0)
  else none

/-- POWER_DOMAIN against R35. -/
def domChecks (s : State) (c : CmdEntry) : Checks :=
  let d := arg c 0 1
  let t := arg c 1 1
  { lens := [8], fields := [(0, 16)],
    argsOk := decide (d ≤ 111) && decide (t ≤ 2) && !([104, 108, 111].contains d && decide (t ≠ 1)) &&
      !(decide (t = 2) && !canRetain d),
    modes := serveModes, object := domRefusal s d (domTarget t), waits := true, pfwWaits := true }

/-- A domain starts to change: the domains it requires are turned on first (R422). -/
def startDomain (d : Nat) (t : DomState) (s : State) : State :=
  let reqs := if t = .off then [] else (domRequires d).filter fun x => !domOn s x
  { s with pwr := { s.pwr with
    turning := tinsert (reqs.foldl (fun m x => if (tfind m x).isSome then m else tinsert m x .on) s.pwr.turning) d t } }

/-- POWER_DOMAIN (R340): it completes when the domain has reached its state. -/
def execPowerDomain (c : CmdEntry) (s : State) : Host.Outcome State Fault Refusal :=
  finish s (runCmd 0xA0 true c (domChecks s c) (fun tok s =>
    let d := arg c 0 1
    let t := domTarget (arg c 1 1)
    if domState s d = t then completeOk tok [(0, 1, domCode t)] s
    else
      let s := startDomain d t s
      { s with host := { s.host with waiters := s.host.waiters ++ [.domain (some tok) d t] } }) s)

-- Time of day.

/-- The step that a TOD_SET makes at frame `fn`, against the time the counter would show there (R338). -/
def todDelta (s : State) (fn : FN) (sec : FN) (ns : Word32) : Int :=
  nanos sec ns - (nanos s.clk.todSec s.clk.todNs + 125000 * ((fn - s.clk.fn).toNat : Int))

/-- TOD_SET against R35. -/
def todChecks (s : State) (c : CmdEntry) : Checks :=
  { lens := [24], fields := [(0, 48), (64, 32), (96, 1), (128, 48)], argsOk := decide (arg c 8 4 < 1000000000),
    modes := everyMode, object := busyRefusal s [(7, 0)], waits := argBit c 12 0 }

/-- TOD_SET (R341): at the next frame, or at the FN named; where no frames run, at once. -/
def execTodSet (c : CmdEntry) (s : State) : Host.Outcome State Fault Refusal :=
  finish s (runCmd 0xA1 true c (todChecks s c) (fun tok s =>
    let sec : FN := BitVec.ofNat 48 (arg c 0 6)
    let ns : Word32 := BitVec.ofNat 32 (arg c 8 4)
    let named := argBit c 12 0
    let fn : FN := if named then BitVec.ofNat 48 (arg c 16 6) else s.clk.fn + 1
    let ahead := (fn - s.clk.fn).toNat
    let r := fun f => res [(0, 8, signed 64 (todDelta s f sec ns))]
    if named ∧ (ahead < 8 ∨ 8000 < ahead) then refuse tok stBadArgument [] s
    else if named then
      { s with
        clk := { s.clk with todStep := s.clk.todStep ++ [(fn, sec, ns)] },
        host := { s.host with sched := s.host.sched ++
          [{ due := fn, tok := some tok, own := true, effect := .tod sec ns, result := r fn, applied := false }] } }
    else if framesRun s then
      complete tok stOk 0 (r fn) { s with clk := { s.clk with todStep := s.clk.todStep ++ [(fn, sec, ns)] } }
    else complete tok stOk 0 (r s.clk.fn) (stepTod sec ns s)) s)

end Sys2Proof.Machine
end

