-- ==== Sys2Proof/Machine/EngineRows.lean ====
section
/-! DEFINITION. Tributary engines, memories and power domains: overruns and faults of clusters (R372, R373), bank switches
(R375, R376), memory errors (R381 to R383), and domains that turn on, off or fault (R421 to R423). -/
namespace Sys2Proof.Machine

/-- A cluster. -/
def clusterOf (s : State) (n : Nat) : ClusterSt := tget {} s.eng.cl n

/-- Replace it. -/
def putCluster (n : Nat) (c : ClusterSt) (s : State) : State := { s with eng := { s.eng with cl := tset {} s.eng.cl n c } }

/-- A cluster faults (R373): its engines stop, and ENG_CLUSTER shows it. -/
def faultCluster (n : Nat) (s : State) : State :=
  let s := putCluster n { clusterOf s n with faulted := true } s
  { s with host := { s.host with engCluster := s.host.engCluster ||| place 32 n 1 } }

/-- An engine of a cluster executes: its domain is on, the cluster has not faulted and the engine is not stopped (R373, R378, R382). -/
def engineRuns (s : State) (e : Nat) : Bool :=
  let c := clusterOf s (e / 32)
  domOn s (32 + e / 32) && !c.faulted && !(c.stopped.any fun x => x.1 == e % 32)

/-- An engine overruns (R372): ENG.LOAD; eight frames in a row fault its cluster. -/
def engineOverrun (e : Nat) (s : State) : State :=
  let n := e / 32
  if 1024 ≤ e ∨ !engineRuns s e then s
  else
    let was := tget 0 s.eng.overrunFn e
    let run := tget 0 s.eng.overruns e
    let k := if run = 0 then 1 else if was = s.clk.fn then run else if was + 1 = s.clk.fn then run + 1 else 1
    let s := raise gEng 3 (bump (32 + n) 1 1 { s with eng := { s.eng with
      overruns := tset 0 s.eng.overruns e k, overrunFn := tset 0 s.eng.overrunFn e s.clk.fn } })
    if 8 ≤ k then faultCluster n s else s

/-- ENGINE_OVERRUN. -/
def execEngineOverrun (e : Nat) (s : State) : Host.Outcome State Fault Refusal := finish s (engineOverrun e s)

/-- An object lies with an engine of a set (R19, R370). -/
def servedBy (s : State) (cluster : Nat) (mine : Nat → Bool) (k : Nat) : Bool :=
  let e := servingEngine s (k / 0x1000000) (k % 0x1000000)
  decide (e / 32 = cluster) && mine (e % 32)

/-- Objects of an engine set begin detection afresh, their PM of the period INCOMPLETE (R375, R379, R382): the readings of a
structure start again. -/
def restartObjects (cluster : Nat) (mine : Nat → Bool) (s : State) : State :=
  let served := servedBy s cluster mine
  let mark := fun (c : PmCounts) => { c with flags := c.flags ||| 1 }
  let one := fun (x : Nat × PmObj) =>
    if served x.1 then (x.1, { x.2 with cur15 := mark x.2.cur15, curDay := mark x.2.curDay }) else x
  { s with
    pm := { s.pm with objs := s.pm.objs.map one },
    dft := { s.dft with reading := s.dft.reading.filter fun x => !served (objKey 2 (x.1 / 8)) } }

/-- The same after a memory error, counted (R382, R400). -/
def restartCounted (cluster : Nat) (mine : Nat → Bool) (s : State) : State :=
  bump (32 + cluster) 3 (s.pm.objs.countP fun x => servedBy s cluster mine x.1) (restartObjects cluster mine s)

-- Bank switches.

/-- FORMAT_ID of the engine component of a package (R438). -/
def dataFormat (p : Bytes) : Nat := match componentOf p 2 with | some e => le e 2 2 | none => 0

/-- Clusters that are on, from n up (R376). -/
def clustersFrom (s : State) (n : Nat) : List Nat := (List.range 32).filter fun i => decide (n ≤ i) && domOn s (32 + i)

/-- Quads that are on, from n up (R442). -/
def quadsFrom (s : State) (n : Nat) : List Nat := (List.range 32).filter fun i => decide (n ≤ i) && domOn s i

/-- The first frame of a commit boundary (R2). -/
def atBoundaryFrame (s : State) : Bool := decide (s.clk.fn.toNat % 48 = 0)

/-- A cluster changes bank (R375): ENG.BANK_SWITCH; a changed data-memory format restarts its objects. -/
def switchBank (n : Nat) (trial : Bool) (s : State) : State :=
  let c := clusterOf s n
  let s := raise gEng 4 (putCluster n { c with
    bankB := !c.bankB, spare := runningComponent s n, trial := trial, awaiting := (if trial then some s.clk.fn else none), spareBad := false } s)
  if dataFormat (slotOf s.flash (runSlot s.flash)) ≠ dataFormat (glassPackage s) then restartObjects n (fun _ => true) s else s

/-- BANK_SWITCH of cluster n (R376): the next cluster that is on, one at each boundary, held while a power-fail warning
stands. -/
def bankSwitch (n : Nat) (s : State) : State :=
  match s.img.act with
  | some a =>
    if a.step = 3 ∧ atBoundaryFrame s ∧ a.startFn ≠ s.clk.fn ∧ !s.pwr.pfw ∧ entered s ∧ (clustersFrom s a.next).head? = some n then
      switchBank n true { s with img := { s.img with act := some { a with next := n + 1, startFn := s.clk.fn } } }
    else s
  | none => s

/-- BANK_SWITCH. -/
def execBankSwitch (n : Nat) (s : State) : Host.Outcome State Fault Refusal := finish s (bankSwitch n s)

/-- The cause that a command completing with INTERNAL raises (R321): ENG.CLUSTER where a cluster failed it, otherwise
CMEM.ECC_UNCORRECTABLE (which of the two: DESIGN CHOICE, entry 162). -/
def internalCause (cluster : Option Nat) (s : State) : State :=
  match cluster with
  | some n => { s with host := { s.host with engCluster := s.host.engCluster ||| place 32 n 1 } }
  | none => raise gCmem 3 s

/-- End every waiting IMAGE_ACTIVATE. -/
def endActivate (st : Byte) (fs : List Field) (s : State) : State :=
  let (mine, rest) := s.host.waiters.partition fun w => match w with | .activate _ => true | _ => false
  mine.foldl (fun s w => completeOpt (waiterTok w) st 0 (res fs) s) { s with host := { s.host with waiters := rest } }

/-- The last step of a fallback (R339, R445 step 4, R446): its record and UPD.FALLBACK, and the completion of the IMAGE_REJECT that asked
for it; a trial that a warm reset ended still names its slot
in the boot record until here. -/
def endFallback (s : State) : State :=
  let named := match bootRecord s.flash with | some br => br.trialSlot.isSome | none => false
  let s := if named then { s with flash := writeBoot s.flash (runSlot s.flash) none } else s
  let tok := s.img.rejecting
  completeOpt tok stOk 0 0
    (updNote 6 0 s.img.version (updateRecord { s with img := { s.img with act := none, fallback := false, rejecting := none } }))

/-- An activation is backed out (R442, R445): IMAGE_ACTIVATE completes with INTERNAL, the image state is VERIFIED again, and
what has switched returns at the next boundary. -/
def backOut (cluster : Option Nat) (s : State) : State :=
  let early := match s.img.act with | some a => decide (a.step = 2) | none => false
  let owed := s.host.waiters.any fun w => match w with | .activate t => t.isSome | _ => false
  let s := if owed then internalCause cluster s else s
  let s := endActivate stInternal [] (setImage 3 { s with flash := writeBoot s.flash (runSlot s.flash) none })
  if early then endFallback s
  else { s with img := { s.img with fallback := true, act := some { step := 7, next := 0, startFn := s.clk.fn } } }

/-- BANK_READY_TIMEOUT (R375, R376): by the end of the 8th frame after its switch the cluster is not ready. -/
def bankReadyTimeout (n : Nat) (s : State) : State :=
  match (clusterOf s n).awaiting with
  | some f =>
    if 8 ≤ (s.clk.fn - f).toNat ∧ entered s ∧ (match s.img.act with | some a => decide (a.step < 7) | none => false) = true then
      backOut (some n) { s with eng := { s.eng with cl := s.eng.cl.map fun x => (x.1, { x.2 with awaiting := none }) } }
    else s
  | none => s

/-- BANK_READY_TIMEOUT. -/
def execBankReadyTimeout (n : Nat) (s : State) : Host.Outcome State Fault Refusal := finish s (bankReadyTimeout n s)

-- Memory errors.

/-- A second bad word at one address of a running bank within 8,000 frames faults the cluster (R383). -/
def badWord (n addr : Nat) (s : State) : State :=
  let c := clusterOf s n
  let twice := match c.lastBad with
    | some (a, f) => decide (a = addr) && decide ((s.clk.fn - f).toNat ≤ 8000)
    | none => false
  let s := raise gEng 2 (putCluster n { c with lastBad := some (addr, s.clk.fn) } s)
  if twice then faultCluster n s else s

/-- The connection-memory bank of a live item (R69). -/
def itemBank : MemRef → Nat
  | .liveEntry t i => bankOf t i
  | .liveCarrier c => c / 512
  | .liveQuiesce p => p / 16
  | _ => 0

/-- A live item is lost (R382). -/
def loseItem (w : MemRef) (s : State) : State :=
  if !domOn s (80 + itemBank w) then s
  else
    let s := raise gCmem 3 (bump (80 + itemBank w) 2 1 s)
    { s with page := { s.page with bad := if s.page.bad.contains w then s.page.bad else s.page.bad ++ [w] } }

/-- An uncorrectable error is found (R381, R382). -/
def eccError (w : MemRef) (s : State) : State :=
  match w with
  | .mbCore b => if b < 4 ∧ domOn s (108 + b) then assertWarm 0x10 (noteError 1 s) else s
  | .mbDma b ch => if b < 4 ∧ domOn s (108 + b) then burstFails ch 1 s else s
  | .engineData e => if e < 1024 ∧ domOn s (32 + e / 32) then raise gEng 2 (restartCounted (e / 32) (· == e % 32) s) else s
  | .bankFetch n e addr =>
    if n < 32 ∧ e < 32 ∧ engineRuns s (32 * n + e) then
      badWord n addr (putCluster n { clusterOf s n with stopped := (clusterOf s n).stopped ++ [(e, addr)] } s)
    else s
  | .bankScrub n addr => if n < 32 ∧ domOn s (32 + n) then badWord n addr s else s
  | .spareBank n => if n < 32 ∧ domOn s (32 + n) then raise gEng 2 (putCluster n { clusterOf s n with spareBad := true } s) else s
  | .liveEntry _ _ => loseItem w s
  | .liveCarrier _ => loseItem w s
  | .liveQuiesce _ => loseItem w s
  | .schedule => raise gCmem 3 { s with page := { s.page with schedBad := true } }
  | .dmaBuffer ch => burstFails ch 6 s

/-- ECC_UNCORRECTABLE. -/
def execEccUncorrectable (w : MemRef) (s : State) : Host.Outcome State Fault Refusal := finish s (eccError w s)

/-- A corrected word of cluster n's memories, of an on-chip bank of the management memory, and of a connection-memory bank (R381): of a
powered memory, counted in its block. -/
def scrubEngine (n : Nat) (s : State) : State :=
  if n < 32 ∧ domOn s (32 + n) then raise gEng 1 (bump (32 + n) 2 1 s) else s

/-- The same of MB b. -/
def scrubMb (b : Nat) (s : State) : State := if b < 4 ∧ domOn s (108 + b) then bump (104 + b) 3 1 s else s

/-- The same of connection-memory bank b. -/
def scrubCm (b : Nat) (s : State) : State := if domOn s (80 + b) then raise gCmem 2 (bump (80 + b) 1 1 s) else s

/-- The scrubber corrects a word (R381): counted in the memory's block, with the cause of its kind. -/
def scrub (w : MemRef) (s : State) : State :=
  match w with
  | .mbCore b => scrubMb b s
  | .mbDma b _ => scrubMb b s
  | .engineData e => scrubEngine (e / 32) s
  | .bankFetch n _ _ => scrubEngine n s
  | .bankScrub n _ => scrubEngine n s
  | .spareBank n => scrubEngine n s
  | .liveEntry _ _ => scrubCm (itemBank w) s
  | .liveCarrier _ => scrubCm (itemBank w) s
  | .liveQuiesce _ => scrubCm (itemBank w) s
  | .schedule => raise gCmem 2 s
  | .dmaBuffer _ => s

/-- SCRUB_CORRECTION. -/
def execScrubCorrection (w : MemRef) (s : State) : Host.Outcome State Fault Refusal := finish s (scrub w s)

/-- A bad word of a running bank is rewritten (R383): the engines it stopped start again, as after a data-memory error. -/
def repairBank (n : Nat) (s : State) : State :=
  let c := clusterOf s n
  if c.faulted then s
  else restartCounted n (fun e => c.stopped.any fun x => x.1 == e) (putCluster n { c with stopped := [] } s)

/-- BANK_REPAIR_DONE. -/
def execBankRepairDone (n : Nat) (s : State) : Host.Outcome State Fault Refusal :=
  finish s (if entered s ∧ (clusterOf s n).lastBad.isSome then repairBank n s else s)

/-- A live item is rewritten from the journalled page by the firmware; the live schedule is applied afresh at a boundary (R382). -/
def rewriteItem (w : MemRef) (s : State) : State :=
  if !entered s then s else match w with
  | .schedule => if atBoundaryFrame s then { s with page := { s.page with schedBad := false } } else s
  | w => { s with page := { s.page with bad := s.page.bad.filter fun x => x != w } }

/-- LIVE_ITEM_REWRITE. -/
def execLiveItemRewrite (w : MemRef) (s : State) : Host.Outcome State Fault Refusal := finish s (rewriteItem w s)

-- Power domains.

/-- Items of a page outside a connection-memory bank (R69). -/
def withoutBank (b : Nat) (p : Page) : Page :=
  { p with
    ho := p.ho.filter fun x => bankOf .ho x.1 != b, lo := p.lo.filter fun x => bankOf .lo x.1 != b,
    ds0 := p.ds0.filter fun x => bankOf .ds0 x.1 != b, car := p.car.filter fun x => x.1 / 512 != b }

/-- Map bits that engines feed read clear for the objects of a cluster that is off (R378). -/
def dropEngineBits (n : Nat) (s : State) : State :=
  let mine := fun (k : Nat) => decide (servingEngine s (k / 0x1000000) (k % 0x1000000) / 32 = n)
  let keys := (s.dft.set.map (·.1)).filter mine
  let fed : Word64 := [3, 5, 6, 7, 14, 15, 16, 17, 18, 19, 20, 21, 25, 26, 29, 30, 31, 32, 33, 34, 35, 54, 55, 60, 61, 62].foldl
    (fun (w : Word64) b => w ||| place 64 b 1) 0
  let s := { s with dft := { s.dft with ber := s.dft.ber.filter fun x => !mine x.1 } }
  keys.foldl (fun s k => putSet k (tget 0 s.dft.set k &&& ~~~fed) s) s

/-- What the live page executes of a bank: its valid entries, its bound carriers and their egress tributaries. -/
def executedOf (b : Nat) (p : Page) : List Nat :=
  let keys := fun (t : Tier) => ((tierOfPage p t).filter fun x => bankOf t x.1 == b && eValid x.2).map fun x => selKey t x.1
  let cars := p.car.filter fun x => x.1 / 512 == b && cBound x.2
  keys .ho ++ keys .lo ++ keys .ds0 ++ cars.flatMap fun x => [lostCarrierKey x.1, selKey .lo (cBind x.2)]

/-- A bank is off (R52, R69): both pages read empty there, what the live one executed is a failure, a solution made for them
goes, and a scheduled page loses the same items. -/
def loseBank (b : Nat) (s : State) : State :=
  let live := withoutBank b s.page.live
  let staged := withoutBank b s.page.staged
  if live = s.page.live ∧ staged = s.page.staged then s
  else
    let s := dropSolution { s with page := { s.page with
      lost := s.page.lost ++ executedOf b s.page.live, live := live, staged := staged, stagedFp := fingerprint staged } }
    match s.page.job with
    | some j => setJob (some { j with parts := j.parts.map (withoutBank b), stagedFp := fingerprint staged }) s
    | none => s

/-- A management core is reset (R344, R402): its accesses are drained, and its counters start again from 0. -/
def resetCore (n : Nat) (s : State) : State :=
  startDrain [n] { s with bel := { s.bel with core := (List.range 9).foldl (fun m k => terase m (9 * n + k)) s.bel.core } }

/-- What a domain loses when it is turned off (R69, R379): a management core is reset (R344). -/
def loseDomain (d : Nat) (s : State) : State :=
  let s := { s with bel := { s.bel with
    ctr := (List.range 4).foldl (fun m c => terase m (4 * (if d < 104 then d else d - 4) + c)) s.bel.ctr } }
  if 32 ≤ d ∧ d < 64 then
    let n := d - 32
    dropEngineBits n { s with eng := { s.eng with
      cl := terase s.eng.cl n, mem := s.eng.mem.filter fun x => (x.1 - 0x80000000) / 0x200000 != n, overruns := s.eng.overruns.filter fun x => x.1 / 32 != n } }
  else if 80 ≤ d ∧ d < 96 then
    loseBank (d - 80) s
  else if 96 ≤ d ∧ d < 104 then { s with car := s.car.filter fun x => x.1 / 1024 != d - 96 }
  else if 105 ≤ d ∧ d < 108 then resetCore (d - 104) s
  else s

/-- The state of a domain after turning on (R379, R422). -/
def freshDomain (d : Nat) (s : State) : State :=
  if 32 ≤ d ∧ d < 64 then
    let trial := decide (s.img.state = 4) || (match s.img.act with | some a => decide (3 < a.step ∧ a.step < 7) | none => false)
    putCluster (d - 32) { trial := trial, spare := if trial then engineComponent (slotOf s.flash (runSlot s.flash)) else [] } s
  else if 64 ≤ d ∧ d < 80 then
    let mine := fun (p : Nat) => decide (p / 16 = d - 64)
    { s with
      prot := { s.prot with
        sel := s.prot.sel.filter fun x => !(decide (x.1 < 0x1000000) && mine (x.1 / 192)), prot := s.prot.prot.filter fun x => !mine x.1,
        remapP := s.prot.remapP.filter fun x => !mine (x.1 / 192) },
      cfg := { s.cfg with remap := s.cfg.remap.filter fun x => !mine (x.1 / 192) } }
  else s

/-- The POWER_DOMAIN commands that wait on a domain end (R340, R423). -/
def endDomain (d : Nat) (st : Byte) (s : State) : State :=
  let (mine, rest) := s.host.waiters.partition fun w => match w with | .domain _ x _ => x == d | _ => false
  let r := res [(0, 1, domCode (domState s d))]
  mine.foldl (fun s w => completeOpt (waiterTok w) st 0 (if st = stOk then r else 0) s) { s with host := { s.host with waiters := rest } }

/-- Domains that still change, without d; where d went off and another that turns on requires it, it is turned on first (R422). -/
def stillTurning (d : Nat) (t : DomState) (m : SMap DomState) : SMap DomState :=
  let rest := terase m d
  if t = .off ∧ (rest.any fun x => x.2 != .off && (domRequires x.1).contains d) then tinsert rest d .on else rest

/-- A domain has reached a state: it is journalled (R421, R431), and POWER_DOMAIN completes. -/
def reachDomain (d : Nat) (t : DomState) (s : State) : State :=
  let s := { s with
    pwr := { s.pwr with dom := tset .off s.pwr.dom d t, turning := stillTurning d t s.pwr.turning },
    cfg := { s.cfg with domains := tset .off s.cfg.domains d t } }
  endDomain d stOk (configRecord s)

/-- A domain reaches regulation (R379, R380, R422), once those it requires are on. -/
def domainOn (d : Nat) (s : State) : State :=
  match tfind s.pwr.turning d with
  | some t =>
    if t = .off ∨ (t = .retain ∧ domState s d = .on) ∨ !entered s ∨ !(domRequires d).all (domOn s) then s
    else if domState s d = .off ∧ t = .retain then
      freshDomain d { s with pwr := { s.pwr with dom := tset .off s.pwr.dom d .on } }
    else if domState s d = .off then reachDomain d t (freshDomain d s)
    else if 32 ≤ d ∧ d < 64 then reachDomain d t (restartObjects (d - 32) (fun _ => true) s)
    else reachDomain d t s
  | none => s

/-- DOMAIN_ON_DONE (R379, R380): a domain bound for retention is on first, and retained at the next frame start. -/
def execDomainOnDone (d : Nat) (s : State) : Host.Outcome State Fault Refusal := finish s (domainOn d s)

/-- At a frame start: domains that go into retention or off (R379, R422). -/
def domainFrame (s : State) : State :=
  if !entered s then s
  else s.pwr.turning.foldl (fun s x =>
    if domState s x.1 = .on ∧ x.2 = .retain then reachDomain x.1 .retain s
    else if x.2 = .off then tapCheck s (reachDomain x.1 .off (loseDomain x.1 s))
    else s) s

/-- A domain faults (R423): it is switched off; PD104, PD108 and PD111 are a RAIL_FAULT reset. -/
def domainFails (d : Nat) (s : State) : State :=
  if 112 ≤ d ∨ (domState s d = .off ∧ (tfind s.pwr.turning d).isNone) then s
  else if d = 104 ∨ d = 108 ∨ d = 111 then assertCold 2 s
  else
    let s' := loseDomain d { s with pwr := { s.pwr with
      dom := terase s.pwr.dom d, turning := terase s.pwr.turning d } }
    let owed := s.host.waiters.any fun w => match w with | .domain t x _ => t.isSome && x == d | _ => false
    let cluster := if 32 ≤ d ∧ d < 64 then some (d - 32) else none
    tapCheck s (endDomain d stInternal (envNote gPwr 2 (if owed then internalCause cluster s' else s')))

/-- DOMAIN_FAULT. -/
def execDomainFault (d : Nat) (s : State) : Host.Outcome State Fault Refusal := finish s (domainFails d s)

end Sys2Proof.Machine
end

