-- ==== Sys2Proof/Machine/GroupLine.lean ====
section
/-! DEFINITION. The code groups of the group bus (R272): the 8b/10b code of IEEE 802.3 clause 36, and its synchronisation
process. -/
namespace Sys2Proof.Machine

/-- The 6-bit groups of D0 to D31 at negative disparity. -/
def sixBits : List Nat :=
  [0x27, 0x1D, 0x2D, 0x31, 0x35, 0x29, 0x19, 0x38, 0x39, 0x25, 0x15, 0x34, 0x0D, 0x2C, 0x1C, 0x17] ++
  [0x1B, 0x23, 0x13, 0x32, 0x0B, 0x2A, 0x1A, 0x3A, 0x33, 0x26, 0x16, 0x36, 0x0E, 0x2E, 0x1E, 0x2B]

/-- The 4-bit groups of y = 0 to 7 at negative disparity. -/
def fourBits : List Nat := [0xB, 0x9, 0x5, 0xC, 0xD, 0xA, 0x6, 0xE]

/-- Ones among the low n bits. -/
def onesOf (n w : Nat) : Nat := (List.range n).countP fun i => w.testBit i

/-- One group of n bits at running disparity `rd` (true: positive), from its form at negative disparity: an unbalanced one, and
`alt`, is inverted at positive disparity; an unbalanced one changes the disparity. -/
def halfGroup (n w : Nat) (alt rd : Bool) : Nat × Bool :=
  let odd := 2 * onesOf n w ≠ n
  ((if rd ∧ (odd ∨ alt) then 2 ^ n - 1 - w else w), xor rd odd)

/-- The code group of a data byte, and the disparity after it. -/
def encodeData (b : Byte) (rd : Bool) : Nat × Bool :=
  let x := fld b 0 5
  let y := fld b 5 3
  let (six, r) := halfGroup 6 (sixBits.getD x 0) (decide (x = 7)) rd
  let a7 := y = 7 ∧ (if r then x = 11 ∨ x = 13 ∨ x = 14 else x = 17 ∨ x = 18 ∨ x = 20)
  let (four, r) := halfGroup 4 (if a7 then 7 else fourBits.getD y 0) (decide (y = 3)) r
  (16 * six + four, r)

/-- The special code groups used: K28.5, /S/ K27.7, /T/ K29.7 and /R/ K23.7. -/
inductive Special where
  | k28_5 | start | terminate | carrierExtend
  deriving DecidableEq, Repr

/-- The code group of a special, and the disparity after it. -/
def encodeSpecial (k : Special) (rd : Bool) : Nat × Bool :=
  let w := match k with | .k28_5 => 0x0FA | .start => 0x368 | .terminate => 0x2E8 | .carrierExtend => 0x3A8
  ((if rd then 1023 - w else w), xor rd (decide (onesOf 10 w ≠ 5)))

/-- Encode a row of specials and bytes in turn. -/
def encodeRow (xs : List (Special ⊕ Byte)) (rd : Bool) : List Nat × Bool :=
  xs.foldl (fun (o : List Nat × Bool) x =>
    let (w, r) := match x with | .inl k => encodeSpecial k o.2 | .inr b => encodeData b o.2
    (o.1 ++ [w], r)) ([], rd)

/-- The ordered set /I2/ between packets. -/
def idleSet : List (Special ⊕ Byte) := [.inl .k28_5, .inr 0x50]

/-- A packet on the wire: /S/, its bytes, /T/, and /R/ where its length is odd. -/
def packetSet (m : Bytes) : List (Special ⊕ Byte) :=
  .inl .start :: m.map .inr ++ [.inl .terminate] ++ (if m.length % 2 = 1 then [.inl .carrierExtend] else [])

/-- The special code groups of clause 36 at negative disparity: K28.0 to K28.7, K23.7, K27.7, K29.7 and K30.7. -/
def specialWords : List Nat := [0x0F4, 0x0F9, 0x0F5, 0x0F3, 0x0F2, 0x0FA, 0x0F6, 0x0F8, 0x3A8, 0x368, 0x2E8, 0x1E8]

/-- A code group is the one of a byte at a disparity: its byte. -/
def decodeData (w : Nat) (rd : Bool) : Option Byte :=
  ((List.range 256).find? fun n => (encodeData (BitVec.ofNat 8 n) rd).1 == w).map (BitVec.ofNat 8)

/-- A code group is a special one at a disparity. -/
def isSpecial (w : Nat) (rd : Bool) : Bool := specialWords.contains (if rd then 1023 - w else w)

/-- The disparity after part of a code group: of n bits, by its ones, an even part by the two patterns that settle it. -/
def partDisparity (n w low high : Nat) (rd : Bool) : Bool :=
  if 2 * onesOf n w = n then (if w = high then true else if w = low then false else rd) else decide (n < 2 * onesOf n w)

/-- The disparity after a received code group. -/
def rxDisparity (w : Nat) (rd : Bool) : Bool :=
  partDisparity 4 (w % 16) 0xC 0x3 (partDisparity 6 (w / 16) 0x38 0x07 rd)

/-- The comma stands in a code group. -/
def hasComma (w : Nat) : Bool := decide (w / 8 = 0x1F ∨ w / 8 = 0x60)

/-- One code group in the synchronisation process of clause 36. A receiver without synchronisation knows no disparity. -/
def PortSync.step (x : PortSync) (c : BitVec 10) : PortSync :=
  let w := c.toNat
  let isData := (decodeData w x.rd).isSome
  let bad := !(isData || isSpecial w x.rd) || (hasComma w && x.even)
  let y := { x with rd := rxDisparity w x.rd, even := !x.even }
  let lost := { y with phase := 0, good := 0 }
  match x.phase with
  | 0 => if hasComma w && (isSpecial w false || isSpecial w true) then { y with phase := 1, even := true } else y
  | 1 | 3 | 5 => if isData then { y with phase := x.phase + 1 } else lost
  | 2 | 4 => if bad then lost else if hasComma w then { y with phase := x.phase + 1, even := true } else y
  | 6 => if bad then { y with phase := 7, good := 0 } else y
  | n =>
    if bad then (if n = 9 then lost else { y with phase := n + 1, good := 0 })
    else if x.good = 3 then { y with phase := n - 1, good := 0 }
    else { y with good := x.good + 1 }

/-- Code groups in turn. -/
def PortSync.take (x : PortSync) (cs : List (BitVec 10)) : PortSync := cs.foldl PortSync.step x

end Sys2Proof.Machine
end

