-- ==== Sys2Proof/Machine/TwinCmds.lean ====
section
/-! DEFINITION. The twin, group and Gatehouse commands: TWIN_CONFIG, GROUP_CONFIG and GATEHOUSE_KEY (R236, R250, R270,
R337). -/
namespace Sys2Proof.Machine

/-- A membership record, where the change enters or leaves a pair or group (R431). -/
def membership (was : Bool) (s : State) : State :=
  if (s.cfg.twin.isSome || s.cfg.group.isSome) = was then s else recordDue .membership [] s

/-- The twin configuration that TWIN_CONFIG carries. -/
def twinOf (c : CmdEntry) : TwinCfg :=
  { unit := argBit c 0 1, slice := argBits c 0 2 2, ghaEn := argBit c 0 4, ghbEn := argBit c 0 5, ttl := arg c 2 2 }

/-- TWIN_CONFIG against R35 (R322): it is not removed while a group configuration is held. -/
def twinChecks (s : State) (c : CmdEntry) : Checks :=
  { lens := [8], fields := [(0, 6), (16, 16)],
    argsOk := !argBit c 0 0 || decide (10 ≤ arg c 2 2 ∧ arg c 2 2 ≤ 500), modes := [.quiet],
    object := if !argBit c 0 0 && s.cfg.group.isSome then some (stWrongState, 1, 0) else none, pfwWaits := true }

/-- TWIN_CONFIG (R236). -/
def execTwinConfig (c : CmdEntry) (s : State) : Host.Outcome State Fault Refusal :=
  finish s (runCmd 0x70 true c (twinChecks s c) (fun tok s =>
    let t := twinOf c
    let was := s.cfg.twin.isSome || s.cfg.group.isSome
    let fits := match s.cfg.group with | some g => decide (t.slice < g.slices) | none => true
    if argBit c 0 0 ∧ !fits then refuse tok stBadArgument [] s
    else
      let s := { s with cfg := { s.cfg with twin := if argBit c 0 0 then some t else none } }
      completeOk tok [] (membership was (configRecord s))) s)

/-- GROUP_CONFIG against R35 (R270, R322): a twin configuration is held. -/
def groupChecks (s : State) (c : CmdEntry) : Checks :=
  { lens := [8], fields := [(0, 40)],
    argsOk := decide (arg c 0 4 = 0) || decide (2 ≤ arg c 4 1 ∧ arg c 4 1 ≤ 4), modes := [.quiet],
    object := if s.cfg.twin.isNone then some (stWrongState, 1, 0) else none, pfwWaits := true }

/-- GROUP_CONFIG (R270): GROUP_ID 0 removes the configuration. -/
def execGroupConfig (c : CmdEntry) (s : State) : Host.Outcome State Fault Refusal :=
  finish s (runCmd 0x71 true c (groupChecks s c) (fun tok s =>
    let gid := arg c 0 4
    let n := arg c 4 1
    let was := s.cfg.twin.isSome || s.cfg.group.isSome
    if gid ≠ 0 ∧ n ≤ ownSlice s then refuse tok stBadArgument [] s
    else
      let g : Option GroupCfg := if gid = 0 then none else some { gid := BitVec.ofNat 32 gid, slices := n }
      let s := { s with
        cfg := { s.cfg with group := g },
        grp := busPorts s.grp }
      completeOk tok [] (membership was (configRecord s))) s)

/-- A Gatehouse port: GHB where the flag is set. -/
def ghPort (s : State) (b : Bool) : GhPort := if b then s.twin.ghb else s.twin.gha

/-- Replace it. -/
def putGh (b : Bool) (p : GhPort) (s : State) : State :=
  if b then { s with twin := { s.twin with ghb := p } } else { s with twin := { s.twin with gha := p } }

/-- Key of a port. -/
def ghKey (s : State) (b : Bool) : Option Bytes := if b then s.flash.keyB else s.flash.keyA

/-- GATEHOUSE_KEY against R35 (R337). -/
def keyChecks (c : CmdEntry) : Checks :=
  { lens := [40], fields := [(0, 16), (64, 256)],
    argsOk := decide (arg c 0 1 ≤ 1) && decide (arg c 1 1 ≤ 2) && (decide (arg c 1 1 ≠ 0) || decide (arg c 8 32 = 0)),
    modes := [.quiet, .solo, .active, .standby, .isolated], pfwWaits := true }

/-- GATEHOUSE_KEY (R250): mode OFF erases the key; GRANTs under the key before a change are accepted for 8,000 frames. -/
def execGatehouseKey (c : CmdEntry) (s : State) : Host.Outcome State Fault Refusal :=
  finish s (runCmd 0x72 true c (keyChecks c) (fun tok s =>
    let b := decide (arg c 0 1 = 1)
    let key := argBytes c 8 32
    let mode := arg c 1 1
    let new : Option Bytes := if mode = 0 then none else some key
    let old := ghKey s b
    let p := ghPort s b
    let prev := match old with
      | some k => if new = old then p.prevKey else some (k, s.clk.fn + 8000)
      | none => p.prevKey
    let s := putGh b { p with mode := mode, prevKey := prev } s
    let s := if b then { s with flash := { s.flash with keyB := new } } else { s with flash := { s.flash with keyA := new } }
    completeOk tok [(0, 4, fromLE ((sha256 key).take 4))] s) s)

end Sys2Proof.Machine
end

