-- ==== Sys2Proof/Machine/TwinRows.lean ====
section
/-! DEFINITION. The happenings of a twin pair: mate lanes and link (R239 to R244), mirroring and resynchronisation (R242, R243,
R261 to R264), GRANTs, the lease and roles (R249 to R260, R265), and timing alignment (R232, R233). A happening whose
condition does not hold in the state leaves it unchanged. -/
namespace Sys2Proof.Machine

/-- A mate lane: ML1 where the flag is set. -/
def mlOf (s : State) (lane : Bool) : MlRx := if lane then s.twin.ml1 else s.twin.ml0

/-- Replace it. -/
def putMl (lane : Bool) (x : MlRx) (s : State) : State :=
  if lane then { s with twin := { s.twin with ml1 := x } } else { s with twin := { s.twin with ml0 := x } }

/-- LEASE_TTL in frames (R251). -/
def ttlFrames (s : State) : Nat := 8 * (twinSet s).ttl

/-- No valid GRANT on a port for one lease TTL, counted from entry into the mode where none has come (R27). -/
def ghSilent (s : State) (p : GhPort) : Bool :=
  match p.grantFn with
  | some f => decide (ttlFrames s < (s.clk.fn - f).toNat)
  | none => decide (ttlFrames s ≤ (s.clk.fn - s.mode.since).toNat)

/-- Neither port hears the arbiter (R27). -/
def arbiterLost (s : State) : Bool := ghSilent s s.twin.gha && ghSilent s s.twin.ghb

/-- A valid GRANT was received on an own port within the last LEASE_TTL (R254). -/
def heardOwn (s : State) : Bool := heardGrant s s.twin.gha || heardGrant s s.twin.ghb

/-- Mode code of the mate's last header. -/
def mateMode (s : State) : Nat := (byteAt s.twin.hdr.raw 2).toNat % 16

/-- Put a SYNC_STATE in force (R261): a change of class posts SYNC_GAINED or SYNC_LOST (R269). -/
def setSync (n : BitVec 3) (s : State) : State :=
  let was := decide (3 ≤ s.mode.sync.toNat)
  let now := decide (3 ≤ n.toNat)
  let s := { s with mode := { s.mode with sync := n } }
  if was && !now then twinNote 9 s else if !was && now then twinNote 8 s else s

/-- Forget the resynchronisation in progress (R265). -/
def dropImage (s : State) : State :=
  { s with twin := { s.twin with
    image := none, imageDone := false, imageTag := 0, installed := false, later := [], laterStaged := [], gaps := [], gapTo := [] } }

/-- Enter ISOLATED at a frame start (R26, R267): the role and its lease stay as they are. -/
def enterIsolated (s : State) : State :=
  let s := { s with mode := { s.mode with isoFrom := s.mode.mode } }
  twinNote 11 (toMode .isolated s.mode.sync s)

/-- ISOLATED is decided: the unit enters it at the next frame start (R26, R27). -/
def isolate (s : State) : State := { s with twin := { s.twin with isolates := true } }

/-- RELEASED (R243), with the FN from which the unit is STANDBY. -/
def sendReleased (s : State) : State :=
  sendMate 0x01 (0x02 :: (toBE 4 s.twin.epoch.toNat ++ toBE 6 s.twin.relFn.toNat)) s

/-- Become STANDBY from ACTIVE or ISOLATED at a frame start (R254, R268): unsynchronised, with RELEASED sent and repeated where
the unit was active. -/
def becomeStandby (s : State) : State :=
  let active := roleShown s
  let s := dropImage { s with twin := { s.twin with
    leaseEnd := none, lease := if active then 3 else s.twin.lease, pending := none, yields := false, isolates := false,
    resumes := false, provisional := false,
    relRepeat := if active then 8 else s.twin.relRepeat, relFn := if active then s.clk.fn else s.twin.relFn, copyGood := false, takeover := none } }
  let sync : BitVec 3 := if active then 1 else s.mode.sync
  let s := toMode .standby sync s
  if active then roleCause (twinNote 0 (sendReleased s)) else s

/-- The mate link goes out of service (R244): PENDING or UNSYNC on a standby (R264, R265), ISOLATED where the lease is
carried or the arbiter is lost too (R27, R254); a MATE reference slot then has no source (R216). -/
def linkLost (s : State) : State :=
  if !s.twin.linkUp then s else
  let s := evalSlots (twinNote 5 { s with tim := { s.tim with mateStopped := false }, twin := { s.twin with linkUp := false, resumes := false, copyGood := false } })
  let s := match s.mode.mode with
    | .standby =>
      if s.mode.sync = 3 then setSync 4 { s with twin := { s.twin with pendFn := s.clk.fn } }
      else if s.mode.sync = 2 then setSync 1 (dropImage (twinNote 10 s))
      else s
    | _ => s
  if (s.mode.mode = .active ∧ s.twin.lease = 2) ∨
      ((s.mode.mode = .active ∨ s.mode.mode = .standby) ∧ arbiterLost s) then isolate s
  else s

/-- Bit errors of a received alignment block (R239). -/
def alignErrors (lane : Bool) (w : BitVec 66) : Nat :=
  ((List.range 66).filter fun i => (w ^^^ alignBlock lane).getLsbD i).length

/-- ML_FRAME_VERIFY (R239): the block recurs at most 2 bit errors away, and all of the 64 blocks after each occurrence carry
header 01: the lane is in frame. R239 gives ML-LOF no clearing: it clears here (DESIGN CHOICE, log 117). -/
def execMlFrameVerify (x : MlAgain) (s : State) : Host.Outcome State Fault Refusal :=
  finish s (if !(mlOf s x.lane).inFrame && decide (alignErrors x.lane x.again ≤ 2 ∧ x.heads = 128) then
    putMl x.lane { mlOf s x.lane with inFrame := true, los := false, lof := false, run := 0 } s
  else s)

/-- A lane in frame loses it (R239): the alignment blocks of the last 4 superframes each have more than 2 errors, or 16 data
blocks of a superframe have a wrong header. -/
def mlLost (lane : Bool) (blocks : List (BitVec 66)) (bad : Nat) : Bool :=
  (decide (blocks.length = 4) && blocks.all fun w => decide (2 < alignErrors lane w)) || decide (16 ≤ bad)

/-- ML_OOF (R239): the lane searches again. -/
def execMlOof (x : MlBlocks) (s : State) : Host.Outcome State Fault Refusal :=
  finish s (if (mlOf s x.lane).inFrame && mlLost x.lane x.blocks x.bad then
    putMl x.lane { mlOf s x.lane with inFrame := false, oofFn := s.clk.fn, run := 0 } s
  else s)

/-- ML_LOF (R239): ML-OOF has stood for 16 frames; the link leaves service (R244). -/
def execMlLof (lane : Bool) (s : State) : Host.Outcome State Fault Refusal :=
  let x := mlOf s lane
  finish s (if !x.inFrame && !x.lof && decide (16 ≤ (s.clk.fn - x.oofFn).toNat) then
    linkLost (putMl lane { x with lof := true } s)
  else s)

/-- Both lanes have carried valid, correctly identified headers in 16 consecutive superframes (R244). -/
def linkReady (s : State) : Bool :=
  s.cfg.twin.isSome && !s.twin.miswire && [s.twin.ml0, s.twin.ml1].all fun x =>
    x.inFrame && !x.los && decide (16 ≤ x.run ∧ (s.clk.fn - x.lastFn).toNat ≤ 5)

/-- A HELD or PENDING unit compares pages when the link returns (R264). -/
def compareHeld (s : State) : State :=
  if s.mode.mode = .standby ∧ (s.mode.sync = 4 ∨ s.mode.sync = 5) ∧ s.twin.linkUp then
    if !pagesEqualMate s then setSync 1 s else if s.tim.aligned then setSync 3 s else s
  else s

/-- The link returns to an ISOLATED unit that hears no GRANT: at the next frame start it resumes its role (R26, R268). -/
def resumeRole (s : State) : State :=
  if s.mode.mode = .isolated ∧ !heardOwn s then { s with twin := { s.twin with resumes := true } } else s

/-- The role on entry is resumed, a held lease as carried (R268). -/
def takeBackRole (s : State) : State :=
  let s := { s with twin := { s.twin with resumes := false } }
  if s.mode.isoFrom = .active then toMode .active 0 { s with twin := { s.twin with leaseEnd := none, lease := 2 } }
  else toMode .standby s.mode.sync s

/-- MATE_LINK_UP (R244). -/
def execMateLinkUp (s : State) : Host.Outcome State Fault Refusal :=
  finish s (if !s.twin.linkUp && linkReady s then
    compareHeld (resumeRole (twinNote 6 { s with twin := { s.twin with linkUp := true, rxSeq := [] } }))
  else s)

/-- MATE_LINK_DOWN (R244): 0 ML-LOS on a lane; 1 ML-LOF on it; 2 no valid header on ML0 for 32 frames; 3 MISWIRE. -/
def execMateLinkDown (lane : Bool) (why : Nat) (s : State) : Host.Outcome State Fault Refusal :=
  let x := mlOf s lane
  finish s (match why with
    | 0 => linkLost (putMl lane { x with
        los := true, inFrame := false, run := 0, oofFn := if x.inFrame then s.clk.fn else x.oofFn } s)
    | 1 => if x.lof then linkLost s else s
    | 2 => if 32 ≤ (s.clk.fn - s.twin.ml0.lastFn).toNat then linkLost s else s
    | 3 => if s.twin.miswire then linkLost s else s
    | _ => s)

/-- Resynchronisation starts (R263): an UNSYNC standby finds the link in service with the mate ACTIVE. A copy that only
timing alignment set back goes on being kept up (R264). -/
def startResync (s : State) : State :=
  if s.mode.mode = .standby ∧ s.mode.sync = 1 ∧ s.twin.linkUp ∧ mateMode s = 4 then
    setSync 2 (if s.twin.copyGood then s else { dropImage s with twin := { (dropImage s).twin with rxSeq := [] } })
  else s

/-- PAGE_MISMATCH at a boundary ends SYNC (R264). -/
def checkMismatch (s : State) : State :=
  if s.mode.mode = .standby ∧ s.mode.sync = 3 ∧ !pagesEqualMate s then
    setSync 1 { s with twin := { s.twin with copyGood := false } }
  else s

/-- FP_MATE (R386): at a boundary the live epochs are equal and the fingerprints differ, once per disagreement. -/
def checkFpMate (s : State) : State :=
  let mateSync := decide (mateMode s = 5) && decide ((byteAt s.twin.hdr.raw 2).toNat / 16 % 8 = 3)
  let due := (decide (s.mode.mode = .active) && mateSync) || (decide (s.mode.mode = .standby) && decide (s.mode.sync = 3))
  let sameEpoch := decide (be s.twin.hdr.raw 22 8 = s.page.live.epoch.toNat)
  let fp := be s.twin.hdr.raw 30 8
  if pagesEqualMate s then { s with twin := { s.twin with fpMate := false } }
  else if due ∧ sameEpoch ∧ fp ≠ s.page.liveFp.toNat ∧ !s.twin.fpMate then
    bump 116 2 1 (obsNote 0 0xFF fp { s with twin := { s.twin with fpMate := true } })
  else s

/-- Both units hold the active role after the link returned (R268): the lower ROLE_EPOCH yields, at equal epochs unit B. -/
def checkConflict (s : State) : State :=
  let k := be s.twin.hdr.raw 10 4
  if s.mode.mode = .active ∧ s.twin.lease = 2 ∧ s.twin.linkUp ∧ mateMode s = 4 ∧ !s.twin.yields ∧
      (s.twin.epoch.toNat < k ∨ (s.twin.epoch.toNat = k ∧ ownUnit s)) then
    twinNote 4 { s with twin := { s.twin with yields := true } }
  else s

/-- The QL of a valid header, at the reference slots that the mate is the source of (R206, R240). -/
def mateQl (s : State) : State :=
  (List.range 16).foldl (fun s i =>
    if rKind (slotRec s i) == 3 then ssmAccept i (BitVec.ofNat 4 (fld (byteAt s.twin.hdr.raw 3) 4 4)) s else s) s

/-- The held header is of this superframe, and shows the page that its sender has in force: one sent in a reset shows the page before
it (R240, R247, R259). -/
def hdrNow (s : State) : Bool :=
  decide (be s.twin.hdr.raw 4 6 / 4 = s.clk.fn.toNat / 4) && !bit (byteAt s.twin.hdr.raw 1) 3

/-- What a valid header on ML0 leads to. -/
def headerSeen (s : State) : State :=
  let s := mateQl s
  let s := if hdrNow s then { s with twin := { s.twin with pageDiff := !pagesEqualMate s } } else s
  let s := if mateMode s = 4 ∨ mateMode s = 6 then { s with twin := { s.twin with mateReleased := false } } else s
  let s := if hdrNow s ∧ be s.twin.hdr.raw 4 6 % 48 = 0 ∧ s.twin.linkUp ∧ entered s then checkMismatch (checkFpMate s) else s
  if entered s then startResync (checkConflict s) else s

/-- The arrival of the alignment block before a header is measured (R244). -/
def measureArrival (lane : Bool) (s : State) : State :=
  let at' := Config.mateArrival (nat01 lane) s.clk.fn.toNat % 5000000
  if lane then { s with twin := { s.twin with rxOffset1 := at' } } else { s with twin := { s.twin with rxOffset := at' } }

/-- MATE_HEADER_RX (R240, R244). -/
def mateHeader_rx (lane : Bool) (m : Bytes) (s : State) : State :=
  let x := mlOf s lane
  let s := if x.inFrame then measureArrival lane s else s
  if s.cfg.twin.isNone ∨ !x.inFrame then s
  else if !crcGood m 60 ∨ byteAt m 0 ≠ 1 then bump 113 2 1 (putMl lane { x with run := 0 } s)
  else
    let b := byteAt m 1
    let wrong := decide (bit b 7 = ownUnit s) || decide (fld b 5 2 ≠ ownSlice s)
    if wrong then
      let s := putMl lane { x with run := 0 } s
      if s.twin.miswire then s else linkLost (twinNote 7 { s with twin := { s.twin with miswire := true } })
    else if bit b 4 ≠ lane then putMl lane { x with run := 0 } s
    else
      let next := decide ((s.clk.fn - x.lastFn).toNat ≤ 5)
      let s := putMl lane { x with run := if next then x.run + 1 else 1, lastFn := s.clk.fn } { s with twin := { s.twin with miswire := false } }
      if lane then s else headerSeen { s with twin := { s.twin with hdr := { raw := m, fn := s.clk.fn } } }

/-- MATE_HEADER_RX (R240). -/
def execMateHeaderRx (lane : Bool) (m : Bytes) (s : State) : Host.Outcome State Fault Refusal :=
  finish s (mateHeader_rx lane m s)

-- Mirroring.

/-- Configuration taken from the mate or the group, less what each unit sets itself (R262). -/
def mirrorCfg (own theirs : Cfg) : Cfg :=
  { own with
    lanes := theirs.lanes, ports := theirs.ports, traces := theirs.traces, remap := theirs.remap,
    linear := theirs.linear, rings := theirs.rings, distrust := theirs.distrust, profiles := theirs.profiles,
    ext := theirs.ext, epoch := theirs.epoch }

/-- One change of the content of a staged page (R72, R79, R242): `discard` copies the live page. -/
def putStaged (live p : Page) : StagedWrite → Page
  | .entry t i w => putEntry p t i w
  | .carrier c r => putCarrier p c r
  | .quiesce q on => putQuiesce p q on
  | .clearTier t => setTier p t []
  | .discard => { live with epoch := live.epoch + 1 }
  | .sealed _ => p
  | .opened => p

/-- The commit that the active unit or the Bellwether has scheduled on the mirrored page (R94, R278): held as another unit's. -/
def jobOfSealed (s : State) (c : SealedCommit) : CommitJob :=
  { tok := none, first := c.first, target := c.target, flag := c.flag, startFn := s.clk.fn, retries := c.retries,
    incremental := incremental s.page.live s.page.staged, ready := false, id := c.id,
    parts := if c.nParts ≤ 1 then [s.page.staged] else (partition s.page.live s.page.staged).drop c.part,
    part := c.part, nParts := c.nParts, swapped := [], cause := none, announced := false, own := false, slice := c.slice,
    unit := c.unit, stagedFp := s.page.stagedFp, prepared := false, sentCommit := false, holdsCommit := false,
    aborted := false, refused := false, participants := 0, readyFrom := 0, ackFrom := 0 }

/-- The mirrored page is sealed for a commit, or the commit has moved to another boundary (R94). -/
def takeSealed (c : SealedCommit) (s : State) : State :=
  match s.page.job with
  | none =>
    if s.page.state = .opened ∧ c.id ≠ 0 then
      { s with page := { s.page with
        state := .sealed, job := some (jobOfSealed s c), commitId := c.id, kept := false, solving := some s.clk.fn } }
    else s
  | some j =>
    if j.id = c.id ∧ s.page.state ≠ .final ∧ j.target ≠ c.target then
      setJob (some { clearRound j with target := c.target, retries := c.retries }) s
    else s

/-- The mirrored page is open again: another unit's commit has ended. A commit of this unit's own host, which another carried on, waits
for the record of its swap (R94). -/
def takeOpened (s : State) : State :=
  match s.page.job with
  | some j => if j.own then setJob (some { j with retries := 8, target := s.clk.fn.toNat / 48 }) s else openPage s
  | none => s

/-- A commit of this unit's own host that another unit has carried on is made, by its record or its page: it completes here (R94). -/
def issuerDone (bn : Nat) (fp : Word64) (s : State) : State :=
  match s.page.job with
  | some j => if j.own ∧ !isBellwether s ∧ s.page.state ≠ .final ∧ fp = j.stagedFp then commitDone bn s else s
  | none => s

/-- Apply a change of the staged page, or of its state (R72, R94, R242). -/
def takeWrite (s : State) : StagedWrite → State
  | .sealed c => takeSealed c s
  | .opened => takeOpened s
  | w => { s with page := { s.page with staged := putStaged s.page.live s.page.staged w } }

/-- Apply changes to the staged page of this unit (R72, R79). -/
def applyStaged (ws : List StagedWrite) (s : State) : State :=
  let s := ws.foldl takeWrite s
  stage s.page.staged ws.length s

/-- A page is put in force by other than a swap: a scheduled commit does not take place on it, and one of this unit's own host
ends with GROUP_DISAGREE (R94; DESIGN CHOICE, log 118). -/
def dropCommit (s : State) : State :=
  match s.page.job with
  | some j => if j.own then stopCommit stGroupDisagree s else openPage s
  | none => openPage s

/-- The page with this fingerprint is put in force: where it is the page of a commit scheduled here, another unit has made it (R94). -/
def endScheduled (fp : Word64) (s : State) : State :=
  match s.page.job with
  | some j => dropCommit (issuerDone j.target fp s)
  | none => openPage s

/-- Replace the live page by another in one frame, with the staged page after R71 (R263, R265, R285, R286). -/
def putPage (p : Page) (fp : Word64) (s : State) : State :=
  let s := endScheduled fp s
  let old := s.page.live
  let s' := liveChanged s { s with
    page := { s.page with
      live := p, liveFp := fp, retained := some old, retainedSched := s.page.sched, retainedFn := s.clk.fn, kept := false, idle := none, aborting := [],
      sched := solvePage s.page.sched p, state := .opened, solving := none,
      staged := { p with epoch := p.epoch + 1 }, stagedFp := fp },
    car := swapCarriers s.clk.fn old p s.car, mode := { s.mode with carried := true } }
  tapCheck s (evalSelectors s' s')

/-- Audit entry and commit record of a page put in force by other than a swap (R387, R431): KIND 2, 4 or 5, ORIGIN 2. -/
def pageRecord (kind : Nat) (s : State) : State :=
  let a := auditOf s kind 2 (ownSlice s) (ownUnit s) 0 0 s.clk.fn 0 s.page.live.epoch s.page.liveFp
  recordDue .commit [a] (auditAdd a s)

/-- Power on every domain that the page needs (R262). -/
def powerForPage (s : State) : State :=
  { s with pwr := { s.pwr with dom := (neededDomains s.page.live).foldl (fun m d => tset .off m d .on) s.pwr.dom } }

/-- Packets of a channel up to a SEQ are missing (R242): a gap opens, and they are requested. -/
def requestFrom (chan first upto : Nat) (s : State) : State :=
  let missing := (upto + 256 - first) % 256 + 1
  sendMate 0x01 [0x03, BitVec.ofNat 8 chan, BitVec.ofNat 8 first, BitVec.ofNat 8 (min missing 255)]
    (bump 113 3 1 { s with twin := { s.twin with
      gaps := if (tfind s.twin.gaps chan).isSome then s.twin.gaps else tinsert s.twin.gaps chan s.clk.fn,
      gapTo := tinsert s.twin.gapTo chan upto } })

/-- The standby takes what its mate mirrors: in RESYNC and SYNC, and while timing alone set it back (R263, R264). -/
def takesMirror (s : State) : Bool :=
  decide (s.mode.mode = .standby) && s.twin.linkUp &&
    (decide (s.mode.sync = 2 ∨ s.mode.sync = 3) || (decide (s.mode.sync = 1) && s.twin.copyGood))

/-- A packet of a mirrored channel arrives with a SEQ (R242): in order it is taken; otherwise a gap opens and the missing
packets are requested. -/
def channelRx (chan seq : Nat) (take : State → State) (s : State) : State :=
  if !takesMirror s then s else
  let s := bump 113 1 1 s
  let seq := seq % 256
  let expected := (tfind s.twin.rxSeq chan).getD seq
  if seq = expected then
    let closes := decide ((tfind s.twin.gapTo chan).getD seq = seq)
    take { s with twin := { s.twin with
      rxSeq := tinsert s.twin.rxSeq chan ((seq + 1) % 256),
      gaps := if closes then terase s.twin.gaps chan else s.twin.gaps,
      gapTo := if closes then terase s.twin.gapTo chan else s.twin.gapTo } }
  else requestFrom chan expected seq s

/-- The packets of a superframe's stream in turn (R241), `fuel` at most: channel, SEQ and payload. Parsing ends at the packet that ends
the superframe, or at one whose CRC fails: its channel. -/
def parsePackets : Nat → Bytes → List (Nat × Nat × Bytes) × Option Nat
  | 0, _ => ([], none)
  | fuel + 1, bs =>
    let n := be bs 0 2
    let chan := (byteAt bs 2).toNat
    if bs.length < 8 ∨ (n = 0 ∧ chan = 0) then ([], none)
    else if 8192 < n ∨ bs.length < n + 8 ∨ !crcGood bs (4 + n) then ([], some chan)
    else
      let r := parsePackets fuel (bs.drop (n + 8))
      ((chan, (byteAt bs 3).toNat, slice bs 4 n) :: r.1, r.2)

/-- A packet that is discarded and counted: of a reserved channel, or a CONTROL message of a reserved type (R242, R243). -/
def packetReserved (p : Nat × Nat × Bytes) : Bool :=
  let t := (byteAt p.2.2 0).toNat
  decide (p.1 = 0 ∨ 4 < p.1) || (decide (p.1 = 1) && !decide ((1 ≤ t ∧ t ≤ 5) ∨ (0x10 ≤ t ∧ t ≤ 0x1F)))

/-- The packet stream that a mate lane brought in the last superframe. -/
def mateRxStream (s : State) (lane : Bool) : Bytes :=
  (List.range 624928).map (Config.mateByte (nat01 lane) (s.clk.fn - 4).toNat)

/-- The stream of a lane is read (R241 to R243): what passes comes by rows of its own (log 154); what does not is discarded and counted,
and a JOURNAL or STAGED packet whose CRC fails is requested again. -/
def superframeRx (lane : Bool) (s : State) : State :=
  if !(s.twin.linkUp && (mlOf s lane).inFrame) then s
  else
    let r := parsePackets 78116 (mateRxStream s lane)
    let s := { s with twin := { s.twin with discarded := s.twin.discarded + r.1.countP packetReserved } }
    match r.2 with
    | none => s
    | some c =>
      let s := bump 113 2 1 s
      match tfind s.twin.rxSeq c with
      | some q => if !lane && decide (c = 2 ∨ c = 3) && takesMirror s then requestFrom c q q s else s
      | none => s

/-- The superframes that end at a frame start are read, by a unit whose control hierarchy runs (R241). -/
def mateRxFrame (s : State) : State :=
  if s.clk.fn.toNat % 4 = 0 ∧ entered s then superframeRx true (superframeRx false s) else s

/-- A mirrored journal record (R242, R263): written to the journal in SYNC; kept for later boundaries in RESYNC, where it comes after
the image. The record of a swap ends this unit's own commit (R94). The audit entries of this unit are its own. -/
def takeRecord (r : JRecord) (s : State) : State :=
  let bn := match r.audits with | a :: _ => a.fn.toNat / 48 | [] => s.clk.fn.toNat / 48
  let s := if r.kind = .commit then issuerDone bn r.fp s else s
  let old := decide (s.mode.sync = 2) && s.twin.imageDone && decide (r.seq ≤ s.twin.imageTag)
  let s := { s with twin := { s.twin with mirrorSeq := if old then s.twin.mirrorSeq else r.seq } }
  let s := if s.mode.sync = 2 ∧ !old then { s with twin := { s.twin with later := s.twin.later ++ [(r, [])] } } else s
  if s.mode.sync = 2 ∧ !s.twin.copyGood then s
  else
    { s with jrn := { s.jrn with
      due := s.jrn.due ++ [{ r with
        seq := 0, cfg := mirrorCfg s.cfg r.cfg, member := true, audits := [],
        size := recordSize r.kind (s.jrn.nextSeq + s.jrn.due.length) }] } }

/-- MATE_JOURNAL_RX (R242). -/
def execMateJournalRx (seq : Nat) (r : JRecord) (s : State) : Host.Outcome State Fault Refusal :=
  finish s (channelRx 2 seq (takeRecord r) s)

/-- Changes of the staged page received in RESYNC wait behind the last record received before them (R72, R263). -/
def keepStaged (ws : List StagedWrite) : List (JRecord × List StagedWrite) → List (JRecord × List StagedWrite)
  | [] => []
  | [(r, old)] => [(r, old ++ ws)]
  | x :: xs => x :: keepStaged ws xs

/-- A change of the active unit's staged page (R72, R242): in RESYNC it is applied in its turn, and at once to a copy that is kept up
(R264). -/
def takeStaged (ws : List StagedWrite) (s : State) : State :=
  let waits := decide (s.mode.sync = 2) && (!s.twin.later.isEmpty || !s.twin.installed)
  let s := if !waits then s
    else if s.twin.later.isEmpty then { s with twin := { s.twin with laterStaged := s.twin.laterStaged ++ ws } }
    else { s with twin := { s.twin with later := keepStaged ws s.twin.later } }
  if waits && !s.twin.copyGood then s else applyStaged ws s

/-- MATE_STAGED_RX (R242). -/
def execMateStagedRx (seq : Nat) (ws : List StagedWrite) (s : State) : Host.Outcome State Fault Refusal :=
  finish s (channelRx 3 seq (takeStaged ws) s)

/-- The image is complete (R263): the records at or before its tag are in it; of the changes of the staged page received so far, those
after the last such record are kept. -/
def imageComplete (tag : Nat) (s : State) : State :=
  let t := s.twin
  let before := t.later.takeWhile fun x => decide (x.1.seq ≤ tag)
  let after := t.later.dropWhile fun x => decide (x.1.seq ≤ tag)
  { s with twin := { t with
    imageDone := true, imageTag := tag, later := after,
    laterStaged := match before.getLast? with | some x => x.2 | none => t.laterStaged,
    mirrorSeq := match after.getLast? with | some x => x.1.seq | none => tag } }

/-- MATE_BULK_RX (R263): part of the image, the last part completing it. -/
def execMateBulkRx (last : Bool) (tag : Nat) (img : Snapshot) (s : State) : Host.Outcome State Fault Refusal :=
  finish s (if s.mode.mode = .standby ∧ s.mode.sync = 2 ∧ s.twin.linkUp then
    let s := bump 113 1 1 { s with twin := { s.twin with image := some img } }
    if last then imageComplete tag s else s
  else s)

/-- MATE_COMMAND_RX (R190, R193, R243): the mirrored change takes effect at its FN. -/
def execMateCommandRx (fn : FN) (e : Effect) (s : State) : Host.Outcome State Fault Refusal :=
  finish s (if s.mode.mode = .standby ∧ s.twin.linkUp ∧ (s.mode.sync = 2 ∨ s.mode.sync = 3) then
    bump 113 1 1 (schedule fn none false e 0 s)
  else s)

/-- RETRANSMIT (R242): the sender resends what it still keeps. -/
def resend (chan first count : Nat) (s : State) : State :=
  if s.mode.mode ≠ .active ∨ !s.twin.linkUp ∨ (chan ≠ 2 ∧ chan ≠ 3) then s
  else (List.range (min count 255)).foldl (fun s i =>
    match s.twin.sentPkts.find? fun p => decide (p.1 = chan ∧ p.2.1 = (first + i) % 256) with
    | some p => bump 113 0 1 (send (.mate (BitVec.ofNat 8 chan) p.2.2)
        { s with twin := { s.twin with stream := s.twin.stream ++ [(chan, p.2.2)] } })
    | none => s) s

/-- RETRANSMIT (R242). -/
def execRetransmit (chan : Nat) (first : Nat) (count : Nat) (s : State) : Host.Outcome State Fault Refusal :=
  finish s (resend chan first count s)

/-- MIRROR_GAP_TIMEOUT (R242, R264): a gap unfilled for 8 superframes ends synchronisation. -/
def gapTimeout (chan : Nat) (s : State) : State :=
  match tfind s.twin.gaps chan with
  | none => s
  | some f =>
    if (s.clk.fn - f).toNat < 32 then s
    else
      let s := { s with twin := { s.twin with gaps := terase s.twin.gaps chan, gapTo := terase s.twin.gapTo chan } }
      if takesMirror s then setSync 1 (dropImage { s with twin := { s.twin with copyGood := false } }) else s

/-- MIRROR_GAP_TIMEOUT (R242). -/
def execMirrorGapTimeout (chan : Nat) (s : State) : Host.Outcome State Fault Refusal := finish s (gapTimeout chan s)

/-- Install the image at a boundary (R263 step 3): pages, carrier table, quiesce map and mirrored settings. -/
def installImage (s : State) : State :=
  match s.twin.image with
  | none => s
  | some n =>
    let s := { s with cfg := mirrorCfg s.cfg n.cfg }
    let s := powerForPage (putPage n.page n.fp (renewProtection s))
    let ws := n.staged ++ s.twin.laterStaged
    applyStaged ws { s with twin := { s.twin with installed := true, laterStaged := [], copyGood := false } }

/-- Apply the records received after the image, up to the next one that brings a page, each with the changes of the staged page
that followed it (R72, R263 step 3). -/
def applyLater : List (JRecord × List StagedWrite) → State → State
  | [], s => { s with twin := { s.twin with later := [] } }
  | (r, ws) :: rs, s =>
    let s := { s with cfg := mirrorCfg s.cfg r.cfg }
    match r.page with
    | some p => applyStaged ws { powerForPage (putPage p r.fp s) with twin := { s.twin with later := rs } }
    | none => applyLater rs (if ws.isEmpty then s else applyStaged ws s)

/-- A commit on the active unit has passed PREPARE, by its last record (R263, R275) or by a PREPARE received. -/
def commitPrepared (s : State) : Bool :=
  s.page.job.isSome ||
    (match tfind s.grp.recs (2 * ownSlice s + nat01 (!ownUnit s)) with
     | some r => decide (be r.raw 56 4 ≠ 0)
     | none => false)

/-- The conditions of R263 step 4. -/
def syncReady (s : State) : Bool :=
  hdrNow s && pagesEqualMate s && decide (be s.twin.hdr.raw 38 8 ≤ s.twin.mirrorSeq) && s.tim.aligned && !commitPrepared s &&
    s.twin.gaps.isEmpty && (s.twin.later.isEmpty || s.twin.copyGood)

/-- Enter SYNC at a boundary, journalling the installed page (R263). A copy that only timing set back needs no image
(R264). -/
def enterSync (s : State) : State :=
  if !syncReady s then s
  else if s.mode.sync = 2 ∧ s.twin.installed then
    pageRecord 4 (setSync 3 { s with twin := { s.twin with image := none, imageDone := false, installed := false } })
  else if (s.mode.sync = 1 ∨ s.mode.sync = 2) ∧ s.twin.copyGood then
    setSync 3 (dropImage { s with twin := { s.twin with copyGood := false } })
  else s

/-- RESYNC_INSTALL (R263). -/
def resyncInstall (s : State) : State :=
  if s.mode.mode ≠ .standby ∨ s.clk.fn.toNat % 48 ≠ 0 ∨ !s.twin.linkUp then s
  else
    let s := if s.mode.sync = 2 ∧ s.twin.imageDone ∧ !s.twin.installed then installImage s
      else if s.mode.sync = 2 ∧ s.twin.installed then applyLater s.twin.later s
      else s
    enterSync s

/-- RESYNC_INSTALL (R263). -/
def execResyncInstall (s : State) : Host.Outcome State Fault Refusal := finish s (resyncInstall s)

-- Timing.

/-- The slot in use is a MATE slot (R206, R231). -/
def onMate (s : State) : Bool := match s.tim.use with | some i => rKind (slotRec s i) == 3 | none => false

/-- Timing alignment is lost (R232, R264). -/
def loseAlignment (s : State) : State :=
  let s := timNote 10 none 0xFF { s with tim := { s.tim with aligned := false } }
  if s.mode.mode = .standby ∧ s.mode.sync = 3 then setSync 1 { s with twin := { s.twin with copyGood := true } } else s

/-- One-way delay of the mate link, in 50 ps (R244): both units' RX_OFFSET on ML0. -/
def mateDelay (s : State) : Nat := (s.twin.rxOffset + be s.twin.hdr.raw 46 4) % 5000000

/-- Lead of the active unit's frame start over the standby's, in 50 ps, as the standby computes it (R244). -/
def mateLead (s : State) : Int := (s.twin.rxOffset : Int) - (be s.twin.hdr.raw 46 4 : Nat)

/-- TIMING_ALIGNMENT_CHANGE (R232): a STANDBY unit LOCKED on MATE whose phase error, in 0.1 ns, enters or leaves ±32 ns. -/
def execTimingAlignmentChange (err : Int) (s : State) : Host.Outcome State Fault Refusal :=
  let aligned := decide (-320 ≤ err ∧ err ≤ 320)
  finish s (if aligned = s.tim.aligned then s
    else if !aligned then loseAlignment s
    else if s.mode.mode = .standby ∧ s.tim.dpll = 2 ∧ onMate s then
      compareHeld { s with tim := { s.tim with aligned := true } }
    else s)

/-- MATE_ALIGN_STEP (R233): an unsynchronised standby that first acquires MATE takes the active unit's FN in one frame: that of its last
header, and the frames since. -/
def alignStep (s : State) : State :=
  if s.mode.mode ≠ .standby ∨ 3 ≤ s.mode.sync.toNat ∨ !s.twin.linkUp ∨ !onMate s ∨ s.tim.stepped then s
  else
    let f : FN := BitVec.ofNat 48 (be s.twin.hdr.raw 4 6)
    startFrame { s with
      clk := { s.clk with fn := f + (s.clk.fn - s.twin.hdr.fn) }, tim := { s.tim with stepped := true },
      twin := { s.twin with hdr := { s.twin.hdr with fn := f } } }

/-- MATE_ALIGN_STEP (R233). -/
def execMateAlignStep (s : State) : Host.Outcome State Fault Refusal := finish s (alignStep s)

-- GRANTs.

def gActive (m : Bytes) : Nat := fld (byteAt m 2) 0 2
def gForced (m : Bytes) : Bool := bit (byteAt m 2) 2
def gPeerSeen (m : Bytes) : Bool := bit (byteAt m 2) 3
def gReset (m : Bytes) : Nat := fld (byteAt m 3) 0 2
def gResetForce (m : Bytes) : Bool := bit (byteAt m 3) 2
def gResetUnit (m : Bytes) : Bool := bit (byteAt m 3) 3
def gEpoch (m : Bytes) : Word32 := BitVec.ofNat 32 (be m 4 4)
def gSeq (m : Bytes) : Word32 := BitVec.ofNat 32 (be m 12 4)
def gEcho (m : Bytes) : Word32 := BitVec.ofNat 32 (be m 16 4)

/-- The MAC that R250 requires of a received GRANT is correct. -/
def grantMacOk (s : State) (b : Bool) (m : Bytes) : Bool :=
  let p := ghPort s b
  let ok := fun (k : Bytes) => decide (ghMac k (m.take 20) = slice m 20 8)
  decide (p.mode ≠ 2) ||
    (match ghKey s b with
     | none => false
     | some k => ok k || (match p.prevKey with | some (k', f) => !fnGe s.clk.fn f && ok k' | none => false))

/-- The anchor of a GRANT (R249): the frame of the STATUS it echoes, sent on that port within the last 256 frames. -/
def grantAnchor (s : State) (b : Bool) (m : Bytes) : Option FN :=
  ((ghPort s b).sent.find? fun x => decide (x.1 = gEcho m) && decide ((s.clk.fn - x.2).toNat ≤ 256)).map (·.2)

/-- The first check of R249 that a GRANT fails before its echo: 0 CRC, TYPE and VERSION; 1 reserved bits and codes; 2 MAC;
3 TTL. -/
def grantFails (s : State) (b : Bool) (m : Bytes) : Option Nat :=
  if !crcGood m 28 ∨ byteAt m 0 ≠ 2 ∨ byteAt m 1 ≠ 1 then some 0
  else if fld (byteAt m 2) 4 4 ≠ 0 ∨ gActive m = 3 ∨ fld (byteAt m 3) 4 4 ≠ 0 ∨ gReset m = 3 then some 1
  else if !grantMacOk s b m then some 2
  else if 8 * be m 8 2 ≠ ttlFrames s then some 3
  else none

/-- Count a GRANT by port and reason (R249, R251, R256, R260). -/
def countGrant (b : Bool) (why : Nat) (s : State) : State :=
  putGh b { ghPort s b with discards := tmod 0 (ghPort s b).discards why (· + 1) } s

/-- A MAC failure (R250): GH_AUTH at the 16th in a row, and at every further 8,000. -/
def macFailed (b : Bool) (s : State) : State :=
  let n := (ghPort s b).macFails + 1
  let s := bump 115 3 1 (putGh b { ghPort s b with macFails := n } s)
  if n = 16 ∨ (16 < n ∧ (n - 16) % 8000 = 0) then secNote 0 (nat01 b) s else s

/-- A GRANT is discarded at a check (R249). -/
def discardGrant (b : Bool) (why : Nat) (s : State) : State :=
  let s := bump 115 2 1 (countGrant b why s)
  if why = 2 then macFailed b s
  else if 2 < why then putGh b { ghPort s b with macFails := 0 } s
  else s

/-- The later of two frames (R251). -/
def laterFn (a : Option FN) (b : FN) : FN := match a with | some x => if fnGe x b then x else b | none => b

/-- What R256 requires of a unit that a GRANT names: ELIGIBLE or FORCED. An ISOLATED unit is judged as the standby it was;
one that holds the frozen active role needs neither (R251, R268). -/
def admitted (s : State) (m : Bytes) : Bool :=
  gForced m || eligible { s with mode := { s.mode with mode := if s.mode.mode = .isolated then .standby else s.mode.mode } } ||
    (decide (s.mode.mode = .isolated) && decide (s.mode.isoFrom = .active))

/-- A GRANT names this unit (R251, R256, R268). -/
def grantMe (b own : Bool) (anchor : FN) (m : Bytes) (s : State) : State :=
  let e := anchor + BitVec.ofNat 48 (ttlFrames s)
  let pend := { s with twin := { s.twin with
    pending := some { epoch := gEpoch m, leaseEnd := laterFn (s.twin.pending.map (·.leaseEnd)) e, forced := gForced m } } }
  match s.mode.mode with
  | .active => { s with twin := { s.twin with
      leaseEnd := some (laterFn s.twin.leaseEnd e), lease := 1, yields := false, provisional := false } }
  | .standby => if admitted s m then pend else twinNote 3 (countGrant b 6 s)
  | .isolated =>
    if !own then s
    else if admitted s m then pend
    else twinNote 3 (countGrant b 6 { s with twin := { s.twin with yields := true } })
  | _ => s

/-- A GRANT names the mate or none (R251, R253, R254, R268): one that named this unit, of no higher epoch, waits no more. -/
def grantOther (own : Bool) (s : State) : State :=
  let s := { s with twin := { s.twin with pending := none } }
  match s.mode.mode with
  | .active => if s.twin.lease = 2 then { s with twin := { s.twin with yields := true } } else s
  | .isolated => if own then { s with twin := { s.twin with yields := true } } else s
  | _ => s

/-- The unit's own code in ACTIVE of a GRANT (R248). -/
def ownCode (s : State) : Nat := nat01 (ownUnit s)

/-- The unit that holds the active role, as this unit knows it (R253). -/
def roleHolder (s : State) : Option Nat :=
  if s.mode.mode = .active ∨ (s.mode.mode = .isolated ∧ s.mode.isoFrom = .active) then some (ownCode s)
  else if s.twin.linkUp ∧ mateMode s = 4 then some (1 - ownCode s)
  else none

/-- GRANTs of equal epoch on both ports name different units (R253). -/
def grantConflict (s : State) (b : Bool) (m : Bytes) : Bool :=
  let o := ghPort s (!b)
  match o.named with
  | some (e, a) => decide (e = gEpoch m) && decide (a ≠ gActive m) && decide (a < 2) && decide (gActive m < 2) && heardGrant s o
  | none => false

/-- A GRANT names this unit or the other (R251, R252). -/
def namedGrant (b own : Bool) (anchor : FN) (m : Bytes) (s : State) : State :=
  if gActive m = ownCode s then grantMe b own anchor m s else grantOther own s

/-- A valid GRANT takes effect (R251 to R253); one heard on an own port ends what would follow from silence (R27). -/
def applyGrant (b own : Bool) (anchor : FN) (m : Bytes) (s : State) : State :=
  if (gEpoch m).toNat < s.twin.epoch.toNat then countGrant b 5 s
  else
    let s := { s with twin := { s.twin with epoch := gEpoch m } }
    let s := if own then
        let s := putGh b { ghPort s b with named := some (gEpoch m, gActive m) } s
        { s with twin := { s.twin with isolates := false, resumes := false } }
      else s
    if own ∧ grantConflict s b m then
      let s := if (ghPort s b).conflict then s else twinNote 2 (putGh b { ghPort s b with conflict := true } s)
      match roleHolder s with
      | some h => if h = gActive m then namedGrant b own anchor m s else s
      | none => { s with twin := { s.twin with pending := none } }
    else namedGrant b own anchor m (if own then putGh b { ghPort s b with conflict := false } s else s)

/-- The first own-port GRANT that echoes a STATUS sent 24 frames or more after entry into PENDING decides it (R264). -/
def decidePending (anchor : FN) (m : Bytes) (s : State) : State :=
  if s.mode.mode = .standby ∧ s.mode.sync = 4 ∧ fnGe anchor (s.twin.pendFn + 24) then
    setSync (if gPeerSeen m then 1 else 5) s
  else s

/-- The reset that a GRANT carries (R260): executed in STANDBY or with RESET_FORCE, else counted. -/
def grantReset (b : Bool) (m : Bytes) (s : State) : State :=
  if gReset m = 0 ∨ gResetUnit m ≠ ownUnit s then s
  else if s.mode.mode = .standby ∨ gResetForce m then (if gReset m = 1 then assertWarm 0x0D s else assertCold 0x0E s)
  else countGrant b 7 s

/-- The port is in use (R236). -/
def ghEnabled (s : State) (b : Bool) : Bool := if b then (twinSet s).ghbEn else (twinSet s).ghaEn

/-- A GRANT arrives on a port of the unit (R249, R252, R260, R264). -/
def grantRx (b : Bool) (m : Bytes) (s : State) : State :=
  if !entered s ∨ !ghEnabled s b then s else
  match grantFails s b m with
  | some why => discardGrant b why s
  | none =>
    match grantAnchor s b m with
    | none => discardGrant b 4 s
    | some anchor =>
      let stale := decide ((gEpoch m).toNat < s.twin.epoch.toNat)
      let s := bump 115 1 1 (putGh b { ghPort s b with
        grantFn := some s.clk.fn, grantSeq := gSeq m, arbiter := be m 10 2, macFails := 0 } s)
      let s := sendMate 0x01 ([0x01, BitVec.ofNat 8 (nat01 b)] ++ toBE 6 anchor.toNat ++ m) s
      let s := applyGrant b true anchor m (decidePending anchor m s)
      if stale then s else grantReset b m s

/-- GRANT_RX (R249, R251). -/
def execGrantRx (port : Bool) (m : Bytes) (s : State) : Host.Outcome State Fault Refusal := finish s (grantRx port m s)

/-- RELAY_GRANT (R252): every check of R249 but the echo, the relayed anchor, then R251; it never resets. -/
def relayRx (b : Bool) (anchor : FN) (m : Bytes) (s : State) : State :=
  if !entered s ∨ !s.twin.linkUp ∨ s.cfg.twin.isNone then s else
  match grantFails s b m with
  | some why => discardGrant b why s
  | none => applyGrant b false anchor m s

/-- RELAY_GRANT (R252). -/
def execRelayGrant (port : Bool) (anchor : FN) (m : Bytes) (s : State) : Host.Outcome State Fault Refusal :=
  finish s (relayRx port anchor m s)

/-- RELEASED from the mate (R256). -/
def execReleased (_epoch : Word32) (_fn : FN) (s : State) : Host.Outcome State Fault Refusal :=
  finish s (if s.twin.linkUp ∧ entered s ∧ s.mode.mode ≠ .active then
    { s with twin := { s.twin with mateReleased := true } }
  else s)

/-- What a standby waits for while the mate link is in service (R256). -/
def mateFree (s : State) : Bool :=
  let st := fld (byteAt s.twin.hdr.raw 14) 0 2
  let e := be s.twin.hdr.raw 16 6
  !s.twin.linkUp || s.twin.mateReleased || decide (st = 0 ∨ st = 3) ||
    (decide (e ≠ 0) && fnGe s.clk.fn (BitVec.ofNat 48 e))

/-- The unit becomes ACTIVE at a frame start (R256, R265): a unit that is not synchronised takes its journalled page later. -/
def takeRole (p : PendingGrant) (s : State) : State :=
  let held := decide (s.mode.mode = .isolated) && decide (s.mode.isoFrom = .active)
  let synced := held || decide (3 ≤ s.mode.sync.toNat)
  let s := if s.tim.aligned then timNote 10 none 0xFF s else s
  let s := { s with twin := { s.twin with
    pending := none, leaseEnd := some p.leaseEnd, lease := 1, mateReleased := false, release := false, yields := false,
    relRepeat := 0, copyGood := false, isolates := false, resumes := false, provisional := false, takeover := if synced then none else some (s.clk.fn + 16) } }
  let s := twinNote 0 (toMode .active 0 (dropImage { s with tim := { s.tim with aligned := false } }))
  if synced then roleCause s else dropCommit s

/-- ROLE_TAKE_EFFECT (R256): the GRANT lapses when its lease end passes first. -/
def roleTake (s : State) : State :=
  match s.twin.pending with
  | none => s
  | some p =>
    if s.mode.mode ≠ .standby ∧ s.mode.mode ≠ .isolated then s
    else if fnGe s.clk.fn p.leaseEnd then { s with twin := { s.twin with pending := none } }
    else if mateFree s then takeRole p s
    else s

/-- The role is to be taken at this frame start, or the GRANT has lapsed (R256). -/
def roleDue (s : State) : Bool :=
  match s.twin.pending with
  | some p => decide (s.mode.mode = .standby ∨ s.mode.mode = .isolated) && (fnGe s.clk.fn p.leaseEnd || mateFree s)
  | none => false

/-- The lease reaches its end unrenewed (R254, R259); after a warm reset it needed a renewal (R28). -/
def leaseEnds (s : State) : State :=
  match s.twin.leaseEnd with
  | none => s
  | some e =>
    if !fnGe s.clk.fn e then s
    else match s.mode.mode with
      | .boot => { s with twin := { s.twin with leaseEnd := none, lease := 0 } }
      | .active =>
        let mateHears := fld (byteAt s.twin.hdr.raw 14) 2 2 ≠ 0
        if s.twin.provisional then becomeStandby s
        else if s.twin.linkUp then
          if !heardOwn s ∧ !mateHears then twinNote 1 { s with twin := { s.twin with leaseEnd := none, lease := 2 } }
          else becomeStandby s
        else if heardOwn s then becomeStandby s
        else enterIsolated s
      | _ => s

/-- The lease ends at this frame start (R254, R259). -/
def leaseDue (s : State) : Bool :=
  match s.twin.leaseEnd with
  | some e => fnGe s.clk.fn e && decide (s.mode.mode = .boot ∨ s.mode.mode = .active)
  | none => false

/-- GRANT_TTL_EXPIRY (R27): the arbiter is lost; with the mate link out of service the unit becomes ISOLATED. -/
def execGrantTtlExpiry (port : Bool) (s : State) : Host.Outcome State Fault Refusal :=
  finish s (if s.cfg.twin.isSome ∧ ghSilent s (ghPort s port) ∧ arbiterLost s ∧ !s.twin.linkUp ∧
      (s.mode.mode = .active ∨ s.mode.mode = .standby) then isolate s
  else s)

/-- KEY_OVERLAP_EXPIRY (R250): the previous key is forgotten. -/
def execKeyOverlapExpiry (port : Bool) (s : State) : Host.Outcome State Fault Refusal :=
  finish s (match (ghPort s port).prevKey with
    | some (_, f) => if fnGe s.clk.fn f then putGh port { ghPort s port with prevKey := none } s else s
    | none => s)

/-- FORCED_TAKEOVER (R265): at a boundary at least 16 frames after the role took effect, the unit installs the live page and
configuration of its own journal. With no page to be had from it, the live page stands. -/
def forcedTakeover (s : State) : State :=
  match s.twin.takeover with
  | none => s
  | some f =>
    if s.mode.mode ≠ .active ∨ s.clk.fn.toNat % 48 ≠ 0 ∨ !fnGe s.clk.fn f then s
    else
      let s := match verifyJournal s.flash with
        | .ok g => putPage g.page g.fp { s with cfg := { g.cfg with twin := s.cfg.twin, group := s.cfg.group } }
        | _ => s
      pageRecord 5 (twinNote 12 { s with twin := { s.twin with takeover := none } })

/-- A forced takeover installs its page at this frame start (R265). -/
def takeoverDue (s : State) : Bool :=
  match s.twin.takeover with
  | some f => decide (s.mode.mode = .active) && decide (s.clk.fn.toNat % 48 = 0) && fnGe s.clk.fn f
  | none => false

end Sys2Proof.Machine
end

