-- ==== Sys2Proof/Machine/GroupRows.lean ====
section
/-! DEFINITION. The happenings of a fabric group: records, comparison with the Bellwether and its election (R275 to R278), fencing
and catching up (R285, R286), and the group bus (R272 to R274). A pair outside a group compares its mate's records in the
same way (R243). -/
namespace Sys2Proof.Machine

/-- Every record this member holds, its own among them, by member. -/
def allRecs (s : State) : SMap Bytes := tinsert (s.grp.recs.map fun x => (x.1, x.2.raw)) (ownMember s) (groupRecord s)

/-- act of R277. -/
def actives (rs : SMap Bytes) : SMap Bytes :=
  rs.filter fun x => countedActive rs x && recHealthy x.2 && !recFenced x.2 && !recBehind x.2

/-- Equal class of R277: COMPAT, CONFIG_EPOCH, LIVE_EPOCH and LIVE_FP. -/
def sameClass (a b : Bytes) : Bool :=
  decide (recCompat a = recCompat b) && decide (recCfgEpoch a = recCfgEpoch b) && decide (recEpoch a = recEpoch b) &&
    decide (recFp a = recFp b)

/-- win of R277: the class with most members; among equals, the one with the lowest member. Members stand in order. -/
def winningClass (act : SMap Bytes) : SMap Bytes :=
  act.foldl (fun best x =>
    let c := act.filter fun y => sameClass x.2 y.2
    if best.length < c.length then c else best) []

/-- The Bellwether that the records give (R277), of a group of n slices. -/
def electedBell (n : Nat) (rs : SMap Bytes) : Option Nat :=
  let win := winningClass (actives rs)
  let slices := (win.map fun x => x.1 / 2).eraseDups
  if n < 2 * slices.length ∨ (2 * slices.length = n ∧ slices.contains 0) then (win.head?).map (·.1) else none

/-- This unit, counted as active, stands outside win (R277): it is not HEALTHY, or of another class. FENCED and BEHIND, which would keep
it out too, are what R276 makes of it (DESIGN CHOICE, log 155). -/
def outsideWin (s : State) : Bool :=
  match s.cfg.group with
  | none => false
  | some _ =>
    let rs := allRecs s
    let own := groupRecord s
    decide (s.mode.mode = .active) && countedActive rs (ownMember s, own) &&
      !(recHealthy own && (winningClass (actives rs)).any fun x => x.2 = own || sameClass x.2 own)

/-- Determine the Bellwether at a record (R277): a change waits for the next boundary; without one, a scheduled commit
resolves with GROUP_DISAGREE (R84). -/
def elect (s : State) : State :=
  match s.cfg.group with
  | none => s
  | some g =>
    match electedBell g.slices (allRecs s) with
    | some m =>
      let s := { s with grp := { s.grp with noQuorum := false } }
      if s.grp.bell = some m then { s with grp := { s.grp with elected := none } }
      else if s.grp.elected = some m then s
      else { s with grp := { s.grp with elected := some m, electedFn := s.clk.fn } }
    | none =>
      if s.grp.noQuorum then s
      else
        let mine := isBellwether s
        let s := grpNote 1 none { s with grp := { s.grp with noQuorum := true, bell := none, elected := none } }
        if mine ∧ s.page.state ≠ .final then resolveCause stGroupDisagree false s else s

/-- What a comparison with the Bellwether's record finds (R276). -/
structure Compared where
  fnOff : Bool
  cfgBelow : Bool
  cfgAbove : Bool
  compat : Bool
  page : Bool
  lower : Bool
  deriving DecidableEq, Repr

/-- Compare own state with a record of the Bellwether; its FN only as it arrives. A lower epoch whose fingerprint the Bellwether has never
shown differently is a consistent history (R276; DESIGN CHOICE, log 156). -/
def compareWith (s : State) (r : Bytes) (arrives : Bool) : Compared :=
  let d := fnDiff s.clk.fn (recFn r)
  let past := s.grp.history.find? fun x => decide (x.1 = s.page.live.epoch.toNat)
  let consistent := match past with | some x => decide (x.2 = s.page.liveFp.toNat) | none => true
  { fnOff := if arrives then decide (d < -1 ∨ 1 < d) else s.grp.fnBad,
    cfgBelow := decide (s.cfg.epoch.toNat < recCfgEpoch r), cfgAbove := decide (recCfgEpoch r < s.cfg.epoch.toNat),
    compat := decide (s.img.compat.toNat ≠ recCompat r),
    page := decide (s.page.live.epoch.toNat ≠ recEpoch r ∨ s.page.liveFp.toNat ≠ recFp r),
    lower := decide (s.page.live.epoch.toNat < recEpoch r) && consistent }

/-- A copy that this member keeps equals the Bellwether's page (R285): the retained one or the staged one. -/
def keptCopy (s : State) (r : Bytes) : Option Page :=
  let same := fun (p : Page) => decide ((fingerprint p).toNat = recFp r)
  match s.page.retained with
  | some p => if same p && decide (p.epoch.toNat = recEpoch r) then some p
      else if same s.page.staged then some { s.page.staged with epoch := BitVec.ofNat 64 (recEpoch r) } else none
  | none => if same s.page.staged then some { s.page.staged with epoch := BitVec.ofNat 64 (recEpoch r) } else none

/-- Ask the Bellwether for journal records (R286). A request that has not led to agreement within its second is made again (DESIGN CHOICE,
log 157). -/
def startCatchup (s : State) : State :=
  let again := decide (8000 ≤ (s.clk.fn - s.grp.catchFn).toNat)
  if s.grp.catching && !again then s
  else
    let new := !s.grp.catching
    let (m, s) := internalMsg s
    let s := sendGroup 0x23 m { s with grp := { s.grp with catching := true, catchFn := s.clk.fn } }
    if new then grpNote 4 (some (ownMember s)) s else s

/-- FENCED changes (R285): a FENCED STANDBY leaves SYNC (R264). -/
def setFenced (on : Bool) (s : State) : State :=
  if s.grp.fenced = on then s
  else
    let s := grpNote (if on then 2 else 3) (some (ownMember s)) { s with grp := { s.grp with fenced := on } }
    if on ∧ s.mode.mode = .standby ∧ 3 ≤ s.mode.sync.toNat then setSync 1 s else s

/-- FP_GROUP (R386): FENCED because the live fingerprint differs, once per disagreement. -/
def checkFpGroup (c : Compared) (r : Bytes) (s : State) : State :=
  let unsync := decide (s.mode.mode = .standby) && decide (s.mode.sync.toNat < 3)
  if !c.page then { s with grp := { s.grp with fpGroup := false } }
  else if s.grp.fenced ∧ recFp r ≠ s.page.liveFp.toNat ∧ !s.grp.fpGroup ∧ !unsync then
    bump 116 2 1 (obsNote 1 0xFF (recFp r) { s with grp := { s.grp with fpGroup := true } })
  else s

/-- What the last swap replaced is kept until the record of the boundary after it (R284). -/
def dropRetained (s : State) : State :=
  if 48 ≤ (s.clk.fn - s.page.retainedFn).toNat then { s with page := { s.page with retained := none } } else s

/-- Act on a comparison (R276, R285, R286). -/
def actOnCompared (c : Compared) (r : Bytes) (s : State) : State :=
  let me := some (ownMember s)
  let carrying := decide (outClass s = .traffic)
  let fnFence := c.fnOff && carrying
  let s := if fnFence && !s.grp.fnBad then grpNote 6 me s else s
  let s := if c.compat && !s.grp.compatBad then grpNote 7 me s else s
  let s := { s with grp := { s.grp with
    history := ((recEpoch r, recFp r) :: s.grp.history.filter fun x => decide (x.1 ≠ recEpoch r)).take 64,
    fnBad := fnFence, compatBad := c.compat, behind := c.cfgBelow || (c.page && c.lower) } }
  let fence := fnFence || c.cfgAbove || c.compat || (c.page && !c.lower) || outsideWin s
  let s := checkFpGroup c r (setFenced fence s)
  let steps := decide (s.mode.mode = .quiet) || (decide (s.mode.mode = .standby) && decide (s.mode.sync.toNat < 3))
  let s := if c.fnOff && steps then { s with grp := { s.grp with stepTo := some (recFn r) } } else s
  let needs := s.grp.behind || c.cfgAbove || (c.page && !c.lower && (keptCopy s r).isNone)
  if s.cfg.group.isSome ∧ (s.mode.mode = .active ∨ s.mode.mode = .standby) ∧ needs then startCatchup s
  else if !fence ∧ !s.grp.behind then
    let s := if s.grp.catching then grpNote 5 me { s with grp := { s.grp with catching := false } } else s
    if (recFn r).toNat % 48 = 0 then dropRetained s else s
  else s

/-- Compare with the Bellwether at a record (R276); `from_` is the member whose record arrived. -/
def compareBell (from_ : Option Nat) (s : State) : State :=
  match bellView s with
  | none => if outsideWin s then setFenced true s else s
  | some b =>
    if b = ownMember s then
      let s := dropRetained (setFenced (outsideWin s) s)
      { s with grp := { s.grp with behind := false } }
    else match tfind s.grp.recs b with
      | none => s
      | some x => actOnCompared (compareWith s x.raw (decide (from_ = some b))) x.raw s

/-- A record is held (R276): a member heard anew posts MEMBER_JOINED. A change of ROLE is a role change in the pair or in a slice
(R84). -/
def holdRecord (k : Nat) (m : Bytes) (s : State) : State :=
  let new := (tfind s.grp.recs k).isNone
  let turned := match tfind s.grp.recs k with | some x => recRole x.raw != recRole m | none => false
  let s := if turned then roleCause s else s
  let s := { s with grp := { s.grp with
    recs := tinsert s.grp.recs k { raw := m, fn := s.clk.fn }, miswired := s.grp.miswired.filter (· != k) } }
  if new then grpNote 11 (some k) s else s

/-- GROUP_MISWIRE (R276): the member's records are ignored. -/
def miswiredRecord (k : Nat) (s : State) : State :=
  let s := { s with grp := { s.grp with recs := terase s.grp.recs k } }
  if s.grp.miswired.contains k then s
  else grpNote 8 (some k) { s with grp := { s.grp with miswired := s.grp.miswired ++ [k] } }

/-- Two records of one slice and unit that differ for one FN come of two members (R276). -/
def sentTwice (s : State) (k : Nat) (m : Bytes) : Bool :=
  match tfind s.grp.recs k with
  | some x => decide (recFn x.raw = recFn m) && x.raw != m
  | none => false

/-- A group record arrives (R276, R277). -/
def recordRx (k : Nat) (sliceCount : Nat) (m : Bytes) (s : State) : State :=
  match s.cfg.group with
  | none => s
  | some g =>
    if !entered s then s
    else if be m 0 4 ≠ g.gid.toNat ∨ sliceCount ≠ g.slices ∨ k = ownMember s ∨ sentTwice s k m then miswiredRecord k s
    else compareBell (some k) (elect (holdRecord k m s))

/-- GROUP_RECORD_RX (R276). -/
def execGroupRecordRx (slice : Nat) (unit : Bool) (sliceCount : Nat) (m : Bytes) (s : State) :
    Host.Outcome State Fault Refusal :=
  finish s (recordRx (memberOf slice unit) sliceCount m s)

/-- GROUP_RECORD_LAPSE (R276): a record not renewed for 32 frames. -/
def recordLapse (k : Nat) (s : State) : State :=
  match tfind s.grp.recs k with
  | none => s
  | some x =>
    if (s.clk.fn - x.fn).toNat < 32 then s
    else
      let s := grpNote 10 (some k) { s with grp := { s.grp with recs := terase s.grp.recs k } }
      if s.cfg.group.isSome then compareBell none (elect s) else s

/-- GROUP_RECORD_LAPSE (R276). -/
def execGroupRecordLapse (slice : Nat) (unit : Bool) (s : State) : Host.Outcome State Fault Refusal :=
  finish s (recordLapse (memberOf slice unit) s)

/-- MATE_RECORD_RX (R243): in a pair outside a group, with GROUP_ID 0. -/
def mateRecord (m : Bytes) (s : State) : State :=
  let k := 2 * ownSlice s + nat01 (!ownUnit s)
  if s.cfg.twin.isNone ∨ s.cfg.group.isSome ∨ !s.twin.linkUp ∨ !entered s then s
  else
    let s := bump 113 1 1 s
    if be m 0 4 ≠ 0 then miswiredRecord k s else compareBell (some k) (holdRecord k m s)

/-- MATE_RECORD_RX (R243). -/
def execMateRecordRx (m : Bytes) (s : State) : Host.Outcome State Fault Refusal := finish s (mateRecord m s)

/-- BELLWETHER_CHANGE (R278): at the first boundary after the electing record; a commit scheduled is carried on (R94). -/
def bellwetherChange (s : State) : State :=
  match s.grp.elected with
  | none => s
  | some m =>
    if s.clk.fn.toNat % 48 ≠ 0 ∨ s.clk.fn = s.grp.electedFn then s
    else
      let s := grpNote 0 (some m) { s with grp := { s.grp with bell := some m, elected := none } }
      if m = ownMember s then roleCause s else s

/-- BELLWETHER_CHANGE (R278). -/
def execBellwetherChange (s : State) : Host.Outcome State Fault Refusal := finish s (bellwetherChange s)

/-- PAGE_RESTORE (R285): at a boundary a FENCED active member puts the Bellwether's page in force from its own copy:
CMEM.SWAP, the COMMIT event marked restore, an audit entry of KIND 2 and a journal record. -/
def pageRestore (s : State) : State :=
  if !s.grp.fenced ∨ s.mode.mode ≠ .active ∨ s.clk.fn.toNat % 48 ≠ 0 then s else
  match bellView s with
  | none => s
  | some b =>
    match tfind s.grp.recs b with
    | none => s
    | some x =>
      if !(compareWith s x.raw false).page then s else
      match keptCopy s x.raw with
      | none => s
      | some p =>
        let sch := if s.page.retained = some p then some s.page.retainedSched else none
        let s := raise gCmem 0 (putPage p (BitVec.ofNat 64 (recFp x.raw)) s)
        let s := { s with page := { s.page with sched := sch.getD s.page.sched } }
        pageRecord 2 (post 0x02 [(0, 8, s.page.live.epoch.toNat), (8, 8, s.page.liveFp.toNat), (18, 1, 1)] s)

/-- A FENCED active member restores the Bellwether's page at this frame start (R285). -/
def restoreDue (s : State) : Bool :=
  s.grp.fenced && decide (s.mode.mode = .active) && decide (s.clk.fn.toNat % 48 = 0) &&
    (match bellView s with
     | none => false
     | some b => match tfind s.grp.recs b with
       | none => false
       | some x => (compareWith s x.raw false).page && (keptCopy s x.raw).isSome)

/-- What answers a request for the records from a sequence number on (R286): those records; or, where the member is ahead or the first of
them is compacted, the latest snapshot and the records after it. -/
def catchupContent (s : State) (from_ : Nat) : Option Snapshot × List JRecord :=
  let first := match s.flash.journal with | r :: _ => r.seq | [] => s.jrn.nextSeq
  let latest := match s.flash.snap0, s.flash.snap1 with
    | some a, some b => some (if a.seq ≤ b.seq then b else a)
    | a, b => a.orElse fun _ => b
  if s.jrn.nextSeq < from_ ∨ from_ < first then
    let n := match latest with | some x => x | none => snapshotNow (s.jrn.nextSeq - 1) s
    (some n, s.flash.journal.filter fun r => decide (n.seq < r.seq))
  else (none, s.flash.journal.filter fun r => decide (from_ ≤ r.seq))

/-- A payload in pieces of at most n bytes, `fuel` of them at most. -/
def pieces (n : Nat) : Nat → Bytes → List Bytes
  | 0, _ => []
  | fuel + 1, m => if m.length ≤ n then [m] else m.take n :: pieces n fuel (m.drop n)

/-- CATCHUP at the Bellwether (R286): its content goes out in packets of at most 2,048 bytes (R273). -/
def execCatchup (slice : Nat) (unit : Bool) (fromSeq : Nat) (s : State) : Host.Outcome State Fault Refusal :=
  finish s (if s.cfg.group.isSome ∧ isBellwether s ∧ memberOf slice unit ≠ ownMember s then
    let x := catchupContent s fromSeq
    let m := Config.imagePayload x.1 x.2
    (pieces 2048 (m.length + 1) m).foldl (fun s p => sendGroup 0x22 p s) s
  else s)

/-- GROUP_JOURNAL_RX (R286): held, and applied at the following boundaries. -/
def execGroupJournalRx (snap : Option Snapshot) (recs : List JRecord) (s : State) : Host.Outcome State Fault Refusal :=
  finish s (if s.cfg.group.isSome ∧ s.grp.catching ∧ entered s then
    { s with grp := { s.grp with
      install := snap.orElse (fun _ => s.grp.install), later := (if snap.isSome then [] else s.grp.later) ++ recs } }
  else s)

/-- Configuration and page of a record in force. -/
def putRecord (c : Cfg) (p : Option Page) (fp : Word64) (s : State) : State :=
  let s := { s with cfg := mirrorCfg s.cfg c }
  let s := match p with | some p => putPage p fp s | none => s
  recordDue .commit [] s

/-- At a boundary, put in force what a catch-up has brought (R286): the snapshot, then at each boundary the records up to
the next page. -/
def groupApply (s : State) : State :=
  if s.clk.fn.toNat % 48 ≠ 0 ∨ !s.grp.catching then s else
  match s.grp.install with
  | some n => putRecord n.cfg (some n.page) n.fp { s with grp := { s.grp with install := none } }
  | none => apply s.grp.later s
where
  /-- Apply records up to the next one with a page. -/
  apply : List JRecord → State → State
    | [], s => { s with grp := { s.grp with later := [] } }
    | r :: rs, s =>
      let s := putRecord r.cfg r.page r.fp s
      if r.page.isSome then { s with grp := { s.grp with later := rs } } else apply rs s

-- The group bus.

/-- A packet is well-formed (R273). -/
def packetOk (m : Bytes) : Bool := decide (be m 5 2 ≤ 2048) && decide (m.length = be m 5 2 + 11) && crcGood m (7 + be m 5 2)

/-- Originator of a packet. -/
def packetFrom (m : Bytes) : Nat := 2 * fld (byteAt m 1) 4 2 + fld (byteAt m 1) 3 1

/-- A packet with its HOPS reduced by one, and its CRC made anew (R273). -/
def lessHops (m : Bytes) : Bytes :=
  let b := splice (m.take (m.length - 4)) 2 [byteAt m 2 - 1]
  b ++ crcBE b

/-- The packet types of R274. -/
def packetKnown (t : Nat) : Bool := decide (t = 1 ∨ (0x10 ≤ t ∧ t ≤ 0x15) ∨ (0x20 ≤ t ∧ t ≤ 0x23))

/-- A packet that another member originated is accepted once within 256 frames (R273); one of a reserved type is discarded and
counted (R274). -/
def acceptPacket (m : Bytes) (s : State) : State :=
  let key := (packetFrom m, (byteAt m 0).toNat, be m 3 2)
  let recent := s.grp.seen.filter fun x => decide ((s.clk.fn - x.2.2.2).toNat ≤ 256)
  let dup := recent.any fun x => (x.1, x.2.1, x.2.2.1) == key
  if !packetKnown (byteAt m 0).toNat then { s with grp := { s.grp with seen := recent, reserved := s.grp.reserved + 1 } }
  else if dup then bump 114 3 1 { s with grp := { s.grp with seen := recent } }
  else { s with grp := { s.grp with seen := (key.1, key.2.1, key.2.2, s.clk.fn) :: recent } }

/-- A packet arrives on the west or east port (R273): accepted, and forwarded on the other port (R274 keeps a packet of a reserved
type from acceptance alone: DEDUCED, log 133). During a warm reset it is forwarded only (R415). -/
def packetRx (west : Bool) (m : Bytes) (s : State) : State :=
  if s.cfg.group.isNone ∨ !framesRun s ∨ (if west then s.grp.westDown else s.grp.eastDown) then s
  else if !packetOk m then bump 114 2 1 s
  else if packetFrom m = ownMember s then s
  else
    let s := if entered s then acceptPacket m s else s
    if (byteAt m 2).toNat ≤ 1 then s else bump 114 1 1 (send (.groupFwd (!west) (lessHops m)) s)

/-- GROUP_PACKET_RX (R273). -/
def execGroupPacketRx (west : Bool) (m : Bytes) (s : State) : Host.Outcome State Fault Refusal := finish s (packetRx west m s)

/-- This member takes STAGED and CONFIG from the group bus (R274): the active unit of a slice other than the Bellwether. -/
def takesFromBus (s : State) : Bool :=
  s.cfg.group.isSome && decide (s.mode.mode = .active) && !isBellwether s

/-- GROUP_CONFIG_PACKET_RX (R190, R271, R274): the change takes effect at its FN, and goes on to the mate. -/
def execGroupConfigPacketRx (fn : FN) (e : Effect) (s : State) : Host.Outcome State Fault Refusal :=
  finish s (if takesFromBus s then mirrorConfig (schedule fn none false e 0 s) else s)

/-- GROUP_STAGED_RX (R72, R274). -/
def execGroupStagedRx (ws : List StagedWrite) (s : State) : Host.Outcome State Fault Refusal :=
  finish s (if takesFromBus s then applyStaged ws s else s)

/-- Code groups arrive at a port (R272): its synchronisation process takes them, and the port is down where it holds no
synchronisation, which is raised as it goes down. -/
def portRx (west : Bool) (codes : List (BitVec 10)) (s : State) : State :=
  let x := (if west then s.grp.westSync else s.grp.eastSync).take codes
  let down := decide (x.phase < 6)
  let was := if west then s.grp.westDown else s.grp.eastDown
  let s := if west then { s with grp := { s.grp with westSync := x, westDown := down } }
    else { s with grp := { s.grp with eastSync := x, eastDown := down } }
  if down && !was then grpNote 9 none s else s

/-- GROUP_LINK_DOWN (R272): the code groups in which a port loses synchronisation. -/
def execGroupLinkDown (x : PortCodes) (s : State) : Host.Outcome State Fault Refusal :=
  finish s (portRx x.west x.codes s)

/-- CODE_GROUP_ALIGNMENT (R272): the code groups in which a port acquires synchronisation. -/
def execCodeGroupAlignment (x : PortCodes) (s : State) : Host.Outcome State Fault Refusal :=
  finish s (portRx x.west x.codes s)

end Sys2Proof.Machine
end

