-- ==== Sys2Proof/Machine/LaneRows.lean ====
section
/-! DEFINITION. SONET/SDH and OTN lanes: alignment (R154, R155), section, line, OTN and path defects (R163, R164), bit error
ratios (R168). -/
namespace Sys2Proof.Machine

/-- Logical lanes of a group mode (R156). -/
def logicalLanes (m : Nat) : Nat := if m = 0x10 then 20 else if multiLane m then 4 else 0

/-- The receiver of logical lane n of the group on lane l. -/
def logKey (l n : Nat) : Nat := 1024 + 32 * l + n

/-- A receiver of R154 to R156: a lane in a SONET/SDH or OTN mode; 256 + FP for the SONET signal recovered from the ODU of a
port whose lane runs OTN; a logical lane of a group. -/
def isReceiver (s : State) (k : Nat) : Bool :=
  if k < 128 then
    let m := laneMode s.cfg k
    decide (1 ≤ m ∧ m ≤ 0x10)
  else if k < 1024 then decide (256 ≤ k ∧ k < 512) && (match tget .unbound s.cfg.ports (k - 256) with
    | .lane l _ => decide (8 ≤ laneMode s.cfg l ∧ laneMode s.cfg l ≤ 0x10)
    | _ => false)
  else decide (k < 1024 + 32 * 128) && decide ((k - 1024) % 32 < logicalLanes (laneMode s.cfg ((k - 1024) / 32)))

/-- The receiver is an OTN one (R155, R156). -/
def isOtnRx (s : State) (k : Nat) : Bool := decide (1024 ≤ k) || (decide (k < 128) && decide (8 ≤ laneMode s.cfg k))

/-- The object and class under which a receiver's alignment defects are reported (R176): the OC-192 or OC-768 of a lane that
is not multiplexed goes by its lane, a logical lane by its group's. -/
def rxObject (s : State) (k : Nat) : Nat × Nat :=
  if 1024 ≤ k then (5, (k - 1024) / 32)
  else if k < 128 then (if isOtnRx s k then 5 else 0, k)
  else if muxed (laneMode s.cfg (laneOfObj s k)) then (0, k) else (0, laneOfObj s k)

/-- The receiver behind an object of class 0 or 5. -/
def rxKey (s : State) (cls obj : Nat) : Nat :=
  if cls = 0 ∧ obj < 128 ∧ 8 ≤ laneMode s.cfg obj then 256 + lanePort s.cfg obj else obj

/-- Frames for which a false-lock exit bars its position, and after which it is readmitted (R154, R155). -/
def barFrames (s : State) (k : Nat) : Nat × Nat := if isOtnRx s k then (24, 8) else (64, 16)

/-- A position is barred now (R154 step 5). -/
def barStands (s : State) (k : Nat) (x : RxState) (p : Nat) : Bool :=
  x.barred.any fun b => b.pos == p && decide ((s.clk.fn - b.fn).toNat < (barFrames s k).1)

/-- Set or clear OOF: an OTN lane's out-of-frame is no defect of its own in R163. -/
def putOof (k : Nat) (on : Bool) (s : State) : State :=
  let o := rxObject s k
  if o.1 = 0 then changeDefect 0 o.2 bOof on s else s

/-- Out of frame (R154 steps 4 and 5): the ambiguous-alignment flag ends; a false-lock exit bars the position. -/
def outOfFrame (k : Nat) (bar : Bool) (s : State) : State :=
  let x := rxOf s k
  let s := putRx k { x with
    inFrame := false, readmitted := false, tied := [], ambiguous := false, since := s.clk.fn,
    barred := if bar then { pos := x.pos, fn := s.clk.fn } :: x.barred else x.barred } s
  let o := rxObject s k
  putOof k true (changeDefect o.1 o.2 bAmb false s)

-- Groups (R134, R156).

/-- A logical lane of a group is out of frame. -/
def lofLane (s : State) (l : Nat) : Bool :=
  (List.range (logicalLanes (laneMode s.cfg l))).any fun n => !(rxOf s (logKey l n)).inFrame

/-- Lane alignment of a group is lost (R156): a lane out of frame or without identity, two of one identity, or a skew above
180 ns. -/
def groupLol (s : State) (l : Nat) : Bool :=
  let ids := (List.range (logicalLanes (laneMode s.cfg l))).map fun n => (tget {} s.lane.llm (32 * l + n)).id
  lofLane s l || ids.any (·.isNone) || decide (ids.eraseDups.length < ids.length) || decide (180 < tget 0 s.lane.skew l)

/-- LOFLANE and LOL of a group follow its logical lanes; without lane alignment there is no OTU frame (R156). -/
def evalGroup (l : Nat) (s : State) : State :=
  if logicalLanes (laneMode s.cfg l) = 0 then s
  else
    let s := changeDefect 5 l 10 (groupLol s l) (changeDefect 5 l 9 (lofLane s l) s)
    if groupLol s l && (rxOf s l).inFrame then outOfFrame l false s else s

/-- The group that a receiver belongs to as a logical lane is judged again. -/
def afterRx (k : Nat) (s : State) : State := if 1024 ≤ k then evalGroup ((k - 1024) / 32) s else s

/-- Every group is judged in every frame. -/
def groupFrame (s : State) : State := ((List.range 32).map (4 * ·)).foldl (fun s l => evalGroup l s) s

/-- Lane markers received on logical lane n (R156). -/
def takeMarkers (l n : Nat) (vs : Bytes) (s : State) : State :=
  let m := logicalLanes (laneMode s.cfg l)
  if m ≤ n ∨ !(rxOf s (logKey l n)).inFrame then s
  else
    let x := vs.foldl (fun x v => llmStep m x v.toNat) (tget {} s.lane.llm (32 * l + n))
    { s with lane := { s.lane with llm := tset {} s.lane.llm (32 * l + n) x } }

/-- Evidence on the logical lanes of a group: a lane's number and its markers, or 0xFF and the skew measured, in ns. -/
def takeLogical (l : Nat) (info : Bytes) (s : State) : State :=
  match info with
  | [] => s
  | n :: rest =>
    if n = 0xFF then { s with lane := { s.lane with skew := tset 0 s.lane.skew l (be rest 0 rest.length) } }
    else takeMarkers l n.toNat rest s

-- Alignment.

/-- Take a position: the receiver is in frame (R154 steps 2 and 3). -/
def takePosition (k p : Nat) (amb : Bool) (s : State) : State :=
  let x := rxOf s k
  let s := putRx k { x with
    inFrame := true, pos := p, readmitted := x.lifted.contains p, lifted := [], tied := [], ambiguous := amb,
    since := s.clk.fn } s
  let o := rxObject s k
  afterRx k (putOof k false (if amb then changeDefect o.1 o.2 bAmb true s else s))

/-- Other candidates have verified while these positions are barred (R154 step 6). -/
def markOther (s : State) (k : Nat) (cs : List Nat) (bs : List Bar) : List Bar :=
  if cs.isEmpty then bs
  else bs.map fun b => { b with other := b.other || decide ((s.clk.fn - b.fn).toNat < (barFrames s k).2) }

/-- Candidates verify in one frame (R154 steps 2 and 3): a lone one is taken; several are watched, and those that fail leave. The
OTU frame of a group is found once its lanes are aligned (R156). -/
def laneVerify (k : Nat) (cands : List Nat) (s : State) : State :=
  let x := rxOf s k
  if !isReceiver s k || x.inFrame || (decide (k < 128) && multiLane (laneMode s.cfg k) && groupLol s k) then s
  else
    let cs := cands.filter fun p => !barStands s k x p
    let left := x.tied.filter fun p => cs.contains p
    let watch := if left.isEmpty then cs else left
    let x := { x with barred := markOther s k cs x.barred }
    match watch with
    | [] => putRx k { x with tied := [] } s
    | [p] => takePosition k p false (putRx k x s)
    | ps => putRx k { x with tied := ps, tiedFn := (if left.isEmpty then s.clk.fn else x.tiedFn) } s

/-- LANE_FRAME_VERIFY: the positions at which the pattern recurs in one frame, in search order. -/
def execLaneFrameVerify (obj : Nat) (cands : List Nat) (s : State) : Host.Outcome State Fault Refusal :=
  finish s (laneVerify obj cands s)

/-- LANE_OOF: four errored frames, five on OTN. -/
def execLaneOof (obj : Nat) (s : State) : Host.Outcome State Fault Refusal :=
  finish s (if isReceiver s obj && (rxOf s obj).inFrame then afterRx obj (outOfFrame obj false s) else s)

/-- What makes a false-lock exit in eight consecutive frames (R154 step 5, R155). SONET/SDH: the errored bits of B1 and the
pointer word of STS-1 #1, in turn. OTN with FEC: the uncorrectable codewords of 64. OTN without: whether the MFAS is not
the expected one, and the errored bits of SM BIP-8, in turn; a logical lane, which has neither, is not struck then. -/
def falseLocks (s : State) (k : Nat) (ev : List Nat) : Bool :=
  let l := if 1024 ≤ k then (k - 1024) / 32 else laneOfObj s k
  let pairs := (List.range 8).map fun i => (ev.getD (2 * i) 0, ev.getD (2 * i + 1) 0)
  if isOtnRx s k then
    if bit (laneCfg s.cfg l).flags 3 then decide (ev.length = 8) && ev.all fun n => decide (32 ≤ n)
    else decide (k < 128 ∧ ev.length = 16) && pairs.all fun x => decide (x.1 = 1 ∧ 4 ≤ x.2)
  else decide (ev.length = 16) && pairs.all fun x => decide (4 ≤ x.1) && decide (readPtr 782 none (BitVec.ofNat 16 x.2) = .bad)

/-- A false-lock exit (R154 step 5): not of a position taken after readmission. -/
def laneFalseLock (k : Nat) (ev : List Nat) (s : State) : State :=
  if isReceiver s k && (rxOf s k).inFrame && !(rxOf s k).readmitted && falseLocks s k ev then afterRx k (outOfFrame k true s) else s

/-- LANE_FALSE_LOCK_EXIT. -/
def execLaneFalseLockExit (x : Watched) (s : State) : Host.Outcome State Fault Refusal := finish s (laneFalseLock x.obj x.ev s)

/-- The tie period ends (R154 step 3): 16 frames, or 16 OTU frames, which end within 2 module frames. -/
def laneTie (k : Nat) (b1 : List (Nat × Nat)) (s : State) : State :=
  let x := rxOf s k
  let need := if isOtnRx s k then 1 else 16
  if !isReceiver s k || x.inFrame || decide ((s.clk.fn - x.tiedFn).toNat < need) then s
  else match leastBy (·.2) (b1.filter fun c => x.tied.contains c.1) with
    | none => s
    | some c => takePosition k c.1 (decide (2 ≤ (b1.filter fun c => x.tied.contains c.1).length)) s

/-- LANE_TIE_TIMEOUT: the errored B1 bits of each position still watched, in search order. -/
def execLaneTieTimeout (obj : Nat) (b1 : List (Nat × Nat)) (s : State) : Host.Outcome State Fault Refusal :=
  finish s (laneTie obj b1 s)

/-- Barred positions are readmitted when no other candidate has verified in time (R154 step 6); bars that have ended are
forgotten. -/
def laneReadmit (k : Nat) (s : State) : State :=
  let x := rxOf s k
  let age := fun (b : Bar) => (s.clk.fn - b.fn).toNat
  let back := x.barred.filter fun b => !b.other && decide ((barFrames s k).2 ≤ age b)
  if !isReceiver s k || x.inFrame then s
  else putRx k { x with
    barred := (x.barred.filter fun b => b.other || decide (age b < (barFrames s k).2)).filter
      fun b => decide (age b < (barFrames s k).1),
    lifted := x.lifted ++ back.map (·.pos) } s

/-- LANE_READMISSION. -/
def execLaneReadmission (obj : Nat) (s : State) : Host.Outcome State Fault Refusal := finish s (laneReadmit obj s)

-- Defects.

/-- Bits that the tributary engines declare (R13, R19): trace, label, remote and error-ratio defects and their flags; framing,
pointers and AIS are the hardware's. -/
def engineBit (b : Nat) : Bool :=
  [3, 5, 14, 15, 16, 17, 25, 26, 29, 30, 31, 32, 33, 54, 55].contains b

/-- The bit may change now: the hardware's at any time, the engines' while the object's engine runs. -/
def bitServed (s : State) (cls obj b : Nat) : Bool := !engineBit b || enginesServe s cls obj

/-- A trace is accepted (R162): it is kept, the trace is stable, and TIM follows it. -/
def acceptTrace (cls obj : Nat) (t : Bytes) (s : State) : State :=
  let s := { s with dft := { s.dft with traces := tinsert s.dft.traces (objKey cls obj) t } }
  evalTim cls obj (changeDefect cls obj 54 false s)

/-- Bits that LANE_DEFECT_CHANGE may bring for each class (R163, R169). -/
def laneBits : Nat → List Nat
  | 0 => [0, 2, 3, 54]
  | 1 => [4, 5]
  | 5 => [0, 2, 9, 10, 11, 12, 13, 14, 16, 54]
  | 6 => [15, 17, 22, 23, 24, 25, 26, 54, 55]
  | _ => []

/-- The payload type that R132 gives an ODU: the lane's own by its mode, an ODU2 tributary's by its mask. -/
def wantedPt (s : State) (obj : Nat) : Byte :=
  if obj < 256 then
    let m := laneMode s.cfg obj
    if m = 0x0E then 0x20 else if muxed m then 0x21 else if m % 2 = 0 then 0x03 else 0x02
  else match tget .unbound s.cfg.ports (obj - 256) with
    | .lane l base => if bit (laneCfg s.cfg l).amp (obj - 256 - base) then 0x02 else 0x03
    | _ => 0x03

/-- The multiplex structure identifier of each tributary slot (G.709, PRESUMED, entry 122), by the map or the default of R133. -/
def msiOf (mode : Nat) (m : Bytes) : Bytes :=
  let (n, ports) := mapShape mode
  (List.range n).map fun t =>
    let p := if m.isEmpty then t % max 1 ports else (byteAt m t).toNat - 1
    BitVec.ofNat 8 ((if mode = 0x10 then 0x80 else 0x40) + p)

/-- Three identical identifiers in a row (R163), one byte to each of the n tributary slots. -/
def acceptedMsi (n : Nat) (info : Bytes) : Option Bytes :=
  let m := info.take n
  if decide (info.length = 3 * n) && (slice info n n == m) && (slice info (2 * n) n == m) then some m else none

/-- A received identifier disagrees with the map for the tributary port of an object (R133). -/
def msiDiffers (s : State) (obj : Nat) (got : Bytes) : Bool :=
  match tget .unbound s.cfg.ports (obj - 256) with
  | .lane l base =>
    let m := laneMode s.cfg l
    let own : Byte := BitVec.ofNat 8 ((if m = 0x10 then 0x80 else 0x40) + (obj - 256 - base))
    let want := msiOf m (laneCfg s.cfg l).slotMap
    (List.range want.length).any fun t => (byteAt want t == own) != (byteAt got t == own)
  | _ => false

/-- Feed multiframe bytes to the OTU of a lane, or OMFI to its ODU4 (R157). -/
def takeMultiframe (l : Nat) (omfi : Bool) (bs : Bytes) (s : State) : State :=
  let k := 2 * l + nat01 omfi
  let x := bs.foldl (mfStep (if omfi then 80 else 256) s.clk.fn) (tget {} s.lane.mfas k)
  { s with lane := { s.lane with mfas := tset {} s.lane.mfas k x } }

/-- What the values received in consecutive frames must show for a bit (R163): K2 for AIS-L and RDI-L, the third byte of SM or
PM for BDI, PM's for the three STAT codes. -/
def laneEvidence (cls b : Nat) : Option (Nat × (Byte → Bool)) :=
  match cls, b with
  | 1, 4 => some (5, fun v => fld v 0 3 == 7)
  | 1, 5 => some (5, fun v => fld v 0 3 == 6)
  | 5, 16 => some (5, fun v => bit v 3)
  | 6, 17 => some (5, fun v => bit v 3)
  | 6, 22 => some (3, fun v => fld v 0 3 == 7)
  | 6, 23 => some (3, fun v => fld v 0 3 == 6)
  | 6, 24 => some (3, fun v => fld v 0 3 == 5)
  | _, _ => none

/-- Whether a bit may change now, with what has been received (R157, R163): LOF needs 24 frames out of frame, and 24 in frame
to clear, LOM and LOOMFI the same of their multiframes; PLM and MSIM three identical values. What has no count of its own
here, LOS and OTU-AIS, is the receiver's finding; the unstable flags end when a value is accepted. -/
def laneDefectDue (s : State) (cls obj b : Nat) (on : Bool) (info : Bytes) : Bool :=
  let x := rxOf s (rxKey s cls obj)
  let lost := fun (inStep : Bool) (since : FN) => (on != inStep) && decide (24 ≤ (s.clk.fn - since).toNat)
  match b with
  | 2 => lost x.inFrame x.since
  | 11 => let y := tget {} s.lane.mfas (2 * obj); lost y.inMf y.since
  | 12 => let y := tget {} s.lane.mfas (2 * obj + 1); decide (laneMode s.cfg obj = 0x10) && lost y.inMf y.since
  | 25 => (match acceptedByte 3 info with | some v => on == decide (v ≠ wantedPt s obj) | none => false)
  | 26 => (match acceptedMsi (mapShape (laneMode s.cfg (laneOfObj s obj))).1 info with
    | some m => decide (256 ≤ obj) && (on == msiDiffers s obj m) | none => false)
  | 54 => on
  | 55 => on
  | _ => (match laneEvidence cls b with | some e => persists e.1 on e.2 info | none => true)

/-- What a row brings of the logical lanes and multiframes, before the bit is judged (R156, R157). -/
def takeOtn (cls obj b : Nat) (info : Bytes) (s : State) : State :=
  if cls ≠ 5 then s
  else match b with
    | 10 => takeLogical obj info s
    | 11 => takeMultiframe obj false info s
    | 12 => takeMultiframe obj true info s
    | _ => s

/-- A section, line or OTN defect changes (R163). LOS ends a readmission (R154 step 6); an accepted payload type ends the
unstable flag (R169). -/
def laneChange (cls obj b : Nat) (on : Bool) (s : State) : State :=
  let s := changeDefect cls obj b on s
  let s := if b = 25 then changeDefect cls obj 55 false s else s
  if b = bLos && on then
    let k := rxKey s cls obj
    let own := if cls = 5 then (List.range (logicalLanes (laneMode s.cfg obj))).map (logKey obj) else []
    (k :: own).foldl (fun s k => putRx k { rxOf s k with readmitted := false } s) s
  else s

/-- The overhead byte with BEI or BIAE, BDI and IAE is kept as it came last (R161): R343 gives no bit to BIAE and IAE (entry 139). -/
def takeOh3 (cls obj b : Nat) (info : Bytes) (s : State) : State :=
  if (cls = 5 ∧ b = 16) ∨ (cls = 6 ∧ b = 17) then
    match info.getLast? with
    | some v => { s with lane := { s.lane with oh3 := tset 0 s.lane.oh3 (objKey cls obj) v } }
    | none => s
  else s

/-- BIAE and IAE as received in SM, which the module reports (R161): the manual gives the host no field for them (entry 139). -/
def alignReport (s : State) (l : Nat) : Bool × Bool :=
  let v := tget 0 s.lane.oh3 (objKey 5 l)
  (decide (fld v 4 4 = 11), bit v 2)

/-- LANE_DEFECT_CHANGE: reference slots follow their lane (R214). -/
def laneDefect (cls obj b : Nat) (on : Bool) (info : Bytes) (s : State) : State :=
  if !(laneBits cls).contains b || !isMonitored s cls obj || !bitServed s cls obj b then s
  else
    let s := takeOh3 cls obj b info (takeOtn cls obj b info s)
    if cls = 5 ∧ (b = 9 ∨ b = 10) then evalSlots (evalGroup obj s)
    else if b = timBit cls then (if info.isEmpty then s else acceptTrace cls obj info s)
    else if laneDefectDue s cls obj b on info then evalSlots (laneChange cls obj b on s)
    else s

/-- LANE_DEFECT_CHANGE. For a TIM bit `info` is the trace just accepted; for the others the bytes received. -/
def execLaneDefectChange (cls : Nat) (obj : Nat) (b : Nat) (on : Bool) (info : Bytes) (s : State) :
    Host.Outcome State Fault Refusal :=
  finish s (laneDefect cls obj b on info s)

-- Server layers.

/-- The SONET signal inside an OTN layer starts detection afresh once that layer's defects end (R164): its frame counts from
then, and an OOF still present is declared. -/
def unmask (s : State) (e : Nat × RxState) : State :=
  let o := rxObject s e.1
  if o.1 ≠ 0 then s
  else
    let down := serverDown s 0 o.2
    let x := rxOf s e.1
    if down = x.masked then s
    else if down then putRx e.1 { x with masked := true } s
    else
      let s := putRx e.1 { x with masked := false, since := s.clk.fn } s
      if x.inFrame then s else putOof e.1 true s

/-- Every receiver, in every frame. -/
def maskFrame (s : State) : State := s.lane.rx.foldl unmask s

-- Paths.

/-- A groom position's termination bits: PLM-P and LOM (R108, R163). -/
def groomBit (b : Nat) : Bool := decide (b = bPlm ∨ b = bLomH4)

/-- Path bits that may change on an object now (R163, R169). -/
def pathDefectDue (s : State) (cls obj b : Nat) : Bool :=
  if cls = 2 then
    if groomBit b then
      isGroom s.page.live obj && !anyBit (defects s 2 (deliveredHo s obj)) [bLop, bAisP]
    else decide (obj < 49152) && slotBacked s.cfg obj && [27, 28, 29, 30, 32, 54, 55, 56].contains b
  else if cls = 3 then
    decide (obj < 1376256) && isGroom s.page.live (obj / 28) &&
      (if b = bTim then isMonitored s 3 obj
      else if b = bPlm then s.page.live.car.any fun x => carrierLive s.page.live x.1 && decide (cBind x.2 = obj)
      else if b = 33 then decide (settled s (obj / 28) ((obj % 28) / 4) = 1)
      else [27, 28, 29, 32, 38, 54, 55, 56].contains b)
  else false

/-- The largest pointer value of an object, by the structure found of a tributary; none while it is unsized (R105, R107). -/
def ptrRange (s : State) (cls obj : Nat) : Option Nat :=
  if cls = 2 then some (ptrTop 4)
  else if isTu3 s obj then some (ptrTop 3)
  else match settled s (obj / 28) ((obj % 28) / 4) with
    | 0 => none
    | n + 1 => if obj % 28 % 4 < membersOf n then some (ptrTop n) else none
where
  /-- Members of a group of TYPE n. -/
  membersOf (n : Nat) : Nat := if n = 0 then 4 else if n = 1 then 3 else 1

/-- LOP and AIS follow the interpreter (R107). -/
def putPtr (cls obj : Nat) (x : PtrState) (s : State) : State :=
  let s := { s with dft := { s.dft with ptr := tset {} s.dft.ptr (objKey cls obj) x } }
  changeDefect cls obj bAisP (decide (x.st = .ais)) (changeDefect cls obj bLop (decide (x.st = .lop)) s)

/-- Pointer words received on an object (R44, R107, R147). Under a lost H4 multiframe a tributary stays in LOP (R108); under a
server defect nothing is read (R164). -/
def takePointers (cls obj : Nat) (info : Bytes) (s : State) : State :=
  if serverDown s cls obj || (decide (cls = 3) && multiframeLost s (obj / 28) && !isTu3 s obj) then s
  else match ptrRange s cls obj with
    | none => s
    | some top =>
      let s := putPtr cls obj ((ptrWords info).foldl (ptrStep top) (ptrOf s cls obj)) s
      if cls = 2 then evalMismatch s else s

/-- The groom positions that one path overhead serves: those of an AU-4 block, or one (R101). -/
def groomSpan (s : State) (g : Nat) : List Nat := if isAu4 s.page.live g then [g, g + 1, g + 2] else [g]

/-- H4 bytes received at a groom position, one to a frame (R108): when the multiframe is lost, every sized tributary that
depends on it is in LOP. The members of an AU-4 block receive none of their own. -/
def takeH4 (g : Nat) (info : Bytes) (s : State) : State :=
  if h4Of s g ≠ g then s else
  let was := multiframeLost s g
  let x := info.foldl h4Step (tget {} s.dft.h4 g)
  let s := changeDefect 2 g bLomH4 x.lost { s with dft := { s.dft with h4 := tset {} s.dft.h4 g x } }
  if was ∨ !x.lost then s
  else ((groomSpan s g).flatMap fun x => (List.range 28).map (28 * x + ·)).foldl (fun s i =>
    if isTu3 s i ∨ (ptrRange s 3 i).isNone then s else putPtr 3 i { st := .lop } s) s

/-- A reading of the structure of a groom position (R105), first byte 0: SS bits of the group in which the index lies, or 1: the
column-1 pointer words of its TUG-3 in an AU-4, of which one that is neither the null pointer nor a TU-3's finds no form and
settles none (DEDUCED, entry 110). In an AU-4 SS bits are read only where the TUG-3 is found TUG-2 structured; the sizes go with
that form. Mismatches follow (R106). -/
def takeStructure (obj : Nat) (info : Bytes) (s : State) : State :=
  let g := obj / 28
  let form := byteAt info 0 == 1
  let vs := if form then (ptrWords (info.drop 1)).map tugCode else (info.drop 1).map fun b => ssCode (fld b 0 2)
  let au4 := isAu4 s.page.live g
  if (form && !au4) || (!form && au4 && settled s g 7 != 1) then s
  else
    let k := 8 * g + (if form then 7 else (obj % 28) / 4)
    let x := vs.foldl (takeReading form k) (s.dft.reading, s.dft.found)
    let gone := fun (q : Nat) => form && tget 0 x.2 k != 1 && decide (8 * g ≤ q ∧ q < 8 * g + 7)
    evalMismatch { s with dft := { s.dft with
      reading := x.1.filter fun y => !gone y.1, found := x.2.filter fun y => !gone y.1 } }

/-- The V5 signal label that a carrier's mapping sends and expects (R118). -/
def mappingLabel (r : BitVec 128) : Nat := if cMapping r = 1 then 4 else 2

/-- The payload label received does not fit (R163): C2 of a groom position, V5 of a carrier-bound index; none while the label is
one for which neither is said. -/
def labelBad (s : State) (cls obj : Nat) (v : Byte) : Option Bool :=
  if cls = 2 then (if v = 0 then none else some (decide (2 < v.toNat)))
  else
    let l := fld v 1 3
    some (decide (l ≠ 1) && !(s.page.live.car.any fun x => carrierLive s.page.live x.1 && decide (cBind x.2 = obj ∧ mappingLabel x.2 = l)))

/-- The label that five frames or multiframes bring alike (R159, R160). -/
def labelOf (cls : Nat) (info : Bytes) : Option Byte :=
  acceptedByte 5 (if cls = 2 then info else info.map fun b => b &&& 0x0E)

/-- A label accepted where no PLM is detected ends the unstable flag (R169). -/
def labelSeen (cls obj : Nat) (info : Bytes) (s : State) : State :=
  if (labelOf cls info).isSome then changeDefect cls obj 55 false s else s

/-- An accepted label (R159, R160, R163): PLM follows it, and the unstable flag ends (R169). -/
def takeLabel (cls obj : Nat) (info : Bytes) (s : State) : State :=
  match labelOf cls info with
  | none => s
  | some v =>
    let s := changeDefect cls obj 55 false s
    match labelBad s cls obj v with
    | some on => changeDefect cls obj bPlm on s
    | none => s

/-- What the values received must show for a path bit (R163): C2 and G1 for five frames, V5 for five multiframes. -/
def pathEvidence (cls b : Nat) : Option (Byte → Bool) :=
  match cls, b with
  | 2, 29 => some fun v => v == 0
  | 2, 32 => some fun v => bit v 3 || fld v 1 3 == 2
  | 3, 29 => some fun v => fld v 1 3 == 0
  | 3, 32 => some fun v => bit v 0
  | 3, 33 => some fun v => bit v 4
  | _, _ => none

/-- The enhanced RDI code of the last G1 received (R163), bits 60 to 62 of the set. -/
def takeRdiCode (obj : Nat) (on : Bool) (info : Bytes) (s : State) : State :=
  let code := fld (info.getLastD 0) 1 3
  [0, 1, 2].foldl (fun s i => changeDefect 2 obj (60 + i) (on && code.testBit i) s) s

/-- A path or tributary defect changes (R163). Excessive pointers are more than 1,000 adjustments in a second (R169). -/
def pathDefect (cls obj b : Nat) (on : Bool) (info : Bytes) (s : State) : State :=
  if !pathDefectDue s cls obj b || !bitServed s cls obj b then s
  else if b = bLop ∨ b = bAisP then takePointers cls obj info s
  else if b = bLomH4 then takeH4 obj info s
  else if b = 38 then takeStructure obj info s
  else if b = bTim then (if info.isEmpty then s else acceptTrace cls obj info s)
  else if b = bPlm then takeLabel cls obj info s
  else if b = 54 ∨ b = 55 then (if on then changeDefect cls obj b true s else if b = 55 then labelSeen cls obj info s else s)
  else if b = 56 then changeDefect cls obj 56 (decide (1000 < be info 0 info.length)) s
  else match pathEvidence cls b with
    | none => s
    | some p =>
      if !persists 5 on p info then s
      else
        let s := changeDefect cls obj b on s
        if cls = 2 ∧ b = 32 then takeRdiCode obj on info s else s

/-- PATH_DEFECT_CHANGE. For a TIM bit `info` is the trace just accepted; for LOP and AIS pointer words, two bytes each; for LOM
H4 bytes; for LTM the readings of the structure; for the others the bytes received in consecutive frames. -/
def execPathDefectChange (cls : Nat) (obj : Nat) (b : Nat) (on : Bool) (info : Bytes) (s : State) :
    Host.Outcome State Fault Refusal :=
  finish s (pathDefect cls obj b on info s)

/-- An object whose bit error ratio is estimated (R168). -/
def isEstimated (s : State) (cls obj : Nat) : Bool :=
  match cls with
  | 1 => isMonitored s 1 obj
  | 2 => decide (obj < 49152) && slotBacked s.cfg obj
  | 3 => decide (obj < 1376256) && isGroom s.page.live (obj / 28)
  | 5 => isMonitored s 5 obj
  | 6 => isMonitored s 6 obj
  | _ => false

/-- The estimate crosses 10^−n upwards for its detection time, or has stayed a tenth below it (R168). -/
def berChange (cls obj n : Nat) (on : Bool) (s : State) : State :=
  if !isEstimated s cls obj || !enginesServe s cls obj || serverDown s cls obj || decide (n < 3 ∨ 9 < n) then s
  else
    let k := objKey cls obj
    let w := tget 0 s.dft.ber k
    let w' := if on then w ||| 2 ^ n else w - (w &&& 2 ^ n)
    evalBands cls obj { s with dft := { s.dft with ber := tset 0 s.dft.ber k w' } }

/-- BER_DECLARE. -/
def execBerDeclare (cls : Nat) (obj : Nat) (n : Nat) (on : Bool) (s : State) : Host.Outcome State Fault Refusal :=
  finish s (berChange cls obj n on s)

end Sys2Proof.Machine
end

