-- ==== Sys2Proof/Machine/Egress.lean ====
section
/-! DEFINITION. What leaves on the lanes, byte by byte: pointers (R62, R107, R109), PRBS (R395), carriers and their
tributaries (R113 to R118, R160), rebuilt slots and their overhead (R103, R159), monitor copies (R391), the bytes of a slot. What a
line brings is free (Config.payload). -/
namespace Sys2Proof.Machine

-- Pointers.

/-- A pointer word: NDF enabled 1001 or normal 0110, the SS bits, a value; a justification inverts its I or its D bits (G.783). -/
def pointerWord (ndf : Bool) (ss val just : Nat) : Word16 :=
  let flip := match just with | 1 => 0x2AA | 2 => 0x155 | _ => 0
  BitVec.ofNat 16 ((if ndf then 0x9000 else 0x6000) + 0x400 * ss + Nat.xor (val % 1024) flip)

/-- The concatenation indication of the members of a block (GR-253). -/
def concWord : Word16 := 0x93FF

/-- A position's source is new in this frame, or in this multiframe (R62, R187). -/
def hasNdf (s : State) (k frames : Nat) : Bool :=
  match tfind s.prot.moved k with
  | some f => decide ((s.clk.fn - f).toNat < frames)
  | none => false

/-- One frame or multiframe of a pointer generator: it takes a new source up at that source's phase, and otherwise follows
it by at most one justification in `gap` frames (R109). -/
def genStep (s : State) (k range gap : Nat) (ndf : Bool) : GenState :=
  let now := s.clk.fn
  let start : GenState := { val := Config.pointerStart k now.toNat % range, last := now }
  match tfind s.prot.gens k with
  | none => start
  | some g =>
    if ndf then start
    else
      let val := match g.just with | 1 => (g.val + 1) % range | 2 => (g.val + range - 1) % range | _ => g.val
      let ask := Config.storeAsks k now.toNat
      if (ask = 1 ∨ ask = 2) ∧ gap ≤ (now - g.last).toNat then { val := val, just := ask, last := now }
      else { g with val := val, just := 0 }

/-- Pointer values of a TYPE: 104, 140 and 428 offsets of a VT, 765 of a TU-3. -/
def loRange (type : Nat) : Nat := match type with | 0 => 104 | 1 => 140 | 2 => 428 | _ => 765

/-- The generators of egress slots in a frame: those that carry a source; 4 frames between justifications (G.783, PRESUMED). -/
def hoGens (s : State) : SMap GenState :=
  s.page.live.ho.foldl (fun m x =>
    let k := selKey .ho x.1
    match entryOut s x.1 with
    | .from _ => if headOf s.page.live x.1 = x.1 then tset {} m k (genStep s k 783 4 (hasNdf s k 1)) else m
    | _ => m) []

/-- The generators of egress tributaries that carry a source: of a VT at each multiframe, of a TU-3 in each frame (R109). -/
def loGens (s : State) : SMap GenState :=
  s.page.live.lo.foldl (fun m x =>
    let k := selKey .lo x.1
    let tu3 := decide (eType x.2 = 3)
    match loOut s x.1 with
    | .from _ =>
      if tu3 then tinsert m k (genStep s k 765 4 (hasNdf s k 1))
      else if s.clk.fn.toNat % 4 = 0 then tinsert m k (genStep s k (loRange (eType x.2)) 16 (hasNdf s k 4))
      else match tfind s.prot.gens k with | some g => tinsert m k g | none => m
    | _ => m) []

/-- The generators of copies that taps make of ingress paths (R391). -/
def tapGens (s : State) : SMap GenState :=
  s.bel.taps.foldl (fun m x => match x.2 with
    | none => m
    | some t =>
      let k := tapKey x.1
      let type := eType (entryAt s.page.live .lo t.idx)
      if t.output || !tapRuns s t then m
      else match t.tier with
        | .ho => (match inputOut s t.idx with
          | .from _ => tinsert m k (genStep s k 783 4 (hasNdf s k 1))
          | _ => m)
        | .lo => (match loInput s t.idx with
          | .from _ =>
            if type = 3 then tinsert m k (genStep s k 765 4 (hasNdf s k 1))
            else if s.clk.fn.toNat % 4 = 0 then tinsert m k (genStep s k (loRange type) 16 (hasNdf s k 4))
            else match tfind s.prot.gens k with | some g => tinsert m k g | none => m
          | _ => m)
        | .ds0 => m) []

/-- The generators of lane-side egress slots that pass a lane-side ingress slot through (R146, R194). -/
def laneGens (s : State) : SMap GenState :=
  s.cfg.ports.foldl (fun m x => (List.range 192).foldl (fun m sl =>
    let k := laneKey (192 * x.1 + sl)
    match laneOut s x.1 sl with
    | .passed _ => tinsert m k (genStep s k 783 4 (hasNdf s k 1))
    | _ => m) m) []

/-- Every pointer generator runs a frame (R109). -/
def genFrame (s : State) : State := { s with prot := { s.prot with gens := hoGens s ++ loGens s ++ laneGens s ++ tapGens s } }

/-- The generator of a position. -/
def genOf (s : State) (k : Nat) : GenState := tget {} s.prot.gens k

-- PRBS (R395, R396; O.150).

/-- One step of the generator: the bit sent is the last stage, the XOR of the two taps enters the first. -/
def prbsStep (n t : Nat) (w : Nat) : Bool × Nat :=
  let out := w.testBit (n - 1)
  (out, (2 * w) % 2 ^ n + nat01 (out != w.testBit (t - 1)))

/-- Bit i of a pattern, from all ones. -/
def prbsBit (pattern : Nat) (i : Nat) : Bool :=
  let (n, t) := prbsShape pattern
  (prbsStep n t ((List.range (i % (2 ^ n - 1))).foldl (fun w _ => (prbsStep n t w).2) (2 ^ n - 1))).1

/-- PRBS-15 and PRBS-23 are inverted in O.150; INVERTED of PRBS_CONFIG selects it here. A byte of a unit's output, at a bit
of its sequence. -/
def prbsByte (u : PrbsSt) (i : Nat) : Byte :=
  match u.cfg with
  | some c => BitVec.ofNat 8 ((List.range 8).foldl (fun n j => 2 * n + nat01 (prbsBit c.pattern (i + j) != c.inv)) 0)
  | none => 0

/-- Frames since a unit's start. -/
def prbsFrames (s : State) (u : PrbsSt) : Nat := (s.clk.fn - u.start).toNat

-- DS0s (R114 to R117, R125).

/-- The carrier frame that the interchange read of an ingress carrier in an earlier frame. -/
def readAt (s : State) (c : Nat) (f : FN) : Nat := ((f.toNat : Int) - 2 - (tget {} s.car c).behind).toNat

/-- The carrier frame that the interchange reads of an ingress carrier: 2 frames of buffer, and its slips (R114). -/
def readFn (s : State) (c : Nat) : Nat := readAt s c s.clk.fn

/-- The conditioning octet of a failed source carrier (R125). -/
def condOctet (s : State) (c : Nat) : Byte :=
  let r := carrierAt s.page.live c
  if cCondAis r then 0xFF else cIdleCode r

/-- PRBS in a DS0 (R395): 8 bits, or 7 and a bit 8 of 1 under TYPE 1. -/
def ds0Prbs (s : State) (u : PrbsSt) (type : Nat) : Byte :=
  if type = 1 then prbsByte u (7 * prbsFrames s u) ||| 1 else prbsByte u (8 * prbsFrames s u)

/-- The octet of a content, of carrier `own` and TYPE `type` (R116, R117). TYPE 1 sets bit 8 of what a source sends, and leaves idle
codes and conditioning as their settings have them (DESIGN CHOICE, entry 149). -/
def octetOf (s : State) (own type : Nat) (o : DsOut) (u : Option PrbsSt) : Byte :=
  match o with
  | .idle => cIdleCode (carrierAt s.page.live own)
  | .ones => 0xFF
  | .prbs => (match u with | some u => ds0Prbs s u type | none => cIdleCode (carrierAt s.page.live own))
  | .cond c => condOctet s c
  | .idleOf c => cIdleCode (carrierAt s.page.live c)
  | .from x =>
    let b := Config.octet x (readFn s (x / 32))
    if type = 1 then b ||| 1 else b

/-- The octet of egress DS0 d (R117). -/
def ds0Octet (s : State) (d : Nat) : Byte :=
  octetOf s (d / 32) (eType (entryAt s.page.live .ds0 d)) (ds0Out s d) (prbsAt s .ds0 d)

/-- The ABCD that a source delivers (R117, R123, R125): as received, C = A and D = B of an SF; held while its signalling is
not delivered, for SIG_HOLD, then IDLE_SIG, as before anything was delivered. None of a carrier without signalling. -/
def sourceSig (s : State) (x : Nat) : Option (BitVec 4) :=
  let c := x / 32
  let r := carrierAt s.page.live c
  let k := tget {} s.car c
  let got := fun (fn : Nat) =>
    let w := Config.abcd x fn
    if cT1 r && cFraming r == 0 then BitVec.ofNat 4 (fld w 2 2 * 5) else w
  if cSignalling r ≠ 1 then none
  else match k.sigHold with
    | none => some (got (readFn s c))
    | some f => some (if k.sigIdle || !k.sigSeen then cIdleSig r else got (readAt s c (f - 1)))

/-- The ABCD sent for egress DS0 d, where the carrier has signalling: IDLE_SIG but for an executed TYPE 2 entry (R116, R117). -/
def ds0Sig (s : State) (d : Nat) : BitVec 4 :=
  let own := cIdleSig (carrierAt s.page.live (d / 32))
  let e := entryAt s.page.live .ds0 d
  if eType e ≠ 2 then own
  else match ds0Out s d with
    | .from x => (sourceSig s x).getD own
    | .cond _ => (sourceSig s (ds0Source s d)).getD own
    | _ => own

/-- ABCD of 0000 is sent as 0001 on an E1 (R117): an IDLE_SIG of 0000 too, for the reason R117 gives holds of it (DEDUCED, entry
148). -/
def e1Sig (w : BitVec 4) : BitVec 4 := if w = 0 then 1 else w

/-- The bit robbed in a T1 frame, none where the time slot is not robbed (R117, R118): frames 6 and 12 carry A and B; in ESF
18 and 24 carry C and D. -/
def robbedBit (s : State) (d frame : Nat) : Option Bool :=
  let r := carrierAt s.page.live (d / 32)
  let e := entryAt s.page.live .ds0 d
  let clear := ds0Executed s.page.live d e && decide (eType e ≠ 2)
  if cSignalling r ≠ 1 ∨ clear then none
  else match frame with
    | 6 => some (bit (ds0Sig s d) 3)
    | 12 => some (bit (ds0Sig s d) 2)
    | 18 => some (bit (ds0Sig s d) 1)
    | 24 => some (bit (ds0Sig s d) 0)
    | _ => none

-- Egress carriers (R113, R118).

/-- RAI is sent: RAI_EN, and the carrier's ingress has failed (R125). -/
def sendsRai (s : State) (c : Nat) : Bool := cRaiEn (carrierAt s.page.live c) && carrierFailed s c

/-- CRC-4 framing is sent. -/
def sendsCrc4 (r : BitVec 128) : Bool := !cT1 r && decide (1 ≤ cFraming r)

/-- E-bits asked for (R110). -/
def cEbitEn (r : BitVec 128) : Bool := bit r 35

/-- SA_BITS, Sa4 first (R110). -/
def cSaBits (r : BitVec 128) : BitVec 5 := r.extractLsb' 56 5

/-- An E-bit (R118, R120): 0 for an errored submultiframe of the same carrier while EBIT_EN is set, and throughout the
interworking fallback; otherwise 1. -/
def eBit (s : State) (c : Nat) (second : Bool) : Bool :=
  let r := carrierAt s.page.live c
  let k := tget {} s.car c
  if k.interwork then false
  else !(cEbitEn r && k.mf && decide (Config.rxErrors (objKey 4 c) ((s.clk.fn.toNat / 16 - 1) * 16 + 8 * nat01 second) ≠ 0))

/-- Bit 1 of time slot 0 in frame n of the multiframe (R118; G.704): CRC-4 in the FAS, MFAS and E-bits in the NFAS, 1 in
basic framing. -/
def siBit (s : State) (c n : Nat) : Bool :=
  if !sendsCrc4 (carrierAt s.page.live c) then true
  else if n % 2 = 0 then bit (tget {} s.car c).crcSent (3 - n / 2 % 4)
  else match n with
    | 1 => false | 3 => false | 5 => true | 7 => false | 9 => true | 11 => true
    | 13 => eBit s c false
    | _ => eBit s c true

/-- Time slot 0 of an E1 in frame n: FAS 0011011 in even frames; bit 2, A and Sa4 to Sa8 in odd ones. -/
def e1Slot0 (s : State) (c n : Nat) : Byte :=
  let sa := cSaBits (carrierAt s.page.live c)
  let body := if n % 2 = 0 then 0x1B
    else 0x40 + 0x20 * nat01 (sendsRai s c) + (List.range 5).foldl (fun v i => 2 * v + nat01 (bit sa i)) 0
  BitVec.ofNat 8 (0x80 * nat01 (siBit s c n) + body)

/-- Time slot 16 of an E1 with CAS in frame n (R118): 0000, then 1, y, 1, 1 in frame 0. -/
def e1Slot16 (s : State) (c n : Nat) : Byte :=
  if n = 0 then BitVec.ofNat 8 (0x0B + 4 * nat01 (sendsRai s c))
  else BitVec.ofNat 8 (16 * (e1Sig (ds0Sig s (32 * c + n))).toNat + (e1Sig (ds0Sig s (32 * c + n + 16))).toNat)

/-- The carrier frame of an E1 in this module frame (R113): multiframes begin at FN mod 16 = 0. -/
def e1Frame (s : State) (c : Nat) : Bytes :=
  let n := s.clk.fn.toNat % 16
  (List.range 32).map fun ts =>
    if ts = 0 then e1Slot0 s c n
    else if ts = 16 ∧ cSignalling (carrierAt s.page.live c) = 1 then e1Slot16 s c n
    else ds0Octet s (32 * c + ts)

/-- A time slot of a T1 in frame n, 1 first: robbed, and bit 2 zero for the RAI of an SF. -/
def t1Slot (s : State) (c ts n : Nat) : Byte :=
  let b := ds0Octet s (32 * c + ts)
  let b := match robbedBit s (32 * c + ts) n with | some v => putBit b 0 v | none => b
  if cFraming (carrierAt s.page.live c) = 0 ∧ sendsRai s c then putBit b 6 false else b

/-- The F bit of a T1 in frame n, 1 first (R118): Ft 101010 and Fs 001110; in ESF the data link, the CRC-6 of the last
superframe and FPS 001011. -/
def t1Fbit (s : State) (c n : Nat) : Bool :=
  if cFraming (carrierAt s.page.live c) = 0 then
    [true, false, false, false, true, true, false, true, true, true, false, false].getD (n - 1) false
  else if n % 2 = 1 then
    let i := s.clk.fn.toNat / 2
    if sendsRai s c then decide (i % 16 < 8) else (0x7E : Nat).testBit (7 - i % 8)
  else if n % 4 = 2 then bit (tget {} s.car c).crcSent (5 - n / 4)
  else [false, false, true, false, true, true].getD (n / 4 - 1) false

/-- Frame of a T1 superframe in this module frame, 1 first (R113). -/
def t1Number (s : State) (c : Nat) : Nat :=
  s.clk.fn.toNat % (if cFraming (carrierAt s.page.live c) = 0 then 12 else 24) + 1

/-- The carrier frame of a T1: its F bit, and 24 time slots. -/
def t1Frame (s : State) (c : Nat) : Bool × Bytes :=
  let n := t1Number s c
  (t1Fbit s c n, (List.range 24).map fun ts => t1Slot s c ts n)

/-- A CRC of n bits taken on over bits, by its polynomial below x^n: 0x3 is x + 1 (CRC-4 and CRC-6 of G.704), 0x09 x^3 + 1 (CRC-7
of G.707). -/
def crcBits (n poly : Nat) (w : Nat) (bs : List Bool) : Nat :=
  bs.foldl (fun w b =>
    let top := w.testBit (n - 1) != b
    Nat.xor (2 * w % 2 ^ n) (if top then poly else 0)) w

/-- A submultiframe or superframe begins: the check of the one before is sent in it (R118). -/
def checkBegin (c : Nat) (s : State) : State :=
  let k := tget {} s.car c
  let fn := s.clk.fn.toNat
  if fn % (if cT1 (carrierAt s.page.live c) then 24 else 8) = 0 then
    { s with car := tset {} s.car c { k with crcSent := k.crcRun, crcRun := 0 } }
  else s

/-- The check of a carrier runs on over the frame sent (R118): over a submultiframe with its CRC-4 bits taken as 0, over an
ESF superframe with its F bits taken as 1; it is sent in the next one. -/
def checkFrame (c : Nat) (s : State) : State :=
  let r := carrierAt s.page.live c
  let k := tget {} s.car c
  let fn := s.clk.fn.toNat
  let run := if cT1 r then crcBits 6 3 k.crcRun.toNat (true :: bitsOf (t1Frame s c).2)
    else
      let f := e1Frame s c
      let f := if fn % 2 = 0 then putBit (byteAt f 0) 7 false :: f.drop 1 else f
      crcBits 4 3 k.crcRun.toNat (bitsOf f)
  { s with car := tset {} s.car c { k with crcRun := BitVec.ofNat 6 run } }

-- The tributary of a carrier (R113, R118, R160).

/-- RDI-V is sent at x: AIS-V, LOP-V, UNEQ-V or PLM-V of the ingress tributary (R165). -/
def sendsRdiV (s : State) (x : Nat) : Bool :=
  anyBit (defects s 3 x) [bAisP, bLop, bUneq, bPlm] || multiframeLost s (x / 28)

/-- The parity of some bits of a byte. -/
def parityOf (w : Byte) (ks : List Nat) : Bool := ks.foldl (fun a k => xor a (bit w k)) false

/-- BIP-2 of bytes: the parity of their odd and of their even bits. -/
def bip2 (bs : Bytes) : Nat :=
  let w := bs.foldl (fun a b => a ^^^ b) (0 : Byte)
  2 * nat01 (parityOf w [7, 5, 3, 1]) + nat01 (parityOf w [6, 4, 2, 0])

/-- BIP-8 of bytes. -/
def bip8 (bs : Bytes) : Byte := bs.foldl (fun a b => a ^^^ b) 0

/-- The signal label by the carrier's mapping (R118). -/
def v5Label (r : BitVec 128) : Nat := if cMapping r = 1 then 4 else 2

/-- V5 of a carrier-bound egress tributary (R160): BIP-2, REI-V for an error in the last multiframe, RFI-V 0, label, RDI-V. -/
def v5Byte (s : State) (c x : Nat) : Byte :=
  let parity := (tget 0 s.prot.parity (selKey .lo x)).toNat % 4
  let rei := nat01 (decide (Config.rxErrors (objKey 3 x) (s.clk.fn.toNat / 4 - 1) ≠ 0))
  BitVec.ofNat 8 (64 * parity + 32 * rei + 2 * v5Label (carrierAt s.page.live c) + nat01 (sendsRdiV s x))

/-- Justification control of the asynchronous mapping at the nominal rate (R113; G.707): all C1 set, for S1 is stuffed, and all
C2 clear, for S2 is data. -/
def asyncControl : Byte := 0x80

/-- The bytes of a VC-12 in quarter q of its multiframe: its overhead byte, then the E1 frame in its place (G.707, PRESUMED). In the
asynchronous mapping S1 ends the control byte of quarter 3 and S2 is the first bit after it, which the frame's first bit takes. -/
def vc12Quarter (s : State) (c x q : Nat) : Bytes :=
  let f := e1Frame s c
  let oh : Byte := if q = 0 then v5Byte s c x else 0
  let sync := decide (cMapping (carrierAt s.page.live c) = 1)
  let ctl : Byte := if sync ∨ q = 0 then 0 else asyncControl
  [oh, ctl] ++ f ++ [0]

/-- The bytes of a VC-11 in quarter q: its overhead byte, the control byte with the F bit, 24 time slots (G.707, PRESUMED). -/
def vc11Quarter (s : State) (c x q : Nat) : Bytes :=
  let f := t1Frame s c
  let oh : Byte := if q = 0 then v5Byte s c x else 0
  let ctl : Byte := if cMapping (carrierAt s.page.live c) = 1 ∨ q = 0 then 0 else asyncControl
  [oh, ctl ||| BitVec.ofNat 8 (2 * nat01 f.1)] ++ f.2

/-- The quarter of a carrier's tributary sent in this frame (R109): V5 follows V1. -/
def vcQuarter (s : State) (c x : Nat) : Bytes :=
  let q := s.clk.fn.toNat % 4
  if cT1 (carrierAt s.page.live c) then vc11Quarter s c x q else vc12Quarter s c x q

-- Tributaries in a rebuilt slot.

/-- The SS bits of V1 by size (R105): 11, 10 and 00. -/
def sizeBits (type : Nat) : Nat := match type with | 0 => 3 | 1 => 2 | _ => 0

/-- Bytes of a tributary in a frame, its pointer byte among them: 27, 36 or 108. -/
def loBytes (type : Nat) : Nat := match type with | 0 => 27 | 1 => 36 | _ => 108

/-- The pointer of a tributary, by its generator k: a source's as generated; a carrier's puts V5 behind V1; 0 where nothing is
sent. -/
def loPointer (s : State) (k : Nat) (ndf : Bool) (type : Nat) (o : LoOut) : Word16 :=
  match o with
  | .from _ => pointerWord ndf (sizeBits type) (genOf s k).val (genOf s k).just
  | .carrier _ => pointerWord ndf (sizeBits type) (if type = 0 then 78 else 105) 0
  | .ais => 0xFFFF
  | _ => pointerWord ndf (sizeBits type) 0 0

/-- The pointer of egress tributary i. -/
def tribPointer (s : State) (i type : Nat) (o : LoOut) : Word16 :=
  loPointer s (selKey .lo i) (hasNdf s (selKey .lo i) (if type = 3 then 1 else 4)) type o

/-- V1, V2, V3 or V4 by the frame (R109): V3 and V4 carry no pointer. -/
def vByte (s : State) (w : Word16) (ais : Bool) : Byte :=
  match s.clk.fn.toNat % 4 with
  | 0 => BitVec.ofNat 8 (w.toNat / 256)
  | 1 => BitVec.ofNat 8 w.toNat
  | _ => if ais then 0xFF else 0

/-- PRBS in a tributary (R395): every byte but V5, which shows label 110. -/
def loPrbs (s : State) (u : PrbsSt) (n : Nat) : Bytes :=
  let q := s.clk.fn.toNat % 4
  let done := prbsFrames s u / 4 * (4 * n - 1) + (if q = 0 then 0 else q * n - 1)
  (List.range n).map fun j =>
    if q = 0 ∧ j = 0 then (0x0C : Byte) else prbsByte u (8 * (done + j - (if q = 0 then 1 else 0)))

/-- The frame's bytes of a tributary of content `o` and pointer `w`, its V byte first. -/
def tribBytes (s : State) (i type : Nat) (o : LoOut) (w : Word16) : Bytes :=
  let n := loBytes type - 1
  let body : Bytes := match o with
    | .unequipped => zeros n
    | .ais => List.replicate n 0xFF
    | .prbs => (match prbsAt s .lo i with | some u => loPrbs s u n | none => zeros n)
    | .from x => (List.range n).map fun j => Config.payload (objKey 3 x) s.clk.fn.toNat j
    | .carrier c => fit n (vcQuarter s c i)
  vByte s w (decide (o = .ais)) :: body

/-- A byte of a group's column: the 12 columns of a VT group or TUG-2, its tributaries in turn (R101, R103; G.707). `bs` gives
the bytes of a member. -/
def groupByte (type row col : Nat) (bs : Nat → Bytes) : Byte :=
  let n := membersOf type
  byteAt (bs (col % n)) (row * (12 / n) + col / n)

/-- The bytes of egress tributary i in its group of a TYPE. -/
def egressTrib (s : State) (type i : Nat) : Bytes := tribBytes s i type (loOut s i) (tribPointer s i type (loOut s i))

/-- The bytes of an unequipped tributary. -/
def emptyTrib (s : State) (type : Nat) : Bytes := tribBytes s 0 type .unequipped (pointerWord false (sizeBits type) 0 0)

/-- The 84 tributary columns of an AU-3 slot or of a TUG-2 structured TUG-3: seven groups in turn (R101). -/
def vtColumn (s : State) (g row col : Nat) : Byte :=
  let grp := col % 7
  let type := groupType s.page.live g grp
  groupByte type row (col / 7) fun m => egressTrib s type (28 * g + 4 * grp + m)

/-- PRBS in a TU-3 (R395): every byte of the VC-3 but its path overhead, whose C2 is 0xFE. -/
def tu3Prbs (s : State) (u : PrbsSt) (row col : Nat) : Byte :=
  if col = 0 then (if row = 2 then 0xFE else 0) else prbsByte u (8 * (prbsFrames s u * 756 + row * 84 + (col - 1)))

/-- A byte of a TU-3 of content `o` and pointer `w` (R103): H1 to H3 and stuff in its first column, then the 85 columns of its VC-3. -/
def tu3Of (s : State) (i row col : Nat) (o : LoOut) (w : Word16) : Byte :=
  if col = 0 then
    (match row with
     | 0 => BitVec.ofNat 8 (w.toNat / 256)
     | 1 => BitVec.ofNat 8 w.toNat
     | _ => if o = .ais then 0xFF else 0)
  else match o with
    | .ais => 0xFF
    | .from x => Config.payload (objKey 3 x) s.clk.fn.toNat (85 * row + (col - 1))
    | .prbs => (match prbsAt s .lo i with | some u => tu3Prbs s u row (col - 1) | none => 0)
    | _ => 0

/-- A byte of the TU-3 of egress TUG-3 g. -/
def tu3Byte (s : State) (g row col : Nat) : Byte := tu3Of s (28 * g) row col (loOut s (28 * g)) (tribPointer s (28 * g) 3 (loOut s (28 * g)))

/-- The null pointer indication in column 1 of a TUG-2 structured TUG-3 (R103): 1001, SS, 11111 00000. -/
def nullPointer (row : Nat) : Byte := match row with | 0 => 0x9B | 1 => 0xE0 | _ => 0

/-- A byte of a TUG-3 of an AU-4 structure: 86 columns. -/
def tug3Byte (s : State) (g row col : Nat) : Byte :=
  if sendsTu3 s.page.live g then tu3Byte s g row col
  else match col with
    | 0 => nullPointer row
    | 1 => 0
    | c + 2 => vtColumn s g row c

-- Path overhead of a rebuilt slot (R103, R159, R165).

/-- CRC-7 of a 16-byte trace, in its first byte (G.707): taken over the trace with that byte 1 and seven zeros. -/
def traceCrc (t : Bytes) : Byte := BitVec.ofNat 8 (0x80 + crcBits 7 0x09 0 (bitsOf (0x80 :: fit 15 t)))

/-- A trace as sent: a 16-byte one with its CRC-7 byte before its 15 characters. -/
def framedTrace (t : Bytes) : Bytes := if t.length = 15 then traceCrc t :: t else t

/-- The byte of a trace in this frame; a trace begins at FN mod its length = 0 (DESIGN CHOICE, log 126). -/
def traceNow (s : State) (t : Bytes) : Byte := byteAt t (s.clk.fn.toNat % max 1 t.length)

/-- The enhanced RDI code of a rebuilt slot (R165): server 101, connectivity 110, payload 010; none 001 (GR-253). -/
def rdiCode (s : State) (g : Nat) : Nat :=
  let x := deliveredHo s (headOf s.page.live g)
  let w := defects s 2 x
  if anyBit w [bLop, bAisP] then 5 else if anyBit w [bUneq, bTim] then 6
  else if bit (defects s 2 (headOf s.page.live g)) bPlm then 2 else 1

/-- G1 of a rebuilt slot (R159): REI-P of the ingress path terminated at the same position, and RDI. -/
def g1Byte (s : State) (g : Nat) : Byte :=
  let x := deliveredHo s (headOf s.page.live g)
  let errs := if x = noSrc then 0 else Config.rxErrors (objKey 2 x) (s.clk.fn - 1).toNat
  BitVec.ofNat 8 (16 * (if errs ≤ 8 then errs else 0) + 2 * rdiCode s g)

/-- H4 of a rebuilt slot (R109; G.707, PRESUMED): it shows the phase of the next frame. -/
def h4Byte (s : State) : Byte := BitVec.ofNat 8 (0xFC + (s.clk.fn.toNat + 1) % 4)

/-- The path overhead of a rebuilt slot, J1 first (R103, R159): bytes not listed are 0x00. -/
def pathOverhead (s : State) (g : Nat) (c2 : Byte) : Bytes :=
  [traceNow s (framedTrace (j1Text s (g / 192) (g % 192))), tget 0 s.prot.parity (selKey .ho g), c2, g1Byte s g, 0, h4Byte s, 0, 0, 0]

/-- A byte of the SPE of a rebuilt AU-3 slot: overhead, and fixed stuff in columns 30 and 59 (GR-253). -/
def au3Byte (s : State) (g row col : Nat) : Byte :=
  if col = 0 then byteAt (pathOverhead s g 0x02) row
  else if col = 29 ∨ col = 58 then 0
  else vtColumn s g row (col - 1 - nat01 (decide (29 < col)) - nat01 (decide (58 < col)))

/-- A byte of the VC-4 of a rebuilt AU-4 block headed at g: 261 columns, two of stuff, three TUG-3s in turn (G.707). -/
def au4Byte (s : State) (g row col : Nat) : Byte :=
  match col with
  | 0 => byteAt (pathOverhead s g 0x02) row
  | 1 => 0
  | 2 => 0
  | c + 3 => tug3Byte s (g + c % 3) row (c / 3)

/-- A byte of the part of a rebuilt slot that egress GS g carries: columns 0 to 86. -/
def rebuiltByte (s : State) (g row col : Nat) : Byte :=
  if isAu4 s.page.live g then au4Byte s (blockHead 3 g) row (3 * col + g % 192 % 3) else au3Byte s g row col

-- Monitor copies (R391).

/-- The content that a low-order tap copies. -/
def tappedLo (s : State) (t : TapCfg) : LoOut := if t.output then loOut s t.idx else loInput s t.idx

/-- The pointer of tap u's copy of a tributary: the output path's own, or that of the copy's generator. -/
def tappedPointer (s : State) (u : Nat) (t : TapCfg) (type : Nat) : Word16 :=
  let k := if t.output then selKey .lo t.idx else tapKey u
  let frames := if type = 3 then 1 else 4
  loPointer s k (hasNdf s k frames || hasNdf s (tapKey u) frames) type (tappedLo s t)

/-- The octet and ABCD that a DS0 tap copies. -/
def tappedDs0 (s : State) (t : TapCfg) : Byte × BitVec 4 :=
  let c := t.idx / 32
  if t.output then (ds0Octet s t.idx, ds0Sig s t.idx)
  else (octetOf s c 0 (ds0Input s t.idx) none, (sourceSig s t.idx).getD (cIdleSig (carrierAt s.page.live c)))

/-- The E1 of a DS0 tap: the octet in time slot 1, its ABCD in CAS channel 1; elsewhere 0xFF and 1101; byte-synchronous, CRC-4
and CAS (R391). -/
def tapE1 (s : State) (t : TapCfg) : Bytes :=
  let n := s.clk.fn.toNat % 16
  let (o, sig) := tappedDs0 s t
  let s0 : Byte := BitVec.ofNat 8 ((if n % 2 = 0 then 0x1B else 0x40) +
    0x80 * nat01 (if n % 2 = 0 then false else [1, 3, 7].contains n == false))
  let s16 : Byte := if n = 0 then 0x0B else BitVec.ofNat 8 (16 * (if n = 1 then (e1Sig sig).toNat else 13) + 13)
  s0 :: o :: (List.range 30).map fun i => if i = 14 then s16 else 0xFF

/-- The bytes of the copied member of group 0 (R391): the tributary itself, or a VT2 with the E1 of a DS0 tap. -/
def copiedTrib (s : State) (u : Nat) (t : TapCfg) (type : Nat) : Bytes :=
  if t.tier = .ds0 then
    vByte s (pointerWord (hasNdf s (tapKey u) 4) 2 105 0) false ::
      ([(if s.clk.fn.toNat % 4 = 0 then 0x08 else 0), 0] ++ tapE1 s t ++ [0])
  else tribBytes s t.idx type (tappedLo s t) (tappedPointer s u t type)

/-- A byte of an AU-3 structured copy (R391): the copy at k = 0, the rest of group 0 of its size and unused, and unequipped VT1.5
in the other groups. -/
def copyColumn (s : State) (u : Nat) (t : TapCfg) (row col : Nat) : Byte :=
  let type := if t.tier = .ds0 then 1 else eType (entryAt s.page.live .lo t.idx)
  if col % 7 = 0 then groupByte type row (col / 7) fun m => if m = 0 then copiedTrib s u t type else emptyTrib s type
  else groupByte 0 row (col / 7) fun _ => emptyTrib s 0

/-- A byte of a TUG-3 that carries nothing: unequipped VT1.5 in every group. -/
def emptyTug3 (s : State) (row col : Nat) : Byte :=
  match col with
  | 0 => nullPointer row
  | 1 => 0
  | c + 2 => groupByte 0 row (c / 7) fun _ => emptyTrib s 0

/-- Path overhead of a copy's slot (R391): what it does not name is 0. -/
def copyOverhead (s : State) : Bytes := [0, 0, 0x02, 0, 0, h4Byte s, 0, 0, 0]

/-- A byte of slot k of a low-order or DS0 copy (R391): an AU-3 structure with the copy at k = 0, or for a TU-3 an AU-4 one
with the copy in TUG-3 #1. -/
def copyByte (s : State) (u : Nat) (t : TapCfg) (k row col : Nat) : Byte :=
  if t.slots = 3 then
    (match 3 * col + k with
     | 0 => byteAt (copyOverhead s) row
     | 1 => 0
     | 2 => 0
     | c + 3 =>
       if c % 3 = 0 then tu3Of s t.idx row (c / 3) (tappedLo s t) (tappedPointer s u t 3) else emptyTug3 s row (c / 3))
  else if col = 0 then byteAt (copyOverhead s) row
  else if col = 29 ∨ col = 58 then 0
  else copyColumn s u t row (col - 1 - nat01 (decide (29 < col)) - nat01 (decide (58 < col)))

-- Slots.

/-- Columns of the SPE of a block of n slots outside its path overhead. -/
def speColumns (n : Nat) : Nat := 87 * n - 1

/-- A byte of a slot under PRBS (R395): the path overhead of a rebuilt slot with C2 = 0xFE, at the head of the block. -/
def prbsSpe (s : State) (g row col : Nat) : Byte :=
  let h := headOf s.page.live g
  let n := blockSize (eType (entryAt s.page.live .ho h))
  let c := n * col + (g - h)
  if c = 0 then byteAt (pathOverhead s h 0xFE) row
  else match prbsAt s .ho h with
    | some u => prbsByte u (8 * (prbsFrames s u * 9 * speColumns n + row * speColumns n + (c - 1)))
    | none => 0

/-- The payload that ingress GS x takes: that of its lane-side slot (IN_FP, IN_S) (R194). -/
def sideKey (s : State) (x : Nat) : Nat :=
  let r := remapAt s (x / 192) (x % 192)
  objKey 8 (192 * rInFp r + rInSlot r)

/-- A byte of the SPE, or of its share of a block, that content `o` gives egress GS g: rows 0 to 8, columns 0 to 86. -/
def speByte (s : State) (g row col : Nat) (o : HoOut) : Byte :=
  match o with
  | .unequipped => 0
  | .ais => 0xFF
  | .forcedAis => 0xFF
  | .prbs => prbsSpe s g row col
  | .from x => Config.payload (sideKey s x) s.clk.fn.toNat (87 * row + col)
  | .passed x => Config.payload (objKey 8 x) s.clk.fn.toNat (87 * row + col)
  | .rebuilt => rebuiltByte s g row col
  | .tap u k => (match tget none s.bel.taps u with | some t => copyByte s u t k row col | none => 0)

/-- The slot whose bytes egress slot g carries: on a MONITOR port the high-order output that its tap copies (R391). -/
def copiedSlot (s : State) (g : Nat) : Nat :=
  if isMonitor s.cfg (g / 192) then
    match tapAt s (g / 192) (g % 192) with
    | some (_, t, k) => if t.tier = .ho && t.output then t.idx + k else g
    | none => g
  else g

/-- The place of a slot in its block, 0 for a head; the block of a copy is its tap's. -/
def placeOf (s : State) (g : Nat) : Nat :=
  let g' := copiedSlot s g
  if isMonitor s.cfg (g' / 192) then (match tapAt s (g' / 192) (g' % 192) with | some (_, _, k) => k | none => 0)
  else g' - headOf s.page.live g'

/-- The generator behind a slot: its block head's, or for a copy of an ingress path the tap's. -/
def genKey (s : State) (g : Nat) : Nat :=
  let g' := copiedSlot s g
  match (if isMonitor s.cfg (g' / 192) then tapAt s (g' / 192) (g' % 192) else none) with
  | some (u, _, _) => tapKey u
  | none => selKey .ho (g' - placeOf s g)

/-- A slot's source is new in this frame: its own, or that of the tap that fills it (R62, R392). -/
def slotNdf (s : State) (g : Nat) : Bool :=
  hasNdf s (genKey s g) 1 || (match (if isMonitor s.cfg (g / 192) then tapAt s (g / 192) (g % 192) else none) with
    | some (u, _, _) => hasNdf s (tapKey u) 1
    | none => false)

/-- H1 and H2 of an egress fabric slot (R62, R98, R187): the members of a block carry the concatenation indication; a slot without a
source, and one that the module builds, keeps a fixed pointer. -/
def hoPointer (s : State) (g : Nat) (ndf : Bool) : Word16 :=
  let x := genOf s (genKey s g)
  match hoOut s g with
  | .ais => 0xFFFF
  | .forcedAis => 0xFFFF
  | .from _ => if placeOf s g ≠ 0 then concWord else pointerWord ndf 0 x.val x.just
  | _ => if placeOf s g ≠ 0 then concWord else pointerWord ndf 0 0 0

-- Lane-side slots.

/-- The fabric slot behind lane-side egress slot S of port p. -/
def laneSource (s : State) (p sl : Nat) : Nat := 192 * rEgFp (remapAt s p sl) + rEgSlot (remapAt s p sl)

/-- A byte of the SPE of a lane-side egress slot. -/
def laneByte (s : State) (p sl row col : Nat) : Byte := speByte s (copiedSlot s (laneSource s p sl)) row col (laneOut s p sl)

/-- H1 and H2 of a lane-side egress slot (R146, R194, R196): a slot passed through keeps the concatenation indication that its lane
brings, and otherwise the pointer of its own generator. -/
def laneWord (s : State) (p sl : Nat) : Word16 :=
  let g := laneSource s p sl
  let ndf := hasNdf s (laneKey (192 * p + sl)) 1
  match laneOut s p sl with
  | .ais => 0xFFFF
  | .forcedAis => 0xFFFF
  | .passed x =>
    let k := laneKey (192 * p + sl)
    if Config.lineConc x s.clk.fn.toNat then concWord else pointerWord ndf 0 (genOf s k).val (genOf s k).just
  | .unequipped => if rEgAct (remapAt s p sl) = 0 then hoPointer s g (ndf || slotNdf s g) else pointerWord ndf 0 0 0
  | _ => hoPointer s g (ndf || slotNdf s g)

/-- H3 of a lane-side egress slot: a negative justification carries a byte in it. -/
def laneH3 (s : State) (p sl : Nat) : Byte :=
  match laneOut s p sl with
  | .ais => 0xFF
  | .forcedAis => 0xFF
  | .from x =>
    if (genOf s (genKey s (laneSource s p sl))).just = 2 then Config.payload (sideKey s x) s.clk.fn.toNat 783 else 0
  | .passed x =>
    if (genOf s (laneKey (192 * p + sl))).just = 2 then Config.payload (objKey 8 x) s.clk.fn.toNat 783 else 0
  | _ => 0

-- What a frame keeps of what it sent.

/-- BIP-8 over the SPE of a rebuilt slot, or of its block, as sent in this frame (R159). -/
def speParity (s : State) (g : Nat) : Byte :=
  let n := if isAu4 s.page.live g then 3 else 1
  (List.range 9).foldl (fun a row => (List.range (87 * n)).foldl (fun a c => a ^^^ rebuiltByte s (g + c % n) row (c / n)) a) 0

/-- The parities of rebuilt slots and of carriers' tributaries run on over what this frame sends: BIP-8 of the SPE is sent in
the next frame, BIP-2 of a multiframe in the next one (R159, R160). -/
def parityFrame (s : State) : State :=
  let p := s.page.live
  let ho := p.ho.foldl (fun m x =>
    if entryOut s x.1 = .rebuilt ∧ headOf p x.1 = x.1 then tset 0 m (selKey .ho x.1) (speParity s x.1) else m) []
  let q := s.clk.fn.toNat % 4
  let lo := p.car.foldl (fun m x =>
    let i := cBind x.2
    let k := selKey .lo i
    let was := (tget 0 s.prot.parity k).toNat
    match loOut s i with
    | .carrier c =>
      let run := Nat.xor (if q = 0 then 0 else was / 4) (bip2 (vcQuarter s c i))
      tset 0 m k (BitVec.ofNat 8 (if q = 3 then run else 4 * run + was % 4))
    | _ => m) []
  { s with prot := { s.prot with parity := ho ++ lo } }

/-- A step of the checks of every carrier (R118). -/
def checkFrames (f : Nat → State → State) (s : State) : State :=
  s.page.live.car.foldl (fun s x => if carrierLive s.page.live x.1 then f x.1 s else s) s

/-- The overhead and pointers of the slots and tributaries that the module itself builds or repoints, as sent. -/
def egressSends (s : State) : State :=
  let p := s.page.live
  let s := p.ho.foldl (fun s x =>
    if headOf p x.1 ≠ x.1 then s
    else
      let s := if entryOut s x.1 = .rebuilt then send (.path x.1 (pathOverhead s x.1 0x02)) s else s
      send (.pointer (selKey .ho x.1) (hoPointer s x.1 (slotNdf s x.1))) s) s
  let s := p.lo.foldl (fun s x =>
    if !isGroom p (x.1 / 28) then s
    else send (.pointer (selKey .lo x.1) (tribPointer s x.1 (eType x.2) (loOut s x.1))) s) s
  p.car.foldl (fun s x =>
    let i := cBind x.2
    match loOut s i with
    | .carrier c => send (.carrier c (byteAt (vcQuarter s c i) 0) (if cT1 x.2 then
        BitVec.ofNat 8 (nat01 (t1Frame s c).1) :: (t1Frame s c).2 else e1Frame s c)) s
    | _ => s) s

/-- A frame of the egress side: generators, what is sent, and what is kept of it. Where nothing is sent, nothing runs. -/
def egressFrame (s : State) : State :=
  if outClass s = .squelched then s else checkFrames checkFrame (parityFrame (egressSends (checkFrames checkBegin (genFrame s))))

end Sys2Proof.Machine
end

