-- ==== Sys2Proof/Machine/LineOut.lean ====
section
/-! DEFINITION. The signals around the slots: SONET/SDH section and line overhead (R158), OTN overhead and lane distribution
(R132 to R134, R161), the VBL frame (R136 to R146), the superframe of a mate lane (R237 to R242) and the code groups of the
group bus (R272). -/
namespace Sys2Proof.Machine

-- Scramblers and parity.

/-- Byte i of the scrambler 1 + x^6 + x^7 of a SONET/SDH frame (GR-253): its period is 127 bits. -/
def sonetScrambler (i : Nat) : Byte :=
  let step := fun (w : BitVec 7) => (w <<< 1) ||| BitVec.ofNat 7 (nat01 (xor (bit w 6) (bit w 5)))
  let start := (List.range (8 * i % 127)).foldl (fun w _ => step w) (BitVec.allOnes 7)
  BitVec.ofNat 8 ((List.range 8).foldl (fun (x : Nat × BitVec 7) _ => (2 * x.1 + nat01 (bit x.2 6), step x.2)) (0, start)).1

-- SONET/SDH signals (R129, R158).

/-- The SONET/SDH signals that the module sends, by their class 0 object: a lane in such a mode, the OC-192 or OC-768 of an OTN
lane, and 256 + FP for the OC-192 of an ODU2. -/
def signals (s : State) : List Nat :=
  ((List.range 128).filter fun l =>
    sendsFrames s l && decide ((1 ≤ laneMode s.cfg l ∧ laneMode s.cfg l ≤ 4) ∨ (8 ≤ laneMode s.cfg l ∧ laneMode s.cfg l ≤ 0xD))) ++
  s.cfg.ports.filterMap fun x => match x.2 with
    | .lane l _ => if muxed (laneMode s.cfg l) && sendsFrames s l then some (256 + x.1) else none
    | _ => none

/-- The first fabric port of a signal. -/
def signalPort (s : State) (o : Nat) : Option Nat := if 256 ≤ o then some (o - 256) else (portsOfLane s.cfg o).head?

/-- The STS-1 at place t of the interleaved order of n (GR-253): those of an STS-3 lie n / 3 apart. -/
def stsAt (n t : Nat) : Nat := 3 * (t % (n / 3)) + t / (n / 3)

/-- RDI-L is sent on a signal: LOS, LOF, AIS-L, or TIM-S with AIS-on-TIM, of the same receive signal (R165).
R163 gives OOF the action of LOF, but R165's list has no OOF: none is sent for it until LOF is declared (DEDUCED, entry 164). -/
def sendsRdiL (s : State) (o : Nat) : Bool :=
  let w := defects s 0 o ||| defects s 1 o
  anyBit w [bLos, bLof, bAisL] || (bit w bTimS && aisOnTim s (laneOfObj s o))

/-- J0 in this frame, by the lane's format: the first byte of a 16-byte trace is its CRC-7 (R162, R328; log 127). The client of an
OTN lane has no trace of its own. -/
def j0Byte (s : State) (o : Nat) : Byte :=
  let c := laneCfg s.cfg o
  if 4 < laneMode s.cfg (laneOfObj s o) then Config.clientJ0 o
  else match fld c.j0 0 2 with
    | 0 => byteAt c.txTrace 0
    | 1 => traceNow s (framedTrace ((fit 16 c.txTrace).drop 1))
    | _ => traceNow s (fit 64 c.txTrace)

/-- K1 and K2 in this frame (R158): the protocol's, and 110 in K2 bits 6 to 8 while RDI-L is sent. -/
def kWord (s : State) (o : Nat) : Word16 :=
  let w := if o < 128 then (kbOf s o).sent else 0
  if sendsRdiL s o then (w &&& 0xFFF8) ||| 6 else w

/-- M0 and M1: errors of B2 in the previous frame (R158). -/
def remoteCount (s : State) (o : Nat) : Nat := min (remoteMax (stsCount s o)) (Config.rxErrors (objKey 1 o) (s.clk.fn - 1).toNat)

/-- J0, K1, K2, S1, M0 and M1 of a signal (R158). -/
def lineOverhead (s : State) (o : Nat) : Bytes :=
  let k := (kWord s o).toNat
  let m := remoteCount s o
  [j0Byte s o, BitVec.ofNat 8 (k / 256), BitVec.ofNat 8 k, (laneS1 s (laneOfObj s o)).setWidth 8, BitVec.ofNat 8 (m / 256), BitVec.ofNat 8 m]

/-- Parity of a signal kept from its last frame: 0 for B1, 1 + i for B2 of STS-1 i. -/
def sentParity (s : State) (o i : Nat) : Byte := tget 0 s.lane.parity (1024 * o + i)

/-- H1, H2 and H3 of STS-1 i of a signal: of no slot where no port is bound. -/
def stsPointer (s : State) (o i k : Nat) : Byte :=
  match signalPort s o with
  | none => if k = 0 then 0x60 else 0
  | some p =>
    let w := laneWord s (p + i / 192) (i % 192)
    match k with | 0 => BitVec.ofNat 8 (w.toNat / 256) | 1 => BitVec.ofNat 8 w.toNat | _ => laneH3 s (p + i / 192) (i % 192)

/-- A byte of transport overhead: row, column 0 to 2 and place t of STS-1 i among n (R158); bytes not listed are 0x00. -/
def tohByte (s : State) (o n row c t i : Nat) : Byte :=
  let first := fun (b : Byte) => if i = 0 then b else 0
  let oh := lineOverhead s o
  match row, c with
  | 0, 0 => 0xF6
  | 0, 1 => 0x28
  | 0, _ => first (byteAt oh 0)
  | 1, 0 => first (sentParity s o 0)
  | 3, k => stsPointer s o i k
  | 4, 0 => sentParity s o (1 + i)
  | 4, k => first (byteAt oh k)
  | 8, 0 => first (byteAt oh 3)
  | 8, 1 => if t = 2 then byteAt oh 5 else if t = 1 ∧ 192 ≤ n then byteAt oh 4 else 0
  | _, _ => 0

/-- A byte of the frame of a signal before scrambling: rows 0 to 8, columns 0 to 90 n − 1. -/
def sonetByte (s : State) (o row col : Nat) : Byte :=
  let n := stsCount s o
  let i := stsAt n (col % n)
  if col / n < 3 then tohByte s o n row (col / n) (col % n) i
  else match signalPort s o with
    | none => 0
    | some p => laneByte s (p + i / 192) (i % 192) row (col / n - 3)

/-- A byte as it leaves: all but the first row of overhead is scrambled. -/
def sonetLine (s : State) (o row col : Nat) : Byte :=
  let n := stsCount s o
  let b := sonetByte s o row col
  if row = 0 ∧ col < 3 * n then b else b ^^^ sonetScrambler (90 * n * row + col - 3 * n)

/-- A byte on the wire of lane l under its test (R32, R131), `b` being byte i of the n that the lane's own frame would send: a facility
loopback sends back what the lane brings, transmit PRBS-31 its pattern (its phase is the model's own, entry 152). A terminal loopback
and an eye scan leave the transmitter as it is. -/
def testedByte (s : State) (l n i : Nat) (b : Byte) : Byte :=
  match (laneCfg s.cfg l).test.toNat with
  | 1 => Config.lineByte l s.clk.fn.toNat i
  | 3 =>
    let at_ := 8 * (n * s.clk.fn.toNat + i)
    BitVec.ofNat 8 ((List.range 8).foldl (fun v j => 2 * v + nat01 (prbsBit 2 (at_ + j))) 0)
  | _ => b

/-- A byte of a SONET/SDH lane on its wire. -/
def sonetWire (s : State) (l row col : Nat) : Byte :=
  let n := stsCount s l
  testedByte s l (810 * n) (90 * n * row + col) (sonetLine s l row col)

/-- B1 of the next frame: BIP-8 over this frame as it leaves. -/
def nextB1 (s : State) (o : Nat) : Byte :=
  (List.range 9).foldl (fun a row => (List.range (90 * stsCount s o)).foldl (fun a c => a ^^^ sonetLine s o row c) a) 0

/-- B2 of STS-1 i of the next frame: BIP-8 over its line overhead and SPE in this one. -/
def nextB2 (s : State) (o i : Nat) : Byte :=
  let n := stsCount s o
  let t := i % 3 * (n / 3) + i / 3
  (List.range 9).foldl (fun a row => (List.range 90).foldl (fun a c =>
    if row < 3 ∧ c < 3 then a else a ^^^ sonetByte s o row (n * c + t)) a) 0

/-- The parities kept of the frame sent (R158). -/
def lineParity (s : State) : State :=
  { s with lane := { s.lane with parity := (signals s).flatMap fun o =>
    (1024 * o, nextB1 s o) :: (List.range (stsCount s o)).map fun i => (1024 * o + 1 + i, nextB2 s o i) } }

-- OTN (R132 to R134, R161).

/-- OTN interfaces that send. -/
def otnLanes (s : State) : List Nat :=
  (List.range 128).filter fun l => sendsFrames s l && decide (8 ≤ laneMode s.cfg l ∧ laneMode s.cfg l ≤ 0x10)

/-- ODUs of an interface: its own, and those of its tributary ports, 256 + FP. -/
def odusOf (s : State) (l : Nat) : List Nat :=
  l :: (if muxed (laneMode s.cfg l) then (portsOfLane s.cfg l).map (256 + ·) else [])

/-- BDI is sent in SM, and in every PM (R163, R165): LOS, LOF, LOFLANE, LOL, LOM, OTU-AIS, and TIM-SM where it acts as LOF. -/
def sendsBdi (s : State) (l : Nat) : Bool :=
  let w := defects s 5 l
  anyBit w [bLos, bLof, 9, 10, 11, 13] || (bit w 14 && aisOnTim s l)

/-- BDI is sent in the PM of an ODU (R163, R165): also for its own AIS, OCI, LCK and PLM, TIM-PM where it acts as ODU-AIS, and
LOOMFI of an ODU4. -/
def sendsBdiPm (s : State) (l o : Nat) : Bool :=
  let w := defects s 6 o
  sendsBdi s l || anyBit w [22, 23, 24, 25] || (bit w 15 && aisOnTim s l) || (decide (o = l) && bit (defects s 5 l) 12)

/-- BEI, BDI and a 3-bit field: IAE 0 of SM, STAT 001 of PM. A count above 8 cannot be shown. R161 gives STAT 111 while ODU-AIS is
generated, and no rule has the module generate it: every ODU that it sends carries a signal of its own (entry 139). -/
def bdiByte (errs : Nat) (bdi : Bool) (low : Nat) : Byte := BitVec.ofNat 8 (16 * min 8 errs + 8 * nat01 bdi + low)

/-- SM byte 3 of an interface in OTU frame n. -/
def smByte (s : State) (l n : Nat) : Byte := bdiByte (Config.rxErrors (objKey 5 l) n) (sendsBdi s l) 0

/-- PM byte 3 of an ODU. -/
def pmByte (s : State) (l o n : Nat) : Byte := bdiByte (Config.rxErrors (objKey 6 o) n) (sendsBdiPm s l o) 1

/-- PM TTI of an ODU (R328). -/
def pmTrace (s : State) (l o : Nat) : Bytes :=
  let c := laneCfg s.cfg l
  if o = l then c.pmTti else slice c.pmTribs (64 * (o - 256 - lanePort s.cfg l)) 64

/-- PSI byte k of an ODU: PT, then from byte 2 the multiplex structure identifier by the tributary-slot map (R132, R133). -/
def psiByte (s : State) (l o k : Nat) : Byte :=
  if k = 0 then wantedPt s o
  else if o = l ∧ muxed (laneMode s.cfg l) ∧ 2 ≤ k then byteAt (msiOf (laneMode s.cfg l) (laneCfg s.cfg l).slotMap) (k - 2)
  else 0

/-- What a frame shows of an interface: SM byte 3, then PM byte 3 and PT of each ODU, error counts left out. -/
def otnShown (s : State) (l : Nat) : Bytes :=
  bdiByte 0 (sendsBdi s l) 0 :: (odusOf s l).flatMap fun o => [bdiByte 0 (sendsBdiPm s l o) 1, wantedPt s o]

-- The VBL frame (R136 to R146).

/-- The message block of a lane in this frame (R143, R144): its messages, then zeros, which are the end header. -/
def vblBlock (s : State) (l : Nat) : Bytes :=
  fit 4096 (s.tx.flatMap fun m => match m with | .vblMsg l' b => if l' = l then b else [] | _ => [])

/-- A payload byte (R146): column 1 to 90 of a row of VBL slot v; transport overhead is 0 but for H1 to H3. A lane bound to no fabric
ports sends zeros (DESIGN CHOICE, entry 167). -/
def vblPayload (s : State) (l v row c : Nat) : Byte :=
  match (portsOfLane s.cfg l).head? with
  | none => 0
  | some p =>
    let p := p + v / 192
    let sl := v % 192
    if 4 ≤ c then laneByte s p sl row (c - 4)
    else if row ≠ 3 then 0
    else match c with
      | 1 => BitVec.ofNat 8 ((laneWord s p sl).toNat / 256)
      | 2 => BitVec.ofNat 8 (laneWord s p sl).toNat
      | _ => laneH3 s p sl

/-- Byte j below 36,320 of a row before scrambling (R137, R140, R143). -/
def vblData (s : State) (l row j : Nat) : Byte :=
  if 1760 ≤ j then vblPayload s l ((j - 1760) % 384) row ((j - 1760) / 384 + 1)
  else if row = 0 then
    if j < 16 then byteAt vblAlign j else if j < 108 then byteAt (vblHeader s l) (j - 16) else 0
  else if j < 512 then byteAt (vblBlock s l) (512 * (row - 1) + j)
  else 0

/-- Byte j of a row with its parity (R138). -/
def vblCoded (s : State) (l row j : Nat) : Byte :=
  if j < 36320 then vblData s l row j
  else byteAt (rsParity ((List.range 227).map fun k => vblData s l row (160 * k + (vblSymbol j).1))) ((vblSymbol j).2 - 227)

/-- Byte j of a row as it leaves (R139): the alignment word alone is not scrambled. -/
def vblLine (s : State) (l row j : Nat) : Byte :=
  let b := vblCoded s l row j
  if row = 0 ∧ j < 16 then b else b ^^^ scramblerByte (vblScramblerBit row j / 8)

/-- A byte of a VBL lane on its wire, rows of 38,880 bytes (R32, R137). -/
def vblWire (s : State) (l row j : Nat) : Byte := testedByte s l 349920 (38880 * row + j) (vblLine s l row j)

-- The mate link (R237 to R242).

/-- The packets of a superframe of a lane (R241, R242): CONTROL first on ML0, BULK on ML1. -/
def matePackets (s : State) (lane : Bool) : List Bytes :=
  let of := fun (f : Nat → Bool) => (s.twin.stream.filter fun x => f x.1).map (·.2)
  if lane then of (· == 4) else of (· == 1) ++ of fun c => c != 1 && c != 4

/-- Packets that fit in n bytes: none is cut. -/
def fitPackets : List Bytes → Nat → List Bytes
  | [], _ => []
  | m :: ms, room => if m.length ≤ room then m :: fitPackets ms (room - m.length) else []

/-- The byte stream of the data blocks of a lane (R238, R240, R241): header, packets, the packet that ends them, and
zeros. The ending packet has SEQ 0 (DESIGN CHOICE, log 154). -/
def mateStream (s : State) (lane : Bool) : Bytes :=
  fit 624992 (mateHeader s lane ++ (fitPackets (matePackets s lane) 624920).flatten ++ matePacket 0 0 [])

/-- The alignment word of a lane (R238). -/
def mateAlign (lane : Bool) : Bytes := toBE 8 ((alignBlock lane).setWidth 64).toNat

/-- Block b of a superframe, 0 to 78,124: header 10 with the alignment word, or 01 with 8 scrambled bytes (R238). -/
def mateBlock (s : State) (lane : Bool) (b : Nat) : BitVec 2 × Bytes :=
  if b = 0 then (2, mateAlign lane)
  else (1, (List.range 8).map fun i =>
    byteAt (mateStream s lane) (8 * (b - 1) + i) ^^^ scramblerByte (8 * (b - 1) + i))

/-- A superframe begins (R237): what did not fit in the last one comes first. -/
def nextStream (s : State) : List (Nat × Bytes) :=
  let sent := fitPackets (matePackets s false) 624920 ++ fitPackets (matePackets s true) 624920
  s.twin.stream.filter fun x => !sent.contains x.2

-- The Gatehouse ports (R245).

/-- Levels of a byte on the wire in halves of 20 ns, Manchester coded: a 1 high then low, a 0 low then high. -/
def manchester (b : Byte) : List Bool :=
  (List.range 8).flatMap fun i => if bit b (7 - i) then [true, false] else [false, true]

/-- A message on the wire after the 8 idle bytes that part it from the last. -/
def ghWire (m : Bytes) : List Bool := (List.replicate 8 0x55 ++ 0xD5 :: m).flatMap manchester

/-- The first message of n bytes that a hunting receiver takes: 0xD5 counts only after 4 idle bytes or more. -/
def ghHunt (n idle : Nat) : Bytes → Option Bytes
  | [] => none
  | b :: bs =>
    if b = 0xD5 ∧ 4 ≤ idle then (if n ≤ bs.length then some (bs.take n) else none)
    else ghHunt n (if b = 0x55 then idle + 1 else 0) bs

-- The group bus (R272).

/-- The code groups of a port in a frame: its packets in turn, /I2/ between them. -/
def groupRow (s : State) (west : Bool) : List (Special ⊕ Byte) :=
  (s.tx.flatMap fun m => match m with
    | .group _ p => idleSet ++ packetSet p
    | .groupFwd w p => if w = west then idleSet ++ packetSet p else []
    | _ => []) ++ idleSet

/-- What a port sends in a frame, as 10-bit groups, from the disparity its transmitter stands at. -/
def groupWire (s : State) (west : Bool) : List Nat × Bool :=
  encodeRow (groupRow s west) (if west then s.grp.westRd else s.grp.eastRd)

/-- The transmitters' disparity after a frame. -/
def groupTxFrame (s : State) : State :=
  if s.cfg.group.isNone then s
  else { s with grp := { s.grp with eastRd := (groupWire s false).2, westRd := (groupWire s true).2 } }

-- What a frame sends.

/-- The overhead of every SONET/SDH signal and OTN interface, as sent; their parities are kept. -/
def lineSends (s : State) : State :=
  let s := (signals s).foldl (fun s o => send (.line o (lineOverhead s o)) s) s
  lineParity ((otnLanes s).foldl (fun s l => send (.otn l (otnShown s l)) s) s)

end Sys2Proof.Machine
end

