-- ==== Sys2Proof/Machine/ModeCmds.lean ====
section
/-! DEFINITION. The module-state commands (R324 to R326): NOP, QUERY_STATE, SET_MODE (R30) and RESET. -/
namespace Sys2Proof.Machine

/-- Checks of NOP. -/
def nopChecks : Checks :=
  { lens := [0], fields := [], argsOk := true, modes := everyMode, retiredToo := true }

/-- NOP (R324). -/
def execNop (c : CmdEntry) (s : State) : Host.Outcome State Fault Refusal :=
  finish s (runCmd 0x01 true c nopChecks (fun tok s => completeOk tok [] s) s)

/-- Byte 66 of the state block (R325). -/
def stateTwin (s : State) : Nat :=
  match s.cfg.twin with
  | some t => 1 + 2 * nat01 t.unit + 4 * (t.slice % 4) + 16 * s.twin.lease.toNat
  | none => 0

/-- Byte 67 of the state block (R325). -/
def stateGroup (s : State) : Nat :=
  if s.cfg.group.isNone then 0
  else 1 + 2 * nat01 s.grp.bell.isSome + 4 * nat01 (decide (s.grp.bell = some (ownMember s))) + 8 * nat01 s.grp.fenced +
    16 * nat01 s.grp.behind

/-- The fields of the state block that the recovery firmware fills too (R325). -/
def stateBase (s : State) : List Field :=
  [(0, 1, modeCode s.mode.mode), (1, 1, syncCode s), (2, 1, pageCode s.page.state), (3, 1, s.tim.dpll.toNat),
   (4, 2, s.fuse.silicon.toNat), (8, 6, s.clk.fn.toNat), (80, 4, s.img.version.toNat), (84, 2, s.img.compat.toNat),
   (86, 1, s.img.state.toNat), (87, 1, s.bak.lifecycle.toNat), (88, 6, s.clk.todSec.toNat), (96, 4, s.clk.todNs.toNat)]

/-- The fields of the scheduled commit (R325). -/
def stateCommit (s : State) : List Field :=
  match s.page.job with
  | none => []
  | some j =>
    [(32, 8, s.page.stagedFp.toNat), (40, 6, j.target),
     (48, 1, (match j.flag with | .defer => 0 | .split => 1 | .fail => 2) + 16 * j.retries), (49, 1, j.part + 1),
     (50, 1, j.nParts), (52, 4, if inPair s then j.id.toNat else 0)]

/-- The fields of role and group (R325). -/
def stateRole (s : State) : List Field :=
  [(16, 8, s.page.live.epoch.toNat), (24, 8, s.page.liveFp.toNat),
   (56, 4, if s.cfg.twin.isSome then s.twin.epoch.toNat else 0),
   (60, 6, match s.twin.leaseEnd with | some e => e.toNat | none => 0), (66, 1, stateTwin s), (67, 1, stateGroup s),
   (68, 8, s.cfg.epoch.toNat), (76, 4, match s.cfg.group with | some g => g.gid.toNat | none => 0)]

/-- The state block of QUERY_STATE (R325): in SAFE only bytes 0 to 15 and 80 to 99. -/
def stateBlock (s : State) : Bytes :=
  packBytes 128 (if s.mode.mode = .safe then stateBase s else stateBase s ++ stateCommit s ++ stateRole s)

/-- RESULT of QUERY_STATE (R324). -/
def queryRes (s : State) : List Field :=
  [(0, 1, modeCode s.mode.mode), (1, 1, syncCode s), (2, 1, pageCode s.page.state), (3, 1, s.tim.dpll.toNat),
   (4, 4, s.page.live.epoch.toNat)]

/-- QUERY_STATE against R35. -/
def queryChecks (c : CmdEntry) : Checks :=
  { lens := [0, 24], fields := if c.len = 24 then [descField 8] else [],
    argsOk := !decide (c.len = 24) || descOk (descAt c 8) true,
    lengthOk := !decide (c.len = 24) || descLenOk (descAt c 8) (· == 128), modes := everyMode, retiredToo := true,
    buffer := decide (c.len = 24) }

/-- QUERY_STATE (R324, R325). -/
def execQueryState (c : CmdEntry) (s : State) : Host.Outcome State Fault Refusal :=
  finish s (runCmd 0x02 true c (queryChecks c)
    (fun tok s =>
      if c.len = 24 then
        withWrite tok (descAt c 8) (· == 128) (stateBlock s) (fun s => completeOk tok (queryRes s) s) s
      else completeOk tok (queryRes s) s) s)

/-- The transitions that SET_MODE makes (R30). -/
def modeReachable : Mode → Mode → Bool
  | .quiet, .solo => true
  | .quiet, .standby => true
  | .quiet, .service => true
  | .quiet, .safe => true
  | .solo, .service => true
  | .solo, .quiet => true
  | .standby, .quiet => true
  | .active, .standby => true
  | .service, .quiet => true
  | .service, .safe => true
  | _, _ => false

/-- A target that is never reached by SET_MODE, or no mode (R30). -/
def targetOk (code : Nat) : Bool := decide (code = 1 ∨ code = 2 ∨ code = 3 ∨ code = 5 ∨ code = 7)

/-- The condition of a transition (R30, R322). -/
def modeRefusal (s : State) (m : Mode) : Option Refused :=
  if s.mode.mode = .quiet ∧ m = .solo ∧ (s.cfg.twin.isSome ∨ s.cfg.group.isSome) then some (stWrongState, 1, 0)
  else if s.mode.mode = .quiet ∧ m = .standby ∧ s.cfg.twin.isNone then some (stWrongState, 2, 0)
  else none

/-- Target of SET_MODE. -/
def modeArg (c : CmdEntry) : Mode := (modeOf (argBits c 0 0 4)).getD .quiet

/-- SET_MODE against R35. -/
def modeChecks (s : State) (c : CmdEntry) : Checks :=
  let m := modeArg c
  { lens := [8], fields := [(0, 4)], argsOk := targetOk (argBits c 0 0 4),
    modes := [.quiet, .solo, .active, .standby, .service], modeOk := decide (s.mode.mode = m) || modeReachable s.mode.mode m,
    object := modeRefusal s m }

/-- SET_MODE (R30): the change is made at the next frame start, where the completion is written; the present mode as
target changes nothing. -/
def execSetMode (c : CmdEntry) (s : State) : Host.Outcome State Fault Refusal :=
  finish s (runCmd 0x03 true c (modeChecks s c)
    (fun tok s =>
      if modeArg c = s.mode.mode then
        completeOk tok [(0, 1, modeCode s.mode.mode), (2, 6, s.mode.since.toNat)] s
      else { s with mode := { s.mode with req := some (modeArg c, some tok) } }) s)

/-- The keys of a cold and of a warm reset (R316, R326). -/
def keyCold : Nat := 0x5AFEC01D
def keyWarm : Nat := 0x5AFE3A53

/-- Checks of RESET: KEY is one of the two of R326. -/
def resetChecks (c : CmdEntry) : Checks :=
  { lens := [4], fields := [(0, 32)], argsOk := decide (arg c 0 4 = keyCold ∨ arg c 0 4 = keyWarm), modes := everyMode,
    retiredToo := true }

/-- RESET (R326): the reset is asserted; no completion is written. -/
def execReset (c : CmdEntry) (s : State) : Host.Outcome State Fault Refusal :=
  finish s (runCmd 0xF0 true c (resetChecks c)
    (fun _ s => if arg c 0 4 = keyCold then assertCold 6 s else assertWarm 7 s) s)

end Sys2Proof.Machine
end

