-- ==== Sys2Proof/Machine/ReportRows.lean ====
section
/-! DEFINITION. Belvedere's reports: DEFECT and PROT events (R170, R188), the counter window (R398 to R403), the check of the
live fingerprint (R385) and the PRBS units (R396). -/
namespace Sys2Proof.Machine

/-- The DEFECT events of a period, or one DEFECT_OVERFLOW (R170). -/
def reportDefects (s : State) : State :=
  let ks := s.dft.dirty
  let s := { s with dft := { s.dft with dirty := [] } }
  if 4096 < ks.length then raise gOvh 5 (post 0x11 [(0, 4, ks.length)] s)
  else ks.foldl (fun s k => post 0x10 [(0, 4, k), (4, 8, (tget 0 s.dft.set k).toNat)] s) s

/-- Of the switches of a period, the last of each selector. -/
def lastSwitches (all : List (Nat × Leg × Nat × FN)) : List (Nat × Leg × Nat × FN) :=
  (all.map (·.1)).eraseDups.filterMap fun k => (all.filter fun x => x.1 == k).getLast?

/-- The event of a switch (R188): tier, egress index, leg delivered, the request that caused it, and its FN. -/
def switchEvent (s : State) (x : Nat × Leg × Nat × FN) : State :=
  postAt 0x20 x.2.2.2 (pack 160
    [(0, 1, 1), (1, 1, x.1 / 0x1000000), (2, 1, legCode x.2.1), (3, 1, x.2.2.1), (4, 4, x.1 % 0x1000000)]) s

/-- The switches of a period, one event for each selector, or one PROT_OVERFLOW (R188). -/
def reportSwitches (s : State) : State :=
  let all := s.prot.switched
  let last := lastSwitches all
  let s := { s with prot := { s.prot with switched := [] } }
  if 4096 < last.length then raise gProt 1 (post 0x21 [(0, 4, all.length)] s) else last.foldl switchEvent s

/-- DEFECT_EVENT_PERIOD (R170, R188): the end of 80 frames, which begin at FN mod 80 = 0. The events of a period that ends
before mode entry are lost (R300). -/
def execDefectEventPeriod (s : State) : Host.Outcome State Fault Refusal :=
  finish s (if s.clk.fn.toNat % 80 = 0 then reportSwitches (reportDefects s) else s)

-- The counter window.

/-- Counters that the model's rows count one by one (R400): the others count work below the model's grain. -/
def rowCounted (b c : Nat) : Bool :=
  if b < 32 then false
  else if b < 64 then decide (1 ≤ c)
  else if b < 80 then true
  else if b < 96 then decide (c ≤ 2)
  else if b < 104 then true
  else if b < 108 then decide (c = 3)
  else match b with
    | 108 => true
    | 109 => true
    | 110 => false
    | 111 => decide (c = 3)
    | 112 => true
    | 113 => true
    | 114 => true
    | 115 => true
    | 116 => true
    | _ => false

/-- The power domain of a counter block is off (R400). -/
def blockOff (s : State) (b : Nat) : Bool :=
  if b < 104 then decide (tget .off s.pwr.dom b = .off)
  else if b < 108 then decide (tget .off s.pwr.dom (b + 4) = .off)
  else false

/-- Free increments of the counters below the grain, of one block (R400). -/
def gatherBlock (s : State) (b : Nat) : State :=
  if blockOff s b then
    { s with bel := { s.bel with ctr := (List.range 4).foldl (fun m c => terase m (4 * b + c)) s.bel.ctr } }
  else (List.range 4).foldl (fun s c => if rowCounted b c then s else bump b c (Config.counted (4 * b + c) s.draws) s) s

/-- One 48-bit count with its OVF, n higher (R402). -/
def addCount (w : Word64) (n : Nat) : Word64 :=
  let v := fld w 0 48 + n
  BitVec.ofNat 64 (v % 2 ^ 48 + (if bit w 63 ∨ 2 ^ 48 ≤ v then 2 ^ 63 else 0))

/-- A programmable counter counts: enabled, of a class that counts (R401). -/
def pmcRuns (ctrl : Word32) : Bool := bit ctrl 0 && decide (fld ctrl 1 4 ≤ 9) && decide (fld ctrl 5 2 ≠ 3)

/-- Counters of core n, CYCLES first (R398, R401): the increments are free. -/
def gatherCore (s : State) (n : Nat) : State :=
  let on := decide (n = 0) || domOn s (104 + n)
  let m := if on then tset 0 s.bel.core (9 * n) (tget 0 s.bel.core (9 * n) + BitVec.ofNat 64 (Config.counted (1000 + 9 * n) s.draws))
    else (List.range 9).foldl (fun m k => terase m (9 * n + k)) s.bel.core
  let m := if on then (List.range 8).foldl (fun m k =>
      if pmcRuns (tget 0xFF00 s.bel.pmcCtrl (8 * n + k)) then
        let i := 9 * n + 1 + k
        tset 0 m i (addCount (tget 0 m i) (Config.counted (1000 + i) s.draws))
      else m) m else m
  { s with bel := { s.bel with core := m } }

/-- Clear every OVF bit (R402, R403). -/
def clearOvf (s : State) : State :=
  let f := fun (x : Nat × Word64) => (x.1, x.2 &&& ones 64 0 63)
  let g := fun (x : Nat × Word64) => if x.1 % 9 = 0 then x else f x
  { s with bel := { s.bel with
    ctr := (s.bel.ctr.map f).filter fun x => x.2 != 0, core := (s.bel.core.map g).filter fun x => x.2 != 0,
    window := s.bel.window.map fun x => if 1000 ≤ x.1 ∧ (x.1 - 1000) % 9 = 0 then x else f x, ovfClear := false } }

/-- Gather every counter (R399): GEN rises past an odd value to the next even one; COUNTER_OVF at the gather that first shows
a new OVF (R402). -/
def gather (s : State) : State :=
  let s := if s.bel.ovfClear then clearOvf s else s
  let s := (List.range 117).foldl gatherBlock (bump 116 0 1 s)
  let s := (List.range 4).foldl gatherCore { s with draws := s.draws + 1 }
  let w := s.bel.ctr ++ s.bel.core.map fun x => (1000 + x.1, x.2)
  let fresh := w.any fun x => bit x.2 63 && !bit (tget 0 s.bel.window x.1) 63 && !(decide (1000 ≤ x.1) && decide ((x.1 - 1000) % 9 = 0))
  let s := { s with bel := { s.bel with window := w, gen := s.bel.gen + 2, gatherFn := s.clk.fn } }
  if fresh then obsNote 3 0xFF 0 s else s

/-- COUNTER_GATHER (R399): at FN mod 8 = 0; not from the start of a warm reset or of a restart into SAFE until mode entry (R403), and
in SAFE no frame starts (R33). -/
def execCounterGather (s : State) : Host.Outcome State Fault Refusal :=
  finish s (if entered s ∧ framesRun s ∧ s.clk.fn.toNat % 8 = 0 then gather s else s)

/-- FP_BACKGROUND_CHECK (R385): `found` is the fingerprint recomputed; a difference is an uncorrectable error of the live
page, which is rewritten from the journalled page (R382). -/
def execFpBackgroundCheck (found : Word64) (s : State) : Host.Outcome State Fault Refusal :=
  finish s (if entered s ∧ s.mode.carried ∧ found ≠ s.page.liveFp then raise gCmem 3 (bump 116 2 1 s) else s)

/-- Received bits fit a pattern for 64 bits after those that seed it (R396). -/
def prbsFits (c : PrbsCfg) (bits : List Bool) : Bool :=
  let (n, t) := prbsShape c.pattern
  let b := fun (i : Nat) => bits.getD i false != c.inv
  decide (bits.length = n + 64) && (List.range 64).all fun i => b (n + i) == (b i != b (n + i - t))

/-- What R396 asks before an analyser changes: 64 bits in a row that fit the pattern, after the bits that seed it, or a window of
1,024 bits (a bit that is set stands for an error) with 256 errors or more. -/
def prbsEvidence (c : PrbsCfg) (gain : Bool) (ev : List Bool) : Bool :=
  if gain then prbsFits c ev else decide (ev.length = 1024) && decide (256 ≤ ev.countP id)

/-- A PRBS analyser gains or loses sync (R396): during a reset its event waits for mode entry. -/
def prbsSync (u : Nat) (gain : Bool) (ev : List Bool) (s : State) : State :=
  let x := tget {} s.bel.prbs u
  match x.cfg with
  | none => s
  | some c =>
    if !c.ana || x.inSync == gain || !prbsEvidence c gain ev then s
    else
      let s := { s with bel := { s.bel with prbs := tset {} s.bel.prbs u { x with inSync := gain } } }
      if entered s then obsNote 4 u 0 s
      else raise gObs 4 { s with rst := { s.rst with latePrbs := s.rst.latePrbs ++ [u] } }

/-- PRBS_SYNC_CHANGE. -/
def execPrbsSyncChange (u : Nat) (x : PrbsShown) (s : State) : Host.Outcome State Fault Refusal :=
  finish s (prbsSync u x.gain x.bits s)

/-- An analyser in sync. -/
def prbsCounts (x : PrbsSt) : Bool := ((x.cfg.map fun c => c.ana).getD false) && x.inSync

/-- Errored bits of the analysers in sync, a frame's worth (R396, R400): free; the units' counts saturate. -/
def prbsFrame (s : State) : State :=
  let errs := fun (u : Nat) => Config.counted (2000 + u) s.draws
  let counted := fun (x : Nat × PrbsSt) => if prbsCounts x.2 then errs x.1 else 0
  let add := fun (x : Nat × PrbsSt) => (x.1, { x.2 with errors := BitVec.ofNat 32 (min 0xFFFFFFFF (x.2.errors.toNat + counted x)) })
  let s1 := { s with
    bel := { s.bel with prbs := s.bel.prbs.map add }
    draws := s.draws + (if s.bel.prbs.isEmpty then 0 else 1) }
  bump 116 3 ((s.bel.prbs.map counted).foldl (· + ·) 0) s1

end Sys2Proof.Machine
end

