-- ==== Sys2Proof/Machine/MonCmds.lean ====
section
/-! DEFINITION. The monitoring and observation commands: PM_CONFIG, PM_READ, TAP_CONFIG, PRBS_CONFIG and AUDIT_READ (R162,
R177, R336, R389 to R397). -/
namespace Sys2Proof.Machine

-- PM_CONFIG.

/-- PM_CONFIG EXPORT against R35. -/
def exportChecks (c : CmdEntry) : Checks :=
  { lens := [8], fields := [(0, 16), (16, 3)], argsOk := decide (arg c 1 1 ≤ 7), modes := serveModes, pfwWaits := true }

/-- PM_CONFIG EXPORT (R177): the selection of a class. -/
def execPmConfigExport (c : CmdEntry) (s : State) : Host.Outcome State Fault Refusal :=
  finish s (runCmd 0x50 (arg c 0 1 == 0) c (exportChecks c)
    (fun tok s => completeOk tok [] (configRecord { s with
      cfg := { s.cfg with pmExport := tset 0 s.cfg.pmExport (arg c 1 1) (BitVec.ofNat 8 (argBits c 2 0 3)) } })) s)

/-- LENGTH of a PM buffer: a multiple of 64 from 4,096 to 4,194,304 (R336). -/
def pmBufLen (n : Nat) : Bool := decide (n % 64 = 0 ∧ 4096 ≤ n ∧ n ≤ 4194304)

/-- PM_CONFIG POST_BUFFER against R35. -/
def postChecks (c : CmdEntry) : Checks :=
  { lens := [24], fields := [(0, 8), descField 8], argsOk := descOk (descAt c 8) true,
    lengthOk := descLenOk (descAt c 8) pmBufLen, modes := serveModes, buffer := true }

/-- PM_CONFIG POST_BUFFER (R177, R336): at most 64 buffers. -/
def execPmConfigPostBuffer (c : CmdEntry) (s : State) : Host.Outcome State Fault Refusal :=
  let d := descAt c 8
  finish s (runCmd 0x50 (arg c 0 1 == 1) c (postChecks c)
    (fun tok s =>
      if 64 ≤ s.pm.bufs.length then refuse tok stNoResource [] s
      else match segments s d true pmBufLen with
        | .error e => bufferEnd tok e [] s
        | .ok segs =>
          let b : PmBuf := {
            segs := segs, addr := descAddr d, len := segs.foldl (fun n g => n + g.2) 0, written := 0, firstFn := 0 }
          completeOk tok [(0, 1, s.pm.bufs.length + 1)] { s with pm := { s.pm with bufs := s.pm.bufs ++ [b] } }) s)

/-- Object numbers of a class, as spans from the first to below the second (R176, R336). -/
def classSpans (cls : Nat) : List (Nat × Nat) :=
  match cls with
  | 0 => [(0, 128), (256, 512)] | 1 => [(0, 128), (256, 512)] | 2 => [(0, 49152)] | 3 => [(0, 1376256)]
  | 4 => [(0, 8192)] | 5 => [(0, 128)] | 6 => [(0, 128), (256, 512)] | 7 => [(0, 128)] | _ => []

/-- A run of objects lies within one span. -/
def inSpan (spans : List (Nat × Nat)) (first n : Nat) : Bool :=
  spans.any fun r => decide (r.1 ≤ first ∧ first + n ≤ r.2)

/-- PM_CONFIG EXPECTED_TRACE against R35. -/
def traceArgs (c : CmdEntry) : Bool :=
  let cls := arg c 1 1
  (decide (cls = 2) || decide (cls = 3) || decide (cls = 6)) && decide (argBits c 2 2 2 ≤ 2) &&
    inSpan (classSpans cls) (arg c 4 4) 1 && descOk (descAt c 8) false

/-- Checks of PM_CONFIG EXPECTED_TRACE: the buffer is 64 bytes. -/
def expectChecks (c : CmdEntry) : Checks :=
  { lens := [24], fields := [(0, 16), (16, 4), (32, 32), descField 8], argsOk := traceArgs c,
    lengthOk := descLenOk (descAt c 8) (· == 64), modes := serveModes, pfwWaits := true, buffer := true }

/-- PM_CONFIG EXPECTED_TRACE (R162): format 0 turns the comparison off. -/
def execPmConfigExpectedTrace (c : CmdEntry) (s : State) : Host.Outcome State Fault Refusal :=
  let d := descAt c 8
  finish s (runCmd 0x50 (arg c 0 1 == 2) c (expectChecks c)
    (fun tok s => withRead tok d (· == 64) noFields (fun b s =>
      let k := objKey (arg c 1 1) (arg c 4 4)
      let v : Byte := BitVec.ofNat 8 (argBits c 2 0 4)
      completeOk tok [] (configRecord (evalTim (arg c 1 1) (arg c 4 4) { s with cfg := { s.cfg with
        expTrace := if argBits c 2 0 2 = 0 then terase s.cfg.expTrace k else tinsert s.cfg.expTrace k (v, b) } }))) s) s)

/-- PM_CONFIG WITHDRAW against R35. -/
def withdrawChecks (c : CmdEntry) : Checks :=
  { lens := [8], fields := [(0, 8)], argsOk := decide (c.len.toNat = 8), modes := serveModes }

/-- PM_CONFIG WITHDRAW (R336): every posted buffer is announced and returned, an untouched one with 0 records. -/
def execPmConfigWithdraw (c : CmdEntry) (s : State) : Host.Outcome State Fault Refusal :=
  finish s (runCmd 0x50 (arg c 0 1 == 3) c (withdrawChecks c)
    (fun tok s =>
      let bufs := s.pm.bufs
      completeOk tok [(0, 1, bufs.length)]
        (bufs.foldl (fun s b => announceBuf b s) { s with pm := { s.pm with bufs := [] } })) s)

-- PM_READ.

/-- The selector record of PM_READ (R336); with two hold-offs running the longer remainder is shown. -/
def selectorRecord (s : State) (t : Tier) (i : Nat) : Bytes :=
  let p := s.page.live
  let h := if t = .ho then headOf p i else i
  let e := entryAt p t h
  let id : Field := (0, 4, i + 0x40000000 * tierCode t)
  if !hasSelector p t h e then
    packBytes 16 [id, (4, 1, if eValid e then (if eSel e = 1 then 1 else 0) else 0xFF), (5, 1, 9), (6, 1, 0xFF)]
  else
    let x := tget {} s.prot.sel (selKey t h)
    let r := profileOf s (eSncp e)
    let ho := fun f => remaining s f (800 * pHoldOff r) 8
    packBytes 16 [id, (4, 1, legCode x.leg), (5, 1, x.req),
      (6, 1, match extHeld s (selKey t h) with | some q => q.req.toNat | none => 0xFF),
      (7, 1, condCode x.condA + 4 * condCode x.condB), (8, 4, max (ho x.hoA) (ho x.hoB)),
      (12, 4, remaining s x.wtr (480000 * pWtr r) 8000)]

/-- The trace record of PM_READ (R162, R336). -/
def traceRecord (s : State) (cls obj : Nat) : Bytes :=
  packBytes 16 [(0, 4, obj + 0x1000000 * cls), (4, 1, nat01 (bit (defects s cls obj) 54))] ++
    fit 64 (tget [] s.dft.traces (objKey cls obj))

/-- One record of PM_READ (R336). -/
def pmReadItem (s : State) (what cls obj : Nat) : Bytes :=
  let o := pmObj s (objKey cls obj)
  match what with
  | 0 => pmRecord 1 cls obj o.cur15
  | 1 => pmRecord 1 cls obj o.prev15
  | 2 => pmRecord 2 cls obj o.curDay
  | 3 => pmRecord 2 cls obj o.prevDay
  | 4 => packBytes 16 [(0, 4, obj + 0x1000000 * cls), (8, 8, (defects s cls obj).toNat)]
  | 5 => selectorRecord s ((tierOf cls).getD .ho) obj
  | _ => traceRecord s cls obj

/-- Bytes of one record of PM_READ (R336). -/
def pmReadSize (what : Nat) : Nat := if what ≤ 3 then 64 else if what ≤ 5 then 16 else 80

/-- PM_READ against R35. -/
def pmReadChecks (c : CmdEntry) : Checks :=
  let what := arg c 0 1
  let cls := arg c 1 1
  let n := arg c 8 4
  let spans := if what = 5 then (match tierOf cls with | some t => [(0, tierSize t)] | none => []) else classSpans cls
  { lens := [32], fields := [(0, 16), (32, 64), descField 16],
    argsOk := decide (what ≤ 6) && decide (1 ≤ n) && inSpan spans (arg c 4 4) n && descOk (descAt c 16) true,
    lengthOk := descLenOk (descAt c 16) (· == n * pmReadSize what), modes := readModes, buffer := true }

/-- PM_READ (R336). -/
def execPmRead (c : CmdEntry) (s : State) : Host.Outcome State Fault Refusal :=
  finish s (runCmd 0x51 true c (pmReadChecks c) (fun tok s =>
    let what := arg c 0 1
    let bs := (List.range (arg c 8 4)).flatMap fun i => pmReadItem s what (arg c 1 1) (arg c 4 4 + i)
    withWrite tok (descAt c 16) (· == arg c 8 4 * pmReadSize what) bs
      (fun s => completeOk tok [(0, 6, s.clk.fn.toNat)] s) s) s)

-- TAP_CONFIG.

/-- Monitor slots of a tapped path (R391). -/
def tapSlots (p : Page) (t : Tier) (i : Nat) : Nat :=
  match t with
  | .ho => blockSize (eType (entryAt p .ho i))
  | .lo => if eType (entryAt p .lo i) = 3 then 3 else 1
  | .ds0 => 1

/-- The tap that TAP_CONFIG carries. -/
def tapOf (c : CmdEntry) (p : Page) : TapCfg :=
  let t := (tierOf (argBits c 1 2 2)).getD .ho
  let i := arg c 4 4
  { output := argBit c 1 1, tier := t, idx := i, fp := arg c 8 1, first := arg c 9 1, slots := tapSlots p t i }

/-- R391 and R392 on present configuration. -/
def tapBad (s : State) (u : Nat) (x : TapCfg) : Bool :=
  let p := s.page.live
  (match x.tier with
    | .ho => decide (headOf p x.idx ≠ x.idx)
    | .lo => !kValid (eType (entryAt p .lo x.idx)) (x.idx % 28)
    | .ds0 => ds0Bad p x.idx) ||
    decide (192 < x.first + x.slots) || decide (x.first % x.slots ≠ 0) ||
    s.bel.taps.any fun y => decide (y.1 ≠ u) && (match y.2 with
      | some z => decide (z.fp = x.fp ∧ z.first < x.first + x.slots ∧ x.first < z.first + z.slots)
      | none => false)

/-- TAP_CONFIG against R35. -/
def tapChecks (s : State) (c : CmdEntry) : Checks :=
  { lens := [16], fields := [(0, 8), (8, 4), (32, 32), (64, 16)],
    argsOk := decide (arg c 0 1 ≤ 15) && decide (arg c 9 1 ≤ 191) &&
      (match tierOf (argBits c 1 2 2) with | some t => decide (arg c 4 4 < tierSize t) | none => false),
    modes := serveModes, object := busyRefusal s [(1, arg c 8 1)] }

/-- A tap's copy begins in the next frame, with one NDF in it or in the next multiframe (R392). -/
def newTap (u : Nat) (x : TapCfg) (s : State) : State :=
  let f := s.clk.fn + 1
  let f := if x.tier = .ho ∨ x.slots = 3 then f else BitVec.ofNat 48 ((f.toNat + 3) / 4 * 4)
  bump (64 + x.fp / 16) 3 1 { s with prot := { s.prot with moved := tinsert s.prot.moved (tapKey u) f } }

/-- TAP_CONFIG (R336, R391, R392): its FP must be a MONITOR port even where it turns the tap off; a tap turned off needs no slots
(DEDUCED, entry 163). -/
def execTapConfig (c : CmdEntry) (s : State) : Host.Outcome State Fault Refusal :=
  finish s (runCmd 0x60 true c (tapChecks s c) (fun tok s =>
    let u := arg c 0 1
    let x := tapOf c s.page.live
    if !isMonitor s.cfg x.fp then refuse tok stBadArgument [] s
    else if !argBit c 1 0 then completeOk tok [] { s with bel := { s.bel with taps := terase s.bel.taps u } }
    else if tapBad s u x then refuse tok stBadArgument [] s
    else completeOk tok [] (newTap u x { s with bel := { s.bel with taps := tinsert s.bel.taps u (some x) } })) s)

-- PRBS_CONFIG.

/-- The setting that PRBS_CONFIG carries; none for off (R336, R395). -/
def prbsOf (c : CmdEntry) : Option PrbsCfg :=
  let m := argBits c 1 0 2
  if m = 0 then none
  else some { gen := decide (m = 1 ∨ m = 3), ana := decide (2 ≤ m), pattern := argBits c 1 2 2, inv := argBit c 1 4,
              tier := (tierOf (argBits c 1 5 2)).getD .ho, idx := arg c 4 4 }

/-- R397 on present configuration. -/
def prbsBad (s : State) (u : Nat) (x : PrbsCfg) : Bool :=
  let p := s.page.live
  (match x.tier with
    | .ho => decide (headOf p x.idx ≠ x.idx)
    | .lo => !kValid (eType (entryAt p .lo x.idx)) (x.idx % 28)
    | .ds0 => ds0Bad p x.idx) ||
    (x.gen && s.bel.prbs.any fun y => decide (y.1 ≠ u) && (match y.2.cfg with
      | some z => z.gen && decide (z.tier = x.tier ∧ z.idx = x.idx)
      | none => false))

/-- RESULT of PRBS_CONFIG (R336): the unit as it stands before the new setting. -/
def prbsRes (s : State) (u : Nat) : Word64 :=
  let x := tget {} s.bel.prbs u
  res [(0, 1, nat01 x.inSync), (4, 4, x.errors.toNat)]

/-- PRBS_CONFIG against R35. -/
def prbsChecks (s : State) (c : CmdEntry) : Checks :=
  { lens := [16], fields := [(0, 8), (8, 7), (32, 32), (64, 1)],
    argsOk := decide (arg c 0 1 ≤ 15) && decide (argBits c 1 2 2 ≤ 2) &&
      (match tierOf (argBits c 1 5 2) with | some t => decide (arg c 4 4 < tierSize t) | none => false),
    modes := configModes, object := busyRefusal s [(6, arg c 0 1)], waits := decide (s.mode.mode = .active) }

/-- Send a mirrored PRBS setting to the mate (R395). -/
def mirrorPrbs (s : State) : State :=
  if s.mode.mode = .active ∧ s.twin.linkUp then
    let (m, s) := internalMsg s
    sendMate 0x01 (0x04 :: m) s
  else s

/-- PRBS_CONFIG (R395, R397): at the earliest boundary of R80 in ACTIVE, otherwise at once. -/
def execPrbsConfig (c : CmdEntry) (s : State) : Host.Outcome State Fault Refusal :=
  finish s (runCmd 0x61 true c (prbsChecks s c) (fun tok s =>
    let u := arg c 0 1
    let e : Effect := .prbs u (prbsOf c) (argBit c 8 0)
    if (match prbsOf c with | some x => prbsBad s u x | none => false) then refuse tok stBadArgument [] s
    else if s.mode.mode = .active then mirrorPrbs (schedule (fnOf (earliestBn s)) (some tok) true e 0 s)
    else complete tok stOk 0 (prbsRes s u) (applyEffect true e s)) s)

-- AUDIT_READ.

/-- An audit record (R388). -/
def auditRecord (a : Audit) : Bytes :=
  packBytes 32 [(0, 4, a.seq), (4, 1, a.kind), (5, 1, a.origin + 16 * (a.slice % 4) + 64 * nat01 a.unit), (6, 1, a.part),
    (7, 1, a.parts), (8, 6, a.fn.toNat), (14, 1, a.opcode.toNat), (16, 8, a.epoch.toNat), (24, 8, a.data.toNat)]

/-- Oldest and newest sequence numbers held. -/
def auditOldest (s : State) : Nat := match s.bel.audit.getLast? with | some a => a.seq | none => 0
def auditNewest (s : State) : Nat := match s.bel.audit.head? with | some a => a.seq | none => 0

/-- The records from `first` on; a sequence number that is not held reads as zero. -/
def auditBytes (s : State) (first n : Nat) : Bytes :=
  (List.range n).flatMap fun i =>
    match s.bel.audit.find? fun a => a.seq == first + i with | some a => auditRecord a | none => zeros 32

/-- The highest sequence number returned moves up; the newest one returned lets AUDIT_HIGH be raised again (R390). -/
def auditSeen (first n : Nat) (s : State) : State :=
  let top := min (first + n) (auditNewest s + 1)
  let hi := max s.bel.auditRead top
  { s with bel := { s.bel with
    auditRead := hi, auditHigh := s.bel.auditHigh && decide (hi < auditNewest s + 1) } }

/-- AUDIT_READ against R35. -/
def auditChecks (c : CmdEntry) : Checks :=
  let n := arg c 4 2
  { lens := [24], fields := [(0, 48), descField 8],
    argsOk := decide (1 ≤ n ∧ n ≤ 4096) && descOk (descAt c 8) true,
    lengthOk := descLenOk (descAt c 8) (· == 32 * n), modes := everyMode, buffer := true }

/-- AUDIT_READ (R336, R389). -/
def execAuditRead (c : CmdEntry) (s : State) : Host.Outcome State Fault Refusal :=
  finish s (runCmd 0x62 true c (auditChecks c) (fun tok s =>
    let first := arg c 0 4
    let n := arg c 4 2
    let r : List Field := [(0, 4, auditOldest s), (4, 4, auditNewest s)]
    if s.bel.audit.isEmpty ∨ first < auditOldest s ∨ auditNewest s < first then refuse tok stBadArgument r s
    else withWrite tok (descAt c 8) (· == 32 * n) (auditBytes s first n)
      (fun s => completeOk tok r (auditSeen first n s)) s) s)

end Sys2Proof.Machine
end

