-- ==== Sys2Proof/Machine/Rings.lean ====
section
/-! DEFINITION. The rings: fetching (R298), completions (R299), events (R300, R301), doorbells (R295, R303, R313), slow hosts
(R307) and waiting commands (R319). -/
namespace Sys2Proof.Machine

/-- Complete the entries at the head of the ring that no row takes (R35). -/
def drainHead (s : State) : State := if mayBegin s then drainBad s s.host.fetched else s

/-- The command entry at a position of the ring, as the host's memory holds it (R296). -/
def entryBytes (s : State) (p : Nat) : Bytes :=
  memBytes s.host.mem (s.host.cmd.base.toNat + 64 * (p % ringSize s.host.cmd)) 64

/-- The command of an entry (R296). -/
def entryOf (b : Bytes) : CmdEntry :=
  { flags := byteAt b 1, len := BitVec.ofNat 16 (le b 2 2), tag := BitVec.ofNat 32 (le b 4 4),
    args := BitVec.ofNat 448 (le b 8 56) }

/-- The completion ring gives room for one more command (R298). -/
def cplRoom (s : State) : Bool :=
  let r := s.host.cpl
  r.en && decide ((ringDist r r.pos.toNat r.host.toNat + s.host.held) % (2 * ringSize r) < ringSize r)

/-- Fetching goes on (R291, R298, R305). -/
def mayFetch (s : State) : Bool :=
  entered s && s.host.lock && s.host.cmd.en && !s.host.cmd.halted && linkUsable s &&
    decide (s.host.cmd.pos ≠ s.host.cmd.host)

/-- One turn of the loop of R298, after the head of what is fetched: an entry that no row takes and that was held back ends (R319). -/
def fetch (s0 : State) : State :=
  let s := drainHead s0
  if !mayFetch s then s
  else if !cplRoom s then raise gCpl 1 s
  else
    let p := s.host.cmd.pos.toNat
    let b := entryBytes s p
    if bit (byteAt b 1) 0 ≠ phaseAt s.host.cmd p then { s with host := { s.host with phaseWait := some p } }
    else drainHead { s with host := { s.host with
      fetched := s.host.fetched ++ [{ opcode := byteAt b 0, entry := entryOf b, pos := p }], held := s.host.held + 1,
      phaseWait := none, cmd := { s.host.cmd with pos := ringNext s.host.cmd } } }

/-- COMMAND_FETCH (R298). -/
def execCommandFetch (s : State) : Host.Outcome State Fault Refusal := finish s (fetch s)

/-- The entry still shows the wrong PHASE after 100 µs (R298). -/
def phaseTimeout (s : State) : State :=
  match s.host.phaseWait with
  | none => s
  | some p =>
    if !mayFetch s ∨ bit (byteAt (entryBytes s p) 1) 0 = phaseAt s.host.cmd p then s
    else raise gRingErr 1 (raise gRingErr 0 { s with host := { s.host with
      phaseWait := none, cmd := { s.host.cmd with halted := true } } })

/-- CMD_PHASE_TIMEOUT (R298). -/
def execCmdPhaseTimeout (s : State) : Host.Outcome State Fault Refusal := finish s (phaseTimeout s)

/-- A scheduled effect is put in force (R190, R193, R323, R395): one that a swap cleared has none, and PRBS_CONFIG answers with
the unit as it stood. -/
def putInForce (x : Sched) (s : State) : Sched × State :=
  match x.effect with
  | .ext _ 0xFF _ => ({ x with applied := true }, s)
  | .prbs u _ _ => ({ x with applied := true, result := prbsRes s u }, applyEffect x.own x.effect s)
  | _ => ({ x with applied := true }, applyEffect x.own x.effect s)

/-- An effect changes remap versions, which stay as they are during a warm reset (R204). -/
def movesVersions : Effect → Bool
  | .linear _ _ => true
  | .ring _ _ => true
  | .remap _ _ => true
  | .delLinear _ => true
  | .delRing _ => true
  | _ => false

/-- One scheduled effect at the start of frame fn: put in force where it falls due; one that changes remap versions waits for mode
entry (R204). -/
def dueEffect (fn : FN) (a : List Sched × State) (x : Sched) : List Sched × State :=
  if !x.applied && fnGe fn x.due && (entered a.2 || !movesVersions x.effect) then
    let y := putInForce x a.2
    (a.1 ++ [y.1], y.2)
  else (a.1 ++ [x], a.2)

/-- At a frame start every effect that falls due is put in force, in the order in which they were scheduled (R190, R193): the
completions follow. -/
def dueFrame (s : State) : State :=
  let r := s.host.sched.foldl (dueEffect s.clk.fn) ([], s)
  { r.2 with host := { r.2.host with sched := r.1 } }

/-- The completion of a scheduled effect (R193, R319): WRONG_STATE, code 3, where a swap cleared it. -/
def completeSched (x : Sched) (s : State) : State :=
  match x.effect with
  | .ext _ 0xFF _ => completeOpt x.tok stWrongState 3 0 s
  | _ => completeOpt x.tok stOk 0 x.result s

/-- A scheduled effect that is due ends: in force already, or now, it completes (R319). -/
def endSched (x : Sched) (s : State) : State :=
  let y := if x.applied then (x, s) else putInForce x s
  drainHead (completeSched y.1 y.2)

/-- A waiting command reaches its moment (R319): the i-th scheduled effect at its frame, through a warm reset as well, or
after those the waiting IMAGE_VERIFY. -/
def waitingDone (i : Nat) (s : State) : State :=
  match s.host.sched[i]? with
  | some x =>
    if fnGe s.clk.fn x.due then
      endSched x { s with host := { s.host with sched := s.host.sched.eraseIdx i } }
    else s
  | none =>
    if !entered s then s else
    match s.host.waiters[i - s.host.sched.length]? with
    | some (.verify t _) =>
      verifyDone t { s with host := { s.host with waiters := s.host.waiters.eraseIdx (i - s.host.sched.length) } }
    | _ => s

/-- WAITING_COMMAND_DONE (R319). -/
def execWaitingCommandDone (i : Nat) (s : State) : Host.Outcome State Fault Refusal := finish s (waitingDone i s)

/-- A completion entry (R299). -/
def cplBytes (s : State) (c : Cpl) : Bytes :=
  packBytes 32 [(0, 1, c.tok.opcode.toNat), (1, 1, c.status.toNat),
    (2, 1, nat01 (phaseAt s.host.cpl s.host.cpl.pos.toNat) + 16 * modeCode s.mode.mode), (3, 1, c.obj.toNat),
    (4, 4, c.tok.tag.toNat), (8, 4, c.tok.pos), (12, 4, s.host.cmd.pos.toNat), (16, 6, s.clk.fn.toNat),
    (24, 8, c.result.toNat)]

/-- Address of the entry that a ring writes next, of 32 bytes. -/
def ringAddr (r : Ring) : Nat := r.base.toNat + 32 * (r.pos.toNat % ringSize r)

/-- A ring the module writes takes an entry now (R293, R304, R305). -/
def ringTakes (s : State) (r : Ring) : Bool := r.en && !r.halted && !ringFull r && linkUsable s

/-- Write the oldest completion (R299, R302). -/
def writeCpl (s : State) : State :=
  match s.host.cplQ with
  | [] => s
  | c :: rest =>
    if !ringTakes s s.host.cpl then s
    else raise gCpl 0 { s with host := { s.host with
      mem := memStore s.host.mem (ringAddr s.host.cpl) (cplBytes s c), cplQ := rest, held := s.host.held - 1,
      cpl := { s.host.cpl with pos := ringNext s.host.cpl } } }

/-- COMPLETION_WRITE (R299). -/
def execCompletionWrite (s : State) : Host.Outcome State Fault Refusal := finish s (writeCpl s)

/-- An event entry (R300). -/
def evtBytes (s : State) (e : Evt) : Bytes :=
  packBytes 32 [(0, 1, e.code.toNat),
    (1, 1, nat01 (phaseAt s.host.evt s.host.evt.pos.toNat) + 16 * modeCode e.mode), (2, 4, e.seq.toNat),
    (6, 6, e.fn.toNat), (12, 20, e.payload.toNat)]

/-- The EVENTS_LOST event (R301, R342): its own FN is that of the first discard. -/
def lostEvt (l : Lost) : Evt :=
  { code := 0x7F, mode := l.mode, seq := l.seq, fn := l.first,
    payload := pack 160 [(0, 4, l.count.toNat), (4, 6, l.first.toNat), (10, 6, l.last.toNat)] }

/-- Write an event to its ring. -/
def putEvt (e : Evt) (s : State) : State :=
  raise gEvt 0 { s with host := { s.host with
    mem := memStore s.host.mem (ringAddr s.host.evt) (evtBytes s e),
    evt := { s.host.evt with pos := ringNext s.host.evt } } }

/-- Write the oldest event, or the EVENTS_LOST entry in its place; what then finds the ring full is held (R301). -/
def writeEvt (s : State) : State :=
  if !ringTakes s s.host.evt then s else
  noteHeld s <| match s.host.lost, s.host.evtQ with
  | some (0, l), _ => putEvt (lostEvt l) { s with host := { s.host with lost := none } }
  | some (n + 1, l), e :: rest => putEvt e { s with host := { s.host with evtQ := rest, lost := some (n, l) } }
  | some (_ + 1, l), [] => putEvt (lostEvt l) { s with host := { s.host with lost := none } }
  | none, e :: rest => putEvt e { s with host := { s.host with evtQ := rest } }
  | none, [] => s

/-- EVENT_WRITE (R301). -/
def execEventWrite (s : State) : Host.Outcome State Fault Refusal := finish s (writeEvt s)

/-- A ring has stayed full for 8,000 frames with work held (R307). -/
def ringSlow (s : State) (r : Ring) : Bool :=
  match r.fullSince with
  | some f => ringFull r && decide (8000 ≤ (s.clk.fn - f).toNat)
  | none => false

/-- HOST_SLOW (R307). -/
def hostSlow (s : State) : State :=
  if (ringSlow s s.host.cpl && !s.host.cplQ.isEmpty) ||
      (ringSlow s s.host.evt && (!s.host.evtQ.isEmpty || s.host.lost.isSome)) then
    raise gRingErr 7 s
  else s

/-- HOST_SLOW (R307). -/
def execHostSlow (s : State) : Host.Outcome State Fault Refusal := finish s (hostSlow s)

/-- Note since when a ring has been full with work held (R307). -/
def noteFull (s : State) (r : Ring) (held : Bool) : Ring :=
  { r with fullSince := if r.en && ringFull r && held then r.fullSince.orElse (fun _ => some s.clk.fn) else none }

/-- The frame's look at both rings (R307). -/
def noteRings (s : State) : State :=
  { s with host := { s.host with
    cpl := noteFull s s.host.cpl (!s.host.cplQ.isEmpty),
    evt := noteFull s s.host.evt (!s.host.evtQ.isEmpty || s.host.lost.isSome) } }

-- Doorbells.

/-- A ring takes a position from the host (R295, R307): its count of a full ring goes on where it stays full. -/
def takePos (p : BitVec 17) (r : Ring) : Ring :=
  let r := { r with host := p }
  { r with fullSince := if ringFull r then r.fullSince else none }

/-- What a doorbell write comes to (R303, R308): `inRange` judges POS below 2N; `apply` puts it in force. -/
def doorbell (aligned : Bool) (v : Word32) (r : Ring) (inRange : Nat → Bool) (apply : BitVec 17 → State → State)
    (s : State) : State :=
  let p : BitVec 17 := v.setWidth 17
  if !entered s then s
  else if !aligned then raise gRingErr 4 s
  else if !r.en || !s.host.lock then raise gRingErr 5 s
  else if 2 * ringSize r ≤ p.toNat ∨ !inRange p.toNat then raise gRingErr 4 s
  else apply p s

/-- The host's own writes to its memory, made before the doorbell (R302). -/
def hostWrites (cells : List Host.Cell) (s : State) : State :=
  { s with host := { s.host with mem := cells.foldl (fun m c => tset 0 m (c.1 % 2 ^ 64) c.2) s.host.mem } }

/-- POS lies in the span from the host's last position to the module's write position (R303). -/
def inSpanOf (r : Ring) (p : Nat) : Bool :=
  decide (ringDist r p r.host.toNat ≤ ringDist r r.pos.toNat r.host.toNat)

/-- DB_CMD (R295, R303): the host's memory as it has written it, then the position. -/
def execDbCmd (aligned32 : Bool) (v : Word32) (mem : List Host.Cell) (s : State) : Host.Outcome State Fault Refusal :=
  finish s (doorbell aligned32 v s.host.cmd
    (fun p => decide (ringDist s.host.cmd p s.host.cmd.pos.toNat ≤ ringSize s.host.cmd))
    (fun p s => { s with host := { s.host with cmd := { s.host.cmd with host := p } } }) (hostWrites mem s))

/-- DB_CPL (R303). -/
def execDbCpl (aligned32 : Bool) (v : Word32) (s : State) : Host.Outcome State Fault Refusal :=
  finish s (doorbell aligned32 v s.host.cpl (inSpanOf s.host.cpl)
    (fun p s => { s with host := { s.host with cpl := takePos p s.host.cpl } }) s)

/-- DB_EVT (R303). -/
def execDbEvt (aligned32 : Bool) (v : Word32) (s : State) : Host.Outcome State Fault Refusal :=
  finish s (doorbell aligned32 v s.host.evt (inSpanOf s.host.evt)
    (fun p s => { s with host := { s.host with evt := takePos p s.host.evt } }) s)

/-- DB_IRQ.REARM (R303, R313): a further message while the condition is true; until mode entry the write is ignored (R308). It has no
ring, so only its form and LOCK are judged. -/
def execDbIrqRearm (x : IrqWrite) (s : State) : Host.Outcome State Fault Refusal :=
  finish s (if !entered s then s
    else if !x.aligned32 then raise gRingErr 4 s
    else if !s.host.lock then raise gRingErr 5 s
    else if irqCond s then sendMsix s else s)

end Sys2Proof.Machine
end

