-- ==== Sys2Proof/Machine/UpdateRows.lean ====
section
/-! DEFINITION. The journal's own happenings (R433, R434), the steps of an activation, its trial and fallback (R442 to R446),
and the debug port's unlock (R454, R455). -/
namespace Sys2Proof.Machine

-- The journal.

/-- The journal is filled to 75 % of the space that the newest snapshot leaves it (R433). -/
def compactionDue (s : State) : Bool := decide (75 * (journalArea - s.flash.spill) ≤ 100 * s.flash.used)

/-- COMPACTION_START at 75 % fill (R433). -/
def execCompactionStart (s : State) : Host.Outcome State Fault Refusal :=
  finish s (if entered s ∧ s.mode.mode ≠ .safe ∧ compactionDue s ∧ s.jrn.compaction.isNone ∧ !s.pwr.pfw ∧ !s.flash.noRoom then
    beginCompaction s else s)

/-- Bytes that a snapshot takes of the journal area: what exceeds the 6 MiB of its own, of at most 14 MiB in all (R433). -/
def snapshotSpill (draw : Nat) : Nat := min (Config.snapshotBytes draw) 14680064 - 6291456

/-- Write a snapshot into the area that does not hold the newest one (R433). -/
def putSnapshot (n : Snapshot) (spill : Nat) (f : FlashSt) : FlashSt :=
  let f := { f with spill := spill }
  if f.snap0.isSome ∧ newestSnapshot f = f.snap0 then { f with snap1 := some n } else { f with snap0 := some n }

/-- End the JOURNAL_COMPACT commands that wait, with the fill (R338). -/
def endCompact (s : State) : State :=
  let (mine, rest) := s.host.waiters.partition fun w => match w with | .compact _ => true | _ => false
  mine.foldl (fun s w => completeOpt (waiterTok w) stOk 0 (res [(0, 1, journalFill s)]) s)
    { s with host := { s.host with waiters := rest } }

/-- Self-restore is provisioned again once a JOURNAL_COMPACT completes in FIELD after the reset (R455). -/
def reprovision (s : State) : State :=
  let asked := s.host.waiters.any fun w => match w with | .compact _ => true | _ => false
  if asked ∧ s.flash.reprov ∧ s.flash.reprovReset ∧ s.bak.lifecycle = 2 then
    { s with flash := { s.flash with reprov := false, reprovReset := false } }
  else s

/-- A compaction completes (R433, R434): the snapshot is closed, the records it covers are erased, a fault clears. -/
def compactionDone (s : State) : State :=
  match s.jrn.compaction with
  | none => s
  | some c =>
    if s.pwr.pfw ∨ s.flash.noRoom ∨ !entered s then s
    else
      let f := putSnapshot c.snap (snapshotSpill s.draws) s.flash
      let s := { s with
        flash := { f with
          journal := f.journal.filter fun r => decide (c.seq < r.seq),
          used := min f.used (Config.compactedBytes s.draws), lostRecord := false },
        jrn := { s.jrn with compaction := none, fault := false }, draws := s.draws + 1 }
      endCompact (journalNote 4 c.seq (reprovision s))

/-- COMPACTION_DONE. -/
def execCompactionDone (s : State) : Host.Outcome State Fault Refusal := finish s (compactionDone s)

/-- The journal faults (R434). Whether the blocks that remain can hold a snapshot is the flash's: free. -/
def journalFails (s : State) : State :=
  if s.jrn.fault ∨ !entered s then s
  else faultJournal { s with
    flash := { s.flash with noRoom := s.flash.noRoom || Config.blocksShort s.draws }, draws := s.draws + 1 }

/-- JOURNAL_FAULT. -/
def execJournalFault (s : State) : Host.Outcome State Fault Refusal := finish s (journalFails s)

-- Activation.

/-- The new engine component goes into the spare bank of every cluster that is on (R376 step 1). -/
def writeSpares (s : State) : State :=
  let code := engineComponent (glassPackage s)
  (clustersFrom s 0).foldl (fun s n => putCluster n { clusterOf s n with spare := code } s) s

/-- MC3 is started with other firmware (R344, R442): PD107 is woken, and the core is reset. -/
def restartMc3 (s : State) : State :=
  resetCore 3 { s with pwr := { s.pwr with dom := tset .off s.pwr.dom 107 .on } }

/-- MANAGEMENT_HANDOVER (R442 step 2, R445 step 3): MC3 starts; for an activation clusters in retention are woken, and the spare
banks written. -/
def handover (s : State) : State :=
  match s.img.act with
  | some a =>
    if s.pwr.pfw ∨ !entered s then s
    else if a.step = 2 then
      let wake := (List.range 32).filterMap fun n => if domState s (32 + n) = .retain then some (32 + n) else none
      let s := restartMc3 s
      writeSpares { s with
        img := { s.img with act := some { step := 3, next := 0, startFn := s.clk.fn } },
        pwr := { s.pwr with dom := wake.foldl (fun m d => tset .off m d .on) s.pwr.dom } }
    else if a.step = 8 then endFallback (restartMc3 s)
    else s
  | none => s

/-- MANAGEMENT_HANDOVER. -/
def execManagementHandover (s : State) : Host.Outcome State Fault Refusal := finish s (handover s)

/-- HANDOVER_TIMEOUT: 2 s without the handover (R442). -/
def handoverTimeout (s : State) : State :=
  match s.img.act with
  | some a => if a.step = 2 ∧ 16000 ≤ (s.clk.fn - a.startFn).toNat ∧ entered s then backOut none s else s
  | none => s

/-- HANDOVER_TIMEOUT. -/
def execHandoverTimeout (s : State) : Host.Outcome State Fault Refusal := finish s (handoverTimeout s)

/-- The activation is done (R442 step 6): the new image runs in trial. -/
def activationDone (s : State) : State :=
  let s := runImage (glasshouse s) s
  let s := { s with img := { s.img with
    act := none, state := 4, trialFn := some 0, trialBoot := false, healthy := none, readBack := false } }
  let v := s.img.version
  endActivate stOk [(0, 4, v.toNat)] (updNote 4 0 v (updNote 3 0 v (updateRecord s)))

/-- MICROCODE_SWITCH (R442 steps 4 and 5): the next quad that is on, then the power controller, one at each boundary. -/
def microcode (s : State) : State :=
  match s.img.act with
  | some a =>
    if !atBoundaryFrame s ∨ a.startFn = s.clk.fn ∨ s.pwr.pfw ∨ !entered s then s
    else if a.step = 4 then
      match quadsFrom s a.next with
      | q :: _ => { s with img := { s.img with
          quads := s.img.quads ++ [q], act := some { a with next := q + 1, startFn := s.clk.fn } } }
      | [] => s
    else if a.step = 5 then activationDone s
    else s
  | none => s

/-- MICROCODE_SWITCH. -/
def execMicrocodeSwitch (s : State) : Host.Outcome State Fault Refusal := finish s (microcode s)

/-- The health conditions of a trial (R444). -/
def trialHealthy (s : State) : Bool :=
  ((List.range 32).all fun n => !domOn s (32 + n) || (clusterRuns s n && (clusterOf s n).awaiting.isNone)) &&
    s.img.readBack &&
    (s.cfg.twin.isNone || !s.twin.linkUp ||
      ((mateInSync s || (decide (s.mode.mode = .standby) && decide (s.mode.sync = 3))) && !s.grp.fenced)) &&
    (!s.img.holdFlag || s.img.confirmReq)

/-- The trial image is confirmed (R444): snapshot, confirm record, anti-rollback counter, UPD.CONFIRMED. -/
def confirmImage (s : State) : State :=
  let n := s.jrn.nextSeq - 1
  let s := { s with
    flash := writeBoot (putSnapshot (snapshotNow n s) (snapshotSpill s.draws) s.flash) s.img.runB none, draws := s.draws + 1,
    bak := { s.bak with trial := 0 },
    eng := { s.eng with cl := s.eng.cl.map fun x => (x.1, { x.2 with trial := false }) } }
  let s := endTrial (raiseRollback (updateRecord s))
  endConfirm stOk (updNote 5 0 s.img.version { s with img := { s.img with state := 0, quads := [] } })

/-- IMAGE_SELF_CONFIRM: 30 s of health (R444). -/
def execImageSelfConfirm (s : State) : Host.Outcome State Fault Refusal :=
  finish s (if entered s ∧ s.img.state = 4 ∧ 240000 ≤ (s.img.healthy.getD 0).toNat ∧ !s.pwr.pfw then confirmImage s else s)

/-- TRIAL_DEADLINE: 300 s (R444, R445); a waiting IMAGE_CONFIRM completes with TIMEOUT. -/
def execTrialDeadline (s : State) : Host.Outcome State Fault Refusal :=
  finish s (if entered s ∧ s.img.state = 4 ∧ 2400000 ≤ (s.img.trialFn.getD 0).toNat ∧ !s.pwr.pfw then
    fallBack (endConfirm stTimeout s) else s)

/-- The common return of a fallback, at a boundary (R376, R445 step 2, R446). -/
def returnFirmware (s : State) : State :=
  let on := (List.range 32).filter fun n => (clusterOf s n).trial
  let s := on.foldl (fun s n => switchBank n false s) s
  let s := runImage (runSlot s.flash) { s with img := { s.img with quads := [], fallback := false } }
  match s.img.act with
  | some a => { s with img := { s.img with act := some { a with step := 8, startFn := s.clk.fn } } }
  | none => endFallback s

/-- A frame of the update machinery: readiness past its 8 frames, steps that have nothing left to switch, the common return
at a boundary, and the trial's counts. -/
def updateFrame (s : State) : State :=
  if !entered s then s else
  let old := fun (c : ClusterSt) => match c.awaiting with
    | some f => if 9 ≤ (s.clk.fn - f).toNat then { c with awaiting := none } else c
    | none => c
  let s := { s with eng := { s.eng with cl := s.eng.cl.map fun (x : Nat × ClusterSt) => (x.1, old x.2) } }
  let s := match s.img.act with
    | some a =>
      let waits := s.eng.cl.any fun x => x.2.awaiting.isSome
      let a := if a.step = 3 ∧ (clustersFrom s a.next).isEmpty ∧ !waits then { a with step := 4, next := 0 } else a
      let a := if a.step = 4 ∧ (quadsFrom s a.next).isEmpty then { a with step := 5 } else a
      { s with img := { s.img with act := some a } }
    | none => s
  let s := if s.img.fallback && atBoundaryFrame s && !s.pwr.pfw then returnFirmware s else s
  match s.img.trialFn with
  | some n => { s with img := { s.img with
      trialFn := some (n + 1),
      healthy := (if trialHealthy s then some (match s.img.healthy with | some h => h + 1 | none => 0) else none) } }
  | none => s

-- The debug port.

/-- DEBUG_CHALLENGE (R454): in FIELD, after fewer than four failed responses. -/
def challenge (s : State) : State :=
  if s.bak.lifecycle ≠ 2 ∨ 4 ≤ s.dbg.fails then s
  else
    let (r, s) := drawRandom s
    { s with dbg := { s.dbg with challenge := some r } }

/-- DEBUG_CHALLENGE. -/
def execDebugChallenge (s : State) : Host.Outcome State Fault Refusal := finish s (challenge s)

/-- A response's signatures over the SHA-384 of serial, challenge and lifecycle code (R439, R454). -/
def responseOk (s : State) (ch vKey vSig cKey cSig : Bytes) : Bool :=
  let dig := sha384 (fit 16 s.fuse.serial ++ ch ++ [s.bak.lifecycle.setWidth 8])
  decide (fromBE (sha384 vKey) = s.fuse.rootHash.toNat) && ecdsa384 vKey vSig dig &&
    (!customerFused s || (decide (fromBE (sha384 cKey) = s.fuse.custHash.toNat) && ecdsa384 cKey cSig dig))

/-- KEY_ABSENT for each port in REQUIRE (R250, R455). -/
def noteKeys (s : State) : State :=
  let s := if s.twin.gha.mode = 2 then secNote 4 0 s else s
  if s.twin.ghb.mode = 2 then secNote 4 1 s else s

/-- The port opens (R454, R455): the secrets, the journal and the snapshots are gone first; a fresh journal begins with a
snapshot (R436). -/
def unlock (s : State) : State :=
  let s := eraseSecrets s
  let s := { s with
    bak := { s.bak with lifecycle := 3 }, dbg := { s.dbg with challenge := none, fails := 0, opened := true } }
  let s := secNote 3 0xFF (secNote 2 0xFF s)
  initialSnapshot (noteKeys s)

/-- DEBUG_RESPONSE (R454). -/
def respond (vKey vSig cKey cSig : Bytes) (s : State) : State :=
  match s.dbg.challenge with
  | none => s
  | some ch =>
    if s.bak.lifecycle ≠ 2 ∨ 4 ≤ s.dbg.fails then s
    else if responseOk s ch vKey vSig cKey cSig then unlock s
    else { s with dbg := { s.dbg with challenge := none, fails := s.dbg.fails + 1 } }

/-- DEBUG_RESPONSE. -/
def execDebugResponse (vendorKey : Bytes) (vendorSig : Bytes) (custKey : Bytes) (custSig : Bytes) (s : State) :
    Host.Outcome State Fault Refusal :=
  finish s (respond vendorKey vendorSig custKey custSig s)

end Sys2Proof.Machine
end

