-- ==== Sys2Proof/Machine/Frame.lean ====
section
/-! DEFINITION. The start of a frame (R228): counters and clocks, what takes effect at it (R30, R190, R254, R268), the selectors
(R183), the protocols (R196 to R204), and what is sent in every frame (R140, R144, R158, R161, R240, R243, R246, R275); the
steps of a frame's start that are rows of their own, whose frame sends after the last of them; and the hold-off and WTR
timers of selectors (R185, R186). -/
namespace Sys2Proof.Machine

-- Clocks.

/-- TOD a frame later, or stepped at the named frame (R174, R341). -/
def todFrame (s : State) : State :=
  let ns := s.clk.todNs.toNat + 125000
  let on := { s with clk := { s.clk with
    todSec := if ns < 1000000000 then s.clk.todSec else s.clk.todSec + 1, todNs := BitVec.ofNat 32 (ns % 1000000000) } }
  match s.clk.todStep.filter (·.1 == s.clk.fn) with
  | [] => on
  | due => due.foldl (fun s x => stepTod x.2.1 x.2.2 s) s

/-- The counts of 125 µs that the reset controller keeps (R410, R419). A warm reset whose sources have ended begins its
release at step 7 (R408), which starts the count of R410 once. -/
def tickReset (s : State) : State :=
  let begins := s.rst.phase == .warmAsserted && !s.rst.warmPin
  { s with rst := { s.rst with
    phase := if begins then .warmRelease else s.rst.phase, step := if begins then 7 else s.rst.step,
    kickTicks := s.rst.kickTicks + 1,
    relTicks := if begins then s.rst.relTicks.orElse (fun _ => some 0) else s.rst.relTicks.map (· + 1),
    ganderTicks := s.rst.ganderTicks.map (· + 1) } }

/-- A second of flips ends (R181, R182): it counts as quiet with at most ⌊FLIP_LIMIT / 8⌋ flips. -/
def distrustSecond (s : State) : State :=
  { s with prot := { s.prot with distrust := s.prot.distrust.map fun (x : Nat × Distrust) =>
    (x.1, { x.2 with
      quiet := if x.2.flips ≤ (distrustCfg s x.1).1 / 8 then x.2.quiet + 1 else 0, flips := 0 }) } }

/-- A second of 8,000 frames begins (R181). -/
def secondFrame (s : State) : State := if s.clk.fn.toNat % 8000 = 0 then distrustSecond s else s

/-- Each Vernolum lane's block is parsed, and its relayed messages are counted, afresh (R144, R145). -/
def relayFrame (s : State) : State :=
  { s with lane := { s.lane with vbl := s.lane.vbl.map fun (x : Nat × VblRx) =>
    (x.1, { x.2 with relayed := 0, stopped := false }) } }

/-- What has a new source keeps its mark for a low-order multiframe (R62). -/
def pruneMoved (s : State) : State :=
  { s with prot := { s.prot with moved := s.prot.moved.filter fun x => (s.clk.fn - x.2).toNat < 4 || !fnGe s.clk.fn x.2 } }

-- Mode changes that wait for the frame start.

/-- The transition of a SET_MODE (R30). -/
def changeMode (m : Mode) (s : State) : State :=
  match m with
  | .safe => enterSafe s
  | .standby =>
    if s.mode.mode = .active then
      let s := becomeStandby s
      { s with twin := { s.twin with release := true } }
    else toMode .standby 1 s
  | .quiet =>
    let s := if s.mode.mode = .service then removeTests s else dropImage s
    toMode .quiet 0 { s with twin := { s.twin with pending := none } }
  | m => toMode m 0 s

/-- The transition of a SET_MODE is still one of R30: the module may have changed mode by itself since. -/
def stillReachable (s : State) (m : Mode) : Bool :=
  modeReachable s.mode.mode m && (modeRefusal s m).isNone

/-- A SET_MODE takes effect and completes with the mode and the FN of its first frame (R30, R324); for SAFE nothing is
written. The target reached meanwhile changes nothing; one that R30 no longer allows is refused (DESIGN CHOICE, log 130). -/
def modeFrame (s : State) : State :=
  match s.mode.req with
  | none => s
  | some (m, tok) =>
    let s := { s with mode := { s.mode with req := none } }
    let done := fun (s : State) =>
      drainHead (completeOpt tok stOk 0 (res [(0, 1, modeCode s.mode.mode), (2, 6, s.mode.since.toNat)]) s)
    if m = s.mode.mode then done s
    else if !stillReachable s m then drainHead (completeOpt tok stWrongMode 0 0 s)
    else if m = .safe then changeMode m s
    else done (changeMode m s)

/-- The mode changes of a unit's own that wait for this frame start (R26): a unit that yields becomes STANDBY (R254, R268), one
whose link is down ISOLATED, and one whose link is back takes its role back. A frame has one mode change: `m` is the state
before it. -/
def yieldFrame (m s : State) : State :=
  let t := s.twin
  let s := { s with twin := { t with yields := false, isolates := false, resumes := false } }
  if s.mode.mode ≠ m.mode.mode then s
  else if t.yields ∧ (s.mode.mode = .active ∨ s.mode.mode = .isolated) then becomeStandby s
  else if t.isolates ∧ (s.mode.mode = .active ∨ s.mode.mode = .standby) ∧ !t.linkUp then enterIsolated s
  else if t.resumes ∧ s.mode.mode = .isolated then takeBackRole s
  else s

/-- Timing alignment needs a STANDBY unit LOCKED on MATE (R232). -/
def alignFrame (s : State) : State :=
  if s.tim.aligned && !(decide (timMode s = .standby) && decide (s.tim.dpll = 2) && onMate s) then loseAlignment s else s

-- Selectors.

/-- The selectors of a frame, on the map of the last frame `m` (R183, R185); in the frame of a swap they are evaluated after it
(R91). -/
def selectorFrame (m s : State) : State :=
  if swapDue s then s
  else
    let s := evalSelectors m s
    if s.clk.fn.toNat % 4 = 0 then s else s.page.live.lo.foldl (holdTimers m) s

/-- The solver ends within its bound (R55), whether or not its end has been reported. -/
def solverFrame (s : State) : State :=
  match s.page.solving with
  | some f => if solveBound s.page.live s.page.staged ≤ (s.clk.fn - f).toNat then solved s else s
  | none => s

/-- SD and SF of every object with an estimate follow its thresholds (R168). -/
def bandFrame (s : State) : State :=
  s.dft.ber.foldl (fun s x => evalBands (x.1 / 0x1000000) (x.1 % 0x1000000) s) s

-- What a frame sends.

/-- The messages of a lane's queue that fill the next block of 4,096 bytes (R143, R144), and the rest. -/
def fillBlock : List (Nat × Byte × Bytes) → Nat → List (Nat × Byte × Bytes) × List (Nat × Byte × Bytes)
  | [], _ => ([], [])
  | m :: ms, room =>
    if msgBytes m.2.2 ≤ room then
      let r := fillBlock ms (room - msgBytes m.2.2)
      (m :: r.1, r.2)
    else ([], m :: ms)

/-- Send a message of a lane with the lane's next SEQ (R144). -/
def sendVbl (s : State) (m : Nat × Byte × Bytes) : State :=
  let q := tget 0 s.lane.txSeq m.1
  send (.vblMsg m.1 (vblMessage m.2.1 q m.2.2)) { s with lane := { s.lane with txSeq := tset 0 s.lane.txSeq m.1 (q + 1) } }

/-- The header and the messages of one Vernolum lane (R140, R144). -/
def vblSends (s : State) (l : Nat) : State :=
  if !(isVbl s l && sendsFrames s l) then s
  else
    let s := send (.vbl l (vblHeader s l)) s
    let (mine, other) := s.lane.txq.partition fun m => m.1 == l
    let r := fillBlock mine 4096
    r.1.foldl sendVbl { s with lane := { s.lane with txq := other ++ r.2 }, draws := s.draws + 1 }

/-- The headers of both mate lanes at the start of a superframe (R240), with RELEASED while it is repeated (R243). -/
def mateSends (s : State) : State :=
  if s.cfg.twin.isNone ∨ s.clk.fn.toNat % 4 ≠ 0 then s
  else
    let s := { s with twin := { s.twin with
      heartbeat := s.twin.heartbeat + 1, stream := nextStream s,
      lastHdr := if s.mode.mode = .boot then s.twin.lastHdr else mateFields s false } }
    let s := send (.mateHdr true (mateHeader s true)) (send (.mateHdr false (mateHeader s false)) s)
    if s.twin.relRepeat = 0 ∨ s.twin.relFn = s.clk.fn then s
    else sendReleased { s with twin := { s.twin with relRepeat := s.twin.relRepeat - 1 } }

/-- The image for a mate in RESYNC, taken at a boundary (R263). -/
def bulkSends (s : State) : State :=
  let asks := decide (mateMode s = 5) && decide ((byteAt s.twin.hdr.raw 2).toNat / 16 % 8 = 2)
  if !asks then { s with twin := { s.twin with bulkSent := false } }
  else if s.mode.mode = .active ∧ s.clk.fn.toNat % 48 = 0 ∧ !s.twin.bulkSent ∧ s.twin.linkUp then
    let m := Config.imagePayload (some { snapshotNow s.twin.mirrorSeq s with staged := stagedChanges s }) []
    (pieces 8192 (m.length + 1) m).foldl (fun s p => sendMate 0x04 p s) { s with twin := { s.twin with bulkSent := true } }
  else s

/-- Send STATUS on a port (R246). -/
def sendStatus (b : Bool) (s : State) : State :=
  if !ghEnabled s b then s
  else
    let p := ghPort s b
    let q := p.seq + 1
    let kept := p.sent.filter fun x => decide ((s.clk.fn - x.2).toNat ≤ 256)
    bump 115 0 1 (send (.status b (statusMsg s b q)) (putGh b { p with seq := q, sent := (q, s.clk.fn) :: kept } s))

/-- STATUS in every eighth frame and in the first frame of a change it shows (R246). -/
def statusSends (s : State) : State :=
  if !sendsStatus s ∨ !entered s then s
  else if s.clk.fn.toNat % 8 = 0 ∨ statusShown s ≠ s.twin.shown then
    let s := sendStatus true (sendStatus false s)
    { s with twin := { s.twin with shown := statusShown s } }
  else s

/-- RECORD in every eighth frame: on the group bus, where this member's own is one at which the Bellwether is determined, or to the mate
in a pair outside a group (R243, R275, R277). -/
def recordSends (s : State) : State :=
  if s.clk.fn.toNat % 8 ≠ 0 then s
  else if s.cfg.group.isSome then
    let s := sendGroup 1 (groupRecord s) s
    if entered s then compareBell none (elect s) else s
  else if s.cfg.twin.isSome then sendMate 0x01 (0x05 :: groupRecord s) s
  else s

/-- Everything sent at the start of a frame, and what the outputs keep of it; where no frames run, nothing. -/
def frameSends (s : State) : State :=
  if !framesRun s then s
  else
    let s := (List.range 128).foldl vblSends (lineSends (egressFrame s))
    recordSends (statusSends (bulkSends (mateSends s)))

/-- The steps of this frame's start that are rows of their own. -/
def startSteps (s : State) : List StartStep :=
  (if readinessDue s then [.readiness] else []) ++ (if finalDue s then [.final] else []) ++
    (if swapDue s then [.swap] else []) ++ (if roleDue s then [.role] else []) ++ (if leaseDue s then [.lease] else []) ++
    (if takeoverDue s then [.takeover] else []) ++ (if restoreDue s then [.restore] else [])

/-- What takes effect at a frame start before the selectors: a mode entry, scheduled changes and modes (R26, R30, R190). `m` is the state of the
last frame. -/
def effectFrame (m s : State) : State := yieldFrame m (modeFrame (dueFrame (entryFrame s)))

/-- Defects, timing and carriers in a frame. -/
def layerFrame (s : State) : State :=
  failedFrame (carFrame (lockFrame (phaseFrame (evalSlots (maskFrame (groupFrame (bandFrame s)))))))

/-- Reports, domains, updates and the group in a frame. -/
def reportFrame (s : State) : State :=
  commitRepeat (groupApply (rampFrame (noteRings (updateFrame (domainFrame (prbsFrame s))))))

/-- FN of the next frame: one more, after a step to the Bellwether's count where one is due (R276). -/
def nextFn (s : State) : FN := s.grp.stepTo.getD s.clk.fn + 1

/-- A frame begins where frames run (R3, R33, R228). -/
def beginFrame (m : State) : State :=
  let s := startFrame { m with clk := { m.clk with fn := nextFn m, start := [] }, grp := { m.grp with stepTo := none } }
  let s := effectFrame m (mateRxFrame (resumeFrame (fecFrame (flushRx (relayFrame (secondFrame (todFrame (pruneMoved s))))))))
  let s := solverFrame (apsFrame (layerFrame (selectorFrame m s)))
  let s := reportFrame (alignFrame s)
  let s := if s.tim.dpll = 3 then bump 112 3 1 s else s
  let s := if framesRun s then { s with clk := { s.clk with start := startSteps s } } else s
  if s.clk.start.isEmpty then frameSends s else s

/-- FRAME_START (R228): in SAFE and in BOOT after a cold reset FN and its clocks stand still (R33), and time passes for TOD
and the reset controller alone. -/
def frameStart (s : State) : State :=
  let s := tickReset { groupTxFrame s with tx := [] }
  if framesRun s then beginFrame s else todFrame { s with clk := { s.clk with start := [] } }

/-- FRAME_START. -/
def execFrameStart (s : State) : Host.Outcome State Fault Refusal := finish s (frameStart s)

-- The steps of a frame's start.

/-- A step of the frame's start is taken, if it is due; the frame sends after the last (R26, R82, R89, R141, R275). -/
def runStep (x : StartStep) (due : State → Bool) (f : State → State) (s : State) : State :=
  if !stepDue x s then s
  else
    let s := stepDone x (if due s then f s else s)
    if s.clk.start.isEmpty then frameSends s else s

/-- READINESS_POINT (R82). -/
def execReadinessPoint (s : State) : Host.Outcome State Fault Refusal := finish s (runStep .readiness readinessDue readiness s)

/-- FINAL_POINT (R82, R84). -/
def execFinalPoint (s : State) : Host.Outcome State Fault Refusal := finish s (runStep .final finalDue finalPoint s)

/-- COMMIT_SWAP (R89, R275). -/
def execCommitSwap (s : State) : Host.Outcome State Fault Refusal := finish s (runStep .swap swapDue commitSwap s)

/-- ROLE_TAKE_EFFECT (R256, R258). -/
def execRoleTakeEffect (s : State) : Host.Outcome State Fault Refusal := finish s (runStep .role roleDue roleTake s)

/-- LEASE_END (R254, R258, R259). -/
def execLeaseEnd (s : State) : Host.Outcome State Fault Refusal := finish s (runStep .lease leaseDue leaseEnds s)

/-- FORCED_TAKEOVER (R265). -/
def execForcedTakeover (s : State) : Host.Outcome State Fault Refusal := finish s (runStep .takeover takeoverDue forcedTakeover s)

/-- PAGE_RESTORE (R285). -/
def execPageRestore (s : State) : Host.Outcome State Fault Refusal := finish s (runStep .restore restoreDue pageRestore s)

-- Timers.

/-- A leg's hold-off ends (R185): the condition that stands is recognised, and acted on at the next evaluation. -/
def holdOffEnds (t : Tier) (i : Nat) (l : Leg) (s : State) : State :=
  let e := entryAt s.page.live t i
  let k := selKey t i
  let o := tget {} s.prot.sel k
  let raw := rawCond s s t i e
  let elapsed := fun (f : Option FN) => match f with
    | some f => decide (800 * pHoldOff (profileOf s (eSncp e)) ≤ (s.clk.fn - f).toNat)
    | none => false
  if !hasSelector s.page.live t i e then s
  else match l with
    | .a => if elapsed o.hoA then
        { s with prot := { s.prot with sel := tset {} s.prot.sel k { o with condA := raw (eSrcA e), hoA := none } } } else s
    | .b => if elapsed o.hoB then
        { s with prot := { s.prot with sel := tset {} s.prot.sel k { o with condB := raw (eSrcB e), hoB := none } } } else s

/-- HOLD_OFF_EXPIRY (R185). -/
def execHoldOffExpiry (t : Tier) (i : Nat) (l : Leg) (s : State) : Host.Outcome State Fault Refusal :=
  finish s (holdOffEnds t i l s)

/-- A selector's WTR ends (R186): the request falls to NR, and A is delivered from the next evaluation. -/
def wtrEnds (t : Tier) (i : Nat) (s : State) : State :=
  let e := entryAt s.page.live t i
  let k := selKey t i
  let o := tget {} s.prot.sel k
  match o.wtr with
  | none => s
  | some f =>
    if hasSelector s.page.live t i e ∧ 480000 * pWtr (profileOf s (eSncp e)) ≤ (s.clk.fn - f).toNat then
      { s with prot := { s.prot with sel := tset {} s.prot.sel k { o with wtr := none, req := 9 } } }
    else s

/-- WTR_EXPIRY (R186). -/
def execWtrExpiry (t : Tier) (i : Nat) (s : State) : Host.Outcome State Fault Refusal := finish s (wtrEnds t i s)

end Sys2Proof.Machine
end

