-- ==== Sys2Proof/Machine/Pcie.lean ====
section
/-! DEFINITION. The configuration space of the PCIe function (R288, R289, R308, R313). The manual gives its properties and no layout
of its capabilities: their registers are those of the PCI Express Base Specification (PRESUMED), and their places 0x40, 0x50, 0x90
and 0x100 the model's own (DESIGN CHOICE), all in entry 160. -/
namespace Sys2Proof.Machine

/-- Step 6 of a cold release is done, or lies before the last mode entry: the PCIe clock runs (R409, R424). -/
def pastStep6 (s : State) : Bool :=
  match s.rst.phase with
  | .coldAsserted => false
  | .coldRelease => decide (6 ≤ s.rst.step)
  | _ => true

/-- What the function answers a configuration request with. -/
inductive CfgAnswer where
  | none | retry | completion
  deriving DecidableEq, Repr

/-- The answer to a configuration request (R308): Retry Status from link training until the management core runs, at step 7 of a cold
release (when it comes before 100 ms is left open: DESIGN CHOICE, entry 160). -/
def configAnswer (s : State) : CfgAnswer :=
  if !s.host.linkUp ∨ s.host.perst ∨ !pastStep6 s then .none
  else if s.rst.phase = .coldRelease ∧ s.rst.step < 7 then .retry else .completion

/-- Sizes of BAR0/1, BAR2/3 and BAR4/5 (R289). -/
def barSize : Nat → Nat
  | 0 => 65536
  | _ => 4096

/-- Interrupt Pin (R288): no INTx. -/
def interruptPin : Byte := 0

/-- A half of a BAR as it reads: each is a 64-bit memory BAR, and that of the counter window prefetchable (R289). -/
def barHalf (s : State) (k : Nat) : Word32 :=
  let b := (tget 0 s.host.pcie.bar (k / 2)).toNat
  BitVec.ofNat 32 (if k % 2 = 0 then b % 2 ^ 32 + (if k / 2 = 1 then 0xC else 4) else b / 2 ^ 32)

/-- A register of the configuration space, by its byte offset: the header, then power management (D0 and D3hot), PCI Express (256-byte
payloads, ASPM L1, 16.0 GT/s, four lanes, completion timeout ranges A and B), MSI-X (one vector, its table and pending bits in BAR0)
and Advanced Error Reporting (R288, R289, R482). -/
def configWord (s : State) (off : Nat) : Word32 :=
  let c := s.host.pcie
  BitVec.ofNat 32 <|
    if 0x10 ≤ off ∧ off < 0x28 then (barHalf s ((off - 0x10) / 4)).toNat
    else match off with
    | 0x00 => 0x25481F7A
    | 0x04 => 0x00100000 + 2 * nat01 c.memEn + 4 * nat01 s.host.busMaster
    | 0x08 => 0x118000 * 256 + s.fuse.silicon.toNat % 256
    | 0x2C => 0x25481F7A
    | 0x34 => 0x40
    | 0x3C => 256 * interruptPin.toNat + c.intLine.toNat
    | 0x40 => 0x00035001
    | 0x44 => 8 + 3 * nat01 s.host.d3hot
    | 0x50 => 0x00029010
    | 0x54 => 0x00008001
    | 0x58 => 0x20 * c.maxPayload.toNat + 0x1000 * c.maxRead.toNat
    | 0x5C => 0x00000844
    | 0x60 => c.aspm.toNat
    | 0x74 => 0x13
    | 0x78 => c.cplTimeout.toNat
    | 0x90 => 0x11 + 0x40000000 * nat01 s.host.funcMask + 0x80000000 * nat01 s.host.msixEn
    | 0x94 => 0xF000
    | 0x98 => 0xF800
    | 0x100 => 0x00020001
    | 0x104 => c.uncStatus.toNat
    | 0x108 => c.uncMask.toNat
    | 0x10C => c.uncSev.toNat
    | 0x110 => c.corStatus.toNat
    | 0x114 => c.corMask.toNat
    | _ => 0

/-- The function is unmasked, and a message that is pending sent while the condition is true (R313). -/
def unmaskFunction (s : State) : State :=
  let s := { s with host := { s.host with funcMask := false } }
  if s.host.pend ∧ s.host.msixEn ∧ !s.host.vecMask then
    if irqCond s then sendMsix s else { s with host := { s.host with pend := false } }
  else s

/-- MSI-X is enabled: a message falls due while the condition is true (R313). -/
def enableMsix (s : State) : State :=
  let s := { s with host := { s.host with msixEn := true } }
  if irqCond s then sendMsix s else s

/-- A write of the MSI-X control: the mask, then the enable (R475: increasing bit order). -/
def writeMsixCtrl (v : Word32) (s : State) : State :=
  let s := if bit v 30 then { s with host := { s.host with funcMask := true } }
    else if s.host.funcMask then unmaskFunction s else s
  if !bit v 31 then { s with host := { s.host with msixEn := false } }
  else if s.host.msixEn then s else enableMsix s

/-- A half of a BAR is written: the bits below its size read 0 (R289). -/
def writeBar (k : Nat) (v : Word32) (s : State) : State :=
  let b := (tget 0 s.host.pcie.bar (k / 2)).toNat
  let n := if k % 2 = 0 then b / 2 ^ 32 * 2 ^ 32 + v.toNat / barSize (k / 2) * barSize (k / 2)
    else v.toNat * 2 ^ 32 + b % 2 ^ 32
  { s with host := { s.host with pcie := { s.host.pcie with bar := tset 0 s.host.pcie.bar (k / 2) (BitVec.ofNat 64 n) } } }

/-- A change of the configuration registers of PcieSt. -/
def putPcie (f : PcieSt → PcieSt) (s : State) : State := { s with host := { s.host with pcie := f s.host.pcie } }

/-- A configuration write that is completed. -/
def writeConfigReg (off : Nat) (v : Word32) (s : State) : State :=
  if 0x10 ≤ off ∧ off < 0x28 then writeBar ((off - 0x10) / 4) v s
  else if off = 0x04 then
    noteHeld s (putPcie (fun c => { c with memEn := bit v 1 }) { s with host := { s.host with busMaster := bit v 2 } })
  else if off = 0x3C then putPcie (fun c => { c with intLine := v.setWidth 8 }) s
  else if off = 0x44 then
    noteHeld s { s with host := { s.host with
      d3hot := if v.toNat % 4 = 3 then true else if v.toNat % 4 = 0 then false else s.host.d3hot } }
  else if off = 0x58 then putPcie (fun c => { c with
      maxPayload := BitVec.ofNat 3 (v.toNat / 0x20), maxRead := BitVec.ofNat 3 (v.toNat / 0x1000) }) s
  else if off = 0x60 then putPcie (fun c => { c with aspm := v.setWidth 2 }) s
  else if off = 0x78 then putPcie (fun c => { c with cplTimeout := v.setWidth 5 }) s
  else if off = 0x90 then writeMsixCtrl v s
  else if off = 0x104 then putPcie (fun c => { c with uncStatus := c.uncStatus &&& ~~~v }) s
  else if off = 0x108 then putPcie (fun c => { c with uncMask := v }) s
  else if off = 0x10C then putPcie (fun c => { c with uncSev := v }) s
  else if off = 0x110 then putPcie (fun c => { c with corStatus := c.corStatus &&& ~~~v }) s
  else if off = 0x114 then putPcie (fun c => { c with corMask := v }) s
  else s

/-- A configuration write (R288, R308): it reaches a function that completes configuration requests. -/
def writeConfig (off : Nat) (v : Word32) (s : State) : State :=
  if configAnswer s = .completion then writeConfigReg off v s else s

end Sys2Proof.Machine
end

