-- ==== Sys2Proof/Machine/Regs.lean ====
section
/-! DEFINITION. The set-up window (R290, R291, R474 to R482): what each register reads as and what a write to it does, and the
counter window (R398). -/
namespace Sys2Proof.Machine

/-- Base offset of a ring's registers (R477). -/
def ringBase : RingId → Nat
  | .cmd => 0x100 | .cpl => 0x120 | .evt => 0x140

/-- The registers of a ring. -/
def hostRing (s : State) : RingId → Ring
  | .cmd => s.host.cmd | .cpl => s.host.cpl | .evt => s.host.evt

/-- Replace them. -/
def putRing (r : RingId) (x : Ring) (s : State) : State :=
  match r with
  | .cmd => { s with host := { s.host with cmd := x } }
  | .cpl => { s with host := { s.host with cpl := x } }
  | .evt => { s with host := { s.host with evt := x } }

/-- The ring a register offset belongs to. -/
def ringAt (off : Nat) : Option RingId :=
  if 0x100 ≤ off ∧ off ≤ 0x110 then some .cmd
  else if 0x120 ≤ off ∧ off ≤ 0x130 then some .cpl
  else if 0x140 ≤ off ∧ off ≤ 0x150 then some .evt
  else none

/-- Bits of a group's cause register that R310 assigns. -/
def causeMask (g : Nat) : Word32 :=
  match g with
  | 0 => 0x3 | 1 => 0x7 | 2 => 0xFF | 3 => 0xF | 4 => 0xF | 5 => 0xFFFFFFFF | 6 => 0x3F | 7 => 0x7F | 8 => 0x7FF
  | 9 => 0x1FFF | 10 => 0xFFF | 11 => 0x3F | 12 => 0x1F | 13 => 0xF | 14 => 0x7 | 15 => 0x7F | 16 => 0x3F | 17 => 0x3F
  | 18 => 0x1F | _ => 0

/-- A register with an offset that the tables assign (R474 to R482), aligned. -/
def assigned (off : Nat) : Bool :=
  off % 4 == 0 &&
    ([0x0, 0x4, 0x8, 0x10, 0x14, 0x18, 0x200, 0x204, 0x300, 0x304, 0x308, 0x30C, 0x310, 0x314, 0x400, 0x500, 0x504,
      0x530, 0x600, 0x1000, 0xF000, 0xF004, 0xF008, 0xF00C, 0xF800, 0xF804].contains off ||
      (ringAt off).isSome || decide (0x240 ≤ off ∧ off < 0x2D8) || decide (0x410 ≤ off ∧ off < 0x430) ||
      decide (0x510 ≤ off ∧ off < 0x524) || decide (0x800 ≤ off ∧ off < 0x810) || decide (0x840 ≤ off ∧ off < 0x8A0) ||
      decide (0x2080 ≤ off ∧ off < 0x2400) || (decide (0x3000 ≤ off ∧ off < 0x3200) && decide (off % 16 ≠ 12)))

/-- TOP_STATUS (R476). -/
def topStatus (s : State) : Nat :=
  modeCode s.mode.mode + 16 * syncCode s + 0x100 * s.tim.dpll.toNat + 0x1000 * s.bak.lifecycle.toNat +
    0x8000 * nat01 s.host.lock + 0x10000 * s.host.tag.toNat

/-- A register of a ring (R477). -/
def readRing (r : Ring) (rel : Nat) : Nat :=
  match rel with
  | 0 => r.base.toNat % 2 ^ 32
  | 4 => r.base.toNat / 2 ^ 32
  | 8 => r.size.toNat + 0x100 * nat01 r.en
  | 0xC => r.pos.toNat
  | _ => r.host.toNat

/-- STATE code of a channel (R358). -/
def dmaPhaseCode : DmaPhase → Nat
  | .idle => 0 | .armed => 1 | .running => 2 | .pausing => 3 | .paused => 4 | .halted => 5

/-- A register of a DMA channel (R358). -/
def readDma (c : DmaCh) (rel : Nat) : Nat :=
  match rel with
  | 0x00 => c.set.src.toNat % 2 ^ 32
  | 0x04 => c.set.src.toNat / 2 ^ 32
  | 0x08 => c.set.dst.toNat % 2 ^ 32
  | 0x0C => c.set.dst.toNat / 2 ^ 32
  | 0x10 => c.set.len
  | 0x14 => c.set.ctrl.toNat + 2 * nat01 c.pause
  | 0x18 => dmaPhaseCode c.phase + 8 * nat01 c.shadowValid + 16 * nat01 c.done + 32 * nat01 c.withdrawn +
      64 * nat01 c.paceMissed + 128 * nat01 c.refused + 256 * c.haltCause.toNat + 4096 * c.retries.toNat
  | _ => c.remain

/-- A register of a core's programmable counter (R401). -/
def readPmc (s : State) (i rel : Nat) : Nat :=
  match rel with
  | 0 => (tget 0xFF00 s.bel.pmcCtrl i).toNat
  | 4 => (tget 0 s.bel.pmcBase i).toNat
  | _ => (tget 0xFFFFFFFF s.bel.pmcLimit i).toNat

/-- Number of a programmable counter at an offset: 8 n + k (R479). -/
def pmcAt (off : Nat) : Nat := 8 * ((off - 0x3000) / 0x80) + (off - 0x3000) % 0x80 / 0x10

/-- RST_COUNTn (R418): codes 0 and 0x12 to 0x13 read 0. -/
def rstCount (s : State) (n : Nat) : Nat :=
  (List.range 4).foldl (fun w j =>
    let c := 4 * n + j
    w + 256 ^ j * (if c = 0 ∨ 0x12 ≤ c then 0 else (tget 0 s.bak.counts c).toNat)) 0

/-- The identity key region (R481): it reads 0 in BLANK. -/
def identityByte (s : State) (i : Nat) : Byte :=
  if s.bak.lifecycle = 0 then 0 else match s.flash.idKey with | some k => byteAt k i | none => 0

/-- The value of a register, without the latch of R475. -/
def regNow (s : State) (off : Nat) : Nat :=
  match ringAt off with
  | some r => readRing (hostRing s r) (off - ringBase r)
  | none =>
    if off = 0 then 0x2548 + 0x10000 * s.fuse.silicon.toNat
    else if off = 4 then (if s.mode.mode = .boot ∨ s.mode.mode = .safe then 0 else s.img.version.toNat)
    else if off = 8 then topStatus s
    else if off = 0x10 then s.clk.fn.toNat % 2 ^ 32
    else if off = 0x14 then s.clk.fn.toNat / 2 ^ 32
    else if off = 0x18 then nat01 s.host.lock
    else if off = 0x200 then (topSummary s).toNat
    else if off = 0x204 then s.host.topEnable.toNat
    else if 0x240 ≤ off ∧ off < 0x2D8 then
      (if off % 8 = 0 then groupCause s ((off - 0x240) / 8) else tget 0 s.host.enables ((off - 0x240) / 8)).toNat
    else if off = 0x300 then s.host.dmaDone.toNat
    else if off = 0x304 then s.host.dmaDoneEn.toNat
    else if off = 0x308 then s.host.dmaHalt.toNat
    else if off = 0x30C then s.host.dmaHaltEn.toNat
    else if off = 0x310 then s.host.engCluster.toNat
    else if off = 0x314 then s.host.engClusterEn.toNat
    else if off = 0x400 then nat01 s.host.remap + 2 * nat01 (windowsLive s)
    else if 0x410 ≤ off ∧ off < 0x430 then
      (if off % 8 = 0 then tget 0x18 s.host.winCtrl ((off - 0x410) / 8)
       else tget 0 s.host.winBase ((off - 0x410) / 8)).toNat
    else if off = 0x500 then s.bak.last.toNat + 256 * nat01 s.bak.lost
    else if off = 0x504 then s.bak.total.toNat
    else if 0x510 ≤ off ∧ off < 0x524 then rstCount s ((off - 0x510) / 4)
    else if off = 0x600 then nat01 s.host.userEn + 2 * nat01 s.host.mcExpose
    else if 0x800 ≤ off ∧ off < 0x810 then fromLE (slice s.fuse.serial (off - 0x800) 4)
    else if 0x840 ≤ off ∧ off < 0x8A0 then
      fromLE ((List.range 4).map fun i => identityByte s (off - 0x840 + i))
    else if off = 0x1000 then s.host.hostCh.toNat
    else if 0x2080 ≤ off ∧ off < 0x2400 then readDma (dmaCh s ((off - 0x2000) / 0x20)) (off % 0x20)
    else if 0x3000 ≤ off ∧ off < 0x3200 then readPmc s (pmcAt off) (off % 0x10)
    else if off = 0xF000 then s.host.msixAddr.toNat % 2 ^ 32
    else if off = 0xF004 then s.host.msixAddr.toNat / 2 ^ 32
    else if off = 0xF008 then s.host.msixData.toNat
    else if off = 0xF00C then nat01 s.host.vecMask
    else if off = 0xF800 then nat01 s.host.pend
    else 0

/-- What a read of an assigned offset returns (R475). -/
def readReg (s : State) (off : Nat) : Word32 := (tfind s.host.latched off).getD (BitVec.ofNat 32 (regNow s off))

/-- Low halves of the 64-bit registers of R475. -/
def lowHalf (off : Nat) : Bool :=
  decide (off = 0x10) || [0x100, 0x120, 0x140].contains off ||
    (decide (0x2080 ≤ off ∧ off < 0x2400) && (off % 0x20 == 0 || off % 0x20 == 8))

/-- LOW_HALF_READ (R475): the high half is latched. -/
def execLowHalfRead (off : Nat) (s : State) : Host.Outcome State Fault Refusal :=
  finish s (if lowHalf off then
    { s with host := { s.host with
      rdata := readReg s off,
      latched := tinsert s.host.latched (off + 4) (BitVec.ofNat 32 (regNow s (off + 4))) } }
  else s)

/-- A write of a wrong size, alignment or offset (R290): ignored with BUS.LOCKED_WRITE, and until mode entry without a cause (R308). -/
def badWrite (s : State) : State := if entered s then raise gBus 3 s else s

/-- SETUP_BAD_ACCESS (R290): a wrong size, alignment or offset reads 0 or is ignored, with BUS.LOCKED_WRITE; a write until
mode entry is ignored without a cause (R308). -/
def execSetupBadAccess (write : Bool) (off : Nat) (size : Nat) (s : State) : Host.Outcome State Fault Refusal :=
  finish s (if size = 4 ∧ assigned off then s
    else if write then badWrite s
    else raise gBus 3 { s with host := { s.host with rdata := 0 } })

-- Writes.

/-- A field of access RWL takes a value (R291): after LOCK a change is ignored with BUS.LOCKED_WRITE. -/
def rwl (change : Bool) (set : State → State) (s : State) : State :=
  if !change then s else if s.host.lock then raise gBus 3 s else set s

/-- The base of a ring takes effect with its high half (R475, R477). -/
def writeBase (r : RingId) (v : Word32) (s : State) : State :=
  let x := hostRing s r
  let low := match s.host.heldLow with
    | some (o, w) => if o = ringBase r then w.toNat else x.base.toNat % 2 ^ 32
    | none => x.base.toNat % 2 ^ 32
  let b : Word64 := BitVec.ofNat 64 (v.toNat * 2 ^ 32 + low)
  if b = x.base then s
  else if s.host.lock ∨ x.en then raise gBus 3 s
  else putRing r { x with base := b } s

/-- Enable a ring (R294): its base and size are checked, and every position starts at 0. A halted ring stays halted (R304). -/
def enableRing (r : RingId) (s : State) : State :=
  let x := hostRing s r
  if x.base.toNat % 64 ≠ 0 ∨ x.size.toNat < 4 ∨ 16 < x.size.toNat then raise gRingErr 6 s
  else putRing r { x with en := true, pos := 0, host := 0, fullSince := none } s

/-- RING_x_CTRL (R294, R477): SIZE first, then EN. -/
def writeRingCtrl (r : RingId) (v : Word32) (s : State) : State :=
  let x := hostRing s r
  let size : BitVec 5 := v.setWidth 5
  let en := bit v 8
  if s.host.lock then (if size = x.size ∧ en = x.en then s else raise gBus 3 s)
  else if x.en then
    let s := if size = x.size then s else raise gBus 3 s
    if en then s else noteHeld s (putRing r { x with en := false } s)
  else
    let s := putRing r { x with size := size } s
    if en then enableRing r s else s

/-- A register of a ring is written (R477): POS and HOSTPOS are read only. -/
def writeRing (r : RingId) (rel : Nat) (v : Word32) (s : State) : State :=
  match rel with
  | 0 => { s with host := { s.host with heldLow := some (ringBase r, v) } }
  | 4 => writeBase r v s
  | 8 => writeRingCtrl r v s
  | _ => s

/-- Change the set, or while the channel is not IDLE the shadow (R360). -/
def dmaPut (n : Nat) (f : DmaSet → DmaSet) (s : State) : State :=
  let c := dmaCh s n
  if c.phase = .idle then putCh n { c with set := f c.set } s else putCh n { c with shadow := f c.shadow } s

/-- The held low half of the register at `off`, or what it reads as. -/
def heldOr (s : State) (off now : Nat) : Nat :=
  match s.host.heldLow with
  | some (o, w) => if o = off then w.toNat else now
  | none => now

/-- A register of a DMA channel is written (R358, R480). -/
def writeDma (n rel : Nat) (v : Word32) (s : State) : State :=
  let off := 0x2000 + 0x20 * n
  if !hostOwns s n then raise gBus 3 s
  else match rel with
    | 0x00 => { s with host := { s.host with heldLow := some (off, v) } }
    | 0x04 => dmaPut n (fun x => { x with
        src := BitVec.ofNat 64 (v.toNat * 2 ^ 32 + heldOr s off (x.src.toNat % 2 ^ 32)) }) s
    | 0x08 => { s with host := { s.host with heldLow := some (off + 8, v) } }
    | 0x0C => dmaPut n (fun x => { x with
        dst := BitVec.ofNat 64 (v.toNat * 2 ^ 32 + heldOr s (off + 8) (x.dst.toNat % 2 ^ 32)) }) s
    | 0x10 => dmaPut n (fun x => { x with len := v.toNat % 2 ^ 24 }) s
    | 0x14 => dmaCtrlWrite n v s
    | 0x18 =>
      let c := dmaCh s n
      putCh n { c with
        done := c.done && !bit v 4, withdrawn := c.withdrawn && !bit v 5, paceMissed := c.paceMissed && !bit v 6,
        refused := c.refused && !bit v 7 } s
    | _ => s

/-- A register of a core's programmable counter is written (R401): CTRL zeroes COUNT and OVF. -/
def writePmc (i rel : Nat) (v : Word32) (s : State) : State :=
  match rel with
  | 0 => { s with bel := { s.bel with
      pmcCtrl := tset 0xFF00 s.bel.pmcCtrl i (v &&& 0xFF7F), core := terase s.bel.core (9 * (i / 8) + 1 + i % 8) } }
  | 4 => { s with bel := { s.bel with pmcBase := tset 0 s.bel.pmcBase i v } }
  | _ => { s with bel := { s.bel with pmcLimit := tset 0xFFFFFFFF s.bel.pmcLimit i v } }

/-- DMA_CTRL.HOST_CH (R356, R480): channels that it releases while not IDLE stop. -/
def writeHostCh (v : Word32) (s : State) : State :=
  let n : BitVec 4 := v.setWidth 4
  rwl (decide (n ≠ s.host.hostCh)) (fun s =>
    let lost := (List.range 32).filter fun c => hostOwns s c && decide (c < 32 - min 8 n.toNat)
    let s := stopChannels lost s
    { s with host := { s.host with hostCh := n } }) s

/-- TOP_CTR_CTRL (R403). -/
def writeCtrCtrl (v : Word32) (s : State) : State :=
  let s := rwl (bit v 0 != s.host.userEn) (fun s => { s with host := { s.host with userEn := bit v 0 } }) s
  let s := rwl (bit v 1 != s.host.mcExpose) (fun s => { s with host := { s.host with mcExpose := bit v 1 } }) s
  if bit v 2 then { s with bel := { s.bel with ovfClear := true } } else s

/-- The MSI-X table (R482): clearing the mask sends a pending message while the condition is true (R313). -/
def unmaskVector (s : State) : State :=
  let s := { s with host := { s.host with vecMask := false } }
  if s.host.pend ∧ s.host.msixEn ∧ !s.host.funcMask then
    if irqCond s then sendMsix s else { s with host := { s.host with pend := false } }
  else s

/-- The address of the MSI-X table's entry (R482). -/
def putMsixAddr (a : Word64) (s : State) : State := { s with host := { s.host with msixAddr := a } }

/-- A write of the MSI-X table. -/
def writeMsix (off : Nat) (v : Word32) (s : State) : State :=
  let a := s.host.msixAddr.toNat
  if off = 0xF000 then
    putMsixAddr (BitVec.ofNat 64 (a / 2 ^ 32 * 2 ^ 32 + v.toNat)) s
  else if off = 0xF004 then
    putMsixAddr (BitVec.ofNat 64 (v.toNat * 2 ^ 32 + a % 2 ^ 32)) s
  else if off = 0xF008 then { s with host := { s.host with msixData := v } }
  else if off = 0xF00C then
    (if bit v 0 then { s with host := { s.host with vecMask := true } } else unmaskVector s)
  else s

/-- A register other than TOP_STATUS takes a write in service. -/
def writeInService (off : Nat) (v : Word32) (s : State) : State :=
  match ringAt off with
  | some r => writeRing r (off - ringBase r) v s
  | none =>
    if off = 0x18 then (if bit v 0 then { s with host := { s.host with lock := true } } else s)
    else if off = 0x204 then { s with host := { s.host with topEnable := v &&& 0x7FFFF } }
    else if 0x240 ≤ off ∧ off < 0x2D8 then
      let g := (off - 0x240) / 8
      if off % 8 = 0 then
        { s with host := { s.host with causes := tset 0 s.host.causes g (tget 0 s.host.causes g &&& ~~~v) } }
      else { s with host := { s.host with enables := tset 0 s.host.enables g (v &&& causeMask g) } }
    else if off = 0x300 then { s with host := { s.host with dmaDone := s.host.dmaDone &&& ~~~v } }
    else if off = 0x304 then { s with host := { s.host with dmaDoneEn := v &&& 0xFFFFFFF0 } }
    else if off = 0x308 then { s with host := { s.host with dmaHalt := s.host.dmaHalt &&& ~~~v } }
    else if off = 0x30C then { s with host := { s.host with dmaHaltEn := v } }
    else if off = 0x310 then { s with host := { s.host with engCluster := s.host.engCluster &&& ~~~v } }
    else if off = 0x314 then { s with host := { s.host with engClusterEn := v } }
    else if 0x410 ≤ off ∧ off < 0x430 then
      let n := (off - 0x410) / 8
      if off % 8 = 0 then
        rwl (decide (tget 0x18 s.host.winCtrl n ≠ v &&& 0x3F))
          (fun s => { s with host := { s.host with winCtrl := tset 0x18 s.host.winCtrl n (v &&& 0x3F) } }) s
      else
        rwl (decide (tget 0 s.host.winBase n ≠ v))
          (fun s => { s with host := { s.host with winBase := tset 0 s.host.winBase n v } }) s
    else if off = 0x530 then (if bit v 0 then { s with bak := { s.bak with counts := [] } } else s)
    else if off = 0x600 then writeCtrCtrl v s
    else if off = 0x1000 then writeHostCh v s
    else if 0x2080 ≤ off ∧ off < 0x2400 then writeDma ((off - 0x2000) / 0x20) (off % 0x20) v s
    else if 0x3000 ≤ off ∧ off < 0x3200 then writePmc (pmcAt off) (off % 0x10) v s
    else if 0xF000 ≤ off then writeMsix off v s
    else s

/-- A held low half survives only the write of its own high half (R475). -/
def dropHeld (off : Nat) (s : State) : State :=
  match s.host.heldLow with
  | some (o, _) => if off = o then s else { s with host := { s.host with heldLow := none } }
  | none => s

/-- An aligned 32-bit write to an assigned register (R290, R308, R476): until mode entry only HOST_TAG takes it. -/
def writeReg (off : Nat) (v : Word32) (s : State) : State :=
  if !assigned off then badWrite s
  else if off = 8 then
    dropHeld 8 { s with host := { s.host with tag := BitVec.ofNat 16 (v.toNat / 65536) } }
  else if !entered s then s
  else dropHeld off (writeInService off v s)

/-- TOP_SETUP_LOCK (R291). -/
def execTopSetupLock (v : Word32) (s : State) : Host.Outcome State Fault Refusal := finish s (writeReg 0x18 v s)

/-- RING_ENABLE (R294): a write of RING_x_CTRL with EN = 1. -/
def execRingEnable (r : RingId) (v : Word32) (s : State) : Host.Outcome State Fault Refusal :=
  finish s (if bit v 8 then writeReg (ringBase r + 8) v s else s)

/-- RING_DISABLE (R477): a write of RING_x_CTRL with EN = 0. -/
def execRingDisable (r : RingId) (v : Word32) (s : State) : Host.Outcome State Fault Refusal :=
  finish s (if bit v 8 then s else writeReg (ringBase r + 8) v s)

/-- REGISTER_WRITE (R290): of the set-up window, or from 0x10000 of the configuration space (R288). -/
def execRegisterWrite (off : Nat) (v : Word32) (s : State) : Host.Outcome State Fault Refusal :=
  finish s (if off < 0x10000 then writeReg off v s else writeConfig (off - 0x10000) v s)

/-- OVF_CLEAR (R403). -/
def execOvfClear (v : Word32) (s : State) : Host.Outcome State Fault Refusal :=
  finish s (if bit v 2 then writeReg 0x600 v s else s)

/-- COUNT_CLEAR (R418). -/
def execCountClear (v : Word32) (s : State) : Host.Outcome State Fault Refusal :=
  finish s (if bit v 0 then writeReg 0x530 v s else s)

/-- PMC CTRL (R401). -/
def execPmcCtrlWrite (n : Nat) (k : Nat) (v : Word32) (s : State) : Host.Outcome State Fault Refusal :=
  finish s (if n < 4 ∧ k < 8 then writeReg (0x3000 + 0x80 * n + 0x10 * k) v s else s)

-- The counter window (R398, R400, R403).

/-- Power domain of a counter block, none for a block that has none (R400). -/
def blockDomain (b : Nat) : Option Nat := if b < 104 then some b else if b < 108 then some (b + 4) else none

/-- A block's counters read 0 while its domain is off (R400). -/
def blockOn (s : State) (b : Nat) : Bool :=
  match blockDomain b with | some d => decide (tget .off s.pwr.dom d ≠ .off) | none => true

/-- A 64-bit word of the counter window (R398). -/
def counterWord (s : State) (off : Nat) : Word64 :=
  if !s.host.userEn then 0
  else if off = 0 then s.bel.gen.setWidth 64
  else if off = 8 then s.bel.gatherFn.setWidth 64
  else if off < 0x40 then 0
  else if off < 0x160 then (if s.host.mcExpose then tget 0 s.bel.window (1000 + (off - 0x40) / 8) else 0)
  else if off < 0x160 + 32 * 117 then
    (if blockOn s ((off - 0x160) / 32) then tget 0 s.bel.window ((off - 0x160) / 8) else 0)
  else 0

/-- A byte of the counter window (R290): a read may be of any size. -/
def counterByte (s : State) (off : Nat) : Byte := byteAt (toLE 8 (counterWord s (off / 8 * 8)).toNat) (off % 8)

/-- What a read of `n` bytes of a window brings (R289, R290): the set-up window answers aligned 32-bit reads of assigned registers, the
counter window any, and the doorbell window reads 0. -/
def windowRead (s : State) (bar off n : Nat) : Bytes :=
  match bar with
  | 0 => if n = 4 ∧ assigned off then toLE 4 (readReg s off).toNat else List.replicate n 0
  | 2 => (List.range n).map fun i => counterByte s (off + i)
  | _ => List.replicate n 0

end Sys2Proof.Machine
end

