-- ==== Sys2Proof/Machine/Link.lean ====
section
/-! DEFINITION. The PCIe link and the bus matrix as the host meets them: MSI-X masks (R313, R482), PERST_N (R306), the link
becoming unavailable and coming back (R305), bus timeouts (R349) and drains (R354). -/
namespace Sys2Proof.Machine

/-- MSIX_UNMASK (R313): the vector's mask stands in the set-up window, which takes no write until mode entry (R308); the other two in
the configuration space. -/
def execMsixUnmask (op : MsixOp) (s : State) : Host.Outcome State Fault Refusal :=
  finish s (match op with
    | .vector => writeReg 0xF00C 0 s
    | .function => unmaskFunction s
    | .enable => if s.host.msixEn then s else enableMsix s)

/-- PERST_N is asserted (R306): the windows take their Warm values, held completions and fetched commands go, MSI-X and
the link reset, and RST.PERST is raised; events queued are held from now on (R301). Nothing else changes. -/
def perstOn (old : State) : State :=
  let s := startDrain [6] (dropToks (windowsWarm (perstDma old)))
  let s := { s with host := { s.host with
    perst := true, linkUp := false, busMaster := false, d3hot := false, msixEn := false, funcMask := false,
    vecMask := true, pend := false, msixAddr := 0, msixData := 0, pcie := {} } }
  noteHeld old (raise gRst 4 s)

/-- PERST_N (R306). -/
def execPerstN (low : Bool) (s : State) : Host.Outcome State Fault Refusal :=
  finish s (if low = s.host.perst then s
    else if low then perstOn s
    else { s with host := { s.host with perst := false } })

/-- LINK_UNAVAILABLE (R305): a link that goes down resets the host inbound master (R344). -/
def execLinkUnavailable (why : LinkLoss) (s : State) : Host.Outcome State Fault Refusal :=
  finish s (noteHeld s (match why with
    | .busMaster => { s with host := { s.host with busMaster := false } }
    | .d3hot => { s with host := { s.host with d3hot := true } }
    | .down => startDrain [6] { s with host := { s.host with linkUp := false } }))

/-- LINK_RESTORED (R305): the module resumes where it stopped. A link comes up only where the interface is out of reset (R308). -/
def execLinkRestored (why : LinkLoss) (s : State) : Host.Outcome State Fault Refusal :=
  finish s (if s.host.perst ∨ !pastStep6 s then s else match why with
    | .busMaster => { s with host := { s.host with busMaster := true } }
    | .d3hot => { s with host := { s.host with d3hot := false } }
    | .down => { s with host := { s.host with linkUp := true } })

/-- BUS_TIMEOUT (R348, R349): the matrix answers with a target error, which counts as an error and a timeout; writes to T9,
the DMA write engine's only accesses there, are posted and have no timeout. -/
def execBusTimeout (target : Nat) (master : Nat) (s : State) : Host.Outcome State Fault Refusal :=
  finish s (if 10 < target ∨ 7 < master ∨ (target = 9 ∧ master = 5) then s else raise gBus 1 (bump 108 2 1 (bump 108 1 1 s)))

/-- BUS_DRAIN_DONE (R354): the master leaves reset and BUS.DRAIN is raised. -/
def execBusDrainDone (master : Nat) (s : State) : Host.Outcome State Fault Refusal :=
  finish s (if s.dma.draining.contains master then
    raise gBus 2 (bump 108 3 1 { s with dma := { s.dma with draining := s.dma.draining.filter (· != master) } })
  else s)

end Sys2Proof.Machine
end

