-- ==== Sys2Proof/Machine/Pmbus.lean ====
section
/-! DEFINITION. The I2C target and its PMBus commands (R314 to R316). -/
namespace Sys2Proof.Machine

/-- The target acknowledges: in every mode and reset but an asserted cold reset (R314). -/
def i2cAcks (s : State) : Bool := decide (s.rst.phase ≠ .coldAsserted)

/-- The 7-bit address (R314). -/
def i2cAddress (s : State) : Nat := 0x58 + s.i2c.addr.toNat

/-- One byte of the SMBus packet error code, x^8 + x^2 + x + 1. -/
def crc8Byte (c b : Byte) : Byte :=
  (List.range 8).foldl (fun r _ => if bit r 7 then (r <<< 1) ^^^ 0x07 else r <<< 1) (c ^^^ b)

/-- The PEC of a read: over both address bytes, the command and the data (R314). -/
def readPec (s : State) (code : Byte) (bs : Bytes) : Byte :=
  let a := BitVec.ofNat 8 (2 * i2cAddress s)
  ([a, code, a ||| 1] ++ bs).foldl crc8Byte 0

/-- A read transaction: its data, then the PEC. -/
def i2cRead (code : Byte) (bs : Bytes) (s : State) : State :=
  if i2cAcks s then { s with i2c := { s.i2c with acked := true, reply := bs ++ [readPec s code bs] } }
  else { s with i2c := { s.i2c with acked := false, reply := [] } }

/-- A block: its length, then its bytes. -/
def block (bs : Bytes) : Bytes := BitVec.ofNat 8 bs.length :: bs

/-- Set bits of STATUS_CML. -/
def setCml (b : Nat) (s : State) : State := { s with i2c := { s.i2c with cml := putBit s.i2c.cml b true } }

/-- A transaction without a reply: its effect where the target acknowledges it. -/
def i2cWrite (act : State → State) (s : State) : State :=
  let ok := i2cAcks s
  let s := { s with i2c := { s.i2c with acked := ok, reply := [] } }
  if ok then act s else s

/-- PGOOD is high (R415): past step 6 and the supply good; a domain out of regulation is no longer on (R423). -/
def pgood (s : State) : Bool :=
  s.rst.vinGood && (match s.rst.phase with
    | .coldAsserted => false
    | .coldRelease => decide (6 ≤ s.rst.step)
    | _ => true)

/-- STATUS_INPUT (R315). -/
def statusInput (s : State) : Nat := 0x80 * nat01 s.pwr.seen80 + 0x40 * nat01 s.pwr.above60 + 0x20 * nat01 s.pwr.pfwSeen

/-- STATUS_TEMPERATURE (R315). -/
def statusTemperature (s : State) : Nat :=
  0x80 * nat01 (s.pwr.tripped && decide (s.bak.last = 0x0C)) + 0x40 * nat01 s.pwr.hot

/-- STATUS_MFR_SPECIFIC (R315). -/
def statusMfr (s : State) : Nat :=
  nat01 (decide (s.mode.mode = .safe)) + 2 * nat01 (decide (s.mode.mode = .isolated)) +
    4 * nat01 (decide (s.tim.dpll = 0 ∨ s.tim.dpll = 3)) + 8 * nat01 (irqCond s)

/-- STATUS_WORD (R315). -/
def statusWordOf (s : State) : Nat :=
  2 * nat01 (s.i2c.cml != 0) + 4 * nat01 (statusTemperature s != 0) + 8 * nat01 s.pwr.pfw +
    0x40 * nat01 (decide (s.mode.mode = .boot ∨ s.mode.mode = .safe)) + 0x800 * nat01 (!pgood s) +
    0x1000 * nat01 (statusMfr s != 0) + 0x2000 * nat01 (statusInput s != 0)

/-- CLEAR_FAULTS: the STATUS bits fall, except those whose condition stands, and the latched trip (R315, R420). -/
def clearFaults (s : State) : State :=
  { s with
    i2c := { s.i2c with cml := 0 },
    pwr := { s.pwr with tripped := false, seen80 := decide (80000 < s.pwr.vin), pfwSeen := s.pwr.pfw } }

/-- CLEAR_FAULTS: not executed where a PEC came and was wrong. -/
def execClearFaults (pec : Pec) (s : State) : Host.Outcome State Fault Refusal :=
  finish s (i2cWrite (fun s => if pec = .wrong then setCml 5 s else clearFaults s) s)

/-- CAPABILITY. -/
def execCapability (_pec : Pec) (s : State) : Host.Outcome State Fault Refusal := finish s (i2cRead 0x19 [0xC0] s)

/-- STATUS_WORD. -/
def execStatusWord (_pec : Pec) (s : State) : Host.Outcome State Fault Refusal :=
  finish s (i2cRead 0x79 (toLE 2 (statusWordOf s)) s)

/-- STATUS_INPUT. -/
def execStatusInput (_pec : Pec) (s : State) : Host.Outcome State Fault Refusal :=
  finish s (i2cRead 0x7C (toLE 1 (statusInput s)) s)

/-- STATUS_TEMPERATURE. -/
def execStatusTemperature (_pec : Pec) (s : State) : Host.Outcome State Fault Refusal :=
  finish s (i2cRead 0x7D (toLE 1 (statusTemperature s)) s)

/-- STATUS_CML. -/
def execStatusCml (_pec : Pec) (s : State) : Host.Outcome State Fault Refusal := finish s (i2cRead 0x7E [s.i2c.cml] s)

/-- STATUS_MFR_SPECIFIC. -/
def execStatusMfrSpecific (_pec : Pec) (s : State) : Host.Outcome State Fault Refusal :=
  finish s (i2cRead 0x80 (toLE 1 (statusMfr s)) s)

/-- A reading in thousandths over 2^e, rounded down. -/
def scaled (v e : Int) : Int :=
  if e < 0 then v * 2 ^ (-e).toNat / 1000 else v / (1000 * 2 ^ e.toNat)

/-- The mantissa is one of 11 bits, rounded either way. -/
def mantissaFits (m : Int) : Bool := decide (-1024 ≤ m) && decide (m ≤ 1022)

/-- The least exponent at which 11 bits hold a reading. -/
def leastExp (v : Int) : Int :=
  (((List.range 32).map fun (i : Nat) => (i : Int) - 16).find? fun e => mantissaFits (scaled v e)).getD 15

/-- LINEAR11 of a reading in thousandths (R314): mantissa times 2^exponent, one of the two words nearest the reading at an exponent
that holds it. -/
def linear11 (v : Int) : Word16 :=
  let e0 := leastExp v
  let e := e0 + ((Config.linearExp v % (16 - e0).toNat : Nat) : Int)
  let m := scaled v e + (if Config.linearUp v then 1 else 0)
  (BitVec.ofInt 5 e ++ BitVec.ofInt 11 m : BitVec 16)

/-- A reading in thousandths as LINEAR11 (R314). -/
def reading (v : Int) : Bytes := toLE 2 (linear11 v).toNat

/-- READ_VIN. -/
def execReadVin (_pec : Pec) (s : State) : Host.Outcome State Fault Refusal := finish s (i2cRead 0x88 (reading s.pwr.vin) s)

/-- The present input current, in milliamperes: a measurement. -/
def withCurrent (f : Nat → State → State) (s : State) : State :=
  f (Config.inputPower s.draws) { s with draws := s.draws + 1 }

/-- READ_IIN. -/
def execReadIin (_pec : Pec) (s : State) : Host.Outcome State Fault Refusal :=
  finish s (withCurrent (fun i s => i2cRead 0x89 (reading i) s) s)

/-- READ_TEMPERATURE_1: the hottest valid junction sensor. -/
def execReadTemperature1 (_pec : Pec) (s : State) : Host.Outcome State Fault Refusal :=
  finish s (i2cRead 0x8D (reading (100 * hottest s)) s)

/-- READ_PIN: volts times amperes. -/
def execReadPin (_pec : Pec) (s : State) : Host.Outcome State Fault Refusal :=
  finish s (withCurrent (fun i s => i2cRead 0x97 (reading ((i * s.pwr.vin / 1000 : Nat) : Int)) s) s)

/-- PMBUS_REVISION. -/
def execPmbusRevision (_pec : Pec) (s : State) : Host.Outcome State Fault Refusal := finish s (i2cRead 0x98 [0x33] s)

/-- MFR_ID. -/
def execMfrId (_pec : Pec) (s : State) : Host.Outcome State Fault Refusal :=
  finish s (i2cRead 0x99 (block (ascii "GELFIRIL")) s)

/-- MFR_MODEL. -/
def execMfrModel (_pec : Pec) (s : State) : Host.Outcome State Fault Refusal :=
  finish s (i2cRead 0x9A (block (ascii "PHK-2548-LA")) s)

/-- MFR_REVISION. -/
def execMfrRevision (_pec : Pec) (s : State) : Host.Outcome State Fault Refusal :=
  finish s (i2cRead 0x9B (block (Config.revisionText s.fuse.silicon s.img.version)) s)

/-- MFR_SERIAL. -/
def execMfrSerial (_pec : Pec) (s : State) : Host.Outcome State Fault Refusal :=
  finish s (i2cRead 0x9E (block (fit 16 s.fuse.serial)) s)

/-- The eight bytes of MFR_MODULE_STATE (R315): mode 0 and TOP_SUMMARY 0 while the control hierarchy is in reset. -/
def moduleState (s : State) : Bytes :=
  let inReset := decide (s.rst.phase ≠ .running)
  let m := if inReset then 0 else modeCode s.mode.mode + 16 * syncCode s
  [BitVec.ofNat 8 m, s.tim.dpll.setWidth 8] ++ toLE 4 (if inReset then 0 else (topSummary s).toNat) ++
    [BitVec.ofNat 8 (nat01 inReset), 0]

/-- MFR_MODULE_STATE. -/
def execMfrModuleState (_pec : Pec) (s : State) : Host.Outcome State Fault Refusal :=
  finish s (i2cRead 0xD0 (block (moduleState s)) s)

/-- MFR_RESET (R316): the PEC present and correct, then a key. -/
def mfrReset (pec : Pec) (key : Word32) (s : State) : State :=
  if pec ≠ .correct then setCml 5 s
  else if key = 0x5AFEC01D then assertCold 8 s
  else if key = 0x5AFE3A53 then assertWarm 9 s
  else setCml 6 s

/-- MFR_RESET. -/
def execMfrReset (pec : Pec) (key : Word32) (s : State) : Host.Outcome State Fault Refusal :=
  finish s (i2cWrite (mfrReset pec key) s)

/-- MFR_RESET_HISTORY. -/
def execMfrResetHistory (_pec : Pec) (s : State) : Host.Outcome State Fault Refusal :=
  finish s (i2cRead 0xD2 (block (toLE 4 s.bak.total.toNat ++ [s.bak.last, 0, 0, 0])) s)

/-- MFR_READ_VBAK. -/
def execMfrReadVbak (_pec : Pec) (s : State) : Host.Outcome State Fault Refusal :=
  finish s (i2cRead 0xD3 (reading s.pwr.vbak) s)

/-- An unsupported command, or a transaction of the wrong length or direction (R315). -/
def execI2cInvalidCommand (badData : Bool) (s : State) : Host.Outcome State Fault Refusal :=
  finish s (i2cWrite (setCml (if badData then 6 else 7)) s)

end Sys2Proof.Machine
end

