-- ==== Sys2Proof/Machine/ProtCmds.lean ====
section
/-! DEFINITION. The protection commands: PROT_CONFIG, PROT_COMMAND and SNCP_PROFILE (R181, R189 to R193, R195, R197, R199,
R333). -/
namespace Sys2Proof.Machine

/-- PROT_CONFIG against R35 (R333): OBJECT is byte 0; every action is a waiting command and waits for a warning to end. -/
def protChecks (s : State) (len : Nat) (fields : List (Nat × Nat)) (ok : Bool) (o : ObjKey) : Checks :=
  { lens := [len], fields := fields, argsOk := ok, modes := configModes,
    object := orRefuse (followerRefusal s) (busyRefusal s [o]), waits := true, pfwWaits := true }

/-- A lane belongs to a linear group other than `g`, or to a ring other than `r` (R197). -/
def laneTaken (s : State) (l : Nat) (g r : Option Nat) : Bool :=
  (s.cfg.linear.any fun x => decide (some x.1 ≠ g) && (x.2.prot :: x.2.work).contains l) ||
    s.cfg.rings.any fun x => decide (some x.1 ≠ r) && (decide (x.2.east = l) || decide (x.2.west = l))

/-- HOLD_OFF and WTR of a group or ring (R197). -/
def timesOk (hold wtr : Nat) : Bool := decide (hold ≤ 100) && decide (1 ≤ wtr ∧ wtr ≤ 12)

-- Linear groups.

/-- The linear group that PROT_CONFIG carries (R333). -/
def linearOf (c : CmdEntry) : LinearCfg :=
  { oneToN := decide (arg c 2 1 = 1), n := arg c 3 1, bidir := argBit c 4 0, revertive := argBit c 4 1,
    extra := argBit c 4 2, sdEn := argBit c 4 3, holdOff := arg c 5 1, wtr := arg c 6 1, prot := arg c 7 1,
    work := (List.range (arg c 3 1)).map fun i => arg c (8 + i) 1 }

/-- R197 and R333 on the entry itself. -/
def linearOk (c : CmdEntry) : Bool :=
  let g := linearOf c
  decide (arg c 1 1 ≤ 63) && decide (arg c 2 1 ≤ 1) && (if g.oneToN then decide (1 ≤ g.n ∧ g.n ≤ 14) else decide (g.n = 1)) &&
    decide (argBits c 4 4 4 = 0) && (!g.oneToN || g.revertive) && (g.oneToN || !g.extra) && timesOk g.holdOff g.wtr &&
    (g.prot :: g.work).all (fun l => decide (l ≤ 127)) && decide (g.prot :: g.work).Nodup &&
    (List.range 14).all fun i => decide (i < g.n) || decide (arg c (8 + i) 1 = 0xFF)

/-- R197 on present configuration: one single-lane mode from 0x01 to 0x0B, every lane bound and in no other group. -/
def linearFits (s : State) (i : Nat) (g : LinearCfg) : Bool :=
  let m := laneMode s.cfg g.prot
  decide (1 ≤ m ∧ m ≤ 0xB) && (g.prot :: g.work).all fun l =>
    decide (laneMode s.cfg l = m) && !(portsOfLane s.cfg l).isEmpty && !laneTaken s l (some i) none

/-- PROT_CONFIG linear group against R35. -/
def linearChecks (s : State) (c : CmdEntry) : Checks := protChecks s 24 [(0, 176)] (linearOk c) (2, arg c 1 1)

/-- PROT_CONFIG linear group (R197). -/
def execProtConfigLinearGroup (c : CmdEntry) (s : State) : Host.Outcome State Fault Refusal :=
  let g := linearOf c
  let i := arg c 1 1
  finish s (runCmd 0x30 (arg c 0 1 == 0) c (linearChecks s c) (fun tok s =>
    if linearFits s i g then atBoundary tok (.linear i g) s else refuse tok stBadArgument [] s) s)

-- Rings.

/-- The ring that PROT_CONFIG carries, less its squelch table (R333). -/
def ringOf (c : CmdEntry) : RingCfg :=
  { east := arg c 2 1, west := arg c 3 1, node := arg c 4 1, map := (List.range (arg c 5 1)).map fun i => arg c (16 + i) 1,
    extra := argBit c 6 0, holdOff := arg c 7 1, wtr := arg c 8 1, squelch := [] }

/-- R199 and R333 on the entry itself. -/
def ringOk (c : CmdEntry) : Bool :=
  let r := ringOf c
  decide (arg c 1 1 ≤ 31) && decide (r.east ≤ 127 ∧ r.west ≤ 127 ∧ r.east ≠ r.west) && decide (r.node ≤ 15) &&
    decide (2 ≤ arg c 5 1 ∧ arg c 5 1 ≤ 16) && decide (argBits c 6 1 7 = 0) && timesOk r.holdOff r.wtr &&
    r.map.all (fun n => decide (n ≤ 15)) && decide r.map.Nodup && r.map.contains r.node &&
    (List.range 16).all (fun i => decide (i < arg c 5 1) || decide (arg c (16 + i) 1 = 0xFF)) && descOk (descAt c 32) false

/-- R199 on present configuration. -/
def ringFits (s : State) (i : Nat) (r : RingCfg) : Bool :=
  let m := laneMode s.cfg r.east
  (decide (m = 3) || decide (m = 4) || decide (8 ≤ m ∧ m ≤ 0xB)) && [r.east, r.west].all fun l =>
    decide (laneMode s.cfg l = m) && !(portsOfLane s.cfg l).isEmpty && !laneTaken s l none (some i)

/-- The squelch table (R199, R333): nodes 0 to 15 or 0xFF, and 0xFF beyond H. -/
def squelchOk (h : Nat) (b : Bytes) : Bool :=
  (List.range 192).all fun i =>
    let pair := slice b (2 * i) 2
    if i % 96 < h then pair.all fun x => decide (x.toNat ≤ 15 ∨ x = 0xFF) else pair.all (· == 0xFF)

/-- PROT_CONFIG ring against R35: it names the 384 bytes of the squelch map. -/
def ringChecks (s : State) (c : CmdEntry) : Checks :=
  { protChecks s 48 [(0, 72), (128, 128), descField 32] (ringOk c) (3, arg c 1 1) with
    lengthOk := descLenOk (descAt c 32) (· == 384), buffer := true }

/-- PROT_CONFIG ring (R199). -/
def execProtConfigRing (c : CmdEntry) (s : State) : Host.Outcome State Fault Refusal :=
  let r := ringOf c
  let i := arg c 1 1
  finish s (runCmd 0x30 (arg c 0 1 == 1) c (ringChecks s c) (fun tok s =>
    if !ringFits s i r then refuse tok stBadArgument [] s
    else withRead tok (descAt c 32) (· == 384) noFields (fun b s =>
      if squelchOk (ringH s r) b then atBoundary tok (.ring i { r with squelch := b }) s
      else refuse tok stBadArgument [] s) s) s)

-- Normal remap versions.

/-- An entry of a normal version (R194, R195). -/
def remapOk (c : Cfg) (e : Word64) : Bool :=
  let lane := fun fp sl => slotBacked c (gsOf fp sl)
  fld e 18 14 == 0 && fld e 50 14 == 0 && decide (rInSlot e ≤ 191) && decide (rEgSlot e ≤ 191) && decide (rInAct e ≠ 3) &&
    (decide (rInAct e ≠ 0) || lane (rInFp e) (rInSlot e)) &&
    (match rEgAct e with
      | 0 => decide (tget .unbound c.ports (rEgFp e) ≠ .unbound)
      | 1 => lane (rEgFp e) (rEgSlot e)
      | _ => true)

/-- The fabric port is one of a linear group (R195). -/
def portInLinear (s : State) (fp : Nat) : Bool := s.cfg.linear.any fun g => (linearPorts s.cfg g.2).contains fp

/-- PROT_CONFIG normal remap version against R35: it names the port's 1,536 bytes. -/
def remapChecks (s : State) (c : CmdEntry) : Checks :=
  { protChecks s 24 [(0, 16), descField 8] (descOk (descAt c 8) false) (1, arg c 1 1) with
    lengthOk := descLenOk (descAt c 8) (· == 1536), buffer := true,
    object := orRefuse (followerRefusal s) (orRefuse
      (if portInLinear s (arg c 1 1) then some (stWrongState, 1, 0) else none) (busyRefusal s [(1, arg c 1 1)])) }

/-- PROT_CONFIG normal remap version (R195). -/
def execProtConfigRemap (c : CmdEntry) (s : State) : Host.Outcome State Fault Refusal :=
  let fp := arg c 1 1
  finish s (runCmd 0x30 (arg c 0 1 == 2) c (remapChecks s c) (fun tok s =>
    withRead tok (descAt c 8) (· == 1536) noFields (fun b s =>
      let es : List Word64 := (List.range 192).map fun i => BitVec.ofNat 64 (le b (8 * i) 8)
      if es.all (remapOk s.cfg) then atBoundary tok (.remap fp es) s else refuse tok stBadArgument [] s) s) s)

-- VBL distrust and deletion.

/-- PROT_CONFIG VBL distrust against R35: FLIP_LIMIT 0 or from 64, TRUST_DELAY 10 to 3,600. -/
def distrustChecks (s : State) (c : CmdEntry) : Checks :=
  protChecks s 8 [(0, 48)] (decide (arg c 1 1 ≤ 127) && decide (arg c 2 2 = 0 ∨ 64 ≤ arg c 2 2) &&
    decide (10 ≤ arg c 4 2 ∧ arg c 4 2 ≤ 3600)) (0, arg c 1 1)

/-- PROT_CONFIG VBL distrust (R181). -/
def execProtConfigVblDistrust (c : CmdEntry) (s : State) : Host.Outcome State Fault Refusal :=
  finish s (runCmd 0x30 (arg c 0 1 == 3) c (distrustChecks s c)
    (fun tok s => atBoundary tok (.distrust (arg c 1 1) (arg c 2 2) (arg c 4 2)) s) s)

/-- PROT_CONFIG DELETE against R35: OBJECT 5 is a ring, 4 a linear group. -/
def deleteChecks (s : State) (c : CmdEntry) : Checks :=
  let ring := decide (arg c 0 1 = 5)
  protChecks s 8 [(0, 16)] (if ring then decide (arg c 1 1 ≤ 31) else decide (arg c 1 1 ≤ 63))
    (if ring then 3 else 2, arg c 1 1)

/-- PROT_CONFIG DELETE (R333): of an object that is not configured it completes at once. -/
def execProtConfigDelete (c : CmdEntry) (s : State) : Host.Outcome State Fault Refusal :=
  let i := arg c 1 1
  let ring := decide (arg c 0 1 = 5)
  finish s (runCmd 0x30 (arg c 0 1 == 4 || arg c 0 1 == 5) c (deleteChecks s c) (fun tok s =>
    if ring then
      if (tfind s.cfg.rings i).isSome then atBoundary tok (.delRing i) s else completeOk tok [] s
    else if (tfind s.cfg.linear i).isSome then atBoundary tok (.delLinear i) s
    else completeOk tok [] s) s)

-- PROT_COMMAND.

/-- The object that PROT_COMMAND names (R191, R333): a member of a block stands for its head. -/
def protObj (s : State) (c : CmdEntry) : ProtObj :=
  let i := arg c 4 4
  match arg c 0 1 with
  | 0 =>
    let t := (tierOf (arg c 1 1)).getD .ho
    .sel t (if t = .ho then headOf s.page.live i else i)
  | 1 => .linear i
  | 2 => .ring i
  | _ => .lane i

/-- Requests that an object allows (R191). -/
def requestOk (obj req : Nat) : Bool :=
  match obj with
  | 0 => decide (req ≤ 4)
  | 1 => decide (req ≤ 5)
  | 2 => decide (req ≤ 3 ∨ req = 5)
  | _ => decide (req = 0x10 ∨ req = 0x11)

/-- R191 and R333 on the entry itself. -/
def protArgs (c : CmdEntry) : Bool :=
  let obj := arg c 0 1
  let tier := arg c 1 1
  let chan := arg c 3 1
  let i := arg c 4 4
  decide (obj ≤ 3) && requestOk obj (arg c 2 1) &&
    (match obj with
      | 0 => decide (chan = 0) && (match tierOf tier with | some t => decide (i < tierSize t) | none => false)
      | 1 => decide (tier = 0 ∧ chan ≤ 14 ∧ i ≤ 63)
      | 2 => decide (tier = 0 ∧ chan ≤ 1 ∧ i ≤ 31)
      | _ => decide (tier = 0 ∧ chan = 0 ∧ i ≤ 127))

/-- A request that outranks a command of rank `n` stands at a linear group, its own or the far end's (R192). -/
def linearOutranks (s : State) (g n : Nat) : Bool :=
  match tfind s.cfg.linear g with
  | some c =>
    let a := apsOf s false g
    decide (n < linearRank ⟨a.req, a.chan⟩) || (c.bidir && decide (n < linearRank (linearRemote c a (kbOf s c.prot))))
  | none => false

/-- The same at a ring. -/
def ringOutranks (s : State) (g n : Nat) : Bool :=
  match tfind s.cfg.rings g with
  | some r =>
    let a := apsOf s true g
    let far := fun (z : Nat) => (ringRemote r a (kbOf s (sideLane r z)) z).code
    decide (n < if a.wtr.isSome then 5 else a.req) || decide (n < far 0) || decide (n < far 1) ||
      [r.east, r.west].any fun l => decide (n < ringPasses r a (kbOf s l))
  | none => false

/-- A request of higher priority than `req` stands at an object (R192). -/
def outranked (s : State) (o : ProtObj) (req side : Nat) : Bool :=
  let held := match extHeld s (extKey o side) with | some x => x.req.toNat | none => 0
  match o, req with
  | _, 2 => decide (held = 1)
  | .sel t i, 3 => decide (held = 1 ∨ held = 2) || (fails t i)
  | .sel t i, 4 => decide (held = 1 ∨ held = 2) || (fails t i)
  | .linear g, 3 => decide (held = 1 ∨ held = 2) || linearOutranks s g 16
  | .linear g, 4 => decide (held = 1 ∨ held = 2) || linearOutranks s g 16
  | .linear g, 5 => decide (1 ≤ held ∧ held ≤ 4) || linearOutranks s g 8
  | .ring g, 3 => decide (held = 1 ∨ held = 2) || ringOutranks s g 6
  | .ring g, 5 => decide (1 ≤ held ∧ held ≤ 3) || ringOutranks s g 3
  | _, _ => false
where
  fails (t : Tier) (i : Nat) : Bool :=
    let x := tget {} s.prot.sel (selKey t i)
    decide (x.condA ≠ .ok ∨ x.condB ≠ .ok)

/-- The object is protected (R192). -/
def isProtected (s : State) : ProtObj → Bool
  | .sel t i => hasSelector s.page.live t i (entryAt s.page.live t i)
  | .linear g => (tfind s.cfg.linear g).isSome
  | .ring r => (tfind s.cfg.rings r).isSome
  | .lane _ => true

/-- What PROT_COMMAND names in terms of R319. -/
def protHeld : ProtObj → ObjKey
  | .sel t i => (5, selKey t i) | .linear g => (2, g) | .ring r => (3, r) | .lane l => (0, l)

/-- PROT_COMMAND against R35. -/
def protCmdChecks (s : State) (c : CmdEntry) : Checks :=
  let o := protObj s c
  { lens := [8], fields := [(0, 64)], argsOk := protArgs c, modes := configModes,
    object := orRefuse (followerRefusal s) (orRefuse
      (if !isProtected s o then some (stWrongState, 1, 0)
       else if outranked s o (arg c 2 1) (arg c 3 1) then some (stWrongState, 2, 0) else none) (busyRefusal s [protHeld o])),
    waits := true, pfwWaits := true }

/-- The request and channel suit the object's configuration (R191). -/
def requestFits (s : State) (o : ProtObj) (req chan : Nat) : Bool :=
  match o with
  | .linear g =>
    (match tfind s.cfg.linear g with
      | some l =>
        (decide (req ≠ 4) || (!l.oneToN && !l.revertive)) &&
          (if l.oneToN then decide (chan ≤ l.n) && (decide (1 ≤ chan) || decide (req = 0)) else decide (chan = 0))
      | none => false)
  | .lane l => decide (laneMode s.cfg l = 0x18)
  | _ => true

/-- PROT_COMMAND (R192, R193): the request takes effect at F = FN + 8. -/
def execProtCommand (c : CmdEntry) (s : State) : Host.Outcome State Fault Refusal :=
  finish s (runCmd 0x31 true c (protCmdChecks s c) (fun tok s =>
    let o := protObj s c
    let req := arg c 2 1
    let chan := arg c 3 1
    if !requestFits s o req chan then refuse tok stBadArgument [] s
    else
      let f := s.clk.fn + 8
      mirrorConfig (schedule f (some tok) true (.ext o (BitVec.ofNat 8 req) chan) (res [(0, 6, f.toNat)]) s)) s)

-- SNCP_PROFILE.

/-- SNCP_PROFILE against R35. -/
def profileChecks (s : State) (c : CmdEntry) : Checks :=
  let read := argBit c 1 0
  let r : Word64 := BitVec.ofNat 64 (arg c 8 8)
  { lens := [16], fields := [(0, 9), (64, 64)],
    argsOk := decide (arg c 0 1 ≤ 63) && (if read then decide (r = 0) else profileOk r), modes := configModes,
    object := orRefuse (if read then none else followerRefusal s) (busyRefusal s [(4, arg c 0 1)]), waits := !read,
    pfwWaits := !read }

/-- SNCP_PROFILE (R189, R190). -/
def execSncpProfile (c : CmdEntry) (s : State) : Host.Outcome State Fault Refusal :=
  finish s (runCmd 0x32 (!argBit c 1 0) c (profileChecks s c)
    (fun tok s => atBoundary tok (.profile (arg c 0 1) (BitVec.ofNat 64 (arg c 8 8))) s) s)

/-- SNCP_PROFILE READ (R333). -/
def execSncpProfileRead (c : CmdEntry) (s : State) : Host.Outcome State Fault Refusal :=
  finish s (runCmd 0x32 (argBit c 1 0) c (profileChecks s c)
    (fun tok s => complete tok stOk 0 (profileOf s (arg c 0 1)) s) s)

end Sys2Proof.Machine
end

