-- ==== Sys2Proof/Machine/ResetRows.lean ====
section
/-! DEFINITION. What asserts and releases resets (R404 to R412), the Gander watchdog (R419), the thermal trip and the sensors
(R420), the oscillator (R425), the power-fail warning (R426, R427), the battery (R417) and the supply (R460). -/
namespace Sys2Proof.Machine

/-- DEBUG_RESET (R404): through the open debug port. -/
def execDebugReset (s : State) : Host.Outcome State Fault Refusal :=
  finish s (if s.dbg.opened then assertWarm 0x0F s else s)

/-- POWER_ON (R404, R416): VIN falls below the UVLO threshold, or has risen through its own, where A0 to A2 are sampled (R314). Below
1.8 V on VBAK the BAK contents do not outlast the supply. -/
def powerOn (rising : Bool) (pins : BitVec 3) (s : State) : State :=
  if rising then { s with rst := { s.rst with vinGood := true }, i2c := { s.i2c with addr := pins } }
  else
    let s := assertCold 1 s
    { s with
      rst := { s.rst with vinGood := false, thermHold := false },
      bak := { s.bak with valid := s.bak.valid && decide (1800 ≤ s.pwr.vbak) } }

/-- POWER_ON. -/
def execPowerOn (x : SupplyEdge) (s : State) : Host.Outcome State Fault Refusal := finish s (powerOn x.rising x.pins s)

/-- RAIL_FAULT (R404): an AON or unswitched rail, or PD104, PD108 or PD111. -/
def execRailFault (pd : Option Nat) (s : State) : Host.Outcome State Fault Refusal :=
  let counts := match pd with | none => true | some d => [104, 108, 111].contains d
  finish s (if counts then assertCold 2 s else s)

/-- CLOCK_FAULT (R425): XO_IN is lost in service; the release then holds at step 6. -/
def execClockFault (s : State) : Host.Outcome State Fault Refusal :=
  finish s (if s.tim.running then
    let s := assertCold 3 s
    { s with rst := { s.rst with xoOk := false } }
  else s)

/-- COLD_PIN (R407): the reset stays asserted while the pin is low. -/
def coldPin (low : Bool) (s : State) : State :=
  let s := if low ∧ !s.rst.coldPin then assertCold 4 s else s
  { s with rst := { s.rst with coldPin := low } }

/-- COLD_PIN. -/
def execColdPin (low : Bool) (s : State) : Host.Outcome State Fault Refusal := finish s (coldPin low s)

/-- WARM_PIN (R407). -/
def warmPin (low : Bool) (s : State) : State :=
  let s := if low ∧ !s.rst.warmPin then assertWarm 5 s else s
  { s with rst := { s.rst with warmPin := low } }

/-- WARM_PIN. -/
def execWarmPin (low : Bool) (s : State) : Host.Outcome State Fault Refusal := finish s (warmPin low s)

/-- GANDER_WARM (R419): a gap of 1 s between mode entry and the next reset, in every mode: a restart into SAFE is no reset
(R404). -/
def execGanderWarm (s : State) : Host.Outcome State Fault Refusal :=
  finish s (if s.rst.phase = .running ∧ 8000 ≤ s.rst.kickTicks then assertWarm 0x0A s else s)

/-- GANDER_KICK (R419). -/
def execGanderKick (s : State) : Host.Outcome State Fault Refusal :=
  finish s { s with rst := { s.rst with kickTicks := 0 } }

/-- GANDER_COLD (R410): 2 s from step 7 without mode entry. -/
def execGanderCold (s : State) : Host.Outcome State Fault Refusal :=
  finish s (if s.rst.phase ≠ .running ∧ 16000 ≤ s.rst.relTicks.getD 0 then assertCold 0x0B s else s)

-- Sensors.

/-- The hottest junction reads a value: no valid sensor reads more, and the hottest one reads it. -/
def readHottest (tenths : Int) (s : State) : State :=
  let top := hottest s
  let read := fun (i : Nat) => tget 250 s.pwr.temps i
  let valid := (List.range 12).filter fun i => !s.pwr.excluded.contains i
  let idx := (valid.find? fun i => decide (read i = top)).getD 0
  let temps := valid.foldl (fun m i => tset 250 m i (if i = idx then tenths else min (read i) tenths)) s.pwr.temps
  { s with pwr := { s.pwr with temps := temps } }

/-- THERMAL (R420): the hottest sensor reads 155 °C or more; THERM_N stays low and the reset stays asserted. -/
def thermal (s : State) : State :=
  if hottest s < 1550 then s
  else
    let s := assertCold 0x0C s
    { s with rst := { s.rst with thermHold := true }, pwr := { s.pwr with tripped := true } }

/-- THERMAL. -/
def execThermal (s : State) : Host.Outcome State Fault Refusal := finish s (thermal s)

/-- THERMAL_TRIP_CLEAR (R420): the sensor that tripped reads below 140 °C. -/
def execThermalTripClear (tenths : Int) (s : State) : Host.Outcome State Fault Refusal :=
  finish s (if s.rst.thermHold ∧ tenths < 1400 then
    let s := readHottest tenths s
    { s with rst := { s.rst with thermHold := false }, pwr := { s.pwr with hot := false } }
  else s)

/-- THERMAL_WARN (R310, R420): a reading of the hottest junction; crossing 140 °C raises THERM.WARN or WARN_CLEAR. -/
def thermalWarn (tenths : Int) (s : State) : State :=
  let s := readHottest tenths s
  let hot := decide (1400 ≤ tenths)
  if hot = s.pwr.hot then s
  else envNote gTherm (if hot then 0 else 1) { s with pwr := { s.pwr with hot := hot } }

/-- THERMAL_WARN. -/
def execThermalWarn (tenths : Int) (s : State) : Host.Outcome State Fault Refusal := finish s (thermalWarn tenths s)

/-- A reading that excludes a sensor (R420): out of range, or more than 20 °C from a neighbour. Neighbours are the sensors
numbered next to it. -/
def sensorBad (s : State) (i : Nat) (tenths : Int) : Bool :=
  decide (tenths < -550) || decide (1750 < tenths) ||
    ([i - 1, i + 1].filter fun j => decide (j ≠ i) && decide (j < 12) && !s.pwr.excluded.contains j).any fun j =>
      decide (200 < (tenths - tget 250 s.pwr.temps j).natAbs)

/-- SENSOR_FAULT (R420). -/
def execSensorFault (sensor : Nat) (tenths : Int) (s : State) : Host.Outcome State Fault Refusal :=
  finish s (if sensor < 12 ∧ !s.pwr.excluded.contains sensor ∧ sensorBad s sensor tenths then
    envNote gTherm 2 { s with pwr := { s.pwr with
      temps := tset 250 s.pwr.temps sensor tenths, excluded := s.pwr.excluded ++ [sensor] } }
  else s)

/-- VIN_OVERVOLTAGE (R315, R460). -/
def execVinOvervoltage (millivolts : Nat) (s : State) : Host.Outcome State Fault Refusal :=
  finish s { s with pwr := { s.pwr with
    vin := millivolts, above60 := decide (60000 < millivolts), seen80 := s.pwr.seen80 || decide (80000 < millivolts) } }

-- Releases.

/-- COLD_RELEASE (R409). -/
def execColdRelease (s : State) : Host.Outcome State Fault Refusal := finish s (coldRelease s)

/-- WARM_RELEASE (R409). -/
def execWarmRelease (s : State) : Host.Outcome State Fault Refusal := finish s (warmRelease s)

/-- OPTION_LOAD_RETRY (R412): after 10 ms. -/
def execOptionLoadRetry (s : State) : Host.Outcome State Fault Refusal :=
  finish s (if s.rst.phase = .coldRelease ∧ s.rst.hold = .option then optionTry s else s)

/-- Whether a trim copy reads correctly at this attempt (R411). -/
def readTrim (copyOk : Bool) (s : State) : State := { s with fuse := { s.fuse with trimOk := copyOk } }

/-- TRIM_LOAD_RETRY (R411): every 100 ms. -/
def execTrimLoadRetry (copyOk : Bool) (s : State) : Host.Outcome State Fault Refusal :=
  finish s (if s.rst.phase = .coldRelease ∧ s.rst.hold = .trim then
    stepTrim (readTrim copyOk s) else s)

/-- XO_CHECK_RETRY (R425): every 100 ms. -/
def execXoCheckRetry (ok : Bool) (s : State) : Host.Outcome State Fault Refusal :=
  finish s (if s.rst.phase = .coldRelease ∧ s.rst.hold = .xo then
    stepXo { s with rst := { s.rst with xoOk := ok } } else s)

/-- SAFE_RESTART_ENTRY (R30, R308): mode entry at the end of the restart; its MODE_CHANGE carries the old mode and the first
frame of SAFE, and what a rule deferred follows it (R300, R396). A boot ROM that fails its own check cannot enter SAFE (R381). -/
def safeEntry (s : State) : State :=
  if !s.mode.safeRestart ∨ s.rst.phase ≠ .running ∨ !s.rst.romOk then s
  else
    let s := { s with
      mode := { s.mode with safeRestart := false }, rst := { s.rst with kickTicks := 0 } }
    lateEvents (modeChange s.mode.safeFrom s.mode.safeFn (raise gRst 1 s))

/-- SAFE_RESTART_ENTRY. -/
def execSafeRestartEntry (s : State) : Host.Outcome State Fault Refusal := finish s (safeEntry s)

-- The power-fail warning.

/-- A source of the warning is enabled (R413, R426). -/
def pfwEnabled (s : State) : PfwSource → Bool
  | .pin => s.rst.opts.pinEn
  | .vin => s.rst.opts.vinEn

/-- POWER_FAIL_WARNING (R96, R281, R426, R427). -/
def powerFail (src : PfwSource) (s : State) : State :=
  if !pfwEnabled s src then s
  else
    let s := { s with pwr := { s.pwr with pfwPin := s.pwr.pfwPin || decide (src = .pin) } }
    if s.pwr.pfw then s
    else refuseOnWarning (envNote gPwr 0 { s with pwr := { s.pwr with pfw := true, pfwSeen := true } })

/-- POWER_FAIL_WARNING. -/
def execPowerFailWarning (src : PfwSource) (s : State) : Host.Outcome State Fault Refusal := finish s (powerFail src s)

/-- PFW_CLEAR (R426, R427, R433, R483): writing resumes, an interrupted compaction starts again, and a command that waited
goes on. -/
def pfwClear (s : State) : State :=
  if !s.pwr.pfw then s
  else
    let s := envNote gPwr 1 { s with pwr := { s.pwr with pfw := false, pfwPin := false } }
    let s := if s.jrn.compaction.isSome ∧ entered s then startCompaction s else s
    drainHead (if entered s then initialSnapshot s else s)

/-- PFW_CLEAR. -/
def execPfwClear (s : State) : Host.Outcome State Fault Refusal := finish s (pfwClear s)

/-- VBAK_CHECK (R417): once a second; below 1.8 V PWR.VBAK_LOW is raised. -/
def execVbakCheck (millivolts : Nat) (s : State) : Host.Outcome State Fault Refusal :=
  let s' := { s with pwr := { s.pwr with vbak := millivolts } }
  finish s (if millivolts < 1800 then envNote gPwr 3 s' else s')

end Sys2Proof.Machine
end

