-- ==== Sys2Proof/Machine/Dispatch.lean ====
section
/-! DEFINITION. Which meaning each command and happening has: one arm per constructor of Instr. -/
namespace Sys2Proof.Machine

/-- The effect of one command or happening on everything but the queue. -/
def exec (i : Instr) (s : State) : Host.Outcome State Fault Refusal :=
  match i with
  | .nop c => Sys2Proof.Machine.execNop c s
  | .queryState c => Sys2Proof.Machine.execQueryState c s
  | .setMode c => Sys2Proof.Machine.execSetMode c s
  | .reset c => Sys2Proof.Machine.execReset c s
  | .laneConfigConfigure c => Sys2Proof.Machine.execLaneConfigConfigure c s
  | .vblSend c => Sys2Proof.Machine.execVblSend c s
  | .vblRxBuffer c => Sys2Proof.Machine.execVblRxBuffer c s
  | .portConfigBind c => Sys2Proof.Machine.execPortConfigBind c s
  | .portConfigMonitor c => Sys2Proof.Machine.execPortConfigMonitor c s
  | .portConfigUnbind c => Sys2Proof.Machine.execPortConfigUnbind c s
  | .portConfigQuiesce c => Sys2Proof.Machine.execPortConfigQuiesce c s
  | .portConfigTrace c => Sys2Proof.Machine.execPortConfigTrace c s
  | .carrierConfig c => Sys2Proof.Machine.execCarrierConfig c s
  | .connStage c => Sys2Proof.Machine.execConnStage c s
  | .connStageBulk c => Sys2Proof.Machine.execConnStageBulk c s
  | .connCommit c => Sys2Proof.Machine.execConnCommit c s
  | .connAbort c => Sys2Proof.Machine.execConnAbort c s
  | .connReadback c => Sys2Proof.Machine.execConnReadback c s
  | .routeCheck c => Sys2Proof.Machine.execRouteCheck c s
  | .protConfigLinearGroup c => Sys2Proof.Machine.execProtConfigLinearGroup c s
  | .protConfigRing c => Sys2Proof.Machine.execProtConfigRing c s
  | .protConfigRemap c => Sys2Proof.Machine.execProtConfigRemap c s
  | .protConfigVblDistrust c => Sys2Proof.Machine.execProtConfigVblDistrust c s
  | .protConfigDelete c => Sys2Proof.Machine.execProtConfigDelete c s
  | .protCommand c => Sys2Proof.Machine.execProtCommand c s
  | .sncpProfile c => Sys2Proof.Machine.execSncpProfile c s
  | .sncpProfileRead c => Sys2Proof.Machine.execSncpProfileRead c s
  | .timingConfigSlot c => Sys2Proof.Machine.execTimingConfigSlot c s
  | .timingConfigBlock c => Sys2Proof.Machine.execTimingConfigBlock c s
  | .timingStatus c => Sys2Proof.Machine.execTimingStatus c s
  | .timingLockout c => Sys2Proof.Machine.execTimingLockout c s
  | .timingClearLockout c => Sys2Proof.Machine.execTimingClearLockout c s
  | .timingForce c => Sys2Proof.Machine.execTimingForce c s
  | .timingClearForce c => Sys2Proof.Machine.execTimingClearForce c s
  | .clearWtr c => Sys2Proof.Machine.execClearWtr c s
  | .historyClear c => Sys2Proof.Machine.execHistoryClear c s
  | .forceHoldover c => Sys2Proof.Machine.execForceHoldover c s
  | .forceFreeRun c => Sys2Proof.Machine.execForceFreeRun c s
  | .forceClear c => Sys2Proof.Machine.execForceClear c s
  | .softEnter c => Sys2Proof.Machine.execSoftEnter c s
  | .softWord c => Sys2Proof.Machine.execSoftWord c s
  | .softExit c => Sys2Proof.Machine.execSoftExit c s
  | .pmConfigExport c => Sys2Proof.Machine.execPmConfigExport c s
  | .pmConfigPostBuffer c => Sys2Proof.Machine.execPmConfigPostBuffer c s
  | .pmConfigExpectedTrace c => Sys2Proof.Machine.execPmConfigExpectedTrace c s
  | .pmConfigWithdraw c => Sys2Proof.Machine.execPmConfigWithdraw c s
  | .pmRead c => Sys2Proof.Machine.execPmRead c s
  | .tapConfig c => Sys2Proof.Machine.execTapConfig c s
  | .prbsConfig c => Sys2Proof.Machine.execPrbsConfig c s
  | .auditRead c => Sys2Proof.Machine.execAuditRead c s
  | .twinConfig c => Sys2Proof.Machine.execTwinConfig c s
  | .groupConfig c => Sys2Proof.Machine.execGroupConfig c s
  | .gatehouseKey c => Sys2Proof.Machine.execGatehouseKey c s
  | .imageBegin c => Sys2Proof.Machine.execImageBegin c s
  | .imageChunk c => Sys2Proof.Machine.execImageChunk c s
  | .imageVerify c => Sys2Proof.Machine.execImageVerify c s
  | .imageActivate c => Sys2Proof.Machine.execImageActivate c s
  | .imageConfirm c => Sys2Proof.Machine.execImageConfirm c s
  | .imageReject c => Sys2Proof.Machine.execImageReject c s
  | .journalStatus c => Sys2Proof.Machine.execJournalStatus c s
  | .journalCompact c => Sys2Proof.Machine.execJournalCompact c s
  | .powerDomain c => Sys2Proof.Machine.execPowerDomain c s
  | .todSet c => Sys2Proof.Machine.execTodSet c s
  | .commandFetch => Sys2Proof.Machine.execCommandFetch s
  | .cmdPhaseTimeout => Sys2Proof.Machine.execCmdPhaseTimeout s
  | .waitingCommandDone n => Sys2Proof.Machine.execWaitingCommandDone n s
  | .completionWrite => Sys2Proof.Machine.execCompletionWrite s
  | .eventWrite => Sys2Proof.Machine.execEventWrite s
  | .hostSlow => Sys2Proof.Machine.execHostSlow s
  | .dbCmd aligned32 v mem => Sys2Proof.Machine.execDbCmd aligned32 v mem s
  | .dbCpl aligned32 v => Sys2Proof.Machine.execDbCpl aligned32 v s
  | .dbEvt aligned32 v => Sys2Proof.Machine.execDbEvt aligned32 v s
  | .dbIrqRearm x => Sys2Proof.Machine.execDbIrqRearm x s
  | .topSetupLock v => Sys2Proof.Machine.execTopSetupLock v s
  | .ringEnable r v => Sys2Proof.Machine.execRingEnable r v s
  | .ringDisable r v => Sys2Proof.Machine.execRingDisable r v s
  | .lowHalfRead off => Sys2Proof.Machine.execLowHalfRead off s
  | .setupBadAccess write off size => Sys2Proof.Machine.execSetupBadAccess write off size s
  | .registerWrite off v => Sys2Proof.Machine.execRegisterWrite off v s
  | .ovfClear v => Sys2Proof.Machine.execOvfClear v s
  | .countClear v => Sys2Proof.Machine.execCountClear v s
  | .pmcCtrlWrite n k v => Sys2Proof.Machine.execPmcCtrlWrite n k v s
  | .dmaGo ch v => Sys2Proof.Machine.execDmaGo ch v s
  | .dmaPause ch v => Sys2Proof.Machine.execDmaPause ch v s
  | .dmaResume ch v => Sys2Proof.Machine.execDmaResume ch v s
  | .dmaStop ch v => Sys2Proof.Machine.execDmaStop ch v s
  | .dmaPaceEvent ch => Sys2Proof.Machine.execDmaPaceEvent ch s
  | .dmaBurstDone ch => Sys2Proof.Machine.execDmaBurstDone ch s
  | .dmaBurstRetry ch cause => Sys2Proof.Machine.execDmaBurstRetry ch cause s
  | .dmaWithdrawn ch => Sys2Proof.Machine.execDmaWithdrawn ch s
  | .msixUnmask op => Sys2Proof.Machine.execMsixUnmask op s
  | .perstN low => Sys2Proof.Machine.execPerstN low s
  | .linkUnavailable why => Sys2Proof.Machine.execLinkUnavailable why s
  | .linkRestored why => Sys2Proof.Machine.execLinkRestored why s
  | .busTimeout target master => Sys2Proof.Machine.execBusTimeout target master s
  | .busDrainDone master => Sys2Proof.Machine.execBusDrainDone master s
  | .frameStart => Sys2Proof.Machine.execFrameStart s
  | .holdOffExpiry t n l => Sys2Proof.Machine.execHoldOffExpiry t n l s
  | .wtrExpiry t n => Sys2Proof.Machine.execWtrExpiry t n s
  | .routeSolveDone => Sys2Proof.Machine.execRouteSolveDone s
  | .readinessPoint => Sys2Proof.Machine.execReadinessPoint s
  | .finalPoint => Sys2Proof.Machine.execFinalPoint s
  | .commitSwap => Sys2Proof.Machine.execCommitSwap s
  | .journalRecordClose => Sys2Proof.Machine.execJournalRecordClose s
  | .prepareDeadline => Sys2Proof.Machine.execPrepareDeadline s
  | .prepareRx sl u m => Sys2Proof.Machine.execPrepareRx sl u m s
  | .readyRx sl u m => Sys2Proof.Machine.execReadyRx sl u m s
  | .readyDeadline => Sys2Proof.Machine.execReadyDeadline s
  | .commitRx sl u m => Sys2Proof.Machine.execCommitRx sl u m s
  | .ackRx sl u m => Sys2Proof.Machine.execAckRx sl u m s
  | .ackDeadline => Sys2Proof.Machine.execAckDeadline s
  | .abortRx sl u m => Sys2Proof.Machine.execAbortRx sl u m s
  | .refuseRx sl u m => Sys2Proof.Machine.execRefuseRx sl u m s
  | .groupRecordRx sl u sliceCount m => Sys2Proof.Machine.execGroupRecordRx sl u sliceCount m s
  | .groupRecordLapse sl u => Sys2Proof.Machine.execGroupRecordLapse sl u s
  | .bellwetherChange => Sys2Proof.Machine.execBellwetherChange s
  | .groupPacketRx west m => Sys2Proof.Machine.execGroupPacketRx west m s
  | .groupConfigPacketRx fn e => Sys2Proof.Machine.execGroupConfigPacketRx fn e s
  | .groupStagedRx ws => Sys2Proof.Machine.execGroupStagedRx ws s
  | .catchup sl u fromSeq => Sys2Proof.Machine.execCatchup sl u fromSeq s
  | .groupJournalRx snap recs => Sys2Proof.Machine.execGroupJournalRx snap recs s
  | .groupLinkDown x => Sys2Proof.Machine.execGroupLinkDown x s
  | .pageRestore => Sys2Proof.Machine.execPageRestore s
  | .mateHeaderRx lane m => Sys2Proof.Machine.execMateHeaderRx lane m s
  | .mateLinkUp => Sys2Proof.Machine.execMateLinkUp s
  | .mateLinkDown lane why => Sys2Proof.Machine.execMateLinkDown lane why s
  | .mlLof lane => Sys2Proof.Machine.execMlLof lane s
  | .relayGrant port anchor m => Sys2Proof.Machine.execRelayGrant port anchor m s
  | .released epoch fn => Sys2Proof.Machine.execReleased epoch fn s
  | .retransmit chan first count => Sys2Proof.Machine.execRetransmit chan first count s
  | .mateCommandRx fn e => Sys2Proof.Machine.execMateCommandRx fn e s
  | .mateRecordRx m => Sys2Proof.Machine.execMateRecordRx m s
  | .mateJournalRx seq r => Sys2Proof.Machine.execMateJournalRx seq r s
  | .mateStagedRx seq ws => Sys2Proof.Machine.execMateStagedRx seq ws s
  | .mateBulkRx last tag img => Sys2Proof.Machine.execMateBulkRx last tag img s
  | .mirrorGapTimeout chan => Sys2Proof.Machine.execMirrorGapTimeout chan s
  | .resyncInstall => Sys2Proof.Machine.execResyncInstall s
  | .mateAlignStep => Sys2Proof.Machine.execMateAlignStep s
  | .grantRx port m => Sys2Proof.Machine.execGrantRx port m s
  | .roleTakeEffect => Sys2Proof.Machine.execRoleTakeEffect s
  | .leaseEnd => Sys2Proof.Machine.execLeaseEnd s
  | .grantTtlExpiry port => Sys2Proof.Machine.execGrantTtlExpiry port s
  | .keyOverlapExpiry port => Sys2Proof.Machine.execKeyOverlapExpiry port s
  | .forcedTakeover => Sys2Proof.Machine.execForcedTakeover s
  | .vblHeaderRx lane m => Sys2Proof.Machine.execVblHeaderRx lane m s
  | .trustRestore lane => Sys2Proof.Machine.execTrustRestore lane s
  | .distrustRepeat lane => Sys2Proof.Machine.execDistrustRepeat lane s
  | .vblMessageRx lane m => Sys2Proof.Machine.execVblMessageRx lane m s
  | .vblFrameVerify lane cands => Sys2Proof.Machine.execVblFrameVerify lane cands s
  | .vblOof lane x => Sys2Proof.Machine.execVblOof lane x s
  | .vblDefectChange lane b on => Sys2Proof.Machine.execVblDefectChange lane b on s
  | .laneFrameVerify obj cands => Sys2Proof.Machine.execLaneFrameVerify obj cands s
  | .laneOof obj => Sys2Proof.Machine.execLaneOof obj s
  | .laneFalseLockExit x => Sys2Proof.Machine.execLaneFalseLockExit x s
  | .laneTieTimeout obj b1 => Sys2Proof.Machine.execLaneTieTimeout obj b1 s
  | .laneReadmission obj => Sys2Proof.Machine.execLaneReadmission obj s
  | .laneDefectChange cls obj b on info => Sys2Proof.Machine.execLaneDefectChange cls obj b on info s
  | .pathDefectChange cls obj b on info => Sys2Proof.Machine.execPathDefectChange cls obj b on info s
  | .berDeclare cls obj n on => Sys2Proof.Machine.execBerDeclare cls obj n on s
  | .kbyteAccept lane k => Sys2Proof.Machine.execKbyteAccept lane k s
  | .psbf lane => Sys2Proof.Machine.execPsbf lane s
  | .kstorm lane on => Sys2Proof.Machine.execKstorm lane on s
  | .fop ring g on => Sys2Proof.Machine.execFop ring g on s
  | .apsSwitch ring g st => Sys2Proof.Machine.execApsSwitch ring g st s
  | .carrierAlignVerify car cands => Sys2Proof.Machine.execCarrierAlignVerify car cands s
  | .carrierTieTimeout car left => Sys2Proof.Machine.execCarrierTieTimeout car left s
  | .carrierFalseLockExit x => Sys2Proof.Machine.execCarrierFalseLockExit x s
  | .carrierBarLapse car => Sys2Proof.Machine.execCarrierBarLapse car s
  | .carrierInterworkFallback car => Sys2Proof.Machine.execCarrierInterworkFallback car s
  | .carrierDefectChange car b x => Sys2Proof.Machine.execCarrierDefectChange car b x s
  | .carrierSlip car delete => Sys2Proof.Machine.execCarrierSlip car delete s
  | .sigHoldExpiry car => Sys2Proof.Machine.execSigHoldExpiry car s
  | .defectEventPeriod => Sys2Proof.Machine.execDefectEventPeriod s
  | .pmSecondFinal cls obj => Sys2Proof.Machine.execPmSecondFinal cls obj s
  | .pmBinClose cls obj day => Sys2Proof.Machine.execPmBinClose cls obj day s
  | .pmBufferTimeout => Sys2Proof.Machine.execPmBufferTimeout s
  | .selectionTick => Sys2Proof.Machine.execSelectionTick s
  | .refFailureCondition slot b on => Sys2Proof.Machine.execRefFailureCondition slot b on s
  | .refHoldOffExpiry slot => Sys2Proof.Machine.execRefHoldOffExpiry slot s
  | .refWtrExpiry slot => Sys2Proof.Machine.execRefWtrExpiry slot s
  | .acqFail => Sys2Proof.Machine.execAcqFail s
  | .dpllLocked => Sys2Proof.Machine.execDpllLocked s
  | .ssmTimeout slot => Sys2Proof.Machine.execSsmTimeout slot s
  | .ssmAccept slot code => Sys2Proof.Machine.execSsmAccept slot code s
  | .freqMonitorUpdate slot offset => Sys2Proof.Machine.execFreqMonitorUpdate slot offset s
  | .refConflict a b => Sys2Proof.Machine.execRefConflict a b s
  | .counterGather => Sys2Proof.Machine.execCounterGather s
  | .fpBackgroundCheck found => Sys2Proof.Machine.execFpBackgroundCheck found s
  | .prbsSyncChange u x => Sys2Proof.Machine.execPrbsSyncChange u x s
  | .engineOverrun e => Sys2Proof.Machine.execEngineOverrun e s
  | .bankSwitch n => Sys2Proof.Machine.execBankSwitch n s
  | .bankReadyTimeout n => Sys2Proof.Machine.execBankReadyTimeout n s
  | .eccUncorrectable w => Sys2Proof.Machine.execEccUncorrectable w s
  | .scrubCorrection w => Sys2Proof.Machine.execScrubCorrection w s
  | .bankRepairDone n => Sys2Proof.Machine.execBankRepairDone n s
  | .liveItemRewrite w => Sys2Proof.Machine.execLiveItemRewrite w s
  | .domainOnDone d => Sys2Proof.Machine.execDomainOnDone d s
  | .domainFault d => Sys2Proof.Machine.execDomainFault d s
  | .debugResponse vendorKey vendorSig custKey custSig => Sys2Proof.Machine.execDebugResponse vendorKey vendorSig custKey custSig s
  | .powerOn x => Sys2Proof.Machine.execPowerOn x s
  | .railFault pd => Sys2Proof.Machine.execRailFault pd s
  | .coldPin low => Sys2Proof.Machine.execColdPin low s
  | .warmPin low => Sys2Proof.Machine.execWarmPin low s
  | .thermalTripClear tenths => Sys2Proof.Machine.execThermalTripClear tenths s
  | .thermalWarn tenths => Sys2Proof.Machine.execThermalWarn tenths s
  | .trimLoadRetry copyOk => Sys2Proof.Machine.execTrimLoadRetry copyOk s
  | .xoCheckRetry ok => Sys2Proof.Machine.execXoCheckRetry ok s
  | .powerFailWarning src => Sys2Proof.Machine.execPowerFailWarning src s
  | .vbakCheck millivolts => Sys2Proof.Machine.execVbakCheck millivolts s
  | .clearFaults pec => Sys2Proof.Machine.execClearFaults pec s
  | .capability pec => Sys2Proof.Machine.execCapability pec s
  | .statusWord pec => Sys2Proof.Machine.execStatusWord pec s
  | .statusInput pec => Sys2Proof.Machine.execStatusInput pec s
  | .statusTemperature pec => Sys2Proof.Machine.execStatusTemperature pec s
  | .statusCml pec => Sys2Proof.Machine.execStatusCml pec s
  | .statusMfrSpecific pec => Sys2Proof.Machine.execStatusMfrSpecific pec s
  | .readVin pec => Sys2Proof.Machine.execReadVin pec s
  | .readIin pec => Sys2Proof.Machine.execReadIin pec s
  | .readTemperature1 pec => Sys2Proof.Machine.execReadTemperature1 pec s
  | .readPin pec => Sys2Proof.Machine.execReadPin pec s
  | .pmbusRevision pec => Sys2Proof.Machine.execPmbusRevision pec s
  | .mfrId pec => Sys2Proof.Machine.execMfrId pec s
  | .mfrModel pec => Sys2Proof.Machine.execMfrModel pec s
  | .mfrRevision pec => Sys2Proof.Machine.execMfrRevision pec s
  | .mfrSerial pec => Sys2Proof.Machine.execMfrSerial pec s
  | .mfrModuleState pec => Sys2Proof.Machine.execMfrModuleState pec s
  | .mfrReset pec key => Sys2Proof.Machine.execMfrReset pec key s
  | .mfrResetHistory pec => Sys2Proof.Machine.execMfrResetHistory pec s
  | .mfrReadVbak pec => Sys2Proof.Machine.execMfrReadVbak pec s
  | .i2cInvalidCommand badData => Sys2Proof.Machine.execI2cInvalidCommand badData s
  | .mlOof x => Sys2Proof.Machine.execMlOof x s
  | .mlFrameVerify x => Sys2Proof.Machine.execMlFrameVerify x s
  | .codeGroupAlignment x => Sys2Proof.Machine.execCodeGroupAlignment x s
  | .timingAlignmentChange err => Sys2Proof.Machine.execTimingAlignmentChange err s
  | .carrierLossOfAlignment x => Sys2Proof.Machine.execCarrierLossOfAlignment x s
  | .multiframeAlignment car x => Sys2Proof.Machine.execMultiframeAlignment car x s
  | .vblBarLapse lane => Sys2Proof.Machine.execVblBarLapse lane s
  | .sensorFault sensor tenths => Sys2Proof.Machine.execSensorFault sensor tenths s
  | .vinOvervoltage millivolts => Sys2Proof.Machine.execVinOvervoltage millivolts s
  | .pmSecondEnd ms => Sys2Proof.Machine.execPmSecondEnd ms s
  | .compactionStart => Sys2Proof.Machine.execCompactionStart s
  | .compactionDone => Sys2Proof.Machine.execCompactionDone s
  | .journalFault => Sys2Proof.Machine.execJournalFault s
  | .managementHandover => Sys2Proof.Machine.execManagementHandover s
  | .handoverTimeout => Sys2Proof.Machine.execHandoverTimeout s
  | .microcodeSwitch => Sys2Proof.Machine.execMicrocodeSwitch s
  | .imageSelfConfirm => Sys2Proof.Machine.execImageSelfConfirm s
  | .trialDeadline => Sys2Proof.Machine.execTrialDeadline s
  | .debugChallenge => Sys2Proof.Machine.execDebugChallenge s
  | .debugReset => Sys2Proof.Machine.execDebugReset s
  | .clockFault => Sys2Proof.Machine.execClockFault s
  | .ganderWarm => Sys2Proof.Machine.execGanderWarm s
  | .ganderKick => Sys2Proof.Machine.execGanderKick s
  | .ganderCold => Sys2Proof.Machine.execGanderCold s
  | .thermal => Sys2Proof.Machine.execThermal s
  | .coldRelease => Sys2Proof.Machine.execColdRelease s
  | .warmRelease => Sys2Proof.Machine.execWarmRelease s
  | .optionLoadRetry => Sys2Proof.Machine.execOptionLoadRetry s
  | .safeRestartEntry => Sys2Proof.Machine.execSafeRestartEntry s
  | .pfwClear => Sys2Proof.Machine.execPfwClear s

end Sys2Proof.Machine
end

