-- ==== Sys2Proof/Safety.lean ====
section
/-! DEFINITION. What a sound state of the module is, what no command or happening ever takes back, when a command of the
ring is carried out, and the rows of the command ring as the manual lays them out. -/
namespace Sys2Proof.Machine

/-- A sound state: the host's memory is in its canonical form, at most 8,192 events wait for their ring (R301), and the
controller holds at most 4,096 audit entries (R389). -/
def Sound (s : State) : Prop :=
  Memory.wf s.host.mem = true ∧ s.host.evtQ.length ≤ 8192 ∧ s.bel.audit.length ≤ 4096

/-- No fuse that has been blown is read as unblown afterwards: the anti-rollback counter (R450) and the life-cycle states
(R452, R453). -/
def FusesKept (a b : FuseSt) : Prop :=
  a.rollback ≤ b.rollback ∧ (a.provisioned = true → b.provisioned = true) ∧ (a.field = true → b.field = true) ∧
    (a.retired = true → b.retired = true)

/-- What time does not take back: the fuses, and the SEQ of the audit log (R389). -/
def Forward (s t : State) : Prop := FusesKept s.fuse t.fuse ∧ s.bel.auditSeq ≤ t.bel.auditSeq

/-- A command of the ring is carried out now (R35): its entry is at the head of the fetched commands, the module is past
mode entry, fewer than 64 waiting commands are outstanding if it waits (R319), every check of its row passes, no
power-fail warning holds it (R483), the link serves the buffer it names (R305), and no work of its own is still to be done
before it (R53). -/
def Starts (s : State) (op : Byte) (c : CmdEntry) (k : Checks) (pos : Nat) (rest : List Fetched) : Prop :=
  s.host.fetched = { opcode := op, entry := c, pos := pos } :: rest ∧ mayBegin s = true ∧
    (k.waits = true → waitingCount s < 64) ∧ verdict s c k = none ∧ (k.pfwWaits = true → s.pwr.pfw = false) ∧
    (k.buffer = true → linkUsable s = true) ∧ k.hold = none

/-- What the completion of a command names: its opcode, its TAG and its ring position (R299). -/
def tokenOf (op : Byte) (c : CmdEntry) (pos : Nat) : CmdTok := { opcode := op, tag := c.tag, pos := pos }

/-- The commands behind one that has been carried out: kept, and, unless a SET_MODE awaits its frame, the ones at the head that
have no row drained (R35); a command that ends in a reset or in the restart into SAFE discards those behind it (R308). -/
def ended (rest : List Fetched) (t : State) : State :=
  if !entered t then t
  else
    let u := { t with host := { t.host with bulkFail := false, bulkBursts := 0, fetched := rest } }
    if mayBegin u then drainBad u rest else u

/-- Rows of R34 that several commands share. -/
def allModes : List Mode := [.safe, .quiet, .solo, .active, .standby, .isolated, .service]

/-- Configuration, connection and protection changes (R34). -/
def changeModes : List Mode := [.quiet, .solo, .active, .service]

/-- What every mode but BOOT and SAFE reads (R34). -/
def readingModes : List Mode := [.quiet, .solo, .active, .standby, .isolated, .service]

/-- Commands that ISOLATED refuses and STANDBY takes (R34). -/
def standbyToo : List Mode := [.quiet, .solo, .active, .standby, .service]

/-- The download of a package (R34). -/
def imageModes : List Mode := [.safe, .quiet, .solo, .active, .standby, .service]

/-- A command of the command ring as chapter 13 lays it out: its opcode (R318), its entry, whether the byte that selects
an action selects this row, the LEN values it accepts (R324 to R341) and the modes that execute it (R34). -/
structure RingRow where
  opcode : Byte
  entry : CmdEntry
  fits : Bool
  lens : List Nat
  modes : List Mode

/-- The row of the ring for each command; a happening has none. -/
def ringRow : Instr → Option RingRow
  | .nop c => some ⟨0x01, c, true, [0], allModes⟩
  | .queryState c => some ⟨0x02, c, true, [0, 24], allModes⟩
  | .setMode c => some ⟨0x03, c, true, [8], standbyToo⟩
  | .reset c => some ⟨0xF0, c, true, [4], allModes⟩
  | .laneConfigConfigure c => some ⟨0x10, c, arg c 0 1 == 0, [24, 40], changeModes⟩
  | .vblSend c => some ⟨0x10, c, arg c 0 1 == 1, [24], changeModes⟩
  | .vblRxBuffer c => some ⟨0x10, c, arg c 0 1 == 2, [24], changeModes⟩
  | .portConfigBind c => some ⟨0x11, c, arg c 1 1 == 0, [8], changeModes⟩
  | .portConfigMonitor c => some ⟨0x11, c, arg c 1 1 == 1, [8], changeModes⟩
  | .portConfigUnbind c => some ⟨0x11, c, arg c 1 1 == 2, [8], changeModes⟩
  | .portConfigQuiesce c => some ⟨0x11, c, arg c 1 1 == 3, [8], changeModes⟩
  | .portConfigTrace c => some ⟨0x11, c, arg c 1 1 == 4, [24], changeModes⟩
  | .carrierConfig c => some ⟨0x12, c, true, [24], changeModes⟩
  | .connStage c => some ⟨0x20, c, true, (if 1 ≤ arg c 4 1 ∧ arg c 4 1 ≤ 6 then [8 + 8 * arg c 4 1] else [16, 24, 32, 40, 48, 56]), changeModes⟩
  | .connStageBulk c => some ⟨0x21, c, true, [24], changeModes⟩
  | .connCommit c => some ⟨0x22, c, true, [16], changeModes⟩
  | .connAbort c => some ⟨0x23, c, true, [8], changeModes⟩
  | .connReadback c => some ⟨0x24, c, true, [32], readingModes⟩
  | .routeCheck c => some ⟨0x25, c, true, [8, 24], readingModes⟩
  | .protConfigLinearGroup c => some ⟨0x30, c, arg c 0 1 == 0, [24], changeModes⟩
  | .protConfigRing c => some ⟨0x30, c, arg c 0 1 == 1, [48], changeModes⟩
  | .protConfigRemap c => some ⟨0x30, c, arg c 0 1 == 2, [24], changeModes⟩
  | .protConfigVblDistrust c => some ⟨0x30, c, arg c 0 1 == 3, [8], changeModes⟩
  | .protConfigDelete c => some ⟨0x30, c, arg c 0 1 == 4 || arg c 0 1 == 5, [8], changeModes⟩
  | .protCommand c => some ⟨0x31, c, true, [8], changeModes⟩
  | .sncpProfile c => some ⟨0x32, c, !argBit c 1 0, [16], changeModes⟩
  | .sncpProfileRead c => some ⟨0x32, c, argBit c 1 0, [16], changeModes⟩
  | .timingConfigSlot c => some ⟨0x40, c, arg c 0 1 == 0, [24], readingModes⟩
  | .timingConfigBlock c => some ⟨0x40, c, arg c 0 1 == 1, [24], readingModes⟩
  | .timingStatus c => some ⟨0x41, c, arg c 0 1 == 0, [8, 24], readingModes⟩
  | .timingLockout c => some ⟨0x41, c, arg c 0 1 == 1, [8], readingModes⟩
  | .timingClearLockout c => some ⟨0x41, c, arg c 0 1 == 2, [8], readingModes⟩
  | .timingForce c => some ⟨0x41, c, arg c 0 1 == 3, [8], readingModes⟩
  | .timingClearForce c => some ⟨0x41, c, arg c 0 1 == 4, [8], readingModes⟩
  | .clearWtr c => some ⟨0x41, c, arg c 0 1 == 5, [8], readingModes⟩
  | .historyClear c => some ⟨0x41, c, arg c 0 1 == 6, [8], readingModes⟩
  | .forceHoldover c => some ⟨0x41, c, arg c 0 1 == 7, [8], readingModes⟩
  | .forceFreeRun c => some ⟨0x41, c, arg c 0 1 == 8, [8], readingModes⟩
  | .forceClear c => some ⟨0x41, c, arg c 0 1 == 9, [8], readingModes⟩
  | .softEnter c => some ⟨0x41, c, arg c 0 1 == 10, [8], readingModes⟩
  | .softWord c => some ⟨0x41, c, arg c 0 1 == 11, [8], readingModes⟩
  | .softExit c => some ⟨0x41, c, arg c 0 1 == 12, [8], readingModes⟩
  | .pmConfigExport c => some ⟨0x50, c, arg c 0 1 == 0, [8], standbyToo⟩
  | .pmConfigPostBuffer c => some ⟨0x50, c, arg c 0 1 == 1, [24], standbyToo⟩
  | .pmConfigExpectedTrace c => some ⟨0x50, c, arg c 0 1 == 2, [24], standbyToo⟩
  | .pmConfigWithdraw c => some ⟨0x50, c, arg c 0 1 == 3, [8], standbyToo⟩
  | .pmRead c => some ⟨0x51, c, true, [32], readingModes⟩
  | .tapConfig c => some ⟨0x60, c, true, [16], standbyToo⟩
  | .prbsConfig c => some ⟨0x61, c, true, [16], changeModes⟩
  | .auditRead c => some ⟨0x62, c, true, [24], allModes⟩
  | .twinConfig c => some ⟨0x70, c, true, [8], [.quiet]⟩
  | .groupConfig c => some ⟨0x71, c, true, [8], [.quiet]⟩
  | .gatehouseKey c => some ⟨0x72, c, true, [40], [.quiet, .solo, .active, .standby, .isolated]⟩
  | .imageBegin c => some ⟨0x80, c, true, [24], imageModes⟩
  | .imageChunk c => some ⟨0x81, c, true, [24], imageModes⟩
  | .imageVerify c => some ⟨0x82, c, true, [0], imageModes⟩
  | .imageActivate c => some ⟨0x83, c, true, [8], [.safe, .quiet, .solo, .active, .standby]⟩
  | .imageConfirm c => some ⟨0x84, c, true, [0], readingModes⟩
  | .imageReject c => some ⟨0x85, c, true, [0], readingModes⟩
  | .journalStatus c => some ⟨0x90, c, true, [0], allModes⟩
  | .journalCompact c => some ⟨0x91, c, true, [0], standbyToo⟩
  | .powerDomain c => some ⟨0xA0, c, true, [8], standbyToo⟩
  | .todSet c => some ⟨0xA1, c, true, [24], allModes⟩
  | _ => none

end Sys2Proof.Machine
end

