-- ==== Sys2Proof/WellFormed.lean ====
section
/-! DEFINITION. Which operands a command or happening may carry: the ranges of the index spaces of R5 to R12 and the lengths of the
messages that partners send. A command entry of the ring has no ill-formed value: what is wrong in it, R35 answers. -/
namespace Sys2Proof

/-- Lanes L0 to L127 (R127). -/
def laneOk (l : Nat) : Bool := decide (l < 128)

/-- Receivers of R154 to R156: lanes, 256 + FP for the signal in an ODU, 1,024 + 32 × lane + n for a logical lane. -/
def receiverOk (k : Nat) : Bool := decide (k < 5120)

/-- Carriers 0 to 8,191 (R7). -/
def carOk (c : Nat) : Bool := decide (c < 8192)

/-- The index of an entry in its tier (R5 to R7). -/
def tierIndex (t : Tier) (i : Nat) : Bool :=
  match t with
  | .ho => decide (i < 49152)
  | .lo => decide (i < 1376256)
  | .ds0 => decide (i < 262144)

/-- A linear group or a ring by number (R197, R199). -/
def protIndex (ring : Bool) (g : Nat) : Bool := if ring then decide (g < 32) else decide (g < 64)

/-- A word of memory that an ECC finding names (R381). -/
def memOk (w : MemRef) : Bool :=
  match w with
  | .mbCore b => decide (b < 4)
  | .mbDma b ch => decide (b < 4) && decide (ch < 32)
  | .engineData e => decide (e < 1024)
  | .bankFetch n e _ => decide (n < 32) && decide (e < 32)
  | .bankScrub n _ => decide (n < 32)
  | .spareBank n => decide (n < 32)
  | .liveEntry t i => tierIndex t i
  | .liveCarrier c => carOk c
  | .liveQuiesce p => decide (p < 256)
  | .schedule => true
  | .dmaBuffer ch => decide (ch < 32)

/-- The operands of a command or happening lie in the ranges the manual gives them. -/
def Instr.wf (i : Instr) : Bool :=
  match i with
  | .nop _ => true
  | .queryState _ => true
  | .setMode _ => true
  | .reset _ => true
  | .laneConfigConfigure _ => true
  | .vblSend _ => true
  | .vblRxBuffer _ => true
  | .portConfigBind _ => true
  | .portConfigMonitor _ => true
  | .portConfigUnbind _ => true
  | .portConfigQuiesce _ => true
  | .portConfigTrace _ => true
  | .carrierConfig _ => true
  | .connStage _ => true
  | .connStageBulk _ => true
  | .connCommit _ => true
  | .connAbort _ => true
  | .connReadback _ => true
  | .routeCheck _ => true
  | .protConfigLinearGroup _ => true
  | .protConfigRing _ => true
  | .protConfigRemap _ => true
  | .protConfigVblDistrust _ => true
  | .protConfigDelete _ => true
  | .protCommand _ => true
  | .sncpProfile _ => true
  | .sncpProfileRead _ => true
  | .timingConfigSlot _ => true
  | .timingConfigBlock _ => true
  | .timingStatus _ => true
  | .timingLockout _ => true
  | .timingClearLockout _ => true
  | .timingForce _ => true
  | .timingClearForce _ => true
  | .clearWtr _ => true
  | .historyClear _ => true
  | .forceHoldover _ => true
  | .forceFreeRun _ => true
  | .forceClear _ => true
  | .softEnter _ => true
  | .softWord _ => true
  | .softExit _ => true
  | .pmConfigExport _ => true
  | .pmConfigPostBuffer _ => true
  | .pmConfigExpectedTrace _ => true
  | .pmConfigWithdraw _ => true
  | .pmRead _ => true
  | .tapConfig _ => true
  | .prbsConfig _ => true
  | .auditRead _ => true
  | .twinConfig _ => true
  | .groupConfig _ => true
  | .gatehouseKey _ => true
  | .imageBegin _ => true
  | .imageChunk _ => true
  | .imageVerify _ => true
  | .imageActivate _ => true
  | .imageConfirm _ => true
  | .imageReject _ => true
  | .journalStatus _ => true
  | .journalCompact _ => true
  | .powerDomain _ => true
  | .todSet _ => true
  | .commandFetch => true
  | .cmdPhaseTimeout => true
  | .waitingCommandDone _ => true
  | .completionWrite => true
  | .eventWrite => true
  | .hostSlow => true
  | .dbCmd _ _ mem => mem.all fun x => decide (x.1 < 18446744073709551616)
  | .dbCpl _ _ => true
  | .dbEvt _ _ => true
  | .dbIrqRearm _ => true
  | .topSetupLock _ => true
  | .ringEnable _ _ => true
  | .ringDisable _ _ => true
  | .lowHalfRead off => decide (off < 65536)
  | .setupBadAccess _ off size => decide (off < 65536) && decide (size = 1 ∨ size = 2 ∨ size = 4 ∨ size = 8)
  | .registerWrite off _ => decide (off < 69632)
  | .ovfClear _ => true
  | .countClear _ => true
  | .pmcCtrlWrite n k _ => decide (n < 4) && decide (k < 8)
  | .dmaGo ch _ => decide (ch < 32)
  | .dmaPause ch _ => decide (ch < 32)
  | .dmaResume ch _ => decide (ch < 32)
  | .dmaStop ch _ => decide (ch < 32)
  | .dmaPaceEvent ch => decide (ch < 32)
  | .dmaBurstDone ch => decide (ch < 32)
  | .dmaBurstRetry ch _ => decide (ch < 32)
  | .dmaWithdrawn ch => decide (ch < 32)
  | .msixUnmask _ => true
  | .perstN _ => true
  | .linkUnavailable _ => true
  | .linkRestored _ => true
  | .busTimeout target master => decide (target < 10) && decide (master < 8)
  | .busDrainDone master => decide (master < 8)
  | .frameStart => true
  | .holdOffExpiry t i _ => tierIndex t i
  | .wtrExpiry t i => tierIndex t i
  | .routeSolveDone => true
  | .readinessPoint => true
  | .finalPoint => true
  | .commitSwap => true
  | .journalRecordClose => true
  | .prepareDeadline => true
  | .prepareRx sl _ m => decide (sl < 4) && decide (m.length = 24)
  | .readyRx sl _ m => decide (sl < 4) && decide (m.length = 24)
  | .readyDeadline => true
  | .commitRx sl _ m => decide (sl < 4) && decide (m.length = 24)
  | .ackRx sl _ m => decide (sl < 4) && decide (m.length = 24)
  | .ackDeadline => true
  | .abortRx sl _ m => decide (sl < 4) && decide (m.length = 24)
  | .refuseRx sl _ m => decide (sl < 4) && decide (m.length = 24)
  | .groupRecordRx sl _ _ m => decide (sl < 4) && decide (m.length = 64)
  | .groupRecordLapse sl _ => decide (sl < 4)
  | .bellwetherChange => true
  | .groupPacketRx _ _ => true
  | .groupConfigPacketRx _ _ => true
  | .groupStagedRx _ => true
  | .catchup sl _ _ => decide (sl < 4)
  | .groupJournalRx _ _ => true
  | .groupLinkDown _ => true
  | .pageRestore => true
  | .mateHeaderRx _ m => decide (m.length = 64)
  | .mateLinkUp => true
  | .mateLinkDown _ why => decide (why < 4)
  | .mlLof _ => true
  | .relayGrant _ _ m => decide (m.length = 32)
  | .released _ _ => true
  | .retransmit chan first count => decide (chan < 256) && decide (first < 256) && decide (1 ≤ count ∧ count < 256)
  | .mateCommandRx _ _ => true
  | .mateRecordRx m => decide (m.length = 64)
  | .mateJournalRx seq _ => decide (seq < 256)
  | .mateStagedRx seq _ => decide (seq < 256)
  | .mateBulkRx _ _ _ => true
  | .mirrorGapTimeout chan => decide (chan = 2 ∨ chan = 3)
  | .resyncInstall => true
  | .mateAlignStep => true
  | .grantRx _ m => decide (m.length = 32)
  | .roleTakeEffect => true
  | .leaseEnd => true
  | .grantTtlExpiry _ => true
  | .keyOverlapExpiry _ => true
  | .forcedTakeover => true
  | .vblHeaderRx lane m => laneOk lane && decide (m.length = 92)
  | .trustRestore lane => laneOk lane
  | .distrustRepeat lane => laneOk lane
  | .vblMessageRx lane m => laneOk lane && decide (8 ≤ m.length ∧ m.length ≤ 4096)
  | .vblFrameVerify lane cands => laneOk lane && cands.all fun c =>
    decide (c.pos < 2799360) && decide (c.word.length ≤ 16) && decide (c.uncorr ≤ 160) && decide (c.header.length ≤ 92)
  | .vblOof lane x =>
    laneOk lane && x.words.all (fun w => decide (w.length ≤ 16)) && x.uncorr.all fun n => decide (n ≤ 1440)
  | .vblDefectChange lane b _ => laneOk lane && decide (b < 64)
  | .laneFrameVerify obj _ => receiverOk obj
  | .laneOof obj => receiverOk obj
  | .laneFalseLockExit x => receiverOk x.obj && decide (x.ev.length ≤ 16)
  | .laneTieTimeout obj _ => receiverOk obj
  | .laneReadmission obj => receiverOk obj
  | .laneDefectChange cls obj b _ info => decide (cls < 8) && decide (obj < 512) && decide (b < 64) && decide (info.length ≤ 64)
  | .pathDefectChange cls obj b _ info => decide (cls = 2 ∨ cls = 3) && decide (obj < 1376256) && decide (b < 64) && decide (info.length ≤ 64)
  | .berDeclare cls obj n _ => decide (cls < 8) && decide (obj < 1376256) && decide (3 ≤ n ∧ n ≤ 9)
  | .kbyteAccept lane _ => laneOk lane
  | .psbf lane => laneOk lane
  | .kstorm lane _ => laneOk lane
  | .fop ring g _ => protIndex ring g
  | .apsSwitch ring g st => protIndex ring g && decide (st ≤ 14)
  | .carrierAlignVerify car cands => carOk car && cands.all fun x => decide (x.1 < 512) && decide (x.2.length ≤ 64)
  | .carrierTieTimeout car left => carOk car && left.all fun p => decide (p < 512)
  | .carrierFalseLockExit x => carOk x.car
  | .carrierBarLapse car => carOk car
  | .carrierInterworkFallback car => carOk car
  | .carrierDefectChange car b x => carOk car && decide (b < 64) && decide (x.ev.length ≤ 64)
  | .carrierSlip car _ => carOk car
  | .sigHoldExpiry car => carOk car
  | .defectEventPeriod => true
  | .pmSecondFinal cls obj => decide (cls < 8) && decide (obj < 1376256)
  | .pmBinClose cls obj _ => decide (cls < 8) && decide (obj < 1376256)
  | .pmBufferTimeout => true
  | .selectionTick => true
  | .refFailureCondition slot b _ => decide (slot < 16) && decide (b < 6)
  | .refHoldOffExpiry slot => decide (slot < 16)
  | .refWtrExpiry slot => decide (slot < 16)
  | .acqFail => true
  | .dpllLocked => true
  | .ssmTimeout slot => decide (slot < 16)
  | .ssmAccept slot _ => decide (slot < 16)
  | .freqMonitorUpdate slot _ => decide (slot < 16)
  | .refConflict a b => decide (a < b ∧ b < 16)
  | .counterGather => true
  | .fpBackgroundCheck _ => true
  | .prbsSyncChange u x => decide (u < 16) && decide (x.bits.length ≤ 1024)
  | .engineOverrun e => decide (e < 1024)
  | .bankSwitch n => decide (n < 32)
  | .bankReadyTimeout n => decide (n < 32)
  | .eccUncorrectable w => memOk w
  | .scrubCorrection w => memOk w
  | .bankRepairDone n => decide (n < 32)
  | .liveItemRewrite w => memOk w
  | .domainOnDone d => decide (d < 112)
  | .domainFault d => decide (d < 112)
  | .debugResponse vk vs ck cs => decide (vk.length = 96) && decide (vs.length = 96) && decide (ck.length ≤ 96) && decide (cs.length ≤ 96)
  | .powerOn _ => true
  | .railFault pd => pd.all fun d => decide (d < 112)
  | .coldPin _ => true
  | .warmPin _ => true
  | .thermalTripClear _ => true
  | .thermalWarn _ => true
  | .trimLoadRetry _ => true
  | .xoCheckRetry _ => true
  | .powerFailWarning _ => true
  | .vbakCheck _ => true
  | .clearFaults _ => true
  | .capability _ => true
  | .statusWord _ => true
  | .statusInput _ => true
  | .statusTemperature _ => true
  | .statusCml _ => true
  | .statusMfrSpecific _ => true
  | .readVin _ => true
  | .readIin _ => true
  | .readTemperature1 _ => true
  | .readPin _ => true
  | .pmbusRevision _ => true
  | .mfrId _ => true
  | .mfrModel _ => true
  | .mfrRevision _ => true
  | .mfrSerial _ => true
  | .mfrModuleState _ => true
  | .mfrReset _ _ => true
  | .mfrResetHistory _ => true
  | .mfrReadVbak _ => true
  | .i2cInvalidCommand _ => true
  | .mlOof x => decide (x.blocks.length ≤ 4) && decide (x.bad ≤ 78125)
  | .mlFrameVerify x => decide (x.heads ≤ 128)
  | .codeGroupAlignment _ => true
  | .timingAlignmentChange _ => true
  | .carrierLossOfAlignment x => carOk x.obj
  | .multiframeAlignment car _ => carOk car
  | .vblBarLapse lane => laneOk lane
  | .sensorFault n _ => decide (n < 12)
  | .vinOvervoltage _ => true
  | .pmSecondEnd ms => ms.all fun m => decide (m.cls < 8) && decide (m.obj < 1376256) && decide (m.nearErrs ≤ m.nearBlocks)
  | .compactionStart => true
  | .compactionDone => true
  | .journalFault => true
  | .managementHandover => true
  | .handoverTimeout => true
  | .microcodeSwitch => true
  | .imageSelfConfirm => true
  | .trialDeadline => true
  | .debugChallenge => true
  | .debugReset => true
  | .clockFault => true
  | .ganderWarm => true
  | .ganderKick => true
  | .ganderCold => true
  | .thermal => true
  | .coldRelease => true
  | .warmRelease => true
  | .optionLoadRetry => true
  | .safeRestartEntry => true
  | .pfwClear => true

end Sys2Proof
end

