-- ==== Sys2Proof/Laws/PerInstr.lean ====
section
/-! SUPPORT. The family of statements made command by command: a command of the ring is well formed whatever its entry
holds, since R35 answers what is wrong in one, and its opcode is one the command set assigns (R318). -/
namespace Sys2Proof.Laws

/-- Opcodes of the command set (R318). -/
def assigned (op : Byte) : Bool :=
  [0x01, 0x02, 0x03, 0x10, 0x11, 0x12, 0x20, 0x21, 0x22, 0x23, 0x24, 0x25, 0x30, 0x31, 0x32, 0x40, 0x41, 0x50, 0x51, 0x60,
    0x61, 0x62, 0x70, 0x71, 0x72, 0x80, 0x81, 0x82, 0x83, 0x84, 0x85, 0x90, 0x91, 0xA0, 0xA1, 0xF0].contains op

/-- A command of the ring is well formed for every entry, and its row names an assigned opcode; nothing is said of a
happening, which is no command of the ring. -/
def Ranged.Statement (i : Instr) : Prop :=
  ∀ r, Machine.ringRow i = some r → i.wf = true ∧ assigned r.opcode = true

theorem Ranged.nop (c : CmdEntry) : Ranged.Statement (.nop c) := by
  intro r h; cases h; exact ⟨rfl, rfl⟩
theorem Ranged.queryState (c : CmdEntry) : Ranged.Statement (.queryState c) := by
  intro r h; cases h; exact ⟨rfl, rfl⟩
theorem Ranged.setMode (c : CmdEntry) : Ranged.Statement (.setMode c) := by
  intro r h; cases h; exact ⟨rfl, rfl⟩
theorem Ranged.reset (c : CmdEntry) : Ranged.Statement (.reset c) := by
  intro r h; cases h; exact ⟨rfl, rfl⟩
theorem Ranged.laneConfigConfigure (c : CmdEntry) : Ranged.Statement (.laneConfigConfigure c) := by
  intro r h; cases h; exact ⟨rfl, rfl⟩
theorem Ranged.vblSend (c : CmdEntry) : Ranged.Statement (.vblSend c) := by
  intro r h; cases h; exact ⟨rfl, rfl⟩
theorem Ranged.vblRxBuffer (c : CmdEntry) : Ranged.Statement (.vblRxBuffer c) := by
  intro r h; cases h; exact ⟨rfl, rfl⟩
theorem Ranged.portConfigBind (c : CmdEntry) : Ranged.Statement (.portConfigBind c) := by
  intro r h; cases h; exact ⟨rfl, rfl⟩
theorem Ranged.portConfigMonitor (c : CmdEntry) : Ranged.Statement (.portConfigMonitor c) := by
  intro r h; cases h; exact ⟨rfl, rfl⟩
theorem Ranged.portConfigUnbind (c : CmdEntry) : Ranged.Statement (.portConfigUnbind c) := by
  intro r h; cases h; exact ⟨rfl, rfl⟩
theorem Ranged.portConfigQuiesce (c : CmdEntry) : Ranged.Statement (.portConfigQuiesce c) := by
  intro r h; cases h; exact ⟨rfl, rfl⟩
theorem Ranged.portConfigTrace (c : CmdEntry) : Ranged.Statement (.portConfigTrace c) := by
  intro r h; cases h; exact ⟨rfl, rfl⟩
theorem Ranged.carrierConfig (c : CmdEntry) : Ranged.Statement (.carrierConfig c) := by
  intro r h; cases h; exact ⟨rfl, rfl⟩
theorem Ranged.connStage (c : CmdEntry) : Ranged.Statement (.connStage c) := by
  intro r h; cases h; exact ⟨rfl, rfl⟩
theorem Ranged.connStageBulk (c : CmdEntry) : Ranged.Statement (.connStageBulk c) := by
  intro r h; cases h; exact ⟨rfl, rfl⟩
theorem Ranged.connCommit (c : CmdEntry) : Ranged.Statement (.connCommit c) := by
  intro r h; cases h; exact ⟨rfl, rfl⟩
theorem Ranged.connAbort (c : CmdEntry) : Ranged.Statement (.connAbort c) := by
  intro r h; cases h; exact ⟨rfl, rfl⟩
theorem Ranged.connReadback (c : CmdEntry) : Ranged.Statement (.connReadback c) := by
  intro r h; cases h; exact ⟨rfl, rfl⟩
theorem Ranged.routeCheck (c : CmdEntry) : Ranged.Statement (.routeCheck c) := by
  intro r h; cases h; exact ⟨rfl, rfl⟩
theorem Ranged.protConfigLinearGroup (c : CmdEntry) : Ranged.Statement (.protConfigLinearGroup c) := by
  intro r h; cases h; exact ⟨rfl, rfl⟩
theorem Ranged.protConfigRing (c : CmdEntry) : Ranged.Statement (.protConfigRing c) := by
  intro r h; cases h; exact ⟨rfl, rfl⟩
theorem Ranged.protConfigRemap (c : CmdEntry) : Ranged.Statement (.protConfigRemap c) := by
  intro r h; cases h; exact ⟨rfl, rfl⟩
theorem Ranged.protConfigVblDistrust (c : CmdEntry) : Ranged.Statement (.protConfigVblDistrust c) := by
  intro r h; cases h; exact ⟨rfl, rfl⟩
theorem Ranged.protConfigDelete (c : CmdEntry) : Ranged.Statement (.protConfigDelete c) := by
  intro r h; cases h; exact ⟨rfl, rfl⟩
theorem Ranged.protCommand (c : CmdEntry) : Ranged.Statement (.protCommand c) := by
  intro r h; cases h; exact ⟨rfl, rfl⟩
theorem Ranged.sncpProfile (c : CmdEntry) : Ranged.Statement (.sncpProfile c) := by
  intro r h; cases h; exact ⟨rfl, rfl⟩
theorem Ranged.sncpProfileRead (c : CmdEntry) : Ranged.Statement (.sncpProfileRead c) := by
  intro r h; cases h; exact ⟨rfl, rfl⟩
theorem Ranged.timingConfigSlot (c : CmdEntry) : Ranged.Statement (.timingConfigSlot c) := by
  intro r h; cases h; exact ⟨rfl, rfl⟩
theorem Ranged.timingConfigBlock (c : CmdEntry) : Ranged.Statement (.timingConfigBlock c) := by
  intro r h; cases h; exact ⟨rfl, rfl⟩
theorem Ranged.timingStatus (c : CmdEntry) : Ranged.Statement (.timingStatus c) := by
  intro r h; cases h; exact ⟨rfl, rfl⟩
theorem Ranged.timingLockout (c : CmdEntry) : Ranged.Statement (.timingLockout c) := by
  intro r h; cases h; exact ⟨rfl, rfl⟩
theorem Ranged.timingClearLockout (c : CmdEntry) : Ranged.Statement (.timingClearLockout c) := by
  intro r h; cases h; exact ⟨rfl, rfl⟩
theorem Ranged.timingForce (c : CmdEntry) : Ranged.Statement (.timingForce c) := by
  intro r h; cases h; exact ⟨rfl, rfl⟩
theorem Ranged.timingClearForce (c : CmdEntry) : Ranged.Statement (.timingClearForce c) := by
  intro r h; cases h; exact ⟨rfl, rfl⟩
theorem Ranged.clearWtr (c : CmdEntry) : Ranged.Statement (.clearWtr c) := by
  intro r h; cases h; exact ⟨rfl, rfl⟩
theorem Ranged.historyClear (c : CmdEntry) : Ranged.Statement (.historyClear c) := by
  intro r h; cases h; exact ⟨rfl, rfl⟩
theorem Ranged.forceHoldover (c : CmdEntry) : Ranged.Statement (.forceHoldover c) := by
  intro r h; cases h; exact ⟨rfl, rfl⟩
theorem Ranged.forceFreeRun (c : CmdEntry) : Ranged.Statement (.forceFreeRun c) := by
  intro r h; cases h; exact ⟨rfl, rfl⟩
theorem Ranged.forceClear (c : CmdEntry) : Ranged.Statement (.forceClear c) := by
  intro r h; cases h; exact ⟨rfl, rfl⟩
theorem Ranged.softEnter (c : CmdEntry) : Ranged.Statement (.softEnter c) := by
  intro r h; cases h; exact ⟨rfl, rfl⟩
theorem Ranged.softWord (c : CmdEntry) : Ranged.Statement (.softWord c) := by
  intro r h; cases h; exact ⟨rfl, rfl⟩
theorem Ranged.softExit (c : CmdEntry) : Ranged.Statement (.softExit c) := by
  intro r h; cases h; exact ⟨rfl, rfl⟩
theorem Ranged.pmConfigExport (c : CmdEntry) : Ranged.Statement (.pmConfigExport c) := by
  intro r h; cases h; exact ⟨rfl, rfl⟩
theorem Ranged.pmConfigPostBuffer (c : CmdEntry) : Ranged.Statement (.pmConfigPostBuffer c) := by
  intro r h; cases h; exact ⟨rfl, rfl⟩
theorem Ranged.pmConfigExpectedTrace (c : CmdEntry) : Ranged.Statement (.pmConfigExpectedTrace c) := by
  intro r h; cases h; exact ⟨rfl, rfl⟩
theorem Ranged.pmConfigWithdraw (c : CmdEntry) : Ranged.Statement (.pmConfigWithdraw c) := by
  intro r h; cases h; exact ⟨rfl, rfl⟩
theorem Ranged.pmRead (c : CmdEntry) : Ranged.Statement (.pmRead c) := by
  intro r h; cases h; exact ⟨rfl, rfl⟩
theorem Ranged.tapConfig (c : CmdEntry) : Ranged.Statement (.tapConfig c) := by
  intro r h; cases h; exact ⟨rfl, rfl⟩
theorem Ranged.prbsConfig (c : CmdEntry) : Ranged.Statement (.prbsConfig c) := by
  intro r h; cases h; exact ⟨rfl, rfl⟩
theorem Ranged.auditRead (c : CmdEntry) : Ranged.Statement (.auditRead c) := by
  intro r h; cases h; exact ⟨rfl, rfl⟩
theorem Ranged.twinConfig (c : CmdEntry) : Ranged.Statement (.twinConfig c) := by
  intro r h; cases h; exact ⟨rfl, rfl⟩
theorem Ranged.groupConfig (c : CmdEntry) : Ranged.Statement (.groupConfig c) := by
  intro r h; cases h; exact ⟨rfl, rfl⟩
theorem Ranged.gatehouseKey (c : CmdEntry) : Ranged.Statement (.gatehouseKey c) := by
  intro r h; cases h; exact ⟨rfl, rfl⟩
theorem Ranged.imageBegin (c : CmdEntry) : Ranged.Statement (.imageBegin c) := by
  intro r h; cases h; exact ⟨rfl, rfl⟩
theorem Ranged.imageChunk (c : CmdEntry) : Ranged.Statement (.imageChunk c) := by
  intro r h; cases h; exact ⟨rfl, rfl⟩
theorem Ranged.imageVerify (c : CmdEntry) : Ranged.Statement (.imageVerify c) := by
  intro r h; cases h; exact ⟨rfl, rfl⟩
theorem Ranged.imageActivate (c : CmdEntry) : Ranged.Statement (.imageActivate c) := by
  intro r h; cases h; exact ⟨rfl, rfl⟩
theorem Ranged.imageConfirm (c : CmdEntry) : Ranged.Statement (.imageConfirm c) := by
  intro r h; cases h; exact ⟨rfl, rfl⟩
theorem Ranged.imageReject (c : CmdEntry) : Ranged.Statement (.imageReject c) := by
  intro r h; cases h; exact ⟨rfl, rfl⟩
theorem Ranged.journalStatus (c : CmdEntry) : Ranged.Statement (.journalStatus c) := by
  intro r h; cases h; exact ⟨rfl, rfl⟩
theorem Ranged.journalCompact (c : CmdEntry) : Ranged.Statement (.journalCompact c) := by
  intro r h; cases h; exact ⟨rfl, rfl⟩
theorem Ranged.powerDomain (c : CmdEntry) : Ranged.Statement (.powerDomain c) := by
  intro r h; cases h; exact ⟨rfl, rfl⟩
theorem Ranged.todSet (c : CmdEntry) : Ranged.Statement (.todSet c) := by
  intro r h; cases h; exact ⟨rfl, rfl⟩
theorem Ranged.commandFetch : Ranged.Statement .commandFetch := by
  intro r h; cases h
theorem Ranged.cmdPhaseTimeout : Ranged.Statement .cmdPhaseTimeout := by
  intro r h; cases h
theorem Ranged.waitingCommandDone (i : Nat) : Ranged.Statement (.waitingCommandDone i) := by
  intro r h; cases h
theorem Ranged.completionWrite : Ranged.Statement .completionWrite := by
  intro r h; cases h
theorem Ranged.eventWrite : Ranged.Statement .eventWrite := by
  intro r h; cases h
theorem Ranged.hostSlow : Ranged.Statement .hostSlow := by
  intro r h; cases h
theorem Ranged.dbCmd (aligned32 : Bool) (v : Word32) (mem : List Host.Cell) :
    Ranged.Statement (.dbCmd aligned32 v mem) := by
  intro r h; cases h
theorem Ranged.dbCpl (aligned32 : Bool) (v : Word32) : Ranged.Statement (.dbCpl aligned32 v) := by
  intro r h; cases h
theorem Ranged.dbEvt (aligned32 : Bool) (v : Word32) : Ranged.Statement (.dbEvt aligned32 v) := by
  intro r h; cases h
theorem Ranged.dbIrqRearm (x : IrqWrite) : Ranged.Statement (.dbIrqRearm x) := by
  intro r h; cases h
theorem Ranged.topSetupLock (v : Word32) : Ranged.Statement (.topSetupLock v) := by
  intro r h; cases h
theorem Ranged.ringEnable (r : RingId) (v : Word32) : Ranged.Statement (.ringEnable r v) := by
  intro r h; cases h
theorem Ranged.ringDisable (r : RingId) (v : Word32) : Ranged.Statement (.ringDisable r v) := by
  intro r h; cases h
theorem Ranged.lowHalfRead (off : Nat) : Ranged.Statement (.lowHalfRead off) := by
  intro r h; cases h
theorem Ranged.setupBadAccess (write : Bool) (off : Nat) (size : Nat) :
    Ranged.Statement (.setupBadAccess write off size) := by
  intro r h; cases h
theorem Ranged.registerWrite (off : Nat) (v : Word32) : Ranged.Statement (.registerWrite off v) := by
  intro r h; cases h
theorem Ranged.ovfClear (v : Word32) : Ranged.Statement (.ovfClear v) := by
  intro r h; cases h
theorem Ranged.countClear (v : Word32) : Ranged.Statement (.countClear v) := by
  intro r h; cases h
theorem Ranged.pmcCtrlWrite (n : Nat) (k : Nat) (v : Word32) : Ranged.Statement (.pmcCtrlWrite n k v) := by
  intro r h; cases h
theorem Ranged.dmaGo (ch : Nat) (v : Word32) : Ranged.Statement (.dmaGo ch v) := by
  intro r h; cases h
theorem Ranged.dmaPause (ch : Nat) (v : Word32) : Ranged.Statement (.dmaPause ch v) := by
  intro r h; cases h
theorem Ranged.dmaResume (ch : Nat) (v : Word32) : Ranged.Statement (.dmaResume ch v) := by
  intro r h; cases h
theorem Ranged.dmaStop (ch : Nat) (v : Word32) : Ranged.Statement (.dmaStop ch v) := by
  intro r h; cases h
theorem Ranged.dmaPaceEvent (ch : Nat) : Ranged.Statement (.dmaPaceEvent ch) := by
  intro r h; cases h
theorem Ranged.dmaBurstDone (ch : Nat) : Ranged.Statement (.dmaBurstDone ch) := by
  intro r h; cases h
theorem Ranged.dmaBurstRetry (ch : Nat) (cause : Nat) : Ranged.Statement (.dmaBurstRetry ch cause) := by
  intro r h; cases h
theorem Ranged.dmaWithdrawn (ch : Nat) : Ranged.Statement (.dmaWithdrawn ch) := by
  intro r h; cases h
theorem Ranged.msixUnmask (op : MsixOp) : Ranged.Statement (.msixUnmask op) := by
  intro r h; cases h
theorem Ranged.perstN (low : Bool) : Ranged.Statement (.perstN low) := by
  intro r h; cases h
theorem Ranged.linkUnavailable (why : LinkLoss) : Ranged.Statement (.linkUnavailable why) := by
  intro r h; cases h
theorem Ranged.linkRestored (why : LinkLoss) : Ranged.Statement (.linkRestored why) := by
  intro r h; cases h
theorem Ranged.busTimeout (target : Nat) (master : Nat) : Ranged.Statement (.busTimeout target master) := by
  intro r h; cases h
theorem Ranged.busDrainDone (master : Nat) : Ranged.Statement (.busDrainDone master) := by
  intro r h; cases h
theorem Ranged.frameStart : Ranged.Statement .frameStart := by
  intro r h; cases h
theorem Ranged.holdOffExpiry (t : Tier) (i : Nat) (l : Leg) : Ranged.Statement (.holdOffExpiry t i l) := by
  intro r h; cases h
theorem Ranged.wtrExpiry (t : Tier) (i : Nat) : Ranged.Statement (.wtrExpiry t i) := by
  intro r h; cases h
theorem Ranged.routeSolveDone : Ranged.Statement .routeSolveDone := by
  intro r h; cases h
theorem Ranged.readinessPoint : Ranged.Statement .readinessPoint := by
  intro r h; cases h
theorem Ranged.finalPoint : Ranged.Statement .finalPoint := by
  intro r h; cases h
theorem Ranged.commitSwap : Ranged.Statement .commitSwap := by
  intro r h; cases h
theorem Ranged.journalRecordClose : Ranged.Statement .journalRecordClose := by
  intro r h; cases h
theorem Ranged.prepareDeadline : Ranged.Statement .prepareDeadline := by
  intro r h; cases h
theorem Ranged.prepareRx (slice : Nat) (unit : Bool) (m : Bytes) : Ranged.Statement (.prepareRx slice unit m) := by
  intro r h; cases h
theorem Ranged.readyRx (slice : Nat) (unit : Bool) (m : Bytes) : Ranged.Statement (.readyRx slice unit m) := by
  intro r h; cases h
theorem Ranged.readyDeadline : Ranged.Statement .readyDeadline := by
  intro r h; cases h
theorem Ranged.commitRx (slice : Nat) (unit : Bool) (m : Bytes) : Ranged.Statement (.commitRx slice unit m) := by
  intro r h; cases h
theorem Ranged.ackRx (slice : Nat) (unit : Bool) (m : Bytes) : Ranged.Statement (.ackRx slice unit m) := by
  intro r h; cases h
theorem Ranged.ackDeadline : Ranged.Statement .ackDeadline := by
  intro r h; cases h
theorem Ranged.abortRx (slice : Nat) (unit : Bool) (m : Bytes) : Ranged.Statement (.abortRx slice unit m) := by
  intro r h; cases h
theorem Ranged.refuseRx (slice : Nat) (unit : Bool) (m : Bytes) : Ranged.Statement (.refuseRx slice unit m) := by
  intro r h; cases h
theorem Ranged.groupRecordRx (slice : Nat) (unit : Bool) (sliceCount : Nat) (m : Bytes) :
    Ranged.Statement (.groupRecordRx slice unit sliceCount m) := by
  intro r h; cases h
theorem Ranged.groupRecordLapse (slice : Nat) (unit : Bool) : Ranged.Statement (.groupRecordLapse slice unit) := by
  intro r h; cases h
theorem Ranged.bellwetherChange : Ranged.Statement .bellwetherChange := by
  intro r h; cases h
theorem Ranged.groupPacketRx (west : Bool) (m : Bytes) : Ranged.Statement (.groupPacketRx west m) := by
  intro r h; cases h
theorem Ranged.groupConfigPacketRx (fn : FN) (e : Effect) : Ranged.Statement (.groupConfigPacketRx fn e) := by
  intro r h; cases h
theorem Ranged.groupStagedRx (ws : List StagedWrite) : Ranged.Statement (.groupStagedRx ws) := by
  intro r h; cases h
theorem Ranged.catchup (slice : Nat) (unit : Bool) (fromSeq : Nat) :
    Ranged.Statement (.catchup slice unit fromSeq) := by
  intro r h; cases h
theorem Ranged.groupJournalRx (snap : Option Snapshot) (recs : List JRecord) :
    Ranged.Statement (.groupJournalRx snap recs) := by
  intro r h; cases h
theorem Ranged.groupLinkDown (x : PortCodes) : Ranged.Statement (.groupLinkDown x) := by
  intro r h; cases h
theorem Ranged.pageRestore : Ranged.Statement .pageRestore := by
  intro r h; cases h
theorem Ranged.mateHeaderRx (lane : Bool) (m : Bytes) : Ranged.Statement (.mateHeaderRx lane m) := by
  intro r h; cases h
theorem Ranged.mateLinkUp : Ranged.Statement .mateLinkUp := by
  intro r h; cases h
theorem Ranged.mateLinkDown (lane : Bool) (why : Nat) : Ranged.Statement (.mateLinkDown lane why) := by
  intro r h; cases h
theorem Ranged.mlLof (lane : Bool) : Ranged.Statement (.mlLof lane) := by
  intro r h; cases h
theorem Ranged.relayGrant (port : Bool) (anchor : FN) (m : Bytes) :
    Ranged.Statement (.relayGrant port anchor m) := by
  intro r h; cases h
theorem Ranged.released (epoch : Word32) (fn : FN) : Ranged.Statement (.released epoch fn) := by
  intro r h; cases h
theorem Ranged.retransmit (chan : Nat) (first : Nat) (count : Nat) :
    Ranged.Statement (.retransmit chan first count) := by
  intro r h; cases h
theorem Ranged.mateCommandRx (fn : FN) (e : Effect) : Ranged.Statement (.mateCommandRx fn e) := by
  intro r h; cases h
theorem Ranged.mateRecordRx (m : Bytes) : Ranged.Statement (.mateRecordRx m) := by
  intro r h; cases h
theorem Ranged.mateJournalRx (seq : Nat) (r : JRecord) : Ranged.Statement (.mateJournalRx seq r) := by
  intro r h; cases h
theorem Ranged.mateStagedRx (seq : Nat) (ws : List StagedWrite) : Ranged.Statement (.mateStagedRx seq ws) := by
  intro r h; cases h
theorem Ranged.mateBulkRx (last : Bool) (tag : Nat) (img : Snapshot) :
    Ranged.Statement (.mateBulkRx last tag img) := by
  intro r h; cases h
theorem Ranged.mirrorGapTimeout (chan : Nat) : Ranged.Statement (.mirrorGapTimeout chan) := by
  intro r h; cases h
theorem Ranged.resyncInstall : Ranged.Statement .resyncInstall := by
  intro r h; cases h
theorem Ranged.mateAlignStep : Ranged.Statement .mateAlignStep := by
  intro r h; cases h
theorem Ranged.grantRx (port : Bool) (m : Bytes) : Ranged.Statement (.grantRx port m) := by
  intro r h; cases h
theorem Ranged.roleTakeEffect : Ranged.Statement .roleTakeEffect := by
  intro r h; cases h
theorem Ranged.leaseEnd : Ranged.Statement .leaseEnd := by
  intro r h; cases h
theorem Ranged.grantTtlExpiry (port : Bool) : Ranged.Statement (.grantTtlExpiry port) := by
  intro r h; cases h
theorem Ranged.keyOverlapExpiry (port : Bool) : Ranged.Statement (.keyOverlapExpiry port) := by
  intro r h; cases h
theorem Ranged.forcedTakeover : Ranged.Statement .forcedTakeover := by
  intro r h; cases h
theorem Ranged.vblHeaderRx (lane : Nat) (m : Bytes) : Ranged.Statement (.vblHeaderRx lane m) := by
  intro r h; cases h
theorem Ranged.trustRestore (lane : Nat) : Ranged.Statement (.trustRestore lane) := by
  intro r h; cases h
theorem Ranged.distrustRepeat (lane : Nat) : Ranged.Statement (.distrustRepeat lane) := by
  intro r h; cases h
theorem Ranged.vblMessageRx (lane : Nat) (m : Bytes) : Ranged.Statement (.vblMessageRx lane m) := by
  intro r h; cases h
theorem Ranged.vblFrameVerify (lane : Nat) (cands : List VblCand) :
    Ranged.Statement (.vblFrameVerify lane cands) := by
  intro r h; cases h
theorem Ranged.vblOof (lane : Nat) (x : VblSeen) : Ranged.Statement (.vblOof lane x) := by
  intro r h; cases h
theorem Ranged.vblDefectChange (lane : Nat) (bit : Nat) (on : Bool) :
    Ranged.Statement (.vblDefectChange lane bit on) := by
  intro r h; cases h
theorem Ranged.laneFrameVerify (obj : Nat) (cands : List Nat) : Ranged.Statement (.laneFrameVerify obj cands) := by
  intro r h; cases h
theorem Ranged.laneOof (obj : Nat) : Ranged.Statement (.laneOof obj) := by
  intro r h; cases h
theorem Ranged.laneFalseLockExit (x : Watched) : Ranged.Statement (.laneFalseLockExit x) := by
  intro r h; cases h
theorem Ranged.laneTieTimeout (obj : Nat) (b1 : List (Nat × Nat)) : Ranged.Statement (.laneTieTimeout obj b1) := by
  intro r h; cases h
theorem Ranged.laneReadmission (obj : Nat) : Ranged.Statement (.laneReadmission obj) := by
  intro r h; cases h
theorem Ranged.laneDefectChange (cls : Nat) (obj : Nat) (bit : Nat) (on : Bool) (info : Bytes) :
    Ranged.Statement (.laneDefectChange cls obj bit on info) := by
  intro r h; cases h
theorem Ranged.pathDefectChange (cls : Nat) (obj : Nat) (bit : Nat) (on : Bool) (info : Bytes) :
    Ranged.Statement (.pathDefectChange cls obj bit on info) := by
  intro r h; cases h
theorem Ranged.berDeclare (cls : Nat) (obj : Nat) (n : Nat) (on : Bool) :
    Ranged.Statement (.berDeclare cls obj n on) := by
  intro r h; cases h
theorem Ranged.kbyteAccept (lane : Nat) (k : BitVec 13) : Ranged.Statement (.kbyteAccept lane k) := by
  intro r h; cases h
theorem Ranged.psbf (lane : Nat) : Ranged.Statement (.psbf lane) := by
  intro r h; cases h
theorem Ranged.kstorm (lane : Nat) (on : Bool) : Ranged.Statement (.kstorm lane on) := by
  intro r h; cases h
theorem Ranged.fop (ring : Bool) (g : Nat) (on : Bool) : Ranged.Statement (.fop ring g on) := by
  intro r h; cases h
theorem Ranged.apsSwitch (ring : Bool) (g : Nat) (st : Nat) : Ranged.Statement (.apsSwitch ring g st) := by
  intro r h; cases h
theorem Ranged.carrierAlignVerify (car : Nat) (cands : List (Nat × Bytes)) :
    Ranged.Statement (.carrierAlignVerify car cands) := by
  intro r h; cases h
theorem Ranged.carrierTieTimeout (car : Nat) (left : List Nat) : Ranged.Statement (.carrierTieTimeout car left) := by
  intro r h; cases h
theorem Ranged.carrierFalseLockExit (x : Errored) : Ranged.Statement (.carrierFalseLockExit x) := by
  intro r h; cases h
theorem Ranged.carrierBarLapse (car : Nat) : Ranged.Statement (.carrierBarLapse car) := by
  intro r h; cases h
theorem Ranged.carrierInterworkFallback (car : Nat) : Ranged.Statement (.carrierInterworkFallback car) := by
  intro r h; cases h
theorem Ranged.carrierDefectChange (car : Nat) (bit : Nat) (x : Shown) :
    Ranged.Statement (.carrierDefectChange car bit x) := by
  intro r h; cases h
theorem Ranged.carrierSlip (car : Nat) (delete : Bool) : Ranged.Statement (.carrierSlip car delete) := by
  intro r h; cases h
theorem Ranged.sigHoldExpiry (car : Nat) : Ranged.Statement (.sigHoldExpiry car) := by
  intro r h; cases h
theorem Ranged.defectEventPeriod : Ranged.Statement .defectEventPeriod := by
  intro r h; cases h
theorem Ranged.pmSecondFinal (cls : Nat) (obj : Nat) : Ranged.Statement (.pmSecondFinal cls obj) := by
  intro r h; cases h
theorem Ranged.pmBinClose (cls : Nat) (obj : Nat) (day : Bool) : Ranged.Statement (.pmBinClose cls obj day) := by
  intro r h; cases h
theorem Ranged.pmBufferTimeout : Ranged.Statement .pmBufferTimeout := by
  intro r h; cases h
theorem Ranged.selectionTick : Ranged.Statement .selectionTick := by
  intro r h; cases h
theorem Ranged.refFailureCondition (slot : Nat) (bit : Nat) (on : Bool) :
    Ranged.Statement (.refFailureCondition slot bit on) := by
  intro r h; cases h
theorem Ranged.refHoldOffExpiry (slot : Nat) : Ranged.Statement (.refHoldOffExpiry slot) := by
  intro r h; cases h
theorem Ranged.refWtrExpiry (slot : Nat) : Ranged.Statement (.refWtrExpiry slot) := by
  intro r h; cases h
theorem Ranged.acqFail : Ranged.Statement .acqFail := by
  intro r h; cases h
theorem Ranged.dpllLocked : Ranged.Statement .dpllLocked := by
  intro r h; cases h
theorem Ranged.ssmTimeout (slot : Nat) : Ranged.Statement (.ssmTimeout slot) := by
  intro r h; cases h
theorem Ranged.ssmAccept (slot : Nat) (code : BitVec 4) : Ranged.Statement (.ssmAccept slot code) := by
  intro r h; cases h
theorem Ranged.freqMonitorUpdate (slot : Nat) (freq : Int) : Ranged.Statement (.freqMonitorUpdate slot freq) := by
  intro r h; cases h
theorem Ranged.refConflict (a : Nat) (b : Nat) : Ranged.Statement (.refConflict a b) := by
  intro r h; cases h
theorem Ranged.counterGather : Ranged.Statement .counterGather := by
  intro r h; cases h
theorem Ranged.fpBackgroundCheck (found : Word64) : Ranged.Statement (.fpBackgroundCheck found) := by
  intro r h; cases h
theorem Ranged.prbsSyncChange (u : Nat) (x : PrbsShown) : Ranged.Statement (.prbsSyncChange u x) := by
  intro r h; cases h
theorem Ranged.engineOverrun (e : Nat) : Ranged.Statement (.engineOverrun e) := by
  intro r h; cases h
theorem Ranged.bankSwitch (n : Nat) : Ranged.Statement (.bankSwitch n) := by
  intro r h; cases h
theorem Ranged.bankReadyTimeout (n : Nat) : Ranged.Statement (.bankReadyTimeout n) := by
  intro r h; cases h
theorem Ranged.eccUncorrectable (w : MemRef) : Ranged.Statement (.eccUncorrectable w) := by
  intro r h; cases h
theorem Ranged.scrubCorrection (w : MemRef) : Ranged.Statement (.scrubCorrection w) := by
  intro r h; cases h
theorem Ranged.bankRepairDone (n : Nat) : Ranged.Statement (.bankRepairDone n) := by
  intro r h; cases h
theorem Ranged.liveItemRewrite (w : MemRef) : Ranged.Statement (.liveItemRewrite w) := by
  intro r h; cases h
theorem Ranged.domainOnDone (d : Nat) : Ranged.Statement (.domainOnDone d) := by
  intro r h; cases h
theorem Ranged.domainFault (d : Nat) : Ranged.Statement (.domainFault d) := by
  intro r h; cases h
theorem Ranged.debugResponse (vendorKey : Bytes) (vendorSig : Bytes) (custKey : Bytes) (custSig : Bytes) :
    Ranged.Statement (.debugResponse vendorKey vendorSig custKey custSig) := by
  intro r h; cases h
theorem Ranged.powerOn (x : SupplyEdge) : Ranged.Statement (.powerOn x) := by
  intro r h; cases h
theorem Ranged.railFault (pd : Option Nat) : Ranged.Statement (.railFault pd) := by
  intro r h; cases h
theorem Ranged.coldPin (low : Bool) : Ranged.Statement (.coldPin low) := by
  intro r h; cases h
theorem Ranged.warmPin (low : Bool) : Ranged.Statement (.warmPin low) := by
  intro r h; cases h
theorem Ranged.thermalTripClear (tenths : Int) : Ranged.Statement (.thermalTripClear tenths) := by
  intro r h; cases h
theorem Ranged.thermalWarn (tenths : Int) : Ranged.Statement (.thermalWarn tenths) := by
  intro r h; cases h
theorem Ranged.trimLoadRetry (copyOk : Bool) : Ranged.Statement (.trimLoadRetry copyOk) := by
  intro r h; cases h
theorem Ranged.xoCheckRetry (ok : Bool) : Ranged.Statement (.xoCheckRetry ok) := by
  intro r h; cases h
theorem Ranged.powerFailWarning (src : PfwSource) : Ranged.Statement (.powerFailWarning src) := by
  intro r h; cases h
theorem Ranged.vbakCheck (millivolts : Nat) : Ranged.Statement (.vbakCheck millivolts) := by
  intro r h; cases h
theorem Ranged.clearFaults (pec : Pec) : Ranged.Statement (.clearFaults pec) := by
  intro r h; cases h
theorem Ranged.capability (pec : Pec) : Ranged.Statement (.capability pec) := by
  intro r h; cases h
theorem Ranged.statusWord (pec : Pec) : Ranged.Statement (.statusWord pec) := by
  intro r h; cases h
theorem Ranged.statusInput (pec : Pec) : Ranged.Statement (.statusInput pec) := by
  intro r h; cases h
theorem Ranged.statusTemperature (pec : Pec) : Ranged.Statement (.statusTemperature pec) := by
  intro r h; cases h
theorem Ranged.statusCml (pec : Pec) : Ranged.Statement (.statusCml pec) := by
  intro r h; cases h
theorem Ranged.statusMfrSpecific (pec : Pec) : Ranged.Statement (.statusMfrSpecific pec) := by
  intro r h; cases h
theorem Ranged.readVin (pec : Pec) : Ranged.Statement (.readVin pec) := by
  intro r h; cases h
theorem Ranged.readIin (pec : Pec) : Ranged.Statement (.readIin pec) := by
  intro r h; cases h
theorem Ranged.readTemperature1 (pec : Pec) : Ranged.Statement (.readTemperature1 pec) := by
  intro r h; cases h
theorem Ranged.readPin (pec : Pec) : Ranged.Statement (.readPin pec) := by
  intro r h; cases h
theorem Ranged.pmbusRevision (pec : Pec) : Ranged.Statement (.pmbusRevision pec) := by
  intro r h; cases h
theorem Ranged.mfrId (pec : Pec) : Ranged.Statement (.mfrId pec) := by
  intro r h; cases h
theorem Ranged.mfrModel (pec : Pec) : Ranged.Statement (.mfrModel pec) := by
  intro r h; cases h
theorem Ranged.mfrRevision (pec : Pec) : Ranged.Statement (.mfrRevision pec) := by
  intro r h; cases h
theorem Ranged.mfrSerial (pec : Pec) : Ranged.Statement (.mfrSerial pec) := by
  intro r h; cases h
theorem Ranged.mfrModuleState (pec : Pec) : Ranged.Statement (.mfrModuleState pec) := by
  intro r h; cases h
theorem Ranged.mfrReset (pec : Pec) (key : Word32) : Ranged.Statement (.mfrReset pec key) := by
  intro r h; cases h
theorem Ranged.mfrResetHistory (pec : Pec) : Ranged.Statement (.mfrResetHistory pec) := by
  intro r h; cases h
theorem Ranged.mfrReadVbak (pec : Pec) : Ranged.Statement (.mfrReadVbak pec) := by
  intro r h; cases h
theorem Ranged.i2cInvalidCommand (badData : Bool) : Ranged.Statement (.i2cInvalidCommand badData) := by
  intro r h; cases h
theorem Ranged.mlOof (x : MlBlocks) : Ranged.Statement (.mlOof x) := by
  intro r h; cases h
theorem Ranged.mlFrameVerify (x : MlAgain) : Ranged.Statement (.mlFrameVerify x) := by
  intro r h; cases h
theorem Ranged.codeGroupAlignment (x : PortCodes) : Ranged.Statement (.codeGroupAlignment x) := by
  intro r h; cases h
theorem Ranged.timingAlignmentChange (err : Int) : Ranged.Statement (.timingAlignmentChange err) := by
  intro r h; cases h
theorem Ranged.carrierLossOfAlignment (x : Watched) : Ranged.Statement (.carrierLossOfAlignment x) := by
  intro r h; cases h
theorem Ranged.multiframeAlignment (car : Nat) (x : Shown) : Ranged.Statement (.multiframeAlignment car x) := by
  intro r h; cases h
theorem Ranged.vblBarLapse (lane : Nat) : Ranged.Statement (.vblBarLapse lane) := by
  intro r h; cases h
theorem Ranged.sensorFault (sensor : Nat) (tenths : Int) : Ranged.Statement (.sensorFault sensor tenths) := by
  intro r h; cases h
theorem Ranged.vinOvervoltage (millivolts : Nat) : Ranged.Statement (.vinOvervoltage millivolts) := by
  intro r h; cases h
theorem Ranged.pmSecondEnd (ms : List PmMeas) : Ranged.Statement (.pmSecondEnd ms) := by
  intro r h; cases h
theorem Ranged.compactionStart : Ranged.Statement .compactionStart := by
  intro r h; cases h
theorem Ranged.compactionDone : Ranged.Statement .compactionDone := by
  intro r h; cases h
theorem Ranged.journalFault : Ranged.Statement .journalFault := by
  intro r h; cases h
theorem Ranged.managementHandover : Ranged.Statement .managementHandover := by
  intro r h; cases h
theorem Ranged.handoverTimeout : Ranged.Statement .handoverTimeout := by
  intro r h; cases h
theorem Ranged.microcodeSwitch : Ranged.Statement .microcodeSwitch := by
  intro r h; cases h
theorem Ranged.imageSelfConfirm : Ranged.Statement .imageSelfConfirm := by
  intro r h; cases h
theorem Ranged.trialDeadline : Ranged.Statement .trialDeadline := by
  intro r h; cases h
theorem Ranged.debugChallenge : Ranged.Statement .debugChallenge := by
  intro r h; cases h
theorem Ranged.debugReset : Ranged.Statement .debugReset := by
  intro r h; cases h
theorem Ranged.clockFault : Ranged.Statement .clockFault := by
  intro r h; cases h
theorem Ranged.ganderWarm : Ranged.Statement .ganderWarm := by
  intro r h; cases h
theorem Ranged.ganderKick : Ranged.Statement .ganderKick := by
  intro r h; cases h
theorem Ranged.ganderCold : Ranged.Statement .ganderCold := by
  intro r h; cases h
theorem Ranged.thermal : Ranged.Statement .thermal := by
  intro r h; cases h
theorem Ranged.coldRelease : Ranged.Statement .coldRelease := by
  intro r h; cases h
theorem Ranged.warmRelease : Ranged.Statement .warmRelease := by
  intro r h; cases h
theorem Ranged.optionLoadRetry : Ranged.Statement .optionLoadRetry := by
  intro r h; cases h
theorem Ranged.safeRestartEntry : Ranged.Statement .safeRestartEntry := by
  intro r h; cases h
theorem Ranged.pfwClear : Ranged.Statement .pfwClear := by
  intro r h; cases h

end Sys2Proof.Laws
end

