-- ==== Sys2Proof/Certificates/Slice0/Obligations.lean ====
section
/-! DEFINITION. The statements for the provers. -/
open Sys2Proof Sys2Proof.Machine

/-- NOP, QUERY_STATE, SET_MODE and RESET answer a next state. For a command at the head whose checks pass: NOP
completes OK and changes nothing else; QUERY_STATE completes with the RESULT of the state, and with LEN 24 also writes
its 128-byte block to its buffer; SET_MODE to another mode records the request and completes nothing yet, and to the
present mode completes at once with the mode and the frame since; RESET with the cold key asserts a cold reset of
cause 6, with the warm key a warm reset of cause 7. -/
def Obligations.CompletesMode : Prop :=
  (∀ (s : State) (c : CmdEntry) (pos : Nat) (rest : List Fetched),
      Starts s 0x01 c (nopChecks) pos rest →
      exec (.nop c) s = .next (irqEdge s (ended rest (completeOk (tokenOf 0x01 c pos) [] s)))) ∧
  (∀ (s : State) (c : CmdEntry) (pos : Nat) (rest : List Fetched),
      Starts s 0x02 c (queryChecks c) pos rest →
      c.len ≠ 24 →
      exec (.queryState c) s = .next (irqEdge s (ended rest (completeOk (tokenOf 0x02 c pos) (queryRes s) s)))) ∧
  (∀ (s : State) (c : CmdEntry) (pos : Nat) (rest : List Fetched) (segs : List (Nat × Nat)) (t : State),
      Starts s 0x02 c (queryChecks c) pos rest →
      c.len = 24 →
      segments s (descAt c 8) true (· == 128) = .ok segs →
      t = { s with host := { s.host with mem := writeSegs segs 0 (stateBlock s) s.host.mem } } →
      exec (.queryState c) s = .next (irqEdge s (ended rest (completeOk (tokenOf 0x02 c pos) (queryRes t) t)))) ∧
  (∀ (s : State) (c : CmdEntry) (pos : Nat) (rest : List Fetched),
      Starts s 0x03 c (modeChecks s c) pos rest →
      modeArg c ≠ s.mode.mode →
      exec (.setMode c) s = .next (irqEdge s (ended rest ({ s with mode := { s.mode with req := some (modeArg c, some (tokenOf 0x03 c pos)) } })))) ∧
  (∀ (s : State) (c : CmdEntry) (pos : Nat) (rest : List Fetched),
      Starts s 0x03 c (modeChecks s c) pos rest →
      modeArg c = s.mode.mode →
      exec (.setMode c) s = .next (irqEdge s (ended rest (completeOk (tokenOf 0x03 c pos) [(0, 1, modeCode s.mode.mode), (2, 6, s.mode.since.toNat)] s)))) ∧
  (∀ (s : State) (c : CmdEntry) (pos : Nat) (rest : List Fetched),
      Starts s 0xF0 c (resetChecks c) pos rest →
      arg c 0 4 = keyCold →
      exec (.reset c) s = .next (irqEdge s (ended rest (assertCold 6 s)))) ∧
  (∀ (s : State) (c : CmdEntry) (pos : Nat) (rest : List Fetched),
      Starts s 0xF0 c (resetChecks c) pos rest →
      arg c 0 4 = keyWarm →
      exec (.reset c) s = .next (irqEdge s (ended rest (assertWarm 7 s))))

/-- LANE_CONFIG CONFIGURE, VBL_SEND and VBL_RX_BUFFER answer a next state. For a command at the head whose checks
pass: CONFIGURE without a buffer applies the lane setting at once outside ACTIVE and completes, and in ACTIVE
schedules it for the earliest boundary; with a buffer it does the same with the settings of the buffer; VBL_SEND puts
the message last in the queue of messages and answers the frame after which it is sent; VBL_RX_BUFFER posts the buffer
last and answers how many stand. -/
def Obligations.CompletesLane : Prop :=
  (∀ (s : State) (c : CmdEntry) (pos : Nat) (rest : List Fetched),
      Starts s 0x10 c (configureChecks s c) pos rest →
      arg c 0 1 = 0 →
      c.len ≠ 40 →
      laneConflict s (arg c 1 1) (arg c 2 1) = false →
      (arg c 2 1 = 0 ∨ domOn s (arg c 1 1 / 4) = true) →
      s.mode.mode ≠ .active →
      exec (.laneConfigConfigure c) s = .next (irqEdge s (ended rest (completeOk (tokenOf 0x10 c pos) [(0, 1, arg c 1 1), (1, 1, arg c 2 1)] (applyEffect true (.lane (arg c 1 1) (laneOf c (laneCfg s.cfg (arg c 1 1)))) s))))) ∧
  (∀ (s : State) (c : CmdEntry) (pos : Nat) (rest : List Fetched),
      Starts s 0x10 c (configureChecks s c) pos rest →
      arg c 0 1 = 0 →
      c.len ≠ 40 →
      laneConflict s (arg c 1 1) (arg c 2 1) = false →
      (arg c 2 1 = 0 ∨ domOn s (arg c 1 1 / 4) = true) →
      s.mode.mode = .active →
      exec (.laneConfigConfigure c) s = .next (irqEdge s (ended rest (mirrorConfig (schedule (fnOf (earliestBn s)) (some (tokenOf 0x10 c pos)) true (.lane (arg c 1 1) (laneOf c (laneCfg s.cfg (arg c 1 1)))) (res [(0, 1, arg c 1 1), (1, 1, arg c 2 1)]) s))))) ∧
  (∀ (s : State) (c : CmdEntry) (pos : Nat) (rest : List Fetched) (segs : List (Nat × Nat)),
      Starts s 0x10 c (configureChecks s c) pos rest →
      arg c 0 1 = 0 →
      c.len = 40 →
      laneConflict s (arg c 1 1) (arg c 2 1) = false →
      (arg c 2 1 = 0 ∨ domOn s (arg c 1 1 / 4) = true) →
      segments s (descAt c 24) false (· == 1024) = .ok segs →
      slotMapOk (arg c 2 1) (slice (readSegs s segs) 128 80) = true →
      exec (.laneConfigConfigure c) s = .next (irqEdge s (ended rest (atOnceOrBoundary (tokenOf 0x10 c pos) (.lane (arg c 1 1) (withBuffer (laneOf c (laneCfg s.cfg (arg c 1 1))) (readSegs s segs))) [(0, 1, arg c 1 1), (1, 1, arg c 2 1)] s)))) ∧
  (∀ (s : State) (c : CmdEntry) (pos : Nat) (rest : List Fetched) (segs : List (Nat × Nat)) (t : State),
      Starts s 0x10 c (vblSendChecks s c) pos rest →
      arg c 0 1 = 1 →
      (waitingOn s (arg c 1 1)).length < 64 →
      laneMode s.cfg (arg c 1 1) = 0x18 →
      segments s (descAt c 8) false (· == sendLength (arg c 4 2)) = .ok segs →
      t = { s with lane := { s.lane with txq := s.lane.txq ++ [(arg c 1 1, BitVec.ofNat 8 (arg c 2 1), (readSegs s segs).take (arg c 4 2))] } } →
      exec (.vblSend c) s = .next (irqEdge s (ended rest (completeOk (tokenOf 0x10 c pos) [(0, 6, (s.clk.fn + BitVec.ofNat 48 (framesFor ((waitingOn t (arg c 1 1)).map fun m => msgBytes m.2.2) 4096 1)).toNat)] t)))) ∧
  (∀ (s : State) (c : CmdEntry) (pos : Nat) (rest : List Fetched) (segs : List (Nat × Nat)),
      Starts s 0x10 c (vblRxChecks c) pos rest →
      arg c 0 1 = 2 →
      s.lane.bufs.length < 256 →
      segments s (descAt c 8) true (· == 4096) = .ok segs →
      exec (.vblRxBuffer c) s = .next (irqEdge s (ended rest (completeOk (tokenOf 0x10 c pos) [(0, 2, s.lane.bufs.length + 1)] { s with lane := { s.lane with bufs := s.lane.bufs ++ [(descAddr (descAt c 8), segs)] } }))))

/-- PORT_CONFIG BIND, MONITOR, UNBIND, QUIESCE and TRACE answer a next state. For a command at the head whose checks
pass: BIND, MONITOR, UNBIND and TRACE apply their effect at once outside ACTIVE and complete, and in ACTIVE schedule
it for the earliest boundary; QUIESCE stages a page whose quiesce bits of the run of ports are as the command says.
The effect of MONITOR is the use of the port, that of TRACE the trace of the port, and a staged page becomes the
staged page with its fingerprint, the live page being as before. -/
def Obligations.CompletesPort : Prop :=
  (∀ (s : State) (c : CmdEntry) (pos : Nat) (rest : List Fetched),
      Starts s 0x11 c (bindChecks s c) pos rest →
      arg c 1 1 = 0 →
      bindBad s (arg c 0 1) (arg c 2 1) = false →
      s.mode.mode ≠ .active →
      exec (.portConfigBind c) s = .next (irqEdge s (ended rest (completeOk (tokenOf 0x11 c pos) [(0, 1, arg c 0 1), (1, 1, portCount (laneMode s.cfg (arg c 2 1)))] (applyEffect true (.bind (arg c 0 1) (arg c 2 1)) s))))) ∧
  (∀ (s : State) (c : CmdEntry) (pos : Nat) (rest : List Fetched),
      Starts s 0x11 c (bindChecks s c) pos rest →
      arg c 1 1 = 0 →
      bindBad s (arg c 0 1) (arg c 2 1) = false →
      s.mode.mode = .active →
      exec (.portConfigBind c) s = .next (irqEdge s (ended rest (mirrorConfig (schedule (fnOf (earliestBn s)) (some (tokenOf 0x11 c pos)) true (.bind (arg c 0 1) (arg c 2 1)) (res [(0, 1, arg c 0 1), (1, 1, portCount (laneMode s.cfg (arg c 2 1)))]) s))))) ∧
  (∀ (s : State) (c : CmdEntry) (pos : Nat) (rest : List Fetched),
      Starts s 0x11 c (portChecks s c [arg c 0 1]) pos rest →
      arg c 1 1 = 1 →
      tget .unbound s.cfg.ports (arg c 0 1) = .unbound →
      s.mode.mode ≠ .active →
      exec (.portConfigMonitor c) s = .next (irqEdge s (ended rest (completeOk (tokenOf 0x11 c pos) [(0, 1, arg c 0 1), (1, 1, 1)] (applyEffect true (.monitor (arg c 0 1)) s))))) ∧
  (∀ (s : State) (c : CmdEntry) (pos : Nat) (rest : List Fetched),
      Starts s 0x11 c (portChecks s c [arg c 0 1]) pos rest →
      arg c 1 1 = 1 →
      tget .unbound s.cfg.ports (arg c 0 1) = .unbound →
      s.mode.mode = .active →
      exec (.portConfigMonitor c) s = .next (irqEdge s (ended rest (mirrorConfig (schedule (fnOf (earliestBn s)) (some (tokenOf 0x11 c pos)) true (.monitor (arg c 0 1)) (res [(0, 1, arg c 0 1), (1, 1, 1)]) s))))) ∧
  (∀ (s : State) (c : CmdEntry) (pos : Nat) (rest : List Fetched),
      Starts s 0x11 c (portChecks s c (unbindPorts s (arg c 0 1))) pos rest →
      arg c 1 1 = 2 →
      unbindPorts s (arg c 0 1) ≠ [] →
      s.mode.mode ≠ .active →
      exec (.portConfigUnbind c) s = .next (irqEdge s (ended rest (completeOk (tokenOf 0x11 c pos) [(0, 1, arg c 0 1), (1, 1, (unbindPorts s (arg c 0 1)).length)] (applyEffect true (.unbind (arg c 0 1)) s))))) ∧
  (∀ (s : State) (c : CmdEntry) (pos : Nat) (rest : List Fetched),
      Starts s 0x11 c (portChecks s c (unbindPorts s (arg c 0 1))) pos rest →
      arg c 1 1 = 2 →
      unbindPorts s (arg c 0 1) ≠ [] →
      s.mode.mode = .active →
      exec (.portConfigUnbind c) s = .next (irqEdge s (ended rest (mirrorConfig (schedule (fnOf (earliestBn s)) (some (tokenOf 0x11 c pos)) true (.unbind (arg c 0 1)) (res [(0, 1, arg c 0 1), (1, 1, (unbindPorts s (arg c 0 1)).length)]) s))))) ∧
  (∀ (s : State) (c : CmdEntry) (pos : Nat) (rest : List Fetched),
      Starts s 0x11 c (quiesceChecks s c) pos rest →
      arg c 1 1 = 3 →
      exec (.portConfigQuiesce c) s = .next (irqEdge s (ended rest (completeOk (tokenOf 0x11 c pos) [(0, 1, arg c 0 1)] (stage ((List.range (arg c 2 1 + 1)).foldl (fun p i => putQuiesce p (arg c 0 1 + i) (argBit c 3 0)) s.page.staged) (arg c 2 1 + 1) s))))) ∧
  (∀ (fp : Nat) (s : State),
      ((applyEffect true (.monitor fp) s).cfg.ports = tset .unbound s.cfg.ports fp .monitor ∧
        (applyEffect true (.monitor fp) s).page = s.page)) ∧
  (∀ (fp : Nat) (x : TraceCfg) (s : State),
      ((applyEffect true (.trace fp x) s).cfg.traces = tset defaultTrace s.cfg.traces fp x ∧
        (applyEffect true (.trace fp x) s).page = s.page)) ∧
  (∀ (p : Page) (n : Nat) (s : State), (stage p n s).page.staged = p ∧ (stage p n s).page.stagedFp = fingerprint p ∧
      (stage p n s).page.live = s.page.live) ∧
  (∀ (s : State) (c : CmdEntry) (pos : Nat) (rest : List Fetched),
      Starts s 0x11 c (traceChecks s c) pos rest →
      arg c 1 1 = 4 →
      s.mode.mode ≠ .active →
      exec (.portConfigTrace c) s = .next (irqEdge s (ended rest (completeOk (tokenOf 0x11 c pos) [(0, 1, arg c 0 1)] (applyEffect true (.trace (arg c 0 1) { long := argBit c 2 0, pfx := canonBytes (argBytes c 8 10) }) s))))) ∧
  (∀ (s : State) (c : CmdEntry) (pos : Nat) (rest : List Fetched),
      Starts s 0x11 c (traceChecks s c) pos rest →
      arg c 1 1 = 4 →
      s.mode.mode = .active →
      exec (.portConfigTrace c) s = .next (irqEdge s (ended rest (mirrorConfig (schedule (fnOf (earliestBn s)) (some (tokenOf 0x11 c pos)) true (.trace (arg c 0 1) { long := argBit c 2 0, pfx := canonBytes (argBytes c 8 10) }) (res [(0, 1, arg c 0 1)]) s)))))

/-- CONN_STAGE, CONN_STAGE_BULK and CARRIER_CONFIG write the staged page. For a command at the head whose checks pass:
when every record fits, the bank of every record that is not empty is powered and no more than 262,144 monitored
entries result, CONN_STAGE (its inline records) and CONN_STAGE_BULK (the records of its buffer, after CLEAR_FIRST has
emptied the tiers they name where it is set) stage the page with the records put in order, and answer their number;
when a record does not fit, nothing is staged and the position of the first such record is answered with BAD_ARGUMENT.
CARRIER_CONFIG stages its record, or the records of its buffer, in the same way. -/
def Obligations.CompletesStaging : Prop :=
  (∀ (s : State) (c : CmdEntry) (pos : Nat) (rest : List Fetched),
      Starts s 0x20 c (stageChecks s c) pos rest →
      (firstBad (fun r => entryOk s.page.staged r.1 r.2.1 r.2.2) (inlineRecs c) = none) →
      (firstBad (fun r => r.2.2 == emptyEntry || bankOn s (bankOf r.1 r.2.1)) (inlineRecs c) = none) →
      monCount (putRecs s.page.staged (inlineRecs c)) ≤ 262144 →
      exec (.connStage c) s = .next (irqEdge s (ended rest (completeOk (tokenOf 0x20 c pos) (stageRes (inlineRecs c).length noPos) (stage (putRecs s.page.staged (inlineRecs c)) (inlineRecs c).length s))))) ∧
  (∀ (s : State) (c : CmdEntry) (pos : Nat) (rest : List Fetched) (n : Nat),
      Starts s 0x20 c (stageChecks s c) pos rest →
      (firstBad (fun r => entryOk s.page.staged r.1 r.2.1 r.2.2) (inlineRecs c) = some n) →
      exec (.connStage c) s = .next (irqEdge s (ended rest (refuse (tokenOf 0x20 c pos) stBadArgument (stageRes 0 n) s)))) ∧
  (∀ (s : State) (c : CmdEntry) (pos : Nat) (rest : List Fetched) (segs : List (Nat × Nat)) (rs : List StageRec) (p : Page),
      Starts s 0x21 c (bulkChecks s c) pos rest →
      segments s (descAt c 0) false bulkLen = .ok segs →
      bulkRecs (readSegs s segs) = rs.map some →
      p = (if argBit c 16 0 then clearTiers s.page.staged rs else s.page.staged) →
      (firstBad (fun r => entryOk p r.1 r.2.1 r.2.2) rs = none) →
      (firstBad (fun r => r.2.2 == emptyEntry || bankOn s (bankOf r.1 r.2.1)) rs = none) →
      monCount (putRecs p rs) ≤ 262144 →
      exec (.connStageBulk c) s = .next (irqEdge s (ended rest (completeOk (tokenOf 0x21 c pos) (stageRes rs.length noPos) (stage (putRecs p rs) rs.length s))))) ∧
  (∀ (s : State) (c : CmdEntry) (pos : Nat) (rest : List Fetched) (segs : List (Nat × Nat)) (rs : List StageRec) (n : Nat),
      Starts s 0x21 c (bulkChecks s c) pos rest →
      segments s (descAt c 0) false bulkLen = .ok segs →
      bulkRecs (readSegs s segs) = rs.map some →
      argBit c 16 0 = false →
      (firstBad (fun r => entryOk s.page.staged r.1 r.2.1 r.2.2) rs = some n) →
      exec (.connStageBulk c) s = .next (irqEdge s (ended rest (refuse (tokenOf 0x21 c pos) stBadArgument (stageRes 0 n) s)))) ∧
  (∀ (s : State) (c : CmdEntry) (pos : Nat) (rest : List Fetched),
      Starts s 0x12 c (carrierChecks s c) pos rest →
      argBit c 4 0 = false →
      arg c 2 2 = 1 →
      carrierOk (descAt c 8) = true →
      (descAt c 8 = emptyCarrier ∨ bankOn s (arg c 0 2 / 512) = true) →
      exec (.carrierConfig c) s = .next (irqEdge s (ended rest (completeOk (tokenOf 0x12 c pos) [(0, 2, arg c 0 2), (2, 2, 1)] (stage (putCarrier s.page.staged (arg c 0 2) (descAt c 8)) 1 s))))) ∧
  (∀ (s : State) (c : CmdEntry) (pos : Nat) (rest : List Fetched) (segs : List (Nat × Nat)) (rs : List (BitVec 128)),
      Starts s 0x12 c (carrierChecks s c) pos rest →
      argBit c 4 0 = true →
      segments s (descAt c 8) false (· == 16 * arg c 2 2) = .ok segs →
      (rs = (List.range (arg c 2 2)).map (fun i => BitVec.ofNat 128 (le (readSegs s segs) (16 * i) 16))) →
      (rs.findIdx? (fun r => !carrierOk r) = none) →
      ((List.range rs.length).findIdx? (fun i => rs.getD i emptyCarrier != emptyCarrier && !bankOn s ((arg c 0 2 + i) / 512)) = none) →
      exec (.carrierConfig c) s = .next (irqEdge s (ended rest (completeOk (tokenOf 0x12 c pos) [(0, 2, arg c 0 2), (2, 2, arg c 2 2)] (stage ((List.range (arg c 2 2)).foldl (fun p i => putCarrier p (arg c 0 2 + i) (rs.getD i emptyCarrier)) s.page.staged) (arg c 2 2) s))))) ∧
  (∀ (p : Page) (n : Nat) (s : State), (stage p n s).page.staged = p ∧ (stage p n s).page.stagedFp = fingerprint p ∧
      (stage p n s).page.live = s.page.live)

/-- CONN_COMMIT, CONN_ABORT, CONN_READBACK and ROUTE_CHECK answer a next state. For a command at the head whose checks
pass: CONN_COMMIT for a boundary from the earliest to 10,000 boundaries ahead seals the page for it, sealing leaving a
commit of that target and flag on the page; CONN_ABORT of an OPEN page leaves it with DISCARD 0 and with DISCARD 1
makes it the live page of the next epoch; CONN_READBACK writes the items asked for to its buffer and answers the epoch
of the page; ROUTE_CHECK without a buffer answers the verdict and figures of the page and its schedule. -/
def Obligations.CompletesCommit : Prop :=
  (∀ (s : State) (c : CmdEntry) (pos : Nat) (rest : List Fetched) (flag : CommitFlag) (target : Nat),
      Starts s 0x22 c (commitChecks s c) pos rest →
      commitFlag (arg c 8 1) = some flag →
      (if arg c 0 6 = 0 then earliestBn s else arg c 0 6) = target →
      earliestBn s ≤ target →
      target ≤ s.clk.fn.toNat / 48 + 10000 →
      exec (.connCommit c) s = .next (irqEdge s (ended rest (sealPage (tokenOf 0x22 c pos) target flag s)))) ∧
  (∀ (s : State) (c : CmdEntry) (pos : Nat) (rest : List Fetched),
      Starts s 0x23 c (abortChecks s c) pos rest →
      s.page.state = .opened →
      s.page.job = none →
      argBit c 0 0 = false →
      exec (.connAbort c) s = .next (irqEdge s (ended rest (completeOk (tokenOf 0x23 c pos) [(0, 1, pageCode s.page.state), (1, 1, pageCode s.page.state), (2, 1, 0)] s)))) ∧
  (∀ (s : State) (c : CmdEntry) (pos : Nat) (rest : List Fetched) (t : State),
      Starts s 0x23 c (abortChecks s c) pos rest →
      s.page.state = .opened →
      s.page.job = none →
      argBit c 0 0 = true →
      t = discardStaged s →
      exec (.connAbort c) s = .next (irqEdge s (ended rest (completeOk (tokenOf 0x23 c pos) [(0, 1, pageCode s.page.state), (1, 1, pageCode t.page.state), (2, 1, 0)] t)))) ∧
  (∀ (s : State) (c : CmdEntry) (pos : Nat) (rest : List Fetched) (segs : List (Nat × Nat)) (bs : Bytes),
      Starts s 0x24 c (readbackChecks c) pos rest →
      segments s (descAt c 16) true (· == arg c 8 4 * itemSize (arg c 1 1)) = .ok segs →
      (bs = ((List.range (arg c 8 4)).flatMap fun i => readItem s (pageOf s (argBit c 0 0)) (arg c 1 1) (arg c 4 4 + i))) →
      exec (.connReadback c) s = .next (irqEdge s (ended rest (completeOk (tokenOf 0x24 c pos) [(0, 8, (pageOf s (argBit c 0 0)).epoch.toNat)] { s with host := { s.host with mem := writeSegs segs 0 bs s.host.mem } })))) ∧
  (∀ (s : State) (c : CmdEntry) (pos : Nat) (rest : List Fetched),
      Starts s 0x25 c (routeChecks s c) pos rest →
      c.len ≠ 24 →
      exec (.routeCheck c) s = .next (irqEdge s (ended rest (completeOk (tokenOf 0x25 c pos) (routeRes s (pageOf s (argBit c 0 0)) (checkedSchedule s (argBit c 0 0)) (violations s (pageOf s (argBit c 0 0)))) s)))) ∧
  (∀ (tok : CmdTok) (target : Nat) (flag : CommitFlag) (s : State), s.page.kept = false → s.mode.mode ≠ .active →
      (∃ j, (sealPage tok target flag s).page.job = some j ∧ j.tok = some tok ∧ j.target = target ∧ j.flag = flag ∧ j.first = target) ∧
        (sealPage tok target flag s).page.state = .sealed ∧ (sealPage tok target flag s).page.live = s.page.live) ∧
  (∀ s : State, (discardStaged s).page.staged = { s.page.live with epoch := s.page.live.epoch + 1 } ∧ (discardStaged s).page.live = s.page.live)

/-- PROT_CONFIG, PROT_COMMAND and SNCP_PROFILE answer a next state. For a command at the head whose checks pass:
PROT_CONFIG LINEAR_GROUP, RING, REMAP, VBL_DISTRUST, DELETE of a configured object and SNCP_PROFILE write schedule
their effect for the earliest boundary and answer its frame; DELETE of an object that is not configured completes at
once; PROT_COMMAND schedules its request for 8 frames ahead; SNCP_PROFILE read answers the profile. -/
def Obligations.CompletesProtection : Prop :=
  (∀ (s : State) (c : CmdEntry) (pos : Nat) (rest : List Fetched),
      Starts s 0x30 c (linearChecks s c) pos rest →
      arg c 0 1 = 0 →
      linearFits s (arg c 1 1) (linearOf c) = true →
      exec (.protConfigLinearGroup c) s = .next (irqEdge s (ended rest (mirrorConfig (schedule (fnOf (earliestBn s)) (some (tokenOf 0x30 c pos)) true (.linear (arg c 1 1) (linearOf c)) (res [(0, 6, (fnOf (earliestBn s)).toNat)]) s))))) ∧
  (∀ (s : State) (c : CmdEntry) (pos : Nat) (rest : List Fetched) (segs : List (Nat × Nat)),
      Starts s 0x30 c (ringChecks s c) pos rest →
      arg c 0 1 = 1 →
      ringFits s (arg c 1 1) (ringOf c) = true →
      segments s (descAt c 32) false (· == 384) = .ok segs →
      squelchOk (ringH s (ringOf c)) (readSegs s segs) = true →
      exec (.protConfigRing c) s = .next (irqEdge s (ended rest (mirrorConfig (schedule (fnOf (earliestBn s)) (some (tokenOf 0x30 c pos)) true (.ring (arg c 1 1) { ringOf c with squelch := readSegs s segs }) (res [(0, 6, (fnOf (earliestBn s)).toNat)]) s))))) ∧
  (∀ (s : State) (c : CmdEntry) (pos : Nat) (rest : List Fetched) (segs : List (Nat × Nat)) (es : List Word64),
      Starts s 0x30 c (remapChecks s c) pos rest →
      arg c 0 1 = 2 →
      segments s (descAt c 8) false (· == 1536) = .ok segs →
      (es = (List.range 192).map (fun i => BitVec.ofNat 64 (le (readSegs s segs) (8 * i) 8))) →
      es.all (remapOk s.cfg) = true →
      exec (.protConfigRemap c) s = .next (irqEdge s (ended rest (mirrorConfig (schedule (fnOf (earliestBn s)) (some (tokenOf 0x30 c pos)) true (.remap (arg c 1 1) es) (res [(0, 6, (fnOf (earliestBn s)).toNat)]) s))))) ∧
  (∀ (s : State) (c : CmdEntry) (pos : Nat) (rest : List Fetched),
      Starts s 0x30 c (distrustChecks s c) pos rest →
      arg c 0 1 = 3 →
      exec (.protConfigVblDistrust c) s = .next (irqEdge s (ended rest (mirrorConfig (schedule (fnOf (earliestBn s)) (some (tokenOf 0x30 c pos)) true (.distrust (arg c 1 1) (arg c 2 2) (arg c 4 2)) (res [(0, 6, (fnOf (earliestBn s)).toNat)]) s))))) ∧
  (∀ (s : State) (c : CmdEntry) (pos : Nat) (rest : List Fetched),
      Starts s 0x30 c (deleteChecks s c) pos rest →
      arg c 0 1 = 4 →
      tfind s.cfg.linear (arg c 1 1) = none →
      exec (.protConfigDelete c) s = .next (irqEdge s (ended rest (completeOk (tokenOf 0x30 c pos) [] s)))) ∧
  (∀ (s : State) (c : CmdEntry) (pos : Nat) (rest : List Fetched),
      Starts s 0x30 c (deleteChecks s c) pos rest →
      arg c 0 1 = 5 →
      tfind s.cfg.rings (arg c 1 1) = none →
      exec (.protConfigDelete c) s = .next (irqEdge s (ended rest (completeOk (tokenOf 0x30 c pos) [] s)))) ∧
  (∀ (s : State) (c : CmdEntry) (pos : Nat) (rest : List Fetched) (lg : LinearCfg),
      Starts s 0x30 c (deleteChecks s c) pos rest →
      arg c 0 1 = 4 →
      tfind s.cfg.linear (arg c 1 1) = some lg →
      exec (.protConfigDelete c) s = .next (irqEdge s (ended rest (mirrorConfig (schedule (fnOf (earliestBn s)) (some (tokenOf 0x30 c pos)) true (.delLinear (arg c 1 1)) (res [(0, 6, (fnOf (earliestBn s)).toNat)]) s))))) ∧
  (∀ (s : State) (c : CmdEntry) (pos : Nat) (rest : List Fetched) (rg : RingCfg),
      Starts s 0x30 c (deleteChecks s c) pos rest →
      arg c 0 1 = 5 →
      tfind s.cfg.rings (arg c 1 1) = some rg →
      exec (.protConfigDelete c) s = .next (irqEdge s (ended rest (mirrorConfig (schedule (fnOf (earliestBn s)) (some (tokenOf 0x30 c pos)) true (.delRing (arg c 1 1)) (res [(0, 6, (fnOf (earliestBn s)).toNat)]) s))))) ∧
  (∀ (s : State) (c : CmdEntry) (pos : Nat) (rest : List Fetched),
      Starts s 0x31 c (protCmdChecks s c) pos rest →
      requestFits s (protObj s c) (arg c 2 1) (arg c 3 1) = true →
      exec (.protCommand c) s = .next (irqEdge s (ended rest (mirrorConfig (schedule (s.clk.fn + 8) (some (tokenOf 0x31 c pos)) true (.ext (protObj s c) (BitVec.ofNat 8 (arg c 2 1)) (arg c 3 1)) (res [(0, 6, (s.clk.fn + 8).toNat)]) s))))) ∧
  (∀ (s : State) (c : CmdEntry) (pos : Nat) (rest : List Fetched),
      Starts s 0x32 c (profileChecks s c) pos rest →
      argBit c 1 0 = false →
      exec (.sncpProfile c) s = .next (irqEdge s (ended rest (mirrorConfig (schedule (fnOf (earliestBn s)) (some (tokenOf 0x32 c pos)) true (.profile (arg c 0 1) (BitVec.ofNat 64 (arg c 8 8))) (res [(0, 6, (fnOf (earliestBn s)).toNat)]) s))))) ∧
  (∀ (s : State) (c : CmdEntry) (pos : Nat) (rest : List Fetched),
      Starts s 0x32 c (profileChecks s c) pos rest →
      argBit c 1 0 = true →
      exec (.sncpProfileRead c) s = .next (irqEdge s (ended rest (complete (tokenOf 0x32 c pos) stOk 0 (profileOf s (arg c 0 1)) s))))

/-- TIMING_CONFIG and the slot actions of TIMING_CONTROL answer a next state. For a command at the head whose checks
pass: TIMING_CONFIG SLOT writes the record of the slot and BLOCK the block settings, a configuration record falling
due; STATUS answers, and with LEN 24 writes its block to its buffer; for a slot whose KIND and PRIORITY are not 0
LOCKOUT, CLEAR_LOCKOUT, FORCE and CLEAR_FORCE change the configuration, and CLEAR_WTR ends a wait to restore of the
slot, leaving a slot without one as it is. -/
def Obligations.CompletesTimingConfig : Prop :=
  (∀ (s : State) (c : CmdEntry) (pos : Nat) (rest : List Fetched),
      Starts s 0x40 c (timingSlotChecks c) pos rest →
      arg c 0 1 = 0 →
      (rKind (descAt c 8) = 0 ∨ rQlForce (descAt c 8) = true ∨ carriesSsm s (descAt c 8) = true) →
      exec (.timingConfigSlot c) s = .next (irqEdge s (ended rest (completeOk (tokenOf 0x40 c pos) [(0, 1, arg c 1 1)] (writeSlot (arg c 1 1) (descAt c 8) s))))) ∧
  (∀ (s : State) (c : CmdEntry) (pos : Nat) (rest : List Fetched),
      Starts s 0x40 c (timingBlockChecks c) pos rest →
      arg c 0 1 = 1 →
      exec (.timingConfigBlock c) s = .next (irqEdge s (ended rest (completeOk (tokenOf 0x40 c pos) [] (configRecord { s with cfg := { s.cfg with block := blockArgs c } }))))) ∧
  (∀ (s : State) (c : CmdEntry) (pos : Nat) (rest : List Fetched),
      Starts s 0x41 c (timingChecks s c false false false) pos rest →
      arg c 0 1 = 0 →
      c.len ≠ 24 →
      exec (.timingStatus c) s = .next (irqEdge s (ended rest (timOk (tokenOf 0x41 c pos) s)))) ∧
  (∀ (s : State) (c : CmdEntry) (pos : Nat) (rest : List Fetched) (segs : List (Nat × Nat)),
      Starts s 0x41 c (timingChecks s c false false false) pos rest →
      arg c 0 1 = 0 →
      c.len = 24 →
      segments s (descAt c 8) true (· == 288) = .ok segs →
      exec (.timingStatus c) s = .next (irqEdge s (ended rest (timOk (tokenOf 0x41 c pos) { s with host := { s.host with mem := writeSegs segs 0 (timStatus s) s.host.mem } })))) ∧
  (∀ (s : State) (c : CmdEntry) (pos : Nat) (rest : List Fetched),
      Starts s 0x41 c (timingChecks s c true false true) pos rest →
      arg c 0 1 = 1 →
      rKind (slotRec s (arg c 1 1)) ≠ 0 →
      rPriority (slotRec s (arg c 1 1)) ≠ 0 →
      exec (.timingLockout c) s = .next (irqEdge s (ended rest (timOk (tokenOf 0x41 c pos) (configRecord { s with cfg := { s.cfg with lockouts := sortNat (s.cfg.lockouts ++ [arg c 1 1]) } }))))) ∧
  (∀ (s : State) (c : CmdEntry) (pos : Nat) (rest : List Fetched),
      Starts s 0x41 c (timingChecks s c true false true) pos rest →
      arg c 0 1 = 2 →
      rKind (slotRec s (arg c 1 1)) ≠ 0 →
      rPriority (slotRec s (arg c 1 1)) ≠ 0 →
      exec (.timingClearLockout c) s = .next (irqEdge s (ended rest (timOk (tokenOf 0x41 c pos) (configRecord { s with cfg := { s.cfg with lockouts := s.cfg.lockouts.filter (· != arg c 1 1) } }))))) ∧
  (∀ (s : State) (c : CmdEntry) (pos : Nat) (rest : List Fetched),
      Starts s 0x41 c (timingChecks s c true false true) pos rest →
      arg c 0 1 = 3 →
      rKind (slotRec s (arg c 1 1)) ≠ 0 →
      rPriority (slotRec s (arg c 1 1)) ≠ 0 →
      exec (.timingForce c) s = .next (irqEdge s (ended rest (timOk (tokenOf 0x41 c pos) (configRecord { s with cfg := { s.cfg with forcedSlot := some (arg c 1 1) } }))))) ∧
  (∀ (s : State) (c : CmdEntry) (pos : Nat) (rest : List Fetched),
      Starts s 0x41 c (timingChecks s c true false true) pos rest →
      arg c 0 1 = 4 →
      rKind (slotRec s (arg c 1 1)) ≠ 0 →
      rPriority (slotRec s (arg c 1 1)) ≠ 0 →
      exec (.timingClearForce c) s = .next (irqEdge s (ended rest (timOk (tokenOf 0x41 c pos) (configRecord { s with cfg := { s.cfg with forcedSlot := if s.cfg.forcedSlot = some (arg c 1 1) then none else s.cfg.forcedSlot } }))))) ∧
  (∀ (s : State) (c : CmdEntry) (pos : Nat) (rest : List Fetched) (x : SlotState) (f : FN),
      Starts s 0x41 c (timingChecks s c true false false) pos rest →
      arg c 0 1 = 5 →
      rKind (slotRec s (arg c 1 1)) ≠ 0 →
      rPriority (slotRec s (arg c 1 1)) ≠ 0 →
      x = slotSt s (arg c 1 1) →
      x.wtr = some f →
      exec (.clearWtr c) s = .next (irqEdge s (ended rest (timOk (tokenOf 0x41 c pos) (putSlotSt (arg c 1 1) { x with wtr := none, failed := false } s))))) ∧
  (∀ (s : State) (c : CmdEntry) (pos : Nat) (rest : List Fetched),
      Starts s 0x41 c (timingChecks s c true false false) pos rest →
      arg c 0 1 = 5 →
      rKind (slotRec s (arg c 1 1)) ≠ 0 →
      rPriority (slotRec s (arg c 1 1)) ≠ 0 →
      (slotSt s (arg c 1 1)).wtr = none →
      exec (.clearWtr c) s = .next (irqEdge s (ended rest (timOk (tokenOf 0x41 c pos) s))))

/-- HISTORY_CLEAR, the forced modes and the SOFT actions of TIMING_CONTROL answer a next state. For a command at the
head whose checks pass: HISTORY_CLEAR empties the state history; FORCE_HOLDOVER and FORCE_FREE_RUN set their force,
drop the reference and bring the DPLL to holdover or free run; FORCE_CLEAR clears both forces; SOFT_ENTER stops the
tracking and a switch under way, keeps the slot in use, and enters the software state with the present frequency as
the word; SOFT_WORD sets the word; SOFT_EXIT records that the return is asked for. -/
def Obligations.CompletesTimingControl : Prop :=
  (∀ (s : State) (c : CmdEntry) (pos : Nat) (rest : List Fetched),
      Starts s 0x41 c (timingChecks s c false false false) pos rest →
      arg c 0 1 = 6 →
      exec (.historyClear c) s = .next (irqEdge s (ended rest (timOk (tokenOf 0x41 c pos) { s with tim := { s.tim with history := 0 } })))) ∧
  (∀ (s : State) (c : CmdEntry) (pos : Nat) (rest : List Fetched) (t : State),
      Starts s 0x41 c (timingChecks s c false (decide (s.tim.dpll = 4) || (holdoverNow s).1.isNone) true) pos rest →
      arg c 0 1 = 7 →
      t = dropRef { s with cfg := { s.cfg with forceHold := true, forceFree := false } } →
      exec (.forceHoldover c) s = .next (irqEdge s (ended rest (timOk (tokenOf 0x41 c pos) (configRecord (if t.tim.dpll = 3 then t else toHoldover t)))))) ∧
  (∀ (s : State) (c : CmdEntry) (pos : Nat) (rest : List Fetched) (t : State),
      Starts s 0x41 c (timingChecks s c false (decide (s.tim.dpll = 4)) true) pos rest →
      arg c 0 1 = 8 →
      t = dropRef { s with cfg := { s.cfg with forceHold := false, forceFree := true } } →
      exec (.forceFreeRun c) s = .next (irqEdge s (ended rest (timOk (tokenOf 0x41 c pos) (configRecord (if t.tim.dpll = 0 then t else toFreeRun t)))))) ∧
  (∀ (s : State) (c : CmdEntry) (pos : Nat) (rest : List Fetched),
      Starts s 0x41 c (timingChecks s c false (!s.cfg.forceHold && !s.cfg.forceFree) true) pos rest →
      arg c 0 1 = 9 →
      exec (.forceClear c) s = .next (irqEdge s (ended rest (timOk (tokenOf 0x41 c pos) (configRecord { s with cfg := { s.cfg with forceHold := false, forceFree := false } }))))) ∧
  (∀ (s : State) (c : CmdEntry) (pos : Nat) (rest : List Fetched) (t : State),
      Starts s 0x41 c (timingChecks s c false (decide (s.tim.dpll = 4)) false) pos rest →
      arg c 0 1 = 10 →
      t = stopTracking s →
      exec (.softEnter c) s = .next (irqEdge s (ended rest (timOk (tokenOf 0x41 c pos) (setDpll 4 { t with tim := { t.tim with switching := none, resume := false, heldQl := none, soft := t.tim.freq, target := t.tim.freq, softExit := false } }))))) ∧
  (∀ (s : State) (c : CmdEntry) (pos : Nat) (rest : List Fetched),
      Starts s 0x41 c (softWordChecks s c) pos rest →
      arg c 0 1 = 11 →
      exec (.softWord c) s = .next (irqEdge s (ended rest (timOk (tokenOf 0x41 c pos) { s with tim := { s.tim with soft := softArg c, target := softArg c } })))) ∧
  (∀ (s : State) (c : CmdEntry) (pos : Nat) (rest : List Fetched),
      Starts s 0x41 c (timingChecks s c false (decide (s.tim.dpll ≠ 4)) false) pos rest →
      arg c 0 1 = 12 →
      exec (.softExit c) s = .next (irqEdge s (ended rest (timOk (tokenOf 0x41 c pos) { s with tim := { s.tim with softExit := true } }))))

/-- PM_CONFIG, PM_READ, TAP_CONFIG, PRBS_CONFIG and AUDIT_READ answer a next state. For a command at the head whose
checks pass: PM_CONFIG EXPORT sets the export selection of its class, POST_BUFFER posts the buffer last,
EXPECTED_TRACE puts or removes the expected trace of its object, which is judged at once, WITHDRAW announces every
posted buffer and leaves none; PM_READ writes the items asked for to its buffer; TAP_CONFIG removes the tap, or puts
one that the page allows; PRBS_CONFIG configures the unit at once outside ACTIVE and at the earliest boundary in
ACTIVE; AUDIT_READ of entries that exist writes them to its buffer and answers the oldest and newest SEQ. -/
def Obligations.CompletesMonitoring : Prop :=
  (∀ (s : State) (c : CmdEntry) (pos : Nat) (rest : List Fetched),
      Starts s 0x50 c (exportChecks c) pos rest →
      arg c 0 1 = 0 →
      exec (.pmConfigExport c) s = .next (irqEdge s (ended rest (completeOk (tokenOf 0x50 c pos) [] (configRecord { s with cfg := { s.cfg with pmExport := tset 0 s.cfg.pmExport (arg c 1 1) (BitVec.ofNat 8 (argBits c 2 0 3)) } }))))) ∧
  (∀ (s : State) (c : CmdEntry) (pos : Nat) (rest : List Fetched) (segs : List (Nat × Nat)),
      Starts s 0x50 c (postChecks c) pos rest →
      arg c 0 1 = 1 →
      s.pm.bufs.length < 64 →
      segments s (descAt c 8) true pmBufLen = .ok segs →
      exec (.pmConfigPostBuffer c) s = .next (irqEdge s (ended rest (completeOk (tokenOf 0x50 c pos) [(0, 1, s.pm.bufs.length + 1)] { s with pm := { s.pm with bufs := s.pm.bufs ++ [{ segs := segs, addr := descAddr (descAt c 8), len := segs.foldl (fun n g => n + g.2) 0, written := 0, firstFn := 0 }] } })))) ∧
  (∀ (s : State) (c : CmdEntry) (pos : Nat) (rest : List Fetched) (segs : List (Nat × Nat)),
      Starts s 0x50 c (expectChecks c) pos rest →
      arg c 0 1 = 2 →
      segments s (descAt c 8) false (· == 64) = .ok segs →
      exec (.pmConfigExpectedTrace c) s = .next (irqEdge s (ended rest (completeOk (tokenOf 0x50 c pos) [] (configRecord (evalTim (arg c 1 1) (arg c 4 4) { s with cfg := { s.cfg with expTrace := if argBits c 2 0 2 = 0 then terase s.cfg.expTrace (objKey (arg c 1 1) (arg c 4 4)) else tinsert s.cfg.expTrace (objKey (arg c 1 1) (arg c 4 4)) (BitVec.ofNat 8 (argBits c 2 0 4), readSegs s segs) } })))))) ∧
  (∀ (s : State) (c : CmdEntry) (pos : Nat) (rest : List Fetched),
      Starts s 0x50 c (withdrawChecks c) pos rest →
      arg c 0 1 = 3 →
      exec (.pmConfigWithdraw c) s = .next (irqEdge s (ended rest (completeOk (tokenOf 0x50 c pos) [(0, 1, s.pm.bufs.length)] (s.pm.bufs.foldl (fun s b => announceBuf b s) { s with pm := { s.pm with bufs := [] } }))))) ∧
  (∀ (s : State) (c : CmdEntry) (pos : Nat) (rest : List Fetched) (segs : List (Nat × Nat)) (bs : Bytes),
      Starts s 0x51 c (pmReadChecks c) pos rest →
      segments s (descAt c 16) true (· == arg c 8 4 * pmReadSize (arg c 0 1)) = .ok segs →
      (bs = ((List.range (arg c 8 4)).flatMap fun i => pmReadItem s (arg c 0 1) (arg c 1 1) (arg c 4 4 + i))) →
      exec (.pmRead c) s = .next (irqEdge s (ended rest (completeOk (tokenOf 0x51 c pos) [(0, 6, s.clk.fn.toNat)] { s with host := { s.host with mem := writeSegs segs 0 bs s.host.mem } })))) ∧
  (∀ (s : State) (c : CmdEntry) (pos : Nat) (rest : List Fetched),
      Starts s 0x60 c (tapChecks s c) pos rest →
      isMonitor s.cfg (arg c 8 1) = true →
      argBit c 1 0 = false →
      exec (.tapConfig c) s = .next (irqEdge s (ended rest (completeOk (tokenOf 0x60 c pos) [] { s with bel := { s.bel with taps := terase s.bel.taps (arg c 0 1) } })))) ∧
  (∀ (s : State) (c : CmdEntry) (pos : Nat) (rest : List Fetched),
      Starts s 0x60 c (tapChecks s c) pos rest →
      isMonitor s.cfg (arg c 8 1) = true →
      argBit c 1 0 = true →
      tapBad s (arg c 0 1) (tapOf c s.page.live) = false →
      exec (.tapConfig c) s = .next (irqEdge s (ended rest (completeOk (tokenOf 0x60 c pos) [] (newTap (arg c 0 1) (tapOf c s.page.live) { s with bel := { s.bel with taps := tinsert s.bel.taps (arg c 0 1) (some (tapOf c s.page.live)) } }))))) ∧
  (∀ (s : State) (c : CmdEntry) (pos : Nat) (rest : List Fetched),
      Starts s 0x61 c (prbsChecks s c) pos rest →
      (match prbsOf c with | some x => prbsBad s (arg c 0 1) x | none => false) = false →
      s.mode.mode ≠ .active →
      exec (.prbsConfig c) s = .next (irqEdge s (ended rest (complete (tokenOf 0x61 c pos) stOk 0 (prbsRes s (arg c 0 1)) (applyPrbs (arg c 0 1) (prbsOf c) (argBit c 8 0) s))))) ∧
  (∀ (s : State) (c : CmdEntry) (pos : Nat) (rest : List Fetched),
      Starts s 0x61 c (prbsChecks s c) pos rest →
      (match prbsOf c with | some x => prbsBad s (arg c 0 1) x | none => false) = false →
      s.mode.mode = .active →
      exec (.prbsConfig c) s = .next (irqEdge s (ended rest (mirrorPrbs (schedule (fnOf (earliestBn s)) (some (tokenOf 0x61 c pos)) true (.prbs (arg c 0 1) (prbsOf c) (argBit c 8 0)) 0 s))))) ∧
  (∀ (s : State) (c : CmdEntry) (pos : Nat) (rest : List Fetched) (segs : List (Nat × Nat)),
      Starts s 0x62 c (auditChecks c) pos rest →
      s.bel.audit ≠ [] →
      auditOldest s ≤ arg c 0 4 →
      arg c 0 4 ≤ auditNewest s →
      segments s (descAt c 8) true (· == 32 * arg c 4 2) = .ok segs →
      exec (.auditRead c) s = .next (irqEdge s (ended rest (completeOk (tokenOf 0x62 c pos) [(0, 4, auditOldest s), (4, 4, auditNewest s)] (auditSeen (arg c 0 4) (arg c 4 2) { s with host := { s.host with mem := writeSegs segs 0 (auditBytes s (arg c 0 4) (arg c 4 2)) s.host.mem } })))))

/-- TWIN_CONFIG, GROUP_CONFIG and GATEHOUSE_KEY answer a next state. For a command at the head whose checks pass:
TWIN_CONFIG outside a group, or with ENABLE 0, replaces the pair configuration, and GROUP_CONFIG with GID 0, or with a
slice count above the number of the own slice, the group configuration and clears what was held of the group but for
its links; a configuration record falls due and, as membership says, a membership record; GATEHOUSE_KEY of GH-A
without a key, and of GH-B with another key, which stays good for 8,000 frames, sets the mode and key of the port and
answers the first four bytes of the SHA-256 of the key. -/
def Obligations.CompletesPair : Prop :=
  (∀ (s : State) (c : CmdEntry) (pos : Nat) (rest : List Fetched) (t : State),
      Starts s 0x70 c (twinChecks s c) pos rest →
      argBit c 0 0 = true →
      s.cfg.group = none →
      t = { s with cfg := { s.cfg with twin := some (twinOf c) } } →
      exec (.twinConfig c) s = .next (irqEdge s (ended rest (completeOk (tokenOf 0x70 c pos) [] (membership (s.cfg.twin.isSome || s.cfg.group.isSome) (configRecord t)))))) ∧
  (∀ (s : State) (c : CmdEntry) (pos : Nat) (rest : List Fetched),
      Starts s 0x70 c (twinChecks s c) pos rest →
      argBit c 0 0 = false →
      exec (.twinConfig c) s = .next (irqEdge s (ended rest (completeOk (tokenOf 0x70 c pos) [] (membership (s.cfg.twin.isSome || s.cfg.group.isSome) (configRecord { s with cfg := { s.cfg with twin := none } })))))) ∧
  (∀ (s : State) (c : CmdEntry) (pos : Nat) (rest : List Fetched),
      Starts s 0x71 c (groupChecks s c) pos rest →
      arg c 0 4 = 0 →
      exec (.groupConfig c) s = .next (irqEdge s (ended rest (completeOk (tokenOf 0x71 c pos) [] (membership (s.cfg.twin.isSome || s.cfg.group.isSome) (configRecord { s with cfg := { s.cfg with group := none }, grp := busPorts s.grp })))))) ∧
  (∀ (s : State) (c : CmdEntry) (pos : Nat) (rest : List Fetched),
      Starts s 0x71 c (groupChecks s c) pos rest →
      arg c 0 4 ≠ 0 →
      ownSlice s < arg c 4 1 →
      exec (.groupConfig c) s = .next (irqEdge s (ended rest (completeOk (tokenOf 0x71 c pos) [] (membership (s.cfg.twin.isSome || s.cfg.group.isSome) (configRecord { s with cfg := { s.cfg with group := some { gid := BitVec.ofNat 32 (arg c 0 4), slices := arg c 4 1 } }, grp := busPorts s.grp })))))) ∧
  (∀ (s : State) (c : CmdEntry) (pos : Nat) (rest : List Fetched) (new : Option Bytes) (t : State),
      Starts s 0x72 c (keyChecks c) pos rest →
      arg c 0 1 = 0 →
      new = (if arg c 1 1 = 0 then none else some (argBytes c 8 32)) →
      ghKey s false = none →
      t = putGh false { ghPort s false with mode := arg c 1 1, prevKey := (ghPort s false).prevKey } s →
      exec (.gatehouseKey c) s = .next (irqEdge s (ended rest (completeOk (tokenOf 0x72 c pos) [(0, 4, fromLE ((sha256 (argBytes c 8 32)).take 4))] { t with flash := { t.flash with keyA := new } })))) ∧
  (∀ (s : State) (c : CmdEntry) (pos : Nat) (rest : List Fetched) (new : Option Bytes) (old : Bytes) (t : State),
      Starts s 0x72 c (keyChecks c) pos rest →
      arg c 0 1 = 1 →
      new = (if arg c 1 1 = 0 then none else some (argBytes c 8 32)) →
      ghKey s true = some old →
      new ≠ some old →
      t = putGh true { ghPort s true with mode := arg c 1 1, prevKey := some (old, s.clk.fn + 8000) } s →
      exec (.gatehouseKey c) s = .next (irqEdge s (ended rest (completeOk (tokenOf 0x72 c pos) [(0, 4, fromLE ((sha256 (argBytes c 8 32)).take 4))] { t with flash := { t.flash with keyB := new } }))))

/-- IMAGE_BEGIN, IMAGE_CHUNK, IMAGE_VERIFY, IMAGE_ACTIVATE, IMAGE_CONFIRM and IMAGE_REJECT answer a next state. For a
command at the head whose checks pass: IMAGE_BEGIN of a package with a good header and the length given begins a
download with the bytes of its buffer; IMAGE_CHUNK at the offset received adds its bytes; IMAGE_VERIFY joins the
waiting commands with a limit of 16,000 frames; IMAGE_ACTIVATE of KIND 0 outside SAFE writes the intent and begins the
update, in SAFE asserts the cold reset of cause 0x11, and of KIND 2 writes the life-cycle field and completes;
IMAGE_CONFIRM asks for the confirmation and joins the waiting commands; IMAGE_REJECT out of trial erases the slot of
the package, and in trial ends a waiting confirmation with WRONG_STATE and falls back, its completion held for the old
image unless the fallback is a reset. -/
def Obligations.CompletesImage : Prop :=
  (∀ (s : State) (c : CmdEntry) (pos : Nat) (rest : List Fetched) (segs : List (Nat × Nat)) (b : Bytes),
      Starts s 0x80 c (beginChecks s c) pos rest →
      segments s (descAt c 8) false (192 ≤ ·) = .ok segs →
      b = readSegs s segs →
      headerReason s b = 0 →
      hPackageLen b = arg c 0 4 →
      b.length ≤ hPackageLen b →
      exec (.imageBegin c) s = .next (irqEdge s (ended rest (completeOk (tokenOf 0x80 c pos) [] (receive b { s with img := { s.img with length := hPackageLen b } }))))) ∧
  (∀ (s : State) (c : CmdEntry) (pos : Nat) (rest : List Fetched) (segs : List (Nat × Nat)) (b : Bytes) (t : State),
      Starts s 0x81 c (chunkChecks s c) pos rest →
      arg c 0 4 = s.img.received →
      segments s (descAt c 8) false chunkLen = .ok segs →
      b = readSegs s segs →
      s.img.received + b.length ≤ s.img.length →
      t = receive (glassPackage s ++ b) s →
      exec (.imageChunk c) s = .next (irqEdge s (ended rest (completeOk (tokenOf 0x81 c pos) [(0, 4, t.img.received)] t)))) ∧
  (∀ (s : State) (c : CmdEntry) (pos : Nat) (rest : List Fetched),
      Starts s 0x82 c (verifyChecks s) pos rest →
      exec (.imageVerify c) s = .next (irqEdge s (ended rest ({ s with host := { s.host with waiters := s.host.waiters ++ [.verify (some (tokenOf 0x82 c pos)) (s.clk.fn + 16000)] } })))) ∧
  (∀ (s : State) (c : CmdEntry) (pos : Nat) (rest : List Fetched),
      Starts s 0x83 c (activateChecks s) pos rest →
      activateRefusal s (argBit c 0 0) = none →
      hKind (glassPackage s) = 0 →
      s.mode.mode ≠ .safe →
      exec (.imageActivate c) s = .next (irqEdge s (ended rest (updateRecord (startUpdate (tokenOf 0x83 c pos) (argBit c 0 1) (writeIntent s)))))) ∧
  (∀ (s : State) (c : CmdEntry) (pos : Nat) (rest : List Fetched),
      Starts s 0x83 c (activateChecks s) pos rest →
      activateRefusal s (argBit c 0 0) = none →
      hKind (glassPackage s) = 0 →
      s.mode.mode = .safe →
      exec (.imageActivate c) s = .next (irqEdge s (ended rest (assertCold 0x11 (writeIntent s))))) ∧
  (∀ (s : State) (c : CmdEntry) (pos : Nat) (rest : List Fetched),
      Starts s 0x83 c (activateChecks s) pos rest →
      activateRefusal s (argBit c 0 0) = none →
      hKind (glassPackage s) = 2 →
      exec (.imageActivate c) s = .next (irqEdge s (ended rest (completeOk (tokenOf 0x83 c pos) [(0, 4, (hImageVersion (glassPackage s)).toNat)] (lifecycleField (glassPackage s) (setImage 0 s)))))) ∧
  (∀ (s : State) (c : CmdEntry) (pos : Nat) (rest : List Fetched),
      Starts s 0x84 c (confirmChecks s) pos rest →
      exec (.imageConfirm c) s = .next (irqEdge s (ended rest ({ s with img := { s.img with confirmReq := true }, host := { s.host with waiters := s.host.waiters ++ [.confirm (some (tokenOf 0x84 c pos))] } })))) ∧
  (∀ (s : State) (c : CmdEntry) (pos : Nat) (rest : List Fetched) (t : State),
      Starts s 0x85 c (rejectChecks s) pos rest →
      s.img.state ≠ 4 →
      t = setImage 0 s →
      exec (.imageReject c) s = .next (irqEdge s (ended rest (completeOk (tokenOf 0x85 c pos) [] { t with flash := putSlot s.flash (glasshouse s) [], img := { s.img with state := 0, received := 0, length := 0 } })))) ∧
  (∀ (s : State) (c : CmdEntry) (pos : Nat) (rest : List Fetched) (t : State),
      Starts s 0x85 c (rejectChecks s) pos rest →
      s.img.state = 4 →
      t = fallBack (endConfirm stWrongState s) →
      exec (.imageReject c) s = .next (irqEdge s (ended rest (if entered t then { t with img := { t.img with rejecting := some (tokenOf 0x85 c pos) } } else t))))

/-- JOURNAL_STATUS, JOURNAL_COMPACT, POWER_DOMAIN and TOD_SET answer a next state. For a command at the head whose
checks pass: JOURNAL_STATUS answers the fill, the flags and the last sequence number; JOURNAL_COMPACT with room in the
flash begins a compaction and joins the waiting commands; POWER_DOMAIN to the present state completes at once and to
another starts the change and joins the waiting commands; TOD_SET while frames run adds a step of the TOD to the steps
to come, for the next frame or, 8 to 8,000 frames ahead, for the frame named, when it completes; where no frames run
it steps the TOD at once. -/
def Obligations.CompletesService : Prop :=
  (∀ (s : State) (c : CmdEntry) (pos : Nat) (rest : List Fetched),
      Starts s 0x90 c (statusChecks) pos rest →
      exec (.journalStatus c) s = .next (irqEdge s (ended rest (completeOk (tokenOf 0x90 c pos) [(0, 1, journalFill s), (1, 1, nat01 s.jrn.fault + 2 * nat01 s.jrn.compaction.isSome + 4 * nat01 (selfRestoreOn s) + 8 * nat01 s.jrn.verified), (2, 6, s.jrn.nextSeq - 1)] s)))) ∧
  (∀ (s : State) (c : CmdEntry) (pos : Nat) (rest : List Fetched) (t : State),
      Starts s 0x91 c (compactChecks s) pos rest →
      s.flash.noRoom = false →
      t = beginCompaction s →
      exec (.journalCompact c) s = .next (irqEdge s (ended rest ({ t with host := { t.host with waiters := t.host.waiters ++ [.compact (some (tokenOf 0x91 c pos))] } })))) ∧
  (∀ (s : State) (c : CmdEntry) (pos : Nat) (rest : List Fetched),
      Starts s 0xA0 c (domChecks s c) pos rest →
      domState s (arg c 0 1) = domTarget (arg c 1 1) →
      exec (.powerDomain c) s = .next (irqEdge s (ended rest (completeOk (tokenOf 0xA0 c pos) [(0, 1, domCode (domTarget (arg c 1 1)))] s)))) ∧
  (∀ (s : State) (c : CmdEntry) (pos : Nat) (rest : List Fetched) (t : State),
      Starts s 0xA0 c (domChecks s c) pos rest →
      domState s (arg c 0 1) ≠ domTarget (arg c 1 1) →
      t = startDomain (arg c 0 1) (domTarget (arg c 1 1)) s →
      exec (.powerDomain c) s = .next (irqEdge s (ended rest ({ t with host := { t.host with waiters := t.host.waiters ++ [.domain (some (tokenOf 0xA0 c pos)) (arg c 0 1) (domTarget (arg c 1 1))] } })))) ∧
  (∀ (s : State) (c : CmdEntry) (pos : Nat) (rest : List Fetched),
      Starts s 0xA1 c (todChecks s c) pos rest →
      argBit c 12 0 = false →
      framesRun s = true →
      exec (.todSet c) s = .next (irqEdge s (ended rest (complete (tokenOf 0xA1 c pos) stOk 0 (res [(0, 8, signed 64 (todDelta s (s.clk.fn + 1) (BitVec.ofNat 48 (arg c 0 6)) (BitVec.ofNat 32 (arg c 8 4))))]) { s with clk := { s.clk with todStep := s.clk.todStep ++ [(s.clk.fn + 1, BitVec.ofNat 48 (arg c 0 6), BitVec.ofNat 32 (arg c 8 4))] } })))) ∧
  (∀ (s : State) (c : CmdEntry) (pos : Nat) (rest : List Fetched),
      Starts s 0xA1 c (todChecks s c) pos rest →
      argBit c 12 0 = false →
      framesRun s = false →
      exec (.todSet c) s = .next (irqEdge s (ended rest (complete (tokenOf 0xA1 c pos) stOk 0 (res [(0, 8, signed 64 (todDelta s s.clk.fn (BitVec.ofNat 48 (arg c 0 6)) (BitVec.ofNat 32 (arg c 8 4))))]) (stepTod (BitVec.ofNat 48 (arg c 0 6)) (BitVec.ofNat 32 (arg c 8 4)) s))))) ∧
  (∀ (s : State) (c : CmdEntry) (pos : Nat) (rest : List Fetched) (fn : FN),
      Starts s 0xA1 c (todChecks s c) pos rest →
      argBit c 12 0 = true →
      fn = BitVec.ofNat 48 (arg c 16 6) →
      8 ≤ (fn - s.clk.fn).toNat →
      (fn - s.clk.fn).toNat ≤ 8000 →
      exec (.todSet c) s = .next (irqEdge s (ended rest ({ s with clk := { s.clk with todStep := s.clk.todStep ++ [(fn, BitVec.ofNat 48 (arg c 0 6), BitVec.ofNat 32 (arg c 8 4))] }, host := { s.host with sched := s.host.sched ++ [{ due := fn, tok := some (tokenOf 0xA1 c pos), own := true, effect := .tod (BitVec.ofNat 48 (arg c 0 6)) (BitVec.ofNat 32 (arg c 8 4)), result := res [(0, 8, signed 64 (todDelta s fn (BitVec.ofNat 48 (arg c 0 6)) (BitVec.ofNat 32 (arg c 8 4))))], applied := false }] } }))))

/-- COMMAND_FETCH, CMD_PHASE_TIMEOUT, WAITING_COMMAND_DONE, COMPLETION_WRITE, EVENT_WRITE and HOST_SLOW answer a next
state. A command refused at once that heads the queue is completed first, as drainHead says, which changes nothing of
the host interface while none is fetched. A command whose PHASE fits is fetched with its position, which advances, one
completion being held for it; without room for a completion the fetch raises CPL.FULL; a PHASE that does not fit is
noted; a PHASE noted that still does not fit halts the ring with RING_ERR.CMD_PHASE and CMD_HALTED; a scheduled
command whose frame has come leaves the schedule and is carried out and completed; the oldest completion and the
oldest event are written at their ring position, which advances, with CPL.WRITTEN and EVT.WRITTEN, and EVT.QUEUED
where the ring becomes full with events still queued, as noteHeld says; a completion that has waited too long raises
RING_ERR.HOST_SLOW. -/
def Obligations.CompletesRings : Prop :=
  (∀ (s : State) (u : State),
      u = drainHead s →
      mayFetch u = true →
      cplRoom u = true →
      bit (byteAt (entryBytes u u.host.cmd.pos.toNat) 1) 0 = phaseAt u.host.cmd u.host.cmd.pos.toNat →
      exec (.commandFetch) s = .next (irqEdge s (drainHead { u with host := { u.host with fetched := u.host.fetched ++ [{ opcode := byteAt (entryBytes u u.host.cmd.pos.toNat) 0, entry := entryOf (entryBytes u u.host.cmd.pos.toNat), pos := u.host.cmd.pos.toNat }], held := u.host.held + 1, phaseWait := none, cmd := { u.host.cmd with pos := ringNext u.host.cmd } } }))) ∧
  (∀ (s : State) (u : State),
      u = drainHead s →
      mayFetch u = true →
      cplRoom u = false →
      exec (.commandFetch) s = .next (irqEdge s (raise gCpl 1 u))) ∧
  (∀ (s : State) (u : State),
      u = drainHead s →
      mayFetch u = true →
      cplRoom u = true →
      bit (byteAt (entryBytes u u.host.cmd.pos.toNat) 1) 0 ≠ phaseAt u.host.cmd u.host.cmd.pos.toNat →
      exec (.commandFetch) s = .next (irqEdge s ({ u with host := { u.host with phaseWait := some u.host.cmd.pos.toNat } }))) ∧
  (∀ s : State, s.host.fetched = [] → (drainHead s).host = s.host) ∧
  (∀ (s : State) (p : Nat),
      s.host.phaseWait = some p →
      mayFetch s = true →
      bit (byteAt (entryBytes s p) 1) 0 ≠ phaseAt s.host.cmd p →
      exec (.cmdPhaseTimeout) s = .next (irqEdge s (raise gRingErr 1 (raise gRingErr 0 { s with host := { s.host with phaseWait := none, cmd := { s.host.cmd with halted := true } } })))) ∧
  (∀ (s : State) (n : Nat) (x : Sched),
      s.host.sched[n]? = some x →
      fnGe s.clk.fn x.due = true →
      exec (.waitingCommandDone n) s = .next (irqEdge s (endSched x { s with host := { s.host with sched := s.host.sched.eraseIdx n } }))) ∧
  (∀ (s : State) (q : Cpl) (rest : List Cpl),
      s.host.cplQ = q :: rest →
      ringTakes s s.host.cpl = true →
      exec (.completionWrite) s = .next (irqEdge s (raise gCpl 0 { s with host := { s.host with mem := memStore s.host.mem (ringAddr s.host.cpl) (cplBytes s q), cplQ := rest, held := s.host.held - 1, cpl := { s.host.cpl with pos := ringNext s.host.cpl } } }))) ∧
  (∀ (s : State) (q : Evt) (rest : List Evt),
      s.host.evtQ = q :: rest →
      s.host.lost = none →
      ringTakes s s.host.evt = true →
      exec (.eventWrite) s = .next (irqEdge s (noteHeld s (raise gEvt 0 { s with host := { s.host with mem := memStore s.host.mem (ringAddr s.host.evt) (evtBytes s q), evtQ := rest, evt := { s.host.evt with pos := ringNext s.host.evt } } })))) ∧
  (∀ (s : State),
      ringSlow s s.host.cpl = true →
      s.host.cplQ ≠ [] →
      exec (.hostSlow) s = .next (irqEdge s (raise gRingErr 7 s)))

/-- DB_CMD, DB_CPL, DB_EVT and IRQ_REARM answer a next state. In a module that has entered a mode, with LOCK 1 and the
ring enabled, an aligned doorbell whose position is below twice the ring size and in range becomes the host position
of its ring; with DB_CMD the host memory written before it stands too. An aligned IRQ_REARM with LOCK 1 sends the
message when the condition of the interrupt holds and nothing otherwise; a misaligned one raises RING_ERR.DB_INVALID.
-/
def Obligations.CompletesDoorbells : Prop :=
  (∀ (s : State) (a : Bool) (v : Word32) (cells : List Host.Cell) (p : BitVec 17),
      entered s = true →
      a = true →
      p = v.setWidth 17 →
      s.host.lock = true →
      s.host.cmd.en = true →
      p.toNat < 2 * ringSize s.host.cmd →
      ringDist s.host.cmd p.toNat s.host.cmd.pos.toNat ≤ ringSize s.host.cmd →
      exec (.dbCmd a v cells) s = .next (irqEdge s ({ s with host := { s.host with mem := cells.foldl (fun m c => tset 0 m (c.1 % 2 ^ 64) c.2) s.host.mem, cmd := { s.host.cmd with host := p } } }))) ∧
  (∀ (s : State) (a : Bool) (v : Word32) (p : BitVec 17),
      entered s = true →
      a = true →
      p = v.setWidth 17 →
      s.host.lock = true →
      s.host.cpl.en = true →
      p.toNat < 2 * ringSize s.host.cpl →
      inSpanOf s.host.cpl p.toNat = true →
      exec (.dbCpl a v) s = .next (irqEdge s ({ s with host := { s.host with cpl := takePos p s.host.cpl } }))) ∧
  (∀ (s : State) (a : Bool) (v : Word32) (p : BitVec 17),
      entered s = true →
      a = true →
      p = v.setWidth 17 →
      s.host.lock = true →
      s.host.evt.en = true →
      p.toNat < 2 * ringSize s.host.evt →
      inSpanOf s.host.evt p.toNat = true →
      exec (.dbEvt a v) s = .next (irqEdge s ({ s with host := { s.host with evt := takePos p s.host.evt } }))) ∧
  (∀ (p : BitVec 17) (r : Ring), (takePos p r).host = p ∧ (takePos p r).pos = r.pos ∧ (takePos p r).en = r.en) ∧
  (∀ (s : State) (a : Bool) (v : Word32),
      entered s = true →
      a = true →
      s.host.lock = true →
      irqCond s = true →
      exec (.dbIrqRearm ⟨a, v⟩) s = .next (irqEdge s (sendMsix s))) ∧
  (∀ (s : State) (a : Bool) (v : Word32),
      entered s = true →
      a = true →
      s.host.lock = true →
      irqCond s = false →
      exec (.dbIrqRearm ⟨a, v⟩) s = .next (irqEdge s (s))) ∧
  (∀ (s : State) (a : Bool) (v : Word32),
      entered s = true →
      a = false →
      exec (.dbIrqRearm ⟨a, v⟩) s = .next (irqEdge s (raise gRingErr 4 s)))

/-- TOP_SETUP_LOCK, RING_ENABLE, RING_DISABLE, REGISTER_WRITE and the other register accesses answer a next state.
TOP_SETUP_LOCK with bit 0 sets LOCK; before LOCK RING_ENABLE of a disabled ring with an aligned base and a size from 4
to 16 enables it at position 0, and RING_DISABLE of an enabled ring clears its enable, with EVT.QUEUED as noteHeld
says where queued events become held; LOW_HALF_READ answers the low half and latches the high half; an access of
another size, or to an offset not assigned, raises BUS.LOCKED_WRITE and reads 0; REGISTER_WRITE of an offset not
assigned raises BUS.LOCKED_WRITE, one of the command register of the configuration space (offset 0x10000 and on, the
place and the register being the model's, entry 160) stores Bus Master Enable and Memory Space Enable, with EVT.QUEUED
as noteHeld says where queued events become held, and otherwise it stores the tag of offset 8, clears in a cause
register the bits written 1, and stores in an enable register the bits that are assigned; OVF_CLEAR asks for the
clearing at the next gather; COUNT_CLEAR clears the reset counts; PMC_CTRL_WRITE stores the control of its counter and
clears the counter. Each but the first read writes drops what was held of a low half, as dropHeld says. -/
def Obligations.CompletesRegisters : Prop :=
  (∀ (s : State) (v : Word32),
      entered s = true →
      bit v 0 = true →
      exec (.topSetupLock v) s = .next (irqEdge s (dropHeld 0x18 { s with host := { s.host with lock := true } }))) ∧
  (∀ (s : State) (v : Word32),
      entered s = true →
      s.host.lock = false →
      bit v 8 = true →
      s.host.cmd.en = false →
      s.host.cmd.base.toNat % 64 = 0 →
      4 ≤ (v.setWidth 5 : BitVec 5).toNat →
      (v.setWidth 5 : BitVec 5).toNat ≤ 16 →
      exec (.ringEnable .cmd v) s = .next (irqEdge s (dropHeld 0x108 { s with host := { s.host with cmd := { s.host.cmd with size := v.setWidth 5, en := true, pos := 0, host := 0, fullSince := none } } }))) ∧
  (∀ (s : State) (v : Word32),
      entered s = true →
      s.host.lock = false →
      bit v 8 = true →
      s.host.cpl.en = false →
      s.host.cpl.base.toNat % 64 = 0 →
      4 ≤ (v.setWidth 5 : BitVec 5).toNat →
      (v.setWidth 5 : BitVec 5).toNat ≤ 16 →
      exec (.ringEnable .cpl v) s = .next (irqEdge s (dropHeld 0x128 { s with host := { s.host with cpl := { s.host.cpl with size := v.setWidth 5, en := true, pos := 0, host := 0, fullSince := none } } }))) ∧
  (∀ (s : State) (v : Word32),
      entered s = true →
      s.host.lock = false →
      bit v 8 = true →
      s.host.evt.en = false →
      s.host.evt.base.toNat % 64 = 0 →
      4 ≤ (v.setWidth 5 : BitVec 5).toNat →
      (v.setWidth 5 : BitVec 5).toNat ≤ 16 →
      exec (.ringEnable .evt v) s = .next (irqEdge s (dropHeld 0x148 { s with host := { s.host with evt := { s.host.evt with size := v.setWidth 5, en := true, pos := 0, host := 0, fullSince := none } } }))) ∧
  (∀ (s : State) (v : Word32),
      entered s = true →
      s.host.lock = false →
      bit v 8 = false →
      s.host.cmd.en = true →
      v.setWidth 5 = s.host.cmd.size →
      exec (.ringDisable .cmd v) s = .next (irqEdge s (dropHeld 0x108 (noteHeld s { s with host := { s.host with cmd := { s.host.cmd with en := false } } })))) ∧
  (∀ (s : State) (v : Word32),
      entered s = true →
      s.host.lock = false →
      bit v 8 = false →
      s.host.cpl.en = true →
      v.setWidth 5 = s.host.cpl.size →
      exec (.ringDisable .cpl v) s = .next (irqEdge s (dropHeld 0x128 (noteHeld s { s with host := { s.host with cpl := { s.host.cpl with en := false } } })))) ∧
  (∀ (s : State) (v : Word32),
      entered s = true →
      s.host.lock = false →
      bit v 8 = false →
      s.host.evt.en = true →
      v.setWidth 5 = s.host.evt.size →
      exec (.ringDisable .evt v) s = .next (irqEdge s (dropHeld 0x148 (noteHeld s { s with host := { s.host with evt := { s.host.evt with en := false } } })))) ∧
  (∀ (s : State) (off : Nat),
      lowHalf off = true →
      exec (.lowHalfRead off) s = .next (irqEdge s ({ s with host := { s.host with rdata := readReg s off, latched := tinsert s.host.latched (off + 4) (BitVec.ofNat 32 (regNow s (off + 4))) } }))) ∧
  (∀ (s : State) (off : Nat) (size : Nat),
      (size ≠ 4 ∨ assigned off = false) →
      exec (.setupBadAccess false off size) s = .next (irqEdge s (raise gBus 3 { s with host := { s.host with rdata := 0 } }))) ∧
  (∀ (s : State) (off : Nat) (size : Nat),
      (size ≠ 4 ∨ assigned off = false) →
      entered s = true →
      exec (.setupBadAccess true off size) s = .next (irqEdge s (raise gBus 3 s))) ∧
  (∀ (s : State) (off : Nat) (v : Word32),
      off < 0x10000 →
      assigned off = false →
      entered s = true →
      exec (.registerWrite off v) s = .next (irqEdge s (raise gBus 3 s))) ∧
  (∀ (s : State) (v : Word32),
      configAnswer s = .completion →
      exec (.registerWrite 0x10004 v) s = .next (irqEdge s (noteHeld s { s with host := { s.host with busMaster := bit v 2, pcie := { s.host.pcie with memEn := bit v 1 } } }))) ∧
  (∀ old t : State, noteHeld old t = t ∨ noteHeld old t = raise gEvt 1 t) ∧
  (∀ (s : State) (v : Word32),
      exec (.registerWrite 8 v) s = .next (irqEdge s (dropHeld 8 { s with host := { s.host with tag := BitVec.ofNat 16 (v.toNat / 65536) } }))) ∧
  (∀ (s : State) (g : Nat) (v : Word32),
      g < 19 →
      entered s = true →
      exec (.registerWrite (0x240 + 8 * g) v) s = .next (irqEdge s (dropHeld (0x240 + 8 * g) { s with host := { s.host with causes := tset 0 s.host.causes g (tget 0 s.host.causes g &&& ~~~v) } }))) ∧
  (∀ (s : State) (g : Nat) (v : Word32),
      g < 19 →
      entered s = true →
      exec (.registerWrite (0x244 + 8 * g) v) s = .next (irqEdge s (dropHeld (0x244 + 8 * g) { s with host := { s.host with enables := tset 0 s.host.enables g (v &&& causeMask g) } }))) ∧
  (∀ (s : State) (v : Word32),
      entered s = true →
      bit v 2 = true →
      bit v 0 = s.host.userEn →
      bit v 1 = s.host.mcExpose →
      exec (.ovfClear v) s = .next (irqEdge s (dropHeld 0x600 { s with bel := { s.bel with ovfClear := true } }))) ∧
  (∀ (s : State) (v : Word32),
      entered s = true →
      bit v 0 = true →
      exec (.countClear v) s = .next (irqEdge s (dropHeld 0x530 { s with bak := { s.bak with counts := [] } }))) ∧
  (∀ (s : State) (n : Nat) (k : Nat) (v : Word32),
      n < 4 →
      k < 8 →
      entered s = true →
      exec (.pmcCtrlWrite n k v) s = .next (irqEdge s (dropHeld (0x3000 + 0x80 * n + 0x10 * k) { s with bel := { s.bel with pmcCtrl := tset 0xFF00 s.bel.pmcCtrl (8 * n + k) (v &&& 0xFF7F), core := terase s.bel.core (9 * n + 1 + k) } })))

/-- DMA_GO, DMA_PAUSE, DMA_RESUME, DMA_STOP, DMA_PACE_EVENT, DMA_BURST_DONE, DMA_BURST_RETRY and DMA_WITHDRAWN answer
a next state. On a channel from 4 to 31 of the host: GO of an idle channel whose set is not refused takes the control
word and starts the set, running or, when it is paced, armed, and one whose set is refused sets REFUSED; PAUSE pauses
an armed channel, and a running one of which no burst has begun; RESUME lets a paused channel go on, armed or running
as it was; STOP of an armed or paused channel withdraws it. A pace event runs an armed channel and marks any other
PACE_MISSED; a burst moves its bytes, advances the channel and, when it is the last, ends the transfer; a burst that
failed with cause 4 is retried up to three times, and one of cause 4 with three retries, 5 or 6 halts a channel from 4
on; a channel withdrawn with nothing begun leaves its transfer. -/
def Obligations.CompletesDma : Prop :=
  (∀ (s : State) (ch : Nat) (v : Word32) (x : DmaCh) (t : State) (y : DmaCh),
      entered s = true →
      4 ≤ ch →
      ch < 32 →
      hostOwns s ch = true →
      x = dmaCh s ch →
      t = { s with host := { s.host with heldLow := none } } →
      bit v 0 = true →
      bit v 2 = false →
      x.phase = .idle →
      bit v 1 = x.pause →
      x.goAfter = false →
      y = { x with set := { x.set with ctrl := v &&& dmaCtrlMask } } →
      dmaRefused s ch y.set = false →
      exec (.dmaGo ch v) s = .next (irqEdge s (putCh ch (startSet y) (putCh ch y t)))) ∧
  (∀ (s : State) (ch : Nat) (v : Word32) (x : DmaCh) (t : State) (y : DmaCh),
      entered s = true →
      4 ≤ ch →
      ch < 32 →
      hostOwns s ch = true →
      x = dmaCh s ch →
      t = { s with host := { s.host with heldLow := none } } →
      bit v 0 = true →
      bit v 2 = false →
      x.phase = .idle →
      bit v 1 = x.pause →
      x.goAfter = false →
      y = { x with set := { x.set with ctrl := v &&& dmaCtrlMask } } →
      dmaRefused s ch y.set = true →
      exec (.dmaGo ch v) s = .next (irqEdge s (putCh ch { y with refused := true } (putCh ch y t)))) ∧
  (∀ (x : DmaCh), (startSet x).remain = x.set.len ∧ (startSet x).set = x.set ∧
      (startSet x).phase = (if x.pause then .paused else if dPace x.set.ctrl ≠ 0 then .armed else .running)) ∧
  (∀ (s : State) (ch : Nat) (v : Word32) (x : DmaCh) (t : State) (y : DmaCh),
      entered s = true →
      4 ≤ ch →
      ch < 32 →
      hostOwns s ch = true →
      x = dmaCh s ch →
      t = { s with host := { s.host with heldLow := none } } →
      bit v 0 = false →
      bit v 1 = true →
      bit v 2 = false →
      x.phase = .armed →
      x.pause = false →
      y = { x with pause := true, phase := .paused, wasArmed := true } →
      exec (.dmaPause ch v) s = .next (irqEdge s (putCh ch { y with shadow := { y.shadow with ctrl := v &&& dmaCtrlMask } } (putCh ch y t)))) ∧
  (∀ (s : State) (ch : Nat) (v : Word32) (x : DmaCh) (t : State) (y : DmaCh),
      entered s = true →
      4 ≤ ch →
      ch < 32 →
      hostOwns s ch = true →
      x = dmaCh s ch →
      t = { s with host := { s.host with heldLow := none } } →
      bit v 0 = false →
      bit v 1 = true →
      bit v 2 = false →
      x.phase = .running →
      x.pause = false →
      begunNow s x = 0 →
      y = { x with pause := true, phase := .paused, begun := 0, wasArmed := false } →
      exec (.dmaPause ch v) s = .next (irqEdge s (putCh ch { y with shadow := { y.shadow with ctrl := v &&& dmaCtrlMask } } (putCh ch y (drewDma t))))) ∧
  (∀ (s : State) (ch : Nat) (v : Word32) (x : DmaCh) (t : State) (y : DmaCh),
      entered s = true →
      4 ≤ ch →
      ch < 32 →
      hostOwns s ch = true →
      x = dmaCh s ch →
      t = { s with host := { s.host with heldLow := none } } →
      bit v 0 = false →
      bit v 1 = false →
      bit v 2 = false →
      x.phase = .paused →
      x.pause = true →
      y = { x with pause := false, phase := if x.wasArmed then .armed else .running } →
      exec (.dmaResume ch v) s = .next (irqEdge s (putCh ch { y with shadow := { y.shadow with ctrl := v &&& dmaCtrlMask } } (putCh ch y t)))) ∧
  (∀ (s : State) (ch : Nat) (v : Word32) (x : DmaCh) (t : State) (u : State),
      entered s = true →
      4 ≤ ch →
      ch < 32 →
      hostOwns s ch = true →
      x = dmaCh s ch →
      t = { s with host := { s.host with heldLow := none } } →
      bit v 0 = false →
      bit v 2 = true →
      (x.phase = .armed ∨ x.phase = .paused) →
      bit v 1 = x.pause →
      u = leaveTransfer ch t →
      exec (.dmaStop ch v) s = .next (irqEdge s (putCh ch { dmaCh u ch with set := { (dmaCh u ch).set with ctrl := v &&& dmaCtrlMask } } u))) ∧
  (∀ (ch : Nat) (s : State), (dmaCh (leaveTransfer ch s) ch).phase = .idle ∧ (dmaCh (leaveTransfer ch s) ch).withdrawn = true ∧
      (leaveTransfer ch s).page = s.page) ∧
  (∀ (s : State) (ch : Nat),
      4 ≤ ch →
      ch < 32 →
      paceDue s ch = true →
      (dmaCh s ch).phase = .armed →
      exec (.dmaPaceEvent ch) s = .next (irqEdge s (putCh ch { dmaCh s ch with phase := .running } s))) ∧
  (∀ (s : State) (ch : Nat),
      4 ≤ ch →
      ch < 32 →
      paceDue s ch = true →
      (dmaCh s ch).phase ≠ .armed →
      exec (.dmaPaceEvent ch) s = .next (irqEdge s (bump 109 3 1 (putCh ch { dmaCh s ch with paceMissed := true } s)))) ∧
  (∀ (s : State) (ch : Nat) (x : DmaCh),
      4 ≤ ch →
      ch < 32 →
      x = dmaCh s ch →
      burstGoes s x = true →
      burstLen x < x.remain →
      x.phase = .running →
      exec (.dmaBurstDone ch) s = .next (irqEdge s (putCh ch { x with remain := x.remain - burstLen x, retries := 0, begun := x.begun - 1 } (drewDma (bump 109 0 (burstLen x) { s with host := { s.host with mem := memStore s.host.mem (x.set.dst.toNat + (x.set.len - x.remain)) (swapBytes (dSwap x.set.ctrl) (burstData s x (burstLen x))) } }))))) ∧
  (∀ (s : State) (ch : Nat) (x : DmaCh),
      4 ≤ ch →
      ch < 32 →
      x = dmaCh s ch →
      burstGoes s x = true →
      burstLen x = x.remain →
      exec (.dmaBurstDone ch) s = .next (irqEdge s (dmaComplete ch (putCh ch { x with remain := 0, retries := 0, begun := x.begun - 1 } (drewDma (bump 109 0 (burstLen x) { s with host := { s.host with mem := memStore s.host.mem (x.set.dst.toNat + (x.set.len - x.remain)) (swapBytes (dSwap x.set.ctrl) (burstData s x (burstLen x))) } })))))) ∧
  (∀ (s : State) (ch : Nat) (cause : Nat),
      entered s = true →
      ch < 32 →
      (dmaCh s ch).phase = .running →
      linkUsable s = true →
      4 ≤ ch →
      (cause = 1 ∨ cause = 3 ∨ cause = 4) →
      (dmaCh s ch).retries.toNat < 3 →
      exec (.dmaBurstRetry ch cause) s = .next (irqEdge s (bump 109 1 1 (putCh ch { dmaCh s ch with retries := (dmaCh s ch).retries + 1 } (noteError cause s))))) ∧
  (∀ (s : State) (ch : Nat) (cause : Nat),
      entered s = true →
      ch < 32 →
      (dmaCh s ch).phase = .running →
      linkUsable s = true →
      4 ≤ ch →
      (cause = 2 ∨ cause = 5 ∨ cause = 6 ∨ ((cause = 1 ∨ cause = 3 ∨ cause = 4) ∧ 3 ≤ (dmaCh s ch).retries.toNat)) →
      exec (.dmaBurstRetry ch cause) s = .next (irqEdge s (haltCh ch cause (noteError cause s)))) ∧
  (∀ s : State, noteError 1 s = raise gBus 1 (bump 108 1 1 s) ∧ noteError 2 s = raise gBus 0 (bump 108 0 1 s) ∧
      noteError 3 s = s ∧ noteError 5 s = s ∧ noteError 6 s = s) ∧
  (∀ (s : State) (ch : Nat),
      (dmaCh s ch).stopping = true →
      (dmaCh s ch).begun = 0 →
      (dmaCh s ch).goAfter = false →
      exec (.dmaWithdrawn ch) s = .next (irqEdge s (leaveTransfer ch s)))

/-- MSIX_UNMASK, PERST_N, LINK_UNAVAILABLE, LINK_RESTORED, BUS_TIMEOUT and BUS_DRAIN_DONE answer a next state.
Unmasking the vector or the function while the message is pending, MSI-X is enabled and nothing else masks it sends
the message when the condition holds and drops it otherwise; in every other case it clears its mask only; the mask of
the vector stands in the set-up window, which ignores the write before mode entry. Enabling MSI-X sends the message
where the condition holds; where it is enabled already nothing changes. PERST_N high ends the reset of the link, and
low resets the link part as perstOn says, with RST.PERST; a level that stands already changes nothing. The losses and
returns of bus mastering, D3hot and the link set and clear their mark, a loss raising EVT.QUEUED as noteHeld says
where queued events become held, and the loss of the link beginning the drain of the link master; a return finds a
link that is in reset, or whose clock does not run yet, unchanged. A bus time-out raises BUS.TARGET_ERR and counts
twice, as a failed access and as a time-out, but for posted writes to T9, which have none; the end of a drain that
runs ends it, counts it and raises BUS.DRAIN. -/
def Obligations.CompletesLink : Prop :=
  (∀ (s : State),
      entered s = true →
      s.host.pend = true →
      s.host.msixEn = true →
      (s.host.funcMask = false) →
      irqCond s = true →
      exec (.msixUnmask .vector) s = .next (irqEdge s (dropHeld 0xF00C (sendMsix { s with host := { s.host with vecMask := false } })))) ∧
  (∀ (s : State),
      entered s = true →
      s.host.pend = true →
      s.host.msixEn = true →
      (s.host.funcMask = false) →
      irqCond s = false →
      exec (.msixUnmask .vector) s = .next (irqEdge s (dropHeld 0xF00C { s with host := { s.host with vecMask := false, pend := false } }))) ∧
  (∀ (s : State),
      entered s = true →
      (s.host.pend = false ∨ s.host.msixEn = false ∨ s.host.funcMask = true) →
      exec (.msixUnmask .vector) s = .next (irqEdge s (dropHeld 0xF00C { s with host := { s.host with vecMask := false } }))) ∧
  (∀ (s : State),
      entered s = false →
      exec (.msixUnmask .vector) s = .next (irqEdge s (s))) ∧
  (∀ (s : State),
      s.host.pend = true →
      s.host.msixEn = true →
      s.host.vecMask = false →
      irqCond s = true →
      exec (.msixUnmask .function) s = .next (irqEdge s (sendMsix { s with host := { s.host with funcMask := false } }))) ∧
  (∀ (s : State),
      s.host.pend = true →
      s.host.msixEn = true →
      s.host.vecMask = false →
      irqCond s = false →
      exec (.msixUnmask .function) s = .next (irqEdge s ({ s with host := { s.host with funcMask := false, pend := false } }))) ∧
  (∀ (s : State),
      (s.host.pend = false ∨ s.host.msixEn = false ∨ s.host.vecMask = true) →
      exec (.msixUnmask .function) s = .next (irqEdge s ({ s with host := { s.host with funcMask := false } }))) ∧
  (∀ (s : State),
      s.host.msixEn = false →
      irqCond s = true →
      exec (.msixUnmask .enable) s = .next (irqEdge s (sendMsix { s with host := { s.host with msixEn := true } }))) ∧
  (∀ (s : State),
      s.host.msixEn = false →
      irqCond s = false →
      exec (.msixUnmask .enable) s = .next (irqEdge s ({ s with host := { s.host with msixEn := true } }))) ∧
  (∀ (s : State),
      s.host.msixEn = true →
      exec (.msixUnmask .enable) s = .next (irqEdge s (s))) ∧
  (∀ s : State, s.host.msixEn = true → s.host.vecMask = false → s.host.funcMask = false →
      (sendMsix s).host.msixSent = s.host.msixSent + 1 ∧ (sendMsix s).host.pend = false) ∧
  (∀ s : State, s.host.msixEn = true → (s.host.vecMask = true ∨ s.host.funcMask = true) →
      (sendMsix s).host.msixSent = s.host.msixSent ∧ (sendMsix s).host.pend = true) ∧
  (∀ (s : State),
      s.host.perst = true →
      exec (.perstN false) s = .next (irqEdge s ({ s with host := { s.host with perst := false } }))) ∧
  (∀ (s : State),
      s.host.perst = false →
      exec (.perstN true) s = .next (irqEdge s (perstOn s))) ∧
  (∀ (s : State) (low : Bool),
      low = s.host.perst →
      exec (.perstN low) s = .next (irqEdge s (s))) ∧
  (∀ s : State, (perstOn s).host.perst = true ∧ (perstOn s).host.linkUp = false ∧ (perstOn s).host.lock = false ∧
      (perstOn s).host.cmd.en = false ∧ (perstOn s).host.cpl.en = false ∧ (perstOn s).host.evt.en = false ∧
      (perstOn s).host.cplQ = [] ∧ (perstOn s).host.fetched = [] ∧ (perstOn s).host.msixEn = false ∧
      (perstOn s).host.vecMask = true ∧ (perstOn s).host.pend = false ∧ bit (tget 0 (perstOn s).host.causes gRst) 4 = true ∧
      6 ∈ (perstOn s).dma.draining ∧ (perstOn s).page.live = s.page.live ∧ (perstOn s).page.staged = s.page.staged ∧
      (perstOn s).cfg = s.cfg) ∧
  (∀ (s : State),
      exec (.linkUnavailable .busMaster) s = .next (irqEdge s (noteHeld s { s with host := { s.host with busMaster := false } }))) ∧
  (∀ (s : State),
      exec (.linkUnavailable .d3hot) s = .next (irqEdge s (noteHeld s { s with host := { s.host with d3hot := true } }))) ∧
  (∀ (s : State),
      exec (.linkUnavailable .down) s = .next (irqEdge s (noteHeld s (startDrain [6] { s with host := { s.host with linkUp := false } })))) ∧
  (∀ (ms : List Nat) (s : State) (m : Nat), m ∈ ms → m ∈ (startDrain ms s).dma.draining) ∧
  (∀ old t : State, (entered t = true ∧ evtHeld old = false ∧ evtHeld t = true ∧ t.host.evtQ ≠ [] → noteHeld old t = raise gEvt 1 t) ∧
      (t.host.evtQ = [] ∧ t.host.lost = none ∨ evtHeld old = true ∨ evtHeld t = false → noteHeld old t = t)) ∧
  (∀ (s : State),
      s.host.perst = false →
      pastStep6 s = true →
      exec (.linkRestored .busMaster) s = .next (irqEdge s ({ s with host := { s.host with busMaster := true } }))) ∧
  (∀ (s : State),
      s.host.perst = false →
      pastStep6 s = true →
      exec (.linkRestored .d3hot) s = .next (irqEdge s ({ s with host := { s.host with d3hot := false } }))) ∧
  (∀ (s : State),
      s.host.perst = false →
      pastStep6 s = true →
      exec (.linkRestored .down) s = .next (irqEdge s ({ s with host := { s.host with linkUp := true } }))) ∧
  (∀ (s : State) (why : LinkLoss),
      (s.host.perst = true ∨ pastStep6 s = false) →
      exec (.linkRestored why) s = .next (irqEdge s (s))) ∧
  (∀ (s : State) (target : Nat) (master : Nat),
      target ≤ 10 →
      master ≤ 7 →
      (target ≠ 9 ∨ master ≠ 5) →
      exec (.busTimeout target master) s = .next (irqEdge s (raise gBus 1 (bump 108 2 1 (bump 108 1 1 s))))) ∧
  (∀ (s : State),
      exec (.busTimeout 9 5) s = .next (irqEdge s (s))) ∧
  (∀ (s : State) (master : Nat),
      master ∈ s.dma.draining →
      exec (.busDrainDone master) s = .next (irqEdge s (raise gBus 2 (bump 108 3 1 { s with dma := { s.dma with draining := s.dma.draining.filter (· != master) } })))) ∧
  (∀ (s : State) (master : Nat),
      master ∉ s.dma.draining →
      exec (.busDrainDone master) s = .next (irqEdge s (s)))

/-- FRAME_START, COMMIT_SWAP, HOLD_OFF_EXPIRY and WTR_EXPIRY answer a next state. FRAME_START counts the frame for the
reset controller and, where frames run, begins the frame as beginFrame says; where they do not, only the TOD advances.
At the start of the frame of its boundary COMMIT_SWAP replaces the live page by that of the part, records the swap,
checks the taps, evaluates the selectors and ends the part, as afterSwap says. A standby carries the swap out too,
with the power domains that the new page needs on; the new page has the epoch after the old one. A hold-off of a leg
that has run its time takes the condition of the leg, SF where the live entry is bad; a wait to restore that has run
its time ends, its request falling to no request. -/
def Obligations.CompletesFrame : Prop :=
  (∀ (s : State) (t : State),
      t = tickReset { groupTxFrame s with tx := [] } →
      framesRun t = true →
      exec (.frameStart) s = .next (irqEdge s (beginFrame t))) ∧
  (∀ s : State, (∀ x ∈ s.clk.todStep, x.1 ≠ s.clk.fn) → (todFrame s).page = s.page ∧ (todFrame s).clk.fn = s.clk.fn ∧
      (todFrame s).clk.todNs = BitVec.ofNat 32 ((s.clk.todNs.toNat + 125000) % 1000000000)) ∧
  (∀ (s : State) (t : State),
      t = tickReset { groupTxFrame s with tx := [] } →
      framesRun t = false →
      exec (.frameStart) s = .next (irqEdge s (todFrame { t with clk := { t.clk with start := [] } }))) ∧
  (∀ (s : State) (j : CommitJob) (s1 : State) (u : State),
      stepDue .swap s = true →
      s.page.job = some j →
      swapDue s = true →
      s.mode.mode ≠ .standby →
      s1 = tapCheck s (recordSwap j (swapPage s j)) →
      u = stepDone .swap (afterSwap j (evalSelectors s1 s1)) →
      exec (.commitSwap) s = .next (irqEdge s (if u.clk.start.isEmpty then frameSends u else u))) ∧
  (∀ (s : State) (j : CommitJob) (s1 : State) (s2 : State) (u : State),
      stepDue .swap s = true →
      s.page.job = some j →
      swapDue s = true →
      s.mode.mode = .standby →
      s1 = swapPage s j →
      (s2 = tapCheck s (recordSwap j { s1 with pwr := { s1.pwr with dom := (neededDomains s1.page.live).foldl (fun m d => tset .off m d .on) s1.pwr.dom } })) →
      u = stepDone .swap (afterSwap j (evalSelectors s2 s2)) →
      exec (.commitSwap) s = .next (irqEdge s (if u.clk.start.isEmpty then frameSends u else u))) ∧
  (∀ (s : State) (j : CommitJob), (swapPage s j).page.live = { j.parts.headD s.page.staged with epoch := s.page.live.epoch + 1 }) ∧
  (∀ (s : State) (r : Tier) (i : Nat) (x : SelState) (f : FN),
      hasSelector s.page.live r i (entryAt s.page.live r i) = true →
      x = tget {} s.prot.sel (selKey r i) →
      x.hoA = some f →
      800 * pHoldOff (profileOf s (eSncp (entryAt s.page.live r i))) ≤ (s.clk.fn - f).toNat →
      itemBad s (.liveEntry r i) = false →
      exec (.holdOffExpiry r i .a) s = .next (irqEdge s ({ s with prot := { s.prot with sel := tset {} s.prot.sel (selKey r i) { x with condA := legCond s s r (entryAt s.page.live r i) (eSrcA (entryAt s.page.live r i)), hoA := none } } }))) ∧
  (∀ (s : State) (r : Tier) (i : Nat) (x : SelState) (f : FN),
      hasSelector s.page.live r i (entryAt s.page.live r i) = true →
      x = tget {} s.prot.sel (selKey r i) →
      x.hoA = some f →
      800 * pHoldOff (profileOf s (eSncp (entryAt s.page.live r i))) ≤ (s.clk.fn - f).toNat →
      itemBad s (.liveEntry r i) = true →
      exec (.holdOffExpiry r i .a) s = .next (irqEdge s ({ s with prot := { s.prot with sel := tset {} s.prot.sel (selKey r i) { x with condA := .sf, hoA := none } } }))) ∧
  (∀ (s : State) (r : Tier) (i : Nat) (x : SelState) (f : FN),
      hasSelector s.page.live r i (entryAt s.page.live r i) = true →
      x = tget {} s.prot.sel (selKey r i) →
      x.hoB = some f →
      800 * pHoldOff (profileOf s (eSncp (entryAt s.page.live r i))) ≤ (s.clk.fn - f).toNat →
      itemBad s (.liveEntry r i) = false →
      exec (.holdOffExpiry r i .b) s = .next (irqEdge s ({ s with prot := { s.prot with sel := tset {} s.prot.sel (selKey r i) { x with condB := legCond s s r (entryAt s.page.live r i) (eSrcB (entryAt s.page.live r i)), hoB := none } } }))) ∧
  (∀ (s : State) (r : Tier) (i : Nat) (x : SelState) (f : FN),
      hasSelector s.page.live r i (entryAt s.page.live r i) = true →
      x = tget {} s.prot.sel (selKey r i) →
      x.hoB = some f →
      800 * pHoldOff (profileOf s (eSncp (entryAt s.page.live r i))) ≤ (s.clk.fn - f).toNat →
      itemBad s (.liveEntry r i) = true →
      exec (.holdOffExpiry r i .b) s = .next (irqEdge s ({ s with prot := { s.prot with sel := tset {} s.prot.sel (selKey r i) { x with condB := .sf, hoB := none } } }))) ∧
  (∀ (s : State) (r : Tier) (i : Nat) (x : SelState) (f : FN),
      hasSelector s.page.live r i (entryAt s.page.live r i) = true →
      x = tget {} s.prot.sel (selKey r i) →
      x.wtr = some f →
      480000 * pWtr (profileOf s (eSncp (entryAt s.page.live r i))) ≤ (s.clk.fn - f).toNat →
      exec (.wtrExpiry r i) s = .next (irqEdge s ({ s with prot := { s.prot with sel := tset {} s.prot.sel (selKey r i) { x with wtr := none, req := 9 } } })))

/-- ROUTE_SOLVE_DONE, READINESS_POINT, FINAL_POINT and JOURNAL_RECORD_CLOSE answer a next state. Outside a pair or
group: a solution of a first part that finds no violation makes the commit ready and its schedule stands; at the start
of the frame 24 before its boundary a commit that is ready is announced, and one that is not, or under a power-fail
warning, is resolved by its flag; at the start of the frame 8 before it an announced commit becomes FINAL and another
is resolved by its flag. Resolving a commit of flag FAIL before its first part has swapped ends it; one of flag DEFER
with fewer than 8 deferrals, outside the Bellwether, moves it to the next boundary and counts the deferral. The next
record due leaves its queue and, with no journal fault, is closed with the next number where the journal has room for
it; where it has none the record is lost and the journal faults. -/
def Obligations.CompletesOwnCommit : Prop :=
  (∀ (s : State) (j : CommitJob),
      s.page.job = some j →
      s.page.solving ≠ none →
      j.ready = false →
      j.part = 0 →
      inPair s = false →
      routeVerdict (violations s s.page.staged) = 0 →
      exec (.routeSolveDone) s = .next (irqEdge s ({ s with page := { s.page with solving := none, idle := some (solvePage s.page.sched (j.parts.headD s.page.staged)), job := some { j with ready := true } } }))) ∧
  (∀ (s : State) (j : CommitJob) (u : State),
      stepDue .readiness s = true →
      s.page.job = some j →
      readinessDue s = true →
      s.pwr.pfw = false →
      j.ready = true →
      u = stepDone .readiness (setJob (some { j with announced := true }) s) →
      exec (.readinessPoint) s = .next (irqEdge s (if u.clk.start.isEmpty then frameSends u else u))) ∧
  (∀ (s : State) (j : CommitJob) (u : State),
      stepDue .readiness s = true →
      s.page.job = some j →
      readinessDue s = true →
      s.pwr.pfw = false →
      j.ready = false →
      u = stepDone .readiness (resolveCause stTimeout true s) →
      exec (.readinessPoint) s = .next (irqEdge s (if u.clk.start.isEmpty then frameSends u else u))) ∧
  (∀ (s : State) (j : CommitJob) (u : State),
      stepDue .readiness s = true →
      s.page.job = some j →
      readinessDue s = true →
      s.pwr.pfw = true →
      u = stepDone .readiness (resolveCause stTimeout false s) →
      exec (.readinessPoint) s = .next (irqEdge s (if u.clk.start.isEmpty then frameSends u else u))) ∧
  (∀ (s : State) (j : CommitJob) (u : State),
      stepDue .final s = true →
      s.page.job = some j →
      inPair s = false →
      finalDue s = true →
      s.pwr.pfw = false →
      j.announced = true →
      u = stepDone .final ({ s with page := { s.page with state := .final } }) →
      exec (.finalPoint) s = .next (irqEdge s (if u.clk.start.isEmpty then frameSends u else u))) ∧
  (∀ (s : State) (j : CommitJob) (u : State),
      stepDue .final s = true →
      s.page.job = some j →
      inPair s = false →
      finalDue s = true →
      s.pwr.pfw = false →
      j.announced = false →
      u = stepDone .final (resolveCause stTimeout (!j.ready) s) →
      exec (.finalPoint) s = .next (irqEdge s (if u.clk.start.isEmpty then frameSends u else u))) ∧
  (∀ (st : Byte) (b : Bool) (s : State) (j : CommitJob), s.page.job = some j → j.part = 0 → j.flag = .fail →
      resolveCause st b s = stopCommit st s ∧ (stopCommit st s).page.job = none) ∧
  (∀ (st : Byte) (b : Bool) (s : State) (j : CommitJob), s.page.job = some j → j.part = 0 → isBellwether s = false → j.flag = .defer → j.retries < 8 →
      ∃ j', (resolveCause st b s).page.job = some j' ∧ j'.target = j.target + 1 ∧ j'.retries = j.retries + 1) ∧
  (∀ (s : State) (r : JRecord),
      s.jrn.due[nextRecord s]? = some r →
      exec (.journalRecordClose) s = .next (irqEdge s (closeRecord r { s with jrn := { s.jrn with due := s.jrn.due.eraseIdx (nextRecord s) } }))) ∧
  (∀ (r : JRecord) (s : State), s.jrn.fault = false → s.flash.used + s.flash.spill + r.size ≤ journalArea →
      (closeRecord r s).flash.journal = s.flash.journal ++ [{ r with seq := s.jrn.nextSeq }] ∧
        (closeRecord r s).jrn.nextSeq = s.jrn.nextSeq + 1) ∧
  (∀ (r : JRecord) (s : State), s.jrn.fault = false → journalArea < s.flash.used + s.flash.spill + r.size →
      (closeRecord r s).jrn.fault = true ∧ (closeRecord r s).flash.lostRecord = true ∧
        (closeRecord r s).flash.journal = s.flash.journal)

/-- PREPARE_DEADLINE, READY_DEADLINE, ACK_DEADLINE and the messages PREPARE to REFUSE answer a next state. At the
Bellwether: 96 frames before the boundary a commit not prepared is resolved by its flag; a READY of the round with the
fingerprint of the staged page marks its sender, the commit going on when all have answered, and one with another
fingerprint aborts the round; 28 frames before the boundary a prepared commit for which COMMIT has not been sent, and
24 frames before it one not yet announced, abort the round; an ACK of a round whose COMMIT is sent marks its sender; a
READY of a later part prepared ahead marks its sender there, and an ABORT of it drops that part and those behind it; a
REFUSE before FINAL aborts the round. At another member: a PREPARE that names it takes the open page into a sealed
commit; a COMMIT of the round that has not been aborted, at a member that takes part, is acknowledged and held; an
ABORT of another unit's commit more than 8 frames before the boundary opens the page when its cause is 1, the flag
FAIL or 8 deferrals are counted, and otherwise moves the commit to the next boundary. Aborting a round sends ABORT and
resolves the commit by its flag. -/
def Obligations.CompletesGroupCommit : Prop :=
  (∀ (s : State) (j : CommitJob),
      s.page.job = some j →
      isBellwether s = true →
      s.clk.fn = fnOf j.target - 96 →
      j.prepared = false →
      exec (.prepareDeadline) s = .next (irqEdge s (resolveCause stTimeout (!j.ready) s))) ∧
  (∀ (s : State) (sl : Nat) (u : Bool) (m : Bytes),
      s.page.job = none →
      s.page.state = .opened →
      s.mode.mode = .standby →
      s.mode.sync = 3 →
      s.grp.fenced = false →
      s.grp.behind = false →
      isBellwether s = false →
      (msgId m != 0) = true →
      ((byteAt m 13) &&& memberBit (ownMember s) != 0) = true →
      exec (.prepareRx sl u m) s = .next (irqEdge s ({ s with page := { s.page with state := .sealed, job := some (jobOfPrepare s sl u m), solving := some s.clk.fn, kept := false } }))) ∧
  (∀ (s : State) (sl : Nat) (u : Bool) (m : Bytes) (j : CommitJob),
      s.page.job = some j →
      isBellwether s = true →
      ((j.ahead.any fun a => a.id == msgId m) = false) →
      ofRound j m = true →
      j.prepared = true →
      j.sentCommit = false →
      be m 14 8 = s.page.stagedFp.toNat →
      exec (.readyRx sl u m) s = .next (irqEdge s (checkReady (setJob (some { j with readyFrom := j.readyFrom ||| memberBit (memberOf sl u) }) s)))) ∧
  (∀ (s : State) (j : CommitJob), s.page.job = some j → j.participants &&& ~~~j.readyFrom ≠ 0 → checkReady s = s) ∧
  (∀ (s : State) (sl : Nat) (u : Bool) (m : Bytes) (j : CommitJob),
      s.page.job = some j →
      isBellwether s = true →
      ((j.ahead.any fun a => a.id == msgId m) = true) →
      be m 14 8 = s.page.stagedFp.toNat →
      exec (.readyRx sl u m) s = .next (irqEdge s (setJob (some { j with ahead := j.ahead.map fun a => if a.id = msgId m ∧ a.target = msgTarget m then { a with readyFrom := a.readyFrom ||| memberBit (memberOf sl u) } else a }) s))) ∧
  (∀ (s : State) (sl : Nat) (u : Bool) (m : Bytes) (j : CommitJob),
      s.page.job = some j →
      isBellwether s = false →
      ((j.ahead.any fun a => a.id == msgId m && a.target == msgTarget m) = true) →
      exec (.abortRx sl u m) s = .next (irqEdge s (setJob (some { j with ahead := j.ahead.takeWhile fun a => a.id != msgId m }) s))) ∧
  (∀ (s : State) (sl : Nat) (u : Bool) (m : Bytes) (j : CommitJob),
      s.page.job = some j →
      isBellwether s = true →
      ((j.ahead.any fun a => a.id == msgId m) = false) →
      ofRound j m = true →
      j.prepared = true →
      j.sentCommit = false →
      be m 14 8 ≠ s.page.stagedFp.toNat →
      exec (.readyRx sl u m) s = .next (irqEdge s (abortRound 3 stGroupDisagree s))) ∧
  (∀ (s : State) (j : CommitJob),
      s.page.job = some j →
      isBellwether s = true →
      s.clk.fn = fnOf j.target - 28 →
      j.prepared = true →
      j.sentCommit = false →
      s.pwr.pfw = false →
      exec (.readyDeadline) s = .next (irqEdge s (abortRound 2 stGroupDisagree s))) ∧
  (∀ (s : State) (sl : Nat) (u : Bool) (m : Bytes) (j : CommitJob),
      s.page.job = some j →
      isBellwether s = false →
      ofRound j m = true →
      j.aborted = false →
      takesPart s j = true →
      s.page.state ≠ .final →
      s.pwr.pfw = false →
      exec (.commitRx sl u m) s = .next (irqEdge s (sendCommitMsg 0x13 (commitPayload j 0 0) (setJob (some { j with holdsCommit := true, announced := true }) s)))) ∧
  (∀ (s : State) (sl : Nat) (u : Bool) (m : Bytes) (j : CommitJob),
      s.page.job = some j →
      isBellwether s = true →
      ofRound j m = true →
      j.sentCommit = true →
      exec (.ackRx sl u m) s = .next (irqEdge s (checkAcks (setJob (some { j with ackFrom := j.ackFrom ||| memberBit (memberOf sl u) }) s)))) ∧
  (∀ (s : State) (j : CommitJob), s.page.job = some j → j.sentCommit = true → s.pwr.pfw = false →
      j.participants &&& ~~~j.ackFrom = 0 → checkAcks s = setJob (some { j with announced := true }) s) ∧
  (∀ (s : State) (j : CommitJob),
      s.page.job = some j →
      isBellwether s = true →
      s.clk.fn = fnOf j.target - 24 →
      j.sentCommit = true →
      j.announced = false →
      s.pwr.pfw = false →
      exec (.ackDeadline) s = .next (irqEdge s (abortRound 4 stGroupDisagree s))) ∧
  (∀ (s : State) (sl : Nat) (u : Bool) (m : Bytes) (j : CommitJob),
      s.page.job = some j →
      isBellwether s = false →
      ((j.ahead.any fun a => a.id == msgId m && a.target == msgTarget m) = false) →
      ofRound j m = true →
      s.page.state ≠ .final →
      fnGe s.clk.fn (fnOf j.target - 8) = false →
      j.own = false →
      (byteAt m 22 = 1 ∨ j.flag = .fail ∨ 8 ≤ j.retries) →
      exec (.abortRx sl u m) s = .next (irqEdge s ({ s with page := { s.page with state := .opened, job := none, solving := none, idle := none } }))) ∧
  (∀ (s : State) (sl : Nat) (u : Bool) (m : Bytes) (j : CommitJob),
      s.page.job = some j →
      isBellwether s = false →
      ((j.ahead.any fun a => a.id == msgId m && a.target == msgTarget m) = false) →
      ofRound j m = true →
      s.page.state ≠ .final →
      fnGe s.clk.fn (fnOf j.target - 8) = false →
      j.own = false →
      byteAt m 22 ≠ 1 →
      j.flag ≠ .fail →
      j.retries < 8 →
      exec (.abortRx sl u m) s = .next (irqEdge s (setJob (some { clearRound j with aborted := true, target := j.target + 1, retries := j.retries + 1 }) s))) ∧
  (∀ (s : State) (sl : Nat) (u : Bool) (m : Bytes) (j : CommitJob),
      s.page.job = some j →
      isBellwether s = true →
      ofRound j m = true →
      s.page.state ≠ .final →
      exec (.refuseRx sl u m) s = .next (irqEdge s (abortRound 5 stTimeout s))) ∧
  (∀ (cause : Nat) (st : Byte) (s : State) (j : CommitJob), s.page.job = some j →
      abortRound cause st s = resolveCause st false (sendAbort cause j s))

/-- Eleven rows of a fabric group answer a next state: records, packets, catch-up, links, PAGE_RESTORE. The rows
GROUP_RECORD_RX, GROUP_RECORD_LAPSE, BELLWETHER_CHANGE, GROUP_PACKET_RX, GROUP_CONFIG_PACKET_RX, GROUP_STAGED_RX,
CATCHUP, GROUP_JOURNAL_RX, GROUP_LINK_DOWN, CODE_GROUP_ALIGNMENT and PAGE_RESTORE. In a group: a record of the group
from another member, no other record of the same frame being held of it, is held with the frame it came in, and the
own record is compared under the Bellwether it elects, as elect and compareBell say; a record held for 32 frames is
dropped with GRP.MEMBER_LOST, after which the Bellwether is determined again in a group; at a boundary after the frame
of the election the Bellwether elected takes over with GRP.BELLWETHER_CHANGE; a packet whose length or CRC fails is
counted and discarded, the own packet is discarded, and another of an assigned type that was not accepted within 256
frames is accepted and, when HOPS stays above 0, forwarded on the other port with HOPS reduced by one and counted; the
active unit of a slice that is not the Bellwether takes the configuration changes, which it schedules for their frame
and relays to its mate, and the changes of the staged page; the Bellwether answers CATCHUP of another member with the
records from the number asked for, or a snapshot and the records after it where the number is not in the journal, in
JOURNAL packets of at most 2,048 bytes; a member catching up keeps the snapshot and the records for the coming
boundaries; the code groups of a port take its synchronisation on, a port that has lost it going down with
GRP.GROUP_LINK_DOWN once, and one that has gained it coming back; at a boundary a FENCED active unit whose live page
differs from that of the Bellwether puts its kept copy of that page in force, with the epoch and the schedule kept
with it, and records the restore. -/
def Obligations.CompletesGroup : Prop :=
  (∀ (k : Nat) (m : Bytes) (s : State), tfind (holdRecord k m s).grp.recs k = some { raw := m, fn := s.clk.fn }) ∧
  (∀ (s : State) (sl : Nat) (u : Bool) (sc : Nat) (m : Bytes) (g : GroupCfg),
      s.cfg.group = some g →
      entered s = true →
      be m 0 4 = g.gid.toNat →
      sc = g.slices →
      memberOf sl u ≠ ownMember s →
      sentTwice s (memberOf sl u) m = false →
      exec (.groupRecordRx sl u sc m) s = .next (irqEdge s (compareBell (some (memberOf sl u)) (elect (holdRecord (memberOf sl u) m s))))) ∧
  (∀ (s : State) (sl : Nat) (u : Bool) (x : MemberRec) (t : State),
      tfind s.grp.recs (memberOf sl u) = some x →
      32 ≤ (s.clk.fn - x.fn).toNat →
      t = grpNote 10 (some (memberOf sl u)) { s with grp := { s.grp with recs := terase s.grp.recs (memberOf sl u) } } →
      exec (.groupRecordLapse sl u) s = .next (irqEdge s (if s.cfg.group.isSome then compareBell none (elect t) else t))) ∧
  (∀ (s : State) (x : Nat),
      s.grp.elected = some x →
      s.clk.fn.toNat % 48 = 0 →
      s.clk.fn ≠ s.grp.electedFn →
      x ≠ ownMember s →
      exec (.bellwetherChange) s = .next (irqEdge s (grpNote 0 (some x) { s with grp := { s.grp with bell := some x, elected := none } }))) ∧
  (∀ (s : State) (w : Bool) (m : Bytes),
      s.cfg.group ≠ none →
      framesRun s = true →
      (if w then s.grp.westDown else s.grp.eastDown) = false →
      packetOk m = false →
      exec (.groupPacketRx w m) s = .next (irqEdge s (bump 114 2 1 s))) ∧
  (∀ (s : State) (w : Bool) (m : Bytes) (key : (Nat × Nat × Nat)),
      s.cfg.group ≠ none →
      framesRun s = true →
      entered s = true →
      (if w then s.grp.westDown else s.grp.eastDown) = false →
      packetOk m = true →
      packetFrom m ≠ ownMember s →
      packetKnown (byteAt m 0).toNat = true →
      key = (packetFrom m, (byteAt m 0).toNat, be m 3 2) →
      s.grp.seen = [] →
      1 < (byteAt m 2).toNat →
      exec (.groupPacketRx w m) s = .next (irqEdge s (bump 114 1 1 (send (.groupFwd (!w) (lessHops m)) { s with grp := { s.grp with seen := [(key.1, key.2.1, key.2.2, s.clk.fn)] } })))) ∧
  (∀ (s : State) (w : Bool) (m : Bytes),
      s.cfg.group ≠ none →
      framesRun s = true →
      (if w then s.grp.westDown else s.grp.eastDown) = false →
      packetOk m = true →
      packetFrom m = ownMember s →
      exec (.groupPacketRx w m) s = .next (irqEdge s (s))) ∧
  (∀ (s : State) (fn : FN) (e : Effect),
      takesFromBus s = true →
      exec (.groupConfigPacketRx fn e) s = .next (irqEdge s (mirrorConfig { s with host := { s.host with sched := s.host.sched ++ [{ due := fn, tok := none, own := false, effect := e, result := 0, applied := false }] } }))) ∧
  (∀ (s : State) (ws : List StagedWrite),
      takesFromBus s = true →
      exec (.groupStagedRx ws) s = .next (irqEdge s (applyStaged ws s))) ∧
  (∀ (s : State) (sl : Nat) (u : Bool) (q : Nat) (m : Bytes),
      s.cfg.group ≠ none →
      isBellwether s = true →
      memberOf sl u ≠ ownMember s →
      m = Config.imagePayload (catchupContent s q).1 (catchupContent s q).2 →
      exec (.catchup sl u q) s = .next (irqEdge s ((pieces 2048 (m.length + 1) m).foldl (fun s p => sendGroup 0x22 p s) s))) ∧
  (∀ (s : State) (r : JRecord) (q : Nat), s.flash.journal.head? = some r → r.seq ≤ q → q ≤ s.jrn.nextSeq →
      catchupContent s q = (none, s.flash.journal.filter fun x => decide (q ≤ x.seq))) ∧
  (∀ (s : State) (sn : Option Snapshot) (rs : List JRecord),
      s.cfg.group ≠ none →
      s.grp.catching = true →
      entered s = true →
      exec (.groupJournalRx sn rs) s = .next (irqEdge s ({ s with grp := { s.grp with install := sn.orElse (fun _ => s.grp.install), later := (if sn.isSome then [] else s.grp.later) ++ rs } }))) ∧
  (∀ (s : State) (cs : List (BitVec 10)) (x : PortSync),
      x = s.grp.westSync.take cs →
      x.phase < 6 →
      s.grp.westDown = false →
      exec (.groupLinkDown ⟨true, cs⟩) s = .next (irqEdge s (grpNote 9 none { s with grp := { s.grp with westSync := x, westDown := true } }))) ∧
  (∀ (s : State) (cs : List (BitVec 10)) (x : PortSync),
      x = s.grp.westSync.take cs →
      x.phase < 6 →
      s.grp.westDown = true →
      exec (.groupLinkDown ⟨true, cs⟩) s = .next (irqEdge s ({ s with grp := { s.grp with westSync := x, westDown := true } }))) ∧
  (∀ (s : State) (cs : List (BitVec 10)) (x : PortSync),
      x = s.grp.westSync.take cs →
      6 ≤ x.phase →
      exec (.groupLinkDown ⟨true, cs⟩) s = .next (irqEdge s ({ s with grp := { s.grp with westSync := x, westDown := false } }))) ∧
  (∀ (s : State) (cs : List (BitVec 10)) (x : PortSync),
      x = s.grp.eastSync.take cs →
      x.phase < 6 →
      s.grp.eastDown = false →
      exec (.groupLinkDown ⟨false, cs⟩) s = .next (irqEdge s (grpNote 9 none { s with grp := { s.grp with eastSync := x, eastDown := true } }))) ∧
  (∀ (s : State) (cs : List (BitVec 10)) (x : PortSync),
      x = s.grp.eastSync.take cs →
      x.phase < 6 →
      s.grp.eastDown = true →
      exec (.groupLinkDown ⟨false, cs⟩) s = .next (irqEdge s ({ s with grp := { s.grp with eastSync := x, eastDown := true } }))) ∧
  (∀ (s : State) (cs : List (BitVec 10)) (x : PortSync),
      x = s.grp.eastSync.take cs →
      6 ≤ x.phase →
      exec (.groupLinkDown ⟨false, cs⟩) s = .next (irqEdge s ({ s with grp := { s.grp with eastSync := x, eastDown := false } }))) ∧
  (∀ (s : State) (cs : List (BitVec 10)) (x : PortSync),
      x = s.grp.westSync.take cs →
      x.phase < 6 →
      s.grp.westDown = false →
      exec (.codeGroupAlignment ⟨true, cs⟩) s = .next (irqEdge s (grpNote 9 none { s with grp := { s.grp with westSync := x, westDown := true } }))) ∧
  (∀ (s : State) (cs : List (BitVec 10)) (x : PortSync),
      x = s.grp.westSync.take cs →
      x.phase < 6 →
      s.grp.westDown = true →
      exec (.codeGroupAlignment ⟨true, cs⟩) s = .next (irqEdge s ({ s with grp := { s.grp with westSync := x, westDown := true } }))) ∧
  (∀ (s : State) (cs : List (BitVec 10)) (x : PortSync),
      x = s.grp.westSync.take cs →
      6 ≤ x.phase →
      exec (.codeGroupAlignment ⟨true, cs⟩) s = .next (irqEdge s ({ s with grp := { s.grp with westSync := x, westDown := false } }))) ∧
  (∀ (s : State) (cs : List (BitVec 10)) (x : PortSync),
      x = s.grp.eastSync.take cs →
      x.phase < 6 →
      s.grp.eastDown = false →
      exec (.codeGroupAlignment ⟨false, cs⟩) s = .next (irqEdge s (grpNote 9 none { s with grp := { s.grp with eastSync := x, eastDown := true } }))) ∧
  (∀ (s : State) (cs : List (BitVec 10)) (x : PortSync),
      x = s.grp.eastSync.take cs →
      x.phase < 6 →
      s.grp.eastDown = true →
      exec (.codeGroupAlignment ⟨false, cs⟩) s = .next (irqEdge s ({ s with grp := { s.grp with eastSync := x, eastDown := true } }))) ∧
  (∀ (s : State) (cs : List (BitVec 10)) (x : PortSync),
      x = s.grp.eastSync.take cs →
      6 ≤ x.phase →
      exec (.codeGroupAlignment ⟨false, cs⟩) s = .next (irqEdge s ({ s with grp := { s.grp with eastSync := x, eastDown := false } }))) ∧
  (∀ (s : State) (x : MemberRec) (bb : Nat) (p : Page) (t1 : State) (t : State) (u : State),
      stepDue .restore s = true →
      restoreDue s = true →
      bellView s = some bb →
      tfind s.grp.recs bb = some x →
      keptCopy s x.raw = some p →
      t1 = raise gCmem 0 (putPage p (BitVec.ofNat 64 (recFp x.raw)) s) →
      t = { t1 with page := { t1.page with sched := (if s.page.retained = some p then some s.page.retainedSched else none).getD t1.page.sched } } →
      u = stepDone .restore (pageRecord 2 (post 0x02 [(0, 8, t.page.live.epoch.toNat), (8, 8, t.page.liveFp.toNat), (18, 1, 1)] t)) →
      exec (.pageRestore) s = .next (irqEdge s (if u.clk.start.isEmpty then frameSends u else u)))

/-- Sixteen rows of the mate link answer a next state: its lanes, header, packets, mirroring and alignment. The rows
ML_FRAME_VERIFY, ML_OOF, ML_LOF, MATE_LINK_UP, MATE_LINK_DOWN, MATE_HEADER_RX, MATE_JOURNAL_RX, MATE_STAGED_RX,
MATE_BULK_RX, MATE_COMMAND_RX, MATE_RECORD_RX, RETRANSMIT, MIRROR_GAP_TIMEOUT, RESYNC_INSTALL, MATE_ALIGN_STEP and
TIMING_ALIGNMENT_CHANGE. A mate lane frames when the alignment block comes again with at most 2 errors and 128 headers
01, which ends ML-LOF and ML-LOS (log 117); it loses frame after 4 bad alignment blocks or 16 bad data headers, and
ML-LOF is declared after 16 frames, which takes the link out of service as linkLost says; a link ready that is out of
service enters it with TWIN.MATE_LINK_UP; loss of signal, ML-LOF, 32 frames without a header and a miswire take it
out. A header of a framed lane is measured for RX_OFFSET; one that fails its check is counted and ends the run; a good
one of the right unit, slice and lane counts in the run, which starts again where no good one came in the 5 frames
before, and that of ML0 is held and acted on as headerSeen says; one of a wrong unit or slice is reported once as
MISWIRE. On JOURNAL and STAGED a standby that takes the mirror (in RESYNC or SYNC, or unsynchronised with the copy it
kept, as takesMirror says) takes the packet with the number expected, the gap it fills ending, and answers another
number by RETRANSMIT of what is missing and counts the gap; the image of BULK is kept, its last packet completing it,
and mirrored commands are scheduled. Outside a group a record of the mate with GROUP_ID 0 is held and compared. A kept
packet is sent again when asked for. A gap of 32 frames ends, and with it the SYNC of a standby that mirrors. At a
boundary a standby in RESYNC installs a complete image, or applies what came later, and enters SYNC as enterSync says;
an unsynchronised one timed from the mate steps its FN, once. The timing alignment holds within 320 units of 100 ps; a
standby locked on the mate gains it, and its loss raises TIM.MATE_ALIGN_LOST and ends SYNC. -/
def Obligations.CompletesMate : Prop :=
  (∀ (s : State) (lane : Bool) (again : BitVec 66) (heads : Nat),
      (mlOf s lane).inFrame = false →
      alignErrors lane again ≤ 2 →
      heads = 128 →
      exec (.mlFrameVerify ⟨lane, again, heads⟩) s = .next (irqEdge s (putMl lane { mlOf s lane with inFrame := true, los := false, lof := false, run := 0 } s))) ∧
  (∀ (s : State) (lane : Bool) (blocks : List (BitVec 66)) (bad : Nat),
      (mlOf s lane).inFrame = true →
      16 ≤ bad →
      exec (.mlOof ⟨lane, blocks, bad⟩) s = .next (irqEdge s (putMl lane { mlOf s lane with inFrame := false, oofFn := s.clk.fn, run := 0 } s))) ∧
  (∀ (s : State) (lane : Bool) (blocks : List (BitVec 66)) (bad : Nat),
      (mlOf s lane).inFrame = true →
      blocks.length = 4 →
      (∀ w ∈ blocks, 2 < alignErrors lane w) →
      exec (.mlOof ⟨lane, blocks, bad⟩) s = .next (irqEdge s (putMl lane { mlOf s lane with inFrame := false, oofFn := s.clk.fn, run := 0 } s))) ∧
  (∀ (s : State) (lane : Bool),
      (mlOf s lane).inFrame = false →
      (mlOf s lane).lof = false →
      16 ≤ (s.clk.fn - (mlOf s lane).oofFn).toNat →
      exec (.mlLof lane) s = .next (irqEdge s (linkLost (putMl lane { mlOf s lane with lof := true } s)))) ∧
  (∀ s : State, s.twin.linkUp = false → linkLost s = s) ∧
  (∀ (s : State),
      s.twin.linkUp = false →
      linkReady s = true →
      exec (.mateLinkUp) s = .next (irqEdge s (compareHeld (resumeRole (twinNote 6 { s with twin := { s.twin with linkUp := true, rxSeq := [] } }))))) ∧
  (∀ (s : State) (lane : Bool),
      exec (.mateLinkDown lane 0) s = .next (irqEdge s (linkLost (putMl lane { mlOf s lane with los := true, inFrame := false, run := 0, oofFn := if (mlOf s lane).inFrame then s.clk.fn else (mlOf s lane).oofFn } s)))) ∧
  (∀ (s : State) (lane : Bool),
      (mlOf s lane).lof = true →
      exec (.mateLinkDown lane 1) s = .next (irqEdge s (linkLost s))) ∧
  (∀ (s : State) (lane : Bool),
      32 ≤ (s.clk.fn - s.twin.ml0.lastFn).toNat →
      exec (.mateLinkDown lane 2) s = .next (irqEdge s (linkLost s))) ∧
  (∀ (s : State) (lane : Bool),
      s.twin.miswire = true →
      exec (.mateLinkDown lane 3) s = .next (irqEdge s (linkLost s))) ∧
  (∀ (s : State) (lane : Bool) (m : Bytes),
      s.cfg.twin ≠ none →
      (mlOf s lane).inFrame = true →
      (crcGood m 60 = false ∨ byteAt m 0 ≠ 1) →
      exec (.mateHeaderRx lane m) s = .next (irqEdge s (bump 113 2 1 (putMl lane { mlOf s lane with run := 0 } (measureArrival lane s))))) ∧
  (∀ (s : State) (lane : Bool) (m : Bytes) (t : State),
      s.cfg.twin ≠ none →
      (mlOf s lane).inFrame = true →
      crcGood m 60 = true →
      byteAt m 0 = 1 →
      (bit (byteAt m 1) 7 = ownUnit s ∨ fld (byteAt m 1) 5 2 ≠ ownSlice s) →
      s.twin.miswire = false →
      t = putMl lane { mlOf s lane with run := 0 } (measureArrival lane s) →
      exec (.mateHeaderRx lane m) s = .next (irqEdge s (linkLost (twinNote 7 { t with twin := { t.twin with miswire := true } })))) ∧
  (∀ (s : State) (m : Bytes) (t : State),
      s.cfg.twin ≠ none →
      (mlOf s true).inFrame = true →
      crcGood m 60 = true →
      byteAt m 0 = 1 →
      bit (byteAt m 1) 7 ≠ ownUnit s →
      fld (byteAt m 1) 5 2 = ownSlice s →
      bit (byteAt m 1) 4 = true →
      t = measureArrival true s →
      exec (.mateHeaderRx true m) s = .next (irqEdge s (putMl true { mlOf s true with run := if (s.clk.fn - (mlOf s true).lastFn).toNat ≤ 5 then (mlOf s true).run + 1 else 1, lastFn := s.clk.fn } { t with twin := { t.twin with miswire := false } }))) ∧
  (∀ (s : State) (m : Bytes) (t : State) (t1 : State),
      s.cfg.twin ≠ none →
      (mlOf s false).inFrame = true →
      crcGood m 60 = true →
      byteAt m 0 = 1 →
      bit (byteAt m 1) 7 ≠ ownUnit s →
      fld (byteAt m 1) 5 2 = ownSlice s →
      bit (byteAt m 1) 4 = false →
      t = measureArrival false s →
      t1 = putMl false { mlOf s false with run := if (s.clk.fn - (mlOf s false).lastFn).toNat ≤ 5 then (mlOf s false).run + 1 else 1, lastFn := s.clk.fn } { t with twin := { t.twin with miswire := false } } →
      exec (.mateHeaderRx false m) s = .next (irqEdge s (headerSeen { t1 with twin := { t1.twin with hdr := { raw := m, fn := s.clk.fn } } }))) ∧
  (∀ (s : State) (seq : Nat) (r : JRecord) (n : Nat) (t : State),
      takesMirror s = true →
      n = seq % 256 →
      (tfind s.twin.rxSeq 2).getD n = n →
      t = bump 113 1 1 s →
      exec (.mateJournalRx seq r) s = .next (irqEdge s (takeRecord r { t with twin := { t.twin with rxSeq := tinsert s.twin.rxSeq 2 ((n + 1) % 256), gaps := if (tfind s.twin.gapTo 2).getD n = n then terase s.twin.gaps 2 else s.twin.gaps, gapTo := if (tfind s.twin.gapTo 2).getD n = n then terase s.twin.gapTo 2 else s.twin.gapTo } }))) ∧
  (∀ (s : State) (seq : Nat) (r : JRecord) (n : Nat) (x : Nat) (t : State),
      takesMirror s = true →
      n = seq % 256 →
      tfind s.twin.rxSeq 2 = some x →
      n ≠ x →
      t = bump 113 1 1 s →
      exec (.mateJournalRx seq r) s = .next (irqEdge s (sendMate 0x01 [0x03, 2, BitVec.ofNat 8 x, BitVec.ofNat 8 (min ((n + 256 - x) % 256 + 1) 255)] (bump 113 3 1 { t with twin := { t.twin with gaps := if (tfind s.twin.gaps 2).isSome then s.twin.gaps else tinsert s.twin.gaps 2 s.clk.fn, gapTo := tinsert s.twin.gapTo 2 n } })))) ∧
  (∀ (s : State) (seq : Nat) (ws : List StagedWrite) (n : Nat) (t : State),
      takesMirror s = true →
      n = seq % 256 →
      (tfind s.twin.rxSeq 3).getD n = n →
      t = bump 113 1 1 s →
      exec (.mateStagedRx seq ws) s = .next (irqEdge s (takeStaged ws { t with twin := { t.twin with rxSeq := tinsert s.twin.rxSeq 3 ((n + 1) % 256), gaps := if (tfind s.twin.gapTo 3).getD n = n then terase s.twin.gaps 3 else s.twin.gaps, gapTo := if (tfind s.twin.gapTo 3).getD n = n then terase s.twin.gapTo 3 else s.twin.gapTo } }))) ∧
  (∀ (s : State) (seq : Nat) (ws : List StagedWrite) (n : Nat) (x : Nat) (t : State),
      takesMirror s = true →
      n = seq % 256 →
      tfind s.twin.rxSeq 3 = some x →
      n ≠ x →
      t = bump 113 1 1 s →
      exec (.mateStagedRx seq ws) s = .next (irqEdge s (sendMate 0x01 [0x03, 3, BitVec.ofNat 8 x, BitVec.ofNat 8 (min ((n + 256 - x) % 256 + 1) 255)] (bump 113 3 1 { t with twin := { t.twin with gaps := if (tfind s.twin.gaps 3).isSome then s.twin.gaps else tinsert s.twin.gaps 3 s.clk.fn, gapTo := tinsert s.twin.gapTo 3 n } })))) ∧
  (∀ (s : State) (tag : Nat) (img : Snapshot),
      s.mode.mode = .standby →
      s.mode.sync = 2 →
      s.twin.linkUp = true →
      exec (.mateBulkRx true tag img) s = .next (irqEdge s (imageComplete tag (bump 113 1 1 { s with twin := { s.twin with image := some img } })))) ∧
  (∀ (s : State) (tag : Nat) (img : Snapshot),
      s.mode.mode = .standby →
      s.mode.sync = 2 →
      s.twin.linkUp = true →
      exec (.mateBulkRx false tag img) s = .next (irqEdge s (bump 113 1 1 { s with twin := { s.twin with image := some img } }))) ∧
  (∀ (tag : Nat) (s : State), (imageComplete tag s).twin.imageDone = true ∧ (imageComplete tag s).twin.imageTag = tag ∧
      (s.twin.later = [] → (imageComplete tag s).twin.mirrorSeq = tag)) ∧
  (∀ (s : State) (fn : FN) (e : Effect),
      s.mode.mode = .standby →
      s.twin.linkUp = true →
      (s.mode.sync = 2 ∨ s.mode.sync = 3) →
      exec (.mateCommandRx fn e) s = .next (irqEdge s (bump 113 1 1 { s with host := { s.host with sched := s.host.sched ++ [{ due := fn, tok := none, own := false, effect := e, result := 0, applied := false }] } }))) ∧
  (∀ (s : State) (m : Bytes) (t : State),
      s.cfg.twin ≠ none →
      s.cfg.group = none →
      s.twin.linkUp = true →
      entered s = true →
      be m 0 4 = 0 →
      t = bump 113 1 1 s →
      exec (.mateRecordRx m) s = .next (irqEdge s (compareBell (some (2 * ownSlice s + nat01 (!ownUnit s))) (holdRecord (2 * ownSlice s + nat01 (!ownUnit s)) m t)))) ∧
  (∀ (s : State) (chan : Nat) (first : Nat) (count : Nat) (p : (Nat × Nat × Bytes)),
      s.mode.mode = .active →
      s.twin.linkUp = true →
      (chan = 2 ∨ chan = 3) →
      count = 1 →
      (s.twin.sentPkts.find? (fun p => decide (p.1 = chan ∧ p.2.1 = first % 256)) = some p) →
      exec (.retransmit chan first count) s = .next (irqEdge s (bump 113 0 1 (send (.mate (BitVec.ofNat 8 chan) p.2.2) { s with twin := { s.twin with stream := s.twin.stream ++ [(chan, p.2.2)] } })))) ∧
  (∀ (s : State) (chan : Nat) (first : Nat) (count : Nat),
      s.mode.mode = .active →
      s.twin.linkUp = true →
      (chan = 2 ∨ chan = 3) →
      exec (.retransmit chan first count) s = .next (irqEdge s ((List.range (min count 255)).foldl (fun s i => match s.twin.sentPkts.find? (fun p => decide (p.1 = chan ∧ p.2.1 = (first + i) % 256)) with | some p => bump 113 0 1 (send (.mate (BitVec.ofNat 8 chan) p.2.2) { s with twin := { s.twin with stream := s.twin.stream ++ [(chan, p.2.2)] } }) | none => s) s))) ∧
  (∀ (s : State) (chan : Nat) (f : FN),
      tfind s.twin.gaps chan = some f →
      32 ≤ (s.clk.fn - f).toNat →
      takesMirror s = false →
      exec (.mirrorGapTimeout chan) s = .next (irqEdge s ({ s with twin := { s.twin with gaps := terase s.twin.gaps chan, gapTo := terase s.twin.gapTo chan } }))) ∧
  (∀ (s : State) (chan : Nat) (f : FN) (t : State),
      tfind s.twin.gaps chan = some f →
      32 ≤ (s.clk.fn - f).toNat →
      takesMirror s = true →
      t = { s with twin := { s.twin with gaps := terase s.twin.gaps chan, gapTo := terase s.twin.gapTo chan, copyGood := false } } →
      exec (.mirrorGapTimeout chan) s = .next (irqEdge s (setSync 1 (dropImage t)))) ∧
  (∀ (s : State),
      s.mode.mode = .standby →
      s.clk.fn.toNat % 48 = 0 →
      s.twin.linkUp = true →
      s.mode.sync = 2 →
      s.twin.imageDone = true →
      s.twin.installed = false →
      exec (.resyncInstall) s = .next (irqEdge s (enterSync (installImage s)))) ∧
  (∀ (s : State),
      s.mode.mode = .standby →
      s.clk.fn.toNat % 48 = 0 →
      s.twin.linkUp = true →
      s.mode.sync = 2 →
      s.twin.installed = true →
      exec (.resyncInstall) s = .next (irqEdge s (enterSync (applyLater s.twin.later s)))) ∧
  (∀ (s : State),
      s.mode.mode = .standby →
      s.clk.fn.toNat % 48 = 0 →
      s.twin.linkUp = true →
      s.mode.sync = 1 →
      syncReady s = true →
      s.twin.copyGood = true →
      exec (.resyncInstall) s = .next (irqEdge s (setSync 3 (dropImage { s with twin := { s.twin with copyGood := false } })))) ∧
  (∀ (s : State) (fn : FN),
      s.mode.mode = .standby →
      s.mode.sync.toNat < 3 →
      s.twin.linkUp = true →
      onMate s = true →
      s.tim.stepped = false →
      fn = BitVec.ofNat 48 (be s.twin.hdr.raw 4 6) →
      exec (.mateAlignStep) s = .next (irqEdge s (startFrame { s with clk := { s.clk with fn := fn + (s.clk.fn - s.twin.hdr.fn) }, tim := { s.tim with stepped := true }, twin := { s.twin with hdr := { s.twin.hdr with fn := fn } } }))) ∧
  (∀ (s : State) (err : Int),
      -320 ≤ err →
      err ≤ 320 →
      s.tim.aligned = false →
      s.mode.mode = .standby →
      s.tim.dpll = 2 →
      onMate s = true →
      exec (.timingAlignmentChange err) s = .next (irqEdge s (compareHeld { s with tim := { s.tim with aligned := true } }))) ∧
  (∀ (s : State) (err : Int) (t : State),
      (err < -320 ∨ 320 < err) →
      s.tim.aligned = true →
      t = timNote 10 none 0xFF { s with tim := { s.tim with aligned := false } } →
      exec (.timingAlignmentChange err) s = .next (irqEdge s (if s.mode.mode = .standby ∧ s.mode.sync = 3 then setSync 1 { t with twin := { t.twin with copyGood := true } } else t)))

/-- GRANT_RX, RELAY_GRANT, RELEASED, ROLE_TAKE_EFFECT, LEASE_END, GRANT_TTL_EXPIRY, KEY_OVERLAP_EXPIRY and
FORCED_TAKEOVER answer a next state. A valid GRANT whose anchor is known and whose epoch is not below the known one is
counted, relayed to the mate, decides PENDING and takes effect as applyGrant says, and then its reset request acts;
one that fails a check, or has no anchor, is discarded and counted; a relayed one acts as applyGrant says, a stale one
only being counted. RELEASED marks the mate released. At the start of a frame a pending grant whose lease has not
ended takes the role once the mate is free of it, and one whose lease has ended is dropped. A lease that ends in BOOT
is dropped. At the lease end an ACTIVE unit whose arbiter and mate link are silent is isolated, a unit whose arbiter
is heard without the mate link becomes STANDBY, and with the mate link in service and neither unit hearing the arbiter
the lease is carried. A unit whose arbiter and mate link are both silent is marked for ISOLATED, which it enters at
the next frame. An overlapping key ends at its time. At its boundary after a forced grant the page and configuration
of the own journal are put in force with FORCED_TAKEOVER. -/
def Obligations.CompletesRole : Prop :=
  (∀ (s : State) (p : Bool) (m : Bytes) (anchor : FN) (t : State),
      entered s = true →
      ghEnabled s p = true →
      grantFails s p m = none →
      grantAnchor s p m = some anchor →
      s.twin.epoch.toNat ≤ (gEpoch m).toNat →
      t = sendMate 0x01 ([0x01, BitVec.ofNat 8 (nat01 p)] ++ toBE 6 anchor.toNat ++ m) (bump 115 1 1 (putGh p { ghPort s p with grantFn := some s.clk.fn, grantSeq := gSeq m, arbiter := be m 10 2, macFails := 0 } s)) →
      exec (.grantRx p m) s = .next (irqEdge s (grantReset p m (applyGrant p true anchor m (decidePending anchor m t))))) ∧
  (∀ (s : State) (p : Bool) (m : Bytes) (why : Nat),
      entered s = true →
      ghEnabled s p = true →
      grantFails s p m = some why →
      exec (.grantRx p m) s = .next (irqEdge s (discardGrant p why s))) ∧
  (∀ (s : State) (p : Bool) (m : Bytes),
      entered s = true →
      ghEnabled s p = true →
      grantFails s p m = none →
      grantAnchor s p m = none →
      exec (.grantRx p m) s = .next (irqEdge s (discardGrant p 4 s))) ∧
  (∀ (s : State) (p : Bool) (anchor : FN) (m : Bytes),
      entered s = true →
      s.twin.linkUp = true →
      s.cfg.twin ≠ none →
      grantFails s p m = none →
      exec (.relayGrant p anchor m) s = .next (irqEdge s (applyGrant p false anchor m s))) ∧
  (∀ (s : State) (p : Bool) (anchor : FN) (m : Bytes) (why : Nat),
      entered s = true →
      s.twin.linkUp = true →
      s.cfg.twin ≠ none →
      grantFails s p m = some why →
      exec (.relayGrant p anchor m) s = .next (irqEdge s (discardGrant p why s))) ∧
  (∀ (p own : Bool) (anchor : FN) (m : Bytes) (s : State), (gEpoch m).toNat < s.twin.epoch.toNat → applyGrant p own anchor m s = countGrant p 5 s) ∧
  (∀ (s : State) (ep : Word32) (fn : FN),
      s.twin.linkUp = true →
      entered s = true →
      s.mode.mode ≠ .active →
      exec (.released ep fn) s = .next (irqEdge s ({ s with twin := { s.twin with mateReleased := true } }))) ∧
  (∀ (s : State) (p : PendingGrant) (u : State),
      stepDue .role s = true →
      s.twin.pending = some p →
      (s.mode.mode = .standby ∨ s.mode.mode = .isolated) →
      fnGe s.clk.fn p.leaseEnd = false →
      mateFree s = true →
      u = stepDone .role (takeRole p s) →
      exec (.roleTakeEffect) s = .next (irqEdge s (if u.clk.start.isEmpty then frameSends u else u))) ∧
  (∀ (s : State) (p : PendingGrant) (u : State),
      stepDue .role s = true →
      s.twin.pending = some p →
      (s.mode.mode = .standby ∨ s.mode.mode = .isolated) →
      fnGe s.clk.fn p.leaseEnd = true →
      u = stepDone .role ({ s with twin := { s.twin with pending := none } }) →
      exec (.roleTakeEffect) s = .next (irqEdge s (if u.clk.start.isEmpty then frameSends u else u))) ∧
  (∀ (p : PendingGrant) (s : State), (takeRole p s).mode.mode = .active) ∧
  (∀ (s : State) (f : FN) (u : State),
      stepDue .lease s = true →
      s.twin.leaseEnd = some f →
      fnGe s.clk.fn f = true →
      s.mode.mode = .active →
      s.twin.provisional = false →
      s.twin.linkUp = false →
      heardOwn s = false →
      u = stepDone .lease (enterIsolated s) →
      exec (.leaseEnd) s = .next (irqEdge s (if u.clk.start.isEmpty then frameSends u else u))) ∧
  (∀ (s : State) (f : FN) (u : State),
      stepDue .lease s = true →
      s.twin.leaseEnd = some f →
      fnGe s.clk.fn f = true →
      s.mode.mode = .active →
      s.twin.provisional = false →
      s.twin.linkUp = false →
      heardOwn s = true →
      u = stepDone .lease (becomeStandby s) →
      exec (.leaseEnd) s = .next (irqEdge s (if u.clk.start.isEmpty then frameSends u else u))) ∧
  (∀ (s : State) (f : FN) (u : State),
      stepDue .lease s = true →
      s.twin.leaseEnd = some f →
      fnGe s.clk.fn f = true →
      s.mode.mode = .active →
      s.twin.provisional = false →
      s.twin.linkUp = true →
      heardOwn s = false →
      fld (byteAt s.twin.hdr.raw 14) 2 2 = 0 →
      u = stepDone .lease (twinNote 1 { s with twin := { s.twin with leaseEnd := none, lease := 2 } }) →
      exec (.leaseEnd) s = .next (irqEdge s (if u.clk.start.isEmpty then frameSends u else u))) ∧
  (∀ (s : State) (f : FN) (u : State),
      stepDue .lease s = true →
      s.twin.leaseEnd = some f →
      fnGe s.clk.fn f = true →
      s.mode.mode = .boot →
      u = stepDone .lease ({ s with twin := { s.twin with leaseEnd := none, lease := 0 } }) →
      exec (.leaseEnd) s = .next (irqEdge s (if u.clk.start.isEmpty then frameSends u else u))) ∧
  (∀ (s : State) (p : Bool),
      s.cfg.twin ≠ none →
      ghSilent s (ghPort s p) = true →
      arbiterLost s = true →
      s.twin.linkUp = false →
      (s.mode.mode = .active ∨ s.mode.mode = .standby) →
      exec (.grantTtlExpiry p) s = .next (irqEdge s ({ s with twin := { s.twin with isolates := true } }))) ∧
  (∀ (s : State) (p : Bool) (x : (Bytes × FN)),
      (ghPort s p).prevKey = some x →
      fnGe s.clk.fn x.2 = true →
      exec (.keyOverlapExpiry p) s = .next (irqEdge s (putGh p { ghPort s p with prevKey := none } s))) ∧
  (∀ (s : State) (f : FN) (g : JFound) (t : State) (u : State),
      stepDue .takeover s = true →
      s.twin.takeover = some f →
      s.mode.mode = .active →
      s.clk.fn.toNat % 48 = 0 →
      fnGe s.clk.fn f = true →
      verifyJournal s.flash = .ok g →
      t = putPage g.page g.fp { s with cfg := { g.cfg with twin := s.cfg.twin, group := s.cfg.group } } →
      u = stepDone .takeover (pageRecord 5 (twinNote 12 { t with twin := { t.twin with takeover := none } })) →
      exec (.forcedTakeover) s = .next (irqEdge s (if u.clk.start.isEmpty then frameSends u else u)))

/-- VBL_HEADER_RX, TRUST_RESTORE, DISTRUST_REPEAT, VBL_MESSAGE_RX, VBL_FRAME_VERIFY, VBL_OOF, VBL_DEFECT_CHANGE and
VBL_BAR_LAPSE answer a next state. On a VBL lane: a header of a framed receiver whose CRC fails counts as bad and ends
the run of good ones; one whose CRC is good is held, ends the run of bad ones, counts in the runs of identity and of
REMOTE_FAIL, and its bitmap goes to the filter, as takeBitmap says; a distrusted lane quiet for TRUST_DELAY and not
forced is trusted again from the next frame; DISTRUST or TRUST is sent again 8,000 frames after the change; a message
in form of a lane whose block is not stopped and of which fewer than 8 were relayed in the frame is relayed to the
next buffer as relayMessage says; one out of form is dropped, and the block stops; a receiver out of frame takes, of
the candidates that verify (an alignment word with at most 3 errors, at most 16 codewords not corrected and a header
whose CRC is good) and are not barred, the one with the fewest codewords not corrected; it loses frame when its last 5
alignment words have more than 3 errors, and a false lock, 720 or more codewords not corrected in each of its last 8
frames, also bars its position; a defect bit whose condition is due changes, a lane no longer down starting its bitmap
filter afresh; a bar of 32 frames lapses. -/
def Obligations.CompletesVbl : Prop :=
  (∀ (s : State) (lane : Nat) (m : Bytes),
      isVbl s lane = true →
      (rxOf s lane).inFrame = true →
      crcGood (fit 92 m) 88 = false →
      exec (.vblHeaderRx lane m) s = .next (irqEdge s (putVbl lane { vblOf s lane with bad := (vblOf s lane).bad + 1, good := 0 } s))) ∧
  (∀ (s : State) (lane : Nat) (m : Bytes) (h : Bytes) (diff : Bool) (rf : Bool),
      isVbl s lane = true →
      (rxOf s lane).inFrame = true →
      h = fit 92 m →
      crcGood h 88 = true →
      diff = decide (vblField h 32 4 ≠ (laneCfg s.cfg lane).cardId.toNat) →
      rf = bit (byteAt h 86) 6 →
      exec (.vblHeaderRx lane m) s = .next (irqEdge s (takeBitmap lane h (putVbl lane { vblOf s lane with hdr := h, bad := 0, good := (vblOf s lane).good + 1, idDiff := diff, idRun := runOn (vblOf s lane).idDiff diff (vblOf s lane).idRun, rf := rf, rfRun := runOn (vblOf s lane).rf rf (vblOf s lane).rfRun } s)))) ∧
  (∀ (s : State) (lane : Nat),
      isVbl s lane = true →
      (distrustOf s lane).on = true →
      (distrustOf s lane).forced = false →
      (distrustCfg s lane).2 ≤ (distrustOf s lane).quiet →
      exec (.trustRestore lane) s = .next (irqEdge s (setDistrust lane false false (s.clk.fn + 1) s))) ∧
  (∀ (s : State) (lane : Nat),
      isVbl s lane = true →
      (distrustOf s lane).since ≠ 0 →
      (s.clk.fn - (distrustOf s lane).since).toNat = 8000 →
      exec (.distrustRepeat lane) s = .next (irqEdge s (sendTrust lane (distrustOf s lane).on (distrustOf s lane).since s))) ∧
  (∀ (s : State) (lane : Nat) (m : Bytes),
      isVbl s lane = true →
      (rxOf s lane).inFrame = true →
      (vblOf s lane).stopped = false →
      be m 0 2 ≤ 4088 →
      m.length = be m 0 2 + 8 →
      crcGood m (4 + be m 0 2) = true →
      0x40 ≤ (byteAt m 2).toNat →
      (vblOf s lane).relayed < 8 →
      exec (.vblMessageRx lane m) s = .next (irqEdge s (relayMessage lane m s))) ∧
  (∀ (s : State) (lane : Nat) (m : Bytes) (t : State),
      isVbl s lane = true →
      (rxOf s lane).inFrame = true →
      (vblOf s lane).stopped = false →
      be m 0 2 ≠ 0 →
      (4088 < be m 0 2 ∨ m.length ≠ be m 0 2 + 8 ∨ crcGood m (4 + be m 0 2) = false) →
      t = putVbl lane { vblOf s lane with dropped := (vblOf s lane).dropped + 1 } s →
      exec (.vblMessageRx lane m) s = .next (irqEdge s (putVbl lane { vblOf t lane with stopped := true } t))) ∧
  (∀ (s : State) (lane : Nat) (cands : List VblCand) (x : VblCand),
      isVbl s lane = true →
      (rxOf s lane).inFrame = false →
      (leastBy (·.uncorr) (cands.filter fun c => candVerifies c && !barredAt s (rxOf s lane) c.pos) = some x) →
      exec (.vblFrameVerify lane cands) s = .next (irqEdge s (changeDefect 7 lane bVblOof false (putRx lane { rxOf s lane with inFrame := true, pos := x.pos, since := s.clk.fn } s)))) ∧
  (∀ c : VblCand, candVerifies c = true ↔ c.word.length = 16 ∧ wordErrors c.word ≤ 3 ∧ c.uncorr ≤ 16 ∧ crcGood c.header 88 = true) ∧
  (∀ (s : State) (lane : Nat) (ws : List Bytes) (ns : List Nat),
      isVbl s lane = true →
      (rxOf s lane).inFrame = true →
      5 ≤ ws.length →
      (∀ w ∈ ws.drop (ws.length - 5), 3 < wordErrors w) →
      falseLocked ns = false →
      exec (.vblOof lane ⟨ws, ns⟩) s = .next (irqEdge s (changeDefect 7 lane bVblOof true (putRx lane { rxOf s lane with inFrame := false, since := s.clk.fn } s)))) ∧
  (∀ (s : State) (lane : Nat) (ws : List Bytes) (ns : List Nat),
      isVbl s lane = true →
      (rxOf s lane).inFrame = true →
      falseLocked ns = true →
      exec (.vblOof lane ⟨ws, ns⟩) s = .next (irqEdge s (changeDefect 7 lane bVblOof true (putRx lane { rxOf s lane with inFrame := false, since := s.clk.fn, barred := { pos := (rxOf s lane).pos, fn := s.clk.fn } :: (rxOf s lane).barred } s)))) ∧
  (∀ ns : List Nat, falseLocked ns = true ↔ 8 ≤ ns.length ∧ ∀ n ∈ ns.drop (ns.length - 8), 720 ≤ n) ∧
  (∀ (s : State) (lane : Nat) (b : Nat) (on : Bool) (t : State),
      isVbl s lane = true →
      vblDefectDue s lane b on = true →
      t = changeDefect 7 lane b on s →
      exec (.vblDefectChange lane b on) s = .next (irqEdge s (evalSlots (if vblDown s lane && !vblDown t lane then freshBitmap lane t else t)))) ∧
  (∀ (s : State) (lane : Nat),
      isVbl s lane = true →
      exec (.vblBarLapse lane) s = .next (irqEdge s (putRx lane { rxOf s lane with barred := (rxOf s lane).barred.filter fun x => decide ((s.clk.fn - x.fn).toNat < 32) } s)))

/-- Eight rows of lane alignment, lane and path defects and BER_DECLARE answer a next state. The rows
LANE_FRAME_VERIFY, LANE_OOF, LANE_FALSE_LOCK_EXIT, LANE_TIE_TIMEOUT, LANE_READMISSION, LANE_DEFECT_CHANGE,
PATH_DEFECT_CHANGE and BER_DECLARE. A receiver out of frame with no tie watched takes the one candidate at which no
bar stands, watches several, or none; it loses frame, and after the evidence of a false lock also bars its position; a
tie that has run its time takes the watched candidate with the fewest errors, as ambiguous when two were left; when
the time of a bar has run the position is readmitted, unless another candidate verified, and a bar ends at its full
time. Each lane defect bit other than a trace and the two of logical lanes changes when its condition is due, after
the multiframe information of the row is taken; the bits 9 and 10 of a logical lane follow the evidence; a trace of a
lane is accepted. A path defect that its row shows by bytes changes when 5 bytes agree; the invalid-code bit 56 is set
by the count; pointers, H4, labels, traces and the bytes that settle the structure of a group are taken by their
machines. A BER threshold from 3 to 9 is declared or cleared and the bands evaluated, as evalBands says. -/
def Obligations.CompletesLanes : Prop :=
  (∀ (s : State) (k : Nat) (cs : List Nat) (vs : List Nat) (x : RxState) (p : Nat),
      isReceiver s k = true →
      (rxOf s k).inFrame = false →
      (decide (k < 128) && multiLane (laneMode s.cfg k) && groupLol s k) = false →
      (rxOf s k).tied = [] →
      (vs = cs.filter (fun q => !barStands s k (rxOf s k) q)) →
      x = { rxOf s k with barred := markOther s k vs (rxOf s k).barred } →
      vs = [p] →
      exec (.laneFrameVerify k cs) s = .next (irqEdge s (takePosition k p false (putRx k x s)))) ∧
  (∀ (s : State) (k : Nat) (cs : List Nat) (vs : List Nat) (x : RxState) (p : Nat) (q : Nat) (ps : List Nat),
      isReceiver s k = true →
      (rxOf s k).inFrame = false →
      (decide (k < 128) && multiLane (laneMode s.cfg k) && groupLol s k) = false →
      (rxOf s k).tied = [] →
      (vs = cs.filter (fun q => !barStands s k (rxOf s k) q)) →
      x = { rxOf s k with barred := markOther s k vs (rxOf s k).barred } →
      vs = p :: q :: ps →
      exec (.laneFrameVerify k cs) s = .next (irqEdge s (putRx k { x with tied := vs, tiedFn := s.clk.fn } s))) ∧
  (∀ (s : State) (k : Nat) (cs : List Nat) (vs : List Nat) (x : RxState),
      isReceiver s k = true →
      (rxOf s k).inFrame = false →
      (decide (k < 128) && multiLane (laneMode s.cfg k) && groupLol s k) = false →
      (rxOf s k).tied = [] →
      (vs = cs.filter (fun q => !barStands s k (rxOf s k) q)) →
      x = { rxOf s k with barred := markOther s k vs (rxOf s k).barred } →
      vs = [] →
      exec (.laneFrameVerify k cs) s = .next (irqEdge s (putRx k x s))) ∧
  (∀ (s : State) (k : Nat),
      isReceiver s k = true →
      (rxOf s k).inFrame = true →
      exec (.laneOof k) s = .next (irqEdge s (afterRx k (outOfFrame k false s)))) ∧
  (∀ (s : State) (k : Nat) (ev : List Nat),
      isReceiver s k = true →
      (rxOf s k).inFrame = true →
      (rxOf s k).readmitted = false →
      falseLocks s k ev = true →
      exec (.laneFalseLockExit ⟨k, ev⟩) s = .next (irqEdge s (afterRx k (outOfFrame k true s)))) ∧
  (∀ (s : State) (k : Nat) (b1 : List (Nat × Nat)) (x : (Nat × Nat)) (cs : List (Nat × Nat)),
      isReceiver s k = true →
      (rxOf s k).inFrame = false →
      (if isOtnRx s k then 1 else 16) ≤ (s.clk.fn - (rxOf s k).tiedFn).toNat →
      (cs = b1.filter (fun c => (rxOf s k).tied.contains c.1)) →
      leastBy (·.2) cs = some x →
      exec (.laneTieTimeout k b1) s = .next (irqEdge s (takePosition k x.1 (decide (2 ≤ cs.length)) s))) ∧
  (∀ (s : State) (k : Nat) (n : Nat) (x : RxState),
      isReceiver s k = true →
      x = rxOf s k →
      x.inFrame = false →
      n = (barFrames s k).2 →
      exec (.laneReadmission k) s = .next (irqEdge s (putRx k { x with barred := (x.barred.filter fun b => b.other || decide ((s.clk.fn - b.fn).toNat < n)).filter fun b => decide ((s.clk.fn - b.fn).toNat < (barFrames s k).1), lifted := x.lifted ++ (x.barred.filter fun b => !b.other && decide (n ≤ (s.clk.fn - b.fn).toNat)).map (·.pos) } s))) ∧
  (∀ (s : State) (cls : Nat) (obj : Nat) (b : Nat) (on : Bool) (info : Bytes) (t : State),
      (laneBits cls).contains b = true →
      isMonitored s cls obj = true →
      bitServed s cls obj b = true →
      t = takeOh3 cls obj b info (takeOtn cls obj b info s) →
      b ≠ timBit cls →
      b ≠ 25 →
      b ≠ bLos →
      (cls ≠ 5 ∨ (b ≠ 9 ∧ b ≠ 10)) →
      laneDefectDue t cls obj b on info = true →
      exec (.laneDefectChange cls obj b on info) s = .next (irqEdge s (evalSlots (changeDefect cls obj b on t)))) ∧
  (∀ (s : State) (obj : Nat) (b : Nat) (on : Bool) (info : Bytes) (t : State),
      (laneBits 5).contains b = true →
      isMonitored s 5 obj = true →
      bitServed s 5 obj b = true →
      t = takeOh3 5 obj b info (takeOtn 5 obj b info s) →
      (b = 9 ∨ b = 10) →
      exec (.laneDefectChange 5 obj b on info) s = .next (irqEdge s (evalSlots (evalGroup obj t)))) ∧
  (∀ (s : State) (cls : Nat) (obj : Nat) (b : Nat) (on : Bool) (info : Bytes) (t : State) (t1 : State),
      (laneBits cls).contains b = true →
      isMonitored s cls obj = true →
      bitServed s cls obj b = true →
      t = takeOh3 cls obj b info (takeOtn cls obj b info s) →
      b = timBit cls →
      info ≠ [] →
      t1 = { t with dft := { t.dft with traces := tinsert t.dft.traces (objKey cls obj) info } } →
      exec (.laneDefectChange cls obj b on info) s = .next (irqEdge s (evalTim cls obj (changeDefect cls obj 54 false t1)))) ∧
  (∀ (s : State) (cls : Nat) (obj : Nat) (b : Nat) (on : Bool) (info : Bytes) (f : (Byte → Bool)),
      pathDefectDue s cls obj b = true →
      bitServed s cls obj b = true →
      pathEvidence cls b = some f →
      info.length = 5 →
      (info.all (fun v => f v == on) = true) →
      (cls ≠ 2 ∨ b ≠ 32) →
      exec (.pathDefectChange cls obj b on info) s = .next (irqEdge s (changeDefect cls obj b on s))) ∧
  (∀ (s : State) (cls : Nat) (obj : Nat) (on : Bool) (info : Bytes),
      pathDefectDue s cls obj 56 = true →
      bitServed s cls obj 56 = true →
      exec (.pathDefectChange cls obj 56 on info) s = .next (irqEdge s (changeDefect cls obj 56 (decide (1000 < be info 0 info.length)) s))) ∧
  (∀ (s : State) (cls : Nat) (obj : Nat) (b : Nat) (on : Bool) (info : Bytes),
      pathDefectDue s cls obj b = true →
      bitServed s cls obj b = true →
      (b = bLop ∨ b = bAisP) →
      exec (.pathDefectChange cls obj b on info) s = .next (irqEdge s (takePointers cls obj info s))) ∧
  (∀ (s : State) (obj : Nat) (on : Bool) (info : Bytes),
      pathDefectDue s 3 obj 38 = true →
      bitServed s 3 obj 38 = true →
      exec (.pathDefectChange 3 obj 38 on info) s = .next (irqEdge s (takeStructure obj info s))) ∧
  (∀ (s : State) (cls : Nat) (obj : Nat) (b : Nat) (on : Bool) (info : Bytes),
      pathDefectDue s cls obj b = true →
      bitServed s cls obj b = true →
      b = bTim →
      info ≠ [] →
      exec (.pathDefectChange cls obj b on info) s = .next (irqEdge s (acceptTrace cls obj info s))) ∧
  (∀ (s : State) (cls : Nat) (obj : Nat) (b : Nat) (on : Bool) (info : Bytes),
      pathDefectDue s cls obj b = true →
      bitServed s cls obj b = true →
      b = bPlm →
      exec (.pathDefectChange cls obj b on info) s = .next (irqEdge s (takeLabel cls obj info s))) ∧
  (∀ (s : State) (obj : Nat) (on : Bool) (info : Bytes),
      pathDefectDue s 2 obj 37 = true →
      bitServed s 2 obj 37 = true →
      exec (.pathDefectChange 2 obj 37 on info) s = .next (irqEdge s (takeH4 obj info s))) ∧
  (∀ (s : State) (cls : Nat) (obj : Nat) (n : Nat) (on : Bool),
      isEstimated s cls obj = true →
      enginesServe s cls obj = true →
      serverDown s cls obj = false →
      3 ≤ n →
      n ≤ 9 →
      exec (.berDeclare cls obj n on) s = .next (irqEdge s (evalBands cls obj { s with dft := { s.dft with ber := tset 0 s.dft.ber (objKey cls obj) (if on then tget 0 s.dft.ber (objKey cls obj) ||| 2 ^ n else tget 0 s.dft.ber (objKey cls obj) - (tget 0 s.dft.ber (objKey cls obj) &&& 2 ^ n)) } })))

/-- KBYTE_ACCEPT, PSBF, KSTORM, FOP and APS_SWITCH answer a next state. A K value accepted is held, ends PSBF, and
counts as a change when it differs, among the changes of the last 8,000 frames; PSBF is declared when no value was
accepted for 12 frames; KSTORM is declared above 16 changes within 8,000 frames and ends with at most 2 after 8,000
frames; a failure of protocol whose condition has stood for 400 frames is declared, the group keeping the state it is
in or moving to, or ends, each with its event; a group or ring whose protocol asks for another state moves to it, from
the next frame, with PROT.APS raised and its remap versions as applyAps says, through the normal version when it goes
from one switched state to another, and in that version still when it is on such a way. -/
def Obligations.CompletesAps : Prop :=
  (∀ (s : State) (lane : Nat) (k : BitVec 13) (x : KState),
      hasK s lane = true →
      x = kbOf s lane →
      exec (.kbyteAccept lane k) s = .next (irqEdge s (changeDefect 1 lane bPsbf false (putKb lane { x with accepted := k, got := true, psbf := false, lastFn := s.clk.fn, changes := if k = x.accepted then x.changes.filter (fun f => decide ((s.clk.fn - f).toNat < 8000)) else s.clk.fn :: x.changes.filter (fun f => decide ((s.clk.fn - f).toNat < 8000)) } s)))) ∧
  (∀ (s : State) (lane : Nat),
      hasK s lane = true →
      (kbOf s lane).psbf = false →
      12 ≤ (s.clk.fn - (kbOf s lane).lastFn).toNat →
      exec (.psbf lane) s = .next (irqEdge s (changeDefect 1 lane bPsbf true (putKb lane { kbOf s lane with psbf := true } s)))) ∧
  (∀ (s : State) (lane : Nat),
      hasK s lane = true →
      (16 < ((kbOf s lane).changes.filter (fun f => decide ((s.clk.fn - f).toNat < 8000))).length) →
      (kbOf s lane).kstorm = false →
      exec (.kstorm lane true) s = .next (irqEdge s (changeDefect 1 lane bKstorm true (putKb lane { kbOf s lane with kstorm := true, stormFn := s.clk.fn } s)))) ∧
  (∀ (s : State) (lane : Nat),
      hasK s lane = true →
      (((kbOf s lane).changes.filter (fun f => decide ((s.clk.fn - f).toNat < 8000))).length ≤ 2) →
      8000 ≤ (s.clk.fn - (kbOf s lane).stormFn).toNat →
      (kbOf s lane).kstorm = true →
      exec (.kstorm lane false) s = .next (irqEdge s (changeDefect 1 lane bKstorm false (putKb lane { kbOf s lane with kstorm := false, stormFn := s.clk.fn } s)))) ∧
  (∀ (s : State) (g2 : Bool) (g : Nat) (f : FN) (a : ApsState),
      apsExists s g2 g = true →
      apsHeld s g2 g = false →
      a = apsOf s g2 g →
      a.fop = false →
      a.fopFn = some f →
      400 ≤ (s.clk.fn - f).toNat →
      exec (.fop g2 g true) s = .next (irqEdge s (raise gProt 4 (protNote 4 (if g2 then 2 else 1) a.st 0 g (putAps g2 g { a with fop := true, fopFn := none, want := (a.next.getD (a.st, a.br)).1, wantBr := (a.next.getD (a.st, a.br)).2, wantFn := none } s))))) ∧
  (∀ (s : State) (g2 : Bool) (g : Nat) (f : FN) (a : ApsState),
      apsExists s g2 g = true →
      apsHeld s g2 g = false →
      a = apsOf s g2 g →
      a.fop = true →
      a.fopFn = some f →
      400 ≤ (s.clk.fn - f).toNat →
      exec (.fop g2 g false) s = .next (irqEdge s (raise gProt 4 (protNote 5 (if g2 then 2 else 1) a.st 0 g (putAps g2 g { a with fop := false, fopFn := none } s))))) ∧
  (∀ (s : State) (g2 : Bool) (g : Nat) (st : Nat) (a : ApsState) (t : State),
      apsExists s g2 g = true →
      apsHeld s g2 g = false →
      a = apsOf s g2 g →
      a.wantFn ≠ none →
      a.want = st →
      a.next = none →
      ((a.st = 0 ∧ a.br = 0) ∨ (st = 0 ∧ a.wantBr = 0)) →
      t = applyAps g2 g st a.wantBr (putAps g2 g { a with wantFn := none, st := st, br := a.wantBr } s) →
      exec (.apsSwitch g2 g st) s = .next (irqEdge s (raise gProt 6 (protNote 7 (if g2 then 2 else 1) st 0 g (remapMoves (s.clk.fn + 1) s t))))) ∧
  (∀ (s : State) (g2 : Bool) (g : Nat) (st : Nat) (a : ApsState) (t : State),
      apsExists s g2 g = true →
      apsHeld s g2 g = false →
      a = apsOf s g2 g →
      a.wantFn ≠ none →
      a.want = st →
      a.next = none →
      (a.st ≠ 0 ∨ a.br ≠ 0) →
      (st ≠ 0 ∨ a.wantBr ≠ 0) →
      t = toNormal (apsPorts s g2 g) (putAps g2 g { a with wantFn := none, st := 0, br := 0, next := some (st, a.wantBr), nextFn := s.clk.fn + 1 } s) →
      exec (.apsSwitch g2 g st) s = .next (irqEdge s (raise gProt 6 (protNote 7 (if g2 then 2 else 1) st 0 g (remapMoves (s.clk.fn + 1) s t))))) ∧
  (∀ (s : State) (g2 : Bool) (g : Nat) (st : Nat) (a : ApsState) (t : State),
      apsExists s g2 g = true →
      apsHeld s g2 g = false →
      a = apsOf s g2 g →
      a.wantFn ≠ none →
      a.want = st →
      a.next ≠ none →
      (t = putAps g2 g { a with wantFn := none, next := if st = 0 ∧ a.wantBr = 0 then none else some (st, a.wantBr) } s) →
      exec (.apsSwitch g2 g st) s = .next (irqEdge s (raise gProt 6 (protNote 7 (if g2 then 2 else 1) st 0 g (remapMoves (s.clk.fn + 1) s t)))))

/-- Ten rows of E1 and T1 carriers answer a next state: alignment, multiframes, defects, slips, signalling. The rows
CARRIER_ALIGN_VERIFY, CARRIER_TIE_TIMEOUT, CARRIER_FALSE_LOCK_EXIT, CARRIER_BAR_LAPSE, CARRIER_INTERWORK_FALLBACK,
CARRIER_DEFECT_CHANGE, CARRIER_SLIP, SIG_HOLD_EXPIRY, CARRIER_LOSS_OF_ALIGNMENT and MULTIFRAME_ALIGNMENT. A running
carrier out of alignment with no tie watched takes the one position whose bytes verify and which it may take, or
watches several; after 96 frames it takes the one of the tied positions left that the search reaches first, as
ambiguous when two are left; the errors of a false lock count it and end the alignment, barring the position unless
the mapping is byte-synchronous, an E1 of FRAMING 1 declaring LOMF; bars of 256 frames lapse; a FRAMING 2 carrier that
has found no CRC-4 multiframe for 3,200 frames falls back to the interworking alignment; a defect bit other than LOMF
and TRIB changes when its condition is due; a slip of an aligned carrier is counted and moves its frames by one;
signalling held beyond the hold time goes idle; the errors of a loss of alignment end the alignment and its search for
a multiframe; a multiframe found is held, and ends LOMF when no other is missing. -/
def Obligations.CompletesCarriers : Prop :=
  (∀ (s : State) (car : Nat) (cs : List (Nat × Bytes)) (r : BitVec 128) (vs : List Nat) (p : Nat),
      carRuns s car = true →
      (carOf s car).aligned = false →
      tribBad s car = false →
      (carOf s car).tied = [] →
      r = carRec s car →
      (vs = (cs.filter (fun p => verifies (cT1 r) (isEsf r) p.2 && mayTake s r (carOf s car) p.1)).map (·.1)) →
      vs = [p] →
      exec (.carrierAlignVerify car cs) s = .next (irqEdge s (carTake car p false s))) ∧
  (∀ (s : State) (car : Nat) (cs : List (Nat × Bytes)) (r : BitVec 128) (vs : List Nat) (p : Nat) (q : Nat) (ps : List Nat),
      carRuns s car = true →
      (carOf s car).aligned = false →
      tribBad s car = false →
      (carOf s car).tied = [] →
      r = carRec s car →
      (vs = (cs.filter (fun p => verifies (cT1 r) (isEsf r) p.2 && mayTake s r (carOf s car) p.1)).map (·.1)) →
      vs = p :: q :: ps →
      exec (.carrierAlignVerify car cs) s = .next (irqEdge s (putCar car { carOf s car with tied := vs, tiedFn := s.clk.fn } s))) ∧
  (∀ (s : State) (car : Nat) (left : List Nat) (p : Nat) (ps : List Nat),
      carRuns s car = true →
      (carOf s car).aligned = false →
      96 ≤ (s.clk.fn - (carOf s car).tiedFn).toNat →
      (ps = (carOf s car).tied.filter (fun q => left.contains q)) →
      firstPlace (carRec s car) (carOf s car) ps = some p →
      exec (.carrierTieTimeout car left) s = .next (irqEdge s (carTake car p (decide (2 ≤ ps.length)) s))) ∧
  (∀ (s : State) (car : Nat) (errs : Nat) (total : Nat),
      carRuns s car = true →
      falseLockDue s car errs total = true →
      (cT1 (carRec s car) = true ∨ cFraming (carRec s car) ≠ 1) →
      exec (.carrierFalseLockExit ⟨car, errs, total⟩) s = .next (irqEdge s (bump (96 + car / 1024) 2 1 (carLose car (decide (cMapping (carRec s car) ≠ 1)) s)))) ∧
  (∀ (s : State) (car : Nat) (errs : Nat) (total : Nat),
      carRuns s car = true →
      falseLockDue s car errs total = true →
      cT1 (carRec s car) = false →
      cFraming (carRec s car) = 1 →
      exec (.carrierFalseLockExit ⟨car, errs, total⟩) s = .next (irqEdge s (carDefect car bCarLomf true (bump (96 + car / 1024) 2 1 (carLose car (decide (cMapping (carRec s car) ≠ 1)) s))))) ∧
  (∀ (s : State) (car : Nat),
      exec (.carrierBarLapse car) s = .next (irqEdge s (putCar car { carOf s car with barred := (carOf s car).barred.filter fun b => decide ((s.clk.fn - b.fn).toNat < 256) } s))) ∧
  (∀ (s : State) (car : Nat) (f : FN),
      carRuns s car = true →
      (carOf s car).seek = some f →
      usesCrc4 (carRec s car) = true →
      cFraming (carRec s car) = 2 →
      (carOf s car).aligned = true →
      (carOf s car).mf = false →
      3200 ≤ (s.clk.fn - f).toNat →
      exec (.carrierInterworkFallback car) s = .next (irqEdge s (evalSig car (markPoint car (putCar car { carOf s car with interwork := true, seek := some s.clk.fn } s))))) ∧
  (∀ (s : State) (car : Nat) (b : Nat) (on : Bool) (ev : List Nat),
      carRuns s car = true →
      carDefectDue s car b on ev = true →
      b ≠ bCarLomf →
      b ≠ bTrib →
      exec (.carrierDefectChange car b ⟨on, ev⟩) s = .next (irqEdge s (evalSig car (changeDefect 4 car b on s)))) ∧
  (∀ (s : State) (car : Nat) (d : Bool) (x : CarState),
      carRuns s car = true →
      x = carOf s car →
      x.aligned = true →
      exec (.carrierSlip car d) s = .next (irqEdge s (bump (96 + car / 1024) 0 1 (putCar car { x with slips := x.slips + 1, behind := if d then x.behind - 1 else x.behind + 1 } s)))) ∧
  (∀ (s : State) (car : Nat) (f : FN),
      (carOf s car).sigHold = some f →
      (carOf s car).sigIdle = false →
      800 * cSigHold (carRec s car) ≤ (s.clk.fn - f).toNat →
      exec (.sigHoldExpiry car) s = .next (irqEdge s (putCar car { carOf s car with sigIdle := true } s))) ∧
  (∀ (s : State) (car : Nat) (ev : List Nat) (t : State),
      carRuns s car = true →
      (carOf s car).aligned = true →
      losesAlignment (cT1 (carRec s car)) (isEsf (carRec s car)) (cNfasLoss (carRec s car)) ev = true →
      t = carLose car false s →
      exec (.carrierLossOfAlignment ⟨car, ev⟩) s = .next (irqEdge s (putCar car { carOf t car with seek := none } t))) ∧
  (∀ (s : State) (car : Nat) (ev : List Nat) (t : State),
      carRuns s car = true →
      (carOf s car).aligned = true →
      usesCas (carRec s car) = true →
      casFound ev = true →
      ((carOf s car).mf = true ∨ cFraming (carRec s car) ≠ 1) →
      t = markPoint car (putCar car { carOf s car with casMf := true } s) →
      exec (.multiframeAlignment car ⟨true, ev⟩) s = .next (irqEdge s (carDefect car bCarLomf false t))) ∧
  (∀ (s : State) (car : Nat) (ev : List Nat) (t : State),
      carRuns s car = true →
      (carOf s car).aligned = true →
      usesCrc4 (carRec s car) = true →
      crc4Found s.clk.fn.toNat ev = true →
      usesCas (carRec s car) = false →
      t = markPoint car (putCar car { carOf s car with mf := true, interwork := false, seek := none } s) →
      exec (.multiframeAlignment car ⟨false, ev⟩) s = .next (irqEdge s (carDefect car bCarLomf false t)))

/-- Eight rows of reports, performance bins, counters and PRBS synchronism answer a next state. The rows
DEFECT_EVENT_PERIOD, PM_SECOND_FINAL, PM_BIN_CLOSE, PM_BUFFER_TIMEOUT, PM_SECOND_END, COUNTER_GATHER,
FP_BACKGROUND_CHECK and PRBS_SYNC_CHANGE. At a frame with FN mod 80 = 0, with no selector switch to report, the one
object whose defect set changed gets a DEFECT event with its set, and more than 4,096 changed objects one
DEFECT_OVERFLOW; a second that ended 80,000 frames ago leaves the object, enters its bins and is emitted; a bin closes
10 s after its end when no second is outstanding; the oldest buffer with records is announced after 8,000 frames; at a
new TOD second every measurement is taken up; in a module that has entered its mode and whose frames run the counters
are gathered at FN mod 8 = 0, which raises the generation by 2; a found fingerprint that differs raises
CMEM.ECC_UNCORRECTABLE and is counted; gain or loss of PRBS synchronism with its evidence raises OBS.PRBS. -/
def Obligations.CompletesReports : Prop :=
  (∀ (s : State) (k : Nat),
      s.clk.fn.toNat % 80 = 0 →
      s.dft.dirty = [k] →
      s.prot.switched = [] →
      exec (.defectEventPeriod) s = .next (irqEdge s (post 0x10 [(0, 4, k), (4, 8, (tget 0 s.dft.set k).toNat)] { s with dft := { s.dft with dirty := [] } }))) ∧
  (∀ (s : State),
      s.clk.fn.toNat % 80 = 0 →
      4096 < s.dft.dirty.length →
      s.prot.switched = [] →
      exec (.defectEventPeriod) s = .next (irqEdge s (raise gOvh 5 (post 0x11 [(0, 4, s.dft.dirty.length)] { s with dft := { s.dft with dirty := [] } })))) ∧
  (∀ (s : State) (cls : Nat) (obj : Nat) (x : PmSec) (rest : List PmSec),
      (pmObj s (objKey cls obj)).secs = x :: rest →
      80000 ≤ (s.clk.fn - x.endFn).toNat →
      exec (.pmSecondFinal cls obj) s = .next (irqEdge s (emitRecord 0 cls obj (secRecord cls x) (putPm (objKey cls obj) (binSecond cls x { pmObj s (objKey cls obj) with secs := rest }) s)))) ∧
  (∀ (s : State) (cls : Nat) (obj : Nat) (day : Bool) (e : Nat),
      pmObj s (objKey cls obj) ≠ {} →
      e = binEnd day (if day then (pmObj s (objKey cls obj)).curDay else (pmObj s (objKey cls obj)).cur15).start →
      e + 10 ≤ s.clk.todSec.toNat →
      (pmObj s (objKey cls obj)).secs = [] →
      exec (.pmBinClose cls obj day) s = .next (irqEdge s (closeBin cls obj day { start := e } s))) ∧
  (∀ (s : State) (x : PmBuf) (rest : List PmBuf),
      s.pm.bufs = x :: rest →
      x.written ≠ 0 →
      8000 ≤ (s.clk.fn - x.firstFn).toNat →
      exec (.pmBufferTimeout) s = .next (irqEdge s (announceBuf x { s with pm := { s.pm with bufs := rest } }))) ∧
  (∀ (s : State) (ms : List PmMeas) (t : State),
      s.clk.todSec ≠ 0 →
      s.clk.todSec ≠ s.pm.lastSec →
      t = ms.foldl (measure (s.clk.todSec.toNat - 1) (secondView s)) s →
      exec (.pmSecondEnd ms) s = .next (irqEdge s ({ t with pm := { t.pm with lastSec := s.clk.todSec, suspect := false, seen := s.dft.set, gap := !entered s, failed := [] } }))) ∧
  (∀ (s : State),
      entered s = true →
      framesRun s = true →
      s.clk.fn.toNat % 8 = 0 →
      exec (.counterGather) s = .next (irqEdge s (gather s))) ∧
  (∀ s : State, (gather s).bel.gen = s.bel.gen + 2 ∧ (gather s).bel.gatherFn = s.clk.fn) ∧
  (∀ (s : State) (x : Word64),
      entered s = true →
      s.mode.carried = true →
      x ≠ s.page.liveFp →
      exec (.fpBackgroundCheck x) s = .next (irqEdge s (raise gCmem 3 (bump 116 2 1 s)))) ∧
  (∀ (s : State) (u : Nat) (gain : Bool) (ev : List Bool) (x : PrbsSt) (y : PrbsCfg),
      x = tget {} s.bel.prbs u →
      x.cfg = some y →
      y.ana = true →
      x.inSync ≠ gain →
      prbsEvidence y gain ev = true →
      entered s = true →
      exec (.prbsSyncChange u ⟨gain, ev⟩) s = .next (irqEdge s (obsNote 4 u 0 { s with bel := { s.bel with prbs := tset {} s.bel.prbs u { x with inSync := gain } } })))

/-- Ten rows of the synchronisation block answer a next state. The rows SELECTION_TICK, REF_FAILURE_CONDITION,
REF_HOLD_OFF_EXPIRY, REF_WTR_EXPIRY, ACQ_FAIL, DPLL_LOCKED, SSM_TIMEOUT, SSM_ACCEPT, FREQ_MONITOR_UPDATE and
REF_CONFLICT. A running clock takes one tick in each frame with FN mod 80 = 0: the block settings apply, qualities,
the sample and the ages are taken up, and the choice acts, as choose and actOn say; a condition that the kind of the
slot knows arises as condArises says, or clears as condClears says; a slot whose hold-off has run with a condition
standing fails with TIM.REF_FAIL, and one whose wait to restore has run is restored; an acquisition of 100 s fails its
slot with condition 4, and goes on when that leaves it not failed; a loop whose lock holds, and has held in its last
16,000 frames, is LOCKED; an SSM lapses after 40,000 frames without one; an SSM of a slot that carries it is kept
unless the slot has failed; a frequency measured at a tick is kept as its offset from the base, in steps of 0.01 ppm,
one above the limit being condition 3, one between nine tenths of it and the limit ending the time in window, and one
below clearing the condition after 8,000 frames in window; the state of the mate's clock is noted, and the slots
evaluated; two candidates that tie and conflict are reported and remembered. -/
def Obligations.CompletesTiming : Prop :=
  (∀ (s : State) (t : State),
      s.tim.running = true →
      s.clk.fn.toNat % 80 = 0 →
      s.tim.lastTick ≠ some s.clk.fn →
      t = tickPairs ((List.range 16).foldl tickSince (tickSample ((List.range 16).foldl tickQl (applyBlock (bump 112 0 1 { s with tim := { s.tim with lastTick := some s.clk.fn } }))))) →
      exec (.selectionTick) s = .next (irqEdge s (actOn (choose t ((List.range 16).filter (candidate t))) t))) ∧
  (∀ (s : State) (slot : Nat) (b : Nat),
      slot < 16 →
      ((rKind (slotRec s slot) = 1 ∧ b < 3 ∧ bit (sourceConds s (slotRec s slot)) b = true) ∨ (rKind (slotRec s slot) = 2 ∧ (b = 0 ∨ (b < 3 ∧ bTinMode s.tim.block (rSource (slotRec s slot)) ≠ 0)))) →
      bit (slotSt s slot).conds b = false →
      exec (.refFailureCondition slot b true) s = .next (irqEdge s (condArises slot b s))) ∧
  (∀ (s : State) (slot : Nat) (b : Nat),
      slot < 16 →
      ((rKind (slotRec s slot) = 1 ∧ b < 3 ∧ bit (sourceConds s (slotRec s slot)) b = false) ∨ (rKind (slotRec s slot) = 2 ∧ (b = 0 ∨ (b < 3 ∧ bTinMode s.tim.block (rSource (slotRec s slot)) ≠ 0)))) →
      bit (slotSt s slot).conds b = true →
      exec (.refFailureCondition slot b false) s = .next (irqEdge s (condClears slot b s))) ∧
  (∀ (s : State) (slot : Nat) (on : Bool),
      rKind (slotRec s slot) = 3 →
      exec (.refFailureCondition slot 5 on) s = .next (irqEdge s (evalSlots { s with tim := { s.tim with mateStopped := on } }))) ∧
  (∀ (s : State) (slot : Nat) (f : FN),
      (slotSt s slot).hold = some f →
      800 * rHoldOff (slotRec s slot) ≤ (s.clk.fn - f).toNat →
      (slotSt s slot).conds ≠ 0 →
      exec (.refHoldOffExpiry slot) s = .next (irqEdge s (failSlot slot s))) ∧
  (∀ (s : State) (slot : Nat) (f : FN),
      (slotSt s slot).wtr = some f →
      480000 * rWtr (slotRec s slot) ≤ (s.clk.fn - f).toNat →
      (slotSt s slot).conds = 0 →
      exec (.refWtrExpiry slot) s = .next (irqEdge s (putSlotSt slot { slotSt s slot with failed := false, wtr := none } s))) ∧
  (∀ (s : State) (slot : Nat) (f : FN) (t : State) (u : State),
      s.tim.use = some slot →
      s.tim.switching = some f →
      s.tim.dpll = 1 →
      800000 ≤ (s.clk.fn - f).toNat →
      t = condArises slot 4 (putSlotSt slot { slotSt s slot with failed := true, hold := none } s) →
      u = condClears slot 4 (timNote 6 none 0xFF (stopTracking t)) →
      exec (.acqFail) s = .next (irqEdge s (if (slotSt u slot).failed then u else { startTracking u with tim := { (startTracking u).tim with switching := some u.clk.fn } }))) ∧
  (∀ (s : State),
      s.tim.dpll = 1 →
      lockHolds s = true →
      16000 ≤ s.tim.lockRun →
      exec (.dpllLocked) s = .next (irqEdge s (setDpll 2 { s with tim := { s.tim with switching := none, lockRun := 0 } }))) ∧
  (∀ (s : State) (slot : Nat),
      40000 ≤ (s.clk.fn - (slotSt s slot).ssmFn).toNat →
      exec (.ssmTimeout slot) s = .next (irqEdge s (putSlotSt slot { slotSt s slot with ssm := none } s))) ∧
  (∀ (s : State) (slot : Nat) (code : BitVec 4),
      slot < 16 →
      carriesSsm s (slotRec s slot) = true →
      ((slotSt s slot).failed = false ∨ (slotSt s slot).conds = 0) →
      exec (.ssmAccept slot code) s = .next (irqEdge s (putSlotSt slot { slotSt s slot with ssm := some code, ssmFn := s.clk.fn } s))) ∧
  (∀ (s : State) (slot : Nat) (freq : Int) (off : Int),
      slot < 16 →
      rKind (slotRec s slot) ≠ 0 →
      s.clk.fn.toNat % 80 = 0 →
      off = (freq - freqBase s) / 10000 →
      9 * rFreqLimit (slotRec s slot) < off.natAbs →
      off.natAbs ≤ 10 * rFreqLimit (slotRec s slot) →
      exec (.freqMonitorUpdate slot freq) s = .next (irqEdge s (putSlotSt slot { slotSt s slot with offset := off, inWin := none } s))) ∧
  (∀ (s : State) (slot : Nat) (freq : Int) (off : Int),
      slot < 16 →
      rKind (slotRec s slot) ≠ 0 →
      s.clk.fn.toNat % 80 = 0 →
      off = (freq - freqBase s) / 10000 →
      10 * rFreqLimit (slotRec s slot) < off.natAbs →
      exec (.freqMonitorUpdate slot freq) s = .next (irqEdge s (slotCond slot 3 true (putSlotSt slot { slotSt s slot with offset := off, inWin := none } s)))) ∧
  (∀ (s : State) (slot : Nat) (freq : Int) (off : Int),
      slot < 16 →
      rKind (slotRec s slot) ≠ 0 →
      s.clk.fn.toNat % 80 = 0 →
      off = (freq - freqBase s) / 10000 →
      off.natAbs ≤ 9 * rFreqLimit (slotRec s slot) →
      (slotSt s slot).inWin = none →
      exec (.freqMonitorUpdate slot freq) s = .next (irqEdge s (putSlotSt slot { slotSt s slot with offset := off, inWin := some s.clk.fn } s))) ∧
  (∀ (s : State) (slot : Nat) (freq : Int) (off : Int) (f : FN),
      slot < 16 →
      rKind (slotRec s slot) ≠ 0 →
      s.clk.fn.toNat % 80 = 0 →
      off = (freq - freqBase s) / 10000 →
      off.natAbs ≤ 9 * rFreqLimit (slotRec s slot) →
      (slotSt s slot).inWin = some f →
      8000 ≤ (s.clk.fn - f).toNat →
      exec (.freqMonitorUpdate slot freq) s = .next (irqEdge s (slotCond slot 3 false (putSlotSt slot { slotSt s slot with offset := off, inWin := some f } s)))) ∧
  (∀ (s : State) (i : Nat) (n : Nat),
      s.tim.pairs = [] →
      i < n →
      n < 16 →
      candidate s i = true →
      candidate s n = true →
      slotsTie s i n = true →
      offsetsConflict s i n = true →
      exec (.refConflict i n) s = .next (irqEdge s (timNote 7 (some i) n { s with tim := { s.tim with pairs := [(i, n, none)] } })))

/-- Nine rows of engines, memories and power domains answer a next state. The rows ENGINE_OVERRUN, BANK_SWITCH,
BANK_READY_TIMEOUT, ECC_UNCORRECTABLE, SCRUB_CORRECTION, BANK_REPAIR_DONE, LIVE_ITEM_REWRITE, DOMAIN_ON_DONE and
DOMAIN_FAULT. An overrun of an engine of a running cluster raises ENG.LOAD and is counted, in a row with that of the
frame before; the eighth in a row also faults its cluster. At a boundary a sequence at step 3 switches the next
cluster that is on, as switchBank says; a cluster not ready after 8 frames backs the activation out. An uncorrectable
error in the memory of a core makes a warm reset of memory-error code, in engine data restarts the objects of that
engine, in a live entry loses it as loseItem says, and in the schedule raises CMEM.ECC_UNCORRECTABLE; a scrub
correction in powered engine data raises ENG.ECC_CORRECTED and one in a live entry of a powered bank
CMEM.ECC_CORRECTED, each counted; a repaired bank of a cluster not faulted starts its stopped engines; an item that
the firmware rewrites after mode entry is no longer lost, the schedule only at a boundary. A domain turned on or to
retention reaches its state as reachDomain says, fresh when it was off and, in a cluster that was in retention, with
its objects restarted; one going from off to retention is first on. A fault of PD104, PD108 or PD111 is a RAIL_FAULT
reset; of another domain it loses what the domain held, with PWR.DOMAIN_FAULT, completes what waited for it with
INTERNAL, with the cause internalCause gives when a command was waiting, and checks the taps. -/
def Obligations.CompletesEngines : Prop :=
  (∀ (s : State) (n : Nat) (k : Nat),
      n < 1024 →
      engineRuns s n = true →
      k = (if tget 0 s.eng.overruns n = 0 then 1 else if tget 0 s.eng.overrunFn n = s.clk.fn then tget 0 s.eng.overruns n else if tget 0 s.eng.overrunFn n + 1 = s.clk.fn then tget 0 s.eng.overruns n + 1 else 1) →
      k < 8 →
      exec (.engineOverrun n) s = .next (irqEdge s (raise gEng 3 (bump (32 + n / 32) 1 1 { s with eng := { s.eng with overruns := tset 0 s.eng.overruns n k, overrunFn := tset 0 s.eng.overrunFn n s.clk.fn } })))) ∧
  (∀ (s : State) (n : Nat) (k : Nat) (t : State) (u : State),
      n < 1024 →
      engineRuns s n = true →
      k = (if tget 0 s.eng.overruns n = 0 then 1 else if tget 0 s.eng.overrunFn n = s.clk.fn then tget 0 s.eng.overruns n else if tget 0 s.eng.overrunFn n + 1 = s.clk.fn then tget 0 s.eng.overruns n + 1 else 1) →
      8 ≤ k →
      t = raise gEng 3 (bump (32 + n / 32) 1 1 { s with eng := { s.eng with overruns := tset 0 s.eng.overruns n k, overrunFn := tset 0 s.eng.overrunFn n s.clk.fn } }) →
      u = putCluster (n / 32) { clusterOf t (n / 32) with faulted := true } t →
      exec (.engineOverrun n) s = .next (irqEdge s ({ u with host := { u.host with engCluster := u.host.engCluster ||| place 32 (n / 32) 1 } }))) ∧
  (∀ (s : State) (n : Nat) (a : Activation),
      s.img.act = some a →
      a.step = 3 →
      atBoundaryFrame s = true →
      a.startFn ≠ s.clk.fn →
      s.pwr.pfw = false →
      entered s = true →
      (clustersFrom s a.next).head? = some n →
      exec (.bankSwitch n) s = .next (irqEdge s (switchBank n true { s with img := { s.img with act := some { a with next := n + 1, startFn := s.clk.fn } } }))) ∧
  (∀ (s : State) (n : Nat) (f : FN) (a : Activation),
      (clusterOf s n).awaiting = some f →
      8 ≤ (s.clk.fn - f).toNat →
      entered s = true →
      s.img.act = some a →
      a.step < 7 →
      exec (.bankReadyTimeout n) s = .next (irqEdge s (backOut (some n) { s with eng := { s.eng with cl := s.eng.cl.map fun x => (x.1, { x.2 with awaiting := none }) } }))) ∧
  (∀ (s : State) (n : Nat),
      n < 4 →
      domOn s (108 + n) = true →
      exec (.eccUncorrectable (.mbCore n)) s = .next (irqEdge s (assertWarm 0x10 (raise gBus 1 (bump 108 1 1 s))))) ∧
  (∀ (s : State) (n : Nat),
      n < 1024 →
      domOn s (32 + n / 32) = true →
      exec (.eccUncorrectable (.engineData n)) s = .next (irqEdge s (raise gEng 2 (restartCounted (n / 32) (· == n % 32) s)))) ∧
  (∀ (s : State) (r : Tier) (i : Nat),
      exec (.eccUncorrectable (.liveEntry r i)) s = .next (irqEdge s (loseItem (.liveEntry r i) s))) ∧
  (∀ (s : State),
      exec (.eccUncorrectable .schedule) s = .next (irqEdge s (raise gCmem 3 { s with page := { s.page with schedBad := true } }))) ∧
  (∀ (s : State) (n : Nat),
      n < 1024 →
      domOn s (32 + n / 32) = true →
      exec (.scrubCorrection (.engineData n)) s = .next (irqEdge s (raise gEng 1 (bump (32 + n / 32) 2 1 s)))) ∧
  (∀ (s : State) (r : Tier) (i : Nat),
      domOn s (80 + itemBank (.liveEntry r i)) = true →
      exec (.scrubCorrection (.liveEntry r i)) s = .next (irqEdge s (raise gCmem 2 (bump (80 + itemBank (.liveEntry r i)) 1 1 s)))) ∧
  (∀ (s : State) (n : Nat) (x : ClusterSt),
      entered s = true →
      x = clusterOf s n →
      x.lastBad ≠ none →
      x.faulted = false →
      exec (.bankRepairDone n) s = .next (irqEdge s (restartCounted n (fun e => x.stopped.any fun y => y.1 == e) (putCluster n { x with stopped := [] } s)))) ∧
  (∀ (s : State) (w : MemRef),
      entered s = true →
      w ≠ .schedule →
      exec (.liveItemRewrite w) s = .next (irqEdge s ({ s with page := { s.page with bad := s.page.bad.filter fun x => x != w } }))) ∧
  (∀ (s : State),
      entered s = true →
      atBoundaryFrame s = true →
      exec (.liveItemRewrite .schedule) s = .next (irqEdge s ({ s with page := { s.page with schedBad := false } }))) ∧
  (∀ (s : State) (n : Nat) (x : DomState),
      tfind s.pwr.turning n = some x →
      entered s = true →
      (domRequires n).all (domOn s) = true →
      x ≠ .off →
      domState s n = .off →
      x ≠ .retain →
      exec (.domainOnDone n) s = .next (irqEdge s (reachDomain n x (freshDomain n s)))) ∧
  (∀ (s : State) (n : Nat),
      tfind s.pwr.turning n = some .retain →
      entered s = true →
      (domRequires n).all (domOn s) = true →
      domState s n = .off →
      exec (.domainOnDone n) s = .next (irqEdge s (freshDomain n { s with pwr := { s.pwr with dom := tset .off s.pwr.dom n .on } }))) ∧
  (∀ (s : State) (n : Nat),
      tfind s.pwr.turning n = some .on →
      entered s = true →
      (domRequires n).all (domOn s) = true →
      domState s n ≠ .off →
      (n < 32 ∨ 64 ≤ n) →
      exec (.domainOnDone n) s = .next (irqEdge s (reachDomain n .on s))) ∧
  (∀ (s : State) (n : Nat),
      tfind s.pwr.turning n = some .on →
      entered s = true →
      (domRequires n).all (domOn s) = true →
      domState s n ≠ .off →
      32 ≤ n →
      n < 64 →
      exec (.domainOnDone n) s = .next (irqEdge s (reachDomain n .on (restartObjects (n - 32) (fun _ => true) s)))) ∧
  (∀ (s : State) (n : Nat),
      (n = 104 ∨ n = 108 ∨ n = 111) →
      domState s n ≠ .off →
      exec (.domainFault n) s = .next (irqEdge s (assertCold 2 s))) ∧
  (∀ (s : State) (n : Nat) (t : State),
      n < 112 →
      n ≠ 104 →
      n ≠ 108 →
      n ≠ 111 →
      domState s n ≠ .off →
      ((s.host.waiters.any fun w => match w with | .domain a b _ => a.isSome && b == n | _ => false) = false) →
      t = loseDomain n { s with pwr := { s.pwr with dom := terase s.pwr.dom n, turning := terase s.pwr.turning n } } →
      exec (.domainFault n) s = .next (irqEdge s (tapCheck s (endDomain n stInternal (envNote gPwr 2 t))))) ∧
  (∀ (s : State) (n : Nat) (t : State),
      n < 112 →
      n ≠ 104 →
      n ≠ 108 →
      n ≠ 111 →
      domState s n ≠ .off →
      ((s.host.waiters.any fun w => match w with | .domain a b _ => a.isSome && b == n | _ => false) = true) →
      t = loseDomain n { s with pwr := { s.pwr with dom := terase s.pwr.dom n, turning := terase s.pwr.turning n } } →
      exec (.domainFault n) s = .next (irqEdge s (tapCheck s (endDomain n stInternal (envNote gPwr 2 (internalCause (if 32 ≤ n ∧ n < 64 then some (n - 32) else none) t))))))

/-- Eleven rows of the journal, of updates and of the debug port answer a next state. The rows COMPACTION_START,
COMPACTION_DONE, JOURNAL_FAULT, MANAGEMENT_HANDOVER, HANDOVER_TIMEOUT, MICROCODE_SWITCH, IMAGE_SELF_CONFIRM,
TRIAL_DEADLINE, DEBUG_CHALLENGE, DEBUG_RESPONSE and DEBUG_RESET. At 75 per cent of the journal space left, with no
compaction under way, no power-fail warning and room in the flash, a compaction starts with a snapshot of the live
state at the last number and raises CMEM.JOURNAL_COMPACT; its end stores the snapshot, frees the journal up to its
number, clears the fault and completes what waited for it; a journal fault is noted once with CMEM.JOURNAL_FAULT, and
whether the blocks left are too few is a free value. A handover at step 2 goes on to step 3, with MC3 reset, PD107 and
the clusters in retention woken, and one of the return of the old firmware appends its record and ends it with
UPD.FALLBACK and no rejection left; step 2 not taken up in 16,000 frames backs out. At a boundary step 4 switches the
next quad and step 5 ends the activation. A trial healthy for 240,000 frames is confirmed, and one of 2,400,000 frames
falls back with its IMAGE_CONFIRM timed out, as confirmImage and fallBack say. In FIELD with fewer than 4 failures a
challenge is drawn, a response that fails is counted and ends the challenge, and one that verifies unlocks;
DEBUG_RESET of an opened module is a warm reset. -/
def Obligations.CompletesUpdate : Prop :=
  (∀ (s : State) (n : Nat),
      entered s = true →
      s.mode.mode ≠ .safe →
      compactionDue s = true →
      s.jrn.compaction = none →
      s.pwr.pfw = false →
      s.flash.noRoom = false →
      n = s.jrn.nextSeq - 1 →
      exec (.compactionStart) s = .next (irqEdge s (raise gCmem 4 (journalNote 3 n { s with jrn := { s.jrn with compaction := some { seq := n, snap := snapshotNow n s } } })))) ∧
  (∀ (s : State) (x : Compaction) (t : State),
      s.jrn.compaction = some x →
      s.pwr.pfw = false →
      s.flash.noRoom = false →
      entered s = true →
      (t = { s with flash := { putSnapshot x.snap (snapshotSpill s.draws) s.flash with journal := (putSnapshot x.snap (snapshotSpill s.draws) s.flash).journal.filter fun r => decide (x.seq < r.seq), used := min (putSnapshot x.snap (snapshotSpill s.draws) s.flash).used (Config.compactedBytes s.draws), lostRecord := false }, jrn := { s.jrn with compaction := none, fault := false }, draws := s.draws + 1 }) →
      exec (.compactionDone) s = .next (irqEdge s (endCompact (journalNote 4 x.seq (reprovision t))))) ∧
  (∀ (s : State),
      s.jrn.fault = false →
      entered s = true →
      exec (.journalFault) s = .next (irqEdge s (raise gCmem 5 (journalNote 2 (s.jrn.nextSeq - 1) { s with jrn := { s.jrn with fault := true }, flash := { s.flash with noRoom := s.flash.noRoom || Config.blocksShort s.draws }, draws := s.draws + 1 })))) ∧
  (∀ (s : State) (a : Activation) (m : State),
      s.img.act = some a →
      a.step = 2 →
      s.pwr.pfw = false →
      entered s = true →
      m = restartMc3 s →
      exec (.managementHandover) s = .next (irqEdge s (writeSpares { m with img := { m.img with act := some { step := 3, next := 0, startFn := s.clk.fn } }, pwr := { m.pwr with dom := ((List.range 32).filterMap fun n => if domState s (32 + n) = .retain then some (32 + n) else none).foldl (fun m d => tset .off m d .on) m.pwr.dom } }))) ∧
  (∀ (s : State) (a : Activation),
      s.img.act = some a →
      a.step = 8 →
      s.pwr.pfw = false →
      entered s = true →
      exec (.managementHandover) s = .next (irqEdge s (endFallback (restartMc3 s)))) ∧
  (∀ s : State, restartMc3 s = resetCore 3 { s with pwr := { s.pwr with dom := tset .off s.pwr.dom 107 .on } } ∧
      (endFallback s).img.act = none ∧ (endFallback s).img.fallback = false ∧ (endFallback s).img.rejecting = none) ∧
  (∀ (s : State) (a : Activation),
      s.img.act = some a →
      a.step = 2 →
      16000 ≤ (s.clk.fn - a.startFn).toNat →
      entered s = true →
      exec (.handoverTimeout) s = .next (irqEdge s (backOut none s))) ∧
  (∀ (s : State) (a : Activation) (q : Nat) (qs : List Nat),
      s.img.act = some a →
      a.step = 4 →
      atBoundaryFrame s = true →
      a.startFn ≠ s.clk.fn →
      s.pwr.pfw = false →
      entered s = true →
      quadsFrom s a.next = q :: qs →
      exec (.microcodeSwitch) s = .next (irqEdge s ({ s with img := { s.img with quads := s.img.quads ++ [q], act := some { a with next := q + 1, startFn := s.clk.fn } } }))) ∧
  (∀ (s : State) (a : Activation),
      s.img.act = some a →
      a.step = 5 →
      atBoundaryFrame s = true →
      a.startFn ≠ s.clk.fn →
      s.pwr.pfw = false →
      entered s = true →
      exec (.microcodeSwitch) s = .next (irqEdge s (activationDone s))) ∧
  (∀ (s : State) (f : FN),
      entered s = true →
      s.img.state = 4 →
      s.img.healthy = some f →
      240000 ≤ f.toNat →
      s.pwr.pfw = false →
      exec (.imageSelfConfirm) s = .next (irqEdge s (confirmImage s))) ∧
  (∀ (s : State) (f : FN),
      entered s = true →
      s.img.state = 4 →
      s.img.trialFn = some f →
      2400000 ≤ f.toNat →
      s.pwr.pfw = false →
      exec (.trialDeadline) s = .next (irqEdge s (fallBack (endConfirm stTimeout s)))) ∧
  (∀ (s : State),
      s.bak.lifecycle = 2 →
      s.dbg.fails < 4 →
      exec (.debugChallenge) s = .next (irqEdge s ({ s with dbg := { s.dbg with challenge := some (fit 32 (Config.random s.dbg.draws)), draws := s.dbg.draws + 1 } }))) ∧
  (∀ (s : State) (vk : Bytes) (vs : Bytes) (ck : Bytes) (cs : Bytes) (x : Bytes),
      s.dbg.challenge = some x →
      s.bak.lifecycle = 2 →
      s.dbg.fails < 4 →
      responseOk s x vk vs ck cs = false →
      exec (.debugResponse vk vs ck cs) s = .next (irqEdge s ({ s with dbg := { s.dbg with challenge := none, fails := s.dbg.fails + 1 } }))) ∧
  (∀ (s : State) (vk : Bytes) (vs : Bytes) (ck : Bytes) (cs : Bytes) (x : Bytes),
      s.dbg.challenge = some x →
      s.bak.lifecycle = 2 →
      s.dbg.fails < 4 →
      responseOk s x vk vs ck cs = true →
      exec (.debugResponse vk vs ck cs) s = .next (irqEdge s (unlock s))) ∧
  (∀ (s : State),
      s.dbg.opened = true →
      exec (.debugReset) s = .next (irqEdge s (assertWarm 0x0F s)))

/-- Fifteen rows of resets, releases and the supply answer a next state. The rows POWER_ON, RAIL_FAULT, CLOCK_FAULT,
COLD_PIN, WARM_PIN, GANDER_WARM, GANDER_KICK, GANDER_COLD, THERMAL, COLD_RELEASE, WARM_RELEASE, OPTION_LOAD_RETRY,
TRIM_LOAD_RETRY, XO_CHECK_RETRY and SAFE_RESTART_ENTRY. A rising VIN is noted, with the address pins of the I2C port,
and a falling one asserts a cold reset of code 1 and keeps the BAK contents valid only at 1.8 V of VBAK; a rail fault
of an unswitched rail, or of PD104, PD108 or PD111, asserts code 2, a clock fault of a running clock code 3; COLD_N
and WARM_N assert codes 4 and 5 on their fall and are held while low; a second without a kick in service asserts a
warm reset of code 0x0A and a release of 2 s from step 7 a cold one of code 0x0B; 155 degrees trip with code 0x0C. A
cold reset that nothing holds is released at step 1, with every cause cleared, the BAK check and an interrupted
erasure completed first, and goes on as stepTrim says; a warm reset that nothing holds is released at step 7 as
stepRom says; the retries go on at the step that held the release, a trim or clock check that fails again holding it
there. A restart into SAFE that is due in service enters it with RST.WARM_ENTRY, a MODE_CHANGE and the events that
waited for it, as lateEvents says. -/
def Obligations.CompletesReset : Prop :=
  (∀ (s : State) (pins : BitVec 3),
      exec (.powerOn ⟨true, pins⟩) s = .next (irqEdge s ({ s with rst := { s.rst with vinGood := true }, i2c := { s.i2c with addr := pins } }))) ∧
  (∀ (s : State) (pins : BitVec 3) (t : State),
      t = assertCold 1 s →
      exec (.powerOn ⟨false, pins⟩) s = .next (irqEdge s ({ t with rst := { t.rst with vinGood := false, thermHold := false }, bak := { t.bak with valid := t.bak.valid && decide (1800 ≤ t.pwr.vbak) } }))) ∧
  (∀ (s : State),
      exec (.railFault none) s = .next (irqEdge s (assertCold 2 s))) ∧
  (∀ (s : State) (d : Nat),
      (d = 104 ∨ d = 108 ∨ d = 111) →
      exec (.railFault (some d)) s = .next (irqEdge s (assertCold 2 s))) ∧
  (∀ (s : State) (t : State),
      s.tim.running = true →
      t = assertCold 3 s →
      exec (.clockFault) s = .next (irqEdge s ({ t with rst := { t.rst with xoOk := false } }))) ∧
  (∀ (s : State) (t : State),
      s.rst.coldPin = false →
      t = assertCold 4 s →
      exec (.coldPin true) s = .next (irqEdge s ({ t with rst := { t.rst with coldPin := true } }))) ∧
  (∀ (s : State),
      exec (.coldPin false) s = .next (irqEdge s ({ s with rst := { s.rst with coldPin := false } }))) ∧
  (∀ (s : State) (t : State),
      s.rst.warmPin = false →
      t = assertWarm 5 s →
      exec (.warmPin true) s = .next (irqEdge s ({ t with rst := { t.rst with warmPin := true } }))) ∧
  (∀ (s : State),
      exec (.warmPin false) s = .next (irqEdge s ({ s with rst := { s.rst with warmPin := false } }))) ∧
  (∀ (s : State),
      s.rst.phase = .running →
      8000 ≤ s.rst.kickTicks →
      exec (.ganderWarm) s = .next (irqEdge s (assertWarm 0x0A s))) ∧
  (∀ (s : State),
      exec (.ganderKick) s = .next (irqEdge s ({ s with rst := { s.rst with kickTicks := 0 } }))) ∧
  (∀ (s : State) (f : Nat),
      s.rst.phase ≠ .running →
      s.rst.relTicks = some f →
      16000 ≤ f →
      exec (.ganderCold) s = .next (irqEdge s (assertCold 0x0B s))) ∧
  (∀ (s : State) (t : State),
      1550 ≤ hottest s →
      t = assertCold 0x0C s →
      exec (.thermal) s = .next (irqEdge s ({ t with rst := { t.rst with thermHold := true }, pwr := { t.pwr with tripped := true } }))) ∧
  (∀ (s : State),
      s.rst.phase = .coldAsserted →
      s.rst.vinGood = true →
      s.rst.coldPin = false →
      s.rst.thermHold = false →
      exec (.coldRelease) s = .next (irqEdge s (stepTrim (finishErasure (bakCheck (clearCauses { s with rst := { s.rst with phase := .coldRelease, step := 1, optFailed := false, noImage := false } })))))) ∧
  (∀ (s : State),
      (s.rst.phase = .warmAsserted ∨ s.rst.phase = .warmRelease) →
      s.rst.hold = .none →
      s.rst.warmPin = false →
      exec (.warmRelease) s = .next (irqEdge s (stepRom { s with rst := { s.rst with phase := .warmRelease } }))) ∧
  (∀ (s : State),
      s.rst.phase = .coldRelease →
      s.rst.hold = .option →
      exec (.optionLoadRetry) s = .next (irqEdge s (optionTry s))) ∧
  (∀ (s : State),
      s.rst.phase = .coldRelease →
      s.rst.hold = .trim →
      exec (.trimLoadRetry false) s = .next (irqEdge s ({ s with fuse := { s.fuse with trimOk := false }, rst := { s.rst with step := 1, hold := .trim } }))) ∧
  (∀ (s : State),
      s.rst.phase = .coldRelease →
      s.rst.hold = .trim →
      exec (.trimLoadRetry true) s = .next (irqEdge s (stepOption { s with fuse := { s.fuse with trimOk := true }, rst := { s.rst with step := 2, hold := .none } }))) ∧
  (∀ (s : State),
      s.rst.phase = .coldRelease →
      s.rst.hold = .xo →
      exec (.xoCheckRetry false) s = .next (irqEdge s ({ s with rst := { s.rst with xoOk := false, step := 5, hold := .xo } }))) ∧
  (∀ (s : State) (t : State),
      s.rst.phase = .coldRelease →
      s.rst.hold = .xo →
      t = { s with rst := { s.rst with xoOk := true } } →
      exec (.xoCheckRetry true) s = .next (irqEdge s (stepXo t))) ∧
  (∀ (s : State),
      s.mode.safeRestart = true →
      s.rst.phase = .running →
      s.rst.romOk = true →
      exec (.safeRestartEntry) s = .next (irqEdge s (lateEvents (modeChange s.mode.safeFrom s.mode.safeFn (raise gRst 1 { s with mode := { s.mode with safeRestart := false }, rst := { s.rst with kickTicks := 0 } })))))

/-- POWER_FAIL_WARNING, PFW_CLEAR, VBAK_CHECK, VIN_OVERVOLTAGE, THERMAL_WARN, THERMAL_TRIP_CLEAR and SENSOR_FAULT
answer a next state. A warning from a source that is enabled raises PWR.PFW once, is remembered, and refuses the
commit that R483 names, as refuseOnWarning says; a second one notes its pin only. Its end in a module that has entered
a mode raises PWR.PFW_CLEAR, starts a compaction that was cut short again, writes the first snapshot when it is due
and lets the waiting commands go on. A battery reading is kept, with PWR.VBAK_LOW below 1.8 V; a supply reading is
kept with its marks of 60 V and 80 V; the hottest reading that reaches 140 degrees raises THERM.WARN and one below it,
after that, THERM.WARN_CLEAR; a trip ends below 140 degrees; a reading out of range excludes its sensor with
THERM.SENSOR_FAULT. -/
def Obligations.CompletesEnvironment : Prop :=
  (∀ (s : State) (x : PfwSource),
      pfwEnabled s x = true →
      s.pwr.pfw = false →
      exec (.powerFailWarning x) s = .next (irqEdge s (refuseOnWarning (envNote gPwr 0 { s with pwr := { s.pwr with pfw := true, pfwSeen := true, pfwPin := s.pwr.pfwPin || decide (x = .pin) } })))) ∧
  (∀ (s : State) (x : PfwSource),
      pfwEnabled s x = true →
      s.pwr.pfw = true →
      exec (.powerFailWarning x) s = .next (irqEdge s ({ s with pwr := { s.pwr with pfwPin := s.pwr.pfwPin || decide (x = .pin) } }))) ∧
  (∀ (s : State) (t : State),
      s.pwr.pfw = true →
      entered s = true →
      s.jrn.compaction = none →
      t = envNote gPwr 1 { s with pwr := { s.pwr with pfw := false, pfwPin := false } } →
      exec (.pfwClear) s = .next (irqEdge s (drainHead (initialSnapshot t)))) ∧
  (∀ (s : State) (t : State),
      s.pwr.pfw = true →
      entered s = true →
      s.jrn.compaction ≠ none →
      t = envNote gPwr 1 { s with pwr := { s.pwr with pfw := false, pfwPin := false } } →
      exec (.pfwClear) s = .next (irqEdge s (drainHead (initialSnapshot (startCompaction t))))) ∧
  (∀ (s : State) (mv : Nat),
      1800 ≤ mv →
      exec (.vbakCheck mv) s = .next (irqEdge s ({ s with pwr := { s.pwr with vbak := mv } }))) ∧
  (∀ (s : State) (mv : Nat),
      mv < 1800 →
      exec (.vbakCheck mv) s = .next (irqEdge s (envNote gPwr 3 { s with pwr := { s.pwr with vbak := mv } }))) ∧
  (∀ (s : State) (mv : Nat),
      exec (.vinOvervoltage mv) s = .next (irqEdge s ({ s with pwr := { s.pwr with vin := mv, above60 := decide (60000 < mv), seen80 := s.pwr.seen80 || decide (80000 < mv) } }))) ∧
  (∀ (s : State) (x : Int) (t : State),
      1400 ≤ x →
      t = readHottest x s →
      t.pwr.hot = false →
      exec (.thermalWarn x) s = .next (irqEdge s (envNote gTherm 0 { t with pwr := { t.pwr with hot := true } }))) ∧
  (∀ (s : State) (x : Int) (t : State),
      x < 1400 →
      t = readHottest x s →
      t.pwr.hot = true →
      exec (.thermalWarn x) s = .next (irqEdge s (envNote gTherm 1 { t with pwr := { t.pwr with hot := false } }))) ∧
  (∀ (s : State) (x : Int) (t : State),
      s.rst.thermHold = true →
      x < 1400 →
      t = readHottest x s →
      exec (.thermalTripClear x) s = .next (irqEdge s ({ t with rst := { t.rst with thermHold := false }, pwr := { t.pwr with hot := false } }))) ∧
  (∀ (s : State) (n : Nat) (x : Int),
      n < 12 →
      n ∉ s.pwr.excluded →
      sensorBad s n x = true →
      exec (.sensorFault n x) s = .next (irqEdge s (envNote gTherm 2 { s with pwr := { s.pwr with temps := tset 250 s.pwr.temps n x, excluded := s.pwr.excluded ++ [n] } })))

/-- Eighteen PMBus reads answer a next state. The rows CAPABILITY, STATUS_WORD, STATUS_INPUT, STATUS_TEMPERATURE,
STATUS_CML, STATUS_MFR_SPECIFIC, READ_VIN, READ_IIN, READ_TEMPERATURE_1, READ_PIN, PMBUS_REVISION, MFR_ID, MFR_MODEL,
MFR_REVISION, MFR_SERIAL, MFR_MODULE_STATE, MFR_RESET_HISTORY and MFR_READ_VBAK. Outside the assertion of a cold reset
each read is acknowledged and answers its bytes with their packet error code, and changes nothing else of the state,
but that READ_IIN and READ_PIN take the next free value of the input current. -/
def Obligations.CompletesPmbusReads : Prop :=
  (∀ (s : State) (pec : Pec),
      s.rst.phase ≠ .coldAsserted →
      exec (.capability pec) s = .next (irqEdge s ({ s with i2c := { s.i2c with acked := true, reply := ([0xC0]) ++ [readPec s 0x19 ([0xC0])] } }))) ∧
  (∀ (s : State) (pec : Pec),
      s.rst.phase ≠ .coldAsserted →
      exec (.statusWord pec) s = .next (irqEdge s ({ s with i2c := { s.i2c with acked := true, reply := (toLE 2 (statusWordOf s)) ++ [readPec s 0x79 (toLE 2 (statusWordOf s))] } }))) ∧
  (∀ (s : State) (pec : Pec),
      s.rst.phase ≠ .coldAsserted →
      exec (.statusInput pec) s = .next (irqEdge s ({ s with i2c := { s.i2c with acked := true, reply := (toLE 1 (statusInput s)) ++ [readPec s 0x7C (toLE 1 (statusInput s))] } }))) ∧
  (∀ (s : State) (pec : Pec),
      s.rst.phase ≠ .coldAsserted →
      exec (.statusTemperature pec) s = .next (irqEdge s ({ s with i2c := { s.i2c with acked := true, reply := (toLE 1 (statusTemperature s)) ++ [readPec s 0x7D (toLE 1 (statusTemperature s))] } }))) ∧
  (∀ (s : State) (pec : Pec),
      s.rst.phase ≠ .coldAsserted →
      exec (.statusCml pec) s = .next (irqEdge s ({ s with i2c := { s.i2c with acked := true, reply := ([s.i2c.cml]) ++ [readPec s 0x7E ([s.i2c.cml])] } }))) ∧
  (∀ (s : State) (pec : Pec),
      s.rst.phase ≠ .coldAsserted →
      exec (.statusMfrSpecific pec) s = .next (irqEdge s ({ s with i2c := { s.i2c with acked := true, reply := (toLE 1 (statusMfr s)) ++ [readPec s 0x80 (toLE 1 (statusMfr s))] } }))) ∧
  (∀ (s : State) (pec : Pec),
      s.rst.phase ≠ .coldAsserted →
      exec (.readVin pec) s = .next (irqEdge s ({ s with i2c := { s.i2c with acked := true, reply := (reading s.pwr.vin) ++ [readPec s 0x88 (reading s.pwr.vin)] } }))) ∧
  (∀ (s : State) (pec : Pec) (i : Nat) (t : State),
      s.rst.phase ≠ .coldAsserted →
      i = Config.inputPower s.draws →
      t = { s with draws := s.draws + 1 } →
      exec (.readIin pec) s = .next (irqEdge s ({ t with i2c := { t.i2c with acked := true, reply := (reading i) ++ [readPec t 0x89 (reading i)] } }))) ∧
  (∀ (s : State) (pec : Pec),
      s.rst.phase ≠ .coldAsserted →
      exec (.readTemperature1 pec) s = .next (irqEdge s ({ s with i2c := { s.i2c with acked := true, reply := (reading (100 * hottest s)) ++ [readPec s 0x8D (reading (100 * hottest s))] } }))) ∧
  (∀ (s : State) (pec : Pec) (i : Nat) (t : State),
      s.rst.phase ≠ .coldAsserted →
      i = Config.inputPower s.draws →
      t = { s with draws := s.draws + 1 } →
      exec (.readPin pec) s = .next (irqEdge s ({ t with i2c := { t.i2c with acked := true, reply := (reading ((i * s.pwr.vin / 1000 : Nat) : Int)) ++ [readPec t 0x97 (reading ((i * s.pwr.vin / 1000 : Nat) : Int))] } }))) ∧
  (∀ (s : State) (pec : Pec),
      s.rst.phase ≠ .coldAsserted →
      exec (.pmbusRevision pec) s = .next (irqEdge s ({ s with i2c := { s.i2c with acked := true, reply := ([0x33]) ++ [readPec s 0x98 ([0x33])] } }))) ∧
  (∀ (s : State) (pec : Pec),
      s.rst.phase ≠ .coldAsserted →
      exec (.mfrId pec) s = .next (irqEdge s ({ s with i2c := { s.i2c with acked := true, reply := (block (ascii "GELFIRIL")) ++ [readPec s 0x99 (block (ascii "GELFIRIL"))] } }))) ∧
  (∀ (s : State) (pec : Pec),
      s.rst.phase ≠ .coldAsserted →
      exec (.mfrModel pec) s = .next (irqEdge s ({ s with i2c := { s.i2c with acked := true, reply := (block (ascii "PHK-2548-LA")) ++ [readPec s 0x9A (block (ascii "PHK-2548-LA"))] } }))) ∧
  (∀ (s : State) (pec : Pec),
      s.rst.phase ≠ .coldAsserted →
      exec (.mfrRevision pec) s = .next (irqEdge s ({ s with i2c := { s.i2c with acked := true, reply := (block (Config.revisionText s.fuse.silicon s.img.version)) ++ [readPec s 0x9B (block (Config.revisionText s.fuse.silicon s.img.version))] } }))) ∧
  (∀ (s : State) (pec : Pec),
      s.rst.phase ≠ .coldAsserted →
      exec (.mfrSerial pec) s = .next (irqEdge s ({ s with i2c := { s.i2c with acked := true, reply := (block (fit 16 s.fuse.serial)) ++ [readPec s 0x9E (block (fit 16 s.fuse.serial))] } }))) ∧
  (∀ (s : State) (pec : Pec),
      s.rst.phase ≠ .coldAsserted →
      exec (.mfrModuleState pec) s = .next (irqEdge s ({ s with i2c := { s.i2c with acked := true, reply := (block (moduleState s)) ++ [readPec s 0xD0 (block (moduleState s))] } }))) ∧
  (∀ (s : State) (pec : Pec),
      s.rst.phase ≠ .coldAsserted →
      exec (.mfrResetHistory pec) s = .next (irqEdge s ({ s with i2c := { s.i2c with acked := true, reply := (block (toLE 4 s.bak.total.toNat ++ [s.bak.last, 0, 0, 0])) ++ [readPec s 0xD2 (block (toLE 4 s.bak.total.toNat ++ [s.bak.last, 0, 0, 0]))] } }))) ∧
  (∀ (s : State) (pec : Pec),
      s.rst.phase ≠ .coldAsserted →
      exec (.mfrReadVbak pec) s = .next (irqEdge s ({ s with i2c := { s.i2c with acked := true, reply := (reading s.pwr.vbak) ++ [readPec s 0xD3 (reading s.pwr.vbak)] } })))

/-- CLEAR_FAULTS, MFR_RESET and I2C_INVALID_COMMAND answer a next state. Outside the assertion of a cold reset:
CLEAR_FAULTS without a wrong packet error code clears the latched status bits and leaves the marks of what still
stands; MFR_RESET with a right packet error code and one of its two keys asserts the cold reset of code 8 or the warm
one of code 9; with another key it sets bit 6 of STATUS_CML, and without a right packet error code bit 5; CLEAR_FAULTS
with a wrong one sets bit 5; an unknown command sets bit 7 and bad data bit 6. Each is acknowledged. -/
def Obligations.CompletesPmbusWrites : Prop :=
  (∀ (s : State) (pec : Pec),
      s.rst.phase ≠ .coldAsserted →
      pec ≠ .wrong →
      exec (.clearFaults pec) s = .next (irqEdge s ({ s with i2c := { s.i2c with acked := true, reply := [], cml := 0 }, pwr := { s.pwr with tripped := false, seen80 := decide (80000 < s.pwr.vin), pfwSeen := s.pwr.pfw } }))) ∧
  (∀ (s : State),
      s.rst.phase ≠ .coldAsserted →
      exec (.clearFaults .wrong) s = .next (irqEdge s ({ s with i2c := { s.i2c with acked := true, reply := [], cml := putBit s.i2c.cml 5 true } }))) ∧
  (∀ (s : State) (key : Word32),
      s.rst.phase ≠ .coldAsserted →
      key = 0x5AFEC01D →
      exec (.mfrReset .correct key) s = .next (irqEdge s (assertCold 8 { s with i2c := { s.i2c with acked := true, reply := [] } }))) ∧
  (∀ (s : State) (key : Word32),
      s.rst.phase ≠ .coldAsserted →
      key = 0x5AFE3A53 →
      exec (.mfrReset .correct key) s = .next (irqEdge s (assertWarm 9 { s with i2c := { s.i2c with acked := true, reply := [] } }))) ∧
  (∀ (s : State) (pec : Pec) (key : Word32),
      s.rst.phase ≠ .coldAsserted →
      pec ≠ .correct →
      exec (.mfrReset pec key) s = .next (irqEdge s ({ s with i2c := { s.i2c with acked := true, reply := [], cml := putBit s.i2c.cml 5 true } }))) ∧
  (∀ (s : State) (key : Word32),
      s.rst.phase ≠ .coldAsserted →
      key ≠ 0x5AFEC01D →
      key ≠ 0x5AFE3A53 →
      exec (.mfrReset .correct key) s = .next (irqEdge s ({ s with i2c := { s.i2c with acked := true, reply := [], cml := putBit s.i2c.cml 6 true } }))) ∧
  (∀ (s : State) (bad : Bool),
      s.rst.phase ≠ .coldAsserted →
      exec (.i2cInvalidCommand bad) s = .next (irqEdge s ({ s with i2c := { s.i2c with acked := true, reply := [], cml := putBit s.i2c.cml (if bad then 6 else 7) true } })))

/-- A step takes the row at the front of the queue. When a row c stands at the front of the queue, a step is the
effect of c on the state whose queue is the rest. That there is a queue, first in, first out, is the choice of entry 1
of the assumption log. -/
def Obligations.StepRunsFront : Prop :=
  ∀ (c : Instr) (s : State) (rest : List Instr), s.pending = c :: rest →
    Sys2Proof.Machine.step s = exec c { s with pending := rest }

/-- A step on an empty queue changes nothing. With no row waiting, a step answers the state unchanged. This is the
choice of entry 1 of the assumption log. -/
def Obligations.StepIdles : Prop :=
  ∀ s : State, s.pending = [] → Sys2Proof.Machine.step s = .next s

/-- What the module holds right after reset. Right after power-on the cold reset is asserted, the mode is BOOT, FN and
the TOD are 0, LOCK is clear, the rings are disabled at position 0, both pages are empty, the vector is masked, group
18 has enables 3 and TOP_ENABLE is 0x40000. That the state starts at POWER_ON is the choice of entry 4 of the
assumption log. -/
def Obligations.ResetValues : Prop :=
  State.reset.rst.phase = .coldAsserted ∧ State.reset.mode.mode = .boot ∧ State.reset.clk.fn = 0 ∧ State.reset.clk.todSec = 0 ∧
    State.reset.host.lock = false ∧ State.reset.host.cmd.en = false ∧ State.reset.host.cpl.en = false ∧
    State.reset.host.evt.en = false ∧ State.reset.host.cmd.pos = 0 ∧ State.reset.host.cpl.pos = 0 ∧ State.reset.host.evt.pos = 0 ∧
    State.reset.page.live = Page.empty ∧ State.reset.page.staged = { Page.empty with epoch := 1 } ∧
    State.reset.host.vecMask = true ∧ State.reset.host.topEnable = 0x40000 ∧ tget 0 State.reset.host.enables 18 = 3 ∧
    State.reset.bak.last = 1

/-- The state right after reset is sound. Right after reset the host memory is in its canonical form, no event waits
and the audit log is empty. What an unlisted byte of the host memory reads as is the choice of entry 8 of the
assumption log. -/
def Obligations.ResetIsSound : Prop :=
  Sound State.reset

/-- Every step keeps the state sound. Whatever row is taken, from every sound state a step leads to a sound state: the
host memory stays in its canonical form, the event queue never exceeds its 8,192 entries and the audit log its 4,096.
-/
def Obligations.StepKeepsSound : Prop :=
  ∀ s t : State, Sound s → Sys2Proof.Machine.step s = .next t → Sound t

/-- No step takes back a fuse or a number of the audit log. Whatever row is taken, in every state: the anti-rollback
counter never falls, PROVISIONED, FIELD and RETIRED once fused stay fused, and the SEQ of the audit log never goes
back; cold resets, fallbacks, debug access and erasure are no exception. -/
def Obligations.StepGoesForward : Prop :=
  ∀ s t : State, Sys2Proof.Machine.step s = .next t → Forward s t

/-- Every row completes and leaves the queue to the step. In every state every row answers a next state, whose queue
is the queue of the state before. -/
def Obligations.RowsComplete : Prop :=
  ∀ (c : Instr) (s : State), ∃ t, exec c s = .next t ∧ t.pending = s.pending

/-- A LEN that is not of the row is answered BAD_LENGTH. For every command of the ring: when its entry is at the head
and its LEN is none that chapter 13 gives for it, its one effect is a completion with BAD_LENGTH, RESULT 0, whatever
its arguments, the mode and its object; the commands behind it stay, those without a row at the head drained. -/
def Obligations.WrongLength : Prop :=
  ∀ (i : Instr) (r : RingRow) (s : State) (pos : Nat) (rest : List Fetched),
    ringRow i = some r → r.fits = true →
    s.host.fetched = { opcode := r.opcode, entry := r.entry, pos := pos } :: rest → mayBegin s = true → waitingCount s < 64 →
    r.entry.len.toNat ∉ r.lens →
    exec i s = .next (irqEdge s (drainBad (complete (tokenOf r.opcode r.entry pos) stBadLength 0 0 s) rest))

/-- A mode that does not execute a command refuses it. For every command of the ring: in a mode without a Y in its row
of R34, its one effect is a completion with BAD_LENGTH, BAD_ARGUMENT or WRONG_MODE (the checks before the mode come
first); nothing else of the module changes. -/
def Obligations.WrongMode : Prop :=
  ∀ (i : Instr) (r : RingRow) (s : State) (pos : Nat) (rest : List Fetched),
    ringRow i = some r → r.fits = true →
    s.host.fetched = { opcode := r.opcode, entry := r.entry, pos := pos } :: rest → mayBegin s = true → waitingCount s < 64 →
    s.mode.mode ∉ r.modes →
    ∃ st result, (st = stBadLength ∨ st = stBadArgument ∨ st = stWrongMode) ∧
      exec i s = .next (irqEdge s (drainBad (complete (tokenOf r.opcode r.entry pos) st 0 result s) rest))

/-- Commands begin in ring order. A command whose entry is not at the head of the fetched commands changes nothing: it
neither executes nor completes. -/
def Obligations.NotAtHead : Prop :=
  ∀ (i : Instr) (r : RingRow) (s : State), ringRow i = some r →
    (∀ f rest, s.host.fetched = f :: rest → f.opcode ≠ r.opcode ∨ f.entry ≠ r.entry) → exec i s = .next s

/-- No command begins in BOOT, behind a SET_MODE or behind the rejection of a trial. From a reset or a restart until
mode entry, while a SET_MODE awaits its frame and while an IMAGE_REJECT in trial awaits the old image, a command of
the ring changes nothing. -/
def Obligations.NothingBeginsInReset : Prop :=
  ∀ (i : Instr) (r : RingRow) (s : State), ringRow i = some r → mayBegin s = false → exec i s = .next s

/-- The first check that fails decides. An entry whose LEN is accepted and whose flags or arguments fail is answered
BAD_ARGUMENT whatever the mode; with those good, a bad LENGTH of a buffer BAD_LENGTH; then the mode; then, in SAFE, a
RETIRED module WRONG_STATE 7; and only then what its object refuses. -/
def Obligations.FirstCheckDecides : Prop :=
  ∀ (s : State) (c : CmdEntry) (k : Checks), c.len.toNat ∈ k.lens →
    (k.argsOk = false → verdict s c k = some (stBadArgument, 0, k.argsRes)) ∧
    (argsWithin c k.fields = false → verdict s c k = some (stBadArgument, 0, k.argsRes)) ∧
    (c.flags.toNat < 2 → argsWithin c k.fields = true → k.argsOk = true →
      (k.lengthOk = false → verdict s c k = some (stBadLength, 0, 0)) ∧
      (k.lengthOk = true → s.mode.mode ∉ k.modes → verdict s c k = some (stWrongMode, 0, 0)) ∧
      (k.lengthOk = true → s.mode.mode ∈ k.modes → k.modeOk = true →
        ¬(s.mode.mode = .safe ∧ s.bak.lifecycle = 4 ∧ k.retiredToo = false) → verdict s c k = k.object) ∧
      (k.lengthOk = true → s.mode.mode ∈ k.modes → k.modeOk = true →
        (s.mode.mode = .safe ∧ s.bak.lifecycle = 4 ∧ k.retiredToo = false) → verdict s c k = some (stWrongState, 7, 0)))

/-- What a completion changes. A completion takes its place behind those that wait; besides the queue of completions
it leaves the rings, the causes, host memory and every other part of the module as they are. -/
def Obligations.CommandFrame : Prop :=
  ∀ (tok : CmdTok) (st obj : Byte) (result : Word64) (s t : State), t = complete tok st obj result s →
    t.host.cplQ = s.host.cplQ ++ [{ tok := tok, status := st, obj := obj, result := result }] ∧
    t = { s with host := { s.host with cplQ := t.host.cplQ } }

/-- LOCK makes the RWL fields read only. With LOCK set, no REGISTER_WRITE, RING_ENABLE, RING_DISABLE, TOP_SETUP_LOCK
or OVF_CLEAR, at any offset and of any value, changes a ring base, size or enable, USER_EN, MC_EXPOSE, HOST_CH or an
alias window, and LOCK stays set. -/
def Obligations.LockHolds : Prop :=
  ∀ (s t : State) (off : Nat) (v : Word32) (r : RingId), s.host.lock = true →
    ∀ c ∈ [Instr.registerWrite off v, .ringEnable r v, .ringDisable r v, .topSetupLock v, .ovfClear v], exec c s = .next t →
    t.host.lock = true ∧ t.host.cmd.base = s.host.cmd.base ∧ t.host.cmd.size = s.host.cmd.size ∧ t.host.cmd.en = s.host.cmd.en ∧
    t.host.cpl.base = s.host.cpl.base ∧ t.host.cpl.size = s.host.cpl.size ∧ t.host.cpl.en = s.host.cpl.en ∧
    t.host.evt.base = s.host.evt.base ∧ t.host.evt.size = s.host.evt.size ∧ t.host.evt.en = s.host.evt.en ∧
    t.host.userEn = s.host.userEn ∧ t.host.mcExpose = s.host.mcExpose ∧ t.host.hostCh = s.host.hostCh ∧
    t.host.winCtrl = s.host.winCtrl ∧ t.host.winBase = s.host.winBase

/-- The global slot number. A global slot number is 192 times the port plus the slot; it runs from 0 to 49,151, and
two slots never share one. -/
def Obligations.GlobalSlot : Prop :=
  (∀ fp slot : Nat, gsOf fp slot = fp * 192 + slot) ∧ (∀ fp slot : Nat, fp < 256 → slot < 192 → gsOf fp slot ≤ 49151) ∧
    (∀ fp slot fp' slot' : Nat, slot < 192 → slot' < 192 → gsOf fp slot = gsOf fp' slot' → fp = fp' ∧ slot = slot') ∧
    (∀ g : Nat, g ≤ 49151 → ∃ fp slot, fp < 256 ∧ slot < 192 ∧ gsOf fp slot = g)

/-- After a swap the staged page is the new live page. From the frame of a swap the staged page equals the new live
page in its entries, carrier table and quiesce map, and its epoch is the live epoch plus one; in a series of parts
that has more to come, the staged page keeps the final target, its epoch again the live epoch plus one. -/
def Obligations.SwapRenewsStaged : Prop :=
  ∀ (s t : State) (j : CommitJob), t = swapPage s j →
    (j.parts.length ≤ 1 → t.page.staged = { t.page.live with epoch := t.page.live.epoch + 1 }) ∧
    (1 < j.parts.length → t.page.staged = { s.page.staged with epoch := t.page.live.epoch + 1 })

/-- The leg a selector delivers. In each evaluation the leg is that of the highest request that stands: lockout A,
SF-B A, forced switch B, SF-A B, SD-B A, SD-A B, manual switches, wait to restore B; with no request it is A for a
revertive selector, else the leg of the evaluation before. The conditions are those last recognised. -/
def Obligations.SelectorPriority : Prop :=
  ∀ (m s : State) (t : Tier) (i : Nat) (e : Word64) (old x : SelState) (req : Nat), x = evalSel m s t i e old →
    req = (match extHeld s (selKey t i) with | some h => h.req.toNat | none => 0) →
    x.leg = (if req = 1 then .a else if x.condB = .sf then .a else if req = 2 then .b else if x.condA = .sf then .b
      else if x.condB = .sd then .a else if x.condA = .sd then .b else if req = 4 then .a else if req = 3 then .b
      else if x.wtr.isSome then .b else if revertive s e then .a else old.leg)

/-- OBS.AUDIT_HIGH. Adding an audit entry raises OBS.AUDIT_HIGH exactly when the SEQ of the new entry exceeds the
highest SEQ returned by more than 3,072 and the cause has not been raised since the newest entry was last returned; an
AUDIT_READ that returns the newest entry lets it be raised again, and no other does. -/
def Obligations.AuditHigh : Prop :=
  (∀ (s : State) (a : Audit), s.bel.auditHigh = false → s.bel.auditRead + 3072 < a.seq + 1 →
      bit (tget 0 (auditAdd a s).host.causes gObs) 2 = true ∧ (auditAdd a s).bel.auditHigh = true) ∧
    (∀ (s : State) (a : Audit), s.bel.auditHigh = true ∨ a.seq + 1 ≤ s.bel.auditRead + 3072 →
      (auditAdd a s).host.causes = s.host.causes ∧ (auditAdd a s).bel.auditHigh = s.bel.auditHigh) ∧
    (∀ (s : State) (first n : Nat), s.bel.auditRead ≤ auditNewest s + 1 →
      (auditSeen first n s).bel.auditRead = max s.bel.auditRead (min (first + n) (auditNewest s + 1)) ∧
      ((auditSeen first n s).bel.auditHigh = true ↔
        s.bel.auditHigh = true ∧ s.bel.auditRead < auditNewest s + 1 ∧ first + n < auditNewest s + 1))

/-- What a cold reset leaves. A cold reset counts its cause (up to 255) and the total, records the cause, goes to BOOT
with both pages empty, FN, TOD and LOCK cleared, the three rings disabled, and no command fetched, scheduled or
waiting, no completion and no event left; fuses and the flash but its marks stay, and the queue of rows. -/
def Obligations.ColdReset : Prop :=
  ∀ (s t : State) (cause : Nat), cause < 256 → t = assertCold cause s →
    t.rst.phase = .coldAsserted ∧ t.mode.mode = .boot ∧ t.page.live = Page.empty ∧ t.page.staged = { Page.empty with epoch := 1 } ∧
    t.clk.fn = 0 ∧ t.clk.todSec = 0 ∧ t.clk.todNs = 0 ∧ t.host.lock = false ∧
    t.host.cmd.en = false ∧ t.host.cpl.en = false ∧ t.host.evt.en = false ∧ t.host.fetched = [] ∧ t.host.cplQ = [] ∧
    t.host.evtQ = [] ∧ t.host.sched = [] ∧ t.host.waiters = [] ∧ t.bak.last = BitVec.ofNat 8 cause ∧
    t.bak.total = (if s.bak.total = 0xFFFFFFFF then s.bak.total else s.bak.total + 1) ∧
    tget 0 t.bak.counts cause = (if tget 0 s.bak.counts cause = 255 then 255 else tget 0 s.bak.counts cause + 1) ∧
    (∀ k, k ≠ cause → tget 0 t.bak.counts k = tget 0 s.bak.counts k) ∧
    t.fuse = s.fuse ∧ t.flash = { s.flash with reprovReset := t.flash.reprovReset } ∧ t.pending = s.pending

/-- What a warm reset keeps. A warm reset of a module in service keeps the live page, its fingerprint and its
schedule, FN, the synchronisation block, the selectors and remap versions, the domains, the options and the flash; it
returns the staged page to OPEN unless it is FINAL, clears LOCK and the rings, goes to BOOT and records its cause. -/
def Obligations.WarmReset : Prop :=
  ∀ (s t : State) (cause : Nat), s.rst.phase = .running → t = assertWarm cause s →
    t.rst.phase = .warmAsserted ∧ t.mode.mode = .boot ∧ t.page.live = s.page.live ∧ t.page.liveFp = s.page.liveFp ∧ t.page.sched = s.page.sched ∧
    t.page.staged = s.page.staged ∧ t.page.state = (if s.page.state = .final then .final else .opened) ∧ t.clk = s.clk ∧
    t.tim = s.tim ∧ t.prot = s.prot ∧ t.pwr = s.pwr ∧ t.rst.opts = s.rst.opts ∧ t.flash = s.flash ∧ t.fuse = s.fuse ∧
    t.host.lock = false ∧ t.host.cmd = {} ∧ t.host.cpl = {} ∧ t.host.evt = {} ∧ t.bak.last = BitVec.ofNat 8 cause

/-- A COUNT wraps modulo 2^48 and sets its OVF. Adding n to a block counter makes its COUNT the sum modulo 2^48 and
its OVF set if it was set or the sum reaches 2^48; every other counter stays. -/
def Obligations.CounterWraps : Prop :=
  ∀ (b c n : Nat) (s t : State) (w v : Word64), t = bump b c n s → w = tget 0 s.bel.ctr (4 * b + c) → v = tget 0 t.bel.ctr (4 * b + c) →
    fld v 0 48 = (fld w 0 48 + n) % 2 ^ 48 ∧ bit v 63 = (bit w 63 || decide (2 ^ 48 ≤ fld w 0 48 + n)) ∧
    ∀ k, k ≠ 4 * b + c → tget 0 t.bel.ctr k = tget 0 s.bel.ctr k

/-- The event queue. Before mode entry an event is lost. After it, it consumes a SEQ; with room it goes to the tail of
the queue with its SEQ, mode and frame; with 8,192 queued the queue stays, the first discard takes its place behind
them with its SEQ and a count of 1, and each further one adds to the count and moves the last FN. -/
def Obligations.EventQueue : Prop :=
  ∀ (code : Byte) (fn : FN) (p : BitVec 160) (s t : State), t = postAt code fn p s →
    (entered s = false → t = s) ∧
    (entered s = true → t.host.evtSeq = s.host.evtSeq + 1 ∧
      (s.host.evtQ.length < 8192 → t.host.evtQ = s.host.evtQ ++ [{ code := code, mode := s.mode.mode, seq := s.host.evtSeq, fn := fn, payload := p }] ∧
        t.host.lost = s.host.lost) ∧
      (8192 ≤ s.host.evtQ.length → t.host.evtQ = s.host.evtQ ∧
        (s.host.lost = none → t.host.lost = some (8192, { seq := s.host.evtSeq, mode := s.mode.mode, count := 1, first := fn, last := fn })) ∧
        ∀ n l, s.host.lost = some (n, l) → t.host.lost = some (n, { l with count := l.count + 1, last := fn })))

/-- COMPLETION_WRITE stores 32 bytes and no other. When a completion is written, the 32 bytes at its ring position
hold it and every other byte of the host memory reads as before; nothing else of the module changes but the queue, the
held slots, the position of the ring, the cause CPL.WRITTEN and the message that mirrors the interrupt. -/
def Obligations.CompletionFrame : Prop :=
  ∀ (s t : State) (q : Cpl) (rest : List Cpl), s.host.cplQ = q :: rest → ringTakes s s.host.cpl = true → exec .completionWrite s = .next t →
    (∀ a, a < ringAddr s.host.cpl ∨ ringAddr s.host.cpl + 32 ≤ a → memByte t.host.mem a = memByte s.host.mem a) ∧
    (∀ k, k < 32 → memByte t.host.mem (ringAddr s.host.cpl + k) = (cplBytes s q).getD k 0) ∧
    t = { s with host := { s.host with
      mem := t.host.mem, cplQ := rest, held := s.host.held - 1, cpl := { s.host.cpl with pos := ringNext s.host.cpl },
      causes := tset 0 s.host.causes gCpl (tget 0 s.host.causes gCpl ||| 1), msixSent := t.host.msixSent, pend := t.host.pend } }

/-- I2C is not acknowledged while a cold reset is asserted. While a cold reset is asserted no PMBus transaction is
acknowledged: whichever command is sent, nothing is replied and nothing else changes, but that READ_IIN and READ_PIN
take the next free value of the input current. -/
def Obligations.I2cSilent : Prop :=
  ∀ (s : State) (pec : Pec) (key : Word32) (bad : Bool), s.rst.phase = .coldAsserted →
    (∀ c ∈ [Instr.capability pec, .statusWord pec, .statusInput pec, .statusTemperature pec, .statusCml pec, .statusMfrSpecific pec,
      .readVin pec, .readTemperature1 pec, .pmbusRevision pec, .mfrId pec, .mfrModel pec, .mfrRevision pec, .mfrSerial pec,
      .mfrModuleState pec, .mfrResetHistory pec, .mfrReadVbak pec, .clearFaults pec, .mfrReset pec key, .i2cInvalidCommand bad],
      exec c s = .next { s with i2c := { s.i2c with acked := false, reply := [] } }) ∧
    ∀ c ∈ [Instr.readIin pec, .readPin pec],
      exec c s = .next { s with draws := s.draws + 1, i2c := { s.i2c with acked := false, reply := [] } }
end

