-- ==== Sys2Proof/Laws/Table.lean ====
section
/-! SUPPORT. What a table holds after a write, and that every operation over a table or over the host's memory keeps its
canonical form. -/
namespace Sys2Proof.Laws
open Sys2Proof.Machine

variable {α : Type}

theorem tfind_terase (m : SMap α) (k j : Nat) : tfind (terase m k) j = if j = k then none else tfind m j := by
  induction m with
  | nil => simp [terase, tfind]
  | cons x m ih =>
    obtain ⟨k', v⟩ := x
    by_cases h1 : k' = k <;> by_cases h2 : j = k <;> by_cases h3 : k' = j <;> simp_all [terase, tfind]

theorem tfind_tinsert (m : SMap α) (k j : Nat) (v : α) : tfind (tinsert m k v) j = if j = k then some v else tfind m j := by
  induction m with
  | nil => by_cases h : k = j <;> simp_all [tinsert, tfind, eq_comm]
  | cons x m ih =>
    obtain ⟨k', v'⟩ := x
    unfold tinsert
    by_cases h1 : k < k'
    · rw [if_pos h1]
      by_cases h2 : j = k <;> simp_all [tfind, eq_comm]
    · rw [if_neg h1]
      by_cases h4 : k = k'
      · rw [if_pos h4]
        by_cases h2 : j = k <;> simp_all [tfind, eq_comm]
      · rw [if_neg h4]
        by_cases h2 : j = k <;> by_cases h3 : k' = j <;> simp_all [tfind, eq_comm]

/-- The key written holds the value written. -/
theorem tget_tset_same [DecidableEq α] (d : α) (m : SMap α) (k : Nat) (v : α) : tget d (tset d m k v) k = v := by
  unfold tget tset
  split
  · next h => simp [tfind_terase, h]
  · simp [tfind_tinsert]

/-- Every other key holds what it held. -/
theorem tget_tset_other [DecidableEq α] (d : α) (m : SMap α) (k j : Nat) (v : α) (h : j ≠ k) :
    tget d (tset d m k v) j = tget d m j := by
  unfold tget tset
  split <;> simp [tfind_terase, tfind_tinsert, h]

theorem tableWf_lower [DecidableEq α] (d : α) (m : SMap α) (a b : Nat) (hab : a ≤ b) (h : tableWf d b m = true) :
    tableWf d a m = true := by
  cases m with
  | nil => rfl
  | cons x m =>
    obtain ⟨k, v⟩ := x
    simp only [tableWf, Bool.and_eq_true, decide_eq_true_eq] at h ⊢
    exact ⟨⟨by omega, h.1.2⟩, h.2⟩

theorem terase_wf [DecidableEq α] (d : α) (m : SMap α) (lo k : Nat) (h : tableWf d lo m = true) :
    tableWf d lo (terase m k) = true := by
  induction m generalizing lo with
  | nil => rfl
  | cons x m ih =>
    obtain ⟨k', v⟩ := x
    simp only [tableWf, Bool.and_eq_true, decide_eq_true_eq] at h
    unfold terase
    split
    · exact tableWf_lower d _ _ _ (by omega) (ih _ h.2)
    · simp only [tableWf, Bool.and_eq_true, decide_eq_true_eq]
      exact ⟨h.1, ih _ h.2⟩

theorem tinsert_wf [DecidableEq α] (d : α) (m : SMap α) (lo k : Nat) (v : α) (hk : lo ≤ k) (hv : v ≠ d)
    (h : tableWf d lo m = true) : tableWf d lo (tinsert m k v) = true := by
  induction m generalizing lo with
  | nil => simp [tinsert, tableWf, hk, hv]
  | cons x m ih =>
    obtain ⟨k', v'⟩ := x
    simp only [tableWf, Bool.and_eq_true, decide_eq_true_eq] at h
    unfold tinsert
    split
    · simp only [tableWf, Bool.and_eq_true, decide_eq_true_eq]
      exact ⟨⟨hk, hv⟩, ⟨by omega, h.1.2⟩, h.2⟩
    · split
      · simp only [tableWf, Bool.and_eq_true, decide_eq_true_eq]
        exact ⟨⟨hk, hv⟩, tableWf_lower d _ _ _ (by omega) h.2⟩
      · simp only [tableWf, Bool.and_eq_true, decide_eq_true_eq]
        exact ⟨h.1, ih _ (by omega) h.2⟩

/-- A write keeps the canonical form. -/
theorem tset_wf [DecidableEq α] (d : α) (m : SMap α) (lo k : Nat) (v : α) (hk : lo ≤ k) (h : tableWf d lo m = true) :
    tableWf d lo (tset d m k v) = true := by
  unfold tset
  split
  · exact terase_wf d m lo k h
  · next hv => exact tinsert_wf d m lo k v hk hv h

theorem tsetRun_wf [DecidableEq α] (d : α) (vs : List α) (m : SMap α) (k : Nat) (h : tableWf d 0 m = true) :
    tableWf d 0 (tsetRun d m k vs) = true := by
  induction vs generalizing m k with
  | nil => exact h
  | cons v vs ih => exact ih _ _ (tset_wf d m 0 k v (Nat.zero_le _) h)

theorem tget_tsetRun [DecidableEq α] (d : α) (vs : List α) (m : SMap α) (k j : Nat) :
    tget d (tsetRun d m k vs) j = if h : k ≤ j ∧ j < k + vs.length then vs[j - k]'(by omega) else tget d m j := by
  induction vs generalizing m k with
  | nil =>
    have h : ¬(k ≤ j ∧ j < k + ([] : List α).length) := by simp only [List.length_nil]; omega
    rw [dif_neg h]; rfl
  | cons v vs ih =>
    unfold tsetRun
    rw [ih]
    simp only [List.length_cons]
    by_cases h1 : k + 1 ≤ j ∧ j < k + 1 + vs.length
    · rw [dif_pos h1, dif_pos (by omega)]
      have : j - k = (j - (k + 1)) + 1 := by omega
      simp [this]
    · rw [dif_neg h1]
      by_cases h2 : j = k
      · subst h2
        rw [dif_pos (by omega), tget_tset_same]
        simp
      · rw [dif_neg (by omega), tget_tset_other _ _ _ _ _ h2]

/-- A store to the host's memory keeps its canonical form. -/
theorem memStore_wf (m : Memory) (a : Nat) (bs : Bytes) (h : Memory.wf m = true) :
    Memory.wf (memStore m a bs) = true := tsetRun_wf 0 bs m a h

/-- What a byte of the host's memory holds after a store. -/
theorem memByte_memStore (m : Memory) (a j : Nat) (bs : Bytes) :
    memByte (memStore m a bs) j = if h : a ≤ j ∧ j < a + bs.length then bs[j - a]'(by omega) else memByte m j :=
  tget_tsetRun 0 bs m a j

/-- Bytes outside a store keep their values. -/
theorem memByte_memStore_other (m : Memory) (a j : Nat) (bs : Bytes) (h : ¬(a ≤ j ∧ j < a + bs.length)) :
    memByte (memStore m a bs) j = memByte m j := by rw [memByte_memStore, dif_neg h]

/-- Writing over the buffers of a command keeps the canonical form of the host's memory. -/
theorem writeSegs_wf (segs : List (Nat × Nat)) (off : Nat) (bs : Bytes) (m : Memory) (h : Memory.wf m = true) :
    Memory.wf (writeSegs segs off bs m) = true := by
  induction segs generalizing off bs m with
  | nil => exact h
  | cons g segs ih =>
    unfold writeSegs
    split
    · exact ih _ _ _ h
    · exact ih _ _ _ (memStore_wf _ _ _ h)

/-- Bytes outside every buffer of a command keep their values. -/
theorem memByte_writeSegs_other (segs : List (Nat × Nat)) (off : Nat) (bs : Bytes) (m : Memory) (j : Nat)
    (h : ∀ g ∈ segs, ¬(g.1 ≤ j ∧ j < g.1 + g.2)) : memByte (writeSegs segs off bs m) j = memByte m j := by
  induction segs generalizing off bs m with
  | nil => rfl
  | cons g segs ih =>
    obtain ⟨a, n⟩ := g
    have hg : ¬(a ≤ j ∧ j < a + n) := h (a, n) (by simp)
    have ht : ∀ g ∈ segs, ¬(g.1 ≤ j ∧ j < g.1 + g.2) := fun x hx => h x (by simp [hx])
    unfold writeSegs
    split
    · exact ih _ _ _ ht
    · rw [ih _ _ _ ht]
      refine memByte_memStore_other _ _ _ _ ?_
      simp only [List.length_take]
      omega

end Sys2Proof.Laws
end

