-- ==== Sys2Proof/Laws/Kept.lean ====
section
/-! SUPPORT. What every command and happening keeps of a state (soundness, and what time does not take back), with the
steps by which the lemmas on the shared operations go through a definition: a value put into a `let`, the branches of a
condition, a fold, and a record update that touches none of the fields concerned. -/
namespace Sys2Proof.Laws
open Machine

/-- The fields that `Kept` speaks of, one by one. -/
def KeptF (b : State) (q : List Instr) (m : Memory) (e : List Evt) (a : List Audit) (f : FuseSt) (n : Nat) : Prop :=
  q = b.pending ∧ Memory.wf m = true ∧ e.length ≤ 8192 ∧ a.length ≤ 4096 ∧ FusesKept b.fuse f ∧ b.bel.auditSeq ≤ n
/-- A state reached from `b` within one step: the queue is that of `b`, the state is sound, and nothing of `Forward` has been
taken back. -/
def Kept (b s : State) : Prop := KeptF b s.pending s.host.mem s.host.evtQ s.bel.audit s.fuse s.bel.auditSeq
/-- The outcome is a next state, and it is kept. -/
def NextKept (p : State) (o : Host.Outcome State Fault Refusal) : Prop := ∃ t, o = .next t ∧ Kept p t
theorem kept_cut {p} {G : Prop} (v : State) (h1 : Kept p v) (h2 : Kept p v → G) : G := h2 h1

theorem kept_of {p} {s : State} (h : KeptF p s.pending s.host.mem s.host.evtQ s.bel.audit s.fuse s.bel.auditSeq) : Kept p s := h

theorem kept_to {p} {s : State} (h : Kept p s) : KeptF p s.pending s.host.mem s.host.evtQ s.bel.audit s.fuse s.bel.auditSeq := h

theorem kept_ite {p} {c : Prop} [Decidable c] {a b : State} (ha : Kept p a) (hb : Kept p b) : Kept p (if c then a else b) := by
  split <;> assumption

theorem kept_letv {p} {α : Type} {v : α} {b : α → State} (h : ∀ x, x = v → Kept p (b x)) :
    Kept p (let x := v; b x) := h v rfl

theorem kept_let {p} {v : State} {b : State → State} (h1 : Kept p v) (h2 : ∀ s, Kept p s → Kept p (b s)) :
    Kept p (let s := v; b s) := h2 _ h1

theorem kept_upd {p : State} {s s' : State} (h1 : s'.pending = s.pending) (h2 : s'.host.mem = s.host.mem)
    (h3 : s'.host.evtQ = s.host.evtQ) (h4 : s'.bel.audit = s.bel.audit) (h5 : s'.fuse = s.fuse) (h6 : s'.bel.auditSeq = s.bel.auditSeq) (h : Kept p s) :
    Kept p s' := by
  unfold Kept at *; rw [h1, h2, h3, h4, h5, h6]; exact h

theorem kept_foldl {p} {α : Type} (l : List α) (f : State → α → State) (hf : ∀ s x, Kept p s → Kept p (f s x)) {s : State}
    (h : Kept p s) : Kept p (l.foldl f s) := by
  induction l generalizing s with
  | nil => exact h
  | cons a l ih => exact ih (hf s a h)

theorem raise_kept {p : State} (g b : Nat) (s : State) (h : Kept p s) : Kept p (raise g b s) := kept_upd rfl rfl rfl rfl rfl rfl h

theorem bump_kept {p : State} (b c n : Nat) (s : State) (h : Kept p s) : Kept p (bump b c n s) := kept_upd rfl rfl rfl rfl rfl rfl h

theorem sendMsix_kept {p : State} (s : State) (h : Kept p s) : Kept p (sendMsix s) := by
  unfold sendMsix; split
  · split <;> exact kept_upd rfl rfl rfl rfl rfl rfl h
  · exact h

theorem irqEdge_kept {p : State} (s s' : State) (h : Kept p s') : Kept p (irqEdge s s') := by
  unfold irqEdge; split
  · exact sendMsix_kept _ h
  · exact h

theorem keptF_segs {p : State} {q : List Instr} (g : List (Nat × Nat)) (o : Nat) (bs : Bytes) {m : Memory} {e : List Evt} {a : List Audit} {f : FuseSt} {n : Nat}
    (h : KeptF p q m e a f n) : KeptF p q (writeSegs g o bs m) e a f n := ⟨h.1, writeSegs_wf _ _ _ _ h.2.1, h.2.2⟩

theorem keptF_store {p : State} {q : List Instr} (o : Nat) (bs : Bytes) {m : Memory} {e : List Evt} {a : List Audit} {f : FuseSt} {n : Nat}
    (h : KeptF p q m e a f n) : KeptF p q (memStore m o bs) e a f n := ⟨h.1, memStore_wf _ _ _ h.2.1, h.2.2⟩

theorem mem_kept {p} {s : State} (m : Memory) (hm : Memory.wf m = true) (h : Kept p s) :
    Kept p { s with host := { s.host with mem := m } } := ⟨h.1, hm, h.2.2⟩

theorem fuses_kept {p} {s : State} (f : FuseSt) (hf : FusesKept s.fuse f) (h : Kept p s) : Kept p { s with fuse := f } := by
  obtain ⟨h1, h2, h3, h4, ⟨a1, a2, a3, a4⟩, h6⟩ := h
  obtain ⟨b1, b2, b3, b4⟩ := hf
  exact ⟨h1, h2, h3, h4, ⟨Nat.le_trans a1 b1, b2 ∘ a2, b3 ∘ a3, b4 ∘ a4⟩, h6⟩

theorem finish_kept {p} (s s' : State) (h : Kept p s') : NextKept p (finish s s') := ⟨_, rfl, irqEdge_kept s s' h⟩

/-- A sound state is kept from itself. -/
theorem kept_refl {s : State} (h : Sound s) : Kept s s :=
  ⟨rfl, h.1, h.2.1, h.2.2, ⟨Nat.le_refl _, id, id, id⟩, Nat.le_refl _⟩

/-- What `Kept` says, in the terms of the statements. -/
theorem kept_iff {b s : State} : Kept b s ↔ s.pending = b.pending ∧ Sound s ∧ Forward b s := by
  constructor
  · rintro ⟨h1, h2, h3, h4, h5, h6⟩; exact ⟨h1, ⟨h2, h3, h4⟩, h5, h6⟩
  · rintro ⟨h1, ⟨h2, h3, h4⟩, h5, h6⟩; exact ⟨h1, h2, h3, h4, h5, h6⟩

end Sys2Proof.Laws
end

