-- ==== Sys2Proof/Laws/KeptShared.lean ====
section
/-! SUPPORT. The shared operations keep a state: one lemma for each. -/
namespace Sys2Proof.Laws
open Machine

-- Machine/Ops.lean.

theorem noteHeld_kept {ip : State} (old s : State) (hk : Kept ip s) :
    Kept ip (noteHeld old s) := by
  unfold noteHeld
  repeat' first | with_reducible assumption | with_reducible apply raise_kept | with_reducible refine kept_ite ?_ ?_

theorem postAt_kept {p : State} (code : Byte) (fn : FN) (payload : BitVec 160) (s : State) (h : Kept p s) :
    Kept p (postAt code fn payload s) := by
  unfold postAt
  split
  · exact h
  · dsimp only
    split
    · rename_i hl
      have hk : ∀ e, Kept p { s with host := { s.host with evtSeq := s.host.evtSeq + 1, evtQ := s.host.evtQ ++ [e] } } :=
        fun e => ⟨h.1, h.2.1, by simp only [List.length_append, List.length_singleton]; omega, h.2.2.2⟩
      split
      · exact raise_kept _ _ _ (hk _)
      · exact hk _
    · split
      · exact h
      · exact raise_kept _ _ _ h

theorem post_kept {ip : State} (code : Byte) (fs : List Field) (s : State) (hk : Kept ip s) :
    Kept ip (post code fs s) := by
  unfold post
  repeat' first | with_reducible assumption | with_reducible apply postAt_kept

theorem twinNote_kept {ip : State} (b : Nat) (s : State) (hk : Kept ip s) :
    Kept ip (twinNote b s) := by
  unfold twinNote
  repeat' first | with_reducible assumption | with_reducible apply raise_kept | with_reducible apply post_kept

theorem grpNote_kept {ip : State} (b : Nat) (m : Option Nat) (s : State) (hk : Kept ip s) :
    Kept ip (grpNote b m s) := by
  unfold grpNote
  repeat' first | with_reducible assumption | with_reducible apply raise_kept | with_reducible apply post_kept

theorem updNote_kept {ip : State} (b reason : Nat) (version : Word32) (s : State) (hk : Kept ip s) :
    Kept ip (updNote b reason version s) := by
  unfold updNote
  repeat' first | with_reducible assumption | with_reducible apply raise_kept | with_reducible apply post_kept

theorem envNote_kept {ip : State} (g b : Nat) (s : State) (hk : Kept ip s) :
    Kept ip (envNote g b s) := by
  unfold envNote
  repeat' first | with_reducible assumption | with_reducible apply raise_kept | with_reducible apply post_kept

theorem secNote_kept {ip : State} (b port : Nat) (s : State) (hk : Kept ip s) :
    Kept ip (secNote b port s) := by
  unfold secNote
  repeat' first | with_reducible assumption | with_reducible apply raise_kept | with_reducible apply post_kept

theorem obsNote_kept {ip : State} (b who : Nat) (fp : Nat) (s : State) (hk : Kept ip s) :
    Kept ip (obsNote b who fp s) := by
  unfold obsNote
  repeat' first | with_reducible assumption | with_reducible apply raise_kept | with_reducible apply post_kept

theorem journalNote_kept {ip : State} (kind seq : Nat) (s : State) (hk : Kept ip s) :
    Kept ip (journalNote kind seq s) := by
  unfold journalNote
  repeat' first | with_reducible assumption | with_reducible apply post_kept

theorem protNote_kept {ip : State} (kind obj leg req idx : Nat) (s : State) (hk : Kept ip s) :
    Kept ip (protNote kind obj leg req idx s) := by
  unfold protNote
  repeat' first | with_reducible assumption | with_reducible apply post_kept

theorem complete_kept {ip : State} (tok : CmdTok) (status obj : Byte) (result : Word64) (s : State) (hk : Kept ip s) :
    Kept ip (complete tok status obj result s) := hk

theorem completeOpt_kept {ip : State} (tok : Option CmdTok) (status obj : Byte) (result : Word64) (s : State) (hk :
    Kept ip s) :
    Kept ip (completeOpt tok status obj result s) := by
  unfold completeOpt
  repeat' first | with_reducible assumption | with_reducible apply complete_kept | split

theorem completeOk_kept {ip : State} (tok : CmdTok) (fs : List Field) (s : State) (hk : Kept ip s) :
    Kept ip (completeOk tok fs s) := hk

theorem refuse_kept {ip : State} (tok : CmdTok) (status : Byte) (fs : List Field) (s : State) (hk : Kept ip s) :
    Kept ip (refuse tok status fs s) := hk

theorem hostFail_kept {ip : State} (tok : CmdTok) (fs : List Field) (s : State) (hk : Kept ip s) :
    Kept ip (hostFail tok fs s) := hk

theorem auditAdd_kept {p : State} (a : Audit) (s : State) (h : Kept p s) : Kept p (auditAdd a s) := by
  have hb : Kept p { s with bel := { s.bel with
      audit := (a :: s.bel.audit).take 4096, auditSeq := s.bel.auditSeq + 1 } } :=
    ⟨h.1, h.2.1, h.2.2.1, by simp only [List.length_take]; omega, h.2.2.2.2.1, Nat.le_succ_of_le h.2.2.2.2.2⟩
  unfold auditAdd
  extract_lets b s'
  have hs : Kept p s' := bump_kept _ _ _ _ hb
  clear_value s'
  split
  · exact obsNote_kept _ _ _ _ hs
  · exact hs

theorem recordDue_kept {ip : State} (kind : JKind) (audits : List Audit) (s : State) (hk : Kept ip s) :
    Kept ip (recordDue kind audits s) := hk

theorem configDone_kept {ip : State} (origin : Nat) (opcode : Byte) (s : State) (hk : Kept ip s) :
    Kept ip (configDone origin opcode s) := by
  unfold configDone
  repeat' first | with_reducible assumption | with_reducible apply auditAdd_kept | with_reducible apply recordDue_kept

theorem configRecord_kept {ip : State} (s : State) (hk : Kept ip s) :
    Kept ip (configRecord s) := hk

theorem modeChange_kept {ip : State} (old : Mode) (fn : FN) (s : State) (hk : Kept ip s) :
    Kept ip (modeChange old fn s) := by
  unfold modeChange
  repeat' first | with_reducible assumption | with_reducible apply raise_kept | with_reducible apply postAt_kept

theorem toMode_kept {ip : State} (m : Mode) (sync : BitVec 3) (s : State) (hk : Kept ip s) :
    Kept ip (toMode m sync s) := by
  unfold toMode
  repeat' first
    | with_reducible apply modeChange_kept | with_reducible refine kept_ite ?_ ?_
    | (refine kept_of ?_; dsimp only; with_reducible refine kept_to ?_; with_reducible assumption)

theorem drawRandom_kept {p : State} (s : State) (h : Kept p s) : Kept p (drawRandom s).2 := h

theorem send_kept {ip : State} (m : TxMsg) (s : State) (hk : Kept ip s) :
    Kept ip (send m s) := hk

theorem sendMate_kept {ip : State} (chan : Nat) (payload : Bytes) (s : State) (hk : Kept ip s) :
    Kept ip (sendMate chan payload s) := by
  unfold sendMate
  repeat' first
    | with_reducible assumption | with_reducible apply bump_kept | with_reducible apply send_kept
    | with_reducible refine kept_ite ?_ ?_
    | (refine kept_of ?_; dsimp only; with_reducible refine kept_to ?_; with_reducible assumption)

theorem sendGroup_kept {ip : State} (type : Nat) (payload : Bytes) (s : State) (hk : Kept ip s) :
    Kept ip (sendGroup type payload s) := by
  unfold sendGroup
  repeat' first
    | with_reducible assumption | with_reducible apply bump_kept | with_reducible apply send_kept | split
    | (refine kept_of ?_; dsimp only; with_reducible refine kept_to ?_; with_reducible assumption)

-- Machine/Operands.lean.

theorem bufferEnd_kept {ip : State} (tok : CmdTok) (e : Byte) (fs : List Field) (s : State) (hk : Kept ip s) :
    Kept ip (bufferEnd tok e fs s) := by
  unfold bufferEnd
  repeat' first
    | with_reducible assumption | with_reducible apply raise_kept | with_reducible apply refuse_kept
    | with_reducible apply hostFail_kept | with_reducible refine kept_ite ?_ ?_

theorem withRead_kept {ip : State} (tok : CmdTok) (d : BitVec 128) (ok : Nat → Bool) (fs : Byte → List Field) (go :
    Bytes → State → State) (s : State) (hgo : ∀ x0 s, Kept ip s → Kept ip (go x0 s)) (hk : Kept ip s) :
    Kept ip (withRead tok d ok fs go s) := by
  unfold withRead
  repeat' first | with_reducible assumption | with_reducible apply bufferEnd_kept | with_reducible apply hgo | split

theorem withWrite_kept {p : State} (tok : CmdTok) (d : BitVec 128) (ok : Nat → Bool) (bs : Bytes)
    (go : State → State) (s : State) (hgo : ∀ s, Kept p s → Kept p (go s)) (h : Kept p s) :
    Kept p (withWrite tok d ok bs go s) := by
  unfold withWrite
  split
  · exact bufferEnd_kept _ _ _ _ h
  · exact hgo _ (mem_kept _ (writeSegs_wf _ _ _ _ h.2.1) h)

theorem drainBad_kept {p : State} (s : State) (fs : List Fetched) (h : Kept p s) : Kept p (drainBad s fs) := by
  induction fs generalizing s with
  | nil => exact h
  | cons f fs ih =>
    unfold drainBad
    split
    · exact ih _ (complete_kept _ _ _ _ _ h)
    · exact h

theorem no_hold {p : State} {k : Option State} (h : k = none) : ∀ s', k = some s' → Kept p s' := by
  intro s' hs
  rw [h] at hs
  cases hs

theorem runCmd_kept {p : State} (opcode : Byte) (row : Bool) (c : CmdEntry) (k : Checks)
    (body : CmdTok → State → State) (s : State) (hb : ∀ tok s, Kept p s → Kept p (body tok s))
    (hw : ∀ s', k.hold = some s' → Kept p s') (h : Kept p s) : Kept p (runCmd opcode row c k body s) := by
  unfold runCmd
  split
  · exact h
  · split
    · exact h
    · split
      · exact h
      · dsimp only
        split
        · exact drainBad_kept _ _ (complete_kept _ _ _ _ _ h)
        · split
          · exact h
          · split
            · exact hw _ ‹_›
            · have hk := fun tok => hb tok s h
              split
              · exact hk _
              · split
                · exact drainBad_kept _ _ (hk _)
                · exact hk _

-- Machine/Selectors.lean.

theorem removeExt_kept {ip : State} (t : Tier) (i : Nat) (reported : Bool) (s : State) (hk : Kept ip s) :
    Kept ip (removeExt t i reported s) := by
  unfold removeExt
  repeat' first
    | with_reducible assumption | with_reducible apply raise_kept | with_reducible apply protNote_kept
    | with_reducible apply auditAdd_kept | with_reducible apply recordDue_kept | split
    | (refine kept_of ?_; dsimp only; with_reducible refine kept_to ?_; with_reducible assumption)

theorem markMoved_kept {ip : State} (t : Tier) (i : Nat) (s : State) (hk : Kept ip s) :
    Kept ip (markMoved t i s) := by
  unfold markMoved
  repeat' first
    | with_reducible assumption | with_reducible apply bump_kept | split
    | (refine kept_of ?_; dsimp only; with_reducible refine kept_to ?_; with_reducible assumption)

theorem stepSel_kept {ip : State} (m : State) (t : Tier) (s : State) (x : Nat × Word64) (hk : Kept ip s) :
    Kept ip (stepSel m t s x) := by
  unfold stepSel
  repeat' first
    | with_reducible assumption | with_reducible apply raise_kept | with_reducible apply bump_kept
    | with_reducible apply removeExt_kept | with_reducible apply markMoved_kept
    | (extract_lets +onlyGivenNames xk; first | (refine kept_cut (p := ip) xk ?_ ?_ <;> first | (intro hxk; clear_value xk) | subst xk) | subst xk)
    | split | (refine kept_of ?_; dsimp only; with_reducible refine kept_to ?_; with_reducible assumption)

theorem evalSelectors_kept {ip : State} (m s : State) (hk : Kept ip s) :
    Kept ip (evalSelectors m s) := by
  unfold evalSelectors
  repeat' first
    | with_reducible assumption | with_reducible apply stepSel_kept
    | with_reducible refine kept_foldl _ _ (fun _ _ _ => ?_) ?_ | with_reducible refine kept_ite ?_ ?_

theorem holdTimers_kept {ip : State} (m s : State) (x : Nat × Word64) (hk : Kept ip s) :
    Kept ip (holdTimers m s x) := by
  unfold holdTimers
  repeat' first
    | with_reducible assumption | with_reducible refine kept_ite ?_ ?_
    | (refine kept_of ?_; dsimp only; with_reducible refine kept_to ?_; with_reducible assumption)

theorem discardPending_kept {ip : State} (t : Tier) (i : Nat) (s : State) (hk : Kept ip s) :
    Kept ip (discardPending t i s) := hk

theorem swapTier_kept {ip : State} (old : Page) (t : Tier) (s : State) (hk : Kept ip s) :
    Kept ip (swapTier old t s) := by
  unfold swapTier
  repeat' first
    | with_reducible assumption | with_reducible apply removeExt_kept | with_reducible apply discardPending_kept
    | with_reducible refine kept_foldl _ _ (fun _ _ _ => ?_) ?_ | with_reducible refine kept_ite ?_ ?_
    | (refine kept_of ?_; dsimp only; with_reducible refine kept_to ?_; with_reducible assumption)

theorem swapSelectors_kept {ip : State} (old : Page) (s : State) (hk : Kept ip s) :
    Kept ip (swapSelectors old s) := by
  unfold swapSelectors
  repeat' first | with_reducible assumption | with_reducible apply swapTier_kept

-- Machine/Defects.lean.

theorem markDirty_kept {ip : State} (k : Nat) (s : State) (hk : Kept ip s) :
    Kept ip (markDirty k s) := hk

theorem putDefect_kept {ip : State} (cls obj b : Nat) (on : Bool) (s : State) (hk : Kept ip s) :
    Kept ip (putDefect cls obj b on s) := by
  unfold putDefect
  repeat' first
    | with_reducible assumption | with_reducible apply raise_kept | with_reducible apply markDirty_kept
    | with_reducible refine kept_ite ?_ ?_
    | (refine kept_of ?_; dsimp only; with_reducible refine kept_to ?_; with_reducible assumption)

theorem putSet_kept {ip : State} (k : Nat) (w : Word64) (s : State) (hk : Kept ip s) :
    Kept ip (putSet k w s) := by
  unfold putSet
  repeat' first
    | with_reducible assumption | with_reducible apply putDefect_kept
    | with_reducible refine kept_foldl _ _ (fun _ _ _ => ?_) ?_

theorem suppress_kept {ip : State} (s : State) (hk : Kept ip s) :
    Kept ip (suppress s) := hk

theorem changeDefect_kept {ip : State} (cls obj b : Nat) (on : Bool) (s : State) (hk : Kept ip s) :
    Kept ip (changeDefect cls obj b on s) := by
  unfold changeDefect
  repeat' first
    | with_reducible assumption | with_reducible apply putDefect_kept | with_reducible apply suppress_kept
    | with_reducible refine kept_ite ?_ ?_

theorem evalMismatch_kept {ip : State} (s : State) (hk : Kept ip s) :
    Kept ip (evalMismatch s) := by
  unfold evalMismatch
  repeat' first
    | with_reducible assumption | with_reducible apply putDefect_kept
    | with_reducible refine kept_foldl _ _ (fun _ _ _ => ?_) ?_

theorem evalTim_kept {ip : State} (cls obj : Nat) (s : State) (hk : Kept ip s) :
    Kept ip (evalTim cls obj s) := by
  unfold evalTim
  repeat' first | with_reducible assumption | with_reducible apply changeDefect_kept | split

theorem evalBands_kept {ip : State} (cls obj : Nat) (s : State) (hk : Kept ip s) :
    Kept ip (evalBands cls obj s) := by
  unfold evalBands
  repeat' first | with_reducible assumption | with_reducible apply changeDefect_kept | split

-- Machine/Pm.lean.

theorem putPm_kept {ip : State} (k : Nat) (o : PmObj) (s : State) (hk : Kept ip s) :
    Kept ip (putPm k o s) := hk

theorem announceBuf_kept {ip : State} (b : PmBuf) (s : State) (hk : Kept ip s) :
    Kept ip (announceBuf b s) := by
  unfold announceBuf
  repeat' first | with_reducible assumption | with_reducible apply post_kept

theorem writeRecord_kept {ip : State} (bs : Bytes) (b : PmBuf) (rest : List PmBuf) (s : State) (hk : Kept ip s) :
    Kept ip (writeRecord bs b rest s) := by
  unfold writeRecord
  repeat' first
    | with_reducible apply announceBuf_kept | with_reducible refine kept_ite ?_ ?_
    | (refine kept_of ?_; dsimp only; (first | with_reducible refine keptF_segs _ _ _ ?_ | with_reducible refine keptF_store _ _ ?_ | skip); with_reducible refine kept_to ?_; with_reducible assumption)

theorem emitRecord_kept {ip : State} (kind cls obj : Nat) (c : PmCounts) (s : State) (hk : Kept ip s) :
    Kept ip (emitRecord kind cls obj c s) := by
  unfold emitRecord
  repeat' first
    | with_reducible assumption | with_reducible apply post_kept | with_reducible apply putPm_kept
    | with_reducible apply writeRecord_kept
    | (extract_lets +onlyGivenNames xk; first | (refine kept_cut (p := ip) xk ?_ ?_ <;> first | (intro hxk; clear_value xk) | subst xk) | subst xk)
    | split

theorem pmFinal_kept {ip : State} (cls obj : Nat) (s : State) (hk : Kept ip s) :
    Kept ip (pmFinal cls obj s) := by
  unfold pmFinal
  repeat' first
    | with_reducible assumption | with_reducible apply putPm_kept | with_reducible apply emitRecord_kept
    | (extract_lets +onlyGivenNames xk; first | (refine kept_cut (p := ip) xk ?_ ?_ <;> first | (intro hxk; clear_value xk) | subst xk) | subst xk)
    | split

theorem closeBin_kept {ip : State} (cls obj : Nat) (day : Bool) (next : PmCounts) (s : State) (hk : Kept ip s) :
    Kept ip (closeBin cls obj day next s) := by
  unfold closeBin
  repeat' first | with_reducible assumption | with_reducible apply putPm_kept | with_reducible apply emitRecord_kept

theorem pmClose_kept {ip : State} (cls obj : Nat) (day : Bool) (s : State) (hk : Kept ip s) :
    Kept ip (pmClose cls obj day s) := by
  unfold pmClose
  repeat' first
    | with_reducible assumption | with_reducible apply closeBin_kept | with_reducible refine kept_ite ?_ ?_

theorem pmTimeout_kept {ip : State} (s : State) (hk : Kept ip s) :
    Kept ip (pmTimeout s) := by
  unfold pmTimeout
  repeat' first
    | with_reducible assumption | with_reducible apply announceBuf_kept | split
    | (refine kept_of ?_; dsimp only; with_reducible refine kept_to ?_; with_reducible assumption)

theorem secondView_kept {ip : State} (s : State) (hk : Kept ip s) :
    Kept ip (secondView s) := hk

theorem measure_kept {ip : State} (start : Nat) (v s : State) (m : PmMeas) (hk : Kept ip s) :
    Kept ip (Machine.measure start v s m) := by
  unfold Machine.measure
  repeat' first | with_reducible assumption | with_reducible apply putPm_kept | with_reducible refine kept_ite ?_ ?_

theorem secondEnd_kept {ip : State} (ms : List PmMeas) (s : State) (hk : Kept ip s) :
    Kept ip (secondEnd ms s) := by
  unfold secondEnd
  repeat' first
    | with_reducible assumption | with_reducible apply measure_kept
    | with_reducible refine kept_foldl _ _ (fun _ _ _ => ?_) ?_
    | (extract_lets +onlyGivenNames xk; first | (refine kept_cut (p := ip) xk ?_ ?_ <;> first | (intro hxk; clear_value xk) | subst xk) | subst xk)
    | with_reducible refine kept_ite ?_ ?_
    | (refine kept_of ?_; dsimp only; with_reducible refine kept_to ?_; with_reducible assumption)

theorem stepBins_kept {ip : State} (sec : Nat) (s : State) (x : Nat × PmObj) (hk : Kept ip s) :
    Kept ip (stepBins sec s x) := by
  unfold stepBins
  repeat' first | with_reducible assumption | with_reducible apply putPm_kept | with_reducible apply closeBin_kept

theorem pmSwap_kept {ip : State} (old s : State) (hk : Kept ip s) :
    Kept ip (pmSwap old s) := by
  unfold pmSwap
  repeat' first
    | with_reducible assumption | with_reducible apply putPm_kept
    | with_reducible refine kept_foldl _ _ (fun _ _ _ => ?_) ?_ | with_reducible refine kept_ite ?_ ?_

theorem failedFrame_kept {ip : State} (s : State) (hk : Kept ip s) :
    Kept ip (failedFrame s) := hk

theorem stepTod_kept {ip : State} (sec : FN) (ns : Word32) (s : State) (hk : Kept ip s) :
    Kept ip (stepTod sec ns s) := by
  unfold stepTod
  repeat' first
    | with_reducible assumption | with_reducible apply stepBins_kept
    | with_reducible refine kept_foldl _ _ (fun _ _ _ => ?_) ?_
    | (extract_lets +onlyGivenNames xk; first | (refine kept_cut (p := ip) xk ?_ ?_ <;> first | (intro hxk; clear_value xk) | subst xk) | subst xk)
    | with_reducible refine kept_ite ?_ ?_
    | (refine kept_of ?_; dsimp only; with_reducible refine kept_to ?_; with_reducible assumption)

-- Machine/Commit.lean.

theorem internalMsg_kept {ip : State} (s : State) (hk : Kept ip s) : Kept ip (internalMsg s).2 := hk
theorem sendCommitMsg_kept {ip : State} (type : Nat) (payload : Bytes) (s : State) (hk : Kept ip s) :
    Kept ip (sendCommitMsg type payload s) := by
  unfold sendCommitMsg
  repeat' first
    | with_reducible assumption | with_reducible apply sendMate_kept | with_reducible apply sendGroup_kept
    | with_reducible refine kept_ite ?_ ?_

theorem mirrorStaged_kept {ip : State} (s : State) (hk : Kept ip s) :
    Kept ip (mirrorStaged s) := by
  unfold mirrorStaged
  repeat' first
    | with_reducible assumption | with_reducible apply sendMate_kept | with_reducible apply sendGroup_kept
    | with_reducible apply internalMsg_kept | with_reducible refine kept_ite ?_ ?_
    | (refine kept_of ?_; dsimp only; with_reducible refine kept_to ?_; with_reducible assumption)

theorem setJob_kept {ip : State} (j : Option CommitJob) (s : State) (hk : Kept ip s) :
    Kept ip (setJob j s) := hk

theorem openPage_kept {ip : State} (s : State) (hk : Kept ip s) :
    Kept ip (openPage s) := hk

theorem endCommit_kept {ip : State} (status : Byte) (obj : Byte) (r : Word64) (s : State) (hk : Kept ip s) :
    Kept ip (endCommit status obj r s) := by
  unfold endCommit
  repeat' first
    | with_reducible assumption | with_reducible apply raise_kept | with_reducible apply completeOpt_kept
    | with_reducible apply mirrorStaged_kept | with_reducible apply openPage_kept | split

theorem stopCommit_kept {ip : State} (status : Byte) (s : State) (hk : Kept ip s) :
    Kept ip (stopCommit status s) := by
  unfold stopCommit
  repeat' first | with_reducible assumption | with_reducible apply endCommit_kept | split

theorem deferJob_kept {ip : State} (schedule : Bool) (s : State) (j : CommitJob) (hk : Kept ip s) :
    Kept ip (deferJob schedule s j) := by
  unfold deferJob
  repeat' first
    | with_reducible apply mirrorStaged_kept | with_reducible apply setJob_kept
    | (refine kept_of ?_; dsimp only; with_reducible refine kept_to ?_; with_reducible assumption)

theorem resolveOnce_kept {ip : State} (status : Byte) (schedule : Bool) (s : State) (hk : Kept ip s) :
    Kept ip (resolveOnce status schedule s) := by
  unfold resolveOnce
  repeat' first
    | with_reducible assumption | with_reducible apply post_kept | with_reducible apply stopCommit_kept
    | with_reducible apply deferJob_kept
    | (extract_lets +onlyGivenNames xk; first | (refine kept_cut (p := ip) xk ?_ ?_ <;> first | (intro hxk; clear_value xk) | subst xk) | subst xk)
    | split

theorem resolveLate_kept {p : State} (n : Nat) (s : State) (h : Kept p s) : Kept p (resolveLate n s) := by
  induction n generalizing s with
  | zero => exact h
  | succ n ih =>
    unfold resolveLate
    split
    · exact ih _ (resolveOnce_kept _ _ _ h)
    · exact h

theorem resolveCause_kept {ip : State} (status : Byte) (schedule : Bool) (s : State) (hk : Kept ip s) :
    Kept ip (resolveCause status schedule s) := by
  unfold resolveCause
  repeat' first
    | with_reducible assumption | with_reducible apply resolveOnce_kept | with_reducible apply resolveLate_kept

theorem abortOne_kept {ip : State} (cause : Nat) (j : CommitJob) (s : State) (hk : Kept ip s) :
    Kept ip (abortOne cause j s) := by
  unfold abortOne
  repeat' first
    | with_reducible apply sendCommitMsg_kept
    | (refine kept_of ?_; dsimp only; with_reducible refine kept_to ?_; with_reducible assumption)

theorem sendAbort_kept {ip : State} (cause : Nat) (j : CommitJob) (s : State) (hk : Kept ip s) :
    Kept ip (sendAbort cause j s) := by
  unfold sendAbort
  repeat' first
    | with_reducible assumption | with_reducible apply abortOne_kept
    | with_reducible refine kept_foldl _ _ (fun _ _ _ => ?_) ?_

theorem abortRound_kept {ip : State} (cause : Nat) (status : Byte) (s : State) (hk : Kept ip s) :
    Kept ip (abortRound cause status s) := by
  unfold abortRound
  repeat' first
    | with_reducible assumption | with_reducible apply resolveCause_kept | with_reducible apply sendAbort_kept | split

theorem checkAcks_kept {ip : State} (s : State) (hk : Kept ip s) :
    Kept ip (checkAcks s) := by
  unfold checkAcks
  repeat' first | with_reducible assumption | with_reducible apply setJob_kept | split

theorem checkReady_kept {ip : State} (s : State) (hk : Kept ip s) :
    Kept ip (checkReady s) := by
  unfold checkReady
  repeat' first
    | with_reducible assumption | with_reducible apply sendCommitMsg_kept | with_reducible apply setJob_kept
    | with_reducible apply checkAcks_kept | split

theorem tryPrepare_kept {ip : State} (s : State) (hk : Kept ip s) :
    Kept ip (tryPrepare s) := by
  unfold tryPrepare
  repeat' first
    | with_reducible assumption | with_reducible apply sendCommitMsg_kept | with_reducible apply setJob_kept
    | with_reducible apply checkReady_kept | split

theorem prepareAhead_kept {p : State} (n : Nat) (s : State) (h : Kept p s) : Kept p (prepareAhead n s) := by
  induction n generalizing s with
  | zero => exact h
  | succ n ih =>
    unfold prepareAhead
    split
    · exact h
    · dsimp only
      split
      · exact ih _ (sendCommitMsg_kept _ _ _ (setJob_kept _ _ h))
      · exact h

theorem prepareAll_kept {ip : State} (s : State) (hk : Kept ip s) :
    Kept ip (prepareAll s) := by
  unfold prepareAll
  repeat' first
    | with_reducible assumption | with_reducible apply tryPrepare_kept | with_reducible apply prepareAhead_kept

theorem tryReady_kept {ip : State} (s : State) (hk : Kept ip s) :
    Kept ip (tryReady s) := by
  unfold tryReady
  repeat' first | with_reducible assumption | with_reducible apply sendCommitMsg_kept | split

theorem readyAhead_kept {ip : State} (s : State) (hk : Kept ip s) :
    Kept ip (readyAhead s) := by
  unfold readyAhead
  repeat' first
    | with_reducible assumption | with_reducible apply sendCommitMsg_kept
    | with_reducible refine kept_foldl _ _ (fun _ _ _ => ?_) ?_ | split

theorem readyAll_kept {ip : State} (s : State) (hk : Kept ip s) :
    Kept ip (readyAll s) := by
  unfold readyAll
  repeat' first
    | with_reducible assumption | with_reducible apply tryReady_kept | with_reducible apply readyAhead_kept

theorem solveOn_kept {ip : State} (s : State) (hk : Kept ip s) :
    Kept ip (solveOn s) := by
  unfold solveOn
  repeat' first
    | with_reducible assumption | split
    | (refine kept_of ?_; dsimp only; with_reducible refine kept_to ?_; with_reducible assumption)

theorem solvedLater_kept {ip : State} (j : CommitJob) (s : State) (hk : Kept ip s) :
    Kept ip (solvedLater j s) := by
  unfold solvedLater
  repeat' first
    | with_reducible apply setJob_kept | with_reducible apply prepareAll_kept | with_reducible apply readyAhead_kept
    | with_reducible apply solveOn_kept
    | (refine kept_of ?_; dsimp only; with_reducible refine kept_to ?_; with_reducible assumption)

theorem solvedNow_kept {ip : State} (s : State) (hk : Kept ip s) :
    Kept ip (solvedNow s) := by
  unfold solvedNow
  repeat' first
    | with_reducible assumption | with_reducible apply setJob_kept | with_reducible apply endCommit_kept
    | with_reducible apply stopCommit_kept | with_reducible apply prepareAll_kept | with_reducible apply readyAll_kept
    | with_reducible apply solveOn_kept
    | (extract_lets +onlyGivenNames xk; first | (refine kept_cut (p := ip) xk ?_ ?_ <;> first | (intro hxk; clear_value xk) | subst xk) | subst xk)
    | split | (refine kept_of ?_; dsimp only; with_reducible refine kept_to ?_; with_reducible assumption)

theorem solved_kept {ip : State} (s : State) (hk : Kept ip s) :
    Kept ip (solved s) := by
  unfold solved
  repeat' first
    | with_reducible assumption | with_reducible apply solvedLater_kept | with_reducible apply solvedNow_kept | split
    | (refine kept_of ?_; dsimp only; with_reducible refine kept_to ?_; with_reducible assumption)

theorem pruneDefects_kept {ip : State} (old : Page) (s : State) (hk : Kept ip s) :
    Kept ip (pruneDefects old s) := by
  unfold pruneDefects
  repeat' first
    | with_reducible assumption | with_reducible apply putSet_kept
    | with_reducible refine kept_foldl _ _ (fun _ _ _ => ?_) ?_
    | (extract_lets +onlyGivenNames xk; first | (refine kept_cut (p := ip) xk ?_ ?_ <;> first | (intro hxk; clear_value xk) | subst xk) | subst xk)
    | (refine kept_of ?_; dsimp only; with_reducible refine kept_to ?_; with_reducible assumption)

theorem countSwap_kept {ip : State} (old : Page) (s : State) (hk : Kept ip s) :
    Kept ip (countSwap old s) := by
  unfold countSwap
  repeat' first
    | with_reducible assumption | with_reducible apply bump_kept
    | with_reducible refine kept_foldl _ _ (fun _ _ _ => ?_) ?_ | with_reducible refine kept_ite ?_ ?_

theorem countLegs_kept {ip : State} (before s : State) (hk : Kept ip s) :
    Kept ip (countLegs before s) := by
  unfold countLegs
  repeat' first
    | with_reducible assumption | with_reducible apply bump_kept
    | with_reducible refine kept_foldl _ _ (fun _ _ _ => ?_) ?_

theorem markChanged_kept {ip : State} (old : Page) (s : State) (hk : Kept ip s) :
    Kept ip (markChanged old s) := by
  unfold markChanged
  repeat' first
    | with_reducible assumption | with_reducible apply markMoved_kept
    | with_reducible refine kept_foldl _ _ (fun _ _ _ => ?_) ?_

theorem tapCheck_kept {ip : State} (before s : State) (hk : Kept ip s) :
    Kept ip (tapCheck before s) := by
  unfold tapCheck
  repeat' first
    | with_reducible assumption | with_reducible apply obsNote_kept
    | with_reducible refine kept_foldl _ _ (fun _ _ _ => ?_) ?_ | split

theorem liveChanged_kept {ip : State} (before s : State) (hk : Kept ip s) :
    Kept ip (liveChanged before s) := by
  unfold liveChanged
  repeat' first
    | with_reducible apply swapSelectors_kept | with_reducible apply evalMismatch_kept
    | with_reducible apply pmSwap_kept | with_reducible apply pruneDefects_kept | with_reducible apply countSwap_kept
    | with_reducible apply markChanged_kept
    | (refine kept_of ?_; dsimp only; with_reducible refine kept_to ?_; with_reducible assumption)

theorem swapPage_kept {ip : State} (s : State) (j : CommitJob) (hk : Kept ip s) :
    Kept ip (swapPage s j) := by
  unfold swapPage
  repeat' first
    | with_reducible apply countLegs_kept | with_reducible apply liveChanged_kept
    | (refine kept_of ?_; dsimp only; with_reducible refine kept_to ?_; with_reducible assumption)

theorem commitWrites_kept {ip : State} (c : LateCommit) (s : State) (hk : Kept ip s) :
    Kept ip (commitWrites c s) := by
  unfold commitWrites
  repeat' first
    | with_reducible assumption | with_reducible apply postAt_kept | with_reducible apply auditAdd_kept
    | with_reducible apply recordDue_kept

theorem recordSwap_kept {ip : State} (j : CommitJob) (s : State) (hk : Kept ip s) :
    Kept ip (recordSwap j s) := by
  unfold recordSwap
  repeat' first
    | with_reducible assumption | with_reducible apply raise_kept | with_reducible apply commitWrites_kept
    | (extract_lets +onlyGivenNames xk; first | (refine kept_cut (p := ip) xk ?_ ?_ <;> first | (intro hxk; clear_value xk) | subst xk) | subst xk)
    | with_reducible refine kept_ite ?_ ?_
    | (refine kept_of ?_; dsimp only; with_reducible refine kept_to ?_; with_reducible assumption)

theorem commitDone_kept {ip : State} (bn : Nat) (s : State) (hk : Kept ip s) :
    Kept ip (commitDone bn s) := by
  unfold commitDone
  repeat' first
    | with_reducible assumption | with_reducible apply openPage_kept | with_reducible apply endCommit_kept | split

theorem afterSwap_kept {ip : State} (j : CommitJob) (s : State) (hk : Kept ip s) :
    Kept ip (afterSwap j s) := by
  unfold afterSwap
  repeat' first
    | with_reducible assumption | with_reducible apply setJob_kept | with_reducible apply openPage_kept
    | with_reducible apply solveOn_kept | with_reducible apply commitDone_kept
    | (extract_lets +onlyGivenNames xk; first | (refine kept_cut (p := ip) xk ?_ ?_ <;> first | (intro hxk; clear_value xk) | subst xk) | subst xk)
    | with_reducible refine kept_ite ?_ ?_
    | (refine kept_of ?_; dsimp only; with_reducible refine kept_to ?_; with_reducible assumption)

theorem mirrorConfig_kept {ip : State} (s : State) (hk : Kept ip s) :
    Kept ip (mirrorConfig s) := by
  unfold mirrorConfig
  repeat' first
    | with_reducible assumption | with_reducible apply sendMate_kept | with_reducible apply sendGroup_kept
    | with_reducible apply internalMsg_kept | with_reducible refine kept_ite ?_ ?_
    | (refine kept_of ?_; dsimp only; with_reducible refine kept_to ?_; with_reducible assumption)

theorem dropSolution_kept {ip : State} (s : State) (hk : Kept ip s) :
    Kept ip (dropSolution s) := by
  unfold dropSolution
  repeat' first
    | with_reducible refine kept_ite ?_ ?_
    | (refine kept_of ?_; dsimp only; with_reducible refine kept_to ?_; with_reducible assumption)

theorem stage_kept {ip : State} (p : Page) (items : Nat) (s : State) (hk : Kept ip s) :
    Kept ip (stage p items s) := by
  unfold stage
  repeat' first
    | with_reducible apply mirrorStaged_kept | with_reducible apply dropSolution_kept
    | (refine kept_of ?_; dsimp only; with_reducible refine kept_to ?_; with_reducible assumption)

-- Machine/ConnCmds.lean.

theorem stageRecs_kept {ip : State} (tok : CmdTok) (p : Page) (rs : List StageRec) (s : State) (hk : Kept ip s) :
    Kept ip (stageRecs tok p rs s) := by
  unfold stageRecs
  repeat' first
    | with_reducible assumption | with_reducible apply completeOk_kept | with_reducible apply refuse_kept
    | with_reducible apply stage_kept
    | (extract_lets +onlyGivenNames xk; first | (refine kept_cut (p := ip) xk ?_ ?_ <;> first | (intro hxk; clear_value xk) | subst xk) | subst xk)
    | split

theorem stageBulk_kept {ip : State} (tok : CmdTok) (clear : Bool) (bs : Bytes) (s : State) (hk : Kept ip s) :
    Kept ip (stageBulk tok clear bs s) := by
  unfold stageBulk
  repeat' first
    | with_reducible assumption | with_reducible apply refuse_kept | with_reducible apply stageRecs_kept
    | (extract_lets +onlyGivenNames xk; first | (refine kept_cut (p := ip) xk ?_ ?_ <;> first | (intro hxk; clear_value xk) | subst xk) | subst xk)
    | split

theorem sealPage_kept {ip : State} (tok : CmdTok) (target : Nat) (flag : CommitFlag) (s : State) (hk : Kept ip s) :
    Kept ip (sealPage tok target flag s) := by
  unfold sealPage
  repeat' first
    | with_reducible apply mirrorStaged_kept | with_reducible apply solved_kept | with_reducible refine kept_ite ?_ ?_
    | (refine kept_of ?_; dsimp only; with_reducible refine kept_to ?_; with_reducible assumption)

theorem commitBody_kept {ip : State} (c : CmdEntry) (tok : CmdTok) (s : State) (hk : Kept ip s) :
    Kept ip (commitBody c tok s) := by
  unfold commitBody
  repeat' first
    | with_reducible assumption | with_reducible apply refuse_kept | with_reducible apply sealPage_kept
    | (extract_lets +onlyGivenNames xk; first | (refine kept_cut (p := ip) xk ?_ ?_ <;> first | (intro hxk; clear_value xk) | subst xk) | subst xk)
    | split

theorem discardStaged_kept {ip : State} (s : State) (hk : Kept ip s) :
    Kept ip (discardStaged s) := by
  unfold discardStaged
  repeat' first
    | with_reducible apply mirrorStaged_kept | with_reducible apply dropSolution_kept
    | (refine kept_of ?_; dsimp only; with_reducible refine kept_to ?_; with_reducible assumption)

theorem cancelJob_kept {ip : State} (s : State) (hk : Kept ip s) :
    Kept ip (cancelJob s) := by
  unfold cancelJob
  repeat' first
    | with_reducible assumption | with_reducible apply openPage_kept | with_reducible apply endCommit_kept | split

theorem cancelCommit_kept {ip : State} (s : State) (hk : Kept ip s) :
    Kept ip (cancelCommit s) := by
  unfold cancelCommit
  repeat' first
    | with_reducible assumption | with_reducible apply openPage_kept | with_reducible apply sendAbort_kept
    | with_reducible apply cancelJob_kept | split

theorem abortBody_kept {ip : State} (c : CmdEntry) (tok : CmdTok) (s : State) (hk : Kept ip s) :
    Kept ip (abortBody c tok s) := by
  unfold abortBody
  repeat' first
    | with_reducible assumption | with_reducible apply completeOk_kept | with_reducible apply discardStaged_kept
    | with_reducible apply cancelCommit_kept | with_reducible refine kept_ite ?_ ?_

theorem routeBody_kept {ip : State} (c : CmdEntry) (tok : CmdTok) (s : State) (hk : Kept ip s) :
    Kept ip (routeBody c tok s) := by
  unfold routeBody
  repeat' first
    | with_reducible assumption | with_reducible apply completeOk_kept | with_reducible apply withWrite_kept
    | with_reducible refine kept_ite ?_ ?_

theorem stageCarriers_kept {ip : State} (tok : CmdTok) (first : Nat) (rs : List (BitVec 128)) (s : State) (hk : Kept
    ip s) :
    Kept ip (stageCarriers tok first rs s) := by
  unfold stageCarriers
  repeat' first
    | with_reducible assumption | with_reducible apply completeOk_kept | with_reducible apply refuse_kept
    | with_reducible apply stage_kept | split

theorem quiesceRun_kept {ip : State} (first n : Nat) (on : Bool) (s : State) (hk : Kept ip s) :
    Kept ip (quiesceRun first n on s) := by
  unfold quiesceRun
  repeat' first | with_reducible assumption | with_reducible apply stage_kept

-- Machine/CommitRows.lean.

theorem stepDone_kept {ip : State} (x : StartStep) (s : State) (hk : Kept ip s) :
    Kept ip (stepDone x s) := hk

theorem readiness_kept {ip : State} (s : State) (hk : Kept ip s) :
    Kept ip (readiness s) := by
  unfold readiness
  repeat' first
    | with_reducible assumption | with_reducible apply setJob_kept | with_reducible apply resolveCause_kept | intro _
    | (extract_lets +onlyGivenNames xk; first | (refine kept_cut (p := ip) xk ?_ ?_ <;> first | (intro hxk; clear_value xk) | subst xk) | subst xk)
    | with_reducible refine kept_ite ?_ ?_ | split
    | (refine kept_of ?_; dsimp only; with_reducible refine kept_to ?_; first | with_reducible assumption | with_reducible apply setJob_kept | with_reducible apply resolveCause_kept)

theorem toFinal_kept {ip : State} (s : State) (hk : Kept ip s) :
    Kept ip (toFinal s) := hk

theorem heldOver_kept {ip : State} (s : State) (hk : Kept ip s) :
    Kept ip (heldOver s) := by
  unfold heldOver
  repeat' first
    | with_reducible assumption | with_reducible apply setJob_kept | with_reducible apply openPage_kept | intro _
    | (extract_lets +onlyGivenNames xk; first | (refine kept_cut (p := ip) xk ?_ ?_ <;> first | (intro hxk; clear_value xk) | subst xk) | subst xk)
    | with_reducible refine kept_ite ?_ ?_ | split
    | (refine kept_of ?_; dsimp only; with_reducible refine kept_to ?_; first | with_reducible assumption | with_reducible apply setJob_kept | with_reducible apply openPage_kept)

theorem issuerLapse_kept {ip : State} (s : State) (hk : Kept ip s) :
    Kept ip (issuerLapse s) := by
  unfold issuerLapse
  repeat' first
    | with_reducible assumption | with_reducible apply stopCommit_kept | intro _
    | (extract_lets +onlyGivenNames xk; first | (refine kept_cut (p := ip) xk ?_ ?_ <;> first | (intro hxk; clear_value xk) | subst xk) | subst xk)
    | with_reducible refine kept_ite ?_ ?_ | split
    | (refine kept_of ?_; dsimp only; with_reducible refine kept_to ?_; first | with_reducible assumption | with_reducible apply stopCommit_kept)

theorem finalPoint_kept {ip : State} (s : State) (hk : Kept ip s) :
    Kept ip (finalPoint s) := by
  unfold finalPoint
  repeat' first
    | with_reducible assumption | with_reducible apply resolveCause_kept | with_reducible apply abortRound_kept
    | with_reducible apply toFinal_kept | with_reducible apply heldOver_kept | intro _
    | (extract_lets +onlyGivenNames xk; first | (refine kept_cut (p := ip) xk ?_ ?_ <;> first | (intro hxk; clear_value xk) | subst xk) | subst xk)
    | with_reducible refine kept_ite ?_ ?_ | split
    | (refine kept_of ?_; dsimp only; with_reducible refine kept_to ?_; first | with_reducible assumption | with_reducible apply resolveCause_kept | with_reducible apply abortRound_kept | with_reducible apply toFinal_kept | with_reducible apply heldOver_kept)

theorem commitSwap_kept {ip : State} (s : State) (hk : Kept ip s) :
    Kept ip (commitSwap s) := by
  unfold commitSwap
  repeat' first
    | with_reducible assumption | with_reducible apply evalSelectors_kept | with_reducible apply tapCheck_kept
    | with_reducible apply swapPage_kept | with_reducible apply recordSwap_kept | with_reducible apply afterSwap_kept
    | with_reducible refine kept_foldl _ _ (fun _ _ _ => ?_) ?_ | intro _
    | (extract_lets +onlyGivenNames xk; first | (refine kept_cut (p := ip) xk ?_ ?_ <;> first | (intro hxk; clear_value xk) | subst xk) | subst xk)
    | with_reducible refine kept_ite ?_ ?_ | split
    | (refine kept_of ?_; dsimp only; with_reducible refine kept_to ?_; first | with_reducible assumption | with_reducible apply evalSelectors_kept | with_reducible apply tapCheck_kept | with_reducible apply swapPage_kept | with_reducible apply recordSwap_kept | with_reducible apply afterSwap_kept)

theorem faultJournal_kept {ip : State} (s : State) (hk : Kept ip s) :
    Kept ip (faultJournal s) := by
  unfold faultJournal
  repeat' first
    | with_reducible assumption | with_reducible apply raise_kept | with_reducible apply journalNote_kept | intro _
    | (extract_lets +onlyGivenNames xk; first | (refine kept_cut (p := ip) xk ?_ ?_ <;> first | (intro hxk; clear_value xk) | subst xk) | subst xk)
    | with_reducible refine kept_ite ?_ ?_ | split
    | (refine kept_of ?_; dsimp only; with_reducible refine kept_to ?_; first | with_reducible assumption | with_reducible apply raise_kept | with_reducible apply journalNote_kept)

theorem closeRecord_kept {ip : State} (rec : JRecord) (s : State) (hk : Kept ip s) :
    Kept ip (closeRecord rec s) := by
  unfold closeRecord
  repeat' first
    | with_reducible assumption | with_reducible apply bump_kept | with_reducible apply sendMate_kept
    | with_reducible apply faultJournal_kept | intro _
    | (extract_lets +onlyGivenNames xk; first | (refine kept_cut (p := ip) xk ?_ ?_ <;> first | (intro hxk; clear_value xk) | subst xk) | subst xk)
    | with_reducible refine kept_ite ?_ ?_ | split
    | (refine kept_of ?_; dsimp only; with_reducible refine kept_to ?_; first | with_reducible assumption | with_reducible apply bump_kept | with_reducible apply sendMate_kept | with_reducible apply faultJournal_kept)

theorem journalClose_kept {ip : State} (s : State) (hk : Kept ip s) :
    Kept ip (journalClose s) := by
  unfold journalClose
  repeat' first
    | with_reducible assumption | with_reducible apply closeRecord_kept | intro _
    | (extract_lets +onlyGivenNames xk; first | (refine kept_cut (p := ip) xk ?_ ?_ <;> first | (intro hxk; clear_value xk) | subst xk) | subst xk)
    | with_reducible refine kept_ite ?_ ?_ | split
    | (refine kept_of ?_; dsimp only; with_reducible refine kept_to ?_; first | with_reducible assumption | with_reducible apply closeRecord_kept)

theorem prepareDeadline_kept {ip : State} (s : State) (hk : Kept ip s) :
    Kept ip (prepareDeadline s) := by
  unfold prepareDeadline
  repeat' first
    | with_reducible assumption | with_reducible apply resolveCause_kept | intro _
    | (extract_lets +onlyGivenNames xk; first | (refine kept_cut (p := ip) xk ?_ ?_ <;> first | (intro hxk; clear_value xk) | subst xk) | subst xk)
    | with_reducible refine kept_ite ?_ ?_ | split
    | (refine kept_of ?_; dsimp only; with_reducible refine kept_to ?_; first | with_reducible assumption | with_reducible apply resolveCause_kept)

theorem prepareLater_kept {ip : State} (j : CommitJob) (m : Bytes) (s : State) (hk : Kept ip s) :
    Kept ip (prepareLater j m s) := by
  unfold prepareLater
  repeat' first
    | with_reducible assumption | with_reducible apply setJob_kept | with_reducible apply readyAhead_kept | intro _
    | (extract_lets +onlyGivenNames xk; first | (refine kept_cut (p := ip) xk ?_ ?_ <;> first | (intro hxk; clear_value xk) | subst xk) | subst xk)
    | with_reducible refine kept_ite ?_ ?_ | split
    | (refine kept_of ?_; dsimp only; with_reducible refine kept_to ?_; first | with_reducible assumption | with_reducible apply setJob_kept | with_reducible apply readyAhead_kept)

theorem prepareRx_kept {ip : State} (slice : Nat) (unit : Bool) (m : Bytes) (s : State) (hk : Kept ip s) :
    Kept ip (prepareRx slice unit m s) := by
  unfold prepareRx
  repeat' first
    | with_reducible assumption | with_reducible apply setJob_kept | with_reducible apply tryReady_kept
    | with_reducible apply prepareLater_kept | intro _
    | (extract_lets +onlyGivenNames xk; first | (refine kept_cut (p := ip) xk ?_ ?_ <;> first | (intro hxk; clear_value xk) | subst xk) | subst xk)
    | with_reducible refine kept_ite ?_ ?_ | split
    | (refine kept_of ?_; dsimp only; with_reducible refine kept_to ?_; first | with_reducible assumption | with_reducible apply setJob_kept | with_reducible apply tryReady_kept | with_reducible apply prepareLater_kept)

theorem readyRx_kept {ip : State} (slice : Nat) (unit : Bool) (m : Bytes) (s : State) (hk : Kept ip s) :
    Kept ip (readyRx slice unit m s) := by
  unfold readyRx
  repeat' first
    | with_reducible assumption | with_reducible apply setJob_kept | with_reducible apply abortRound_kept
    | with_reducible apply checkReady_kept | intro _
    | (extract_lets +onlyGivenNames xk; first | (refine kept_cut (p := ip) xk ?_ ?_ <;> first | (intro hxk; clear_value xk) | subst xk) | subst xk)
    | with_reducible refine kept_ite ?_ ?_ | split
    | (refine kept_of ?_; dsimp only; with_reducible refine kept_to ?_; first | with_reducible assumption | with_reducible apply setJob_kept | with_reducible apply abortRound_kept | with_reducible apply checkReady_kept)

theorem readyDeadline_kept {ip : State} (s : State) (hk : Kept ip s) :
    Kept ip (readyDeadline s) := by
  unfold readyDeadline
  repeat' first
    | with_reducible assumption | with_reducible apply abortRound_kept | intro _
    | (extract_lets +onlyGivenNames xk; first | (refine kept_cut (p := ip) xk ?_ ?_ <;> first | (intro hxk; clear_value xk) | subst xk) | subst xk)
    | with_reducible refine kept_ite ?_ ?_ | split
    | (refine kept_of ?_; dsimp only; with_reducible refine kept_to ?_; first | with_reducible assumption | with_reducible apply abortRound_kept)

theorem commitRx_kept {ip : State} (m : Bytes) (s : State) (hk : Kept ip s) :
    Kept ip (commitRx m s) := by
  unfold commitRx
  repeat' first
    | with_reducible assumption | with_reducible apply sendCommitMsg_kept | with_reducible apply setJob_kept | intro _
    | (extract_lets +onlyGivenNames xk; first | (refine kept_cut (p := ip) xk ?_ ?_ <;> first | (intro hxk; clear_value xk) | subst xk) | subst xk)
    | with_reducible refine kept_ite ?_ ?_ | split
    | (refine kept_of ?_; dsimp only; with_reducible refine kept_to ?_; first | with_reducible assumption | with_reducible apply sendCommitMsg_kept | with_reducible apply setJob_kept)

theorem ackRx_kept {ip : State} (slice : Nat) (unit : Bool) (m : Bytes) (s : State) (hk : Kept ip s) :
    Kept ip (ackRx slice unit m s) := by
  unfold ackRx
  repeat' first
    | with_reducible assumption | with_reducible apply setJob_kept | with_reducible apply checkAcks_kept | intro _
    | (extract_lets +onlyGivenNames xk; first | (refine kept_cut (p := ip) xk ?_ ?_ <;> first | (intro hxk; clear_value xk) | subst xk) | subst xk)
    | with_reducible refine kept_ite ?_ ?_ | split
    | (refine kept_of ?_; dsimp only; with_reducible refine kept_to ?_; first | with_reducible assumption | with_reducible apply setJob_kept | with_reducible apply checkAcks_kept)

theorem ackDeadline_kept {ip : State} (s : State) (hk : Kept ip s) :
    Kept ip (ackDeadline s) := by
  unfold ackDeadline
  repeat' first
    | with_reducible assumption | with_reducible apply abortRound_kept | intro _
    | (extract_lets +onlyGivenNames xk; first | (refine kept_cut (p := ip) xk ?_ ?_ <;> first | (intro hxk; clear_value xk) | subst xk) | subst xk)
    | with_reducible refine kept_ite ?_ ?_ | split
    | (refine kept_of ?_; dsimp only; with_reducible refine kept_to ?_; first | with_reducible assumption | with_reducible apply abortRound_kept)

theorem abortRx_kept {ip : State} (m : Bytes) (s : State) (hk : Kept ip s) :
    Kept ip (abortRx m s) := by
  unfold abortRx
  repeat' first
    | with_reducible assumption | with_reducible apply setJob_kept | with_reducible apply openPage_kept
    | with_reducible apply resolveCause_kept | with_reducible apply cancelJob_kept
    | with_reducible apply heldOver_kept | intro _
    | (extract_lets +onlyGivenNames xk; first | (refine kept_cut (p := ip) xk ?_ ?_ <;> first | (intro hxk; clear_value xk) | subst xk) | subst xk)
    | with_reducible refine kept_ite ?_ ?_ | split
    | (refine kept_of ?_; dsimp only; with_reducible refine kept_to ?_; first | with_reducible assumption | with_reducible apply setJob_kept | with_reducible apply openPage_kept | with_reducible apply resolveCause_kept | with_reducible apply cancelJob_kept | with_reducible apply heldOver_kept)

theorem refuseRx_kept {ip : State} (m : Bytes) (s : State) (hk : Kept ip s) :
    Kept ip (refuseRx m s) := by
  unfold refuseRx
  repeat' first
    | with_reducible assumption | with_reducible apply abortRound_kept | intro _
    | (extract_lets +onlyGivenNames xk; first | (refine kept_cut (p := ip) xk ?_ ?_ <;> first | (intro hxk; clear_value xk) | subst xk) | subst xk)
    | with_reducible refine kept_ite ?_ ?_ | split
    | (refine kept_of ?_; dsimp only; with_reducible refine kept_to ?_; first | with_reducible assumption | with_reducible apply abortRound_kept)

theorem refuseOnWarning_kept {ip : State} (s : State) (hk : Kept ip s) :
    Kept ip (refuseOnWarning s) := by
  unfold refuseOnWarning
  repeat' first
    | with_reducible assumption | with_reducible apply sendCommitMsg_kept | with_reducible apply setJob_kept | intro _
    | (extract_lets +onlyGivenNames xk; first | (refine kept_cut (p := ip) xk ?_ ?_ <;> first | (intro hxk; clear_value xk) | subst xk) | subst xk)
    | with_reducible refine kept_ite ?_ ?_ | split
    | (refine kept_of ?_; dsimp only; with_reducible refine kept_to ?_; first | with_reducible assumption | with_reducible apply sendCommitMsg_kept | with_reducible apply setJob_kept)

theorem roleCause_kept {ip : State} (s : State) (hk : Kept ip s) :
    Kept ip (roleCause s) := by
  unfold roleCause
  repeat' first
    | with_reducible assumption | with_reducible apply setJob_kept | with_reducible apply abortRound_kept | intro _
    | (extract_lets +onlyGivenNames xk; first | (refine kept_cut (p := ip) xk ?_ ?_ <;> first | (intro hxk; clear_value xk) | subst xk) | subst xk)
    | with_reducible refine kept_ite ?_ ?_ | split
    | (refine kept_of ?_; dsimp only; with_reducible refine kept_to ?_; first | with_reducible assumption | with_reducible apply setJob_kept | with_reducible apply abortRound_kept)

theorem abortRepeat_kept {ip : State} (s : State) (hk : Kept ip s) :
    Kept ip (abortRepeat s) := by
  unfold abortRepeat
  repeat' first
    | with_reducible assumption | with_reducible apply sendCommitMsg_kept
    | with_reducible refine kept_foldl _ _ (fun _ _ _ => ?_) ?_ | intro _
    | (extract_lets +onlyGivenNames xk; first | (refine kept_cut (p := ip) xk ?_ ?_ <;> first | (intro hxk; clear_value xk) | subst xk) | subst xk)
    | with_reducible refine kept_ite ?_ ?_ | split
    | (refine kept_of ?_; dsimp only; with_reducible refine kept_to ?_; first | with_reducible assumption | with_reducible apply sendCommitMsg_kept)

theorem roundRepeat_kept {ip : State} (s : State) (hk : Kept ip s) :
    Kept ip (roundRepeat s) := by
  unfold roundRepeat
  repeat' first
    | with_reducible assumption | with_reducible apply sendCommitMsg_kept | with_reducible apply checkAcks_kept
    | with_reducible apply checkReady_kept | with_reducible apply prepareAll_kept | with_reducible apply readyAll_kept
    | intro _
    | (extract_lets +onlyGivenNames xk; first | (refine kept_cut (p := ip) xk ?_ ?_ <;> first | (intro hxk; clear_value xk) | subst xk) | subst xk)
    | with_reducible refine kept_ite ?_ ?_ | split
    | (refine kept_of ?_; dsimp only; with_reducible refine kept_to ?_; first | with_reducible assumption | with_reducible apply sendCommitMsg_kept | with_reducible apply checkAcks_kept | with_reducible apply checkReady_kept | with_reducible apply prepareAll_kept | with_reducible apply readyAll_kept)

theorem aheadRepeat_kept {ip : State} (s : State) (hk : Kept ip s) :
    Kept ip (aheadRepeat s) := by
  unfold aheadRepeat
  repeat' first
    | with_reducible assumption | with_reducible apply sendCommitMsg_kept
    | with_reducible refine kept_foldl _ _ (fun _ _ _ => ?_) ?_ | intro _
    | (extract_lets +onlyGivenNames xk; first | (refine kept_cut (p := ip) xk ?_ ?_ <;> first | (intro hxk; clear_value xk) | subst xk) | subst xk)
    | with_reducible refine kept_ite ?_ ?_ | split
    | (refine kept_of ?_; dsimp only; with_reducible refine kept_to ?_; first | with_reducible assumption | with_reducible apply sendCommitMsg_kept)

theorem commitRepeat_kept {ip : State} (s : State) (hk : Kept ip s) :
    Kept ip (commitRepeat s) := by
  unfold commitRepeat
  repeat' first
    | with_reducible assumption | with_reducible apply issuerLapse_kept | with_reducible apply abortRepeat_kept
    | with_reducible apply roundRepeat_kept | with_reducible apply aheadRepeat_kept | intro _
    | (extract_lets +onlyGivenNames xk; first | (refine kept_cut (p := ip) xk ?_ ?_ <;> first | (intro hxk; clear_value xk) | subst xk) | subst xk)
    | with_reducible refine kept_ite ?_ ?_ | split
    | (refine kept_of ?_; dsimp only; with_reducible refine kept_to ?_; first | with_reducible assumption | with_reducible apply issuerLapse_kept | with_reducible apply abortRepeat_kept | with_reducible apply roundRepeat_kept | with_reducible apply aheadRepeat_kept)

-- Machine/Bus.lean.

theorem clusterWrite_kept {ip : State} (b : Nat) (v : Byte) (s : State) (hk : Kept ip s) :
    Kept ip (clusterWrite b v s) := by
  unfold clusterWrite
  repeat' first
    | with_reducible assumption | intro _
    | (extract_lets +onlyGivenNames xk; first | (refine kept_cut (p := ip) xk ?_ ?_ <;> first | (intro hxk; clear_value xk) | subst xk) | subst xk)
    | with_reducible refine kept_ite ?_ ?_ | split
    | (refine kept_of ?_; dsimp only; with_reducible refine kept_to ?_; with_reducible assumption)

theorem exclusiveRead_kept {ip : State} (core a : Nat) (s : State) (hk : Kept ip s) :
    Kept ip (exclusiveRead core a s) := by
  unfold exclusiveRead
  repeat' first
    | with_reducible assumption | intro _
    | (extract_lets +onlyGivenNames xk; first | (refine kept_cut (p := ip) xk ?_ ?_ <;> first | (intro hxk; clear_value xk) | subst xk) | subst xk)
    | with_reducible refine kept_ite ?_ ?_ | split
    | (refine kept_of ?_; dsimp only; with_reducible refine kept_to ?_; with_reducible assumption)

theorem clearMonitors_kept {ip : State} (master a : Nat) (s : State) (hk : Kept ip s) :
    Kept ip (clearMonitors master a s) := hk

theorem noteAnswer_kept {ip : State} (a : BusAnswer) (s : State) (hk : Kept ip s) :
    Kept ip (noteAnswer a s) := by
  unfold noteAnswer
  repeat' first
    | with_reducible assumption | with_reducible apply raise_kept | with_reducible apply bump_kept | intro _
    | (extract_lets +onlyGivenNames xk; first | (refine kept_cut (p := ip) xk ?_ ?_ <;> first | (intro hxk; clear_value xk) | subst xk) | subst xk)
    | with_reducible refine kept_ite ?_ ?_ | split
    | (refine kept_of ?_; dsimp only; with_reducible refine kept_to ?_; first | with_reducible assumption | with_reducible apply raise_kept | with_reducible apply bump_kept)

theorem busWrite_kept {ip : State} (master a : Nat) (v : Byte) (s : State) (hk : Kept ip s) :
    Kept ip (busWrite master a v s) := by
  unfold busWrite
  repeat' first
    | with_reducible assumption | with_reducible apply stage_kept | with_reducible apply clusterWrite_kept
    | with_reducible apply clearMonitors_kept | with_reducible apply noteAnswer_kept | intro _
    | (extract_lets +onlyGivenNames xk; first | (refine kept_cut (p := ip) xk ?_ ?_ <;> first | (intro hxk; clear_value xk) | subst xk) | subst xk)
    | with_reducible refine kept_ite ?_ ?_ | split
    | (refine kept_of ?_; dsimp only; with_reducible refine kept_to ?_; first | with_reducible assumption | with_reducible apply stage_kept | with_reducible apply clusterWrite_kept | with_reducible apply clearMonitors_kept | with_reducible apply noteAnswer_kept)

theorem startDrain_kept {ip : State} (ms : List Nat) (s : State) (hk : Kept ip s) :
    Kept ip (startDrain ms s) := hk

-- Machine/Dma.lean.

theorem putCh_kept {ip : State} (n : Nat) (c : DmaCh) (s : State) (hk : Kept ip s) :
    Kept ip (putCh n c s) := hk

theorem dmaGoOn_kept {ip : State} (n : Nat) (s : State) (hk : Kept ip s) :
    Kept ip (dmaGoOn n s) := by
  unfold dmaGoOn
  repeat' first
    | with_reducible assumption | with_reducible apply putCh_kept | intro _
    | (extract_lets +onlyGivenNames xk; first | (refine kept_cut (p := ip) xk ?_ ?_ <;> first | (intro hxk; clear_value xk) | subst xk) | subst xk)
    | with_reducible refine kept_ite ?_ ?_ | split
    | (refine kept_of ?_; dsimp only; with_reducible refine kept_to ?_; first | with_reducible assumption | with_reducible apply putCh_kept)

theorem leaveTransfer_kept {ip : State} (n : Nat) (s : State) (hk : Kept ip s) :
    Kept ip (leaveTransfer n s) := hk

theorem withdraw_kept {ip : State} (n : Nat) (s : State) (hk : Kept ip s) :
    Kept ip (withdraw n s) := by
  unfold withdraw
  repeat' first
    | with_reducible assumption | with_reducible apply dmaGoOn_kept | with_reducible apply leaveTransfer_kept
    | intro _
    | (extract_lets +onlyGivenNames xk; first | (refine kept_cut (p := ip) xk ?_ ?_ <;> first | (intro hxk; clear_value xk) | subst xk) | subst xk)
    | with_reducible refine kept_ite ?_ ?_ | split
    | (refine kept_of ?_; dsimp only; with_reducible refine kept_to ?_; first | with_reducible assumption | with_reducible apply dmaGoOn_kept | with_reducible apply leaveTransfer_kept)

theorem drewDma_kept {ip : State} (s : State) (hk : Kept ip s) :
    Kept ip (drewDma s) := hk

theorem dmaStopOn_kept {ip : State} (n : Nat) (s : State) (hk : Kept ip s) :
    Kept ip (dmaStopOn n s) := by
  unfold dmaStopOn
  repeat' first
    | with_reducible assumption | with_reducible apply putCh_kept | with_reducible apply leaveTransfer_kept
    | with_reducible apply drewDma_kept | intro _
    | (extract_lets +onlyGivenNames xk; first | (refine kept_cut (p := ip) xk ?_ ?_ <;> first | (intro hxk; clear_value xk) | subst xk) | subst xk)
    | with_reducible refine kept_ite ?_ ?_ | split
    | (refine kept_of ?_; dsimp only; with_reducible refine kept_to ?_; first | with_reducible assumption | with_reducible apply putCh_kept | with_reducible apply leaveTransfer_kept | with_reducible apply drewDma_kept)

theorem dmaPauseOn_kept {ip : State} (n : Nat) (on : Bool) (s : State) (hk : Kept ip s) :
    Kept ip (dmaPauseOn n on s) := by
  unfold dmaPauseOn
  repeat' first
    | with_reducible assumption | with_reducible apply putCh_kept | with_reducible apply drewDma_kept | intro _
    | (extract_lets +onlyGivenNames xk; first | (refine kept_cut (p := ip) xk ?_ ?_ <;> first | (intro hxk; clear_value xk) | subst xk) | subst xk)
    | with_reducible refine kept_ite ?_ ?_ | split
    | (refine kept_of ?_; dsimp only; with_reducible refine kept_to ?_; first | with_reducible assumption | with_reducible apply putCh_kept | with_reducible apply drewDma_kept)

theorem dmaFields_kept {ip : State} (n : Nat) (v : Word32) (s : State) (hk : Kept ip s) :
    Kept ip (dmaFields n v s) := by
  unfold dmaFields
  repeat' first
    | with_reducible assumption | with_reducible apply putCh_kept | intro _
    | (extract_lets +onlyGivenNames xk; first | (refine kept_cut (p := ip) xk ?_ ?_ <;> first | (intro hxk; clear_value xk) | subst xk) | subst xk)
    | with_reducible refine kept_ite ?_ ?_ | split
    | (refine kept_of ?_; dsimp only; with_reducible refine kept_to ?_; first | with_reducible assumption | with_reducible apply putCh_kept)

theorem dmaCtrlWrite_kept {ip : State} (n : Nat) (v : Word32) (s : State) (hk : Kept ip s) :
    Kept ip (dmaCtrlWrite n v s) := by
  unfold dmaCtrlWrite
  repeat' first
    | with_reducible assumption | with_reducible apply putCh_kept | with_reducible apply dmaGoOn_kept
    | with_reducible apply dmaStopOn_kept | with_reducible apply dmaPauseOn_kept | with_reducible apply dmaFields_kept
    | intro _
    | (extract_lets +onlyGivenNames xk; first | (refine kept_cut (p := ip) xk ?_ ?_ <;> first | (intro hxk; clear_value xk) | subst xk) | subst xk)
    | with_reducible refine kept_ite ?_ ?_ | split
    | (refine kept_of ?_; dsimp only; with_reducible refine kept_to ?_; first | with_reducible assumption | with_reducible apply putCh_kept | with_reducible apply dmaGoOn_kept | with_reducible apply dmaStopOn_kept | with_reducible apply dmaPauseOn_kept | with_reducible apply dmaFields_kept)

theorem hostCtrlWrite_kept {ip : State} (n : Nat) (v : Word32) (s : State) (hk : Kept ip s) :
    Kept ip (hostCtrlWrite n v s) := by
  unfold hostCtrlWrite
  repeat' first
    | with_reducible assumption | with_reducible apply raise_kept | with_reducible apply dmaCtrlWrite_kept | intro _
    | (extract_lets +onlyGivenNames xk; first | (refine kept_cut (p := ip) xk ?_ ?_ <;> first | (intro hxk; clear_value xk) | subst xk) | subst xk)
    | with_reducible refine kept_ite ?_ ?_ | split
    | (refine kept_of ?_; dsimp only; with_reducible refine kept_to ?_; first | with_reducible assumption | with_reducible apply raise_kept | with_reducible apply dmaCtrlWrite_kept)

theorem paceEvent_kept {ip : State} (n : Nat) (s : State) (hk : Kept ip s) :
    Kept ip (paceEvent n s) := by
  unfold paceEvent
  repeat' first
    | with_reducible assumption | with_reducible apply bump_kept | with_reducible apply putCh_kept | intro _
    | (extract_lets +onlyGivenNames xk; first | (refine kept_cut (p := ip) xk ?_ ?_ <;> first | (intro hxk; clear_value xk) | subst xk) | subst xk)
    | with_reducible refine kept_ite ?_ ?_ | split
    | (refine kept_of ?_; dsimp only; with_reducible refine kept_to ?_; first | with_reducible assumption | with_reducible apply bump_kept | with_reducible apply putCh_kept)

theorem chainPace_kept {ip : State} (n : Nat) (s : State) (hk : Kept ip s) :
    Kept ip (chainPace n s) := by
  unfold chainPace
  repeat' first
    | with_reducible assumption | with_reducible apply paceEvent_kept
    | with_reducible refine kept_foldl _ _ (fun _ _ _ => ?_) ?_ | intro _
    | (extract_lets +onlyGivenNames xk; first | (refine kept_cut (p := ip) xk ?_ ?_ <;> first | (intro hxk; clear_value xk) | subst xk) | subst xk)
    | with_reducible refine kept_ite ?_ ?_ | split
    | (refine kept_of ?_; dsimp only; with_reducible refine kept_to ?_; first | with_reducible assumption | with_reducible apply paceEvent_kept)

theorem dmaComplete_kept {ip : State} (n : Nat) (s : State) (hk : Kept ip s) :
    Kept ip (dmaComplete n s) := by
  unfold dmaComplete
  repeat' first
    | with_reducible assumption | with_reducible apply putCh_kept | with_reducible apply withdraw_kept
    | with_reducible apply chainPace_kept | intro _
    | (extract_lets +onlyGivenNames xk; first | (refine kept_cut (p := ip) xk ?_ ?_ <;> first | (intro hxk; clear_value xk) | subst xk) | subst xk)
    | with_reducible refine kept_ite ?_ ?_ | split
    | (refine kept_of ?_; dsimp only; with_reducible refine kept_to ?_; first | with_reducible assumption | with_reducible apply putCh_kept | with_reducible apply withdraw_kept | with_reducible apply chainPace_kept)

theorem bulkBurst_kept {ip : State} (s : State) (hk : Kept ip s) :
    Kept ip (bulkBurst s) := by
  unfold bulkBurst
  repeat' first
    | with_reducible assumption | with_reducible apply putCh_kept | intro _
    | (extract_lets +onlyGivenNames xk; first | (refine kept_cut (p := ip) xk ?_ ?_ <;> first | (intro hxk; clear_value xk) | subst xk) | subst xk)
    | with_reducible refine kept_ite ?_ ?_ | split
    | (refine kept_of ?_; dsimp only; with_reducible refine kept_to ?_; first | with_reducible assumption | with_reducible apply putCh_kept)

theorem ringBurst_kept {ip : State} (n : Nat) (s : State) (hk : Kept ip s) :
    Kept ip (ringBurst n s) := by
  unfold ringBurst
  repeat' first
    | with_reducible assumption | with_reducible apply putCh_kept | intro _
    | (extract_lets +onlyGivenNames xk; first | (refine kept_cut (p := ip) xk ?_ ?_ <;> first | (intro hxk; clear_value xk) | subst xk) | subst xk)
    | with_reducible refine kept_ite ?_ ?_ | split
    | (refine kept_of ?_; dsimp only; with_reducible refine kept_to ?_; first | with_reducible assumption | with_reducible apply putCh_kept)

theorem burstDone_kept {ip : State} (n : Nat) (s : State) (hk : Kept ip s) :
    Kept ip (burstDone n s) := by
  unfold burstDone
  repeat' first
    | with_reducible assumption | with_reducible apply bump_kept | with_reducible apply putCh_kept
    | with_reducible apply drewDma_kept | with_reducible apply dmaComplete_kept | with_reducible apply bulkBurst_kept
    | with_reducible apply ringBurst_kept | intro _
    | (extract_lets +onlyGivenNames xk; first | (refine kept_cut (p := ip) xk ?_ ?_ <;> first | (intro hxk; clear_value xk) | subst xk) | subst xk)
    | with_reducible refine kept_ite ?_ ?_ | split
    | (refine kept_of ?_; dsimp only; (first | with_reducible refine keptF_segs _ _ _ ?_ | with_reducible refine keptF_store _ _ ?_ | skip); with_reducible refine kept_to ?_; first | with_reducible assumption | with_reducible apply bump_kept | with_reducible apply putCh_kept | with_reducible apply drewDma_kept | with_reducible apply dmaComplete_kept | with_reducible apply bulkBurst_kept | with_reducible apply ringBurst_kept)

theorem haltCh_kept {ip : State} (n cause : Nat) (s : State) (hk : Kept ip s) :
    Kept ip (haltCh n cause s) := hk

theorem haltRing_kept {ip : State} (n : Nat) (s : State) (hk : Kept ip s) :
    Kept ip (haltRing n s) := by
  unfold haltRing
  repeat' first
    | with_reducible assumption | with_reducible apply raise_kept | with_reducible apply noteHeld_kept | intro _
    | (extract_lets +onlyGivenNames xk; first | (refine kept_cut (p := ip) xk ?_ ?_ <;> first | (intro hxk; clear_value xk) | subst xk) | subst xk)
    | with_reducible refine kept_ite ?_ ?_ | split
    | (refine kept_of ?_; dsimp only; with_reducible refine kept_to ?_; first | with_reducible assumption | with_reducible apply raise_kept | with_reducible apply noteHeld_kept)

theorem lastFailure_kept {ip : State} (n cause : Nat) (s : State) (hk : Kept ip s) :
    Kept ip (lastFailure n cause s) := by
  unfold lastFailure
  repeat' first
    | with_reducible assumption | with_reducible apply putCh_kept | with_reducible apply haltCh_kept
    | with_reducible apply haltRing_kept | intro _
    | (extract_lets +onlyGivenNames xk; first | (refine kept_cut (p := ip) xk ?_ ?_ <;> first | (intro hxk; clear_value xk) | subst xk) | subst xk)
    | with_reducible refine kept_ite ?_ ?_ | split
    | (refine kept_of ?_; dsimp only; with_reducible refine kept_to ?_; first | with_reducible assumption | with_reducible apply putCh_kept | with_reducible apply haltCh_kept | with_reducible apply haltRing_kept)

theorem noteAer_kept {ip : State} (s : State) (hk : Kept ip s) :
    Kept ip (noteAer s) := hk

theorem noteError_kept {ip : State} (cause : Nat) (s : State) (hk : Kept ip s) :
    Kept ip (noteError cause s) := by
  unfold noteError
  repeat' first
    | with_reducible assumption | with_reducible apply noteAnswer_kept | with_reducible apply noteAer_kept | intro _
    | (extract_lets +onlyGivenNames xk; first | (refine kept_cut (p := ip) xk ?_ ?_ <;> first | (intro hxk; clear_value xk) | subst xk) | subst xk)
    | with_reducible refine kept_ite ?_ ?_ | split
    | (refine kept_of ?_; dsimp only; with_reducible refine kept_to ?_; first | with_reducible assumption | with_reducible apply noteAnswer_kept | with_reducible apply noteAer_kept)

theorem burstFails_kept {ip : State} (n cause : Nat) (s : State) (hk : Kept ip s) :
    Kept ip (burstFails n cause s) := by
  unfold burstFails
  repeat' first
    | with_reducible assumption | with_reducible apply bump_kept | with_reducible apply putCh_kept
    | with_reducible apply lastFailure_kept | with_reducible apply noteError_kept | intro _
    | (extract_lets +onlyGivenNames xk; first | (refine kept_cut (p := ip) xk ?_ ?_ <;> first | (intro hxk; clear_value xk) | subst xk) | subst xk)
    | with_reducible refine kept_ite ?_ ?_ | split
    | (refine kept_of ?_; dsimp only; with_reducible refine kept_to ?_; first | with_reducible assumption | with_reducible apply bump_kept | with_reducible apply putCh_kept | with_reducible apply lastFailure_kept | with_reducible apply noteError_kept)

theorem stopChannels_kept {ip : State} (ns : List Nat) (s : State) (hk : Kept ip s) :
    Kept ip (stopChannels ns s) := by
  unfold stopChannels
  repeat' first
    | with_reducible assumption | with_reducible apply dmaStopOn_kept
    | with_reducible refine kept_foldl _ _ (fun _ _ _ => ?_) ?_ | intro _
    | (extract_lets +onlyGivenNames xk; first | (refine kept_cut (p := ip) xk ?_ ?_ <;> first | (intro hxk; clear_value xk) | subst xk) | subst xk)
    | with_reducible refine kept_ite ?_ ?_ | split
    | (refine kept_of ?_; dsimp only; with_reducible refine kept_to ?_; first | with_reducible assumption | with_reducible apply dmaStopOn_kept)

theorem perstDma_kept {ip : State} (s : State) (hk : Kept ip s) :
    Kept ip (perstDma s) := by
  unfold perstDma
  repeat' first
    | with_reducible assumption | with_reducible apply stopChannels_kept | intro _
    | (extract_lets +onlyGivenNames xk; first | (refine kept_cut (p := ip) xk ?_ ?_ <;> first | (intro hxk; clear_value xk) | subst xk) | subst xk)
    | with_reducible refine kept_ite ?_ ?_ | split
    | (refine kept_of ?_; dsimp only; with_reducible refine kept_to ?_; first | with_reducible assumption | with_reducible apply stopChannels_kept)

-- Machine/Timing.lean.

theorem putSlotSt_kept {ip : State} (i : Nat) (x : SlotState) (s : State) (hk : Kept ip s) :
    Kept ip (putSlotSt i x s) := hk

theorem timNote_kept {ip : State} (b : Nat) (first : Option Nat) (second : Nat) (s : State) (hk : Kept ip s) :
    Kept ip (timNote b first second s) := by
  unfold timNote
  repeat' first
    | with_reducible assumption | with_reducible apply raise_kept | with_reducible apply post_kept | intro _
    | (extract_lets +onlyGivenNames xk; first | (refine kept_cut (p := ip) xk ?_ ?_ <;> first | (intro hxk; clear_value xk) | subst xk) | subst xk)
    | with_reducible refine kept_ite ?_ ?_ | split
    | (refine kept_of ?_; dsimp only; with_reducible refine kept_to ?_; first | with_reducible assumption | with_reducible apply raise_kept | with_reducible apply post_kept)

theorem setDpll_kept {ip : State} (st : BitVec 3) (s : State) (hk : Kept ip s) :
    Kept ip (setDpll st s) := by
  unfold setDpll
  repeat' first
    | with_reducible assumption | with_reducible apply timNote_kept | intro _
    | (extract_lets +onlyGivenNames xk; first | (refine kept_cut (p := ip) xk ?_ ?_ <;> first | (intro hxk; clear_value xk) | subst xk) | subst xk)
    | with_reducible refine kept_ite ?_ ?_ | split
    | (refine kept_of ?_; dsimp only; with_reducible refine kept_to ?_; first | with_reducible assumption | with_reducible apply timNote_kept)

theorem stopTracking_kept {ip : State} (s : State) (hk : Kept ip s) :
    Kept ip (stopTracking s) := by
  unfold stopTracking
  repeat' first
    | with_reducible assumption | intro _
    | (extract_lets +onlyGivenNames xk; first | (refine kept_cut (p := ip) xk ?_ ?_ <;> first | (intro hxk; clear_value xk) | subst xk) | subst xk)
    | with_reducible refine kept_ite ?_ ?_ | split
    | (refine kept_of ?_; dsimp only; with_reducible refine kept_to ?_; with_reducible assumption)

theorem toHoldover_kept {ip : State} (s : State) (hk : Kept ip s) :
    Kept ip (toHoldover s) := by
  unfold toHoldover
  repeat' first
    | with_reducible assumption | with_reducible apply timNote_kept | with_reducible apply setDpll_kept | intro _
    | (extract_lets +onlyGivenNames xk; first | (refine kept_cut (p := ip) xk ?_ ?_ <;> first | (intro hxk; clear_value xk) | subst xk) | subst xk)
    | with_reducible refine kept_ite ?_ ?_ | split
    | (refine kept_of ?_; dsimp only; with_reducible refine kept_to ?_; first | with_reducible assumption | with_reducible apply timNote_kept | with_reducible apply setDpll_kept)

theorem fromXo_kept {ip : State} (s : State) (hk : Kept ip s) :
    Kept ip (fromXo s) := hk

theorem toFreeRun_kept {ip : State} (s : State) (hk : Kept ip s) :
    Kept ip (toFreeRun s) := by
  unfold toFreeRun
  repeat' first
    | with_reducible assumption | with_reducible apply setDpll_kept | with_reducible apply fromXo_kept | intro _
    | (extract_lets +onlyGivenNames xk; first | (refine kept_cut (p := ip) xk ?_ ?_ <;> first | (intro hxk; clear_value xk) | subst xk) | subst xk)
    | with_reducible refine kept_ite ?_ ?_ | split
    | (refine kept_of ?_; dsimp only; with_reducible refine kept_to ?_; first | with_reducible assumption | with_reducible apply setDpll_kept | with_reducible apply fromXo_kept)

theorem openLoop_kept {ip : State} (s : State) (hk : Kept ip s) :
    Kept ip (openLoop s) := by
  unfold openLoop
  repeat' first
    | with_reducible assumption | with_reducible apply stopTracking_kept | with_reducible apply toHoldover_kept
    | with_reducible apply toFreeRun_kept | intro _
    | (extract_lets +onlyGivenNames xk; first | (refine kept_cut (p := ip) xk ?_ ?_ <;> first | (intro hxk; clear_value xk) | subst xk) | subst xk)
    | with_reducible refine kept_ite ?_ ?_ | split
    | (refine kept_of ?_; dsimp only; with_reducible refine kept_to ?_; first | with_reducible assumption | with_reducible apply stopTracking_kept | with_reducible apply toHoldover_kept | with_reducible apply toFreeRun_kept)

theorem applyBlock_kept {ip : State} (s : State) (hk : Kept ip s) :
    Kept ip (applyBlock s) := hk

theorem tickQl_kept {ip : State} (s : State) (i : Nat) (hk : Kept ip s) :
    Kept ip (tickQl s i) := by
  unfold tickQl
  repeat' first
    | with_reducible assumption | with_reducible apply putSlotSt_kept | with_reducible apply timNote_kept | intro _
    | (extract_lets +onlyGivenNames xk; first | (refine kept_cut (p := ip) xk ?_ ?_ <;> first | (intro hxk; clear_value xk) | subst xk) | subst xk)
    | with_reducible refine kept_ite ?_ ?_ | split
    | (refine kept_of ?_; dsimp only; with_reducible refine kept_to ?_; first | with_reducible assumption | with_reducible apply putSlotSt_kept | with_reducible apply timNote_kept)

theorem tickSince_kept {ip : State} (s : State) (i : Nat) (hk : Kept ip s) :
    Kept ip (tickSince s i) := hk

theorem tickSample_kept {ip : State} (s : State) (hk : Kept ip s) :
    Kept ip (tickSample s) := by
  unfold tickSample
  repeat' first
    | with_reducible assumption | intro _
    | (extract_lets +onlyGivenNames xk; first | (refine kept_cut (p := ip) xk ?_ ?_ <;> first | (intro hxk; clear_value xk) | subst xk) | subst xk)
    | with_reducible refine kept_ite ?_ ?_ | split
    | (refine kept_of ?_; dsimp only; with_reducible refine kept_to ?_; with_reducible assumption)

theorem takePhase_kept {ip : State} (s : State) (hk : Kept ip s) :
    Kept ip (takePhase s) := hk

theorem startTracking_kept {ip : State} (s : State) (hk : Kept ip s) :
    Kept ip (startTracking s) := hk

theorem refSwitch_kept {ip : State} (c : Nat) (s : State) (hk : Kept ip s) :
    Kept ip (refSwitch c s) := by
  unfold refSwitch
  repeat' first
    | with_reducible assumption | with_reducible apply bump_kept | with_reducible apply timNote_kept
    | with_reducible apply setDpll_kept | with_reducible apply startTracking_kept | intro _
    | (extract_lets +onlyGivenNames xk; first | (refine kept_cut (p := ip) xk ?_ ?_ <;> first | (intro hxk; clear_value xk) | subst xk) | subst xk)
    | with_reducible refine kept_ite ?_ ?_ | split
    | (refine kept_of ?_; dsimp only; with_reducible refine kept_to ?_; first | with_reducible assumption | with_reducible apply bump_kept | with_reducible apply timNote_kept | with_reducible apply setDpll_kept | with_reducible apply startTracking_kept)

theorem actOn_kept {ip : State} (choice : Option Nat) (s : State) (hk : Kept ip s) :
    Kept ip (actOn choice s) := by
  unfold actOn
  repeat' first
    | with_reducible assumption | with_reducible apply bump_kept | with_reducible apply timNote_kept
    | with_reducible apply stopTracking_kept | with_reducible apply toHoldover_kept
    | with_reducible apply toFreeRun_kept | with_reducible apply openLoop_kept
    | with_reducible apply startTracking_kept | with_reducible apply refSwitch_kept | intro _
    | (extract_lets +onlyGivenNames xk; first | (refine kept_cut (p := ip) xk ?_ ?_ <;> first | (intro hxk; clear_value xk) | subst xk) | subst xk)
    | with_reducible refine kept_ite ?_ ?_ | split
    | (refine kept_of ?_; dsimp only; with_reducible refine kept_to ?_; first | with_reducible assumption | with_reducible apply bump_kept | with_reducible apply timNote_kept | with_reducible apply stopTracking_kept | with_reducible apply toHoldover_kept | with_reducible apply toFreeRun_kept | with_reducible apply openLoop_kept | with_reducible apply startTracking_kept | with_reducible apply refSwitch_kept)

theorem refConflict_kept {ip : State} (a b : Nat) (s : State) (hk : Kept ip s) :
    Kept ip (refConflict a b s) := by
  unfold refConflict
  repeat' first
    | with_reducible assumption | with_reducible apply timNote_kept | intro _
    | (extract_lets +onlyGivenNames xk; first | (refine kept_cut (p := ip) xk ?_ ?_ <;> first | (intro hxk; clear_value xk) | subst xk) | subst xk)
    | with_reducible refine kept_ite ?_ ?_ | split
    | (refine kept_of ?_; dsimp only; with_reducible refine kept_to ?_; first | with_reducible assumption | with_reducible apply timNote_kept)

theorem tickPairs_kept {ip : State} (s : State) (hk : Kept ip s) :
    Kept ip (tickPairs s) := by
  unfold tickPairs
  repeat' first
    | with_reducible assumption | with_reducible apply refConflict_kept
    | with_reducible refine kept_foldl _ _ (fun _ _ _ => ?_) ?_ | intro _
    | (extract_lets +onlyGivenNames xk; first | (refine kept_cut (p := ip) xk ?_ ?_ <;> first | (intro hxk; clear_value xk) | subst xk) | subst xk)
    | with_reducible refine kept_ite ?_ ?_ | split
    | (refine kept_of ?_; dsimp only; with_reducible refine kept_to ?_; first | with_reducible assumption | with_reducible apply refConflict_kept)

theorem tick_kept {ip : State} (s : State) (hk : Kept ip s) :
    Kept ip (tick s) := by
  unfold tick
  repeat' first
    | with_reducible assumption | with_reducible apply bump_kept | with_reducible apply applyBlock_kept
    | with_reducible apply tickQl_kept | with_reducible apply tickSince_kept | with_reducible apply tickSample_kept
    | with_reducible apply actOn_kept | with_reducible apply tickPairs_kept
    | with_reducible refine kept_foldl _ _ (fun _ _ _ => ?_) ?_ | intro _
    | (extract_lets +onlyGivenNames xk; first | (refine kept_cut (p := ip) xk ?_ ?_ <;> first | (intro hxk; clear_value xk) | subst xk) | subst xk)
    | with_reducible refine kept_ite ?_ ?_ | split
    | (refine kept_of ?_; dsimp only; with_reducible refine kept_to ?_; first | with_reducible assumption | with_reducible apply bump_kept | with_reducible apply applyBlock_kept | with_reducible apply tickQl_kept | with_reducible apply tickSince_kept | with_reducible apply tickSample_kept | with_reducible apply actOn_kept | with_reducible apply tickPairs_kept)

theorem failSlot_kept {ip : State} (i : Nat) (s : State) (hk : Kept ip s) :
    Kept ip (failSlot i s) := by
  unfold failSlot
  repeat' first
    | with_reducible assumption | with_reducible apply putSlotSt_kept | with_reducible apply timNote_kept | intro _
    | (extract_lets +onlyGivenNames xk; first | (refine kept_cut (p := ip) xk ?_ ?_ <;> first | (intro hxk; clear_value xk) | subst xk) | subst xk)
    | with_reducible refine kept_ite ?_ ?_ | split
    | (refine kept_of ?_; dsimp only; with_reducible refine kept_to ?_; first | with_reducible assumption | with_reducible apply putSlotSt_kept | with_reducible apply timNote_kept)

theorem holdOffStops_kept {ip : State} (s : State) (hk : Kept ip s) :
    Kept ip (holdOffStops s) := by
  unfold holdOffStops
  repeat' first
    | with_reducible assumption | with_reducible apply stopTracking_kept | intro _
    | (extract_lets +onlyGivenNames xk; first | (refine kept_cut (p := ip) xk ?_ ?_ <;> first | (intro hxk; clear_value xk) | subst xk) | subst xk)
    | with_reducible refine kept_ite ?_ ?_ | split
    | (refine kept_of ?_; dsimp only; with_reducible refine kept_to ?_; first | with_reducible assumption | with_reducible apply stopTracking_kept)

theorem condArises_kept {ip : State} (i b : Nat) (s : State) (hk : Kept ip s) :
    Kept ip (condArises i b s) := by
  unfold condArises
  repeat' first
    | with_reducible assumption | with_reducible apply bump_kept | with_reducible apply putSlotSt_kept
    | with_reducible apply failSlot_kept | with_reducible apply holdOffStops_kept | intro _
    | (extract_lets +onlyGivenNames xk; first | (refine kept_cut (p := ip) xk ?_ ?_ <;> first | (intro hxk; clear_value xk) | subst xk) | subst xk)
    | with_reducible refine kept_ite ?_ ?_ | split
    | (refine kept_of ?_; dsimp only; with_reducible refine kept_to ?_; first | with_reducible assumption | with_reducible apply bump_kept | with_reducible apply putSlotSt_kept | with_reducible apply failSlot_kept | with_reducible apply holdOffStops_kept)

theorem condClears_kept {ip : State} (i b : Nat) (s : State) (hk : Kept ip s) :
    Kept ip (condClears i b s) := by
  unfold condClears
  repeat' first
    | with_reducible assumption | with_reducible apply putSlotSt_kept | intro _
    | (extract_lets +onlyGivenNames xk; first | (refine kept_cut (p := ip) xk ?_ ?_ <;> first | (intro hxk; clear_value xk) | subst xk) | subst xk)
    | with_reducible refine kept_ite ?_ ?_ | split
    | (refine kept_of ?_; dsimp only; with_reducible refine kept_to ?_; first | with_reducible assumption | with_reducible apply putSlotSt_kept)

theorem resumeFrame_kept {ip : State} (s : State) (hk : Kept ip s) :
    Kept ip (resumeFrame s) := by
  unfold resumeFrame
  repeat' first
    | with_reducible assumption | with_reducible apply startTracking_kept | intro _
    | (extract_lets +onlyGivenNames xk; first | (refine kept_cut (p := ip) xk ?_ ?_ <;> first | (intro hxk; clear_value xk) | subst xk) | subst xk)
    | with_reducible refine kept_ite ?_ ?_ | split
    | (refine kept_of ?_; dsimp only; with_reducible refine kept_to ?_; first | with_reducible assumption | with_reducible apply startTracking_kept)

theorem slotCond_kept {ip : State} (i b : Nat) (on : Bool) (s : State) (hk : Kept ip s) :
    Kept ip (slotCond i b on s) := by
  unfold slotCond
  repeat' first
    | with_reducible assumption | with_reducible apply condArises_kept | with_reducible apply condClears_kept
    | intro _
    | (extract_lets +onlyGivenNames xk; first | (refine kept_cut (p := ip) xk ?_ ?_ <;> first | (intro hxk; clear_value xk) | subst xk) | subst xk)
    | with_reducible refine kept_ite ?_ ?_ | split
    | (refine kept_of ?_; dsimp only; with_reducible refine kept_to ?_; first | with_reducible assumption | with_reducible apply condArises_kept | with_reducible apply condClears_kept)

theorem evalSlot_kept {ip : State} (s : State) (i : Nat) (hk : Kept ip s) :
    Kept ip (evalSlot s i) := by
  unfold evalSlot
  repeat' first
    | with_reducible assumption | with_reducible apply slotCond_kept | intro _
    | (extract_lets +onlyGivenNames xk; first | (refine kept_cut (p := ip) xk ?_ ?_ <;> first | (intro hxk; clear_value xk) | subst xk) | subst xk)
    | with_reducible refine kept_ite ?_ ?_ | split
    | (refine kept_of ?_; dsimp only; with_reducible refine kept_to ?_; first | with_reducible assumption | with_reducible apply slotCond_kept)

theorem evalSlots_kept {ip : State} (s : State) (hk : Kept ip s) :
    Kept ip (evalSlots s) := by
  unfold evalSlots
  repeat' first
    | with_reducible assumption | with_reducible apply evalSlot_kept
    | with_reducible refine kept_foldl _ _ (fun _ _ _ => ?_) ?_ | intro _
    | (extract_lets +onlyGivenNames xk; first | (refine kept_cut (p := ip) xk ?_ ?_ <;> first | (intro hxk; clear_value xk) | subst xk) | subst xk)
    | with_reducible refine kept_ite ?_ ?_ | split
    | (refine kept_of ?_; dsimp only; with_reducible refine kept_to ?_; first | with_reducible assumption | with_reducible apply evalSlot_kept)

theorem refCondition_kept {ip : State} (i b : Nat) (on : Bool) (s : State) (hk : Kept ip s) :
    Kept ip (refCondition i b on s) := by
  unfold refCondition
  repeat' first
    | with_reducible assumption | with_reducible apply slotCond_kept | with_reducible apply evalSlots_kept | intro _
    | (extract_lets +onlyGivenNames xk; first | (refine kept_cut (p := ip) xk ?_ ?_ <;> first | (intro hxk; clear_value xk) | subst xk) | subst xk)
    | with_reducible refine kept_ite ?_ ?_ | split
    | (refine kept_of ?_; dsimp only; with_reducible refine kept_to ?_; first | with_reducible assumption | with_reducible apply slotCond_kept | with_reducible apply evalSlots_kept)

theorem refHoldOff_kept {ip : State} (i : Nat) (s : State) (hk : Kept ip s) :
    Kept ip (refHoldOff i s) := by
  unfold refHoldOff
  repeat' first
    | with_reducible assumption | with_reducible apply failSlot_kept | intro _
    | (extract_lets +onlyGivenNames xk; first | (refine kept_cut (p := ip) xk ?_ ?_ <;> first | (intro hxk; clear_value xk) | subst xk) | subst xk)
    | with_reducible refine kept_ite ?_ ?_ | split
    | (refine kept_of ?_; dsimp only; with_reducible refine kept_to ?_; first | with_reducible assumption | with_reducible apply failSlot_kept)

theorem refWtr_kept {ip : State} (i : Nat) (s : State) (hk : Kept ip s) :
    Kept ip (refWtr i s) := by
  unfold refWtr
  repeat' first
    | with_reducible assumption | with_reducible apply putSlotSt_kept | intro _
    | (extract_lets +onlyGivenNames xk; first | (refine kept_cut (p := ip) xk ?_ ?_ <;> first | (intro hxk; clear_value xk) | subst xk) | subst xk)
    | with_reducible refine kept_ite ?_ ?_ | split
    | (refine kept_of ?_; dsimp only; with_reducible refine kept_to ?_; first | with_reducible assumption | with_reducible apply putSlotSt_kept)

theorem acqFail_kept {ip : State} (s : State) (hk : Kept ip s) :
    Kept ip (acqFail s) := by
  unfold acqFail
  repeat' first
    | with_reducible assumption | with_reducible apply putSlotSt_kept | with_reducible apply timNote_kept
    | with_reducible apply stopTracking_kept | with_reducible apply startTracking_kept
    | with_reducible apply condArises_kept | with_reducible apply condClears_kept | intro _
    | (extract_lets +onlyGivenNames xk; first | (refine kept_cut (p := ip) xk ?_ ?_ <;> first | (intro hxk; clear_value xk) | subst xk) | subst xk)
    | with_reducible refine kept_ite ?_ ?_ | split
    | (refine kept_of ?_; dsimp only; with_reducible refine kept_to ?_; first | with_reducible assumption | with_reducible apply putSlotSt_kept | with_reducible apply timNote_kept | with_reducible apply stopTracking_kept | with_reducible apply startTracking_kept | with_reducible apply condArises_kept | with_reducible apply condClears_kept)

theorem lockFrame_kept {ip : State} (s : State) (hk : Kept ip s) :
    Kept ip (lockFrame s) := hk

theorem dpllLocked_kept {ip : State} (s : State) (hk : Kept ip s) :
    Kept ip (dpllLocked s) := by
  unfold dpllLocked
  repeat' first
    | with_reducible assumption | with_reducible apply setDpll_kept | intro _
    | (extract_lets +onlyGivenNames xk; first | (refine kept_cut (p := ip) xk ?_ ?_ <;> first | (intro hxk; clear_value xk) | subst xk) | subst xk)
    | with_reducible refine kept_ite ?_ ?_ | split
    | (refine kept_of ?_; dsimp only; with_reducible refine kept_to ?_; first | with_reducible assumption | with_reducible apply setDpll_kept)

theorem ssmTimeout_kept {ip : State} (i : Nat) (s : State) (hk : Kept ip s) :
    Kept ip (ssmTimeout i s) := by
  unfold ssmTimeout
  repeat' first
    | with_reducible assumption | with_reducible apply putSlotSt_kept | intro _
    | (extract_lets +onlyGivenNames xk; first | (refine kept_cut (p := ip) xk ?_ ?_ <;> first | (intro hxk; clear_value xk) | subst xk) | subst xk)
    | with_reducible refine kept_ite ?_ ?_ | split
    | (refine kept_of ?_; dsimp only; with_reducible refine kept_to ?_; first | with_reducible assumption | with_reducible apply putSlotSt_kept)

theorem ssmAccept_kept {ip : State} (i : Nat) (code : BitVec 4) (s : State) (hk : Kept ip s) :
    Kept ip (ssmAccept i code s) := by
  unfold ssmAccept
  repeat' first
    | with_reducible assumption | with_reducible apply putSlotSt_kept | intro _
    | (extract_lets +onlyGivenNames xk; first | (refine kept_cut (p := ip) xk ?_ ?_ <;> first | (intro hxk; clear_value xk) | subst xk) | subst xk)
    | with_reducible refine kept_ite ?_ ?_ | split
    | (refine kept_of ?_; dsimp only; with_reducible refine kept_to ?_; first | with_reducible assumption | with_reducible apply putSlotSt_kept)

theorem freqUpdate_kept {ip : State} (i : Nat) (freq : Int) (s : State) (hk : Kept ip s) :
    Kept ip (freqUpdate i freq s) := by
  unfold freqUpdate
  repeat' first
    | with_reducible assumption | with_reducible apply putSlotSt_kept | with_reducible apply slotCond_kept | intro _
    | (extract_lets +onlyGivenNames xk; first | (refine kept_cut (p := ip) xk ?_ ?_ <;> first | (intro hxk; clear_value xk) | subst xk) | subst xk)
    | with_reducible refine kept_ite ?_ ?_ | split
    | (refine kept_of ?_; dsimp only; with_reducible refine kept_to ?_; first | with_reducible assumption | with_reducible apply putSlotSt_kept | with_reducible apply slotCond_kept)

theorem writeSlot_kept {ip : State} (i : Nat) (r : BitVec 128) (s : State) (hk : Kept ip s) :
    Kept ip (writeSlot i r s) := by
  unfold writeSlot
  repeat' first
    | with_reducible assumption | with_reducible apply configRecord_kept | with_reducible apply putSlotSt_kept
    | with_reducible apply stopTracking_kept | with_reducible apply slotCond_kept
    | with_reducible refine kept_foldl _ _ (fun _ _ _ => ?_) ?_ | intro _
    | (extract_lets +onlyGivenNames xk; first | (refine kept_cut (p := ip) xk ?_ ?_ <;> first | (intro hxk; clear_value xk) | subst xk) | subst xk)
    | with_reducible refine kept_ite ?_ ?_ | split
    | (refine kept_of ?_; dsimp only; with_reducible refine kept_to ?_; first | with_reducible assumption | with_reducible apply configRecord_kept | with_reducible apply putSlotSt_kept | with_reducible apply stopTracking_kept | with_reducible apply slotCond_kept)

theorem timOk_kept {ip : State} (tok : CmdTok) (s : State) (hk : Kept ip s) :
    Kept ip (timOk tok s) := hk

theorem onSlot_kept {ip : State} (c : CmdEntry) (tok : CmdTok) (act : State → State) (s : State) (hact : ∀ s, Kept ip
    s → Kept ip (act s)) (hk : Kept ip s) :
    Kept ip (onSlot c tok act s) := by
  unfold onSlot
  repeat' first
    | with_reducible assumption | with_reducible apply refuse_kept | with_reducible apply timOk_kept
    | with_reducible apply hact | intro _
    | (extract_lets +onlyGivenNames xk; first | (refine kept_cut (p := ip) xk ?_ ?_ <;> first | (intro hxk; clear_value xk) | subst xk) | subst xk)
    | with_reducible refine kept_ite ?_ ?_ | split
    | (refine kept_of ?_; dsimp only; with_reducible refine kept_to ?_; first | with_reducible assumption | with_reducible apply refuse_kept | with_reducible apply timOk_kept | with_reducible apply hact)

theorem clearWtr_kept {ip : State} (i : Nat) (s : State) (hk : Kept ip s) :
    Kept ip (clearWtr i s) := by
  unfold clearWtr
  repeat' first
    | with_reducible assumption | with_reducible apply putSlotSt_kept | intro _
    | (extract_lets +onlyGivenNames xk; first | (refine kept_cut (p := ip) xk ?_ ?_ <;> first | (intro hxk; clear_value xk) | subst xk) | subst xk)
    | with_reducible refine kept_ite ?_ ?_ | split
    | (refine kept_of ?_; dsimp only; with_reducible refine kept_to ?_; first | with_reducible assumption | with_reducible apply putSlotSt_kept)

theorem dropRef_kept {ip : State} (s : State) (hk : Kept ip s) :
    Kept ip (dropRef s) := by
  unfold dropRef
  repeat' first
    | with_reducible assumption | with_reducible apply stopTracking_kept | intro _
    | (extract_lets +onlyGivenNames xk; first | (refine kept_cut (p := ip) xk ?_ ?_ <;> first | (intro hxk; clear_value xk) | subst xk) | subst xk)
    | with_reducible refine kept_ite ?_ ?_ | split
    | (refine kept_of ?_; dsimp only; with_reducible refine kept_to ?_; first | with_reducible assumption | with_reducible apply stopTracking_kept)

theorem phaseFrame_kept {ip : State} (s : State) (hk : Kept ip s) :
    Kept ip (phaseFrame s) := by
  unfold phaseFrame
  repeat' first
    | with_reducible assumption | intro _
    | (extract_lets +onlyGivenNames xk; first | (refine kept_cut (p := ip) xk ?_ ?_ <;> first | (intro hxk; clear_value xk) | subst xk) | subst xk)
    | with_reducible refine kept_ite ?_ ?_ | split
    | (refine kept_of ?_; dsimp only; with_reducible refine kept_to ?_; with_reducible assumption)

theorem rampFrame_kept {ip : State} (s : State) (hk : Kept ip s) :
    Kept ip (rampFrame s) := by
  unfold rampFrame
  repeat' first
    | with_reducible assumption | intro _
    | (extract_lets +onlyGivenNames xk; first | (refine kept_cut (p := ip) xk ?_ ?_ <;> first | (intro hxk; clear_value xk) | subst xk) | subst xk)
    | with_reducible refine kept_ite ?_ ?_ | split
    | (refine kept_of ?_; dsimp only; with_reducible refine kept_to ?_; with_reducible assumption)

-- Machine/Effects.lean.

theorem toNormal_kept {ip : State} (ps : List Nat) (s : State) (hk : Kept ip s) :
    Kept ip (toNormal ps s) := hk

theorem toProtect_kept {ip : State} (p : Nat) (f : Nat → Word64) (s : State) (hk : Kept ip s) :
    Kept ip (toProtect p f s) := hk

theorem remapMoves_kept {ip : State} (f : FN) (was s : State) (hk : Kept ip s) :
    Kept ip (remapMoves f was s) := by
  unfold remapMoves
  repeat' first
    | with_reducible assumption | with_reducible apply bump_kept
    | with_reducible refine kept_foldl _ _ (fun _ _ _ => ?_) ?_ | intro _
    | (extract_lets +onlyGivenNames xk; first | (refine kept_cut (p := ip) xk ?_ ?_ <;> first | (intro hxk; clear_value xk) | subst xk) | subst xk)
    | with_reducible refine kept_ite ?_ ?_ | split
    | (refine kept_of ?_; dsimp only; with_reducible refine kept_to ?_; first | with_reducible assumption | with_reducible apply bump_kept)

theorem writeLinearNormal_kept {ip : State} (g : LinearCfg) (s : State) (hk : Kept ip s) :
    Kept ip (writeLinearNormal g s) := hk

theorem applyLinear_kept {ip : State} (g : LinearCfg) (st br : Nat) (s : State) (hk : Kept ip s) :
    Kept ip (applyLinear g st br s) := by
  unfold applyLinear
  repeat' first
    | with_reducible assumption | with_reducible apply toNormal_kept | with_reducible apply toProtect_kept | intro _
    | (extract_lets +onlyGivenNames xk; first | (refine kept_cut (p := ip) xk ?_ ?_ <;> first | (intro hxk; clear_value xk) | subst xk) | subst xk)
    | with_reducible refine kept_ite ?_ ?_ | split
    | (refine kept_of ?_; dsimp only; with_reducible refine kept_to ?_; first | with_reducible assumption | with_reducible apply toNormal_kept | with_reducible apply toProtect_kept)

theorem applySpan_kept {ip : State} (r : RingCfg) (far : Nat) (east : Bool) (s : State) (hk : Kept ip s) :
    Kept ip (applySpan r far east s) := hk

theorem applyRing_kept {ip : State} (r : RingCfg) (st br : Nat) (s : State) (hk : Kept ip s) :
    Kept ip (applyRing r st br s) := by
  unfold applyRing
  repeat' first
    | with_reducible assumption | with_reducible apply toNormal_kept | with_reducible apply toProtect_kept
    | with_reducible apply applySpan_kept | intro _
    | (extract_lets +onlyGivenNames xk; first | (refine kept_cut (p := ip) xk ?_ ?_ <;> first | (intro hxk; clear_value xk) | subst xk) | subst xk)
    | with_reducible refine kept_ite ?_ ?_ | split
    | (refine kept_of ?_; dsimp only; with_reducible refine kept_to ?_; first | with_reducible assumption | with_reducible apply toNormal_kept | with_reducible apply toProtect_kept | with_reducible apply applySpan_kept)

theorem putAps_kept {ip : State} (ring : Bool) (g : Nat) (a : ApsState) (s : State) (hk : Kept ip s) :
    Kept ip (putAps ring g a s) := by
  unfold putAps
  repeat' first
    | with_reducible assumption | intro _
    | (extract_lets +onlyGivenNames xk; first | (refine kept_cut (p := ip) xk ?_ ?_ <;> first | (intro hxk; clear_value xk) | subst xk) | subst xk)
    | with_reducible refine kept_ite ?_ ?_ | split
    | (refine kept_of ?_; dsimp only; with_reducible refine kept_to ?_; with_reducible assumption)

theorem applyAps_kept {ip : State} (ring : Bool) (g st br : Nat) (s : State) (hk : Kept ip s) :
    Kept ip (applyAps ring g st br s) := by
  unfold applyAps
  repeat' first
    | with_reducible assumption | with_reducible apply applyLinear_kept | with_reducible apply applyRing_kept
    | intro _
    | (extract_lets +onlyGivenNames xk; first | (refine kept_cut (p := ip) xk ?_ ?_ <;> first | (intro hxk; clear_value xk) | subst xk) | subst xk)
    | with_reducible refine kept_ite ?_ ?_ | split
    | (refine kept_of ?_; dsimp only; with_reducible refine kept_to ?_; first | with_reducible assumption | with_reducible apply applyLinear_kept | with_reducible apply applyRing_kept)

theorem putDistrust_kept {ip : State} (l : Nat) (d : Distrust) (s : State) (hk : Kept ip s) :
    Kept ip (putDistrust l d s) := hk

theorem queueVbl_kept {ip : State} (l : Nat) (type : Byte) (payload : Bytes) (s : State) (hk : Kept ip s) :
    Kept ip (queueVbl l type payload s) := hk

theorem sendTrust_kept {ip : State} (l : Nat) (on : Bool) (fn : FN) (s : State) (hk : Kept ip s) :
    Kept ip (sendTrust l on fn s) := hk

theorem setDistrust_kept {ip : State} (l : Nat) (on forced : Bool) (fn : FN) (s : State) (hk : Kept ip s) :
    Kept ip (setDistrust l on forced fn s) := by
  unfold setDistrust
  repeat' first
    | with_reducible assumption | with_reducible apply raise_kept | with_reducible apply protNote_kept
    | with_reducible apply putDefect_kept | with_reducible apply putDistrust_kept
    | with_reducible apply sendTrust_kept | intro _
    | (extract_lets +onlyGivenNames xk; first | (refine kept_cut (p := ip) xk ?_ ?_ <;> first | (intro hxk; clear_value xk) | subst xk) | subst xk)
    | with_reducible refine kept_ite ?_ ?_ | split
    | (refine kept_of ?_; dsimp only; with_reducible refine kept_to ?_; first | with_reducible assumption | with_reducible apply raise_kept | with_reducible apply protNote_kept | with_reducible apply putDefect_kept | with_reducible apply putDistrust_kept | with_reducible apply sendTrust_kept)

theorem holdDistrust_kept {ip : State} (l : Nat) (s : State) (hk : Kept ip s) :
    Kept ip (holdDistrust l s) := by
  unfold holdDistrust
  repeat' first
    | with_reducible assumption | with_reducible apply putDefect_kept | with_reducible apply putDistrust_kept
    | with_reducible apply sendTrust_kept | intro _
    | (extract_lets +onlyGivenNames xk; first | (refine kept_cut (p := ip) xk ?_ ?_ <;> first | (intro hxk; clear_value xk) | subst xk) | subst xk)
    | with_reducible refine kept_ite ?_ ?_ | split
    | (refine kept_of ?_; dsimp only; with_reducible refine kept_to ?_; first | with_reducible assumption | with_reducible apply putDefect_kept | with_reducible apply putDistrust_kept | with_reducible apply sendTrust_kept)

theorem renewProtection_kept {ip : State} (s : State) (hk : Kept ip s) :
    Kept ip (renewProtection s) := by
  unfold renewProtection
  repeat' first
    | with_reducible assumption | with_reducible apply applyLinear_kept | with_reducible apply applyRing_kept
    | with_reducible apply holdDistrust_kept | with_reducible refine kept_foldl _ _ (fun _ _ _ => ?_) ?_ | intro _
    | (extract_lets +onlyGivenNames xk; first | (refine kept_cut (p := ip) xk ?_ ?_ <;> first | (intro hxk; clear_value xk) | subst xk) | subst xk)
    | with_reducible refine kept_ite ?_ ?_ | split
    | (refine kept_of ?_; dsimp only; with_reducible refine kept_to ?_; first | with_reducible assumption | with_reducible apply applyLinear_kept | with_reducible apply applyRing_kept | with_reducible apply holdDistrust_kept)

theorem raiseEpoch_kept {ip : State} (s : State) (hk : Kept ip s) :
    Kept ip (raiseEpoch s) := by
  unfold raiseEpoch
  repeat' first
    | with_reducible assumption | intro _
    | (extract_lets +onlyGivenNames xk; first | (refine kept_cut (p := ip) xk ?_ ?_ <;> first | (intro hxk; clear_value xk) | subst xk) | subst xk)
    | with_reducible refine kept_ite ?_ ?_ | split
    | (refine kept_of ?_; dsimp only; with_reducible refine kept_to ?_; with_reducible assumption)

theorem effectDone_kept {ip : State} (own : Bool) (opcode : Byte) (s : State) (hk : Kept ip s) :
    Kept ip (effectDone own opcode s) := by
  unfold effectDone
  repeat' first
    | with_reducible assumption | with_reducible apply auditAdd_kept | with_reducible apply recordDue_kept
    | with_reducible apply raiseEpoch_kept | intro _
    | (extract_lets +onlyGivenNames xk; first | (refine kept_cut (p := ip) xk ?_ ?_ <;> first | (intro hxk; clear_value xk) | subst xk) | subst xk)
    | with_reducible refine kept_ite ?_ ?_ | split
    | (refine kept_of ?_; dsimp only; with_reducible refine kept_to ?_; first | with_reducible assumption | with_reducible apply auditAdd_kept | with_reducible apply recordDue_kept | with_reducible apply raiseEpoch_kept)

theorem extDone_kept {ip : State} (own : Bool) (kind idx : Nat) (req : Byte) (s : State) (hk : Kept ip s) :
    Kept ip (extDone own kind idx req s) := by
  unfold extDone
  repeat' first
    | with_reducible assumption | with_reducible apply auditAdd_kept | with_reducible apply recordDue_kept
    | with_reducible apply raiseEpoch_kept | intro _
    | (extract_lets +onlyGivenNames xk; first | (refine kept_cut (p := ip) xk ?_ ?_ <;> first | (intro hxk; clear_value xk) | subst xk) | subst xk)
    | with_reducible refine kept_ite ?_ ?_ | split
    | (refine kept_of ?_; dsimp only; with_reducible refine kept_to ?_; first | with_reducible assumption | with_reducible apply auditAdd_kept | with_reducible apply recordDue_kept | with_reducible apply raiseEpoch_kept)

theorem applyExt_kept {ip : State} (own : Bool) (o : ProtObj) (req : Byte) (chan : Nat) (s : State) (hk : Kept ip s) :
    Kept ip (applyExt own o req chan s) := by
  unfold applyExt
  repeat' first
    | with_reducible assumption | with_reducible apply putDistrust_kept | with_reducible apply setDistrust_kept
    | with_reducible apply extDone_kept | intro _
    | (extract_lets +onlyGivenNames xk; first | (refine kept_cut (p := ip) xk ?_ ?_ <;> first | (intro hxk; clear_value xk) | subst xk) | subst xk)
    | with_reducible refine kept_ite ?_ ?_ | split
    | (refine kept_of ?_; dsimp only; with_reducible refine kept_to ?_; first | with_reducible assumption | with_reducible apply putDistrust_kept | with_reducible apply setDistrust_kept | with_reducible apply extDone_kept)

theorem restartLane_kept {ip : State} (l : Nat) (s : State) (hk : Kept ip s) : Kept ip (restartLane l s) := by
  unfold restartLane
  extract_lets objs s' logical
  have hs : Kept ip s' := by
    refine kept_foldl _ _ (fun s _ h => kept_foldl _ _ (fun s _ h => ?_) h) hk
    exact putSet_kept _ _ _ (kept_of (kept_to h))
  clear_value s' objs logical
  refine holdDistrust_kept _ _ (kept_of ?_)
  dsimp only
  exact kept_to hs

theorem applyLane_kept {ip : State} (l : Nat) (c : LaneCfg) (s : State) (hk : Kept ip s) :
    Kept ip (applyLane l c s) := by
  unfold applyLane
  repeat' first
    | with_reducible assumption | with_reducible apply evalTim_kept | with_reducible apply restartLane_kept | intro _
    | (extract_lets +onlyGivenNames xk; first | (refine kept_cut (p := ip) xk ?_ ?_ <;> first | (intro hxk; clear_value xk) | subst xk) | subst xk)
    | with_reducible refine kept_ite ?_ ?_ | split
    | (refine kept_of ?_; dsimp only; with_reducible refine kept_to ?_; first | with_reducible assumption | with_reducible apply evalTim_kept | with_reducible apply restartLane_kept)

theorem applyBind_kept {ip : State} (base l : Nat) (s : State) (hk : Kept ip s) :
    Kept ip (applyBind base l s) := hk

theorem applyUnbind_kept {ip : State} (fp : Nat) (s : State) (hk : Kept ip s) :
    Kept ip (applyUnbind fp s) := hk

theorem applyLinearCfg_kept {ip : State} (g : Nat) (c : LinearCfg) (s : State) (hk : Kept ip s) :
    Kept ip (applyLinearCfg g c s) := by
  unfold applyLinearCfg
  repeat' first
    | with_reducible assumption | with_reducible apply toNormal_kept | with_reducible apply writeLinearNormal_kept
    | with_reducible apply applyLinear_kept | with_reducible apply putAps_kept | intro _
    | (extract_lets +onlyGivenNames xk; first | (refine kept_cut (p := ip) xk ?_ ?_ <;> first | (intro hxk; clear_value xk) | subst xk) | subst xk)
    | with_reducible refine kept_ite ?_ ?_ | split
    | (refine kept_of ?_; dsimp only; with_reducible refine kept_to ?_; first | with_reducible assumption | with_reducible apply toNormal_kept | with_reducible apply writeLinearNormal_kept | with_reducible apply applyLinear_kept | with_reducible apply putAps_kept)

theorem applyRingCfg_kept {ip : State} (r : Nat) (c : RingCfg) (s : State) (hk : Kept ip s) :
    Kept ip (applyRingCfg r c s) := by
  unfold applyRingCfg
  repeat' first
    | with_reducible assumption | with_reducible apply toNormal_kept | with_reducible apply applyRing_kept
    | with_reducible apply putAps_kept | intro _
    | (extract_lets +onlyGivenNames xk; first | (refine kept_cut (p := ip) xk ?_ ?_ <;> first | (intro hxk; clear_value xk) | subst xk) | subst xk)
    | with_reducible refine kept_ite ?_ ?_ | split
    | (refine kept_of ?_; dsimp only; with_reducible refine kept_to ?_; first | with_reducible assumption | with_reducible apply toNormal_kept | with_reducible apply applyRing_kept | with_reducible apply putAps_kept)

theorem applyDelete_kept {ip : State} (ring : Bool) (g : Nat) (s : State) (hk : Kept ip s) :
    Kept ip (applyDelete ring g s) := by
  unfold applyDelete
  repeat' first
    | with_reducible assumption | with_reducible apply toNormal_kept | with_reducible apply putAps_kept
    | with_reducible refine kept_foldl _ _ (fun _ _ _ => ?_) ?_ | intro _
    | (extract_lets +onlyGivenNames xk; first | (refine kept_cut (p := ip) xk ?_ ?_ <;> first | (intro hxk; clear_value xk) | subst xk) | subst xk)
    | with_reducible refine kept_ite ?_ ?_ | split
    | (refine kept_of ?_; dsimp only; with_reducible refine kept_to ?_; first | with_reducible assumption | with_reducible apply toNormal_kept | with_reducible apply putAps_kept)

theorem applyRemap_kept {ip : State} (fp : Nat) (es : List Word64) (s : State) (hk : Kept ip s) :
    Kept ip (applyRemap fp es s) := hk

theorem applyPrbs_kept {ip : State} (u : Nat) (c : Option PrbsCfg) (clear : Bool) (s : State) (hk : Kept ip s) :
    Kept ip (applyPrbs u c clear s) := hk

theorem applyEffect_kept {ip : State} (own : Bool) (e : Effect) (s : State) (hk : Kept ip s) :
    Kept ip (applyEffect own e s) := by
  unfold applyEffect
  repeat' first
    | with_reducible assumption | with_reducible apply remapMoves_kept | with_reducible apply effectDone_kept
    | with_reducible apply applyExt_kept | with_reducible apply applyLane_kept | with_reducible apply applyBind_kept
    | with_reducible apply applyUnbind_kept | with_reducible apply applyLinearCfg_kept
    | with_reducible apply applyRingCfg_kept | with_reducible apply applyDelete_kept
    | with_reducible apply applyRemap_kept | with_reducible apply applyPrbs_kept | intro _
    | (extract_lets +onlyGivenNames xk; first | (refine kept_cut (p := ip) xk ?_ ?_ <;> first | (intro hxk; clear_value xk) | subst xk) | subst xk)
    | with_reducible refine kept_ite ?_ ?_ | split
    | (refine kept_of ?_; dsimp only; with_reducible refine kept_to ?_; first | with_reducible assumption | with_reducible apply remapMoves_kept | with_reducible apply effectDone_kept | with_reducible apply applyExt_kept | with_reducible apply applyLane_kept | with_reducible apply applyBind_kept | with_reducible apply applyUnbind_kept | with_reducible apply applyLinearCfg_kept | with_reducible apply applyRingCfg_kept | with_reducible apply applyDelete_kept | with_reducible apply applyRemap_kept | with_reducible apply applyPrbs_kept)

theorem schedule_kept {ip : State} (due : FN) (tok : Option CmdTok) (own : Bool) (e : Effect) (r : Word64) (s :
    State) (hk : Kept ip s) :
    Kept ip (schedule due tok own e r s) := hk

theorem atBoundary_kept {ip : State} (tok : CmdTok) (e : Effect) (s : State) (hk : Kept ip s) :
    Kept ip (atBoundary tok e s) := by
  unfold atBoundary
  repeat' first
    | with_reducible assumption | with_reducible apply mirrorConfig_kept | with_reducible apply schedule_kept
    | intro _
    | (extract_lets +onlyGivenNames xk; first | (refine kept_cut (p := ip) xk ?_ ?_ <;> first | (intro hxk; clear_value xk) | subst xk) | subst xk)
    | with_reducible refine kept_ite ?_ ?_ | split
    | (refine kept_of ?_; dsimp only; with_reducible refine kept_to ?_; first | with_reducible assumption | with_reducible apply mirrorConfig_kept | with_reducible apply schedule_kept)

theorem atOnceOrBoundary_kept {ip : State} (tok : CmdTok) (e : Effect) (r : List Field) (s : State) (hk : Kept ip s) :
    Kept ip (atOnceOrBoundary tok e r s) := by
  unfold atOnceOrBoundary
  repeat' first
    | with_reducible assumption | with_reducible apply completeOk_kept | with_reducible apply mirrorConfig_kept
    | with_reducible apply applyEffect_kept | with_reducible apply schedule_kept | intro _
    | (extract_lets +onlyGivenNames xk; first | (refine kept_cut (p := ip) xk ?_ ?_ <;> first | (intro hxk; clear_value xk) | subst xk) | subst xk)
    | with_reducible refine kept_ite ?_ ?_ | split
    | (refine kept_of ?_; dsimp only; with_reducible refine kept_to ?_; first | with_reducible assumption | with_reducible apply completeOk_kept | with_reducible apply mirrorConfig_kept | with_reducible apply applyEffect_kept | with_reducible apply schedule_kept)

-- Machine/Restart.lean.

theorem windowsWarm_kept {ip : State} (s : State) (hk : Kept ip s) :
    Kept ip (windowsWarm s) := hk

theorem dropToks_kept {ip : State} (s : State) (hk : Kept ip s) :
    Kept ip (dropToks s) := hk

theorem dropEvents_kept {p : State} (s : State) (h : Kept p s) : Kept p (dropEvents s) :=
  ⟨h.1, h.2.1, Nat.zero_le _, h.2.2.2⟩

theorem removeTests_kept {ip : State} (s : State) (hk : Kept ip s) :
    Kept ip (removeTests s) := hk

theorem dropControl_kept {ip : State} (s : State) (hk : Kept ip s) :
    Kept ip (dropControl s) := hk

theorem enterSafe_kept {ip : State} (s : State) (hk : Kept ip s) :
    Kept ip (enterSafe s) := by
  unfold enterSafe
  repeat' first
    | with_reducible assumption | with_reducible apply startDrain_kept | with_reducible apply perstDma_kept
    | with_reducible apply windowsWarm_kept | with_reducible apply dropToks_kept
    | with_reducible apply dropEvents_kept | with_reducible apply dropControl_kept | intro _
    | (extract_lets +onlyGivenNames xk; first | (refine kept_cut (p := ip) xk ?_ ?_ <;> first | (intro hxk; clear_value xk) | subst xk) | subst xk)
    | with_reducible refine kept_ite ?_ ?_ | split
    | (refine kept_of ?_; dsimp only; with_reducible refine kept_to ?_; first | with_reducible assumption | with_reducible apply startDrain_kept | with_reducible apply perstDma_kept | with_reducible apply windowsWarm_kept | with_reducible apply dropToks_kept | with_reducible apply dropEvents_kept | with_reducible apply dropControl_kept)

theorem countReset_kept {ip : State} (cause : Nat) (s : State) (hk : Kept ip s) :
    Kept ip (countReset cause s) := hk

theorem coldState_kept {p : State} (powerOn : Bool) (s : State) (h : Kept p s) : Kept p (coldState powerOn s) :=
  ⟨h.1, h.2.1, Nat.zero_le _, Nat.zero_le _, h.2.2.2.2⟩

theorem assertCold_kept {ip : State} (cause : Nat) (s : State) (hk : Kept ip s) :
    Kept ip (assertCold cause s) := by
  unfold assertCold
  repeat' first
    | with_reducible assumption | with_reducible apply countReset_kept | with_reducible apply coldState_kept | intro _
    | (extract_lets +onlyGivenNames xk; first | (refine kept_cut (p := ip) xk ?_ ?_ <;> first | (intro hxk; clear_value xk) | subst xk) | subst xk)
    | with_reducible refine kept_ite ?_ ?_ | split
    | (refine kept_of ?_; dsimp only; with_reducible refine kept_to ?_; first | with_reducible assumption | with_reducible apply countReset_kept | with_reducible apply coldState_kept)

theorem warmPage_kept {ip : State} (s : State) (hk : Kept ip s) :
    Kept ip (warmPage s) := by
  unfold warmPage
  repeat' first
    | with_reducible assumption | intro _
    | (extract_lets +onlyGivenNames xk; first | (refine kept_cut (p := ip) xk ?_ ?_ <;> first | (intro hxk; clear_value xk) | subst xk) | subst xk)
    | with_reducible refine kept_ite ?_ ?_ | split
    | (refine kept_of ?_; dsimp only; with_reducible refine kept_to ?_; with_reducible assumption)

theorem warmState_kept {ip : State} (s : State) (hk : Kept ip s) :
    Kept ip (warmState s) := by
  unfold warmState
  repeat' first
    | with_reducible assumption | with_reducible apply windowsWarm_kept | with_reducible apply dropToks_kept
    | with_reducible apply dropEvents_kept | with_reducible apply dropControl_kept
    | with_reducible apply warmPage_kept | intro _
    | (extract_lets +onlyGivenNames xk; first | (refine kept_cut (p := ip) xk ?_ ?_ <;> first | (intro hxk; clear_value xk) | subst xk) | subst xk)
    | with_reducible refine kept_ite ?_ ?_ | split
    | (refine kept_of ?_; dsimp only; with_reducible refine kept_to ?_; first | with_reducible assumption | with_reducible apply windowsWarm_kept | with_reducible apply dropToks_kept | with_reducible apply dropEvents_kept | with_reducible apply dropControl_kept | with_reducible apply warmPage_kept)

theorem assertWarm_kept {ip : State} (cause : Nat) (s : State) (hk : Kept ip s) :
    Kept ip (assertWarm cause s) := by
  unfold assertWarm
  repeat' first
    | with_reducible assumption | with_reducible apply countReset_kept | with_reducible apply warmState_kept
    | with_reducible apply coldRelease_kept | intro _
    | (extract_lets +onlyGivenNames xk; first | (refine kept_cut (p := ip) xk ?_ ?_ <;> first | (intro hxk; clear_value xk) | subst xk) | subst xk)
    | with_reducible refine kept_ite ?_ ?_ | split
    | (refine kept_of ?_; dsimp only; with_reducible refine kept_to ?_; first | with_reducible assumption | with_reducible apply countReset_kept | with_reducible apply warmState_kept | with_reducible apply coldRelease_kept)

theorem initialSnapshot_kept {ip : State} (s : State) (hk : Kept ip s) :
    Kept ip (initialSnapshot s) := by
  unfold initialSnapshot
  repeat' first
    | with_reducible assumption | intro _
    | (extract_lets +onlyGivenNames xk; first | (refine kept_cut (p := ip) xk ?_ ?_ <;> first | (intro hxk; clear_value xk) | subst xk) | subst xk)
    | with_reducible refine kept_ite ?_ ?_ | split
    | (refine kept_of ?_; dsimp only; with_reducible refine kept_to ?_; with_reducible assumption)

theorem runImage_kept {ip : State} (b : Bool) (s : State) (hk : Kept ip s) :
    Kept ip (runImage b s) := hk

theorem clearTrial_kept {ip : State} (br : BootRec) (s : State) (hk : Kept ip s) :
    Kept ip (clearTrial br s) := hk

theorem bootRun_kept {ip : State} (b : Bool) (s : State) (hk : Kept ip s) :
    Kept ip (bootRun b s) := by
  unfold bootRun
  repeat' first
    | with_reducible assumption | with_reducible apply runImage_kept | intro _
    | (extract_lets +onlyGivenNames xk; first | (refine kept_cut (p := ip) xk ?_ ?_ <;> first | (intro hxk; clear_value xk) | subst xk) | subst xk)
    | with_reducible refine kept_ite ?_ ?_ | split
    | (refine kept_of ?_; dsimp only; with_reducible refine kept_to ?_; first | with_reducible assumption | with_reducible apply runImage_kept)

theorem raiseRollback_kept {p : State} (s : State) (h : Kept p s) : Kept p (raiseRollback s) := by
  unfold raiseRollback
  extract_lets q
  split
  · next hc => exact fuses_kept _ ⟨Nat.le_of_lt hc.2, id, id, id⟩ h
  · exact h

theorem chooseImage_kept {ip : State} (s : State) (hk : Kept ip s) :
    Kept ip (chooseImage s) := by
  unfold chooseImage
  repeat' first
    | with_reducible assumption | with_reducible apply runImage_kept | with_reducible apply clearTrial_kept
    | with_reducible apply bootRun_kept | with_reducible apply raiseRollback_kept | intro _
    | (extract_lets +onlyGivenNames xk; first | (refine kept_cut (p := ip) xk ?_ ?_ <;> first | (intro hxk; clear_value xk) | subst xk) | subst xk)
    | with_reducible refine kept_ite ?_ ?_ | split
    | (refine kept_of ?_; dsimp only; with_reducible refine kept_to ?_; first | with_reducible assumption | with_reducible apply runImage_kept | with_reducible apply clearTrial_kept | with_reducible apply bootRun_kept | with_reducible apply raiseRollback_kept)

theorem startFrame_kept {ip : State} (s : State) (hk : Kept ip s) :
    Kept ip (startFrame s) := hk

theorem lateEvents_kept {ip : State} (s : State) (hk : Kept ip s) :
    Kept ip (lateEvents s) := by
  unfold lateEvents
  repeat' first
    | with_reducible assumption | with_reducible apply raise_kept | with_reducible apply post_kept
    | with_reducible apply envNote_kept | with_reducible apply journalNote_kept
    | with_reducible apply commitWrites_kept | with_reducible refine kept_foldl _ _ (fun _ _ _ => ?_) ?_ | intro _
    | (extract_lets +onlyGivenNames xk; first | (refine kept_cut (p := ip) xk ?_ ?_ <;> first | (intro hxk; clear_value xk) | subst xk) | subst xk)
    | with_reducible refine kept_ite ?_ ?_ | split
    | (refine kept_of ?_; dsimp only; with_reducible refine kept_to ?_; first | with_reducible assumption | with_reducible apply raise_kept | with_reducible apply post_kept | with_reducible apply envNote_kept | with_reducible apply journalNote_kept | with_reducible apply commitWrites_kept)

theorem enterMode_kept {ip : State} (m : Mode) (sync : BitVec 3) (s : State) (hk : Kept ip s) :
    Kept ip (enterMode m sync s) := by
  unfold enterMode
  repeat' first
    | with_reducible assumption | with_reducible apply raise_kept | with_reducible apply modeChange_kept
    | with_reducible apply drawRandom_kept | with_reducible apply initialSnapshot_kept
    | with_reducible apply startFrame_kept | with_reducible apply lateEvents_kept | intro _
    | (extract_lets +onlyGivenNames xk; first | (refine kept_cut (p := ip) xk ?_ ?_ <;> first | (intro hxk; clear_value xk) | subst xk) | subst xk)
    | (unfold drawRandom; dsimp only) | with_reducible refine kept_ite ?_ ?_ | split
    | (refine kept_of ?_; dsimp only; with_reducible refine kept_to ?_; first | with_reducible assumption | with_reducible apply raise_kept | with_reducible apply modeChange_kept | with_reducible apply drawRandom_kept | with_reducible apply initialSnapshot_kept | with_reducible apply startFrame_kept | with_reducible apply lateEvents_kept)

theorem releaseSafe_kept {ip : State} (s : State) (hk : Kept ip s) :
    Kept ip (releaseSafe s) := by
  unfold releaseSafe
  repeat' first
    | with_reducible assumption | with_reducible apply enterMode_kept | intro _
    | (extract_lets +onlyGivenNames xk; first | (refine kept_cut (p := ip) xk ?_ ?_ <;> first | (intro hxk; clear_value xk) | subst xk) | subst xk)
    | with_reducible refine kept_ite ?_ ?_ | split
    | (refine kept_of ?_; dsimp only; with_reducible refine kept_to ?_; first | with_reducible assumption | with_reducible apply enterMode_kept)

theorem selfRestore_kept {ip : State} (g : JFound) (s : State) (hk : Kept ip s) :
    Kept ip (selfRestore g s) := by
  unfold selfRestore
  repeat' first
    | with_reducible assumption | with_reducible apply auditAdd_kept | with_reducible apply renewProtection_kept
    | with_reducible apply removeTests_kept | intro _
    | (extract_lets +onlyGivenNames xk; first | (refine kept_cut (p := ip) xk ?_ ?_ <;> first | (intro hxk; clear_value xk) | subst xk) | subst xk)
    | with_reducible refine kept_ite ?_ ?_ | split
    | (refine kept_of ?_; dsimp only; with_reducible refine kept_to ?_; first | with_reducible assumption | with_reducible apply auditAdd_kept | with_reducible apply renewProtection_kept | with_reducible apply removeTests_kept)

theorem restoreDomains_kept {ip : State} (c : Cfg) (s : State) (hk : Kept ip s) :
    Kept ip (restoreDomains c s) := hk

theorem adoptJournal_kept {p : State} (g : JFound) (s : State) (h : Kept p s) : Kept p (adoptJournal g s) :=
  ⟨h.1, h.2.1, h.2.2.1, by simp only [adoptJournal, List.length_take]; omega, h.2.2.2.2.1,
    Nat.le_trans h.2.2.2.2.2 (Nat.le_max_left _ _)⟩

theorem decideMode_kept {ip : State} (s : State) (hk : Kept ip s) :
    Kept ip (decideMode s) := by
  unfold decideMode
  repeat' first
    | with_reducible assumption | with_reducible apply removeTests_kept | with_reducible apply enterMode_kept
    | with_reducible apply selfRestore_kept | with_reducible apply restoreDomains_kept
    | with_reducible apply adoptJournal_kept | intro _
    | (extract_lets +onlyGivenNames xk; first | (refine kept_cut (p := ip) xk ?_ ?_ <;> first | (intro hxk; clear_value xk) | subst xk) | subst xk)
    | with_reducible refine kept_ite ?_ ?_ | split
    | (refine kept_of ?_; dsimp only; with_reducible refine kept_to ?_; first | with_reducible assumption | with_reducible apply removeTests_kept | with_reducible apply enterMode_kept | with_reducible apply selfRestore_kept | with_reducible apply restoreDomains_kept | with_reducible apply adoptJournal_kept)

theorem warmMode_kept {p : State} (s : State) (h : Kept p s) : Kept p (warmMode s).2.2 := by
  unfold warmMode
  dsimp only
  repeat' split
  all_goals exact h

theorem afterRom_kept {ip : State} (s : State) (hk : Kept ip s) :
    Kept ip (afterRom s) := by
  unfold afterRom
  repeat' first
    | with_reducible assumption | with_reducible apply removeTests_kept | with_reducible apply bootRun_kept
    | with_reducible apply chooseImage_kept | with_reducible apply enterMode_kept
    | with_reducible apply releaseSafe_kept | with_reducible apply decideMode_kept
    | with_reducible apply warmMode_kept | with_reducible apply coldRelease_kept | intro _
    | (extract_lets +onlyGivenNames xk; first | (refine kept_cut (p := ip) xk ?_ ?_ <;> first | (intro hxk; clear_value xk) | subst xk) | subst xk)
    | with_reducible refine kept_ite ?_ ?_ | split
    | (refine kept_of ?_; dsimp only; with_reducible refine kept_to ?_; first | with_reducible assumption | with_reducible apply removeTests_kept | with_reducible apply bootRun_kept | with_reducible apply chooseImage_kept | with_reducible apply enterMode_kept | with_reducible apply releaseSafe_kept | with_reducible apply decideMode_kept | with_reducible apply warmMode_kept | with_reducible apply coldRelease_kept)

theorem entryFrame_kept {ip : State} (s : State) (hk : Kept ip s) :
    Kept ip (entryFrame s) := by
  unfold entryFrame
  repeat' first
    | with_reducible assumption | with_reducible apply afterRom_kept | intro _
    | (extract_lets +onlyGivenNames xk; first | (refine kept_cut (p := ip) xk ?_ ?_ <;> first | (intro hxk; clear_value xk) | subst xk) | subst xk)
    | with_reducible refine kept_ite ?_ ?_ | split
    | (refine kept_of ?_; dsimp only; with_reducible refine kept_to ?_; first | with_reducible assumption | with_reducible apply afterRom_kept)

theorem stepRom_kept {ip : State} (s : State) (hk : Kept ip s) :
    Kept ip (stepRom s) := by
  unfold stepRom
  repeat' first
    | with_reducible assumption | with_reducible apply afterRom_kept | with_reducible apply warmRelease_kept | intro _
    | (extract_lets +onlyGivenNames xk; first | (refine kept_cut (p := ip) xk ?_ ?_ <;> first | (intro hxk; clear_value xk) | subst xk) | subst xk)
    | with_reducible refine kept_ite ?_ ?_ | split
    | (refine kept_of ?_; dsimp only; with_reducible refine kept_to ?_; first | with_reducible assumption | with_reducible apply afterRom_kept | with_reducible apply warmRelease_kept)

theorem stepXo_kept {ip : State} (s : State) (hk : Kept ip s) :
    Kept ip (stepXo s) := by
  unfold stepXo
  repeat' first
    | with_reducible assumption | with_reducible apply raise_kept | with_reducible apply fromXo_kept
    | with_reducible apply stepRom_kept | intro _
    | (extract_lets +onlyGivenNames xk; first | (refine kept_cut (p := ip) xk ?_ ?_ <;> first | (intro hxk; clear_value xk) | subst xk) | subst xk)
    | with_reducible refine kept_ite ?_ ?_ | split
    | (refine kept_of ?_; dsimp only; with_reducible refine kept_to ?_; first | with_reducible assumption | with_reducible apply raise_kept | with_reducible apply fromXo_kept | with_reducible apply stepRom_kept)

theorem stepFuse_kept {ip : State} (s : State) (hk : Kept ip s) :
    Kept ip (stepFuse s) := by
  unfold stepFuse
  repeat' first
    | with_reducible assumption | with_reducible apply stepXo_kept
    | with_reducible refine kept_foldl _ _ (fun _ _ _ => ?_) ?_ | intro _
    | (extract_lets +onlyGivenNames xk; first | (refine kept_cut (p := ip) xk ?_ ?_ <;> first | (intro hxk; clear_value xk) | subst xk) | subst xk)
    | with_reducible refine kept_ite ?_ ?_ | split
    | (refine kept_of ?_; dsimp only; with_reducible refine kept_to ?_; first | with_reducible assumption | with_reducible apply stepXo_kept)

theorem optionTry_kept {ip : State} (s : State) (hk : Kept ip s) :
    Kept ip (optionTry s) := by
  unfold optionTry
  repeat' first
    | with_reducible assumption | with_reducible apply stepFuse_kept | intro _
    | (extract_lets +onlyGivenNames xk; first | (refine kept_cut (p := ip) xk ?_ ?_ <;> first | (intro hxk; clear_value xk) | subst xk) | subst xk)
    | with_reducible refine kept_ite ?_ ?_ | split
    | (refine kept_of ?_; dsimp only; with_reducible refine kept_to ?_; first | with_reducible assumption | with_reducible apply stepFuse_kept)

theorem stepOption_kept {ip : State} (s : State) (hk : Kept ip s) :
    Kept ip (stepOption s) := by
  unfold stepOption
  repeat' first
    | with_reducible assumption | with_reducible apply optionTry_kept | intro _
    | (extract_lets +onlyGivenNames xk; first | (refine kept_cut (p := ip) xk ?_ ?_ <;> first | (intro hxk; clear_value xk) | subst xk) | subst xk)
    | with_reducible refine kept_ite ?_ ?_ | split
    | (refine kept_of ?_; dsimp only; with_reducible refine kept_to ?_; first | with_reducible assumption | with_reducible apply optionTry_kept)

theorem stepTrim_kept {ip : State} (s : State) (hk : Kept ip s) :
    Kept ip (stepTrim s) := by
  unfold stepTrim
  repeat' first
    | with_reducible assumption | with_reducible apply stepOption_kept | intro _
    | (extract_lets +onlyGivenNames xk; first | (refine kept_cut (p := ip) xk ?_ ?_ <;> first | (intro hxk; clear_value xk) | subst xk) | subst xk)
    | with_reducible refine kept_ite ?_ ?_ | split
    | (refine kept_of ?_; dsimp only; with_reducible refine kept_to ?_; first | with_reducible assumption | with_reducible apply stepOption_kept)

theorem bakCheck_kept {ip : State} (s : State) (hk : Kept ip s) :
    Kept ip (bakCheck s) := by
  unfold bakCheck
  repeat' first
    | with_reducible assumption | intro _
    | (extract_lets +onlyGivenNames xk; first | (refine kept_cut (p := ip) xk ?_ ?_ <;> first | (intro hxk; clear_value xk) | subst xk) | subst xk)
    | with_reducible refine kept_ite ?_ ?_ | split
    | (refine kept_of ?_; dsimp only; with_reducible refine kept_to ?_; with_reducible assumption)

theorem eraseSecrets_kept {ip : State} (s : State) (hk : Kept ip s) :
    Kept ip (eraseSecrets s) := hk

theorem finishErasure_kept {ip : State} (s : State) (hk : Kept ip s) :
    Kept ip (finishErasure s) := by
  unfold finishErasure
  repeat' first
    | with_reducible assumption | with_reducible apply eraseSecrets_kept | intro _
    | (extract_lets +onlyGivenNames xk; first | (refine kept_cut (p := ip) xk ?_ ?_ <;> first | (intro hxk; clear_value xk) | subst xk) | subst xk)
    | with_reducible refine kept_ite ?_ ?_ | split
    | (refine kept_of ?_; dsimp only; with_reducible refine kept_to ?_; first | with_reducible assumption | with_reducible apply eraseSecrets_kept)

theorem clearCauses_kept {ip : State} (s : State) (hk : Kept ip s) :
    Kept ip (clearCauses s) := hk

theorem coldRelease_kept {ip : State} (s : State) (hk : Kept ip s) :
    Kept ip (coldRelease s) := by
  unfold coldRelease
  repeat' first
    | with_reducible assumption | with_reducible apply stepTrim_kept | with_reducible apply bakCheck_kept
    | with_reducible apply finishErasure_kept | with_reducible apply clearCauses_kept | intro _
    | (extract_lets +onlyGivenNames xk; first | (refine kept_cut (p := ip) xk ?_ ?_ <;> first | (intro hxk; clear_value xk) | subst xk) | subst xk)
    | with_reducible refine kept_ite ?_ ?_ | split
    | (refine kept_of ?_; dsimp only; with_reducible refine kept_to ?_; first | with_reducible assumption | with_reducible apply stepTrim_kept | with_reducible apply bakCheck_kept | with_reducible apply finishErasure_kept | with_reducible apply clearCauses_kept)

theorem warmRelease_kept {ip : State} (s : State) (hk : Kept ip s) :
    Kept ip (warmRelease s) := by
  unfold warmRelease
  repeat' first
    | with_reducible assumption | with_reducible apply stepRom_kept | intro _
    | (extract_lets +onlyGivenNames xk; first | (refine kept_cut (p := ip) xk ?_ ?_ <;> first | (intro hxk; clear_value xk) | subst xk) | subst xk)
    | with_reducible refine kept_ite ?_ ?_ | split
    | (refine kept_of ?_; dsimp only; with_reducible refine kept_to ?_; first | with_reducible assumption | with_reducible apply stepRom_kept)

end Sys2Proof.Laws
end

