-- ==== Sys2Proof/Laws/KeptRows.lean ====
section
/-! SUPPORT. The effects of the rows keep a state: one lemma for each operation. -/
namespace Sys2Proof.Laws
open Machine

-- Machine/Aps.lean.

theorem putKb_kept {ip : State} (l : Nat) (x : KState) (s : State) (hk : Kept ip s) :
    Kept ip (putKb l x s) := hk

theorem kAccept_kept {ip : State} (l : Nat) (k : BitVec 13) (s : State) (hk : Kept ip s) :
    Kept ip (kAccept l k s) := by
  unfold kAccept
  repeat' first
    | with_reducible assumption | with_reducible apply changeDefect_kept | with_reducible apply putKb_kept | intro _
    | (extract_lets +onlyGivenNames xk; first | (refine kept_cut (p := ip) xk ?_ ?_ <;> first | (intro hxk; clear_value xk) | subst xk) | subst xk)
    | with_reducible refine kept_ite ?_ ?_ | split
    | (refine kept_of ?_; dsimp only; with_reducible refine kept_to ?_; first | with_reducible assumption | with_reducible apply changeDefect_kept | with_reducible apply putKb_kept)

theorem psbfNow_kept {ip : State} (l : Nat) (s : State) (hk : Kept ip s) :
    Kept ip (psbfNow l s) := by
  unfold psbfNow
  repeat' first
    | with_reducible assumption | with_reducible apply changeDefect_kept | with_reducible apply putKb_kept | intro _
    | (extract_lets +onlyGivenNames xk; first | (refine kept_cut (p := ip) xk ?_ ?_ <;> first | (intro hxk; clear_value xk) | subst xk) | subst xk)
    | with_reducible refine kept_ite ?_ ?_ | split
    | (refine kept_of ?_; dsimp only; with_reducible refine kept_to ?_; first | with_reducible assumption | with_reducible apply changeDefect_kept | with_reducible apply putKb_kept)

theorem kstormNow_kept {ip : State} (l : Nat) (on : Bool) (s : State) (hk : Kept ip s) :
    Kept ip (kstormNow l on s) := by
  unfold kstormNow
  repeat' first
    | with_reducible assumption | with_reducible apply changeDefect_kept | with_reducible apply putKb_kept | intro _
    | (extract_lets +onlyGivenNames xk; first | (refine kept_cut (p := ip) xk ?_ ?_ <;> first | (intro hxk; clear_value xk) | subst xk) | subst xk)
    | with_reducible refine kept_ite ?_ ?_ | split
    | (refine kept_of ?_; dsimp only; with_reducible refine kept_to ?_; first | with_reducible assumption | with_reducible apply changeDefect_kept | with_reducible apply putKb_kept)

theorem sendK_kept {ip : State} (l : Nat) (w : Word16) (s : State) (hk : Kept ip s) :
    Kept ip (sendK l w s) := hk

theorem outrankExt_kept {ip : State} (ring : Bool) (g side : Nat) (gone : Bool) (st : Nat) (s : State) (hk : Kept ip
    s) :
    Kept ip (outrankExt ring g side gone st s) := by
  unfold outrankExt
  repeat' first
    | with_reducible assumption | with_reducible apply raise_kept | with_reducible apply protNote_kept
    | with_reducible apply auditAdd_kept | with_reducible apply recordDue_kept | intro _
    | (extract_lets +onlyGivenNames xk; first | (refine kept_cut (p := ip) xk ?_ ?_ <;> first | (intro hxk; clear_value xk) | subst xk) | subst xk)
    | with_reducible refine kept_ite ?_ ?_ | split
    | (refine kept_of ?_; dsimp only; with_reducible refine kept_to ?_; first | with_reducible assumption | with_reducible apply raise_kept | with_reducible apply protNote_kept | with_reducible apply auditAdd_kept | with_reducible apply recordDue_kept)

theorem linearStep_kept {ip : State} (s : State) (x : Nat × LinearCfg) (hk : Kept ip s) :
    Kept ip (linearStep s x) := by
  unfold linearStep
  repeat' first
    | with_reducible assumption | with_reducible apply putAps_kept | with_reducible apply sendK_kept
    | with_reducible apply outrankExt_kept | intro _
    | (extract_lets +onlyGivenNames xk; first | (refine kept_cut (p := ip) xk ?_ ?_ <;> first | (intro hxk; clear_value xk) | subst xk) | subst xk)
    | with_reducible refine kept_ite ?_ ?_ | split
    | (refine kept_of ?_; dsimp only; with_reducible refine kept_to ?_; first | with_reducible assumption | with_reducible apply putAps_kept | with_reducible apply sendK_kept | with_reducible apply outrankExt_kept)

theorem ringStep_kept {ip : State} (s : State) (x : Nat × RingCfg) (hk : Kept ip s) :
    Kept ip (ringStep s x) := by
  unfold ringStep
  repeat' first
    | with_reducible assumption | with_reducible apply putAps_kept | with_reducible apply sendK_kept
    | with_reducible apply outrankExt_kept | with_reducible refine kept_foldl _ _ (fun _ _ _ => ?_) ?_ | intro _
    | (extract_lets +onlyGivenNames xk; first | (refine kept_cut (p := ip) xk ?_ ?_ <;> first | (intro hxk; clear_value xk) | subst xk) | subst xk)
    | with_reducible refine kept_ite ?_ ?_ | split
    | (refine kept_of ?_; dsimp only; with_reducible refine kept_to ?_; first | with_reducible assumption | with_reducible apply putAps_kept | with_reducible apply sendK_kept | with_reducible apply outrankExt_kept)

theorem apsMove_kept {ip : State} (f : FN) (ring : Bool) (g : Nat) (s : State) (hk : Kept ip s) :
    Kept ip (apsMove f ring g s) := by
  unfold apsMove
  repeat' first
    | with_reducible assumption | with_reducible apply raise_kept | with_reducible apply protNote_kept
    | with_reducible apply toNormal_kept | with_reducible apply remapMoves_kept | with_reducible apply putAps_kept
    | with_reducible apply applyAps_kept | intro _
    | (extract_lets +onlyGivenNames xk; first | (refine kept_cut (p := ip) xk ?_ ?_ <;> first | (intro hxk; clear_value xk) | subst xk) | subst xk)
    | with_reducible refine kept_ite ?_ ?_ | split
    | (refine kept_of ?_; dsimp only; with_reducible refine kept_to ?_; first | with_reducible assumption | with_reducible apply raise_kept | with_reducible apply protNote_kept | with_reducible apply toNormal_kept | with_reducible apply remapMoves_kept | with_reducible apply putAps_kept | with_reducible apply applyAps_kept)

theorem apsNext_kept {ip : State} (ring : Bool) (s : State) (x : Nat × ApsState) (hk : Kept ip s) :
    Kept ip (apsNext ring s x) := by
  unfold apsNext
  repeat' first
    | with_reducible assumption | with_reducible apply remapMoves_kept | with_reducible apply putAps_kept
    | with_reducible apply applyAps_kept | intro _
    | (extract_lets +onlyGivenNames xk; first | (refine kept_cut (p := ip) xk ?_ ?_ <;> first | (intro hxk; clear_value xk) | subst xk) | subst xk)
    | with_reducible refine kept_ite ?_ ?_ | split
    | (refine kept_of ?_; dsimp only; with_reducible refine kept_to ?_; first | with_reducible assumption | with_reducible apply remapMoves_kept | with_reducible apply putAps_kept | with_reducible apply applyAps_kept)

theorem apsBound_kept {ip : State} (ring : Bool) (s : State) (g : Nat) (hk : Kept ip s) :
    Kept ip (apsBound ring s g) := by
  unfold apsBound
  repeat' first
    | with_reducible assumption | with_reducible apply apsMove_kept | intro _
    | (extract_lets +onlyGivenNames xk; first | (refine kept_cut (p := ip) xk ?_ ?_ <;> first | (intro hxk; clear_value xk) | subst xk) | subst xk)
    | with_reducible refine kept_ite ?_ ?_ | split
    | (refine kept_of ?_; dsimp only; with_reducible refine kept_to ?_; first | with_reducible assumption | with_reducible apply apsMove_kept)

theorem apsFrame_kept {ip : State} (s : State) (hk : Kept ip s) :
    Kept ip (apsFrame s) := by
  unfold apsFrame
  repeat' first
    | with_reducible assumption | with_reducible apply linearStep_kept | with_reducible apply ringStep_kept
    | with_reducible apply apsNext_kept | with_reducible apply apsBound_kept
    | with_reducible refine kept_foldl _ _ (fun _ _ _ => ?_) ?_ | intro _
    | (extract_lets +onlyGivenNames xk; first | (refine kept_cut (p := ip) xk ?_ ?_ <;> first | (intro hxk; clear_value xk) | subst xk) | subst xk)
    | with_reducible refine kept_ite ?_ ?_ | split
    | (refine kept_of ?_; dsimp only; with_reducible refine kept_to ?_; first | with_reducible assumption | with_reducible apply linearStep_kept | with_reducible apply ringStep_kept | with_reducible apply apsNext_kept | with_reducible apply apsBound_kept)

theorem fopNow_kept {ip : State} (ring : Bool) (g : Nat) (on : Bool) (s : State) (hk : Kept ip s) :
    Kept ip (fopNow ring g on s) := by
  unfold fopNow
  repeat' first
    | with_reducible assumption | with_reducible apply raise_kept | with_reducible apply protNote_kept
    | with_reducible apply putAps_kept | intro _
    | (extract_lets +onlyGivenNames xk; first | (refine kept_cut (p := ip) xk ?_ ?_ <;> first | (intro hxk; clear_value xk) | subst xk) | subst xk)
    | with_reducible refine kept_ite ?_ ?_ | split
    | (refine kept_of ?_; dsimp only; with_reducible refine kept_to ?_; first | with_reducible assumption | with_reducible apply raise_kept | with_reducible apply protNote_kept | with_reducible apply putAps_kept)

-- Machine/LaneCmds.lean.

theorem configureBody_kept {ip : State} (c : CmdEntry) (tok : CmdTok) (s : State) (hk : Kept ip s) :
    Kept ip (configureBody c tok s) := by
  unfold configureBody
  repeat' first
    | with_reducible assumption | with_reducible apply refuse_kept | with_reducible apply withRead_kept
    | with_reducible apply atOnceOrBoundary_kept | intro _
    | (extract_lets +onlyGivenNames xk; first | (refine kept_cut (p := ip) xk ?_ ?_ <;> first | (intro hxk; clear_value xk) | subst xk) | subst xk)
    | with_reducible refine kept_ite ?_ ?_ | split
    | (refine kept_of ?_; dsimp only; with_reducible refine kept_to ?_; first | with_reducible assumption | with_reducible apply refuse_kept | with_reducible apply withRead_kept | with_reducible apply atOnceOrBoundary_kept)

theorem vblSendBody_kept {ip : State} (c : CmdEntry) (tok : CmdTok) (s : State) (hk : Kept ip s) :
    Kept ip (vblSendBody c tok s) := by
  unfold vblSendBody
  repeat' first
    | with_reducible assumption | with_reducible apply completeOk_kept | with_reducible apply refuse_kept
    | with_reducible apply withRead_kept | with_reducible apply queueVbl_kept | intro _
    | (extract_lets +onlyGivenNames xk; first | (refine kept_cut (p := ip) xk ?_ ?_ <;> first | (intro hxk; clear_value xk) | subst xk) | subst xk)
    | with_reducible refine kept_ite ?_ ?_ | split
    | (refine kept_of ?_; dsimp only; with_reducible refine kept_to ?_; first | with_reducible assumption | with_reducible apply completeOk_kept | with_reducible apply refuse_kept | with_reducible apply withRead_kept | with_reducible apply queueVbl_kept)

-- Machine/MonCmds.lean.

theorem newTap_kept {ip : State} (u : Nat) (x : TapCfg) (s : State) (hk : Kept ip s) :
    Kept ip (newTap u x s) := hk

theorem mirrorPrbs_kept {ip : State} (s : State) (hk : Kept ip s) :
    Kept ip (mirrorPrbs s) := by
  unfold mirrorPrbs
  repeat' first
    | with_reducible assumption | with_reducible apply sendMate_kept | with_reducible apply internalMsg_kept | intro _
    | (extract_lets +onlyGivenNames xk; first | (refine kept_cut (p := ip) xk ?_ ?_ <;> first | (intro hxk; clear_value xk) | subst xk) | subst xk)
    | (unfold internalMsg; dsimp only) | with_reducible refine kept_ite ?_ ?_ | split
    | (refine kept_of ?_; dsimp only; with_reducible refine kept_to ?_; first | with_reducible assumption | with_reducible apply sendMate_kept | with_reducible apply internalMsg_kept)

theorem auditSeen_kept {ip : State} (first n : Nat) (s : State) (hk : Kept ip s) :
    Kept ip (auditSeen first n s) := hk

-- Machine/TwinCmds.lean.

theorem membership_kept {ip : State} (was : Bool) (s : State) (hk : Kept ip s) :
    Kept ip (membership was s) := by
  unfold membership
  repeat' first
    | with_reducible assumption | with_reducible apply recordDue_kept | intro _
    | (extract_lets +onlyGivenNames xk; first | (refine kept_cut (p := ip) xk ?_ ?_ <;> first | (intro hxk; clear_value xk) | subst xk) | subst xk)
    | with_reducible refine kept_ite ?_ ?_ | split
    | (refine kept_of ?_; dsimp only; with_reducible refine kept_to ?_; first | with_reducible assumption | with_reducible apply recordDue_kept)

theorem putGh_kept {ip : State} (b : Bool) (p : GhPort) (s : State) (hk : Kept ip s) :
    Kept ip (putGh b p s) := by
  unfold putGh
  repeat' first
    | with_reducible assumption | intro _
    | (extract_lets +onlyGivenNames xk; first | (refine kept_cut (p := ip) xk ?_ ?_ <;> first | (intro hxk; clear_value xk) | subst xk) | subst xk)
    | with_reducible refine kept_ite ?_ ?_ | split
    | (refine kept_of ?_; dsimp only; with_reducible refine kept_to ?_; with_reducible assumption)

-- Machine/TwinRows.lean.

theorem putMl_kept {ip : State} (lane : Bool) (x : MlRx) (s : State) (hk : Kept ip s) :
    Kept ip (putMl lane x s) := by
  unfold putMl
  repeat' first
    | with_reducible assumption | intro _
    | (extract_lets +onlyGivenNames xk; first | (refine kept_cut (p := ip) xk ?_ ?_ <;> first | (intro hxk; clear_value xk) | subst xk) | subst xk)
    | with_reducible refine kept_ite ?_ ?_ | split
    | (refine kept_of ?_; dsimp only; with_reducible refine kept_to ?_; with_reducible assumption)

theorem setSync_kept {ip : State} (n : BitVec 3) (s : State) (hk : Kept ip s) :
    Kept ip (setSync n s) := by
  unfold setSync
  repeat' first
    | with_reducible assumption | with_reducible apply twinNote_kept | intro _
    | (extract_lets +onlyGivenNames xk; first | (refine kept_cut (p := ip) xk ?_ ?_ <;> first | (intro hxk; clear_value xk) | subst xk) | subst xk)
    | with_reducible refine kept_ite ?_ ?_ | split
    | (refine kept_of ?_; dsimp only; with_reducible refine kept_to ?_; first | with_reducible assumption | with_reducible apply twinNote_kept)

theorem dropImage_kept {ip : State} (s : State) (hk : Kept ip s) :
    Kept ip (dropImage s) := hk

theorem enterIsolated_kept {ip : State} (s : State) (hk : Kept ip s) :
    Kept ip (enterIsolated s) := by
  unfold enterIsolated
  repeat' first
    | with_reducible assumption | with_reducible apply twinNote_kept | with_reducible apply toMode_kept | intro _
    | (extract_lets +onlyGivenNames xk; first | (refine kept_cut (p := ip) xk ?_ ?_ <;> first | (intro hxk; clear_value xk) | subst xk) | subst xk)
    | with_reducible refine kept_ite ?_ ?_ | split
    | (refine kept_of ?_; dsimp only; with_reducible refine kept_to ?_; first | with_reducible assumption | with_reducible apply twinNote_kept | with_reducible apply toMode_kept)

theorem isolate_kept {ip : State} (s : State) (hk : Kept ip s) :
    Kept ip (isolate s) := hk

theorem sendReleased_kept {ip : State} (s : State) (hk : Kept ip s) :
    Kept ip (sendReleased s) := by
  unfold sendReleased
  repeat' first
    | with_reducible assumption | with_reducible apply sendMate_kept | intro _
    | (extract_lets +onlyGivenNames xk; first | (refine kept_cut (p := ip) xk ?_ ?_ <;> first | (intro hxk; clear_value xk) | subst xk) | subst xk)
    | with_reducible refine kept_ite ?_ ?_ | split
    | (refine kept_of ?_; dsimp only; with_reducible refine kept_to ?_; first | with_reducible assumption | with_reducible apply sendMate_kept)

theorem becomeStandby_kept {ip : State} (s : State) (hk : Kept ip s) :
    Kept ip (becomeStandby s) := by
  unfold becomeStandby
  repeat' first
    | with_reducible assumption | with_reducible apply twinNote_kept | with_reducible apply toMode_kept
    | with_reducible apply roleCause_kept | with_reducible apply dropImage_kept
    | with_reducible apply sendReleased_kept | intro _
    | (extract_lets +onlyGivenNames xk; first | (refine kept_cut (p := ip) xk ?_ ?_ <;> first | (intro hxk; clear_value xk) | subst xk) | subst xk)
    | with_reducible refine kept_ite ?_ ?_ | split
    | (refine kept_of ?_; dsimp only; with_reducible refine kept_to ?_; first | with_reducible assumption | with_reducible apply twinNote_kept | with_reducible apply toMode_kept | with_reducible apply roleCause_kept | with_reducible apply dropImage_kept | with_reducible apply sendReleased_kept)

theorem linkLost_kept {ip : State} (s : State) (hk : Kept ip s) :
    Kept ip (linkLost s) := by
  unfold linkLost
  repeat' first
    | with_reducible assumption | with_reducible apply twinNote_kept | with_reducible apply evalSlots_kept
    | with_reducible apply setSync_kept | with_reducible apply dropImage_kept | with_reducible apply isolate_kept
    | intro _
    | (extract_lets +onlyGivenNames xk; first | (refine kept_cut (p := ip) xk ?_ ?_ <;> first | (intro hxk; clear_value xk) | subst xk) | subst xk)
    | with_reducible refine kept_ite ?_ ?_ | split
    | (refine kept_of ?_; dsimp only; with_reducible refine kept_to ?_; first | with_reducible assumption | with_reducible apply twinNote_kept | with_reducible apply evalSlots_kept | with_reducible apply setSync_kept | with_reducible apply dropImage_kept | with_reducible apply isolate_kept)

theorem compareHeld_kept {ip : State} (s : State) (hk : Kept ip s) :
    Kept ip (compareHeld s) := by
  unfold compareHeld
  repeat' first
    | with_reducible assumption | with_reducible apply setSync_kept | intro _
    | (extract_lets +onlyGivenNames xk; first | (refine kept_cut (p := ip) xk ?_ ?_ <;> first | (intro hxk; clear_value xk) | subst xk) | subst xk)
    | with_reducible refine kept_ite ?_ ?_ | split
    | (refine kept_of ?_; dsimp only; with_reducible refine kept_to ?_; first | with_reducible assumption | with_reducible apply setSync_kept)

theorem resumeRole_kept {ip : State} (s : State) (hk : Kept ip s) :
    Kept ip (resumeRole s) := by
  unfold resumeRole
  repeat' first
    | with_reducible assumption | intro _
    | (extract_lets +onlyGivenNames xk; first | (refine kept_cut (p := ip) xk ?_ ?_ <;> first | (intro hxk; clear_value xk) | subst xk) | subst xk)
    | with_reducible refine kept_ite ?_ ?_ | split
    | (refine kept_of ?_; dsimp only; with_reducible refine kept_to ?_; with_reducible assumption)

theorem takeBackRole_kept {ip : State} (s : State) (hk : Kept ip s) :
    Kept ip (takeBackRole s) := by
  unfold takeBackRole
  repeat' first
    | with_reducible assumption | with_reducible apply toMode_kept | intro _
    | (extract_lets +onlyGivenNames xk; first | (refine kept_cut (p := ip) xk ?_ ?_ <;> first | (intro hxk; clear_value xk) | subst xk) | subst xk)
    | with_reducible refine kept_ite ?_ ?_ | split
    | (refine kept_of ?_; dsimp only; with_reducible refine kept_to ?_; first | with_reducible assumption | with_reducible apply toMode_kept)

theorem startResync_kept {ip : State} (s : State) (hk : Kept ip s) :
    Kept ip (startResync s) := by
  unfold startResync
  repeat' first
    | with_reducible assumption | with_reducible apply setSync_kept | with_reducible apply dropImage_kept | intro _
    | (extract_lets +onlyGivenNames xk; first | (refine kept_cut (p := ip) xk ?_ ?_ <;> first | (intro hxk; clear_value xk) | subst xk) | subst xk)
    | with_reducible refine kept_ite ?_ ?_ | split
    | (refine kept_of ?_; dsimp only; with_reducible refine kept_to ?_; first | with_reducible assumption | with_reducible apply setSync_kept | with_reducible apply dropImage_kept)

theorem checkMismatch_kept {ip : State} (s : State) (hk : Kept ip s) :
    Kept ip (checkMismatch s) := by
  unfold checkMismatch
  repeat' first
    | with_reducible assumption | with_reducible apply setSync_kept | intro _
    | (extract_lets +onlyGivenNames xk; first | (refine kept_cut (p := ip) xk ?_ ?_ <;> first | (intro hxk; clear_value xk) | subst xk) | subst xk)
    | with_reducible refine kept_ite ?_ ?_ | split
    | (refine kept_of ?_; dsimp only; with_reducible refine kept_to ?_; first | with_reducible assumption | with_reducible apply setSync_kept)

theorem checkFpMate_kept {ip : State} (s : State) (hk : Kept ip s) :
    Kept ip (checkFpMate s) := by
  unfold checkFpMate
  repeat' first
    | with_reducible assumption | with_reducible apply bump_kept | with_reducible apply obsNote_kept | intro _
    | (extract_lets +onlyGivenNames xk; first | (refine kept_cut (p := ip) xk ?_ ?_ <;> first | (intro hxk; clear_value xk) | subst xk) | subst xk)
    | with_reducible refine kept_ite ?_ ?_ | split
    | (refine kept_of ?_; dsimp only; with_reducible refine kept_to ?_; first | with_reducible assumption | with_reducible apply bump_kept | with_reducible apply obsNote_kept)

theorem checkConflict_kept {ip : State} (s : State) (hk : Kept ip s) :
    Kept ip (checkConflict s) := by
  unfold checkConflict
  repeat' first
    | with_reducible assumption | with_reducible apply twinNote_kept | intro _
    | (extract_lets +onlyGivenNames xk; first | (refine kept_cut (p := ip) xk ?_ ?_ <;> first | (intro hxk; clear_value xk) | subst xk) | subst xk)
    | with_reducible refine kept_ite ?_ ?_ | split
    | (refine kept_of ?_; dsimp only; with_reducible refine kept_to ?_; first | with_reducible assumption | with_reducible apply twinNote_kept)

theorem mateQl_kept {ip : State} (s : State) (hk : Kept ip s) :
    Kept ip (mateQl s) := by
  unfold mateQl
  repeat' first
    | with_reducible assumption | with_reducible apply ssmAccept_kept
    | with_reducible refine kept_foldl _ _ (fun _ _ _ => ?_) ?_ | intro _
    | (extract_lets +onlyGivenNames xk; first | (refine kept_cut (p := ip) xk ?_ ?_ <;> first | (intro hxk; clear_value xk) | subst xk) | subst xk)
    | with_reducible refine kept_ite ?_ ?_ | split
    | (refine kept_of ?_; dsimp only; with_reducible refine kept_to ?_; first | with_reducible assumption | with_reducible apply ssmAccept_kept)

theorem headerSeen_kept {ip : State} (s : State) (hk : Kept ip s) :
    Kept ip (headerSeen s) := by
  unfold headerSeen
  repeat' first
    | with_reducible assumption | with_reducible apply startResync_kept | with_reducible apply checkMismatch_kept
    | with_reducible apply checkFpMate_kept | with_reducible apply checkConflict_kept
    | with_reducible apply mateQl_kept | intro _
    | (extract_lets +onlyGivenNames xk; first | (refine kept_cut (p := ip) xk ?_ ?_ <;> first | (intro hxk; clear_value xk) | subst xk) | subst xk)
    | with_reducible refine kept_ite ?_ ?_ | split
    | (refine kept_of ?_; dsimp only; with_reducible refine kept_to ?_; first | with_reducible assumption | with_reducible apply startResync_kept | with_reducible apply checkMismatch_kept | with_reducible apply checkFpMate_kept | with_reducible apply checkConflict_kept | with_reducible apply mateQl_kept)

theorem measureArrival_kept {ip : State} (lane : Bool) (s : State) (hk : Kept ip s) :
    Kept ip (measureArrival lane s) := by
  unfold measureArrival
  repeat' first
    | with_reducible assumption | intro _
    | (extract_lets +onlyGivenNames xk; first | (refine kept_cut (p := ip) xk ?_ ?_ <;> first | (intro hxk; clear_value xk) | subst xk) | subst xk)
    | with_reducible refine kept_ite ?_ ?_ | split
    | (refine kept_of ?_; dsimp only; with_reducible refine kept_to ?_; with_reducible assumption)

theorem mateHeader_rx_kept {ip : State} (lane : Bool) (m : Bytes) (s : State) (hk : Kept ip s) :
    Kept ip (mateHeader_rx lane m s) := by
  unfold mateHeader_rx
  repeat' first
    | with_reducible assumption | with_reducible apply bump_kept | with_reducible apply twinNote_kept
    | with_reducible apply putMl_kept | with_reducible apply linkLost_kept | with_reducible apply headerSeen_kept
    | with_reducible apply measureArrival_kept | intro _
    | (extract_lets +onlyGivenNames xk; first | (refine kept_cut (p := ip) xk ?_ ?_ <;> first | (intro hxk; clear_value xk) | subst xk) | subst xk)
    | with_reducible refine kept_ite ?_ ?_ | split
    | (refine kept_of ?_; dsimp only; with_reducible refine kept_to ?_; first | with_reducible assumption | with_reducible apply bump_kept | with_reducible apply twinNote_kept | with_reducible apply putMl_kept | with_reducible apply linkLost_kept | with_reducible apply headerSeen_kept | with_reducible apply measureArrival_kept)

theorem takeSealed_kept {ip : State} (c : SealedCommit) (s : State) (hk : Kept ip s) :
    Kept ip (takeSealed c s) := by
  unfold takeSealed
  repeat' first
    | with_reducible assumption | with_reducible apply setJob_kept | intro _
    | (extract_lets +onlyGivenNames xk; first | (refine kept_cut (p := ip) xk ?_ ?_ <;> first | (intro hxk; clear_value xk) | subst xk) | subst xk)
    | with_reducible refine kept_ite ?_ ?_ | split
    | (refine kept_of ?_; dsimp only; with_reducible refine kept_to ?_; first | with_reducible assumption | with_reducible apply setJob_kept)

theorem takeOpened_kept {ip : State} (s : State) (hk : Kept ip s) :
    Kept ip (takeOpened s) := by
  unfold takeOpened
  repeat' first
    | with_reducible assumption | with_reducible apply setJob_kept | with_reducible apply openPage_kept | intro _
    | (extract_lets +onlyGivenNames xk; first | (refine kept_cut (p := ip) xk ?_ ?_ <;> first | (intro hxk; clear_value xk) | subst xk) | subst xk)
    | with_reducible refine kept_ite ?_ ?_ | split
    | (refine kept_of ?_; dsimp only; with_reducible refine kept_to ?_; first | with_reducible assumption | with_reducible apply setJob_kept | with_reducible apply openPage_kept)

theorem issuerDone_kept {ip : State} (bn : Nat) (fp : Word64) (s : State) (hk : Kept ip s) :
    Kept ip (issuerDone bn fp s) := by
  unfold issuerDone
  repeat' first
    | with_reducible assumption | with_reducible apply commitDone_kept | intro _
    | (extract_lets +onlyGivenNames xk; first | (refine kept_cut (p := ip) xk ?_ ?_ <;> first | (intro hxk; clear_value xk) | subst xk) | subst xk)
    | with_reducible refine kept_ite ?_ ?_ | split
    | (refine kept_of ?_; dsimp only; with_reducible refine kept_to ?_; first | with_reducible assumption | with_reducible apply commitDone_kept)

theorem takeWrite_kept {p : State} (s : State) (w : StagedWrite) (h : Kept p s) : Kept p (takeWrite s w) := by
  unfold takeWrite
  split
  · exact takeSealed_kept _ _ h
  · exact takeOpened_kept _ h
  · exact h

theorem applyStaged_kept {ip : State} (ws : List StagedWrite) (s : State) (hk : Kept ip s) :
    Kept ip (applyStaged ws s) := by
  unfold applyStaged
  repeat' first
    | with_reducible assumption | with_reducible apply stage_kept | with_reducible apply takeWrite_kept
    | with_reducible refine kept_foldl _ _ (fun _ _ _ => ?_) ?_ | intro _
    | (extract_lets +onlyGivenNames xk; first | (refine kept_cut (p := ip) xk ?_ ?_ <;> first | (intro hxk; clear_value xk) | subst xk) | subst xk)
    | with_reducible refine kept_ite ?_ ?_ | split
    | (refine kept_of ?_; dsimp only; with_reducible refine kept_to ?_; first | with_reducible assumption | with_reducible apply stage_kept | with_reducible apply takeWrite_kept)

theorem dropCommit_kept {ip : State} (s : State) (hk : Kept ip s) :
    Kept ip (dropCommit s) := by
  unfold dropCommit
  repeat' first
    | with_reducible assumption | with_reducible apply openPage_kept | with_reducible apply stopCommit_kept | intro _
    | (extract_lets +onlyGivenNames xk; first | (refine kept_cut (p := ip) xk ?_ ?_ <;> first | (intro hxk; clear_value xk) | subst xk) | subst xk)
    | with_reducible refine kept_ite ?_ ?_ | split
    | (refine kept_of ?_; dsimp only; with_reducible refine kept_to ?_; first | with_reducible assumption | with_reducible apply openPage_kept | with_reducible apply stopCommit_kept)

theorem endScheduled_kept {ip : State} (fp : Word64) (s : State) (hk : Kept ip s) :
    Kept ip (endScheduled fp s) := by
  unfold endScheduled
  repeat' first
    | with_reducible assumption | with_reducible apply openPage_kept | with_reducible apply issuerDone_kept
    | with_reducible apply dropCommit_kept | intro _
    | (extract_lets +onlyGivenNames xk; first | (refine kept_cut (p := ip) xk ?_ ?_ <;> first | (intro hxk; clear_value xk) | subst xk) | subst xk)
    | with_reducible refine kept_ite ?_ ?_ | split
    | (refine kept_of ?_; dsimp only; with_reducible refine kept_to ?_; first | with_reducible assumption | with_reducible apply openPage_kept | with_reducible apply issuerDone_kept | with_reducible apply dropCommit_kept)

theorem putPage_kept {ip : State} (p : Page) (fp : Word64) (s : State) (hk : Kept ip s) :
    Kept ip (putPage p fp s) := by
  unfold putPage
  repeat' first
    | with_reducible assumption | with_reducible apply evalSelectors_kept | with_reducible apply tapCheck_kept
    | with_reducible apply liveChanged_kept | with_reducible apply endScheduled_kept | intro _
    | (extract_lets +onlyGivenNames xk; first | (refine kept_cut (p := ip) xk ?_ ?_ <;> first | (intro hxk; clear_value xk) | subst xk) | subst xk)
    | with_reducible refine kept_ite ?_ ?_ | split
    | (refine kept_of ?_; dsimp only; with_reducible refine kept_to ?_; first | with_reducible assumption | with_reducible apply evalSelectors_kept | with_reducible apply tapCheck_kept | with_reducible apply liveChanged_kept | with_reducible apply endScheduled_kept)

theorem pageRecord_kept {ip : State} (kind : Nat) (s : State) (hk : Kept ip s) :
    Kept ip (pageRecord kind s) := by
  unfold pageRecord
  repeat' first
    | with_reducible assumption | with_reducible apply auditAdd_kept | with_reducible apply recordDue_kept | intro _
    | (extract_lets +onlyGivenNames xk; first | (refine kept_cut (p := ip) xk ?_ ?_ <;> first | (intro hxk; clear_value xk) | subst xk) | subst xk)
    | with_reducible refine kept_ite ?_ ?_ | split
    | (refine kept_of ?_; dsimp only; with_reducible refine kept_to ?_; first | with_reducible assumption | with_reducible apply auditAdd_kept | with_reducible apply recordDue_kept)

theorem powerForPage_kept {ip : State} (s : State) (hk : Kept ip s) :
    Kept ip (powerForPage s) := hk

theorem requestFrom_kept {ip : State} (chan first upto : Nat) (s : State) (hk : Kept ip s) :
    Kept ip (requestFrom chan first upto s) := by
  unfold requestFrom
  repeat' first
    | with_reducible assumption | with_reducible apply bump_kept | with_reducible apply sendMate_kept | intro _
    | (extract_lets +onlyGivenNames xk; first | (refine kept_cut (p := ip) xk ?_ ?_ <;> first | (intro hxk; clear_value xk) | subst xk) | subst xk)
    | with_reducible refine kept_ite ?_ ?_ | split
    | (refine kept_of ?_; dsimp only; with_reducible refine kept_to ?_; first | with_reducible assumption | with_reducible apply bump_kept | with_reducible apply sendMate_kept)

theorem channelRx_kept {ip : State} (chan seq : Nat) (take : State → State) (s : State) (htake : ∀ s, Kept ip s →
    Kept ip (take s)) (hk : Kept ip s) :
    Kept ip (channelRx chan seq take s) := by
  unfold channelRx
  repeat' first
    | with_reducible assumption | with_reducible apply bump_kept | with_reducible apply requestFrom_kept
    | with_reducible apply htake | intro _
    | (extract_lets +onlyGivenNames xk; first | (refine kept_cut (p := ip) xk ?_ ?_ <;> first | (intro hxk; clear_value xk) | subst xk) | subst xk)
    | with_reducible refine kept_ite ?_ ?_ | split
    | (refine kept_of ?_; dsimp only; with_reducible refine kept_to ?_; first | with_reducible assumption | with_reducible apply bump_kept | with_reducible apply requestFrom_kept | with_reducible apply htake)

theorem superframeRx_kept {ip : State} (lane : Bool) (s : State) (hk : Kept ip s) :
    Kept ip (superframeRx lane s) := by
  unfold superframeRx
  generalize parsePackets 78116 (mateRxStream s lane) = r
  cases r with | mk l q =>
  dsimp only
  refine kept_ite hk ?_
  have h1 : Kept ip { s with twin := { s.twin with discarded := s.twin.discarded + l.countP packetReserved } } :=
    kept_of (kept_to hk)
  generalize { s with twin := { s.twin with discarded := s.twin.discarded + l.countP packetReserved } } = t at h1 ⊢
  cases q with
  | none => exact h1
  | some c =>
    have h2 : Kept ip (bump 113 2 1 t) := bump_kept _ _ _ _ h1
    dsimp only
    generalize bump 113 2 1 t = u at h2 ⊢
    split
    · exact kept_ite (requestFrom_kept _ _ _ _ h2) h2
    · exact h2

theorem mateRxFrame_kept {ip : State} (s : State) (hk : Kept ip s) :
    Kept ip (mateRxFrame s) := by
  unfold mateRxFrame
  repeat' first
    | with_reducible assumption | with_reducible apply superframeRx_kept | intro _
    | (extract_lets +onlyGivenNames xk; first | (refine kept_cut (p := ip) xk ?_ ?_ <;> first | (intro hxk; clear_value xk) | subst xk) | subst xk)
    | with_reducible refine kept_ite ?_ ?_ | split
    | (refine kept_of ?_; dsimp only; with_reducible refine kept_to ?_; first | with_reducible assumption | with_reducible apply superframeRx_kept)

theorem takeRecord_kept {ip : State} (r : JRecord) (s : State) (hk : Kept ip s) :
    Kept ip (takeRecord r s) := by
  unfold takeRecord
  repeat' first
    | with_reducible assumption | with_reducible apply issuerDone_kept | intro _
    | (extract_lets +onlyGivenNames xk; first | (refine kept_cut (p := ip) xk ?_ ?_ <;> first | (intro hxk; clear_value xk) | subst xk) | subst xk)
    | with_reducible refine kept_ite ?_ ?_ | split
    | (refine kept_of ?_; dsimp only; with_reducible refine kept_to ?_; first | with_reducible assumption | with_reducible apply issuerDone_kept)

theorem takeStaged_kept {ip : State} (ws : List StagedWrite) (s : State) (hk : Kept ip s) :
    Kept ip (takeStaged ws s) := by
  unfold takeStaged
  repeat' first
    | with_reducible assumption | with_reducible apply applyStaged_kept | intro _
    | (extract_lets +onlyGivenNames xk; first | (refine kept_cut (p := ip) xk ?_ ?_ <;> first | (intro hxk; clear_value xk) | subst xk) | subst xk)
    | with_reducible refine kept_ite ?_ ?_ | split
    | (refine kept_of ?_; dsimp only; with_reducible refine kept_to ?_; first | with_reducible assumption | with_reducible apply applyStaged_kept)

theorem imageComplete_kept {ip : State} (tag : Nat) (s : State) (hk : Kept ip s) :
    Kept ip (imageComplete tag s) := hk

theorem resend_kept {ip : State} (chan first count : Nat) (s : State) (hk : Kept ip s) :
    Kept ip (resend chan first count s) := by
  unfold resend
  repeat' first
    | with_reducible assumption | with_reducible apply bump_kept | with_reducible apply send_kept
    | with_reducible refine kept_foldl _ _ (fun _ _ _ => ?_) ?_ | intro _
    | (extract_lets +onlyGivenNames xk; first | (refine kept_cut (p := ip) xk ?_ ?_ <;> first | (intro hxk; clear_value xk) | subst xk) | subst xk)
    | with_reducible refine kept_ite ?_ ?_ | split
    | (refine kept_of ?_; dsimp only; with_reducible refine kept_to ?_; first | with_reducible assumption | with_reducible apply bump_kept | with_reducible apply send_kept)

theorem gapTimeout_kept {ip : State} (chan : Nat) (s : State) (hk : Kept ip s) :
    Kept ip (gapTimeout chan s) := by
  unfold gapTimeout
  repeat' first
    | with_reducible assumption | with_reducible apply setSync_kept | with_reducible apply dropImage_kept | intro _
    | (extract_lets +onlyGivenNames xk; first | (refine kept_cut (p := ip) xk ?_ ?_ <;> first | (intro hxk; clear_value xk) | subst xk) | subst xk)
    | with_reducible refine kept_ite ?_ ?_ | split
    | (refine kept_of ?_; dsimp only; with_reducible refine kept_to ?_; first | with_reducible assumption | with_reducible apply setSync_kept | with_reducible apply dropImage_kept)

theorem installImage_kept {ip : State} (s : State) (hk : Kept ip s) :
    Kept ip (installImage s) := by
  unfold installImage
  repeat' first
    | with_reducible assumption | with_reducible apply renewProtection_kept | with_reducible apply applyStaged_kept
    | with_reducible apply putPage_kept | with_reducible apply powerForPage_kept | intro _
    | (extract_lets +onlyGivenNames xk; first | (refine kept_cut (p := ip) xk ?_ ?_ <;> first | (intro hxk; clear_value xk) | subst xk) | subst xk)
    | with_reducible refine kept_ite ?_ ?_ | split
    | (refine kept_of ?_; dsimp only; with_reducible refine kept_to ?_; first | with_reducible assumption | with_reducible apply renewProtection_kept | with_reducible apply applyStaged_kept | with_reducible apply putPage_kept | with_reducible apply powerForPage_kept)

theorem applyLater_kept {p : State} (rs : List (JRecord × List StagedWrite)) (s : State) (h : Kept p s) :
    Kept p (applyLater rs s) := by
  induction rs generalizing s with
  | nil => exact h
  | cons r rs ih =>
    obtain ⟨r, ws⟩ := r
    unfold applyLater
    dsimp only
    split
    · refine applyStaged_kept _ _ ?_
      refine kept_of ?_
      dsimp only
      with_reducible refine kept_to ?_
      exact powerForPage_kept _ (putPage_kept _ _ _ h)
    · refine ih _ ?_
      split
      · exact h
      · exact applyStaged_kept _ _ h

theorem enterSync_kept {ip : State} (s : State) (hk : Kept ip s) :
    Kept ip (enterSync s) := by
  unfold enterSync
  repeat' first
    | with_reducible assumption | with_reducible apply setSync_kept | with_reducible apply dropImage_kept
    | with_reducible apply pageRecord_kept | intro _
    | (extract_lets +onlyGivenNames xk; first | (refine kept_cut (p := ip) xk ?_ ?_ <;> first | (intro hxk; clear_value xk) | subst xk) | subst xk)
    | with_reducible refine kept_ite ?_ ?_ | split
    | (refine kept_of ?_; dsimp only; with_reducible refine kept_to ?_; first | with_reducible assumption | with_reducible apply setSync_kept | with_reducible apply dropImage_kept | with_reducible apply pageRecord_kept)

theorem resyncInstall_kept {ip : State} (s : State) (hk : Kept ip s) :
    Kept ip (resyncInstall s) := by
  unfold resyncInstall
  repeat' first
    | with_reducible assumption | with_reducible apply installImage_kept | with_reducible apply applyLater_kept
    | with_reducible apply enterSync_kept | intro _
    | (extract_lets +onlyGivenNames xk; first | (refine kept_cut (p := ip) xk ?_ ?_ <;> first | (intro hxk; clear_value xk) | subst xk) | subst xk)
    | with_reducible refine kept_ite ?_ ?_ | split
    | (refine kept_of ?_; dsimp only; with_reducible refine kept_to ?_; first | with_reducible assumption | with_reducible apply installImage_kept | with_reducible apply applyLater_kept | with_reducible apply enterSync_kept)

theorem loseAlignment_kept {ip : State} (s : State) (hk : Kept ip s) :
    Kept ip (loseAlignment s) := by
  unfold loseAlignment
  repeat' first
    | with_reducible assumption | with_reducible apply timNote_kept | with_reducible apply setSync_kept | intro _
    | (extract_lets +onlyGivenNames xk; first | (refine kept_cut (p := ip) xk ?_ ?_ <;> first | (intro hxk; clear_value xk) | subst xk) | subst xk)
    | with_reducible refine kept_ite ?_ ?_ | split
    | (refine kept_of ?_; dsimp only; with_reducible refine kept_to ?_; first | with_reducible assumption | with_reducible apply timNote_kept | with_reducible apply setSync_kept)

theorem alignStep_kept {ip : State} (s : State) (hk : Kept ip s) :
    Kept ip (alignStep s) := by
  unfold alignStep
  repeat' first
    | with_reducible assumption | with_reducible apply startFrame_kept | intro _
    | (extract_lets +onlyGivenNames xk; first | (refine kept_cut (p := ip) xk ?_ ?_ <;> first | (intro hxk; clear_value xk) | subst xk) | subst xk)
    | with_reducible refine kept_ite ?_ ?_ | split
    | (refine kept_of ?_; dsimp only; with_reducible refine kept_to ?_; first | with_reducible assumption | with_reducible apply startFrame_kept)

theorem countGrant_kept {ip : State} (b : Bool) (why : Nat) (s : State) (hk : Kept ip s) :
    Kept ip (countGrant b why s) := by
  unfold countGrant
  repeat' first
    | with_reducible assumption | with_reducible apply putGh_kept | intro _
    | (extract_lets +onlyGivenNames xk; first | (refine kept_cut (p := ip) xk ?_ ?_ <;> first | (intro hxk; clear_value xk) | subst xk) | subst xk)
    | with_reducible refine kept_ite ?_ ?_ | split
    | (refine kept_of ?_; dsimp only; with_reducible refine kept_to ?_; first | with_reducible assumption | with_reducible apply putGh_kept)

theorem macFailed_kept {ip : State} (b : Bool) (s : State) (hk : Kept ip s) :
    Kept ip (macFailed b s) := by
  unfold macFailed
  repeat' first
    | with_reducible assumption | with_reducible apply bump_kept | with_reducible apply secNote_kept
    | with_reducible apply putGh_kept | intro _
    | (extract_lets +onlyGivenNames xk; first | (refine kept_cut (p := ip) xk ?_ ?_ <;> first | (intro hxk; clear_value xk) | subst xk) | subst xk)
    | with_reducible refine kept_ite ?_ ?_ | split
    | (refine kept_of ?_; dsimp only; with_reducible refine kept_to ?_; first | with_reducible assumption | with_reducible apply bump_kept | with_reducible apply secNote_kept | with_reducible apply putGh_kept)

theorem discardGrant_kept {ip : State} (b : Bool) (why : Nat) (s : State) (hk : Kept ip s) :
    Kept ip (discardGrant b why s) := by
  unfold discardGrant
  repeat' first
    | with_reducible assumption | with_reducible apply bump_kept | with_reducible apply putGh_kept
    | with_reducible apply countGrant_kept | with_reducible apply macFailed_kept | intro _
    | (extract_lets +onlyGivenNames xk; first | (refine kept_cut (p := ip) xk ?_ ?_ <;> first | (intro hxk; clear_value xk) | subst xk) | subst xk)
    | with_reducible refine kept_ite ?_ ?_ | split
    | (refine kept_of ?_; dsimp only; with_reducible refine kept_to ?_; first | with_reducible assumption | with_reducible apply bump_kept | with_reducible apply putGh_kept | with_reducible apply countGrant_kept | with_reducible apply macFailed_kept)

theorem grantMe_kept {ip : State} (b own : Bool) (anchor : FN) (m : Bytes) (s : State) (hk : Kept ip s) :
    Kept ip (grantMe b own anchor m s) := by
  unfold grantMe
  repeat' first
    | with_reducible assumption | with_reducible apply twinNote_kept | with_reducible apply countGrant_kept | intro _
    | (extract_lets +onlyGivenNames xk; first | (refine kept_cut (p := ip) xk ?_ ?_ <;> first | (intro hxk; clear_value xk) | subst xk) | subst xk)
    | with_reducible refine kept_ite ?_ ?_ | split
    | (refine kept_of ?_; dsimp only; with_reducible refine kept_to ?_; first | with_reducible assumption | with_reducible apply twinNote_kept | with_reducible apply countGrant_kept)

theorem grantOther_kept {ip : State} (own : Bool) (s : State) (hk : Kept ip s) :
    Kept ip (grantOther own s) := by
  unfold grantOther
  repeat' first
    | with_reducible assumption | intro _
    | (extract_lets +onlyGivenNames xk; first | (refine kept_cut (p := ip) xk ?_ ?_ <;> first | (intro hxk; clear_value xk) | subst xk) | subst xk)
    | with_reducible refine kept_ite ?_ ?_ | split
    | (refine kept_of ?_; dsimp only; with_reducible refine kept_to ?_; with_reducible assumption)

theorem namedGrant_kept {ip : State} (b own : Bool) (anchor : FN) (m : Bytes) (s : State) (hk : Kept ip s) :
    Kept ip (namedGrant b own anchor m s) := by
  unfold namedGrant
  repeat' first
    | with_reducible assumption | with_reducible apply grantMe_kept | with_reducible apply grantOther_kept | intro _
    | (extract_lets +onlyGivenNames xk; first | (refine kept_cut (p := ip) xk ?_ ?_ <;> first | (intro hxk; clear_value xk) | subst xk) | subst xk)
    | with_reducible refine kept_ite ?_ ?_ | split
    | (refine kept_of ?_; dsimp only; with_reducible refine kept_to ?_; first | with_reducible assumption | with_reducible apply grantMe_kept | with_reducible apply grantOther_kept)

theorem applyGrant_kept {ip : State} (b own : Bool) (anchor : FN) (m : Bytes) (s : State) (hk : Kept ip s) :
    Kept ip (applyGrant b own anchor m s) := by
  unfold applyGrant
  repeat' first
    | with_reducible assumption | with_reducible apply twinNote_kept | with_reducible apply putGh_kept
    | with_reducible apply countGrant_kept | with_reducible apply namedGrant_kept | intro _
    | (extract_lets +onlyGivenNames xk; first | (refine kept_cut (p := ip) xk ?_ ?_ <;> first | (intro hxk; clear_value xk) | subst xk) | subst xk)
    | with_reducible refine kept_ite ?_ ?_ | split
    | (refine kept_of ?_; dsimp only; with_reducible refine kept_to ?_; first | with_reducible assumption | with_reducible apply twinNote_kept | with_reducible apply putGh_kept | with_reducible apply countGrant_kept | with_reducible apply namedGrant_kept)

theorem decidePending_kept {ip : State} (anchor : FN) (m : Bytes) (s : State) (hk : Kept ip s) :
    Kept ip (decidePending anchor m s) := by
  unfold decidePending
  repeat' first
    | with_reducible assumption | with_reducible apply setSync_kept | intro _
    | (extract_lets +onlyGivenNames xk; first | (refine kept_cut (p := ip) xk ?_ ?_ <;> first | (intro hxk; clear_value xk) | subst xk) | subst xk)
    | with_reducible refine kept_ite ?_ ?_ | split
    | (refine kept_of ?_; dsimp only; with_reducible refine kept_to ?_; first | with_reducible assumption | with_reducible apply setSync_kept)

theorem grantReset_kept {ip : State} (b : Bool) (m : Bytes) (s : State) (hk : Kept ip s) :
    Kept ip (grantReset b m s) := by
  unfold grantReset
  repeat' first
    | with_reducible assumption | with_reducible apply assertCold_kept | with_reducible apply assertWarm_kept
    | with_reducible apply countGrant_kept | intro _
    | (extract_lets +onlyGivenNames xk; first | (refine kept_cut (p := ip) xk ?_ ?_ <;> first | (intro hxk; clear_value xk) | subst xk) | subst xk)
    | with_reducible refine kept_ite ?_ ?_ | split
    | (refine kept_of ?_; dsimp only; with_reducible refine kept_to ?_; first | with_reducible assumption | with_reducible apply assertCold_kept | with_reducible apply assertWarm_kept | with_reducible apply countGrant_kept)

theorem grantRx_kept {ip : State} (b : Bool) (m : Bytes) (s : State) (hk : Kept ip s) :
    Kept ip (grantRx b m s) := by
  unfold grantRx
  repeat' first
    | with_reducible assumption | with_reducible apply bump_kept | with_reducible apply sendMate_kept
    | with_reducible apply putGh_kept | with_reducible apply discardGrant_kept | with_reducible apply applyGrant_kept
    | with_reducible apply decidePending_kept | with_reducible apply grantReset_kept | intro _
    | (extract_lets +onlyGivenNames xk; first | (refine kept_cut (p := ip) xk ?_ ?_ <;> first | (intro hxk; clear_value xk) | subst xk) | subst xk)
    | with_reducible refine kept_ite ?_ ?_ | split
    | (refine kept_of ?_; dsimp only; with_reducible refine kept_to ?_; first | with_reducible assumption | with_reducible apply bump_kept | with_reducible apply sendMate_kept | with_reducible apply putGh_kept | with_reducible apply discardGrant_kept | with_reducible apply applyGrant_kept | with_reducible apply decidePending_kept | with_reducible apply grantReset_kept)

theorem relayRx_kept {ip : State} (b : Bool) (anchor : FN) (m : Bytes) (s : State) (hk : Kept ip s) :
    Kept ip (relayRx b anchor m s) := by
  unfold relayRx
  repeat' first
    | with_reducible assumption | with_reducible apply discardGrant_kept | with_reducible apply applyGrant_kept
    | intro _
    | (extract_lets +onlyGivenNames xk; first | (refine kept_cut (p := ip) xk ?_ ?_ <;> first | (intro hxk; clear_value xk) | subst xk) | subst xk)
    | with_reducible refine kept_ite ?_ ?_ | split
    | (refine kept_of ?_; dsimp only; with_reducible refine kept_to ?_; first | with_reducible assumption | with_reducible apply discardGrant_kept | with_reducible apply applyGrant_kept)

theorem takeRole_kept {ip : State} (p : PendingGrant) (s : State) (hk : Kept ip s) :
    Kept ip (takeRole p s) := by
  unfold takeRole
  repeat' first
    | with_reducible assumption | with_reducible apply twinNote_kept | with_reducible apply toMode_kept
    | with_reducible apply roleCause_kept | with_reducible apply timNote_kept | with_reducible apply dropImage_kept
    | with_reducible apply dropCommit_kept | intro _
    | (extract_lets +onlyGivenNames xk; first | (refine kept_cut (p := ip) xk ?_ ?_ <;> first | (intro hxk; clear_value xk) | subst xk) | subst xk)
    | with_reducible refine kept_ite ?_ ?_ | split
    | (refine kept_of ?_; dsimp only; with_reducible refine kept_to ?_; first | with_reducible assumption | with_reducible apply twinNote_kept | with_reducible apply toMode_kept | with_reducible apply roleCause_kept | with_reducible apply timNote_kept | with_reducible apply dropImage_kept | with_reducible apply dropCommit_kept)

theorem roleTake_kept {ip : State} (s : State) (hk : Kept ip s) :
    Kept ip (roleTake s) := by
  unfold roleTake
  repeat' first
    | with_reducible assumption | with_reducible apply takeRole_kept | intro _
    | (extract_lets +onlyGivenNames xk; first | (refine kept_cut (p := ip) xk ?_ ?_ <;> first | (intro hxk; clear_value xk) | subst xk) | subst xk)
    | with_reducible refine kept_ite ?_ ?_ | split
    | (refine kept_of ?_; dsimp only; with_reducible refine kept_to ?_; first | with_reducible assumption | with_reducible apply takeRole_kept)

theorem leaseEnds_kept {ip : State} (s : State) (hk : Kept ip s) :
    Kept ip (leaseEnds s) := by
  unfold leaseEnds
  repeat' first
    | with_reducible assumption | with_reducible apply twinNote_kept | with_reducible apply enterIsolated_kept
    | with_reducible apply becomeStandby_kept | intro _
    | (extract_lets +onlyGivenNames xk; first | (refine kept_cut (p := ip) xk ?_ ?_ <;> first | (intro hxk; clear_value xk) | subst xk) | subst xk)
    | with_reducible refine kept_ite ?_ ?_ | split
    | (refine kept_of ?_; dsimp only; with_reducible refine kept_to ?_; first | with_reducible assumption | with_reducible apply twinNote_kept | with_reducible apply enterIsolated_kept | with_reducible apply becomeStandby_kept)

theorem forcedTakeover_kept {ip : State} (s : State) (hk : Kept ip s) :
    Kept ip (forcedTakeover s) := by
  unfold forcedTakeover
  repeat' first
    | with_reducible assumption | with_reducible apply twinNote_kept | with_reducible apply putPage_kept
    | with_reducible apply pageRecord_kept | intro _
    | (extract_lets +onlyGivenNames xk; first | (refine kept_cut (p := ip) xk ?_ ?_ <;> first | (intro hxk; clear_value xk) | subst xk) | subst xk)
    | with_reducible refine kept_ite ?_ ?_ | split
    | (refine kept_of ?_; dsimp only; with_reducible refine kept_to ?_; first | with_reducible assumption | with_reducible apply twinNote_kept | with_reducible apply putPage_kept | with_reducible apply pageRecord_kept)

-- Machine/GroupRows.lean.

theorem elect_kept {ip : State} (s : State) (hk : Kept ip s) :
    Kept ip (elect s) := by
  unfold elect
  repeat' first
    | with_reducible assumption | with_reducible apply grpNote_kept | with_reducible apply resolveCause_kept | intro _
    | (extract_lets +onlyGivenNames xk; first | (refine kept_cut (p := ip) xk ?_ ?_ <;> first | (intro hxk; clear_value xk) | subst xk) | subst xk)
    | with_reducible refine kept_ite ?_ ?_ | split
    | (refine kept_of ?_; dsimp only; with_reducible refine kept_to ?_; first | with_reducible assumption | with_reducible apply grpNote_kept | with_reducible apply resolveCause_kept)

theorem startCatchup_kept {ip : State} (s : State) (hk : Kept ip s) :
    Kept ip (startCatchup s) := by
  unfold startCatchup
  repeat' first
    | with_reducible assumption | with_reducible apply grpNote_kept | with_reducible apply sendGroup_kept
    | with_reducible apply internalMsg_kept | intro _
    | (extract_lets +onlyGivenNames xk; first | (refine kept_cut (p := ip) xk ?_ ?_ <;> first | (intro hxk; clear_value xk) | subst xk) | subst xk)
    | (unfold internalMsg; dsimp only) | with_reducible refine kept_ite ?_ ?_ | split
    | (refine kept_of ?_; dsimp only; with_reducible refine kept_to ?_; first | with_reducible assumption | with_reducible apply grpNote_kept | with_reducible apply sendGroup_kept | with_reducible apply internalMsg_kept)

theorem setFenced_kept {ip : State} (on : Bool) (s : State) (hk : Kept ip s) :
    Kept ip (setFenced on s) := by
  unfold setFenced
  repeat' first
    | with_reducible assumption | with_reducible apply grpNote_kept | with_reducible apply setSync_kept | intro _
    | (extract_lets +onlyGivenNames xk; first | (refine kept_cut (p := ip) xk ?_ ?_ <;> first | (intro hxk; clear_value xk) | subst xk) | subst xk)
    | with_reducible refine kept_ite ?_ ?_ | split
    | (refine kept_of ?_; dsimp only; with_reducible refine kept_to ?_; first | with_reducible assumption | with_reducible apply grpNote_kept | with_reducible apply setSync_kept)

theorem checkFpGroup_kept {ip : State} (c : Compared) (r : Bytes) (s : State) (hk : Kept ip s) :
    Kept ip (checkFpGroup c r s) := by
  unfold checkFpGroup
  repeat' first
    | with_reducible assumption | with_reducible apply bump_kept | with_reducible apply obsNote_kept | intro _
    | (extract_lets +onlyGivenNames xk; first | (refine kept_cut (p := ip) xk ?_ ?_ <;> first | (intro hxk; clear_value xk) | subst xk) | subst xk)
    | with_reducible refine kept_ite ?_ ?_ | split
    | (refine kept_of ?_; dsimp only; with_reducible refine kept_to ?_; first | with_reducible assumption | with_reducible apply bump_kept | with_reducible apply obsNote_kept)

theorem dropRetained_kept {ip : State} (s : State) (hk : Kept ip s) :
    Kept ip (dropRetained s) := by
  unfold dropRetained
  repeat' first
    | with_reducible assumption | intro _
    | (extract_lets +onlyGivenNames xk; first | (refine kept_cut (p := ip) xk ?_ ?_ <;> first | (intro hxk; clear_value xk) | subst xk) | subst xk)
    | with_reducible refine kept_ite ?_ ?_ | split
    | (refine kept_of ?_; dsimp only; with_reducible refine kept_to ?_; with_reducible assumption)

theorem actOnCompared_kept {ip : State} (c : Compared) (r : Bytes) (s : State) (hk : Kept ip s) :
    Kept ip (actOnCompared c r s) := by
  unfold actOnCompared
  repeat' first
    | with_reducible assumption | with_reducible apply grpNote_kept | with_reducible apply startCatchup_kept
    | with_reducible apply setFenced_kept | with_reducible apply checkFpGroup_kept
    | with_reducible apply dropRetained_kept | intro _
    | (extract_lets +onlyGivenNames xk; first | (refine kept_cut (p := ip) xk ?_ ?_ <;> first | (intro hxk; clear_value xk) | subst xk) | subst xk)
    | with_reducible refine kept_ite ?_ ?_ | split
    | (refine kept_of ?_; dsimp only; with_reducible refine kept_to ?_; first | with_reducible assumption | with_reducible apply grpNote_kept | with_reducible apply startCatchup_kept | with_reducible apply setFenced_kept | with_reducible apply checkFpGroup_kept | with_reducible apply dropRetained_kept)

theorem compareBell_kept {ip : State} (from_ : Option Nat) (s : State) (hk : Kept ip s) :
    Kept ip (compareBell from_ s) := by
  unfold compareBell
  repeat' first
    | with_reducible assumption | with_reducible apply setFenced_kept | with_reducible apply dropRetained_kept
    | with_reducible apply actOnCompared_kept | intro _
    | (extract_lets +onlyGivenNames xk; first | (refine kept_cut (p := ip) xk ?_ ?_ <;> first | (intro hxk; clear_value xk) | subst xk) | subst xk)
    | with_reducible refine kept_ite ?_ ?_ | split
    | (refine kept_of ?_; dsimp only; with_reducible refine kept_to ?_; first | with_reducible assumption | with_reducible apply setFenced_kept | with_reducible apply dropRetained_kept | with_reducible apply actOnCompared_kept)

theorem holdRecord_kept {ip : State} (k : Nat) (m : Bytes) (s : State) (hk : Kept ip s) :
    Kept ip (holdRecord k m s) := by
  unfold holdRecord
  repeat' first
    | with_reducible assumption | with_reducible apply grpNote_kept | with_reducible apply roleCause_kept | intro _
    | (extract_lets +onlyGivenNames xk; first | (refine kept_cut (p := ip) xk ?_ ?_ <;> first | (intro hxk; clear_value xk) | subst xk) | subst xk)
    | with_reducible refine kept_ite ?_ ?_ | split
    | (refine kept_of ?_; dsimp only; with_reducible refine kept_to ?_; first | with_reducible assumption | with_reducible apply grpNote_kept | with_reducible apply roleCause_kept)

theorem miswiredRecord_kept {ip : State} (k : Nat) (s : State) (hk : Kept ip s) :
    Kept ip (miswiredRecord k s) := by
  unfold miswiredRecord
  repeat' first
    | with_reducible assumption | with_reducible apply grpNote_kept | intro _
    | (extract_lets +onlyGivenNames xk; first | (refine kept_cut (p := ip) xk ?_ ?_ <;> first | (intro hxk; clear_value xk) | subst xk) | subst xk)
    | with_reducible refine kept_ite ?_ ?_ | split
    | (refine kept_of ?_; dsimp only; with_reducible refine kept_to ?_; first | with_reducible assumption | with_reducible apply grpNote_kept)

theorem recordRx_kept {ip : State} (k : Nat) (sliceCount : Nat) (m : Bytes) (s : State) (hk : Kept ip s) :
    Kept ip (recordRx k sliceCount m s) := by
  unfold recordRx
  repeat' first
    | with_reducible assumption | with_reducible apply elect_kept | with_reducible apply compareBell_kept
    | with_reducible apply holdRecord_kept | with_reducible apply miswiredRecord_kept | intro _
    | (extract_lets +onlyGivenNames xk; first | (refine kept_cut (p := ip) xk ?_ ?_ <;> first | (intro hxk; clear_value xk) | subst xk) | subst xk)
    | with_reducible refine kept_ite ?_ ?_ | split
    | (refine kept_of ?_; dsimp only; with_reducible refine kept_to ?_; first | with_reducible assumption | with_reducible apply elect_kept | with_reducible apply compareBell_kept | with_reducible apply holdRecord_kept | with_reducible apply miswiredRecord_kept)

theorem recordLapse_kept {ip : State} (k : Nat) (s : State) (hk : Kept ip s) :
    Kept ip (recordLapse k s) := by
  unfold recordLapse
  repeat' first
    | with_reducible assumption | with_reducible apply grpNote_kept | with_reducible apply elect_kept
    | with_reducible apply compareBell_kept | intro _
    | (extract_lets +onlyGivenNames xk; first | (refine kept_cut (p := ip) xk ?_ ?_ <;> first | (intro hxk; clear_value xk) | subst xk) | subst xk)
    | with_reducible refine kept_ite ?_ ?_ | split
    | (refine kept_of ?_; dsimp only; with_reducible refine kept_to ?_; first | with_reducible assumption | with_reducible apply grpNote_kept | with_reducible apply elect_kept | with_reducible apply compareBell_kept)

theorem mateRecord_kept {ip : State} (m : Bytes) (s : State) (hk : Kept ip s) :
    Kept ip (mateRecord m s) := by
  unfold mateRecord
  repeat' first
    | with_reducible assumption | with_reducible apply bump_kept | with_reducible apply compareBell_kept
    | with_reducible apply holdRecord_kept | with_reducible apply miswiredRecord_kept | intro _
    | (extract_lets +onlyGivenNames xk; first | (refine kept_cut (p := ip) xk ?_ ?_ <;> first | (intro hxk; clear_value xk) | subst xk) | subst xk)
    | with_reducible refine kept_ite ?_ ?_ | split
    | (refine kept_of ?_; dsimp only; with_reducible refine kept_to ?_; first | with_reducible assumption | with_reducible apply bump_kept | with_reducible apply compareBell_kept | with_reducible apply holdRecord_kept | with_reducible apply miswiredRecord_kept)

theorem bellwetherChange_kept {ip : State} (s : State) (hk : Kept ip s) :
    Kept ip (bellwetherChange s) := by
  unfold bellwetherChange
  repeat' first
    | with_reducible assumption | with_reducible apply grpNote_kept | with_reducible apply roleCause_kept | intro _
    | (extract_lets +onlyGivenNames xk; first | (refine kept_cut (p := ip) xk ?_ ?_ <;> first | (intro hxk; clear_value xk) | subst xk) | subst xk)
    | with_reducible refine kept_ite ?_ ?_ | split
    | (refine kept_of ?_; dsimp only; with_reducible refine kept_to ?_; first | with_reducible assumption | with_reducible apply grpNote_kept | with_reducible apply roleCause_kept)

theorem pageRestore_kept {ip : State} (s : State) (hk : Kept ip s) :
    Kept ip (pageRestore s) := by
  unfold pageRestore
  repeat' first
    | with_reducible assumption | with_reducible apply raise_kept | with_reducible apply post_kept
    | with_reducible apply putPage_kept | with_reducible apply pageRecord_kept | intro _
    | (extract_lets +onlyGivenNames xk; first | (refine kept_cut (p := ip) xk ?_ ?_ <;> first | (intro hxk; clear_value xk) | subst xk) | subst xk)
    | with_reducible refine kept_ite ?_ ?_ | split
    | (refine kept_of ?_; dsimp only; with_reducible refine kept_to ?_; first | with_reducible assumption | with_reducible apply raise_kept | with_reducible apply post_kept | with_reducible apply putPage_kept | with_reducible apply pageRecord_kept)

theorem putRecord_kept {ip : State} (c : Cfg) (p : Option Page) (fp : Word64) (s : State) (hk : Kept ip s) :
    Kept ip (putRecord c p fp s) := by
  unfold putRecord
  repeat' first
    | with_reducible assumption | with_reducible apply recordDue_kept | with_reducible apply putPage_kept | intro _
    | (extract_lets +onlyGivenNames xk; first | (refine kept_cut (p := ip) xk ?_ ?_ <;> first | (intro hxk; clear_value xk) | subst xk) | subst xk)
    | with_reducible refine kept_ite ?_ ?_ | split
    | (refine kept_of ?_; dsimp only; with_reducible refine kept_to ?_; first | with_reducible assumption | with_reducible apply recordDue_kept | with_reducible apply putPage_kept)

theorem groupApply_apply_kept {p : State} (rs : List JRecord) (s : State) (h : Kept p s) :
    Kept p (groupApply.apply rs s) := by
  induction rs generalizing s with
  | nil => exact h
  | cons r rs ih =>
    unfold groupApply.apply
    extract_lets s'
    have hs : Kept p s' := putRecord_kept _ _ _ _ h
    clear_value s'
    split
    · exact hs
    · exact ih _ hs

theorem groupApply_kept {p : State} (s : State) (h : Kept p s) : Kept p (groupApply s) := by
  unfold groupApply
  split
  · exact h
  · split
    · exact putRecord_kept _ _ _ _ h
    · exact groupApply_apply_kept _ _ h

theorem acceptPacket_kept {ip : State} (m : Bytes) (s : State) (hk : Kept ip s) :
    Kept ip (acceptPacket m s) := by
  unfold acceptPacket
  repeat' first
    | with_reducible assumption | with_reducible apply bump_kept | intro _
    | (extract_lets +onlyGivenNames xk; first | (refine kept_cut (p := ip) xk ?_ ?_ <;> first | (intro hxk; clear_value xk) | subst xk) | subst xk)
    | with_reducible refine kept_ite ?_ ?_ | split
    | (refine kept_of ?_; dsimp only; with_reducible refine kept_to ?_; first | with_reducible assumption | with_reducible apply bump_kept)

theorem packetRx_kept {ip : State} (west : Bool) (m : Bytes) (s : State) (hk : Kept ip s) :
    Kept ip (packetRx west m s) := by
  unfold packetRx
  repeat' first
    | with_reducible assumption | with_reducible apply bump_kept | with_reducible apply send_kept
    | with_reducible apply acceptPacket_kept | intro _
    | (extract_lets +onlyGivenNames xk; first | (refine kept_cut (p := ip) xk ?_ ?_ <;> first | (intro hxk; clear_value xk) | subst xk) | subst xk)
    | with_reducible refine kept_ite ?_ ?_ | split
    | (refine kept_of ?_; dsimp only; with_reducible refine kept_to ?_; first | with_reducible assumption | with_reducible apply bump_kept | with_reducible apply send_kept | with_reducible apply acceptPacket_kept)

theorem portRx_kept {ip : State} (west : Bool) (codes : List (BitVec 10)) (s : State) (hk : Kept ip s) :
    Kept ip (portRx west codes s) := by
  unfold portRx
  repeat' first
    | with_reducible assumption | with_reducible apply grpNote_kept | intro _
    | (extract_lets +onlyGivenNames xk; first | (refine kept_cut (p := ip) xk ?_ ?_ <;> first | (intro hxk; clear_value xk) | subst xk) | subst xk)
    | with_reducible refine kept_ite ?_ ?_ | split
    | (refine kept_of ?_; dsimp only; with_reducible refine kept_to ?_; first | with_reducible assumption | with_reducible apply grpNote_kept)

-- Machine/VblRows.lean.

theorem putRx_kept {ip : State} (k : Nat) (x : RxState) (s : State) (hk : Kept ip s) :
    Kept ip (putRx k x s) := hk

theorem putVbl_kept {ip : State} (l : Nat) (x : VblRx) (s : State) (hk : Kept ip s) :
    Kept ip (putVbl l x s) := hk

theorem setBitmap_kept {ip : State} (l v : Nat) (on : Bool) (s : State) (hk : Kept ip s) :
    Kept ip (setBitmap l v on s) := by
  unfold setBitmap
  repeat' first
    | with_reducible assumption | with_reducible apply changeDefect_kept | intro _
    | (extract_lets +onlyGivenNames xk; first | (refine kept_cut (p := ip) xk ?_ ?_ <;> first | (intro hxk; clear_value xk) | subst xk) | subst xk)
    | with_reducible refine kept_ite ?_ ?_ | split
    | (refine kept_of ?_; dsimp only; with_reducible refine kept_to ?_; first | with_reducible assumption | with_reducible apply changeDefect_kept)

theorem setBitRun_kept {ip : State} (k n : Nat) (s : State) (hk : Kept ip s) :
    Kept ip (setBitRun k n s) := hk

theorem filterSlot_kept {p : State} (l : Nat) (m : Bytes) (x : Nat × State) (v : Nat) (h : Kept p x.2) :
    Kept p (filterSlot l m x v).2 := by
  unfold filterSlot
  dsimp only
  split
  · split
    · exact setBitmap_kept _ _ _ _ h
    · exact setBitRun_kept _ _ _ h
  · split
    · exact setBitRun_kept _ _ _ h
    · split
      · exact setBitmap_kept _ _ _ _ h
      · exact setBitRun_kept _ _ _ h

theorem filterSlots_kept {p : State} (l : Nat) (m : Bytes) (vs : List Nat) (x : Nat × State)
    (h : Kept p x.2) : Kept p (vs.foldl (filterSlot l m) x).2 := by
  induction vs generalizing x with
  | nil => exact h
  | cons v vs ih => exact ih _ (filterSlot_kept l m x v h)

theorem countFlips_kept {ip : State} (l n : Nat) (s : State) (hk : Kept ip s) :
    Kept ip (countFlips l n s) := by
  unfold countFlips
  repeat' first
    | with_reducible assumption | with_reducible apply putDistrust_kept | with_reducible apply setDistrust_kept
    | intro _
    | (extract_lets +onlyGivenNames xk; first | (refine kept_cut (p := ip) xk ?_ ?_ <;> first | (intro hxk; clear_value xk) | subst xk) | subst xk)
    | with_reducible refine kept_ite ?_ ?_ | split
    | (refine kept_of ?_; dsimp only; with_reducible refine kept_to ?_; first | with_reducible assumption | with_reducible apply putDistrust_kept | with_reducible apply setDistrust_kept)

theorem takeBitmap_kept {p : State} (l : Nat) (m : Bytes) (s : State) (h : Kept p s) :
    Kept p (takeBitmap l m s) := by
  unfold takeBitmap
  split
  · exact h
  · exact countFlips_kept _ _ _ (filterSlots_kept _ _ _ _ h)

theorem headerRx_kept {ip : State} (l : Nat) (m : Bytes) (s : State) (hk : Kept ip s) :
    Kept ip (headerRx l m s) := by
  unfold headerRx
  repeat' first
    | with_reducible assumption | with_reducible apply putVbl_kept | with_reducible apply takeBitmap_kept | intro _
    | (extract_lets +onlyGivenNames xk; first | (refine kept_cut (p := ip) xk ?_ ?_ <;> first | (intro hxk; clear_value xk) | subst xk) | subst xk)
    | with_reducible refine kept_ite ?_ ?_ | split
    | (refine kept_of ?_; dsimp only; with_reducible refine kept_to ?_; first | with_reducible assumption | with_reducible apply putVbl_kept | with_reducible apply takeBitmap_kept)

theorem trustRestore_kept {ip : State} (l : Nat) (s : State) (hk : Kept ip s) :
    Kept ip (trustRestore l s) := by
  unfold trustRestore
  repeat' first
    | with_reducible assumption | with_reducible apply setDistrust_kept | intro _
    | (extract_lets +onlyGivenNames xk; first | (refine kept_cut (p := ip) xk ?_ ?_ <;> first | (intro hxk; clear_value xk) | subst xk) | subst xk)
    | with_reducible refine kept_ite ?_ ?_ | split
    | (refine kept_of ?_; dsimp only; with_reducible refine kept_to ?_; first | with_reducible assumption | with_reducible apply setDistrust_kept)

theorem distrustRepeat_kept {ip : State} (l : Nat) (s : State) (hk : Kept ip s) :
    Kept ip (distrustRepeat l s) := by
  unfold distrustRepeat
  repeat' first
    | with_reducible assumption | with_reducible apply sendTrust_kept | intro _
    | (extract_lets +onlyGivenNames xk; first | (refine kept_cut (p := ip) xk ?_ ?_ <;> first | (intro hxk; clear_value xk) | subst xk) | subst xk)
    | with_reducible refine kept_ite ?_ ?_ | split
    | (refine kept_of ?_; dsimp only; with_reducible refine kept_to ?_; first | with_reducible assumption | with_reducible apply sendTrust_kept)

theorem dropMessage_kept {ip : State} (l : Nat) (s : State) (hk : Kept ip s) :
    Kept ip (dropMessage l s) := hk

theorem messageNote_kept {ip : State} (l : Nat) (m : Bytes) (addr : Nat) (s : State) (hk : Kept ip s) :
    Kept ip (messageNote l m addr s) := by
  unfold messageNote
  repeat' first
    | with_reducible assumption | with_reducible apply post_kept | intro _
    | (extract_lets +onlyGivenNames xk; first | (refine kept_cut (p := ip) xk ?_ ?_ <;> first | (intro hxk; clear_value xk) | subst xk) | subst xk)
    | with_reducible refine kept_ite ?_ ?_ | split
    | (refine kept_of ?_; dsimp only; with_reducible refine kept_to ?_; first | with_reducible assumption | with_reducible apply post_kept)

theorem toBuffer_kept {ip : State} (l : Nat) (m : Bytes) (b : Nat × List (Nat × Nat)) (s : State) (hk : Kept ip s) :
    Kept ip (toBuffer l m b s) := by
  unfold toBuffer
  repeat' first
    | with_reducible assumption | with_reducible apply messageNote_kept | intro _
    | (extract_lets +onlyGivenNames xk; first | (refine kept_cut (p := ip) xk ?_ ?_ <;> first | (intro hxk; clear_value xk) | subst xk) | subst xk)
    | with_reducible refine kept_ite ?_ ?_ | split
    | (refine kept_of ?_; dsimp only; (first | with_reducible refine keptF_segs _ _ _ ?_ | with_reducible refine keptF_store _ _ ?_ | skip); with_reducible refine kept_to ?_; first | with_reducible assumption | with_reducible apply messageNote_kept)

theorem flushRx_kept {ip : State} (s : State) (hk : Kept ip s) :
    Kept ip (flushRx s) := by
  unfold flushRx
  repeat' first
    | with_reducible assumption | with_reducible apply toBuffer_kept
    | with_reducible refine kept_foldl _ _ (fun _ _ _ => ?_) ?_ | intro _
    | (extract_lets +onlyGivenNames xk; first | (refine kept_cut (p := ip) xk ?_ ?_ <;> first | (intro hxk; clear_value xk) | subst xk) | subst xk)
    | with_reducible refine kept_ite ?_ ?_ | split
    | (refine kept_of ?_; dsimp only; with_reducible refine kept_to ?_; first | with_reducible assumption | with_reducible apply toBuffer_kept)

theorem relayMessage_kept {ip : State} (l : Nat) (m : Bytes) (s : State) (hk : Kept ip s) :
    Kept ip (relayMessage l m s) := by
  unfold relayMessage
  repeat' first
    | with_reducible assumption | with_reducible apply putVbl_kept | with_reducible apply dropMessage_kept
    | with_reducible apply messageNote_kept | with_reducible apply toBuffer_kept | intro _
    | (extract_lets +onlyGivenNames xk; first | (refine kept_cut (p := ip) xk ?_ ?_ <;> first | (intro hxk; clear_value xk) | subst xk) | subst xk)
    | with_reducible refine kept_ite ?_ ?_ | split
    | (refine kept_of ?_; dsimp only; with_reducible refine kept_to ?_; first | with_reducible assumption | with_reducible apply putVbl_kept | with_reducible apply dropMessage_kept | with_reducible apply messageNote_kept | with_reducible apply toBuffer_kept)

theorem stopBlock_kept {ip : State} (l : Nat) (s : State) (hk : Kept ip s) :
    Kept ip (stopBlock l s) := hk

theorem messageRx_kept {ip : State} (l : Nat) (m : Bytes) (s : State) (hk : Kept ip s) :
    Kept ip (messageRx l m s) := by
  unfold messageRx
  repeat' first
    | with_reducible assumption | with_reducible apply dropMessage_kept | with_reducible apply relayMessage_kept
    | with_reducible apply stopBlock_kept | intro _
    | (extract_lets +onlyGivenNames xk; first | (refine kept_cut (p := ip) xk ?_ ?_ <;> first | (intro hxk; clear_value xk) | subst xk) | subst xk)
    | with_reducible refine kept_ite ?_ ?_ | split
    | (refine kept_of ?_; dsimp only; with_reducible refine kept_to ?_; first | with_reducible assumption | with_reducible apply dropMessage_kept | with_reducible apply relayMessage_kept | with_reducible apply stopBlock_kept)

theorem vblVerify_kept {ip : State} (l : Nat) (cands : List VblCand) (s : State) (hk : Kept ip s) :
    Kept ip (vblVerify l cands s) := by
  unfold vblVerify
  repeat' first
    | with_reducible assumption | with_reducible apply changeDefect_kept | with_reducible apply putRx_kept | intro _
    | (extract_lets +onlyGivenNames xk; first | (refine kept_cut (p := ip) xk ?_ ?_ <;> first | (intro hxk; clear_value xk) | subst xk) | subst xk)
    | with_reducible refine kept_ite ?_ ?_ | split
    | (refine kept_of ?_; dsimp only; with_reducible refine kept_to ?_; first | with_reducible assumption | with_reducible apply changeDefect_kept | with_reducible apply putRx_kept)

theorem vblOutOfFrame_kept {ip : State} (l : Nat) (words : List Bytes) (uncorr : List Nat) (s : State) (hk : Kept ip
    s) :
    Kept ip (vblOutOfFrame l words uncorr s) := by
  unfold vblOutOfFrame
  repeat' first
    | with_reducible assumption | with_reducible apply changeDefect_kept | with_reducible apply putRx_kept | intro _
    | (extract_lets +onlyGivenNames xk; first | (refine kept_cut (p := ip) xk ?_ ?_ <;> first | (intro hxk; clear_value xk) | subst xk) | subst xk)
    | with_reducible refine kept_ite ?_ ?_ | split
    | (refine kept_of ?_; dsimp only; with_reducible refine kept_to ?_; first | with_reducible assumption | with_reducible apply changeDefect_kept | with_reducible apply putRx_kept)

theorem freshBitmap_kept {ip : State} (l : Nat) (s : State) (hk : Kept ip s) :
    Kept ip (freshBitmap l s) := by
  unfold freshBitmap
  repeat' first
    | with_reducible assumption | with_reducible refine kept_foldl _ _ (fun _ _ _ => ?_) ?_ | intro _
    | (extract_lets +onlyGivenNames xk; first | (refine kept_cut (p := ip) xk ?_ ?_ <;> first | (intro hxk; clear_value xk) | subst xk) | subst xk)
    | with_reducible refine kept_ite ?_ ?_ | split
    | (refine kept_of ?_; dsimp only; with_reducible refine kept_to ?_; with_reducible assumption)

theorem fecFrame_kept {ip : State} (s : State) (hk : Kept ip s) :
    Kept ip (fecFrame s) := by
  unfold fecFrame
  repeat' first
    | with_reducible assumption | with_reducible apply putVbl_kept
    | with_reducible refine kept_foldl _ _ (fun _ _ _ => ?_) ?_ | intro _
    | (extract_lets +onlyGivenNames xk; first | (refine kept_cut (p := ip) xk ?_ ?_ <;> first | (intro hxk; clear_value xk) | subst xk) | subst xk)
    | with_reducible refine kept_ite ?_ ?_ | split
    | (refine kept_of ?_; dsimp only; with_reducible refine kept_to ?_; first | with_reducible assumption | with_reducible apply putVbl_kept)

theorem vblDefect_kept {ip : State} (l b : Nat) (on : Bool) (s : State) (hk : Kept ip s) :
    Kept ip (vblDefect l b on s) := by
  unfold vblDefect
  repeat' first
    | with_reducible assumption | with_reducible apply changeDefect_kept | with_reducible apply evalSlots_kept
    | with_reducible apply freshBitmap_kept | intro _
    | (extract_lets +onlyGivenNames xk; first | (refine kept_cut (p := ip) xk ?_ ?_ <;> first | (intro hxk; clear_value xk) | subst xk) | subst xk)
    | with_reducible refine kept_ite ?_ ?_ | split
    | (refine kept_of ?_; dsimp only; with_reducible refine kept_to ?_; first | with_reducible assumption | with_reducible apply changeDefect_kept | with_reducible apply evalSlots_kept | with_reducible apply freshBitmap_kept)

theorem vblBarLapse_kept {ip : State} (l : Nat) (s : State) (hk : Kept ip s) :
    Kept ip (vblBarLapse l s) := by
  unfold vblBarLapse
  repeat' first
    | with_reducible assumption | with_reducible apply putRx_kept | intro _
    | (extract_lets +onlyGivenNames xk; first | (refine kept_cut (p := ip) xk ?_ ?_ <;> first | (intro hxk; clear_value xk) | subst xk) | subst xk)
    | with_reducible refine kept_ite ?_ ?_ | split
    | (refine kept_of ?_; dsimp only; with_reducible refine kept_to ?_; first | with_reducible assumption | with_reducible apply putRx_kept)

-- Machine/LaneRows.lean.

theorem putOof_kept {ip : State} (k : Nat) (on : Bool) (s : State) (hk : Kept ip s) :
    Kept ip (putOof k on s) := by
  unfold putOof
  repeat' first
    | with_reducible assumption | with_reducible apply changeDefect_kept | intro _
    | (extract_lets +onlyGivenNames xk; first | (refine kept_cut (p := ip) xk ?_ ?_ <;> first | (intro hxk; clear_value xk) | subst xk) | subst xk)
    | with_reducible refine kept_ite ?_ ?_ | split
    | (refine kept_of ?_; dsimp only; with_reducible refine kept_to ?_; first | with_reducible assumption | with_reducible apply changeDefect_kept)

theorem outOfFrame_kept {ip : State} (k : Nat) (bar : Bool) (s : State) (hk : Kept ip s) :
    Kept ip (outOfFrame k bar s) := by
  unfold outOfFrame
  repeat' first
    | with_reducible assumption | with_reducible apply changeDefect_kept | with_reducible apply putRx_kept
    | with_reducible apply putOof_kept | intro _
    | (extract_lets +onlyGivenNames xk; first | (refine kept_cut (p := ip) xk ?_ ?_ <;> first | (intro hxk; clear_value xk) | subst xk) | subst xk)
    | with_reducible refine kept_ite ?_ ?_ | split
    | (refine kept_of ?_; dsimp only; with_reducible refine kept_to ?_; first | with_reducible assumption | with_reducible apply changeDefect_kept | with_reducible apply putRx_kept | with_reducible apply putOof_kept)

theorem evalGroup_kept {ip : State} (l : Nat) (s : State) (hk : Kept ip s) :
    Kept ip (evalGroup l s) := by
  unfold evalGroup
  repeat' first
    | with_reducible assumption | with_reducible apply changeDefect_kept | with_reducible apply outOfFrame_kept
    | intro _
    | (extract_lets +onlyGivenNames xk; first | (refine kept_cut (p := ip) xk ?_ ?_ <;> first | (intro hxk; clear_value xk) | subst xk) | subst xk)
    | with_reducible refine kept_ite ?_ ?_ | split
    | (refine kept_of ?_; dsimp only; with_reducible refine kept_to ?_; first | with_reducible assumption | with_reducible apply changeDefect_kept | with_reducible apply outOfFrame_kept)

theorem afterRx_kept {ip : State} (k : Nat) (s : State) (hk : Kept ip s) :
    Kept ip (afterRx k s) := by
  unfold afterRx
  repeat' first
    | with_reducible assumption | with_reducible apply evalGroup_kept | intro _
    | (extract_lets +onlyGivenNames xk; first | (refine kept_cut (p := ip) xk ?_ ?_ <;> first | (intro hxk; clear_value xk) | subst xk) | subst xk)
    | with_reducible refine kept_ite ?_ ?_ | split
    | (refine kept_of ?_; dsimp only; with_reducible refine kept_to ?_; first | with_reducible assumption | with_reducible apply evalGroup_kept)

theorem groupFrame_kept {ip : State} (s : State) (hk : Kept ip s) :
    Kept ip (groupFrame s) := by
  unfold groupFrame
  repeat' first
    | with_reducible assumption | with_reducible apply evalGroup_kept
    | with_reducible refine kept_foldl _ _ (fun _ _ _ => ?_) ?_ | intro _
    | (extract_lets +onlyGivenNames xk; first | (refine kept_cut (p := ip) xk ?_ ?_ <;> first | (intro hxk; clear_value xk) | subst xk) | subst xk)
    | with_reducible refine kept_ite ?_ ?_ | split
    | (refine kept_of ?_; dsimp only; with_reducible refine kept_to ?_; first | with_reducible assumption | with_reducible apply evalGroup_kept)

theorem takeMarkers_kept {ip : State} (l n : Nat) (vs : Bytes) (s : State) (hk : Kept ip s) :
    Kept ip (takeMarkers l n vs s) := by
  unfold takeMarkers
  repeat' first
    | with_reducible assumption | with_reducible refine kept_foldl _ _ (fun _ _ _ => ?_) ?_ | intro _
    | (extract_lets +onlyGivenNames xk; first | (refine kept_cut (p := ip) xk ?_ ?_ <;> first | (intro hxk; clear_value xk) | subst xk) | subst xk)
    | with_reducible refine kept_ite ?_ ?_ | split
    | (refine kept_of ?_; dsimp only; with_reducible refine kept_to ?_; with_reducible assumption)

theorem takeLogical_kept {ip : State} (l : Nat) (info : Bytes) (s : State) (hk : Kept ip s) :
    Kept ip (takeLogical l info s) := by
  unfold takeLogical
  repeat' first
    | with_reducible assumption | with_reducible apply takeMarkers_kept | intro _
    | (extract_lets +onlyGivenNames xk; first | (refine kept_cut (p := ip) xk ?_ ?_ <;> first | (intro hxk; clear_value xk) | subst xk) | subst xk)
    | with_reducible refine kept_ite ?_ ?_ | split
    | (refine kept_of ?_; dsimp only; with_reducible refine kept_to ?_; first | with_reducible assumption | with_reducible apply takeMarkers_kept)

theorem takePosition_kept {ip : State} (k p : Nat) (amb : Bool) (s : State) (hk : Kept ip s) :
    Kept ip (takePosition k p amb s) := by
  unfold takePosition
  repeat' first
    | with_reducible assumption | with_reducible apply changeDefect_kept | with_reducible apply putRx_kept
    | with_reducible apply putOof_kept | with_reducible apply afterRx_kept | intro _
    | (extract_lets +onlyGivenNames xk; first | (refine kept_cut (p := ip) xk ?_ ?_ <;> first | (intro hxk; clear_value xk) | subst xk) | subst xk)
    | with_reducible refine kept_ite ?_ ?_ | split
    | (refine kept_of ?_; dsimp only; with_reducible refine kept_to ?_; first | with_reducible assumption | with_reducible apply changeDefect_kept | with_reducible apply putRx_kept | with_reducible apply putOof_kept | with_reducible apply afterRx_kept)

theorem laneVerify_kept {ip : State} (k : Nat) (cands : List Nat) (s : State) (hk : Kept ip s) :
    Kept ip (laneVerify k cands s) := by
  unfold laneVerify
  repeat' first
    | with_reducible assumption | with_reducible apply putRx_kept | with_reducible apply takePosition_kept | intro _
    | (extract_lets +onlyGivenNames xk; first | (refine kept_cut (p := ip) xk ?_ ?_ <;> first | (intro hxk; clear_value xk) | subst xk) | subst xk)
    | with_reducible refine kept_ite ?_ ?_ | split
    | (refine kept_of ?_; dsimp only; with_reducible refine kept_to ?_; first | with_reducible assumption | with_reducible apply putRx_kept | with_reducible apply takePosition_kept)

theorem laneFalseLock_kept {ip : State} (k : Nat) (ev : List Nat) (s : State) (hk : Kept ip s) :
    Kept ip (laneFalseLock k ev s) := by
  unfold laneFalseLock
  repeat' first
    | with_reducible assumption | with_reducible apply outOfFrame_kept | with_reducible apply afterRx_kept | intro _
    | (extract_lets +onlyGivenNames xk; first | (refine kept_cut (p := ip) xk ?_ ?_ <;> first | (intro hxk; clear_value xk) | subst xk) | subst xk)
    | with_reducible refine kept_ite ?_ ?_ | split
    | (refine kept_of ?_; dsimp only; with_reducible refine kept_to ?_; first | with_reducible assumption | with_reducible apply outOfFrame_kept | with_reducible apply afterRx_kept)

theorem laneTie_kept {ip : State} (k : Nat) (b1 : List (Nat × Nat)) (s : State) (hk : Kept ip s) :
    Kept ip (laneTie k b1 s) := by
  unfold laneTie
  repeat' first
    | with_reducible assumption | with_reducible apply takePosition_kept | intro _
    | (extract_lets +onlyGivenNames xk; first | (refine kept_cut (p := ip) xk ?_ ?_ <;> first | (intro hxk; clear_value xk) | subst xk) | subst xk)
    | with_reducible refine kept_ite ?_ ?_ | split
    | (refine kept_of ?_; dsimp only; with_reducible refine kept_to ?_; first | with_reducible assumption | with_reducible apply takePosition_kept)

theorem laneReadmit_kept {ip : State} (k : Nat) (s : State) (hk : Kept ip s) :
    Kept ip (laneReadmit k s) := by
  unfold laneReadmit
  repeat' first
    | with_reducible assumption | with_reducible apply putRx_kept | intro _
    | (extract_lets +onlyGivenNames xk; first | (refine kept_cut (p := ip) xk ?_ ?_ <;> first | (intro hxk; clear_value xk) | subst xk) | subst xk)
    | with_reducible refine kept_ite ?_ ?_ | split
    | (refine kept_of ?_; dsimp only; with_reducible refine kept_to ?_; first | with_reducible assumption | with_reducible apply putRx_kept)

theorem acceptTrace_kept {ip : State} (cls obj : Nat) (t : Bytes) (s : State) (hk : Kept ip s) :
    Kept ip (acceptTrace cls obj t s) := by
  unfold acceptTrace
  repeat' first
    | with_reducible assumption | with_reducible apply changeDefect_kept | with_reducible apply evalTim_kept | intro _
    | (extract_lets +onlyGivenNames xk; first | (refine kept_cut (p := ip) xk ?_ ?_ <;> first | (intro hxk; clear_value xk) | subst xk) | subst xk)
    | with_reducible refine kept_ite ?_ ?_ | split
    | (refine kept_of ?_; dsimp only; with_reducible refine kept_to ?_; first | with_reducible assumption | with_reducible apply changeDefect_kept | with_reducible apply evalTim_kept)

theorem takeMultiframe_kept {ip : State} (l : Nat) (omfi : Bool) (bs : Bytes) (s : State) (hk : Kept ip s) :
    Kept ip (takeMultiframe l omfi bs s) := hk

theorem takeOtn_kept {ip : State} (cls obj b : Nat) (info : Bytes) (s : State) (hk : Kept ip s) :
    Kept ip (takeOtn cls obj b info s) := by
  unfold takeOtn
  repeat' first
    | with_reducible assumption | with_reducible apply takeLogical_kept | with_reducible apply takeMultiframe_kept
    | intro _
    | (extract_lets +onlyGivenNames xk; first | (refine kept_cut (p := ip) xk ?_ ?_ <;> first | (intro hxk; clear_value xk) | subst xk) | subst xk)
    | with_reducible refine kept_ite ?_ ?_ | split
    | (refine kept_of ?_; dsimp only; with_reducible refine kept_to ?_; first | with_reducible assumption | with_reducible apply takeLogical_kept | with_reducible apply takeMultiframe_kept)

theorem laneChange_kept {ip : State} (cls obj b : Nat) (on : Bool) (s : State) (hk : Kept ip s) :
    Kept ip (laneChange cls obj b on s) := by
  unfold laneChange
  repeat' first
    | with_reducible assumption | with_reducible apply changeDefect_kept | with_reducible apply putRx_kept
    | with_reducible refine kept_foldl _ _ (fun _ _ _ => ?_) ?_ | intro _
    | (extract_lets +onlyGivenNames xk; first | (refine kept_cut (p := ip) xk ?_ ?_ <;> first | (intro hxk; clear_value xk) | subst xk) | subst xk)
    | with_reducible refine kept_ite ?_ ?_ | split
    | (refine kept_of ?_; dsimp only; with_reducible refine kept_to ?_; first | with_reducible assumption | with_reducible apply changeDefect_kept | with_reducible apply putRx_kept)

theorem takeOh3_kept {ip : State} (cls obj b : Nat) (info : Bytes) (s : State) (hk : Kept ip s) :
    Kept ip (takeOh3 cls obj b info s) := by
  unfold takeOh3
  repeat' first
    | with_reducible assumption | intro _
    | (extract_lets +onlyGivenNames xk; first | (refine kept_cut (p := ip) xk ?_ ?_ <;> first | (intro hxk; clear_value xk) | subst xk) | subst xk)
    | with_reducible refine kept_ite ?_ ?_ | split
    | (refine kept_of ?_; dsimp only; with_reducible refine kept_to ?_; with_reducible assumption)

theorem laneDefect_kept {ip : State} (cls obj b : Nat) (on : Bool) (info : Bytes) (s : State) (hk : Kept ip s) :
    Kept ip (laneDefect cls obj b on info s) := by
  unfold laneDefect
  repeat' first
    | with_reducible assumption | with_reducible apply evalSlots_kept | with_reducible apply evalGroup_kept
    | with_reducible apply acceptTrace_kept | with_reducible apply takeOtn_kept | with_reducible apply laneChange_kept
    | with_reducible apply takeOh3_kept | intro _
    | (extract_lets +onlyGivenNames xk; first | (refine kept_cut (p := ip) xk ?_ ?_ <;> first | (intro hxk; clear_value xk) | subst xk) | subst xk)
    | with_reducible refine kept_ite ?_ ?_ | split
    | (refine kept_of ?_; dsimp only; with_reducible refine kept_to ?_; first | with_reducible assumption | with_reducible apply evalSlots_kept | with_reducible apply evalGroup_kept | with_reducible apply acceptTrace_kept | with_reducible apply takeOtn_kept | with_reducible apply laneChange_kept | with_reducible apply takeOh3_kept)

theorem unmask_kept {ip : State} (s : State) (e : Nat × RxState) (hk : Kept ip s) :
    Kept ip (unmask s e) := by
  unfold unmask
  repeat' first
    | with_reducible assumption | with_reducible apply putRx_kept | with_reducible apply putOof_kept | intro _
    | (extract_lets +onlyGivenNames xk; first | (refine kept_cut (p := ip) xk ?_ ?_ <;> first | (intro hxk; clear_value xk) | subst xk) | subst xk)
    | with_reducible refine kept_ite ?_ ?_ | split
    | (refine kept_of ?_; dsimp only; with_reducible refine kept_to ?_; first | with_reducible assumption | with_reducible apply putRx_kept | with_reducible apply putOof_kept)

theorem maskFrame_kept {ip : State} (s : State) (hk : Kept ip s) :
    Kept ip (maskFrame s) := by
  unfold maskFrame
  repeat' first
    | with_reducible assumption | with_reducible apply unmask_kept
    | with_reducible refine kept_foldl _ _ (fun _ _ _ => ?_) ?_ | intro _
    | (extract_lets +onlyGivenNames xk; first | (refine kept_cut (p := ip) xk ?_ ?_ <;> first | (intro hxk; clear_value xk) | subst xk) | subst xk)
    | with_reducible refine kept_ite ?_ ?_ | split
    | (refine kept_of ?_; dsimp only; with_reducible refine kept_to ?_; first | with_reducible assumption | with_reducible apply unmask_kept)

theorem putPtr_kept {ip : State} (cls obj : Nat) (x : PtrState) (s : State) (hk : Kept ip s) :
    Kept ip (putPtr cls obj x s) := by
  unfold putPtr
  repeat' first
    | with_reducible assumption | with_reducible apply changeDefect_kept | intro _
    | (extract_lets +onlyGivenNames xk; first | (refine kept_cut (p := ip) xk ?_ ?_ <;> first | (intro hxk; clear_value xk) | subst xk) | subst xk)
    | with_reducible refine kept_ite ?_ ?_ | split
    | (refine kept_of ?_; dsimp only; with_reducible refine kept_to ?_; first | with_reducible assumption | with_reducible apply changeDefect_kept)

theorem takePointers_kept {ip : State} (cls obj : Nat) (info : Bytes) (s : State) (hk : Kept ip s) :
    Kept ip (takePointers cls obj info s) := by
  unfold takePointers
  repeat' first
    | with_reducible assumption | with_reducible apply evalMismatch_kept | with_reducible apply putPtr_kept
    | with_reducible refine kept_foldl _ _ (fun _ _ _ => ?_) ?_ | intro _
    | (extract_lets +onlyGivenNames xk; first | (refine kept_cut (p := ip) xk ?_ ?_ <;> first | (intro hxk; clear_value xk) | subst xk) | subst xk)
    | with_reducible refine kept_ite ?_ ?_ | split
    | (refine kept_of ?_; dsimp only; with_reducible refine kept_to ?_; first | with_reducible assumption | with_reducible apply evalMismatch_kept | with_reducible apply putPtr_kept)

theorem takeH4_kept {ip : State} (g : Nat) (info : Bytes) (s : State) (hk : Kept ip s) :
    Kept ip (takeH4 g info s) := by
  unfold takeH4
  repeat' first
    | with_reducible assumption | with_reducible apply changeDefect_kept | with_reducible apply putPtr_kept
    | with_reducible refine kept_foldl _ _ (fun _ _ _ => ?_) ?_ | intro _
    | (extract_lets +onlyGivenNames xk; first | (refine kept_cut (p := ip) xk ?_ ?_ <;> first | (intro hxk; clear_value xk) | subst xk) | subst xk)
    | with_reducible refine kept_ite ?_ ?_ | split
    | (refine kept_of ?_; dsimp only; with_reducible refine kept_to ?_; first | with_reducible assumption | with_reducible apply changeDefect_kept | with_reducible apply putPtr_kept)

theorem takeStructure_kept {ip : State} (obj : Nat) (info : Bytes) (s : State) (hk : Kept ip s) :
    Kept ip (takeStructure obj info s) := by
  unfold takeStructure
  repeat' first
    | with_reducible assumption | with_reducible apply evalMismatch_kept
    | with_reducible refine kept_foldl _ _ (fun _ _ _ => ?_) ?_ | intro _
    | (extract_lets +onlyGivenNames xk; first | (refine kept_cut (p := ip) xk ?_ ?_ <;> first | (intro hxk; clear_value xk) | subst xk) | subst xk)
    | with_reducible refine kept_ite ?_ ?_ | split
    | (refine kept_of ?_; dsimp only; with_reducible refine kept_to ?_; first | with_reducible assumption | with_reducible apply evalMismatch_kept)

theorem labelSeen_kept {ip : State} (cls obj : Nat) (info : Bytes) (s : State) (hk : Kept ip s) :
    Kept ip (labelSeen cls obj info s) := by
  unfold labelSeen
  repeat' first
    | with_reducible assumption | with_reducible apply changeDefect_kept | intro _
    | (extract_lets +onlyGivenNames xk; first | (refine kept_cut (p := ip) xk ?_ ?_ <;> first | (intro hxk; clear_value xk) | subst xk) | subst xk)
    | with_reducible refine kept_ite ?_ ?_ | split
    | (refine kept_of ?_; dsimp only; with_reducible refine kept_to ?_; first | with_reducible assumption | with_reducible apply changeDefect_kept)

theorem takeLabel_kept {ip : State} (cls obj : Nat) (info : Bytes) (s : State) (hk : Kept ip s) :
    Kept ip (takeLabel cls obj info s) := by
  unfold takeLabel
  repeat' first
    | with_reducible assumption | with_reducible apply changeDefect_kept | intro _
    | (extract_lets +onlyGivenNames xk; first | (refine kept_cut (p := ip) xk ?_ ?_ <;> first | (intro hxk; clear_value xk) | subst xk) | subst xk)
    | with_reducible refine kept_ite ?_ ?_ | split
    | (refine kept_of ?_; dsimp only; with_reducible refine kept_to ?_; first | with_reducible assumption | with_reducible apply changeDefect_kept)

theorem takeRdiCode_kept {ip : State} (obj : Nat) (on : Bool) (info : Bytes) (s : State) (hk : Kept ip s) :
    Kept ip (takeRdiCode obj on info s) := by
  unfold takeRdiCode
  repeat' first
    | with_reducible assumption | with_reducible apply changeDefect_kept
    | with_reducible refine kept_foldl _ _ (fun _ _ _ => ?_) ?_ | intro _
    | (extract_lets +onlyGivenNames xk; first | (refine kept_cut (p := ip) xk ?_ ?_ <;> first | (intro hxk; clear_value xk) | subst xk) | subst xk)
    | with_reducible refine kept_ite ?_ ?_ | split
    | (refine kept_of ?_; dsimp only; with_reducible refine kept_to ?_; first | with_reducible assumption | with_reducible apply changeDefect_kept)

theorem pathDefect_kept {ip : State} (cls obj b : Nat) (on : Bool) (info : Bytes) (s : State) (hk : Kept ip s) :
    Kept ip (pathDefect cls obj b on info s) := by
  unfold pathDefect
  repeat' first
    | with_reducible assumption | with_reducible apply changeDefect_kept | with_reducible apply acceptTrace_kept
    | with_reducible apply takePointers_kept | with_reducible apply takeH4_kept
    | with_reducible apply takeStructure_kept | with_reducible apply labelSeen_kept
    | with_reducible apply takeLabel_kept | with_reducible apply takeRdiCode_kept | intro _
    | (extract_lets +onlyGivenNames xk; first | (refine kept_cut (p := ip) xk ?_ ?_ <;> first | (intro hxk; clear_value xk) | subst xk) | subst xk)
    | with_reducible refine kept_ite ?_ ?_ | split
    | (refine kept_of ?_; dsimp only; with_reducible refine kept_to ?_; first | with_reducible assumption | with_reducible apply changeDefect_kept | with_reducible apply acceptTrace_kept | with_reducible apply takePointers_kept | with_reducible apply takeH4_kept | with_reducible apply takeStructure_kept | with_reducible apply labelSeen_kept | with_reducible apply takeLabel_kept | with_reducible apply takeRdiCode_kept)

theorem berChange_kept {ip : State} (cls obj n : Nat) (on : Bool) (s : State) (hk : Kept ip s) :
    Kept ip (berChange cls obj n on s) := by
  unfold berChange
  repeat' first
    | with_reducible assumption | with_reducible apply evalBands_kept | intro _
    | (extract_lets +onlyGivenNames xk; first | (refine kept_cut (p := ip) xk ?_ ?_ <;> first | (intro hxk; clear_value xk) | subst xk) | subst xk)
    | with_reducible refine kept_ite ?_ ?_ | split
    | (refine kept_of ?_; dsimp only; with_reducible refine kept_to ?_; first | with_reducible assumption | with_reducible apply evalBands_kept)

-- Machine/CarrierRows.lean.

theorem putCar_kept {ip : State} (c : Nat) (x : CarState) (s : State) (hk : Kept ip s) :
    Kept ip (putCar c x s) := hk

theorem evalSig_kept {ip : State} (c : Nat) (s : State) (hk : Kept ip s) :
    Kept ip (evalSig c s) := by
  unfold evalSig
  repeat' first
    | with_reducible assumption | with_reducible apply putCar_kept | intro _
    | (extract_lets +onlyGivenNames xk; first | (refine kept_cut (p := ip) xk ?_ ?_ <;> first | (intro hxk; clear_value xk) | subst xk) | subst xk)
    | with_reducible refine kept_ite ?_ ?_ | split
    | (refine kept_of ?_; dsimp only; with_reducible refine kept_to ?_; first | with_reducible assumption | with_reducible apply putCar_kept)

theorem markPoint_kept {ip : State} (c : Nat) (s : State) (hk : Kept ip s) :
    Kept ip (markPoint c s) := hk

theorem carDefect_kept {ip : State} (c b : Nat) (on : Bool) (s : State) (hk : Kept ip s) :
    Kept ip (carDefect c b on s) := by
  unfold carDefect
  repeat' first
    | with_reducible assumption | with_reducible apply changeDefect_kept | with_reducible apply evalSig_kept | intro _
    | (extract_lets +onlyGivenNames xk; first | (refine kept_cut (p := ip) xk ?_ ?_ <;> first | (intro hxk; clear_value xk) | subst xk) | subst xk)
    | with_reducible refine kept_ite ?_ ?_ | split
    | (refine kept_of ?_; dsimp only; with_reducible refine kept_to ?_; first | with_reducible assumption | with_reducible apply changeDefect_kept | with_reducible apply evalSig_kept)

theorem carTake_kept {ip : State} (c p : Nat) (amb : Bool) (s : State) (hk : Kept ip s) :
    Kept ip (carTake c p amb s) := by
  unfold carTake
  repeat' first
    | with_reducible assumption | with_reducible apply changeDefect_kept | with_reducible apply putCar_kept
    | with_reducible apply markPoint_kept | with_reducible apply carDefect_kept | intro _
    | (extract_lets +onlyGivenNames xk; first | (refine kept_cut (p := ip) xk ?_ ?_ <;> first | (intro hxk; clear_value xk) | subst xk) | subst xk)
    | with_reducible refine kept_ite ?_ ?_ | split
    | (refine kept_of ?_; dsimp only; with_reducible refine kept_to ?_; first | with_reducible assumption | with_reducible apply changeDefect_kept | with_reducible apply putCar_kept | with_reducible apply markPoint_kept | with_reducible apply carDefect_kept)

theorem carVerify_kept {ip : State} (c : Nat) (cands : List (Nat × Bytes)) (s : State) (hk : Kept ip s) :
    Kept ip (carVerify c cands s) := by
  unfold carVerify
  repeat' first
    | with_reducible assumption | with_reducible apply putCar_kept | with_reducible apply carTake_kept | intro _
    | (extract_lets +onlyGivenNames xk; first | (refine kept_cut (p := ip) xk ?_ ?_ <;> first | (intro hxk; clear_value xk) | subst xk) | subst xk)
    | with_reducible refine kept_ite ?_ ?_ | split
    | (refine kept_of ?_; dsimp only; with_reducible refine kept_to ?_; first | with_reducible assumption | with_reducible apply putCar_kept | with_reducible apply carTake_kept)

theorem carTie_kept {ip : State} (c : Nat) (left : List Nat) (s : State) (hk : Kept ip s) :
    Kept ip (carTie c left s) := by
  unfold carTie
  repeat' first
    | with_reducible assumption | with_reducible apply carTake_kept | intro _
    | (extract_lets +onlyGivenNames xk; first | (refine kept_cut (p := ip) xk ?_ ?_ <;> first | (intro hxk; clear_value xk) | subst xk) | subst xk)
    | with_reducible refine kept_ite ?_ ?_ | split
    | (refine kept_of ?_; dsimp only; with_reducible refine kept_to ?_; first | with_reducible assumption | with_reducible apply carTake_kept)

theorem carLose_kept {ip : State} (c : Nat) (bar : Bool) (s : State) (hk : Kept ip s) :
    Kept ip (carLose c bar s) := by
  unfold carLose
  repeat' first
    | with_reducible assumption | with_reducible apply bump_kept | with_reducible apply putCar_kept
    | with_reducible apply carDefect_kept | intro _
    | (extract_lets +onlyGivenNames xk; first | (refine kept_cut (p := ip) xk ?_ ?_ <;> first | (intro hxk; clear_value xk) | subst xk) | subst xk)
    | with_reducible refine kept_ite ?_ ?_ | split
    | (refine kept_of ?_; dsimp only; with_reducible refine kept_to ?_; first | with_reducible assumption | with_reducible apply bump_kept | with_reducible apply putCar_kept | with_reducible apply carDefect_kept)

theorem carFalseLock_kept {ip : State} (c errs total : Nat) (s : State) (hk : Kept ip s) :
    Kept ip (carFalseLock c errs total s) := by
  unfold carFalseLock
  repeat' first
    | with_reducible assumption | with_reducible apply bump_kept | with_reducible apply carDefect_kept
    | with_reducible apply carLose_kept | intro _
    | (extract_lets +onlyGivenNames xk; first | (refine kept_cut (p := ip) xk ?_ ?_ <;> first | (intro hxk; clear_value xk) | subst xk) | subst xk)
    | with_reducible refine kept_ite ?_ ?_ | split
    | (refine kept_of ?_; dsimp only; with_reducible refine kept_to ?_; first | with_reducible assumption | with_reducible apply bump_kept | with_reducible apply carDefect_kept | with_reducible apply carLose_kept)

theorem carBarLapse_kept {ip : State} (c : Nat) (s : State) (hk : Kept ip s) :
    Kept ip (carBarLapse c s) := hk

theorem carInterwork_kept {ip : State} (c : Nat) (s : State) (hk : Kept ip s) :
    Kept ip (carInterwork c s) := by
  unfold carInterwork
  repeat' first
    | with_reducible assumption | with_reducible apply putCar_kept | with_reducible apply evalSig_kept
    | with_reducible apply markPoint_kept | intro _
    | (extract_lets +onlyGivenNames xk; first | (refine kept_cut (p := ip) xk ?_ ?_ <;> first | (intro hxk; clear_value xk) | subst xk) | subst xk)
    | with_reducible refine kept_ite ?_ ?_ | split
    | (refine kept_of ?_; dsimp only; with_reducible refine kept_to ?_; first | with_reducible assumption | with_reducible apply putCar_kept | with_reducible apply evalSig_kept | with_reducible apply markPoint_kept)

theorem carTribFails_kept {ip : State} (c : Nat) (s : State) (hk : Kept ip s) :
    Kept ip (carTribFails c s) := by
  unfold carTribFails
  repeat' first
    | with_reducible assumption | with_reducible apply putCar_kept | with_reducible apply carLose_kept | intro _
    | (extract_lets +onlyGivenNames xk; first | (refine kept_cut (p := ip) xk ?_ ?_ <;> first | (intro hxk; clear_value xk) | subst xk) | subst xk)
    | with_reducible refine kept_ite ?_ ?_ | split
    | (refine kept_of ?_; dsimp only; with_reducible refine kept_to ?_; first | with_reducible assumption | with_reducible apply putCar_kept | with_reducible apply carLose_kept)

theorem carChange_kept {ip : State} (c b : Nat) (on : Bool) (ev : List Nat) (s : State) (hk : Kept ip s) :
    Kept ip (carChange c b on ev s) := by
  unfold carChange
  repeat' first
    | with_reducible assumption | with_reducible apply putCar_kept | with_reducible apply carDefect_kept
    | with_reducible apply carTribFails_kept | intro _
    | (extract_lets +onlyGivenNames xk; first | (refine kept_cut (p := ip) xk ?_ ?_ <;> first | (intro hxk; clear_value xk) | subst xk) | subst xk)
    | with_reducible refine kept_ite ?_ ?_ | split
    | (refine kept_of ?_; dsimp only; with_reducible refine kept_to ?_; first | with_reducible assumption | with_reducible apply putCar_kept | with_reducible apply carDefect_kept | with_reducible apply carTribFails_kept)

theorem carSlip_kept {ip : State} (c : Nat) (delete : Bool) (s : State) (hk : Kept ip s) :
    Kept ip (carSlip c delete s) := by
  unfold carSlip
  repeat' first
    | with_reducible assumption | with_reducible apply bump_kept | with_reducible apply putCar_kept | intro _
    | (extract_lets +onlyGivenNames xk; first | (refine kept_cut (p := ip) xk ?_ ?_ <;> first | (intro hxk; clear_value xk) | subst xk) | subst xk)
    | with_reducible refine kept_ite ?_ ?_ | split
    | (refine kept_of ?_; dsimp only; with_reducible refine kept_to ?_; first | with_reducible assumption | with_reducible apply bump_kept | with_reducible apply putCar_kept)

theorem carSigExpiry_kept {ip : State} (c : Nat) (s : State) (hk : Kept ip s) :
    Kept ip (carSigExpiry c s) := by
  unfold carSigExpiry
  repeat' first
    | with_reducible assumption | with_reducible apply putCar_kept | intro _
    | (extract_lets +onlyGivenNames xk; first | (refine kept_cut (p := ip) xk ?_ ?_ <;> first | (intro hxk; clear_value xk) | subst xk) | subst xk)
    | with_reducible refine kept_ite ?_ ?_ | split
    | (refine kept_of ?_; dsimp only; with_reducible refine kept_to ?_; first | with_reducible assumption | with_reducible apply putCar_kept)

theorem carLoss_kept {ip : State} (c : Nat) (ev : List Nat) (s : State) (hk : Kept ip s) :
    Kept ip (carLoss c ev s) := by
  unfold carLoss
  repeat' first
    | with_reducible assumption | with_reducible apply putCar_kept | with_reducible apply carLose_kept | intro _
    | (extract_lets +onlyGivenNames xk; first | (refine kept_cut (p := ip) xk ?_ ?_ <;> first | (intro hxk; clear_value xk) | subst xk) | subst xk)
    | with_reducible refine kept_ite ?_ ?_ | split
    | (refine kept_of ?_; dsimp only; with_reducible refine kept_to ?_; first | with_reducible assumption | with_reducible apply putCar_kept | with_reducible apply carLose_kept)

theorem carMultiframe_kept {ip : State} (c : Nat) (cas : Bool) (ev : List Nat) (s : State) (hk : Kept ip s) :
    Kept ip (carMultiframe c cas ev s) := by
  unfold carMultiframe
  repeat' first
    | with_reducible assumption | with_reducible apply putCar_kept | with_reducible apply evalSig_kept
    | with_reducible apply markPoint_kept | with_reducible apply carDefect_kept | intro _
    | (extract_lets +onlyGivenNames xk; first | (refine kept_cut (p := ip) xk ?_ ?_ <;> first | (intro hxk; clear_value xk) | subst xk) | subst xk)
    | with_reducible refine kept_ite ?_ ?_ | split
    | (refine kept_of ?_; dsimp only; with_reducible refine kept_to ?_; first | with_reducible assumption | with_reducible apply putCar_kept | with_reducible apply evalSig_kept | with_reducible apply markPoint_kept | with_reducible apply carDefect_kept)

theorem carFrame_kept {ip : State} (s : State) (hk : Kept ip s) :
    Kept ip (carFrame s) := by
  unfold carFrame
  repeat' first
    | with_reducible assumption | with_reducible apply evalSig_kept
    | with_reducible refine kept_foldl _ _ (fun _ _ _ => ?_) ?_ | intro _
    | (extract_lets +onlyGivenNames xk; first | (refine kept_cut (p := ip) xk ?_ ?_ <;> first | (intro hxk; clear_value xk) | subst xk) | subst xk)
    | with_reducible refine kept_ite ?_ ?_ | split
    | (refine kept_of ?_; dsimp only; with_reducible refine kept_to ?_; first | with_reducible assumption | with_reducible apply evalSig_kept)

-- Machine/Egress.lean.

theorem genFrame_kept {ip : State} (s : State) (hk : Kept ip s) :
    Kept ip (genFrame s) := hk

theorem checkBegin_kept {ip : State} (c : Nat) (s : State) (hk : Kept ip s) :
    Kept ip (checkBegin c s) := by
  unfold checkBegin
  repeat' first
    | with_reducible assumption | intro _
    | (extract_lets +onlyGivenNames xk; first | (refine kept_cut (p := ip) xk ?_ ?_ <;> first | (intro hxk; clear_value xk) | subst xk) | subst xk)
    | with_reducible refine kept_ite ?_ ?_ | split
    | (refine kept_of ?_; dsimp only; with_reducible refine kept_to ?_; with_reducible assumption)

theorem checkFrame_kept {ip : State} (c : Nat) (s : State) (hk : Kept ip s) :
    Kept ip (checkFrame c s) := hk

theorem parityFrame_kept {ip : State} (s : State) (hk : Kept ip s) :
    Kept ip (parityFrame s) := hk

theorem checkFrames_kept {ip : State} (f : Nat → State → State) (s : State) (hf : ∀ x0 s, Kept ip s → Kept ip (f x0
    s)) (hk : Kept ip s) :
    Kept ip (checkFrames f s) := by
  unfold checkFrames
  repeat' first
    | with_reducible assumption | with_reducible apply hf | with_reducible refine kept_foldl _ _ (fun _ _ _ => ?_) ?_
    | intro _
    | (extract_lets +onlyGivenNames xk; first | (refine kept_cut (p := ip) xk ?_ ?_ <;> first | (intro hxk; clear_value xk) | subst xk) | subst xk)
    | with_reducible refine kept_ite ?_ ?_ | split
    | (refine kept_of ?_; dsimp only; with_reducible refine kept_to ?_; first | with_reducible assumption | with_reducible apply hf)

theorem egressSends_kept {ip : State} (s : State) (hk : Kept ip s) :
    Kept ip (egressSends s) := by
  unfold egressSends
  repeat' first
    | with_reducible assumption | with_reducible apply send_kept
    | with_reducible refine kept_foldl _ _ (fun _ _ _ => ?_) ?_ | intro _
    | (extract_lets +onlyGivenNames xk; first | (refine kept_cut (p := ip) xk ?_ ?_ <;> first | (intro hxk; clear_value xk) | subst xk) | subst xk)
    | with_reducible refine kept_ite ?_ ?_ | split
    | (refine kept_of ?_; dsimp only; with_reducible refine kept_to ?_; first | with_reducible assumption | with_reducible apply send_kept)

theorem egressFrame_kept {ip : State} (s : State) (hk : Kept ip s) :
    Kept ip (egressFrame s) := by
  unfold egressFrame
  repeat' first
    | with_reducible assumption | with_reducible apply genFrame_kept | with_reducible apply checkBegin_kept
    | with_reducible apply checkFrame_kept | with_reducible apply parityFrame_kept
    | with_reducible apply checkFrames_kept | with_reducible apply egressSends_kept | intro _
    | (extract_lets +onlyGivenNames xk; first | (refine kept_cut (p := ip) xk ?_ ?_ <;> first | (intro hxk; clear_value xk) | subst xk) | subst xk)
    | with_reducible refine kept_ite ?_ ?_ | split
    | (refine kept_of ?_; dsimp only; with_reducible refine kept_to ?_; first | with_reducible assumption | with_reducible apply genFrame_kept | with_reducible apply checkBegin_kept | with_reducible apply checkFrame_kept | with_reducible apply parityFrame_kept | with_reducible apply checkFrames_kept | with_reducible apply egressSends_kept)

-- Machine/LineOut.lean.

theorem lineParity_kept {ip : State} (s : State) (hk : Kept ip s) :
    Kept ip (lineParity s) := hk

theorem groupTxFrame_kept {ip : State} (s : State) (hk : Kept ip s) :
    Kept ip (groupTxFrame s) := by
  unfold groupTxFrame
  repeat' first
    | with_reducible assumption | intro _
    | (extract_lets +onlyGivenNames xk; first | (refine kept_cut (p := ip) xk ?_ ?_ <;> first | (intro hxk; clear_value xk) | subst xk) | subst xk)
    | with_reducible refine kept_ite ?_ ?_ | split
    | (refine kept_of ?_; dsimp only; with_reducible refine kept_to ?_; with_reducible assumption)

theorem lineSends_kept {ip : State} (s : State) (hk : Kept ip s) :
    Kept ip (lineSends s) := by
  unfold lineSends
  repeat' first
    | with_reducible assumption | with_reducible apply send_kept | with_reducible apply lineParity_kept
    | with_reducible refine kept_foldl _ _ (fun _ _ _ => ?_) ?_ | intro _
    | (extract_lets +onlyGivenNames xk; first | (refine kept_cut (p := ip) xk ?_ ?_ <;> first | (intro hxk; clear_value xk) | subst xk) | subst xk)
    | with_reducible refine kept_ite ?_ ?_ | split
    | (refine kept_of ?_; dsimp only; with_reducible refine kept_to ?_; first | with_reducible assumption | with_reducible apply send_kept | with_reducible apply lineParity_kept)

-- Machine/ReportRows.lean.

theorem reportDefects_kept {ip : State} (s : State) (hk : Kept ip s) :
    Kept ip (reportDefects s) := by
  unfold reportDefects
  repeat' first
    | with_reducible assumption | with_reducible apply raise_kept | with_reducible apply post_kept
    | with_reducible refine kept_foldl _ _ (fun _ _ _ => ?_) ?_ | intro _
    | (extract_lets +onlyGivenNames xk; first | (refine kept_cut (p := ip) xk ?_ ?_ <;> first | (intro hxk; clear_value xk) | subst xk) | subst xk)
    | with_reducible refine kept_ite ?_ ?_ | split
    | (refine kept_of ?_; dsimp only; with_reducible refine kept_to ?_; first | with_reducible assumption | with_reducible apply raise_kept | with_reducible apply post_kept)

theorem switchEvent_kept {ip : State} (s : State) (x : Nat × Leg × Nat × FN) (hk : Kept ip s) :
    Kept ip (switchEvent s x) := by
  unfold switchEvent
  repeat' first
    | with_reducible assumption | with_reducible apply postAt_kept | intro _
    | (extract_lets +onlyGivenNames xk; first | (refine kept_cut (p := ip) xk ?_ ?_ <;> first | (intro hxk; clear_value xk) | subst xk) | subst xk)
    | with_reducible refine kept_ite ?_ ?_ | split
    | (refine kept_of ?_; dsimp only; with_reducible refine kept_to ?_; first | with_reducible assumption | with_reducible apply postAt_kept)

theorem reportSwitches_kept {ip : State} (s : State) (hk : Kept ip s) :
    Kept ip (reportSwitches s) := by
  unfold reportSwitches
  repeat' first
    | with_reducible assumption | with_reducible apply raise_kept | with_reducible apply post_kept
    | with_reducible apply switchEvent_kept | with_reducible refine kept_foldl _ _ (fun _ _ _ => ?_) ?_ | intro _
    | (extract_lets +onlyGivenNames xk; first | (refine kept_cut (p := ip) xk ?_ ?_ <;> first | (intro hxk; clear_value xk) | subst xk) | subst xk)
    | with_reducible refine kept_ite ?_ ?_ | split
    | (refine kept_of ?_; dsimp only; with_reducible refine kept_to ?_; first | with_reducible assumption | with_reducible apply raise_kept | with_reducible apply post_kept | with_reducible apply switchEvent_kept)

theorem gatherBlock_kept {ip : State} (s : State) (b : Nat) (hk : Kept ip s) :
    Kept ip (gatherBlock s b) := by
  unfold gatherBlock
  repeat' first
    | with_reducible assumption | with_reducible apply bump_kept
    | with_reducible refine kept_foldl _ _ (fun _ _ _ => ?_) ?_ | intro _
    | (extract_lets +onlyGivenNames xk; first | (refine kept_cut (p := ip) xk ?_ ?_ <;> first | (intro hxk; clear_value xk) | subst xk) | subst xk)
    | with_reducible refine kept_ite ?_ ?_ | split
    | (refine kept_of ?_; dsimp only; with_reducible refine kept_to ?_; first | with_reducible assumption | with_reducible apply bump_kept)

theorem gatherCore_kept {ip : State} (s : State) (n : Nat) (hk : Kept ip s) :
    Kept ip (gatherCore s n) := hk

theorem clearOvf_kept {ip : State} (s : State) (hk : Kept ip s) :
    Kept ip (clearOvf s) := hk

theorem gather_kept {ip : State} (s : State) (hk : Kept ip s) :
    Kept ip (gather s) := by
  unfold gather
  repeat' first
    | with_reducible assumption | with_reducible apply bump_kept | with_reducible apply obsNote_kept
    | with_reducible apply gatherBlock_kept | with_reducible apply gatherCore_kept
    | with_reducible apply clearOvf_kept | with_reducible refine kept_foldl _ _ (fun _ _ _ => ?_) ?_ | intro _
    | (extract_lets +onlyGivenNames xk; first | (refine kept_cut (p := ip) xk ?_ ?_ <;> first | (intro hxk; clear_value xk) | subst xk) | subst xk)
    | with_reducible refine kept_ite ?_ ?_ | split
    | (refine kept_of ?_; dsimp only; with_reducible refine kept_to ?_; first | with_reducible assumption | with_reducible apply bump_kept | with_reducible apply obsNote_kept | with_reducible apply gatherBlock_kept | with_reducible apply gatherCore_kept | with_reducible apply clearOvf_kept)

theorem prbsSync_kept {ip : State} (u : Nat) (gain : Bool) (ev : List Bool) (s : State) (hk : Kept ip s) :
    Kept ip (prbsSync u gain ev s) := by
  unfold prbsSync
  repeat' first
    | with_reducible assumption | with_reducible apply raise_kept | with_reducible apply obsNote_kept | intro _
    | (extract_lets +onlyGivenNames xk; first | (refine kept_cut (p := ip) xk ?_ ?_ <;> first | (intro hxk; clear_value xk) | subst xk) | subst xk)
    | with_reducible refine kept_ite ?_ ?_ | split
    | (refine kept_of ?_; dsimp only; with_reducible refine kept_to ?_; first | with_reducible assumption | with_reducible apply raise_kept | with_reducible apply obsNote_kept)

theorem prbsFrame_kept {ip : State} (s : State) (hk : Kept ip s) :
    Kept ip (prbsFrame s) := hk

-- Machine/ImageCmds.lean.

theorem setImage_kept {ip : State} (n : BitVec 3) (s : State) (hk : Kept ip s) :
    Kept ip (setImage n s) := hk

theorem receive_kept {ip : State} (p : Bytes) (s : State) (hk : Kept ip s) :
    Kept ip (receive p s) := hk

theorem verifyDone_kept {ip : State} (tok : Option CmdTok) (s : State) (hk : Kept ip s) :
    Kept ip (verifyDone tok s) := by
  unfold verifyDone
  repeat' first
    | with_reducible assumption | with_reducible apply updNote_kept | with_reducible apply completeOpt_kept
    | with_reducible apply setImage_kept | intro _
    | (extract_lets +onlyGivenNames xk; first | (refine kept_cut (p := ip) xk ?_ ?_ <;> first | (intro hxk; clear_value xk) | subst xk) | subst xk)
    | with_reducible refine kept_ite ?_ ?_ | split
    | (refine kept_of ?_; dsimp only; with_reducible refine kept_to ?_; first | with_reducible assumption | with_reducible apply updNote_kept | with_reducible apply completeOpt_kept | with_reducible apply setImage_kept)

theorem writeIntent_kept {ip : State} (s : State) (hk : Kept ip s) :
    Kept ip (writeIntent s) := hk

theorem updateRecord_kept {ip : State} (s : State) (hk : Kept ip s) :
    Kept ip (updateRecord s) := hk

theorem startUpdate_kept {ip : State} (tok : CmdTok) (hold : Bool) (s : State) (hk : Kept ip s) :
    Kept ip (startUpdate tok hold s) := hk

theorem lifecycleField_kept {p : State} (b : Bytes) (s : State) (h : Kept p s) : Kept p (lifecycleField b s) := by
  obtain ⟨h1, h2, h3, h4, ⟨a1, a2, _, a4⟩, h6⟩ := h
  exact secNote_kept _ _ _ ⟨h1, h2, h3, h4, ⟨a1, a2, fun _ => rfl, a4⟩, h6⟩

theorem retire_kept {p : State} (s : State) (h : Kept p s) : Kept p (retire s) := by
  obtain ⟨h1, h2, h3, h4, ⟨a1, a2, a3, _⟩, h6⟩ := h
  exact assertCold_kept _ _ ⟨h1, h2, h3, h4, ⟨a1, a2, a3, fun _ => rfl⟩, h6⟩

theorem activate_kept {ip : State} (tok : CmdTok) (hold : Bool) (s : State) (hk : Kept ip s) :
    Kept ip (activate tok hold s) := by
  unfold activate
  repeat' first
    | with_reducible assumption | with_reducible apply completeOk_kept | with_reducible apply assertCold_kept
    | with_reducible apply setImage_kept | with_reducible apply writeIntent_kept
    | with_reducible apply updateRecord_kept | with_reducible apply startUpdate_kept
    | with_reducible apply lifecycleField_kept | with_reducible apply retire_kept | intro _
    | (extract_lets +onlyGivenNames xk; first | (refine kept_cut (p := ip) xk ?_ ?_ <;> first | (intro hxk; clear_value xk) | subst xk) | subst xk)
    | with_reducible refine kept_ite ?_ ?_ | split
    | (refine kept_of ?_; dsimp only; with_reducible refine kept_to ?_; first | with_reducible assumption | with_reducible apply completeOk_kept | with_reducible apply assertCold_kept | with_reducible apply setImage_kept | with_reducible apply writeIntent_kept | with_reducible apply updateRecord_kept | with_reducible apply startUpdate_kept | with_reducible apply lifecycleField_kept | with_reducible apply retire_kept)

theorem endConfirm_kept {ip : State} (st : Byte) (s : State) (hk : Kept ip s) :
    Kept ip (endConfirm st s) := by
  unfold endConfirm
  repeat' first
    | with_reducible assumption | with_reducible apply completeOpt_kept
    | with_reducible refine kept_foldl _ _ (fun _ _ _ => ?_) ?_ | intro _
    | (extract_lets +onlyGivenNames xk; first | (refine kept_cut (p := ip) xk ?_ ?_ <;> first | (intro hxk; clear_value xk) | subst xk) | subst xk)
    | with_reducible refine kept_ite ?_ ?_ | split
    | (refine kept_of ?_; dsimp only; with_reducible refine kept_to ?_; first | with_reducible assumption | with_reducible apply completeOpt_kept)

theorem endTrial_kept {ip : State} (s : State) (hk : Kept ip s) :
    Kept ip (endTrial s) := hk

theorem fallBack_kept {ip : State} (s : State) (hk : Kept ip s) :
    Kept ip (fallBack s) := by
  unfold fallBack
  repeat' first
    | with_reducible assumption | with_reducible apply assertCold_kept | with_reducible apply endTrial_kept | intro _
    | (extract_lets +onlyGivenNames xk; first | (refine kept_cut (p := ip) xk ?_ ?_ <;> first | (intro hxk; clear_value xk) | subst xk) | subst xk)
    | with_reducible refine kept_ite ?_ ?_ | split
    | (refine kept_of ?_; dsimp only; with_reducible refine kept_to ?_; first | with_reducible assumption | with_reducible apply assertCold_kept | with_reducible apply endTrial_kept)

theorem startCompaction_kept {ip : State} (s : State) (hk : Kept ip s) :
    Kept ip (startCompaction s) := hk

theorem beginCompaction_kept {ip : State} (s : State) (hk : Kept ip s) :
    Kept ip (beginCompaction s) := by
  unfold beginCompaction
  repeat' first
    | with_reducible assumption | with_reducible apply raise_kept | with_reducible apply journalNote_kept
    | with_reducible apply startCompaction_kept | intro _
    | (extract_lets +onlyGivenNames xk; first | (refine kept_cut (p := ip) xk ?_ ?_ <;> first | (intro hxk; clear_value xk) | subst xk) | subst xk)
    | with_reducible refine kept_ite ?_ ?_ | split
    | (refine kept_of ?_; dsimp only; with_reducible refine kept_to ?_; first | with_reducible assumption | with_reducible apply raise_kept | with_reducible apply journalNote_kept | with_reducible apply startCompaction_kept)

theorem startDomain_kept {ip : State} (d : Nat) (t : DomState) (s : State) (hk : Kept ip s) :
    Kept ip (startDomain d t s) := hk

-- Machine/Rings.lean.

theorem drainHead_kept {ip : State} (s : State) (hk : Kept ip s) :
    Kept ip (drainHead s) := by
  unfold drainHead
  repeat' first
    | with_reducible assumption | with_reducible apply drainBad_kept | intro _
    | (extract_lets +onlyGivenNames xk; first | (refine kept_cut (p := ip) xk ?_ ?_ <;> first | (intro hxk; clear_value xk) | subst xk) | subst xk)
    | with_reducible refine kept_ite ?_ ?_ | split
    | (refine kept_of ?_; dsimp only; with_reducible refine kept_to ?_; first | with_reducible assumption | with_reducible apply drainBad_kept)

theorem fetch_kept {ip : State} (s0 : State) (hk : Kept ip s0) :
    Kept ip (fetch s0) := by
  unfold fetch
  repeat' first
    | with_reducible assumption | with_reducible apply raise_kept | with_reducible apply drainHead_kept | intro _
    | (extract_lets +onlyGivenNames xk; first | (refine kept_cut (p := ip) xk ?_ ?_ <;> first | (intro hxk; clear_value xk) | subst xk) | subst xk)
    | with_reducible refine kept_ite ?_ ?_ | split
    | (refine kept_of ?_; dsimp only; with_reducible refine kept_to ?_; first | with_reducible assumption | with_reducible apply raise_kept | with_reducible apply drainHead_kept)

theorem phaseTimeout_kept {ip : State} (s : State) (hk : Kept ip s) :
    Kept ip (phaseTimeout s) := by
  unfold phaseTimeout
  repeat' first
    | with_reducible assumption | with_reducible apply raise_kept | intro _
    | (extract_lets +onlyGivenNames xk; first | (refine kept_cut (p := ip) xk ?_ ?_ <;> first | (intro hxk; clear_value xk) | subst xk) | subst xk)
    | with_reducible refine kept_ite ?_ ?_ | split
    | (refine kept_of ?_; dsimp only; with_reducible refine kept_to ?_; first | with_reducible assumption | with_reducible apply raise_kept)

theorem putInForce_kept {p : State} (x : Sched) (s : State) (h : Kept p s) : Kept p (putInForce x s).2 := by
  unfold putInForce
  split
  · exact h
  · exact applyEffect_kept _ _ _ h
  · exact applyEffect_kept _ _ _ h

theorem dueEffect_kept {p : State} (fn : FN) (a : List Sched × State) (x : Sched) (h : Kept p a.2) :
    Kept p (dueEffect fn a x).2 := by
  unfold dueEffect
  split
  · exact putInForce_kept _ _ h
  · exact h

theorem dueEffects_kept {p : State} (fn : FN) (xs : List Sched) (a : List Sched × State) (h : Kept p a.2) :
    Kept p (xs.foldl (dueEffect fn) a).2 := by
  induction xs generalizing a with
  | nil => exact h
  | cons x xs ih => exact ih _ (dueEffect_kept fn a x h)

theorem dueFrame_kept {p : State} (s : State) (h : Kept p s) : Kept p (dueFrame s) := by
  unfold dueFrame
  extract_lets r
  have hr : Kept p r.2 := dueEffects_kept _ _ _ h
  clear_value r
  refine kept_of ?_
  dsimp only
  with_reducible refine kept_to ?_
  exact hr

theorem completeSched_kept {ip : State} (x : Sched) (s : State) (hk : Kept ip s) :
    Kept ip (completeSched x s) := by
  unfold completeSched
  repeat' first
    | with_reducible assumption | with_reducible apply completeOpt_kept | intro _
    | (extract_lets +onlyGivenNames xk; first | (refine kept_cut (p := ip) xk ?_ ?_ <;> first | (intro hxk; clear_value xk) | subst xk) | subst xk)
    | with_reducible refine kept_ite ?_ ?_ | split
    | (refine kept_of ?_; dsimp only; with_reducible refine kept_to ?_; first | with_reducible assumption | with_reducible apply completeOpt_kept)

theorem endSched_kept {p : State} (x : Sched) (s : State) (h : Kept p s) : Kept p (endSched x s) := by
  have hy : Kept p (if x.applied then (x, s) else putInForce x s).2 := by
    split
    · exact h
    · exact putInForce_kept _ _ h
  unfold endSched completeSched
  dsimp only
  refine drainHead_kept _ ?_
  split <;> exact completeOpt_kept _ _ _ _ _ hy

theorem waitingDone_kept {ip : State} (i : Nat) (s : State) (hk : Kept ip s) :
    Kept ip (waitingDone i s) := by
  unfold waitingDone
  repeat' first
    | with_reducible assumption | with_reducible apply verifyDone_kept | with_reducible apply endSched_kept | intro _
    | (extract_lets +onlyGivenNames xk; first | (refine kept_cut (p := ip) xk ?_ ?_ <;> first | (intro hxk; clear_value xk) | subst xk) | subst xk)
    | with_reducible refine kept_ite ?_ ?_ | split
    | (refine kept_of ?_; dsimp only; with_reducible refine kept_to ?_; first | with_reducible assumption | with_reducible apply verifyDone_kept | with_reducible apply endSched_kept)

theorem writeCpl_kept {ip : State} (s : State) (hk : Kept ip s) :
    Kept ip (writeCpl s) := by
  unfold writeCpl
  repeat' first
    | with_reducible assumption | with_reducible apply raise_kept | intro _
    | (extract_lets +onlyGivenNames xk; first | (refine kept_cut (p := ip) xk ?_ ?_ <;> first | (intro hxk; clear_value xk) | subst xk) | subst xk)
    | with_reducible refine kept_ite ?_ ?_ | split
    | (refine kept_of ?_; dsimp only; (first | with_reducible refine keptF_segs _ _ _ ?_ | with_reducible refine keptF_store _ _ ?_ | skip); with_reducible refine kept_to ?_; first | with_reducible assumption | with_reducible apply raise_kept)

theorem putEvt_kept {ip : State} (e : Evt) (s : State) (hk : Kept ip s) :
    Kept ip (putEvt e s) := by
  unfold putEvt
  repeat' first
    | with_reducible assumption | with_reducible apply raise_kept | intro _
    | (extract_lets +onlyGivenNames xk; first | (refine kept_cut (p := ip) xk ?_ ?_ <;> first | (intro hxk; clear_value xk) | subst xk) | subst xk)
    | with_reducible refine kept_ite ?_ ?_ | split
    | (refine kept_of ?_; dsimp only; (first | with_reducible refine keptF_segs _ _ _ ?_ | with_reducible refine keptF_store _ _ ?_ | skip); with_reducible refine kept_to ?_; first | with_reducible assumption | with_reducible apply raise_kept)

theorem writeEvt_kept {p : State} (s : State) (h : Kept p s) : Kept p (writeEvt s) := by
  have hq : ∀ e rest o, s.host.evtQ = e :: rest → Kept p { s with host := { s.host with evtQ := rest, lost := o } } := by
    intro e rest o he
    have hl := h.2.2.1
    rw [he, List.length_cons] at hl
    exact ⟨h.1, h.2.1, Nat.le_of_succ_le hl, h.2.2.2⟩
  unfold writeEvt
  dsimp only
  split
  · exact h
  · refine noteHeld_kept _ _ ?_
    split
    · exact putEvt_kept _ _ h
    · next he => exact putEvt_kept _ _ (hq _ _ _ he)
    · exact putEvt_kept _ _ h
    · next he => exact putEvt_kept _ _ (hq _ _ s.host.lost he)
    · exact h

theorem hostSlow_kept {ip : State} (s : State) (hk : Kept ip s) :
    Kept ip (hostSlow s) := by
  unfold hostSlow
  repeat' first
    | with_reducible assumption | with_reducible apply raise_kept | intro _
    | (extract_lets +onlyGivenNames xk; first | (refine kept_cut (p := ip) xk ?_ ?_ <;> first | (intro hxk; clear_value xk) | subst xk) | subst xk)
    | with_reducible refine kept_ite ?_ ?_ | split
    | (refine kept_of ?_; dsimp only; with_reducible refine kept_to ?_; first | with_reducible assumption | with_reducible apply raise_kept)

theorem noteRings_kept {ip : State} (s : State) (hk : Kept ip s) :
    Kept ip (noteRings s) := hk

theorem doorbell_kept {ip : State} (aligned : Bool) (v : Word32) (r : Ring) (inRange : Nat → Bool) (apply : BitVec 17
    → State → State) (s : State) (happly : ∀ x0 s, Kept ip s → Kept ip (apply x0 s)) (hk : Kept ip s) :
    Kept ip (doorbell aligned v r inRange apply s) := by
  unfold doorbell
  repeat' first
    | with_reducible assumption | with_reducible apply raise_kept | with_reducible apply happly | intro _
    | (extract_lets +onlyGivenNames xk; first | (refine kept_cut (p := ip) xk ?_ ?_ <;> first | (intro hxk; clear_value xk) | subst xk) | subst xk)
    | with_reducible refine kept_ite ?_ ?_ | split
    | (refine kept_of ?_; dsimp only; with_reducible refine kept_to ?_; first | with_reducible assumption | with_reducible apply raise_kept | with_reducible apply happly)

theorem hostCells_wf (cells : List Host.Cell) (m : Memory) (h : Memory.wf m = true) :
    Memory.wf (cells.foldl (fun m c => tset 0 m (c.1 % 2 ^ 64) c.2) m) = true := by
  induction cells generalizing m with
  | nil => exact h
  | cons c cells ih => exact ih _ (tset_wf 0 m 0 _ c.2 (Nat.zero_le _) h)

theorem hostWrites_kept {p : State} (cells : List Host.Cell) (s : State) (h : Kept p s) :
    Kept p (hostWrites cells s) := ⟨h.1, hostCells_wf _ _ h.2.1, h.2.2⟩

-- Machine/Pcie.lean.

theorem unmaskFunction_kept {ip : State} (s : State) (hk : Kept ip s) :
    Kept ip (unmaskFunction s) := by
  unfold unmaskFunction
  repeat' first
    | with_reducible assumption | with_reducible apply sendMsix_kept | intro _
    | (extract_lets +onlyGivenNames xk; first | (refine kept_cut (p := ip) xk ?_ ?_ <;> first | (intro hxk; clear_value xk) | subst xk) | subst xk)
    | with_reducible refine kept_ite ?_ ?_ | split
    | (refine kept_of ?_; dsimp only; with_reducible refine kept_to ?_; first | with_reducible assumption | with_reducible apply sendMsix_kept)

theorem enableMsix_kept {ip : State} (s : State) (hk : Kept ip s) :
    Kept ip (enableMsix s) := by
  unfold enableMsix
  repeat' first
    | with_reducible assumption | with_reducible apply sendMsix_kept | intro _
    | (extract_lets +onlyGivenNames xk; first | (refine kept_cut (p := ip) xk ?_ ?_ <;> first | (intro hxk; clear_value xk) | subst xk) | subst xk)
    | with_reducible refine kept_ite ?_ ?_ | split
    | (refine kept_of ?_; dsimp only; with_reducible refine kept_to ?_; first | with_reducible assumption | with_reducible apply sendMsix_kept)

theorem writeMsixCtrl_kept {ip : State} (v : Word32) (s : State) (hk : Kept ip s) :
    Kept ip (writeMsixCtrl v s) := by
  unfold writeMsixCtrl
  repeat' first
    | with_reducible assumption | with_reducible apply unmaskFunction_kept | with_reducible apply enableMsix_kept
    | intro _
    | (extract_lets +onlyGivenNames xk; first | (refine kept_cut (p := ip) xk ?_ ?_ <;> first | (intro hxk; clear_value xk) | subst xk) | subst xk)
    | with_reducible refine kept_ite ?_ ?_ | split
    | (refine kept_of ?_; dsimp only; with_reducible refine kept_to ?_; first | with_reducible assumption | with_reducible apply unmaskFunction_kept | with_reducible apply enableMsix_kept)

theorem writeBar_kept {ip : State} (k : Nat) (v : Word32) (s : State) (hk : Kept ip s) : Kept ip (writeBar k v s) := by
  unfold writeBar
  extract_lets b n
  clear_value n
  exact kept_of (kept_to hk)

theorem putPcie_kept {ip : State} (f : PcieSt → PcieSt) (s : State) (hk : Kept ip s) :
    Kept ip (putPcie f s) := hk

theorem writeConfigReg_kept {ip : State} (off : Nat) (v : Word32) (s : State) (hk : Kept ip s) :
    Kept ip (writeConfigReg off v s) := by
  unfold writeConfigReg
  repeat' first
    | with_reducible assumption | with_reducible apply noteHeld_kept | with_reducible apply writeMsixCtrl_kept
    | with_reducible apply writeBar_kept | with_reducible apply putPcie_kept | intro _
    | (extract_lets +onlyGivenNames xk; first | (refine kept_cut (p := ip) xk ?_ ?_ <;> first | (intro hxk; clear_value xk) | subst xk) | subst xk)
    | with_reducible refine kept_ite ?_ ?_ | split
    | (refine kept_of ?_; dsimp only; with_reducible refine kept_to ?_; first | with_reducible assumption | with_reducible apply noteHeld_kept | with_reducible apply writeMsixCtrl_kept | with_reducible apply writeBar_kept | with_reducible apply putPcie_kept)

theorem writeConfig_kept {ip : State} (off : Nat) (v : Word32) (s : State) (hk : Kept ip s) :
    Kept ip (writeConfig off v s) := by
  unfold writeConfig
  repeat' first
    | with_reducible assumption | with_reducible apply writeConfigReg_kept | intro _
    | (extract_lets +onlyGivenNames xk; first | (refine kept_cut (p := ip) xk ?_ ?_ <;> first | (intro hxk; clear_value xk) | subst xk) | subst xk)
    | with_reducible refine kept_ite ?_ ?_ | split
    | (refine kept_of ?_; dsimp only; with_reducible refine kept_to ?_; first | with_reducible assumption | with_reducible apply writeConfigReg_kept)

-- Machine/Regs.lean.

theorem putRing_kept {ip : State} (r : RingId) (x : Ring) (s : State) (hk : Kept ip s) :
    Kept ip (putRing r x s) := by
  unfold putRing
  repeat' first
    | with_reducible assumption | intro _
    | (extract_lets +onlyGivenNames xk; first | (refine kept_cut (p := ip) xk ?_ ?_ <;> first | (intro hxk; clear_value xk) | subst xk) | subst xk)
    | with_reducible refine kept_ite ?_ ?_ | split
    | (refine kept_of ?_; dsimp only; with_reducible refine kept_to ?_; with_reducible assumption)

theorem badWrite_kept {ip : State} (s : State) (hk : Kept ip s) :
    Kept ip (badWrite s) := by
  unfold badWrite
  repeat' first
    | with_reducible assumption | with_reducible apply raise_kept | intro _
    | (extract_lets +onlyGivenNames xk; first | (refine kept_cut (p := ip) xk ?_ ?_ <;> first | (intro hxk; clear_value xk) | subst xk) | subst xk)
    | with_reducible refine kept_ite ?_ ?_ | split
    | (refine kept_of ?_; dsimp only; with_reducible refine kept_to ?_; first | with_reducible assumption | with_reducible apply raise_kept)

theorem rwl_kept {ip : State} (change : Bool) (set : State → State) (s : State) (hset : ∀ s, Kept ip s → Kept ip (set
    s)) (hk : Kept ip s) :
    Kept ip (rwl change set s) := by
  unfold rwl
  repeat' first
    | with_reducible assumption | with_reducible apply raise_kept | with_reducible apply hset | intro _
    | (extract_lets +onlyGivenNames xk; first | (refine kept_cut (p := ip) xk ?_ ?_ <;> first | (intro hxk; clear_value xk) | subst xk) | subst xk)
    | with_reducible refine kept_ite ?_ ?_ | split
    | (refine kept_of ?_; dsimp only; with_reducible refine kept_to ?_; first | with_reducible assumption | with_reducible apply raise_kept | with_reducible apply hset)

theorem writeBase_kept {ip : State} (r : RingId) (v : Word32) (s : State) (hk : Kept ip s) :
    Kept ip (writeBase r v s) := by
  unfold writeBase
  repeat' first
    | with_reducible assumption | with_reducible apply raise_kept | with_reducible apply putRing_kept | intro _
    | (extract_lets +onlyGivenNames xk; first | (refine kept_cut (p := ip) xk ?_ ?_ <;> first | (intro hxk; clear_value xk) | subst xk) | subst xk)
    | with_reducible refine kept_ite ?_ ?_ | split
    | (refine kept_of ?_; dsimp only; with_reducible refine kept_to ?_; first | with_reducible assumption | with_reducible apply raise_kept | with_reducible apply putRing_kept)

theorem enableRing_kept {ip : State} (r : RingId) (s : State) (hk : Kept ip s) :
    Kept ip (enableRing r s) := by
  unfold enableRing
  repeat' first
    | with_reducible assumption | with_reducible apply raise_kept | with_reducible apply putRing_kept | intro _
    | (extract_lets +onlyGivenNames xk; first | (refine kept_cut (p := ip) xk ?_ ?_ <;> first | (intro hxk; clear_value xk) | subst xk) | subst xk)
    | with_reducible refine kept_ite ?_ ?_ | split
    | (refine kept_of ?_; dsimp only; with_reducible refine kept_to ?_; first | with_reducible assumption | with_reducible apply raise_kept | with_reducible apply putRing_kept)

theorem writeRingCtrl_kept {ip : State} (r : RingId) (v : Word32) (s : State) (hk : Kept ip s) :
    Kept ip (writeRingCtrl r v s) := by
  unfold writeRingCtrl
  repeat' first
    | with_reducible assumption | with_reducible apply raise_kept | with_reducible apply noteHeld_kept
    | with_reducible apply putRing_kept | with_reducible apply enableRing_kept | intro _
    | (extract_lets +onlyGivenNames xk; first | (refine kept_cut (p := ip) xk ?_ ?_ <;> first | (intro hxk; clear_value xk) | subst xk) | subst xk)
    | with_reducible refine kept_ite ?_ ?_ | split
    | (refine kept_of ?_; dsimp only; with_reducible refine kept_to ?_; first | with_reducible assumption | with_reducible apply raise_kept | with_reducible apply noteHeld_kept | with_reducible apply putRing_kept | with_reducible apply enableRing_kept)

theorem writeRing_kept {ip : State} (r : RingId) (rel : Nat) (v : Word32) (s : State) (hk : Kept ip s) :
    Kept ip (writeRing r rel v s) := by
  unfold writeRing
  repeat' first
    | with_reducible assumption | with_reducible apply writeBase_kept | with_reducible apply writeRingCtrl_kept
    | intro _
    | (extract_lets +onlyGivenNames xk; first | (refine kept_cut (p := ip) xk ?_ ?_ <;> first | (intro hxk; clear_value xk) | subst xk) | subst xk)
    | with_reducible refine kept_ite ?_ ?_ | split
    | (refine kept_of ?_; dsimp only; with_reducible refine kept_to ?_; first | with_reducible assumption | with_reducible apply writeBase_kept | with_reducible apply writeRingCtrl_kept)

theorem dmaPut_kept {ip : State} (n : Nat) (f : DmaSet → DmaSet) (s : State) (hk : Kept ip s) :
    Kept ip (dmaPut n f s) := by
  unfold dmaPut
  repeat' first
    | with_reducible assumption | with_reducible apply putCh_kept | intro _
    | (extract_lets +onlyGivenNames xk; first | (refine kept_cut (p := ip) xk ?_ ?_ <;> first | (intro hxk; clear_value xk) | subst xk) | subst xk)
    | with_reducible refine kept_ite ?_ ?_ | split
    | (refine kept_of ?_; dsimp only; with_reducible refine kept_to ?_; first | with_reducible assumption | with_reducible apply putCh_kept)

theorem writeDma_kept {ip : State} (n rel : Nat) (v : Word32) (s : State) (hk : Kept ip s) :
    Kept ip (writeDma n rel v s) := by
  unfold writeDma
  repeat' first
    | with_reducible assumption | with_reducible apply raise_kept | with_reducible apply putCh_kept
    | with_reducible apply dmaCtrlWrite_kept | with_reducible apply dmaPut_kept | intro _
    | (extract_lets +onlyGivenNames xk; first | (refine kept_cut (p := ip) xk ?_ ?_ <;> first | (intro hxk; clear_value xk) | subst xk) | subst xk)
    | with_reducible refine kept_ite ?_ ?_ | split
    | (refine kept_of ?_; dsimp only; with_reducible refine kept_to ?_; first | with_reducible assumption | with_reducible apply raise_kept | with_reducible apply putCh_kept | with_reducible apply dmaCtrlWrite_kept | with_reducible apply dmaPut_kept)

theorem writePmc_kept {ip : State} (i rel : Nat) (v : Word32) (s : State) (hk : Kept ip s) :
    Kept ip (writePmc i rel v s) := by
  unfold writePmc
  repeat' first
    | with_reducible assumption | intro _
    | (extract_lets +onlyGivenNames xk; first | (refine kept_cut (p := ip) xk ?_ ?_ <;> first | (intro hxk; clear_value xk) | subst xk) | subst xk)
    | with_reducible refine kept_ite ?_ ?_ | split
    | (refine kept_of ?_; dsimp only; with_reducible refine kept_to ?_; with_reducible assumption)

theorem writeHostCh_kept {ip : State} (v : Word32) (s : State) (hk : Kept ip s) :
    Kept ip (writeHostCh v s) := by
  unfold writeHostCh
  repeat' first
    | with_reducible assumption | with_reducible apply stopChannels_kept | with_reducible apply rwl_kept | intro _
    | (extract_lets +onlyGivenNames xk; first | (refine kept_cut (p := ip) xk ?_ ?_ <;> first | (intro hxk; clear_value xk) | subst xk) | subst xk)
    | with_reducible refine kept_ite ?_ ?_ | split
    | (refine kept_of ?_; dsimp only; with_reducible refine kept_to ?_; first | with_reducible assumption | with_reducible apply stopChannels_kept | with_reducible apply rwl_kept)

theorem writeCtrCtrl_kept {ip : State} (v : Word32) (s : State) (hk : Kept ip s) :
    Kept ip (writeCtrCtrl v s) := by
  unfold writeCtrCtrl
  repeat' first
    | with_reducible assumption | with_reducible apply rwl_kept | intro _
    | (extract_lets +onlyGivenNames xk; first | (refine kept_cut (p := ip) xk ?_ ?_ <;> first | (intro hxk; clear_value xk) | subst xk) | subst xk)
    | with_reducible refine kept_ite ?_ ?_ | split
    | (refine kept_of ?_; dsimp only; with_reducible refine kept_to ?_; first | with_reducible assumption | with_reducible apply rwl_kept)

theorem unmaskVector_kept {ip : State} (s : State) (hk : Kept ip s) :
    Kept ip (unmaskVector s) := by
  unfold unmaskVector
  repeat' first
    | with_reducible assumption | with_reducible apply sendMsix_kept | intro _
    | (extract_lets +onlyGivenNames xk; first | (refine kept_cut (p := ip) xk ?_ ?_ <;> first | (intro hxk; clear_value xk) | subst xk) | subst xk)
    | with_reducible refine kept_ite ?_ ?_ | split
    | (refine kept_of ?_; dsimp only; with_reducible refine kept_to ?_; first | with_reducible assumption | with_reducible apply sendMsix_kept)

theorem putMsixAddr_kept {ip : State} (a : Word64) (s : State) (hk : Kept ip s) :
    Kept ip (putMsixAddr a s) := hk

theorem writeMsix_kept {ip : State} (off : Nat) (v : Word32) (s : State) (hk : Kept ip s) :
    Kept ip (writeMsix off v s) := by
  unfold writeMsix
  repeat' first
    | with_reducible assumption | with_reducible apply unmaskVector_kept | with_reducible apply putMsixAddr_kept
    | intro _
    | (extract_lets +onlyGivenNames xk; first | (refine kept_cut (p := ip) xk ?_ ?_ <;> first | (intro hxk; clear_value xk) | subst xk) | subst xk)
    | with_reducible refine kept_ite ?_ ?_ | split
    | (refine kept_of ?_; dsimp only; with_reducible refine kept_to ?_; first | with_reducible assumption | with_reducible apply unmaskVector_kept | with_reducible apply putMsixAddr_kept)

theorem writeInService_kept {ip : State} (off : Nat) (v : Word32) (s : State) (hk : Kept ip s) :
    Kept ip (writeInService off v s) := by
  unfold writeInService
  repeat' first
    | with_reducible assumption | with_reducible apply rwl_kept | with_reducible apply writeRing_kept
    | with_reducible apply writeDma_kept | with_reducible apply writePmc_kept | with_reducible apply writeHostCh_kept
    | with_reducible apply writeCtrCtrl_kept | with_reducible apply writeMsix_kept | intro _
    | (extract_lets +onlyGivenNames xk; first | (refine kept_cut (p := ip) xk ?_ ?_ <;> first | (intro hxk; clear_value xk) | subst xk) | subst xk)
    | with_reducible refine kept_ite ?_ ?_ | split
    | (refine kept_of ?_; dsimp only; with_reducible refine kept_to ?_; first | with_reducible assumption | with_reducible apply rwl_kept | with_reducible apply writeRing_kept | with_reducible apply writeDma_kept | with_reducible apply writePmc_kept | with_reducible apply writeHostCh_kept | with_reducible apply writeCtrCtrl_kept | with_reducible apply writeMsix_kept)

theorem dropHeld_kept {ip : State} (off : Nat) (s : State) (hk : Kept ip s) :
    Kept ip (dropHeld off s) := by
  unfold dropHeld
  repeat' first
    | with_reducible assumption | intro _
    | (extract_lets +onlyGivenNames xk; first | (refine kept_cut (p := ip) xk ?_ ?_ <;> first | (intro hxk; clear_value xk) | subst xk) | subst xk)
    | with_reducible refine kept_ite ?_ ?_ | split
    | (refine kept_of ?_; dsimp only; with_reducible refine kept_to ?_; with_reducible assumption)

theorem writeReg_kept {ip : State} (off : Nat) (v : Word32) (s : State) (hk : Kept ip s) :
    Kept ip (writeReg off v s) := by
  unfold writeReg
  repeat' first
    | with_reducible assumption | with_reducible apply badWrite_kept | with_reducible apply writeInService_kept
    | with_reducible apply dropHeld_kept | intro _
    | (extract_lets +onlyGivenNames xk; first | (refine kept_cut (p := ip) xk ?_ ?_ <;> first | (intro hxk; clear_value xk) | subst xk) | subst xk)
    | with_reducible refine kept_ite ?_ ?_ | split
    | (refine kept_of ?_; dsimp only; with_reducible refine kept_to ?_; first | with_reducible assumption | with_reducible apply badWrite_kept | with_reducible apply writeInService_kept | with_reducible apply dropHeld_kept)

-- Machine/Link.lean.

theorem perstOn_kept {ip : State} (old : State) (hk : Kept ip old) :
    Kept ip (perstOn old) := by
  unfold perstOn
  repeat' first
    | with_reducible assumption | with_reducible apply raise_kept | with_reducible apply noteHeld_kept
    | with_reducible apply startDrain_kept | with_reducible apply perstDma_kept
    | with_reducible apply windowsWarm_kept | with_reducible apply dropToks_kept | intro _
    | (extract_lets +onlyGivenNames xk; first | (refine kept_cut (p := ip) xk ?_ ?_ <;> first | (intro hxk; clear_value xk) | subst xk) | subst xk)
    | with_reducible refine kept_ite ?_ ?_ | split
    | (refine kept_of ?_; dsimp only; with_reducible refine kept_to ?_; first | with_reducible assumption | with_reducible apply raise_kept | with_reducible apply noteHeld_kept | with_reducible apply startDrain_kept | with_reducible apply perstDma_kept | with_reducible apply windowsWarm_kept | with_reducible apply dropToks_kept)

-- Machine/EngineRows.lean.

theorem putCluster_kept {ip : State} (n : Nat) (c : ClusterSt) (s : State) (hk : Kept ip s) :
    Kept ip (putCluster n c s) := hk

theorem faultCluster_kept {ip : State} (n : Nat) (s : State) (hk : Kept ip s) :
    Kept ip (faultCluster n s) := hk

theorem engineOverrun_kept {ip : State} (e : Nat) (s : State) (hk : Kept ip s) :
    Kept ip (engineOverrun e s) := by
  unfold engineOverrun
  repeat' first
    | with_reducible assumption | with_reducible apply raise_kept | with_reducible apply bump_kept
    | with_reducible apply faultCluster_kept | intro _
    | (extract_lets +onlyGivenNames xk; first | (refine kept_cut (p := ip) xk ?_ ?_ <;> first | (intro hxk; clear_value xk) | subst xk) | subst xk)
    | with_reducible refine kept_ite ?_ ?_ | split
    | (refine kept_of ?_; dsimp only; with_reducible refine kept_to ?_; first | with_reducible assumption | with_reducible apply raise_kept | with_reducible apply bump_kept | with_reducible apply faultCluster_kept)

theorem restartObjects_kept {ip : State} (cluster : Nat) (mine : Nat → Bool) (s : State) (hk : Kept ip s) :
    Kept ip (restartObjects cluster mine s) := hk

theorem restartCounted_kept {ip : State} (cluster : Nat) (mine : Nat → Bool) (s : State) (hk : Kept ip s) :
    Kept ip (restartCounted cluster mine s) := hk

theorem switchBank_kept {ip : State} (n : Nat) (trial : Bool) (s : State) (hk : Kept ip s) :
    Kept ip (switchBank n trial s) := by
  unfold switchBank
  repeat' first
    | with_reducible assumption | with_reducible apply raise_kept | with_reducible apply putCluster_kept
    | with_reducible apply restartObjects_kept | intro _
    | (extract_lets +onlyGivenNames xk; first | (refine kept_cut (p := ip) xk ?_ ?_ <;> first | (intro hxk; clear_value xk) | subst xk) | subst xk)
    | with_reducible refine kept_ite ?_ ?_ | split
    | (refine kept_of ?_; dsimp only; with_reducible refine kept_to ?_; first | with_reducible assumption | with_reducible apply raise_kept | with_reducible apply putCluster_kept | with_reducible apply restartObjects_kept)

theorem bankSwitch_kept {ip : State} (n : Nat) (s : State) (hk : Kept ip s) :
    Kept ip (bankSwitch n s) := by
  unfold bankSwitch
  repeat' first
    | with_reducible assumption | with_reducible apply switchBank_kept | intro _
    | (extract_lets +onlyGivenNames xk; first | (refine kept_cut (p := ip) xk ?_ ?_ <;> first | (intro hxk; clear_value xk) | subst xk) | subst xk)
    | with_reducible refine kept_ite ?_ ?_ | split
    | (refine kept_of ?_; dsimp only; with_reducible refine kept_to ?_; first | with_reducible assumption | with_reducible apply switchBank_kept)

theorem internalCause_kept {ip : State} (cluster : Option Nat) (s : State) (hk : Kept ip s) :
    Kept ip (internalCause cluster s) := by
  unfold internalCause
  repeat' first
    | with_reducible assumption | with_reducible apply raise_kept | intro _
    | (extract_lets +onlyGivenNames xk; first | (refine kept_cut (p := ip) xk ?_ ?_ <;> first | (intro hxk; clear_value xk) | subst xk) | subst xk)
    | with_reducible refine kept_ite ?_ ?_ | split
    | (refine kept_of ?_; dsimp only; with_reducible refine kept_to ?_; first | with_reducible assumption | with_reducible apply raise_kept)

theorem endActivate_kept {ip : State} (st : Byte) (fs : List Field) (s : State) (hk : Kept ip s) :
    Kept ip (endActivate st fs s) := by
  unfold endActivate
  repeat' first
    | with_reducible assumption | with_reducible apply completeOpt_kept | with_reducible apply activate_kept
    | with_reducible refine kept_foldl _ _ (fun _ _ _ => ?_) ?_ | intro _
    | (extract_lets +onlyGivenNames xk; first | (refine kept_cut (p := ip) xk ?_ ?_ <;> first | (intro hxk; clear_value xk) | subst xk) | subst xk)
    | with_reducible refine kept_ite ?_ ?_ | split
    | (refine kept_of ?_; dsimp only; with_reducible refine kept_to ?_; first | with_reducible assumption | with_reducible apply completeOpt_kept | with_reducible apply activate_kept)

theorem endFallback_kept {ip : State} (s : State) (hk : Kept ip s) :
    Kept ip (endFallback s) := by
  unfold endFallback
  repeat' first
    | with_reducible assumption | with_reducible apply updNote_kept | with_reducible apply completeOpt_kept
    | with_reducible apply updateRecord_kept | intro _
    | (extract_lets +onlyGivenNames xk; first | (refine kept_cut (p := ip) xk ?_ ?_ <;> first | (intro hxk; clear_value xk) | subst xk) | subst xk)
    | with_reducible refine kept_ite ?_ ?_ | split
    | (refine kept_of ?_; dsimp only; with_reducible refine kept_to ?_; first | with_reducible assumption | with_reducible apply updNote_kept | with_reducible apply completeOpt_kept | with_reducible apply updateRecord_kept)

theorem backOut_kept {ip : State} (cluster : Option Nat) (s : State) (hk : Kept ip s) :
    Kept ip (backOut cluster s) := by
  unfold backOut
  repeat' first
    | with_reducible assumption | with_reducible apply setImage_kept | with_reducible apply activate_kept
    | with_reducible apply internalCause_kept | with_reducible apply endActivate_kept
    | with_reducible apply endFallback_kept | intro _
    | (extract_lets +onlyGivenNames xk; first | (refine kept_cut (p := ip) xk ?_ ?_ <;> first | (intro hxk; clear_value xk) | subst xk) | subst xk)
    | with_reducible refine kept_ite ?_ ?_ | split
    | (refine kept_of ?_; dsimp only; with_reducible refine kept_to ?_; first | with_reducible assumption | with_reducible apply setImage_kept | with_reducible apply activate_kept | with_reducible apply internalCause_kept | with_reducible apply endActivate_kept | with_reducible apply endFallback_kept)

theorem bankReadyTimeout_kept {ip : State} (n : Nat) (s : State) (hk : Kept ip s) :
    Kept ip (bankReadyTimeout n s) := by
  unfold bankReadyTimeout
  repeat' first
    | with_reducible assumption | with_reducible apply backOut_kept | intro _
    | (extract_lets +onlyGivenNames xk; first | (refine kept_cut (p := ip) xk ?_ ?_ <;> first | (intro hxk; clear_value xk) | subst xk) | subst xk)
    | with_reducible refine kept_ite ?_ ?_ | split
    | (refine kept_of ?_; dsimp only; with_reducible refine kept_to ?_; first | with_reducible assumption | with_reducible apply backOut_kept)

theorem badWord_kept {ip : State} (n addr : Nat) (s : State) (hk : Kept ip s) :
    Kept ip (badWord n addr s) := by
  unfold badWord
  repeat' first
    | with_reducible assumption | with_reducible apply raise_kept | with_reducible apply putCluster_kept
    | with_reducible apply faultCluster_kept | intro _
    | (extract_lets +onlyGivenNames xk; first | (refine kept_cut (p := ip) xk ?_ ?_ <;> first | (intro hxk; clear_value xk) | subst xk) | subst xk)
    | with_reducible refine kept_ite ?_ ?_ | split
    | (refine kept_of ?_; dsimp only; with_reducible refine kept_to ?_; first | with_reducible assumption | with_reducible apply raise_kept | with_reducible apply putCluster_kept | with_reducible apply faultCluster_kept)

theorem loseItem_kept {ip : State} (w : MemRef) (s : State) (hk : Kept ip s) :
    Kept ip (loseItem w s) := by
  unfold loseItem
  repeat' first
    | with_reducible assumption | with_reducible apply raise_kept | with_reducible apply bump_kept | intro _
    | (extract_lets +onlyGivenNames xk; first | (refine kept_cut (p := ip) xk ?_ ?_ <;> first | (intro hxk; clear_value xk) | subst xk) | subst xk)
    | with_reducible refine kept_ite ?_ ?_ | split
    | (refine kept_of ?_; dsimp only; with_reducible refine kept_to ?_; first | with_reducible assumption | with_reducible apply raise_kept | with_reducible apply bump_kept)

theorem eccError_kept {ip : State} (w : MemRef) (s : State) (hk : Kept ip s) :
    Kept ip (eccError w s) := by
  unfold eccError
  repeat' first
    | with_reducible assumption | with_reducible apply raise_kept | with_reducible apply noteError_kept
    | with_reducible apply burstFails_kept | with_reducible apply schedule_kept | with_reducible apply assertWarm_kept
    | with_reducible apply putCluster_kept | with_reducible apply restartCounted_kept
    | with_reducible apply badWord_kept | with_reducible apply loseItem_kept | intro _
    | (extract_lets +onlyGivenNames xk; first | (refine kept_cut (p := ip) xk ?_ ?_ <;> first | (intro hxk; clear_value xk) | subst xk) | subst xk)
    | with_reducible refine kept_ite ?_ ?_ | split
    | (refine kept_of ?_; dsimp only; with_reducible refine kept_to ?_; first | with_reducible assumption | with_reducible apply raise_kept | with_reducible apply noteError_kept | with_reducible apply burstFails_kept | with_reducible apply schedule_kept | with_reducible apply assertWarm_kept | with_reducible apply putCluster_kept | with_reducible apply restartCounted_kept | with_reducible apply badWord_kept | with_reducible apply loseItem_kept)

theorem scrubEngine_kept {ip : State} (n : Nat) (s : State) (hk : Kept ip s) :
    Kept ip (scrubEngine n s) := by
  unfold scrubEngine
  repeat' first
    | with_reducible assumption | with_reducible apply raise_kept | with_reducible apply bump_kept | intro _
    | (extract_lets +onlyGivenNames xk; first | (refine kept_cut (p := ip) xk ?_ ?_ <;> first | (intro hxk; clear_value xk) | subst xk) | subst xk)
    | with_reducible refine kept_ite ?_ ?_ | split
    | (refine kept_of ?_; dsimp only; with_reducible refine kept_to ?_; first | with_reducible assumption | with_reducible apply raise_kept | with_reducible apply bump_kept)

theorem scrubMb_kept {ip : State} (b : Nat) (s : State) (hk : Kept ip s) :
    Kept ip (scrubMb b s) := by
  unfold scrubMb
  repeat' first
    | with_reducible assumption | with_reducible apply bump_kept | intro _
    | (extract_lets +onlyGivenNames xk; first | (refine kept_cut (p := ip) xk ?_ ?_ <;> first | (intro hxk; clear_value xk) | subst xk) | subst xk)
    | with_reducible refine kept_ite ?_ ?_ | split
    | (refine kept_of ?_; dsimp only; with_reducible refine kept_to ?_; first | with_reducible assumption | with_reducible apply bump_kept)

theorem scrubCm_kept {ip : State} (b : Nat) (s : State) (hk : Kept ip s) :
    Kept ip (scrubCm b s) := by
  unfold scrubCm
  repeat' first
    | with_reducible assumption | with_reducible apply raise_kept | with_reducible apply bump_kept | intro _
    | (extract_lets +onlyGivenNames xk; first | (refine kept_cut (p := ip) xk ?_ ?_ <;> first | (intro hxk; clear_value xk) | subst xk) | subst xk)
    | with_reducible refine kept_ite ?_ ?_ | split
    | (refine kept_of ?_; dsimp only; with_reducible refine kept_to ?_; first | with_reducible assumption | with_reducible apply raise_kept | with_reducible apply bump_kept)

theorem scrub_kept {ip : State} (w : MemRef) (s : State) (hk : Kept ip s) :
    Kept ip (scrub w s) := by
  unfold scrub
  repeat' first
    | with_reducible assumption | with_reducible apply raise_kept | with_reducible apply schedule_kept
    | with_reducible apply scrubEngine_kept | with_reducible apply scrubMb_kept | with_reducible apply scrubCm_kept
    | intro _
    | (extract_lets +onlyGivenNames xk; first | (refine kept_cut (p := ip) xk ?_ ?_ <;> first | (intro hxk; clear_value xk) | subst xk) | subst xk)
    | with_reducible refine kept_ite ?_ ?_ | split
    | (refine kept_of ?_; dsimp only; with_reducible refine kept_to ?_; first | with_reducible assumption | with_reducible apply raise_kept | with_reducible apply schedule_kept | with_reducible apply scrubEngine_kept | with_reducible apply scrubMb_kept | with_reducible apply scrubCm_kept)

theorem repairBank_kept {ip : State} (n : Nat) (s : State) (hk : Kept ip s) :
    Kept ip (repairBank n s) := by
  unfold repairBank
  repeat' first
    | with_reducible assumption | with_reducible apply putCluster_kept | with_reducible apply restartCounted_kept
    | intro _
    | (extract_lets +onlyGivenNames xk; first | (refine kept_cut (p := ip) xk ?_ ?_ <;> first | (intro hxk; clear_value xk) | subst xk) | subst xk)
    | with_reducible refine kept_ite ?_ ?_ | split
    | (refine kept_of ?_; dsimp only; with_reducible refine kept_to ?_; first | with_reducible assumption | with_reducible apply putCluster_kept | with_reducible apply restartCounted_kept)

theorem rewriteItem_kept {ip : State} (w : MemRef) (s : State) (hk : Kept ip s) :
    Kept ip (rewriteItem w s) := by
  unfold rewriteItem
  repeat' first
    | with_reducible assumption | with_reducible apply schedule_kept | intro _
    | (extract_lets +onlyGivenNames xk; first | (refine kept_cut (p := ip) xk ?_ ?_ <;> first | (intro hxk; clear_value xk) | subst xk) | subst xk)
    | with_reducible refine kept_ite ?_ ?_ | split
    | (refine kept_of ?_; dsimp only; with_reducible refine kept_to ?_; first | with_reducible assumption | with_reducible apply schedule_kept)

theorem dropEngineBits_kept {ip : State} (n : Nat) (s : State) (hk : Kept ip s) :
    Kept ip (dropEngineBits n s) := by
  unfold dropEngineBits
  repeat' first
    | with_reducible assumption | with_reducible apply putSet_kept
    | with_reducible refine kept_foldl _ _ (fun _ _ _ => ?_) ?_ | intro _
    | (extract_lets +onlyGivenNames xk; first | (refine kept_cut (p := ip) xk ?_ ?_ <;> first | (intro hxk; clear_value xk) | subst xk) | subst xk)
    | with_reducible refine kept_ite ?_ ?_ | split
    | (refine kept_of ?_; dsimp only; with_reducible refine kept_to ?_; first | with_reducible assumption | with_reducible apply putSet_kept)

theorem loseBank_kept {ip : State} (b : Nat) (s : State) (hk : Kept ip s) :
    Kept ip (loseBank b s) := by
  unfold loseBank
  repeat' first
    | with_reducible assumption | with_reducible apply setJob_kept | with_reducible apply dropSolution_kept | intro _
    | (extract_lets +onlyGivenNames xk; first | (refine kept_cut (p := ip) xk ?_ ?_ <;> first | (intro hxk; clear_value xk) | subst xk) | subst xk)
    | with_reducible refine kept_ite ?_ ?_ | split
    | (refine kept_of ?_; dsimp only; with_reducible refine kept_to ?_; first | with_reducible assumption | with_reducible apply setJob_kept | with_reducible apply dropSolution_kept)

theorem resetCore_kept {ip : State} (n : Nat) (s : State) (hk : Kept ip s) :
    Kept ip (resetCore n s) := hk

theorem loseDomain_kept {ip : State} (d : Nat) (s : State) (hk : Kept ip s) :
    Kept ip (loseDomain d s) := by
  unfold loseDomain
  repeat' first
    | with_reducible assumption | with_reducible apply dropEngineBits_kept | with_reducible apply loseBank_kept
    | with_reducible apply resetCore_kept | with_reducible refine kept_foldl _ _ (fun _ _ _ => ?_) ?_ | intro _
    | (extract_lets +onlyGivenNames xk; first | (refine kept_cut (p := ip) xk ?_ ?_ <;> first | (intro hxk; clear_value xk) | subst xk) | subst xk)
    | with_reducible refine kept_ite ?_ ?_ | split
    | (refine kept_of ?_; dsimp only; with_reducible refine kept_to ?_; first | with_reducible assumption | with_reducible apply dropEngineBits_kept | with_reducible apply loseBank_kept | with_reducible apply resetCore_kept)

theorem freshDomain_kept {ip : State} (d : Nat) (s : State) (hk : Kept ip s) :
    Kept ip (freshDomain d s) := by
  unfold freshDomain
  repeat' first
    | with_reducible assumption | with_reducible apply putCluster_kept | intro _
    | (extract_lets +onlyGivenNames xk; first | (refine kept_cut (p := ip) xk ?_ ?_ <;> first | (intro hxk; clear_value xk) | subst xk) | subst xk)
    | with_reducible refine kept_ite ?_ ?_ | split
    | (refine kept_of ?_; dsimp only; with_reducible refine kept_to ?_; first | with_reducible assumption | with_reducible apply putCluster_kept)

theorem endDomain_kept {ip : State} (d : Nat) (st : Byte) (s : State) (hk : Kept ip s) :
    Kept ip (endDomain d st s) := by
  unfold endDomain
  repeat' first
    | with_reducible assumption | with_reducible apply completeOpt_kept
    | with_reducible refine kept_foldl _ _ (fun _ _ _ => ?_) ?_ | intro _
    | (extract_lets +onlyGivenNames xk; first | (refine kept_cut (p := ip) xk ?_ ?_ <;> first | (intro hxk; clear_value xk) | subst xk) | subst xk)
    | with_reducible refine kept_ite ?_ ?_ | split
    | (refine kept_of ?_; dsimp only; with_reducible refine kept_to ?_; first | with_reducible assumption | with_reducible apply completeOpt_kept)

theorem reachDomain_kept {ip : State} (d : Nat) (t : DomState) (s : State) (hk : Kept ip s) :
    Kept ip (reachDomain d t s) := by
  unfold reachDomain
  repeat' first
    | with_reducible assumption | with_reducible apply configRecord_kept | with_reducible apply endDomain_kept
    | intro _
    | (extract_lets +onlyGivenNames xk; first | (refine kept_cut (p := ip) xk ?_ ?_ <;> first | (intro hxk; clear_value xk) | subst xk) | subst xk)
    | with_reducible refine kept_ite ?_ ?_ | split
    | (refine kept_of ?_; dsimp only; with_reducible refine kept_to ?_; first | with_reducible assumption | with_reducible apply configRecord_kept | with_reducible apply endDomain_kept)

theorem domainOn_kept {ip : State} (d : Nat) (s : State) (hk : Kept ip s) :
    Kept ip (domainOn d s) := by
  unfold domainOn
  repeat' first
    | with_reducible assumption | with_reducible apply restartObjects_kept | with_reducible apply freshDomain_kept
    | with_reducible apply reachDomain_kept | intro _
    | (extract_lets +onlyGivenNames xk; first | (refine kept_cut (p := ip) xk ?_ ?_ <;> first | (intro hxk; clear_value xk) | subst xk) | subst xk)
    | with_reducible refine kept_ite ?_ ?_ | split
    | (refine kept_of ?_; dsimp only; with_reducible refine kept_to ?_; first | with_reducible assumption | with_reducible apply restartObjects_kept | with_reducible apply freshDomain_kept | with_reducible apply reachDomain_kept)

theorem domainFrame_kept {ip : State} (s : State) (hk : Kept ip s) :
    Kept ip (domainFrame s) := by
  unfold domainFrame
  repeat' first
    | with_reducible assumption | with_reducible apply tapCheck_kept | with_reducible apply loseDomain_kept
    | with_reducible apply reachDomain_kept | with_reducible refine kept_foldl _ _ (fun _ _ _ => ?_) ?_ | intro _
    | (extract_lets +onlyGivenNames xk; first | (refine kept_cut (p := ip) xk ?_ ?_ <;> first | (intro hxk; clear_value xk) | subst xk) | subst xk)
    | with_reducible refine kept_ite ?_ ?_ | split
    | (refine kept_of ?_; dsimp only; with_reducible refine kept_to ?_; first | with_reducible assumption | with_reducible apply tapCheck_kept | with_reducible apply loseDomain_kept | with_reducible apply reachDomain_kept)

theorem domainFails_kept {ip : State} (d : Nat) (s : State) (hk : Kept ip s) :
    Kept ip (domainFails d s) := by
  unfold domainFails
  repeat' first
    | with_reducible assumption | with_reducible apply envNote_kept | with_reducible apply tapCheck_kept
    | with_reducible apply assertCold_kept | with_reducible apply internalCause_kept
    | with_reducible apply loseDomain_kept | with_reducible apply endDomain_kept | intro _
    | (extract_lets +onlyGivenNames xk; first | (refine kept_cut (p := ip) xk ?_ ?_ <;> first | (intro hxk; clear_value xk) | subst xk) | subst xk)
    | with_reducible refine kept_ite ?_ ?_ | split
    | (refine kept_of ?_; dsimp only; with_reducible refine kept_to ?_; first | with_reducible assumption | with_reducible apply envNote_kept | with_reducible apply tapCheck_kept | with_reducible apply assertCold_kept | with_reducible apply internalCause_kept | with_reducible apply loseDomain_kept | with_reducible apply endDomain_kept)

-- Machine/UpdateRows.lean.

theorem endCompact_kept {ip : State} (s : State) (hk : Kept ip s) :
    Kept ip (endCompact s) := by
  unfold endCompact
  repeat' first
    | with_reducible assumption | with_reducible apply completeOpt_kept
    | with_reducible refine kept_foldl _ _ (fun _ _ _ => ?_) ?_ | intro _
    | (extract_lets +onlyGivenNames xk; first | (refine kept_cut (p := ip) xk ?_ ?_ <;> first | (intro hxk; clear_value xk) | subst xk) | subst xk)
    | with_reducible refine kept_ite ?_ ?_ | split
    | (refine kept_of ?_; dsimp only; with_reducible refine kept_to ?_; first | with_reducible assumption | with_reducible apply completeOpt_kept)

theorem reprovision_kept {ip : State} (s : State) (hk : Kept ip s) :
    Kept ip (reprovision s) := by
  unfold reprovision
  repeat' first
    | with_reducible assumption | intro _
    | (extract_lets +onlyGivenNames xk; first | (refine kept_cut (p := ip) xk ?_ ?_ <;> first | (intro hxk; clear_value xk) | subst xk) | subst xk)
    | with_reducible refine kept_ite ?_ ?_ | split
    | (refine kept_of ?_; dsimp only; with_reducible refine kept_to ?_; with_reducible assumption)

theorem compactionDone_kept {ip : State} (s : State) (hk : Kept ip s) :
    Kept ip (compactionDone s) := by
  unfold compactionDone
  repeat' first
    | with_reducible assumption | with_reducible apply journalNote_kept | with_reducible apply endCompact_kept
    | with_reducible apply reprovision_kept | intro _
    | (extract_lets +onlyGivenNames xk; first | (refine kept_cut (p := ip) xk ?_ ?_ <;> first | (intro hxk; clear_value xk) | subst xk) | subst xk)
    | with_reducible refine kept_ite ?_ ?_ | split
    | (refine kept_of ?_; dsimp only; with_reducible refine kept_to ?_; first | with_reducible assumption | with_reducible apply journalNote_kept | with_reducible apply endCompact_kept | with_reducible apply reprovision_kept)

theorem journalFails_kept {ip : State} (s : State) (hk : Kept ip s) :
    Kept ip (journalFails s) := by
  unfold journalFails
  repeat' first
    | with_reducible assumption | with_reducible apply faultJournal_kept | intro _
    | (extract_lets +onlyGivenNames xk; first | (refine kept_cut (p := ip) xk ?_ ?_ <;> first | (intro hxk; clear_value xk) | subst xk) | subst xk)
    | with_reducible refine kept_ite ?_ ?_ | split
    | (refine kept_of ?_; dsimp only; with_reducible refine kept_to ?_; first | with_reducible assumption | with_reducible apply faultJournal_kept)

theorem writeSpares_kept {ip : State} (s : State) (hk : Kept ip s) :
    Kept ip (writeSpares s) := by
  unfold writeSpares
  repeat' first
    | with_reducible assumption | with_reducible apply putCluster_kept
    | with_reducible refine kept_foldl _ _ (fun _ _ _ => ?_) ?_ | intro _
    | (extract_lets +onlyGivenNames xk; first | (refine kept_cut (p := ip) xk ?_ ?_ <;> first | (intro hxk; clear_value xk) | subst xk) | subst xk)
    | with_reducible refine kept_ite ?_ ?_ | split
    | (refine kept_of ?_; dsimp only; with_reducible refine kept_to ?_; first | with_reducible assumption | with_reducible apply putCluster_kept)

theorem restartMc3_kept {ip : State} (s : State) (hk : Kept ip s) :
    Kept ip (restartMc3 s) := hk

theorem handover_kept {ip : State} (s : State) (hk : Kept ip s) :
    Kept ip (handover s) := by
  unfold handover
  repeat' first
    | with_reducible assumption | with_reducible apply endFallback_kept | with_reducible apply writeSpares_kept
    | with_reducible apply restartMc3_kept | with_reducible refine kept_foldl _ _ (fun _ _ _ => ?_) ?_ | intro _
    | (extract_lets +onlyGivenNames xk; first | (refine kept_cut (p := ip) xk ?_ ?_ <;> first | (intro hxk; clear_value xk) | subst xk) | subst xk)
    | with_reducible refine kept_ite ?_ ?_ | split
    | (refine kept_of ?_; dsimp only; with_reducible refine kept_to ?_; first | with_reducible assumption | with_reducible apply endFallback_kept | with_reducible apply writeSpares_kept | with_reducible apply restartMc3_kept)

theorem handoverTimeout_kept {ip : State} (s : State) (hk : Kept ip s) :
    Kept ip (handoverTimeout s) := by
  unfold handoverTimeout
  repeat' first
    | with_reducible assumption | with_reducible apply backOut_kept | intro _
    | (extract_lets +onlyGivenNames xk; first | (refine kept_cut (p := ip) xk ?_ ?_ <;> first | (intro hxk; clear_value xk) | subst xk) | subst xk)
    | with_reducible refine kept_ite ?_ ?_ | split
    | (refine kept_of ?_; dsimp only; with_reducible refine kept_to ?_; first | with_reducible assumption | with_reducible apply backOut_kept)

theorem activationDone_kept {ip : State} (s : State) (hk : Kept ip s) :
    Kept ip (activationDone s) := by
  unfold activationDone
  repeat' first
    | with_reducible assumption | with_reducible apply updNote_kept | with_reducible apply runImage_kept
    | with_reducible apply updateRecord_kept | with_reducible apply endActivate_kept | intro _
    | (extract_lets +onlyGivenNames xk; first | (refine kept_cut (p := ip) xk ?_ ?_ <;> first | (intro hxk; clear_value xk) | subst xk) | subst xk)
    | with_reducible refine kept_ite ?_ ?_ | split
    | (refine kept_of ?_; dsimp only; with_reducible refine kept_to ?_; first | with_reducible assumption | with_reducible apply updNote_kept | with_reducible apply runImage_kept | with_reducible apply updateRecord_kept | with_reducible apply endActivate_kept)

theorem microcode_kept {ip : State} (s : State) (hk : Kept ip s) :
    Kept ip (microcode s) := by
  unfold microcode
  repeat' first
    | with_reducible assumption | with_reducible apply activationDone_kept | intro _
    | (extract_lets +onlyGivenNames xk; first | (refine kept_cut (p := ip) xk ?_ ?_ <;> first | (intro hxk; clear_value xk) | subst xk) | subst xk)
    | with_reducible refine kept_ite ?_ ?_ | split
    | (refine kept_of ?_; dsimp only; with_reducible refine kept_to ?_; first | with_reducible assumption | with_reducible apply activationDone_kept)

theorem confirmImage_kept {ip : State} (s : State) (hk : Kept ip s) :
    Kept ip (confirmImage s) := by
  unfold confirmImage
  repeat' first
    | with_reducible assumption | with_reducible apply updNote_kept | with_reducible apply raiseRollback_kept
    | with_reducible apply updateRecord_kept | with_reducible apply endConfirm_kept
    | with_reducible apply endTrial_kept | intro _
    | (extract_lets +onlyGivenNames xk; first | (refine kept_cut (p := ip) xk ?_ ?_ <;> first | (intro hxk; clear_value xk) | subst xk) | subst xk)
    | with_reducible refine kept_ite ?_ ?_ | split
    | (refine kept_of ?_; dsimp only; with_reducible refine kept_to ?_; first | with_reducible assumption | with_reducible apply updNote_kept | with_reducible apply raiseRollback_kept | with_reducible apply updateRecord_kept | with_reducible apply endConfirm_kept | with_reducible apply endTrial_kept)

theorem returnFirmware_kept {ip : State} (s : State) (hk : Kept ip s) :
    Kept ip (returnFirmware s) := by
  unfold returnFirmware
  repeat' first
    | with_reducible assumption | with_reducible apply runImage_kept | with_reducible apply switchBank_kept
    | with_reducible apply endFallback_kept | with_reducible refine kept_foldl _ _ (fun _ _ _ => ?_) ?_ | intro _
    | (extract_lets +onlyGivenNames xk; first | (refine kept_cut (p := ip) xk ?_ ?_ <;> first | (intro hxk; clear_value xk) | subst xk) | subst xk)
    | with_reducible refine kept_ite ?_ ?_ | split
    | (refine kept_of ?_; dsimp only; with_reducible refine kept_to ?_; first | with_reducible assumption | with_reducible apply runImage_kept | with_reducible apply switchBank_kept | with_reducible apply endFallback_kept)

theorem updateFrame_kept {ip : State} (s : State) (hk : Kept ip s) :
    Kept ip (updateFrame s) := by
  unfold updateFrame
  repeat' first
    | with_reducible assumption | with_reducible apply returnFirmware_kept | intro _
    | (extract_lets +onlyGivenNames xk; first | (refine kept_cut (p := ip) xk ?_ ?_ <;> first | (intro hxk; clear_value xk) | subst xk) | subst xk)
    | with_reducible refine kept_ite ?_ ?_ | split
    | (refine kept_of ?_; dsimp only; with_reducible refine kept_to ?_; first | with_reducible assumption | with_reducible apply returnFirmware_kept)

theorem challenge_kept {ip : State} (s : State) (hk : Kept ip s) :
    Kept ip (challenge s) := by
  unfold challenge
  repeat' first
    | with_reducible assumption | with_reducible apply drawRandom_kept | intro _
    | (extract_lets +onlyGivenNames xk; first | (refine kept_cut (p := ip) xk ?_ ?_ <;> first | (intro hxk; clear_value xk) | subst xk) | subst xk)
    | (unfold drawRandom; dsimp only) | with_reducible refine kept_ite ?_ ?_ | split
    | (refine kept_of ?_; dsimp only; with_reducible refine kept_to ?_; first | with_reducible assumption | with_reducible apply drawRandom_kept)

theorem noteKeys_kept {ip : State} (s : State) (hk : Kept ip s) :
    Kept ip (noteKeys s) := by
  unfold noteKeys
  repeat' first
    | with_reducible assumption | with_reducible apply secNote_kept | intro _
    | (extract_lets +onlyGivenNames xk; first | (refine kept_cut (p := ip) xk ?_ ?_ <;> first | (intro hxk; clear_value xk) | subst xk) | subst xk)
    | with_reducible refine kept_ite ?_ ?_ | split
    | (refine kept_of ?_; dsimp only; with_reducible refine kept_to ?_; first | with_reducible assumption | with_reducible apply secNote_kept)

theorem unlock_kept {ip : State} (s : State) (hk : Kept ip s) :
    Kept ip (unlock s) := by
  unfold unlock
  repeat' first
    | with_reducible assumption | with_reducible apply secNote_kept | with_reducible apply initialSnapshot_kept
    | with_reducible apply eraseSecrets_kept | with_reducible apply challenge_kept
    | with_reducible apply noteKeys_kept | intro _
    | (extract_lets +onlyGivenNames xk; first | (refine kept_cut (p := ip) xk ?_ ?_ <;> first | (intro hxk; clear_value xk) | subst xk) | subst xk)
    | with_reducible refine kept_ite ?_ ?_ | split
    | (refine kept_of ?_; dsimp only; with_reducible refine kept_to ?_; first | with_reducible assumption | with_reducible apply secNote_kept | with_reducible apply initialSnapshot_kept | with_reducible apply eraseSecrets_kept | with_reducible apply challenge_kept | with_reducible apply noteKeys_kept)

theorem respond_kept {ip : State} (vKey vSig cKey cSig : Bytes) (s : State) (hk : Kept ip s) :
    Kept ip (respond vKey vSig cKey cSig s) := by
  unfold respond
  repeat' first
    | with_reducible assumption | with_reducible apply challenge_kept | with_reducible apply unlock_kept | intro _
    | (extract_lets +onlyGivenNames xk; first | (refine kept_cut (p := ip) xk ?_ ?_ <;> first | (intro hxk; clear_value xk) | subst xk) | subst xk)
    | with_reducible refine kept_ite ?_ ?_ | split
    | (refine kept_of ?_; dsimp only; with_reducible refine kept_to ?_; first | with_reducible assumption | with_reducible apply challenge_kept | with_reducible apply unlock_kept)

-- Machine/ResetRows.lean.

theorem powerOn_kept {ip : State} (rising : Bool) (pins : BitVec 3) (s : State) (hk : Kept ip s) :
    Kept ip (powerOn rising pins s) := by
  unfold powerOn
  repeat' first
    | with_reducible assumption | with_reducible apply assertCold_kept | intro _
    | (extract_lets +onlyGivenNames xk; first | (refine kept_cut (p := ip) xk ?_ ?_ <;> first | (intro hxk; clear_value xk) | subst xk) | subst xk)
    | with_reducible refine kept_ite ?_ ?_ | split
    | (refine kept_of ?_; dsimp only; with_reducible refine kept_to ?_; first | with_reducible assumption | with_reducible apply assertCold_kept)

theorem coldPin_kept {ip : State} (low : Bool) (s : State) (hk : Kept ip s) :
    Kept ip (coldPin low s) := by
  unfold coldPin
  repeat' first
    | with_reducible assumption | with_reducible apply assertCold_kept | intro _
    | (extract_lets +onlyGivenNames xk; first | (refine kept_cut (p := ip) xk ?_ ?_ <;> first | (intro hxk; clear_value xk) | subst xk) | subst xk)
    | with_reducible refine kept_ite ?_ ?_ | split
    | (refine kept_of ?_; dsimp only; with_reducible refine kept_to ?_; first | with_reducible assumption | with_reducible apply assertCold_kept)

theorem warmPin_kept {ip : State} (low : Bool) (s : State) (hk : Kept ip s) :
    Kept ip (warmPin low s) := by
  unfold warmPin
  repeat' first
    | with_reducible assumption | with_reducible apply assertWarm_kept | intro _
    | (extract_lets +onlyGivenNames xk; first | (refine kept_cut (p := ip) xk ?_ ?_ <;> first | (intro hxk; clear_value xk) | subst xk) | subst xk)
    | with_reducible refine kept_ite ?_ ?_ | split
    | (refine kept_of ?_; dsimp only; with_reducible refine kept_to ?_; first | with_reducible assumption | with_reducible apply assertWarm_kept)

theorem readHottest_kept {ip : State} (tenths : Int) (s : State) (hk : Kept ip s) :
    Kept ip (readHottest tenths s) := hk

theorem thermal_kept {ip : State} (s : State) (hk : Kept ip s) :
    Kept ip (thermal s) := by
  unfold thermal
  repeat' first
    | with_reducible assumption | with_reducible apply assertCold_kept | intro _
    | (extract_lets +onlyGivenNames xk; first | (refine kept_cut (p := ip) xk ?_ ?_ <;> first | (intro hxk; clear_value xk) | subst xk) | subst xk)
    | with_reducible refine kept_ite ?_ ?_ | split
    | (refine kept_of ?_; dsimp only; with_reducible refine kept_to ?_; first | with_reducible assumption | with_reducible apply assertCold_kept)

theorem thermalWarn_kept {ip : State} (tenths : Int) (s : State) (hk : Kept ip s) :
    Kept ip (thermalWarn tenths s) := by
  unfold thermalWarn
  repeat' first
    | with_reducible assumption | with_reducible apply envNote_kept | with_reducible apply readHottest_kept | intro _
    | (extract_lets +onlyGivenNames xk; first | (refine kept_cut (p := ip) xk ?_ ?_ <;> first | (intro hxk; clear_value xk) | subst xk) | subst xk)
    | with_reducible refine kept_ite ?_ ?_ | split
    | (refine kept_of ?_; dsimp only; with_reducible refine kept_to ?_; first | with_reducible assumption | with_reducible apply envNote_kept | with_reducible apply readHottest_kept)

theorem readTrim_kept {p : State} (copyOk : Bool) (s : State) (h : Kept p s) : Kept p (readTrim copyOk s) :=
  fuses_kept _ ⟨Nat.le_refl _, id, id, id⟩ h

theorem safeEntry_kept {ip : State} (s : State) (hk : Kept ip s) :
    Kept ip (safeEntry s) := by
  unfold safeEntry
  repeat' first
    | with_reducible assumption | with_reducible apply raise_kept | with_reducible apply modeChange_kept
    | with_reducible apply lateEvents_kept | intro _
    | (extract_lets +onlyGivenNames xk; first | (refine kept_cut (p := ip) xk ?_ ?_ <;> first | (intro hxk; clear_value xk) | subst xk) | subst xk)
    | with_reducible refine kept_ite ?_ ?_ | split
    | (refine kept_of ?_; dsimp only; with_reducible refine kept_to ?_; first | with_reducible assumption | with_reducible apply raise_kept | with_reducible apply modeChange_kept | with_reducible apply lateEvents_kept)

theorem powerFail_kept {ip : State} (src : PfwSource) (s : State) (hk : Kept ip s) :
    Kept ip (powerFail src s) := by
  unfold powerFail
  repeat' first
    | with_reducible assumption | with_reducible apply envNote_kept | with_reducible apply refuseOnWarning_kept
    | intro _
    | (extract_lets +onlyGivenNames xk; first | (refine kept_cut (p := ip) xk ?_ ?_ <;> first | (intro hxk; clear_value xk) | subst xk) | subst xk)
    | with_reducible refine kept_ite ?_ ?_ | split
    | (refine kept_of ?_; dsimp only; with_reducible refine kept_to ?_; first | with_reducible assumption | with_reducible apply envNote_kept | with_reducible apply refuseOnWarning_kept)

theorem pfwClear_kept {ip : State} (s : State) (hk : Kept ip s) :
    Kept ip (pfwClear s) := by
  unfold pfwClear
  repeat' first
    | with_reducible assumption | with_reducible apply envNote_kept | with_reducible apply initialSnapshot_kept
    | with_reducible apply startCompaction_kept | with_reducible apply drainHead_kept | intro _
    | (extract_lets +onlyGivenNames xk; first | (refine kept_cut (p := ip) xk ?_ ?_ <;> first | (intro hxk; clear_value xk) | subst xk) | subst xk)
    | with_reducible refine kept_ite ?_ ?_ | split
    | (refine kept_of ?_; dsimp only; with_reducible refine kept_to ?_; first | with_reducible assumption | with_reducible apply envNote_kept | with_reducible apply initialSnapshot_kept | with_reducible apply startCompaction_kept | with_reducible apply drainHead_kept)

-- Machine/Pmbus.lean.

theorem i2cRead_kept {ip : State} (code : Byte) (bs : Bytes) (s : State) (hk : Kept ip s) :
    Kept ip (i2cRead code bs s) := by
  unfold i2cRead
  repeat' first
    | with_reducible assumption | intro _
    | (extract_lets +onlyGivenNames xk; first | (refine kept_cut (p := ip) xk ?_ ?_ <;> first | (intro hxk; clear_value xk) | subst xk) | subst xk)
    | with_reducible refine kept_ite ?_ ?_ | split
    | (refine kept_of ?_; dsimp only; with_reducible refine kept_to ?_; with_reducible assumption)

theorem setCml_kept {ip : State} (b : Nat) (s : State) (hk : Kept ip s) :
    Kept ip (setCml b s) := hk

theorem i2cWrite_kept {ip : State} (act : State → State) (s : State) (hact : ∀ s, Kept ip s → Kept ip (act s)) (hk :
    Kept ip s) :
    Kept ip (i2cWrite act s) := by
  unfold i2cWrite
  repeat' first
    | with_reducible assumption | with_reducible apply hact | intro _
    | (extract_lets +onlyGivenNames xk; first | (refine kept_cut (p := ip) xk ?_ ?_ <;> first | (intro hxk; clear_value xk) | subst xk) | subst xk)
    | with_reducible refine kept_ite ?_ ?_ | split
    | (refine kept_of ?_; dsimp only; with_reducible refine kept_to ?_; first | with_reducible assumption | with_reducible apply hact)

theorem clearFaults_kept {ip : State} (s : State) (hk : Kept ip s) :
    Kept ip (clearFaults s) := hk

theorem withCurrent_kept {ip : State} (f : Nat → State → State) (s : State) (hf : ∀ x0 s, Kept ip s → Kept ip (f x0
    s)) (hk : Kept ip s) :
    Kept ip (withCurrent f s) := by
  unfold withCurrent
  repeat' first
    | with_reducible assumption | with_reducible apply hf | intro _
    | (extract_lets +onlyGivenNames xk; first | (refine kept_cut (p := ip) xk ?_ ?_ <;> first | (intro hxk; clear_value xk) | subst xk) | subst xk)
    | with_reducible refine kept_ite ?_ ?_ | split
    | (refine kept_of ?_; dsimp only; with_reducible refine kept_to ?_; first | with_reducible assumption | with_reducible apply hf)

theorem mfrReset_kept {ip : State} (pec : Pec) (key : Word32) (s : State) (hk : Kept ip s) :
    Kept ip (mfrReset pec key s) := by
  unfold mfrReset
  repeat' first
    | with_reducible assumption | with_reducible apply assertCold_kept | with_reducible apply assertWarm_kept
    | with_reducible apply setCml_kept | intro _
    | (extract_lets +onlyGivenNames xk; first | (refine kept_cut (p := ip) xk ?_ ?_ <;> first | (intro hxk; clear_value xk) | subst xk) | subst xk)
    | with_reducible refine kept_ite ?_ ?_ | split
    | (refine kept_of ?_; dsimp only; with_reducible refine kept_to ?_; first | with_reducible assumption | with_reducible apply assertCold_kept | with_reducible apply assertWarm_kept | with_reducible apply setCml_kept)

-- Machine/Frame.lean.

theorem todFrame_kept {ip : State} (s : State) (hk : Kept ip s) :
    Kept ip (todFrame s) := by
  unfold todFrame
  repeat' first
    | with_reducible assumption | with_reducible apply stepTod_kept
    | with_reducible refine kept_foldl _ _ (fun _ _ _ => ?_) ?_ | intro _
    | (extract_lets +onlyGivenNames xk; first | (refine kept_cut (p := ip) xk ?_ ?_ <;> first | (intro hxk; clear_value xk) | subst xk) | subst xk)
    | with_reducible refine kept_ite ?_ ?_ | split
    | (refine kept_of ?_; dsimp only; with_reducible refine kept_to ?_; first | with_reducible assumption | with_reducible apply stepTod_kept)

theorem tickReset_kept {ip : State} (s : State) (hk : Kept ip s) :
    Kept ip (tickReset s) := hk

theorem distrustSecond_kept {ip : State} (s : State) (hk : Kept ip s) :
    Kept ip (distrustSecond s) := hk

theorem secondFrame_kept {ip : State} (s : State) (hk : Kept ip s) :
    Kept ip (secondFrame s) := by
  unfold secondFrame
  repeat' first
    | with_reducible assumption | with_reducible apply distrustSecond_kept | intro _
    | (extract_lets +onlyGivenNames xk; first | (refine kept_cut (p := ip) xk ?_ ?_ <;> first | (intro hxk; clear_value xk) | subst xk) | subst xk)
    | with_reducible refine kept_ite ?_ ?_ | split
    | (refine kept_of ?_; dsimp only; with_reducible refine kept_to ?_; first | with_reducible assumption | with_reducible apply distrustSecond_kept)

theorem relayFrame_kept {ip : State} (s : State) (hk : Kept ip s) :
    Kept ip (relayFrame s) := hk

theorem pruneMoved_kept {ip : State} (s : State) (hk : Kept ip s) :
    Kept ip (pruneMoved s) := hk

theorem changeMode_kept {ip : State} (m : Mode) (s : State) (hk : Kept ip s) :
    Kept ip (changeMode m s) := by
  unfold changeMode
  repeat' first
    | with_reducible assumption | with_reducible apply toMode_kept | with_reducible apply removeTests_kept
    | with_reducible apply enterSafe_kept | with_reducible apply dropImage_kept
    | with_reducible apply becomeStandby_kept | intro _
    | (extract_lets +onlyGivenNames xk; first | (refine kept_cut (p := ip) xk ?_ ?_ <;> first | (intro hxk; clear_value xk) | subst xk) | subst xk)
    | with_reducible refine kept_ite ?_ ?_ | split
    | (refine kept_of ?_; dsimp only; with_reducible refine kept_to ?_; first | with_reducible assumption | with_reducible apply toMode_kept | with_reducible apply removeTests_kept | with_reducible apply enterSafe_kept | with_reducible apply dropImage_kept | with_reducible apply becomeStandby_kept)

theorem modeFrame_kept {ip : State} (s : State) (hk : Kept ip s) :
    Kept ip (modeFrame s) := by
  unfold modeFrame
  repeat' first
    | with_reducible assumption | with_reducible apply completeOpt_kept | with_reducible apply drainHead_kept
    | with_reducible apply changeMode_kept | intro _
    | (extract_lets +onlyGivenNames xk; first | (refine kept_cut (p := ip) xk ?_ ?_ <;> first | (intro hxk; clear_value xk) | subst xk) | subst xk)
    | with_reducible refine kept_ite ?_ ?_ | split
    | (refine kept_of ?_; dsimp only; with_reducible refine kept_to ?_; first | with_reducible assumption | with_reducible apply completeOpt_kept | with_reducible apply drainHead_kept | with_reducible apply changeMode_kept)

theorem yieldFrame_kept {ip : State} (m s : State) (hk : Kept ip s) :
    Kept ip (yieldFrame m s) := by
  unfold yieldFrame
  repeat' first
    | with_reducible assumption | with_reducible apply enterIsolated_kept | with_reducible apply becomeStandby_kept
    | with_reducible apply takeBackRole_kept | intro _
    | (extract_lets +onlyGivenNames xk; first | (refine kept_cut (p := ip) xk ?_ ?_ <;> first | (intro hxk; clear_value xk) | subst xk) | subst xk)
    | with_reducible refine kept_ite ?_ ?_ | split
    | (refine kept_of ?_; dsimp only; with_reducible refine kept_to ?_; first | with_reducible assumption | with_reducible apply enterIsolated_kept | with_reducible apply becomeStandby_kept | with_reducible apply takeBackRole_kept)

theorem alignFrame_kept {ip : State} (s : State) (hk : Kept ip s) :
    Kept ip (alignFrame s) := by
  unfold alignFrame
  repeat' first
    | with_reducible assumption | with_reducible apply loseAlignment_kept | intro _
    | (extract_lets +onlyGivenNames xk; first | (refine kept_cut (p := ip) xk ?_ ?_ <;> first | (intro hxk; clear_value xk) | subst xk) | subst xk)
    | with_reducible refine kept_ite ?_ ?_ | split
    | (refine kept_of ?_; dsimp only; with_reducible refine kept_to ?_; first | with_reducible assumption | with_reducible apply loseAlignment_kept)

theorem selectorFrame_kept {ip : State} (m s : State) (hk : Kept ip s) :
    Kept ip (selectorFrame m s) := by
  unfold selectorFrame
  repeat' first
    | with_reducible assumption | with_reducible apply evalSelectors_kept | with_reducible apply holdTimers_kept
    | with_reducible refine kept_foldl _ _ (fun _ _ _ => ?_) ?_ | intro _
    | (extract_lets +onlyGivenNames xk; first | (refine kept_cut (p := ip) xk ?_ ?_ <;> first | (intro hxk; clear_value xk) | subst xk) | subst xk)
    | with_reducible refine kept_ite ?_ ?_ | split
    | (refine kept_of ?_; dsimp only; with_reducible refine kept_to ?_; first | with_reducible assumption | with_reducible apply evalSelectors_kept | with_reducible apply holdTimers_kept)

theorem solverFrame_kept {ip : State} (s : State) (hk : Kept ip s) :
    Kept ip (solverFrame s) := by
  unfold solverFrame
  repeat' first
    | with_reducible assumption | with_reducible apply solved_kept | intro _
    | (extract_lets +onlyGivenNames xk; first | (refine kept_cut (p := ip) xk ?_ ?_ <;> first | (intro hxk; clear_value xk) | subst xk) | subst xk)
    | with_reducible refine kept_ite ?_ ?_ | split
    | (refine kept_of ?_; dsimp only; with_reducible refine kept_to ?_; first | with_reducible assumption | with_reducible apply solved_kept)

theorem bandFrame_kept {ip : State} (s : State) (hk : Kept ip s) :
    Kept ip (bandFrame s) := by
  unfold bandFrame
  repeat' first
    | with_reducible assumption | with_reducible apply evalBands_kept
    | with_reducible refine kept_foldl _ _ (fun _ _ _ => ?_) ?_ | intro _
    | (extract_lets +onlyGivenNames xk; first | (refine kept_cut (p := ip) xk ?_ ?_ <;> first | (intro hxk; clear_value xk) | subst xk) | subst xk)
    | with_reducible refine kept_ite ?_ ?_ | split
    | (refine kept_of ?_; dsimp only; with_reducible refine kept_to ?_; first | with_reducible assumption | with_reducible apply evalBands_kept)

theorem sendVbl_kept {ip : State} (s : State) (m : Nat × Byte × Bytes) (hk : Kept ip s) :
    Kept ip (sendVbl s m) := hk

theorem vblSends_kept {ip : State} (s : State) (l : Nat) (hk : Kept ip s) :
    Kept ip (vblSends s l) := by
  unfold vblSends
  repeat' first
    | with_reducible assumption | with_reducible apply send_kept | with_reducible apply sendVbl_kept
    | with_reducible refine kept_foldl _ _ (fun _ _ _ => ?_) ?_ | intro _
    | (extract_lets +onlyGivenNames xk; first | (refine kept_cut (p := ip) xk ?_ ?_ <;> first | (intro hxk; clear_value xk) | subst xk) | subst xk)
    | with_reducible refine kept_ite ?_ ?_ | split
    | (refine kept_of ?_; dsimp only; with_reducible refine kept_to ?_; first | with_reducible assumption | with_reducible apply send_kept | with_reducible apply sendVbl_kept)

theorem mateSends_kept {ip : State} (s : State) (hk : Kept ip s) :
    Kept ip (mateSends s) := by
  unfold mateSends
  repeat' first
    | with_reducible assumption | with_reducible apply send_kept | with_reducible apply sendReleased_kept | intro _
    | (extract_lets +onlyGivenNames xk; first | (refine kept_cut (p := ip) xk ?_ ?_ <;> first | (intro hxk; clear_value xk) | subst xk) | subst xk)
    | with_reducible refine kept_ite ?_ ?_ | split
    | (refine kept_of ?_; dsimp only; with_reducible refine kept_to ?_; first | with_reducible assumption | with_reducible apply send_kept | with_reducible apply sendReleased_kept)

theorem bulkSends_kept {ip : State} (s : State) (hk : Kept ip s) :
    Kept ip (bulkSends s) := by
  unfold bulkSends
  repeat' first
    | with_reducible assumption | with_reducible apply sendMate_kept
    | with_reducible refine kept_foldl _ _ (fun _ _ _ => ?_) ?_ | intro _
    | (extract_lets +onlyGivenNames xk; first | (refine kept_cut (p := ip) xk ?_ ?_ <;> first | (intro hxk; clear_value xk) | subst xk) | subst xk)
    | with_reducible refine kept_ite ?_ ?_ | split
    | (refine kept_of ?_; dsimp only; with_reducible refine kept_to ?_; first | with_reducible assumption | with_reducible apply sendMate_kept)

theorem sendStatus_kept {ip : State} (b : Bool) (s : State) (hk : Kept ip s) :
    Kept ip (sendStatus b s) := by
  unfold sendStatus
  repeat' first
    | with_reducible assumption | with_reducible apply bump_kept | with_reducible apply send_kept
    | with_reducible apply putGh_kept | intro _
    | (extract_lets +onlyGivenNames xk; first | (refine kept_cut (p := ip) xk ?_ ?_ <;> first | (intro hxk; clear_value xk) | subst xk) | subst xk)
    | with_reducible refine kept_ite ?_ ?_ | split
    | (refine kept_of ?_; dsimp only; with_reducible refine kept_to ?_; first | with_reducible assumption | with_reducible apply bump_kept | with_reducible apply send_kept | with_reducible apply putGh_kept)

theorem statusSends_kept {ip : State} (s : State) (hk : Kept ip s) :
    Kept ip (statusSends s) := by
  unfold statusSends
  repeat' first
    | with_reducible assumption | with_reducible apply sendStatus_kept | intro _
    | (extract_lets +onlyGivenNames xk; first | (refine kept_cut (p := ip) xk ?_ ?_ <;> first | (intro hxk; clear_value xk) | subst xk) | subst xk)
    | with_reducible refine kept_ite ?_ ?_ | split
    | (refine kept_of ?_; dsimp only; with_reducible refine kept_to ?_; first | with_reducible assumption | with_reducible apply sendStatus_kept)

theorem recordSends_kept {ip : State} (s : State) (hk : Kept ip s) :
    Kept ip (recordSends s) := by
  unfold recordSends
  repeat' first
    | with_reducible assumption | with_reducible apply sendMate_kept | with_reducible apply sendGroup_kept
    | with_reducible apply elect_kept | with_reducible apply compareBell_kept | intro _
    | (extract_lets +onlyGivenNames xk; first | (refine kept_cut (p := ip) xk ?_ ?_ <;> first | (intro hxk; clear_value xk) | subst xk) | subst xk)
    | with_reducible refine kept_ite ?_ ?_ | split
    | (refine kept_of ?_; dsimp only; with_reducible refine kept_to ?_; first | with_reducible assumption | with_reducible apply sendMate_kept | with_reducible apply sendGroup_kept | with_reducible apply elect_kept | with_reducible apply compareBell_kept)

theorem frameSends_kept {ip : State} (s : State) (hk : Kept ip s) :
    Kept ip (frameSends s) := by
  unfold frameSends
  repeat' first
    | with_reducible assumption | with_reducible apply egressFrame_kept | with_reducible apply lineSends_kept
    | with_reducible apply vblSends_kept | with_reducible apply mateSends_kept | with_reducible apply bulkSends_kept
    | with_reducible apply statusSends_kept | with_reducible apply recordSends_kept
    | with_reducible refine kept_foldl _ _ (fun _ _ _ => ?_) ?_ | intro _
    | (extract_lets +onlyGivenNames xk; first | (refine kept_cut (p := ip) xk ?_ ?_ <;> first | (intro hxk; clear_value xk) | subst xk) | subst xk)
    | with_reducible refine kept_ite ?_ ?_ | split
    | (refine kept_of ?_; dsimp only; with_reducible refine kept_to ?_; first | with_reducible assumption | with_reducible apply egressFrame_kept | with_reducible apply lineSends_kept | with_reducible apply vblSends_kept | with_reducible apply mateSends_kept | with_reducible apply bulkSends_kept | with_reducible apply statusSends_kept | with_reducible apply recordSends_kept)

theorem effectFrame_kept {ip : State} (m s : State) (hk : Kept ip s) :
    Kept ip (effectFrame m s) := by
  unfold effectFrame
  repeat' first
    | with_reducible assumption | with_reducible apply entryFrame_kept | with_reducible apply dueFrame_kept
    | with_reducible apply modeFrame_kept | with_reducible apply yieldFrame_kept | intro _
    | (extract_lets +onlyGivenNames xk; first | (refine kept_cut (p := ip) xk ?_ ?_ <;> first | (intro hxk; clear_value xk) | subst xk) | subst xk)
    | with_reducible refine kept_ite ?_ ?_ | split
    | (refine kept_of ?_; dsimp only; with_reducible refine kept_to ?_; first | with_reducible assumption | with_reducible apply entryFrame_kept | with_reducible apply dueFrame_kept | with_reducible apply modeFrame_kept | with_reducible apply yieldFrame_kept)

theorem layerFrame_kept {ip : State} (s : State) (hk : Kept ip s) :
    Kept ip (layerFrame s) := by
  unfold layerFrame
  repeat' first
    | with_reducible assumption | with_reducible apply failedFrame_kept | with_reducible apply evalSlots_kept
    | with_reducible apply lockFrame_kept | with_reducible apply phaseFrame_kept
    | with_reducible apply groupFrame_kept | with_reducible apply maskFrame_kept | with_reducible apply carFrame_kept
    | with_reducible apply bandFrame_kept | intro _
    | (extract_lets +onlyGivenNames xk; first | (refine kept_cut (p := ip) xk ?_ ?_ <;> first | (intro hxk; clear_value xk) | subst xk) | subst xk)
    | with_reducible refine kept_ite ?_ ?_ | split
    | (refine kept_of ?_; dsimp only; with_reducible refine kept_to ?_; first | with_reducible assumption | with_reducible apply failedFrame_kept | with_reducible apply evalSlots_kept | with_reducible apply lockFrame_kept | with_reducible apply phaseFrame_kept | with_reducible apply groupFrame_kept | with_reducible apply maskFrame_kept | with_reducible apply carFrame_kept | with_reducible apply bandFrame_kept)

theorem reportFrame_kept {ip : State} (s : State) (hk : Kept ip s) :
    Kept ip (reportFrame s) := by
  unfold reportFrame
  repeat' first
    | with_reducible assumption | with_reducible apply commitRepeat_kept | with_reducible apply rampFrame_kept
    | with_reducible apply groupApply_kept | with_reducible apply prbsFrame_kept | with_reducible apply noteRings_kept
    | with_reducible apply domainFrame_kept | with_reducible apply updateFrame_kept | intro _
    | (extract_lets +onlyGivenNames xk; first | (refine kept_cut (p := ip) xk ?_ ?_ <;> first | (intro hxk; clear_value xk) | subst xk) | subst xk)
    | with_reducible refine kept_ite ?_ ?_ | split
    | (refine kept_of ?_; dsimp only; with_reducible refine kept_to ?_; first | with_reducible assumption | with_reducible apply commitRepeat_kept | with_reducible apply rampFrame_kept | with_reducible apply groupApply_kept | with_reducible apply prbsFrame_kept | with_reducible apply noteRings_kept | with_reducible apply domainFrame_kept | with_reducible apply updateFrame_kept)

theorem beginFrame_kept {ip : State} (m : State) (hk : Kept ip m) :
    Kept ip (beginFrame m) := by
  unfold beginFrame
  repeat' first
    | with_reducible assumption | with_reducible apply bump_kept | with_reducible apply resumeFrame_kept
    | with_reducible apply startFrame_kept | with_reducible apply apsFrame_kept
    | with_reducible apply mateRxFrame_kept | with_reducible apply flushRx_kept | with_reducible apply fecFrame_kept
    | with_reducible apply todFrame_kept | with_reducible apply secondFrame_kept
    | with_reducible apply relayFrame_kept | with_reducible apply pruneMoved_kept
    | with_reducible apply alignFrame_kept | with_reducible apply selectorFrame_kept
    | with_reducible apply solverFrame_kept | with_reducible apply frameSends_kept
    | with_reducible apply effectFrame_kept | with_reducible apply layerFrame_kept
    | with_reducible apply reportFrame_kept | intro _
    | (extract_lets +onlyGivenNames xk; first | (refine kept_cut (p := ip) xk ?_ ?_ <;> first | (intro hxk; clear_value xk) | subst xk) | subst xk)
    | with_reducible refine kept_ite ?_ ?_ | split
    | (refine kept_of ?_; dsimp only; with_reducible refine kept_to ?_; first | with_reducible assumption | with_reducible apply bump_kept | with_reducible apply resumeFrame_kept | with_reducible apply startFrame_kept | with_reducible apply apsFrame_kept | with_reducible apply mateRxFrame_kept | with_reducible apply flushRx_kept | with_reducible apply fecFrame_kept | with_reducible apply todFrame_kept | with_reducible apply secondFrame_kept | with_reducible apply relayFrame_kept | with_reducible apply pruneMoved_kept | with_reducible apply alignFrame_kept | with_reducible apply selectorFrame_kept | with_reducible apply solverFrame_kept | with_reducible apply frameSends_kept | with_reducible apply effectFrame_kept | with_reducible apply layerFrame_kept | with_reducible apply reportFrame_kept)

theorem frameStart_kept {ip : State} (s : State) (hk : Kept ip s) :
    Kept ip (frameStart s) := by
  unfold frameStart
  repeat' first
    | with_reducible assumption | with_reducible apply groupTxFrame_kept | with_reducible apply todFrame_kept
    | with_reducible apply tickReset_kept | with_reducible apply beginFrame_kept | intro _
    | (extract_lets +onlyGivenNames xk; first | (refine kept_cut (p := ip) xk ?_ ?_ <;> first | (intro hxk; clear_value xk) | subst xk) | subst xk)
    | with_reducible refine kept_ite ?_ ?_ | split
    | (refine kept_of ?_; dsimp only; with_reducible refine kept_to ?_; first | with_reducible assumption | with_reducible apply groupTxFrame_kept | with_reducible apply todFrame_kept | with_reducible apply tickReset_kept | with_reducible apply beginFrame_kept)

theorem runStep_kept {ip : State} (x : StartStep) (due : State → Bool) (f : State → State) (s : State) (hf : ∀ s,
    Kept ip s → Kept ip (f s)) (hk : Kept ip s) :
    Kept ip (runStep x due f s) := by
  unfold runStep
  repeat' first
    | with_reducible assumption | with_reducible apply stepDone_kept | with_reducible apply frameSends_kept
    | with_reducible apply hf | intro _
    | (extract_lets +onlyGivenNames xk; first | (refine kept_cut (p := ip) xk ?_ ?_ <;> first | (intro hxk; clear_value xk) | subst xk) | subst xk)
    | with_reducible refine kept_ite ?_ ?_ | split
    | (refine kept_of ?_; dsimp only; with_reducible refine kept_to ?_; first | with_reducible assumption | with_reducible apply stepDone_kept | with_reducible apply frameSends_kept | with_reducible apply hf)

theorem holdOffEnds_kept {ip : State} (t : Tier) (i : Nat) (l : Leg) (s : State) (hk : Kept ip s) :
    Kept ip (holdOffEnds t i l s) := by
  unfold holdOffEnds
  repeat' first
    | with_reducible assumption | intro _
    | (extract_lets +onlyGivenNames xk; first | (refine kept_cut (p := ip) xk ?_ ?_ <;> first | (intro hxk; clear_value xk) | subst xk) | subst xk)
    | with_reducible refine kept_ite ?_ ?_ | split
    | (refine kept_of ?_; dsimp only; with_reducible refine kept_to ?_; with_reducible assumption)

theorem wtrEnds_kept {ip : State} (t : Tier) (i : Nat) (s : State) (hk : Kept ip s) :
    Kept ip (wtrEnds t i s) := by
  unfold wtrEnds
  repeat' first
    | with_reducible assumption | intro _
    | (extract_lets +onlyGivenNames xk; first | (refine kept_cut (p := ip) xk ?_ ?_ <;> first | (intro hxk; clear_value xk) | subst xk) | subst xk)
    | with_reducible refine kept_ite ?_ ?_ | split
    | (refine kept_of ?_; dsimp only; with_reducible refine kept_to ?_; with_reducible assumption)

end Sys2Proof.Laws
end

