-- ==== Sys2Proof/Laws/KeptExec.lean ====
section
/-! SUPPORT. Every command and happening answers a next state, and keeps it: one lemma for each meaning. -/
namespace Sys2Proof.Laws
open Machine

-- Machine/exec.lean.

theorem execPmSecondFinal_kept {ip : State} (cls : Nat) (obj : Nat) (s : State) (hk : Kept ip s) :
    NextKept ip (execPmSecondFinal cls obj s) := by
  unfold execPmSecondFinal
  repeat' first
    | with_reducible assumption | with_reducible apply finish_kept | with_reducible apply pmFinal_kept | intro _
    | (extract_lets +onlyGivenNames xk; first | (refine kept_cut (p := ip) xk ?_ ?_ <;> first | (intro hxk; clear_value xk) | subst xk) | subst xk)
    | with_reducible refine kept_ite ?_ ?_ | split
    | (refine kept_of ?_; dsimp only; with_reducible refine kept_to ?_; first | with_reducible assumption | with_reducible apply pmFinal_kept)

theorem execPmBinClose_kept {ip : State} (cls : Nat) (obj : Nat) (day : Bool) (s : State) (hk : Kept ip s) :
    NextKept ip (execPmBinClose cls obj day s) := by
  unfold execPmBinClose
  repeat' first
    | with_reducible assumption | with_reducible apply finish_kept | with_reducible apply pmClose_kept | intro _
    | (extract_lets +onlyGivenNames xk; first | (refine kept_cut (p := ip) xk ?_ ?_ <;> first | (intro hxk; clear_value xk) | subst xk) | subst xk)
    | with_reducible refine kept_ite ?_ ?_ | split
    | (refine kept_of ?_; dsimp only; with_reducible refine kept_to ?_; first | with_reducible assumption | with_reducible apply pmClose_kept)

theorem execPmBufferTimeout_kept {ip : State} (s : State) (hk : Kept ip s) :
    NextKept ip (execPmBufferTimeout s) := by
  unfold execPmBufferTimeout
  repeat' first
    | with_reducible assumption | with_reducible apply finish_kept | with_reducible apply pmTimeout_kept | intro _
    | (extract_lets +onlyGivenNames xk; first | (refine kept_cut (p := ip) xk ?_ ?_ <;> first | (intro hxk; clear_value xk) | subst xk) | subst xk)
    | with_reducible refine kept_ite ?_ ?_ | split
    | (refine kept_of ?_; dsimp only; with_reducible refine kept_to ?_; first | with_reducible assumption | with_reducible apply pmTimeout_kept)

theorem execPmSecondEnd_kept {ip : State} (ms : List PmMeas) (s : State) (hk : Kept ip s) :
    NextKept ip (execPmSecondEnd ms s) := by
  unfold execPmSecondEnd
  repeat' first
    | with_reducible assumption | with_reducible apply finish_kept | with_reducible apply secondEnd_kept | intro _
    | (extract_lets +onlyGivenNames xk; first | (refine kept_cut (p := ip) xk ?_ ?_ <;> first | (intro hxk; clear_value xk) | subst xk) | subst xk)
    | with_reducible refine kept_ite ?_ ?_ | split
    | (refine kept_of ?_; dsimp only; with_reducible refine kept_to ?_; first | with_reducible assumption | with_reducible apply secondEnd_kept)

theorem execConnStage_kept {ip : State} (c : CmdEntry) (s : State) (hk : Kept ip s) :
    NextKept ip (execConnStage c s) := by
  unfold execConnStage
  repeat' first
    | with_reducible assumption | with_reducible apply finish_kept | with_reducible apply runCmd_kept
    | with_reducible apply stageRecs_kept | exact no_hold rfl | intro _
    | (extract_lets +onlyGivenNames xk; first | (refine kept_cut (p := ip) xk ?_ ?_ <;> first | (intro hxk; clear_value xk) | subst xk) | subst xk)
    | with_reducible refine kept_ite ?_ ?_ | split
    | (refine kept_of ?_; dsimp only; with_reducible refine kept_to ?_; first | with_reducible assumption | with_reducible apply runCmd_kept | with_reducible apply stageRecs_kept)

theorem execConnStageBulk_kept {ip : State} (c : CmdEntry) (s : State) (hk : Kept ip s) :
    NextKept ip (execConnStageBulk c s) := by
  unfold execConnStageBulk
  repeat' first
    | with_reducible assumption | with_reducible apply finish_kept | with_reducible apply withRead_kept
    | with_reducible apply runCmd_kept | with_reducible apply stageBulk_kept | exact no_hold rfl | intro _
    | (extract_lets +onlyGivenNames xk; first | (refine kept_cut (p := ip) xk ?_ ?_ <;> first | (intro hxk; clear_value xk) | subst xk) | subst xk)
    | with_reducible refine kept_ite ?_ ?_ | split
    | (refine kept_of ?_; dsimp only; with_reducible refine kept_to ?_; first | with_reducible assumption | with_reducible apply withRead_kept | with_reducible apply runCmd_kept | with_reducible apply stageBulk_kept)

theorem execConnCommit_kept {ip : State} (c : CmdEntry) (s : State) (hk : Kept ip s) :
    NextKept ip (execConnCommit c s) := by
  unfold execConnCommit
  repeat' first
    | with_reducible assumption | with_reducible apply finish_kept | with_reducible apply runCmd_kept
    | with_reducible apply commitBody_kept | exact no_hold rfl | intro _
    | (extract_lets +onlyGivenNames xk; first | (refine kept_cut (p := ip) xk ?_ ?_ <;> first | (intro hxk; clear_value xk) | subst xk) | subst xk)
    | with_reducible refine kept_ite ?_ ?_ | split
    | (refine kept_of ?_; dsimp only; with_reducible refine kept_to ?_; first | with_reducible assumption | with_reducible apply runCmd_kept | with_reducible apply commitBody_kept)

theorem execConnAbort_kept {ip : State} (c : CmdEntry) (s : State) (hk : Kept ip s) :
    NextKept ip (execConnAbort c s) := by
  unfold execConnAbort
  repeat' first
    | with_reducible assumption | with_reducible apply finish_kept | with_reducible apply runCmd_kept
    | with_reducible apply abortBody_kept | exact no_hold rfl | intro _
    | (extract_lets +onlyGivenNames xk; first | (refine kept_cut (p := ip) xk ?_ ?_ <;> first | (intro hxk; clear_value xk) | subst xk) | subst xk)
    | with_reducible refine kept_ite ?_ ?_ | split
    | (refine kept_of ?_; dsimp only; with_reducible refine kept_to ?_; first | with_reducible assumption | with_reducible apply runCmd_kept | with_reducible apply abortBody_kept)

theorem execConnReadback_kept {ip : State} (c : CmdEntry) (s : State) (hk : Kept ip s) :
    NextKept ip (execConnReadback c s) := by
  unfold execConnReadback
  repeat' first
    | with_reducible assumption | with_reducible apply finish_kept | with_reducible apply completeOk_kept
    | with_reducible apply withWrite_kept | with_reducible apply runCmd_kept | exact no_hold rfl | intro _
    | (extract_lets +onlyGivenNames xk; first | (refine kept_cut (p := ip) xk ?_ ?_ <;> first | (intro hxk; clear_value xk) | subst xk) | subst xk)
    | with_reducible refine kept_ite ?_ ?_ | split
    | (refine kept_of ?_; dsimp only; with_reducible refine kept_to ?_; first | with_reducible assumption | with_reducible apply completeOk_kept | with_reducible apply withWrite_kept | with_reducible apply runCmd_kept)

theorem routeHold_kept {p : State} (c : CmdEntry) (s t : State) (h : Kept p s) (ht : routeHold s c = some t) : Kept p
    t := by
  unfold routeHold at ht
  split at ht
  · cases ht
  · split at ht
    · cases ht; exact h
    · split at ht
      · cases ht; exact h
      · cases ht

theorem execRouteCheck_kept {ip : State} (c : CmdEntry) (s : State) (hk : Kept ip s) :
    NextKept ip (execRouteCheck c s) :=
  finish_kept _ _ (runCmd_kept _ _ _ _ _ _ (fun _ _ h => routeBody_kept _ _ _ h)
    (fun t ht => routeHold_kept c s t hk ht) hk)

theorem execCarrierConfig_kept {ip : State} (c : CmdEntry) (s : State) (hk : Kept ip s) :
    NextKept ip (execCarrierConfig c s) := by
  unfold execCarrierConfig
  repeat' first
    | with_reducible assumption | with_reducible apply finish_kept | with_reducible apply withRead_kept
    | with_reducible apply runCmd_kept | with_reducible apply stageCarriers_kept | exact no_hold rfl | intro _
    | (extract_lets +onlyGivenNames xk; first | (refine kept_cut (p := ip) xk ?_ ?_ <;> first | (intro hxk; clear_value xk) | subst xk) | subst xk)
    | with_reducible refine kept_ite ?_ ?_ | split
    | (refine kept_of ?_; dsimp only; with_reducible refine kept_to ?_; first | with_reducible assumption | with_reducible apply withRead_kept | with_reducible apply runCmd_kept | with_reducible apply stageCarriers_kept)

theorem execPortConfigQuiesce_kept {ip : State} (c : CmdEntry) (s : State) (hk : Kept ip s) :
    NextKept ip (execPortConfigQuiesce c s) := by
  unfold execPortConfigQuiesce
  repeat' first
    | with_reducible assumption | with_reducible apply finish_kept | with_reducible apply completeOk_kept
    | with_reducible apply runCmd_kept | with_reducible apply quiesceRun_kept | exact no_hold rfl | intro _
    | (extract_lets +onlyGivenNames xk; first | (refine kept_cut (p := ip) xk ?_ ?_ <;> first | (intro hxk; clear_value xk) | subst xk) | subst xk)
    | with_reducible refine kept_ite ?_ ?_ | split
    | (refine kept_of ?_; dsimp only; with_reducible refine kept_to ?_; first | with_reducible assumption | with_reducible apply completeOk_kept | with_reducible apply runCmd_kept | with_reducible apply quiesceRun_kept)

theorem execRouteSolveDone_kept {ip : State} (s : State) (hk : Kept ip s) :
    NextKept ip (execRouteSolveDone s) := by
  unfold execRouteSolveDone
  repeat' first
    | with_reducible assumption | with_reducible apply finish_kept | with_reducible apply solved_kept | intro _
    | (extract_lets +onlyGivenNames xk; first | (refine kept_cut (p := ip) xk ?_ ?_ <;> first | (intro hxk; clear_value xk) | subst xk) | subst xk)
    | with_reducible refine kept_ite ?_ ?_ | split
    | (refine kept_of ?_; dsimp only; with_reducible refine kept_to ?_; first | with_reducible assumption | with_reducible apply solved_kept)

theorem execJournalRecordClose_kept {ip : State} (s : State) (hk : Kept ip s) :
    NextKept ip (execJournalRecordClose s) := by
  unfold execJournalRecordClose
  repeat' first
    | with_reducible assumption | with_reducible apply finish_kept | with_reducible apply journalClose_kept | intro _
    | (extract_lets +onlyGivenNames xk; first | (refine kept_cut (p := ip) xk ?_ ?_ <;> first | (intro hxk; clear_value xk) | subst xk) | subst xk)
    | with_reducible refine kept_ite ?_ ?_ | split
    | (refine kept_of ?_; dsimp only; with_reducible refine kept_to ?_; first | with_reducible assumption | with_reducible apply journalClose_kept)

theorem execPrepareDeadline_kept {ip : State} (s : State) (hk : Kept ip s) :
    NextKept ip (execPrepareDeadline s) := by
  unfold execPrepareDeadline
  repeat' first
    | with_reducible assumption | with_reducible apply finish_kept | with_reducible apply prepareDeadline_kept
    | intro _
    | (extract_lets +onlyGivenNames xk; first | (refine kept_cut (p := ip) xk ?_ ?_ <;> first | (intro hxk; clear_value xk) | subst xk) | subst xk)
    | with_reducible refine kept_ite ?_ ?_ | split
    | (refine kept_of ?_; dsimp only; with_reducible refine kept_to ?_; first | with_reducible assumption | with_reducible apply prepareDeadline_kept)

theorem execPrepareRx_kept {ip : State} (slice : Nat) (unit : Bool) (m : Bytes) (s : State) (hk : Kept ip s) :
    NextKept ip (execPrepareRx slice unit m s) := by
  unfold execPrepareRx
  repeat' first
    | with_reducible assumption | with_reducible apply finish_kept | with_reducible apply prepareRx_kept | intro _
    | (extract_lets +onlyGivenNames xk; first | (refine kept_cut (p := ip) xk ?_ ?_ <;> first | (intro hxk; clear_value xk) | subst xk) | subst xk)
    | with_reducible refine kept_ite ?_ ?_ | split
    | (refine kept_of ?_; dsimp only; with_reducible refine kept_to ?_; first | with_reducible assumption | with_reducible apply prepareRx_kept)

theorem execReadyRx_kept {ip : State} (slice : Nat) (unit : Bool) (m : Bytes) (s : State) (hk : Kept ip s) :
    NextKept ip (execReadyRx slice unit m s) := by
  unfold execReadyRx
  repeat' first
    | with_reducible assumption | with_reducible apply finish_kept | with_reducible apply readyRx_kept | intro _
    | (extract_lets +onlyGivenNames xk; first | (refine kept_cut (p := ip) xk ?_ ?_ <;> first | (intro hxk; clear_value xk) | subst xk) | subst xk)
    | with_reducible refine kept_ite ?_ ?_ | split
    | (refine kept_of ?_; dsimp only; with_reducible refine kept_to ?_; first | with_reducible assumption | with_reducible apply readyRx_kept)

theorem execReadyDeadline_kept {ip : State} (s : State) (hk : Kept ip s) :
    NextKept ip (execReadyDeadline s) := by
  unfold execReadyDeadline
  repeat' first
    | with_reducible assumption | with_reducible apply finish_kept | with_reducible apply readyDeadline_kept | intro _
    | (extract_lets +onlyGivenNames xk; first | (refine kept_cut (p := ip) xk ?_ ?_ <;> first | (intro hxk; clear_value xk) | subst xk) | subst xk)
    | with_reducible refine kept_ite ?_ ?_ | split
    | (refine kept_of ?_; dsimp only; with_reducible refine kept_to ?_; first | with_reducible assumption | with_reducible apply readyDeadline_kept)

theorem execCommitRx_kept {ip : State} (_slice : Nat) (_unit : Bool) (m : Bytes) (s : State) (hk : Kept ip s) :
    NextKept ip (execCommitRx _slice _unit m s) := by
  unfold execCommitRx
  repeat' first
    | with_reducible assumption | with_reducible apply finish_kept | with_reducible apply commitRx_kept | intro _
    | (extract_lets +onlyGivenNames xk; first | (refine kept_cut (p := ip) xk ?_ ?_ <;> first | (intro hxk; clear_value xk) | subst xk) | subst xk)
    | with_reducible refine kept_ite ?_ ?_ | split
    | (refine kept_of ?_; dsimp only; with_reducible refine kept_to ?_; first | with_reducible assumption | with_reducible apply commitRx_kept)

theorem execAckRx_kept {ip : State} (slice : Nat) (unit : Bool) (m : Bytes) (s : State) (hk : Kept ip s) :
    NextKept ip (execAckRx slice unit m s) := by
  unfold execAckRx
  repeat' first
    | with_reducible assumption | with_reducible apply finish_kept | with_reducible apply ackRx_kept | intro _
    | (extract_lets +onlyGivenNames xk; first | (refine kept_cut (p := ip) xk ?_ ?_ <;> first | (intro hxk; clear_value xk) | subst xk) | subst xk)
    | with_reducible refine kept_ite ?_ ?_ | split
    | (refine kept_of ?_; dsimp only; with_reducible refine kept_to ?_; first | with_reducible assumption | with_reducible apply ackRx_kept)

theorem execAckDeadline_kept {ip : State} (s : State) (hk : Kept ip s) :
    NextKept ip (execAckDeadline s) := by
  unfold execAckDeadline
  repeat' first
    | with_reducible assumption | with_reducible apply finish_kept | with_reducible apply ackDeadline_kept | intro _
    | (extract_lets +onlyGivenNames xk; first | (refine kept_cut (p := ip) xk ?_ ?_ <;> first | (intro hxk; clear_value xk) | subst xk) | subst xk)
    | with_reducible refine kept_ite ?_ ?_ | split
    | (refine kept_of ?_; dsimp only; with_reducible refine kept_to ?_; first | with_reducible assumption | with_reducible apply ackDeadline_kept)

theorem execAbortRx_kept {ip : State} (_slice : Nat) (_unit : Bool) (m : Bytes) (s : State) (hk : Kept ip s) :
    NextKept ip (execAbortRx _slice _unit m s) := by
  unfold execAbortRx
  repeat' first
    | with_reducible assumption | with_reducible apply finish_kept | with_reducible apply abortRx_kept | intro _
    | (extract_lets +onlyGivenNames xk; first | (refine kept_cut (p := ip) xk ?_ ?_ <;> first | (intro hxk; clear_value xk) | subst xk) | subst xk)
    | with_reducible refine kept_ite ?_ ?_ | split
    | (refine kept_of ?_; dsimp only; with_reducible refine kept_to ?_; first | with_reducible assumption | with_reducible apply abortRx_kept)

theorem execRefuseRx_kept {ip : State} (_slice : Nat) (_unit : Bool) (m : Bytes) (s : State) (hk : Kept ip s) :
    NextKept ip (execRefuseRx _slice _unit m s) := by
  unfold execRefuseRx
  repeat' first
    | with_reducible assumption | with_reducible apply finish_kept | with_reducible apply refuseRx_kept | intro _
    | (extract_lets +onlyGivenNames xk; first | (refine kept_cut (p := ip) xk ?_ ?_ <;> first | (intro hxk; clear_value xk) | subst xk) | subst xk)
    | with_reducible refine kept_ite ?_ ?_ | split
    | (refine kept_of ?_; dsimp only; with_reducible refine kept_to ?_; first | with_reducible assumption | with_reducible apply refuseRx_kept)

theorem execDmaGo_kept {ip : State} (ch : Nat) (v : Word32) (s : State) (hk : Kept ip s) :
    NextKept ip (execDmaGo ch v s) := by
  unfold execDmaGo
  repeat' first
    | with_reducible assumption | with_reducible apply finish_kept | with_reducible apply hostCtrlWrite_kept | intro _
    | (extract_lets +onlyGivenNames xk; first | (refine kept_cut (p := ip) xk ?_ ?_ <;> first | (intro hxk; clear_value xk) | subst xk) | subst xk)
    | with_reducible refine kept_ite ?_ ?_ | split
    | (refine kept_of ?_; dsimp only; with_reducible refine kept_to ?_; first | with_reducible assumption | with_reducible apply hostCtrlWrite_kept)

theorem execDmaPause_kept {ip : State} (ch : Nat) (v : Word32) (s : State) (hk : Kept ip s) :
    NextKept ip (execDmaPause ch v s) := by
  unfold execDmaPause
  repeat' first
    | with_reducible assumption | with_reducible apply finish_kept | with_reducible apply hostCtrlWrite_kept | intro _
    | (extract_lets +onlyGivenNames xk; first | (refine kept_cut (p := ip) xk ?_ ?_ <;> first | (intro hxk; clear_value xk) | subst xk) | subst xk)
    | with_reducible refine kept_ite ?_ ?_ | split
    | (refine kept_of ?_; dsimp only; with_reducible refine kept_to ?_; first | with_reducible assumption | with_reducible apply hostCtrlWrite_kept)

theorem execDmaResume_kept {ip : State} (ch : Nat) (v : Word32) (s : State) (hk : Kept ip s) :
    NextKept ip (execDmaResume ch v s) := by
  unfold execDmaResume
  repeat' first
    | with_reducible assumption | with_reducible apply finish_kept | with_reducible apply hostCtrlWrite_kept | intro _
    | (extract_lets +onlyGivenNames xk; first | (refine kept_cut (p := ip) xk ?_ ?_ <;> first | (intro hxk; clear_value xk) | subst xk) | subst xk)
    | with_reducible refine kept_ite ?_ ?_ | split
    | (refine kept_of ?_; dsimp only; with_reducible refine kept_to ?_; first | with_reducible assumption | with_reducible apply hostCtrlWrite_kept)

theorem execDmaStop_kept {ip : State} (ch : Nat) (v : Word32) (s : State) (hk : Kept ip s) :
    NextKept ip (execDmaStop ch v s) := by
  unfold execDmaStop
  repeat' first
    | with_reducible assumption | with_reducible apply finish_kept | with_reducible apply hostCtrlWrite_kept | intro _
    | (extract_lets +onlyGivenNames xk; first | (refine kept_cut (p := ip) xk ?_ ?_ <;> first | (intro hxk; clear_value xk) | subst xk) | subst xk)
    | with_reducible refine kept_ite ?_ ?_ | split
    | (refine kept_of ?_; dsimp only; with_reducible refine kept_to ?_; first | with_reducible assumption | with_reducible apply hostCtrlWrite_kept)

theorem execDmaPaceEvent_kept {ip : State} (ch : Nat) (s : State) (hk : Kept ip s) :
    NextKept ip (execDmaPaceEvent ch s) := by
  unfold execDmaPaceEvent
  repeat' first
    | with_reducible assumption | with_reducible apply finish_kept | with_reducible apply paceEvent_kept | intro _
    | (extract_lets +onlyGivenNames xk; first | (refine kept_cut (p := ip) xk ?_ ?_ <;> first | (intro hxk; clear_value xk) | subst xk) | subst xk)
    | with_reducible refine kept_ite ?_ ?_ | split
    | (refine kept_of ?_; dsimp only; with_reducible refine kept_to ?_; first | with_reducible assumption | with_reducible apply paceEvent_kept)

theorem execDmaBurstDone_kept {ip : State} (ch : Nat) (s : State) (hk : Kept ip s) :
    NextKept ip (execDmaBurstDone ch s) := by
  unfold execDmaBurstDone
  repeat' first
    | with_reducible assumption | with_reducible apply finish_kept | with_reducible apply burstDone_kept | intro _
    | (extract_lets +onlyGivenNames xk; first | (refine kept_cut (p := ip) xk ?_ ?_ <;> first | (intro hxk; clear_value xk) | subst xk) | subst xk)
    | with_reducible refine kept_ite ?_ ?_ | split
    | (refine kept_of ?_; dsimp only; with_reducible refine kept_to ?_; first | with_reducible assumption | with_reducible apply burstDone_kept)

theorem execDmaBurstRetry_kept {ip : State} (ch : Nat) (cause : Nat) (s : State) (hk : Kept ip s) :
    NextKept ip (execDmaBurstRetry ch cause s) := by
  unfold execDmaBurstRetry
  repeat' first
    | with_reducible assumption | with_reducible apply finish_kept | with_reducible apply burstFails_kept | intro _
    | (extract_lets +onlyGivenNames xk; first | (refine kept_cut (p := ip) xk ?_ ?_ <;> first | (intro hxk; clear_value xk) | subst xk) | subst xk)
    | with_reducible refine kept_ite ?_ ?_ | split
    | (refine kept_of ?_; dsimp only; with_reducible refine kept_to ?_; first | with_reducible assumption | with_reducible apply burstFails_kept)

theorem execDmaWithdrawn_kept {ip : State} (ch : Nat) (s : State) (hk : Kept ip s) :
    NextKept ip (execDmaWithdrawn ch s) := by
  unfold execDmaWithdrawn
  repeat' first
    | with_reducible assumption | with_reducible apply finish_kept | with_reducible apply withdraw_kept | intro _
    | (extract_lets +onlyGivenNames xk; first | (refine kept_cut (p := ip) xk ?_ ?_ <;> first | (intro hxk; clear_value xk) | subst xk) | subst xk)
    | with_reducible refine kept_ite ?_ ?_ | split
    | (refine kept_of ?_; dsimp only; with_reducible refine kept_to ?_; first | with_reducible assumption | with_reducible apply withdraw_kept)

theorem execSelectionTick_kept {ip : State} (s : State) (hk : Kept ip s) :
    NextKept ip (execSelectionTick s) := by
  unfold execSelectionTick
  repeat' first
    | with_reducible assumption | with_reducible apply finish_kept | with_reducible apply tick_kept | intro _
    | (extract_lets +onlyGivenNames xk; first | (refine kept_cut (p := ip) xk ?_ ?_ <;> first | (intro hxk; clear_value xk) | subst xk) | subst xk)
    | with_reducible refine kept_ite ?_ ?_ | split
    | (refine kept_of ?_; dsimp only; with_reducible refine kept_to ?_; first | with_reducible assumption | with_reducible apply tick_kept)

theorem execRefFailureCondition_kept {ip : State} (slot : Nat) (b : Nat) (on : Bool) (s : State) (hk : Kept ip s) :
    NextKept ip (execRefFailureCondition slot b on s) := by
  unfold execRefFailureCondition
  repeat' first
    | with_reducible assumption | with_reducible apply finish_kept | with_reducible apply refCondition_kept | intro _
    | (extract_lets +onlyGivenNames xk; first | (refine kept_cut (p := ip) xk ?_ ?_ <;> first | (intro hxk; clear_value xk) | subst xk) | subst xk)
    | with_reducible refine kept_ite ?_ ?_ | split
    | (refine kept_of ?_; dsimp only; with_reducible refine kept_to ?_; first | with_reducible assumption | with_reducible apply refCondition_kept)

theorem execRefHoldOffExpiry_kept {ip : State} (slot : Nat) (s : State) (hk : Kept ip s) :
    NextKept ip (execRefHoldOffExpiry slot s) := by
  unfold execRefHoldOffExpiry
  repeat' first
    | with_reducible assumption | with_reducible apply finish_kept | with_reducible apply refHoldOff_kept | intro _
    | (extract_lets +onlyGivenNames xk; first | (refine kept_cut (p := ip) xk ?_ ?_ <;> first | (intro hxk; clear_value xk) | subst xk) | subst xk)
    | with_reducible refine kept_ite ?_ ?_ | split
    | (refine kept_of ?_; dsimp only; with_reducible refine kept_to ?_; first | with_reducible assumption | with_reducible apply refHoldOff_kept)

theorem execRefWtrExpiry_kept {ip : State} (slot : Nat) (s : State) (hk : Kept ip s) :
    NextKept ip (execRefWtrExpiry slot s) := by
  unfold execRefWtrExpiry
  repeat' first
    | with_reducible assumption | with_reducible apply finish_kept | with_reducible apply refWtr_kept | intro _
    | (extract_lets +onlyGivenNames xk; first | (refine kept_cut (p := ip) xk ?_ ?_ <;> first | (intro hxk; clear_value xk) | subst xk) | subst xk)
    | with_reducible refine kept_ite ?_ ?_ | split
    | (refine kept_of ?_; dsimp only; with_reducible refine kept_to ?_; first | with_reducible assumption | with_reducible apply refWtr_kept)

theorem execAcqFail_kept {ip : State} (s : State) (hk : Kept ip s) :
    NextKept ip (execAcqFail s) := by
  unfold execAcqFail
  repeat' first
    | with_reducible assumption | with_reducible apply finish_kept | with_reducible apply acqFail_kept | intro _
    | (extract_lets +onlyGivenNames xk; first | (refine kept_cut (p := ip) xk ?_ ?_ <;> first | (intro hxk; clear_value xk) | subst xk) | subst xk)
    | with_reducible refine kept_ite ?_ ?_ | split
    | (refine kept_of ?_; dsimp only; with_reducible refine kept_to ?_; first | with_reducible assumption | with_reducible apply acqFail_kept)

theorem execDpllLocked_kept {ip : State} (s : State) (hk : Kept ip s) :
    NextKept ip (execDpllLocked s) := by
  unfold execDpllLocked
  repeat' first
    | with_reducible assumption | with_reducible apply finish_kept | with_reducible apply dpllLocked_kept | intro _
    | (extract_lets +onlyGivenNames xk; first | (refine kept_cut (p := ip) xk ?_ ?_ <;> first | (intro hxk; clear_value xk) | subst xk) | subst xk)
    | with_reducible refine kept_ite ?_ ?_ | split
    | (refine kept_of ?_; dsimp only; with_reducible refine kept_to ?_; first | with_reducible assumption | with_reducible apply dpllLocked_kept)

theorem execSsmTimeout_kept {ip : State} (slot : Nat) (s : State) (hk : Kept ip s) :
    NextKept ip (execSsmTimeout slot s) := by
  unfold execSsmTimeout
  repeat' first
    | with_reducible assumption | with_reducible apply finish_kept | with_reducible apply ssmTimeout_kept | intro _
    | (extract_lets +onlyGivenNames xk; first | (refine kept_cut (p := ip) xk ?_ ?_ <;> first | (intro hxk; clear_value xk) | subst xk) | subst xk)
    | with_reducible refine kept_ite ?_ ?_ | split
    | (refine kept_of ?_; dsimp only; with_reducible refine kept_to ?_; first | with_reducible assumption | with_reducible apply ssmTimeout_kept)

theorem execSsmAccept_kept {ip : State} (slot : Nat) (code : BitVec 4) (s : State) (hk : Kept ip s) :
    NextKept ip (execSsmAccept slot code s) := by
  unfold execSsmAccept
  repeat' first
    | with_reducible assumption | with_reducible apply finish_kept | with_reducible apply ssmAccept_kept | intro _
    | (extract_lets +onlyGivenNames xk; first | (refine kept_cut (p := ip) xk ?_ ?_ <;> first | (intro hxk; clear_value xk) | subst xk) | subst xk)
    | with_reducible refine kept_ite ?_ ?_ | split
    | (refine kept_of ?_; dsimp only; with_reducible refine kept_to ?_; first | with_reducible assumption | with_reducible apply ssmAccept_kept)

theorem execFreqMonitorUpdate_kept {ip : State} (slot : Nat) (freq : Int) (s : State) (hk : Kept ip s) :
    NextKept ip (execFreqMonitorUpdate slot freq s) := by
  unfold execFreqMonitorUpdate
  repeat' first
    | with_reducible assumption | with_reducible apply finish_kept | with_reducible apply freqUpdate_kept | intro _
    | (extract_lets +onlyGivenNames xk; first | (refine kept_cut (p := ip) xk ?_ ?_ <;> first | (intro hxk; clear_value xk) | subst xk) | subst xk)
    | with_reducible refine kept_ite ?_ ?_ | split
    | (refine kept_of ?_; dsimp only; with_reducible refine kept_to ?_; first | with_reducible assumption | with_reducible apply freqUpdate_kept)

theorem execRefConflict_kept {ip : State} (a : Nat) (b : Nat) (s : State) (hk : Kept ip s) :
    NextKept ip (execRefConflict a b s) := by
  unfold execRefConflict
  repeat' first
    | with_reducible assumption | with_reducible apply finish_kept | with_reducible apply refConflict_kept | intro _
    | (extract_lets +onlyGivenNames xk; first | (refine kept_cut (p := ip) xk ?_ ?_ <;> first | (intro hxk; clear_value xk) | subst xk) | subst xk)
    | with_reducible refine kept_ite ?_ ?_ | split
    | (refine kept_of ?_; dsimp only; with_reducible refine kept_to ?_; first | with_reducible assumption | with_reducible apply refConflict_kept)

theorem execTimingConfigSlot_kept {ip : State} (c : CmdEntry) (s : State) (hk : Kept ip s) :
    NextKept ip (execTimingConfigSlot c s) := by
  unfold execTimingConfigSlot
  repeat' first
    | with_reducible assumption | with_reducible apply finish_kept | with_reducible apply completeOk_kept
    | with_reducible apply refuse_kept | with_reducible apply runCmd_kept | with_reducible apply writeSlot_kept
    | exact no_hold rfl | intro _
    | (extract_lets +onlyGivenNames xk; first | (refine kept_cut (p := ip) xk ?_ ?_ <;> first | (intro hxk; clear_value xk) | subst xk) | subst xk)
    | with_reducible refine kept_ite ?_ ?_ | split
    | (refine kept_of ?_; dsimp only; with_reducible refine kept_to ?_; first | with_reducible assumption | with_reducible apply completeOk_kept | with_reducible apply refuse_kept | with_reducible apply runCmd_kept | with_reducible apply writeSlot_kept)

theorem execTimingConfigBlock_kept {ip : State} (c : CmdEntry) (s : State) (hk : Kept ip s) :
    NextKept ip (execTimingConfigBlock c s) := by
  unfold execTimingConfigBlock
  repeat' first
    | with_reducible assumption | with_reducible apply finish_kept | with_reducible apply completeOk_kept
    | with_reducible apply configRecord_kept | with_reducible apply runCmd_kept | exact no_hold rfl | intro _
    | (extract_lets +onlyGivenNames xk; first | (refine kept_cut (p := ip) xk ?_ ?_ <;> first | (intro hxk; clear_value xk) | subst xk) | subst xk)
    | with_reducible refine kept_ite ?_ ?_ | split
    | (refine kept_of ?_; dsimp only; with_reducible refine kept_to ?_; first | with_reducible assumption | with_reducible apply completeOk_kept | with_reducible apply configRecord_kept | with_reducible apply runCmd_kept)

theorem execTimingStatus_kept {ip : State} (c : CmdEntry) (s : State) (hk : Kept ip s) :
    NextKept ip (execTimingStatus c s) := by
  unfold execTimingStatus
  repeat' first
    | with_reducible assumption | with_reducible apply finish_kept | with_reducible apply withWrite_kept
    | with_reducible apply runCmd_kept | with_reducible apply timOk_kept | exact no_hold rfl | intro _
    | (extract_lets +onlyGivenNames xk; first | (refine kept_cut (p := ip) xk ?_ ?_ <;> first | (intro hxk; clear_value xk) | subst xk) | subst xk)
    | with_reducible refine kept_ite ?_ ?_ | split
    | (refine kept_of ?_; dsimp only; with_reducible refine kept_to ?_; first | with_reducible assumption | with_reducible apply withWrite_kept | with_reducible apply runCmd_kept | with_reducible apply timOk_kept)

theorem execTimingLockout_kept {ip : State} (c : CmdEntry) (s : State) (hk : Kept ip s) :
    NextKept ip (execTimingLockout c s) := by
  unfold execTimingLockout
  repeat' first
    | with_reducible assumption | with_reducible apply finish_kept | with_reducible apply configRecord_kept
    | with_reducible apply runCmd_kept | with_reducible apply onSlot_kept | exact no_hold rfl | intro _
    | (extract_lets +onlyGivenNames xk; first | (refine kept_cut (p := ip) xk ?_ ?_ <;> first | (intro hxk; clear_value xk) | subst xk) | subst xk)
    | with_reducible refine kept_ite ?_ ?_ | split
    | (refine kept_of ?_; dsimp only; with_reducible refine kept_to ?_; first | with_reducible assumption | with_reducible apply configRecord_kept | with_reducible apply runCmd_kept | with_reducible apply onSlot_kept)

theorem execTimingClearLockout_kept {ip : State} (c : CmdEntry) (s : State) (hk : Kept ip s) :
    NextKept ip (execTimingClearLockout c s) := by
  unfold execTimingClearLockout
  repeat' first
    | with_reducible assumption | with_reducible apply finish_kept | with_reducible apply configRecord_kept
    | with_reducible apply runCmd_kept | with_reducible apply onSlot_kept | exact no_hold rfl | intro _
    | (extract_lets +onlyGivenNames xk; first | (refine kept_cut (p := ip) xk ?_ ?_ <;> first | (intro hxk; clear_value xk) | subst xk) | subst xk)
    | with_reducible refine kept_ite ?_ ?_ | split
    | (refine kept_of ?_; dsimp only; with_reducible refine kept_to ?_; first | with_reducible assumption | with_reducible apply configRecord_kept | with_reducible apply runCmd_kept | with_reducible apply onSlot_kept)

theorem execTimingForce_kept {ip : State} (c : CmdEntry) (s : State) (hk : Kept ip s) :
    NextKept ip (execTimingForce c s) := by
  unfold execTimingForce
  repeat' first
    | with_reducible assumption | with_reducible apply finish_kept | with_reducible apply configRecord_kept
    | with_reducible apply runCmd_kept | with_reducible apply onSlot_kept | exact no_hold rfl | intro _
    | (extract_lets +onlyGivenNames xk; first | (refine kept_cut (p := ip) xk ?_ ?_ <;> first | (intro hxk; clear_value xk) | subst xk) | subst xk)
    | with_reducible refine kept_ite ?_ ?_ | split
    | (refine kept_of ?_; dsimp only; with_reducible refine kept_to ?_; first | with_reducible assumption | with_reducible apply configRecord_kept | with_reducible apply runCmd_kept | with_reducible apply onSlot_kept)

theorem execTimingClearForce_kept {ip : State} (c : CmdEntry) (s : State) (hk : Kept ip s) :
    NextKept ip (execTimingClearForce c s) := by
  unfold execTimingClearForce
  repeat' first
    | with_reducible assumption | with_reducible apply finish_kept | with_reducible apply configRecord_kept
    | with_reducible apply runCmd_kept | with_reducible apply onSlot_kept | exact no_hold rfl | intro _
    | (extract_lets +onlyGivenNames xk; first | (refine kept_cut (p := ip) xk ?_ ?_ <;> first | (intro hxk; clear_value xk) | subst xk) | subst xk)
    | with_reducible refine kept_ite ?_ ?_ | split
    | (refine kept_of ?_; dsimp only; with_reducible refine kept_to ?_; first | with_reducible assumption | with_reducible apply configRecord_kept | with_reducible apply runCmd_kept | with_reducible apply onSlot_kept)

theorem execClearWtr_kept {ip : State} (c : CmdEntry) (s : State) (hk : Kept ip s) :
    NextKept ip (execClearWtr c s) := by
  unfold execClearWtr
  repeat' first
    | with_reducible assumption | with_reducible apply finish_kept | with_reducible apply runCmd_kept
    | with_reducible apply onSlot_kept | with_reducible apply clearWtr_kept | exact no_hold rfl | intro _
    | (extract_lets +onlyGivenNames xk; first | (refine kept_cut (p := ip) xk ?_ ?_ <;> first | (intro hxk; clear_value xk) | subst xk) | subst xk)
    | with_reducible refine kept_ite ?_ ?_ | split
    | (refine kept_of ?_; dsimp only; with_reducible refine kept_to ?_; first | with_reducible assumption | with_reducible apply runCmd_kept | with_reducible apply onSlot_kept | with_reducible apply clearWtr_kept)

theorem execHistoryClear_kept {ip : State} (c : CmdEntry) (s : State) (hk : Kept ip s) :
    NextKept ip (execHistoryClear c s) := by
  unfold execHistoryClear
  repeat' first
    | with_reducible assumption | with_reducible apply finish_kept | with_reducible apply runCmd_kept
    | with_reducible apply timOk_kept | exact no_hold rfl | intro _
    | (extract_lets +onlyGivenNames xk; first | (refine kept_cut (p := ip) xk ?_ ?_ <;> first | (intro hxk; clear_value xk) | subst xk) | subst xk)
    | with_reducible refine kept_ite ?_ ?_ | split
    | (refine kept_of ?_; dsimp only; with_reducible refine kept_to ?_; first | with_reducible assumption | with_reducible apply runCmd_kept | with_reducible apply timOk_kept)

theorem execForceHoldover_kept {ip : State} (c : CmdEntry) (s : State) (hk : Kept ip s) :
    NextKept ip (execForceHoldover c s) := by
  unfold execForceHoldover
  repeat' first
    | with_reducible assumption | with_reducible apply finish_kept | with_reducible apply configRecord_kept
    | with_reducible apply runCmd_kept | with_reducible apply toHoldover_kept | with_reducible apply timOk_kept
    | with_reducible apply dropRef_kept | exact no_hold rfl | intro _
    | (extract_lets +onlyGivenNames xk; first | (refine kept_cut (p := ip) xk ?_ ?_ <;> first | (intro hxk; clear_value xk) | subst xk) | subst xk)
    | with_reducible refine kept_ite ?_ ?_ | split
    | (refine kept_of ?_; dsimp only; with_reducible refine kept_to ?_; first | with_reducible assumption | with_reducible apply configRecord_kept | with_reducible apply runCmd_kept | with_reducible apply toHoldover_kept | with_reducible apply timOk_kept | with_reducible apply dropRef_kept)

theorem execForceFreeRun_kept {ip : State} (c : CmdEntry) (s : State) (hk : Kept ip s) :
    NextKept ip (execForceFreeRun c s) := by
  unfold execForceFreeRun
  repeat' first
    | with_reducible assumption | with_reducible apply finish_kept | with_reducible apply configRecord_kept
    | with_reducible apply runCmd_kept | with_reducible apply toFreeRun_kept | with_reducible apply timOk_kept
    | with_reducible apply dropRef_kept | exact no_hold rfl | intro _
    | (extract_lets +onlyGivenNames xk; first | (refine kept_cut (p := ip) xk ?_ ?_ <;> first | (intro hxk; clear_value xk) | subst xk) | subst xk)
    | with_reducible refine kept_ite ?_ ?_ | split
    | (refine kept_of ?_; dsimp only; with_reducible refine kept_to ?_; first | with_reducible assumption | with_reducible apply configRecord_kept | with_reducible apply runCmd_kept | with_reducible apply toFreeRun_kept | with_reducible apply timOk_kept | with_reducible apply dropRef_kept)

theorem execForceClear_kept {ip : State} (c : CmdEntry) (s : State) (hk : Kept ip s) :
    NextKept ip (execForceClear c s) := by
  unfold execForceClear
  repeat' first
    | with_reducible assumption | with_reducible apply finish_kept | with_reducible apply configRecord_kept
    | with_reducible apply runCmd_kept | with_reducible apply timOk_kept | exact no_hold rfl | intro _
    | (extract_lets +onlyGivenNames xk; first | (refine kept_cut (p := ip) xk ?_ ?_ <;> first | (intro hxk; clear_value xk) | subst xk) | subst xk)
    | with_reducible refine kept_ite ?_ ?_ | split
    | (refine kept_of ?_; dsimp only; with_reducible refine kept_to ?_; first | with_reducible assumption | with_reducible apply configRecord_kept | with_reducible apply runCmd_kept | with_reducible apply timOk_kept)

theorem execSoftEnter_kept {ip : State} (c : CmdEntry) (s : State) (hk : Kept ip s) :
    NextKept ip (execSoftEnter c s) := by
  unfold execSoftEnter
  repeat' first
    | with_reducible assumption | with_reducible apply finish_kept | with_reducible apply runCmd_kept
    | with_reducible apply setDpll_kept | with_reducible apply stopTracking_kept | with_reducible apply timOk_kept
    | exact no_hold rfl | intro _
    | (extract_lets +onlyGivenNames xk; first | (refine kept_cut (p := ip) xk ?_ ?_ <;> first | (intro hxk; clear_value xk) | subst xk) | subst xk)
    | with_reducible refine kept_ite ?_ ?_ | split
    | (refine kept_of ?_; dsimp only; with_reducible refine kept_to ?_; first | with_reducible assumption | with_reducible apply runCmd_kept | with_reducible apply setDpll_kept | with_reducible apply stopTracking_kept | with_reducible apply timOk_kept)

theorem execSoftWord_kept {ip : State} (c : CmdEntry) (s : State) (hk : Kept ip s) :
    NextKept ip (execSoftWord c s) := by
  unfold execSoftWord
  repeat' first
    | with_reducible assumption | with_reducible apply finish_kept | with_reducible apply runCmd_kept
    | with_reducible apply timOk_kept | exact no_hold rfl | intro _
    | (extract_lets +onlyGivenNames xk; first | (refine kept_cut (p := ip) xk ?_ ?_ <;> first | (intro hxk; clear_value xk) | subst xk) | subst xk)
    | with_reducible refine kept_ite ?_ ?_ | split
    | (refine kept_of ?_; dsimp only; with_reducible refine kept_to ?_; first | with_reducible assumption | with_reducible apply runCmd_kept | with_reducible apply timOk_kept)

theorem execSoftExit_kept {ip : State} (c : CmdEntry) (s : State) (hk : Kept ip s) :
    NextKept ip (execSoftExit c s) := by
  unfold execSoftExit
  repeat' first
    | with_reducible assumption | with_reducible apply finish_kept | with_reducible apply runCmd_kept
    | with_reducible apply timOk_kept | exact no_hold rfl | intro _
    | (extract_lets +onlyGivenNames xk; first | (refine kept_cut (p := ip) xk ?_ ?_ <;> first | (intro hxk; clear_value xk) | subst xk) | subst xk)
    | with_reducible refine kept_ite ?_ ?_ | split
    | (refine kept_of ?_; dsimp only; with_reducible refine kept_to ?_; first | with_reducible assumption | with_reducible apply runCmd_kept | with_reducible apply timOk_kept)

theorem execNop_kept {ip : State} (c : CmdEntry) (s : State) (hk : Kept ip s) :
    NextKept ip (execNop c s) := by
  unfold execNop
  repeat' first
    | with_reducible assumption | with_reducible apply finish_kept | with_reducible apply completeOk_kept
    | with_reducible apply runCmd_kept | exact no_hold rfl | intro _
    | (extract_lets +onlyGivenNames xk; first | (refine kept_cut (p := ip) xk ?_ ?_ <;> first | (intro hxk; clear_value xk) | subst xk) | subst xk)
    | with_reducible refine kept_ite ?_ ?_ | split
    | (refine kept_of ?_; dsimp only; with_reducible refine kept_to ?_; first | with_reducible assumption | with_reducible apply completeOk_kept | with_reducible apply runCmd_kept)

theorem execQueryState_kept {ip : State} (c : CmdEntry) (s : State) (hk : Kept ip s) :
    NextKept ip (execQueryState c s) := by
  unfold execQueryState
  repeat' first
    | with_reducible assumption | with_reducible apply finish_kept | with_reducible apply completeOk_kept
    | with_reducible apply withWrite_kept | with_reducible apply runCmd_kept | exact no_hold rfl | intro _
    | (extract_lets +onlyGivenNames xk; first | (refine kept_cut (p := ip) xk ?_ ?_ <;> first | (intro hxk; clear_value xk) | subst xk) | subst xk)
    | with_reducible refine kept_ite ?_ ?_ | split
    | (refine kept_of ?_; dsimp only; with_reducible refine kept_to ?_; first | with_reducible assumption | with_reducible apply completeOk_kept | with_reducible apply withWrite_kept | with_reducible apply runCmd_kept)

theorem execSetMode_kept {ip : State} (c : CmdEntry) (s : State) (hk : Kept ip s) :
    NextKept ip (execSetMode c s) := by
  unfold execSetMode
  repeat' first
    | with_reducible assumption | with_reducible apply finish_kept | with_reducible apply completeOk_kept
    | with_reducible apply runCmd_kept | exact no_hold rfl | intro _
    | (extract_lets +onlyGivenNames xk; first | (refine kept_cut (p := ip) xk ?_ ?_ <;> first | (intro hxk; clear_value xk) | subst xk) | subst xk)
    | with_reducible refine kept_ite ?_ ?_ | split
    | (refine kept_of ?_; dsimp only; with_reducible refine kept_to ?_; first | with_reducible assumption | with_reducible apply completeOk_kept | with_reducible apply runCmd_kept)

theorem execReset_kept {ip : State} (c : CmdEntry) (s : State) (hk : Kept ip s) :
    NextKept ip (execReset c s) := by
  unfold execReset
  repeat' first
    | with_reducible assumption | with_reducible apply finish_kept | with_reducible apply runCmd_kept
    | with_reducible apply assertCold_kept | with_reducible apply assertWarm_kept | exact no_hold rfl | intro _
    | (extract_lets +onlyGivenNames xk; first | (refine kept_cut (p := ip) xk ?_ ?_ <;> first | (intro hxk; clear_value xk) | subst xk) | subst xk)
    | with_reducible refine kept_ite ?_ ?_ | split
    | (refine kept_of ?_; dsimp only; with_reducible refine kept_to ?_; first | with_reducible assumption | with_reducible apply runCmd_kept | with_reducible apply assertCold_kept | with_reducible apply assertWarm_kept)

theorem execKbyteAccept_kept {ip : State} (lane : Nat) (k : BitVec 13) (s : State) (hk : Kept ip s) :
    NextKept ip (execKbyteAccept lane k s) := by
  unfold execKbyteAccept
  repeat' first
    | with_reducible assumption | with_reducible apply finish_kept | with_reducible apply kAccept_kept | intro _
    | (extract_lets +onlyGivenNames xk; first | (refine kept_cut (p := ip) xk ?_ ?_ <;> first | (intro hxk; clear_value xk) | subst xk) | subst xk)
    | with_reducible refine kept_ite ?_ ?_ | split
    | (refine kept_of ?_; dsimp only; with_reducible refine kept_to ?_; first | with_reducible assumption | with_reducible apply kAccept_kept)

theorem execPsbf_kept {ip : State} (lane : Nat) (s : State) (hk : Kept ip s) :
    NextKept ip (execPsbf lane s) := by
  unfold execPsbf
  repeat' first
    | with_reducible assumption | with_reducible apply finish_kept | with_reducible apply psbfNow_kept | intro _
    | (extract_lets +onlyGivenNames xk; first | (refine kept_cut (p := ip) xk ?_ ?_ <;> first | (intro hxk; clear_value xk) | subst xk) | subst xk)
    | with_reducible refine kept_ite ?_ ?_ | split
    | (refine kept_of ?_; dsimp only; with_reducible refine kept_to ?_; first | with_reducible assumption | with_reducible apply psbfNow_kept)

theorem execKstorm_kept {ip : State} (lane : Nat) (on : Bool) (s : State) (hk : Kept ip s) :
    NextKept ip (execKstorm lane on s) := by
  unfold execKstorm
  repeat' first
    | with_reducible assumption | with_reducible apply finish_kept | with_reducible apply kstormNow_kept | intro _
    | (extract_lets +onlyGivenNames xk; first | (refine kept_cut (p := ip) xk ?_ ?_ <;> first | (intro hxk; clear_value xk) | subst xk) | subst xk)
    | with_reducible refine kept_ite ?_ ?_ | split
    | (refine kept_of ?_; dsimp only; with_reducible refine kept_to ?_; first | with_reducible assumption | with_reducible apply kstormNow_kept)

theorem execApsSwitch_kept {ip : State} (ring : Bool) (g : Nat) (st : Nat) (s : State) (hk : Kept ip s) :
    NextKept ip (execApsSwitch ring g st s) := by
  unfold execApsSwitch
  repeat' first
    | with_reducible assumption | with_reducible apply finish_kept | with_reducible apply apsMove_kept | intro _
    | (extract_lets +onlyGivenNames xk; first | (refine kept_cut (p := ip) xk ?_ ?_ <;> first | (intro hxk; clear_value xk) | subst xk) | subst xk)
    | with_reducible refine kept_ite ?_ ?_ | split
    | (refine kept_of ?_; dsimp only; with_reducible refine kept_to ?_; first | with_reducible assumption | with_reducible apply apsMove_kept)

theorem execFop_kept {ip : State} (ring : Bool) (g : Nat) (on : Bool) (s : State) (hk : Kept ip s) :
    NextKept ip (execFop ring g on s) := by
  unfold execFop
  repeat' first
    | with_reducible assumption | with_reducible apply finish_kept | with_reducible apply fopNow_kept | intro _
    | (extract_lets +onlyGivenNames xk; first | (refine kept_cut (p := ip) xk ?_ ?_ <;> first | (intro hxk; clear_value xk) | subst xk) | subst xk)
    | with_reducible refine kept_ite ?_ ?_ | split
    | (refine kept_of ?_; dsimp only; with_reducible refine kept_to ?_; first | with_reducible assumption | with_reducible apply fopNow_kept)

theorem execLaneConfigConfigure_kept {ip : State} (c : CmdEntry) (s : State) (hk : Kept ip s) :
    NextKept ip (execLaneConfigConfigure c s) := by
  unfold execLaneConfigConfigure
  repeat' first
    | with_reducible assumption | with_reducible apply finish_kept | with_reducible apply runCmd_kept
    | with_reducible apply configureBody_kept | exact no_hold rfl | intro _
    | (extract_lets +onlyGivenNames xk; first | (refine kept_cut (p := ip) xk ?_ ?_ <;> first | (intro hxk; clear_value xk) | subst xk) | subst xk)
    | with_reducible refine kept_ite ?_ ?_ | split
    | (refine kept_of ?_; dsimp only; with_reducible refine kept_to ?_; first | with_reducible assumption | with_reducible apply runCmd_kept | with_reducible apply configureBody_kept)

theorem execVblSend_kept {ip : State} (c : CmdEntry) (s : State) (hk : Kept ip s) :
    NextKept ip (execVblSend c s) := by
  unfold execVblSend
  repeat' first
    | with_reducible assumption | with_reducible apply finish_kept | with_reducible apply runCmd_kept
    | with_reducible apply vblSendBody_kept | exact no_hold rfl | intro _
    | (extract_lets +onlyGivenNames xk; first | (refine kept_cut (p := ip) xk ?_ ?_ <;> first | (intro hxk; clear_value xk) | subst xk) | subst xk)
    | with_reducible refine kept_ite ?_ ?_ | split
    | (refine kept_of ?_; dsimp only; with_reducible refine kept_to ?_; first | with_reducible assumption | with_reducible apply runCmd_kept | with_reducible apply vblSendBody_kept)

theorem execVblRxBuffer_kept {ip : State} (c : CmdEntry) (s : State) (hk : Kept ip s) :
    NextKept ip (execVblRxBuffer c s) := by
  unfold execVblRxBuffer
  repeat' first
    | with_reducible assumption | with_reducible apply finish_kept | with_reducible apply completeOk_kept
    | with_reducible apply refuse_kept | with_reducible apply bufferEnd_kept | with_reducible apply runCmd_kept
    | exact no_hold rfl | intro _
    | (extract_lets +onlyGivenNames xk; first | (refine kept_cut (p := ip) xk ?_ ?_ <;> first | (intro hxk; clear_value xk) | subst xk) | subst xk)
    | with_reducible refine kept_ite ?_ ?_ | split
    | (refine kept_of ?_; dsimp only; with_reducible refine kept_to ?_; first | with_reducible assumption | with_reducible apply completeOk_kept | with_reducible apply refuse_kept | with_reducible apply bufferEnd_kept | with_reducible apply runCmd_kept)

theorem execPortConfigBind_kept {ip : State} (c : CmdEntry) (s : State) (hk : Kept ip s) :
    NextKept ip (execPortConfigBind c s) := by
  unfold execPortConfigBind
  repeat' first
    | with_reducible assumption | with_reducible apply finish_kept | with_reducible apply refuse_kept
    | with_reducible apply runCmd_kept | with_reducible apply atOnceOrBoundary_kept | exact no_hold rfl | intro _
    | (extract_lets +onlyGivenNames xk; first | (refine kept_cut (p := ip) xk ?_ ?_ <;> first | (intro hxk; clear_value xk) | subst xk) | subst xk)
    | with_reducible refine kept_ite ?_ ?_ | split
    | (refine kept_of ?_; dsimp only; with_reducible refine kept_to ?_; first | with_reducible assumption | with_reducible apply refuse_kept | with_reducible apply runCmd_kept | with_reducible apply atOnceOrBoundary_kept)

theorem execPortConfigMonitor_kept {ip : State} (c : CmdEntry) (s : State) (hk : Kept ip s) :
    NextKept ip (execPortConfigMonitor c s) := by
  unfold execPortConfigMonitor
  repeat' first
    | with_reducible assumption | with_reducible apply finish_kept | with_reducible apply refuse_kept
    | with_reducible apply runCmd_kept | with_reducible apply atOnceOrBoundary_kept | exact no_hold rfl | intro _
    | (extract_lets +onlyGivenNames xk; first | (refine kept_cut (p := ip) xk ?_ ?_ <;> first | (intro hxk; clear_value xk) | subst xk) | subst xk)
    | with_reducible refine kept_ite ?_ ?_ | split
    | (refine kept_of ?_; dsimp only; with_reducible refine kept_to ?_; first | with_reducible assumption | with_reducible apply refuse_kept | with_reducible apply runCmd_kept | with_reducible apply atOnceOrBoundary_kept)

theorem execPortConfigUnbind_kept {ip : State} (c : CmdEntry) (s : State) (hk : Kept ip s) :
    NextKept ip (execPortConfigUnbind c s) := by
  unfold execPortConfigUnbind
  repeat' first
    | with_reducible assumption | with_reducible apply finish_kept | with_reducible apply refuse_kept
    | with_reducible apply runCmd_kept | with_reducible apply atOnceOrBoundary_kept | exact no_hold rfl | intro _
    | (extract_lets +onlyGivenNames xk; first | (refine kept_cut (p := ip) xk ?_ ?_ <;> first | (intro hxk; clear_value xk) | subst xk) | subst xk)
    | with_reducible refine kept_ite ?_ ?_ | split
    | (refine kept_of ?_; dsimp only; with_reducible refine kept_to ?_; first | with_reducible assumption | with_reducible apply refuse_kept | with_reducible apply runCmd_kept | with_reducible apply atOnceOrBoundary_kept)

theorem execPortConfigTrace_kept {ip : State} (c : CmdEntry) (s : State) (hk : Kept ip s) :
    NextKept ip (execPortConfigTrace c s) := by
  unfold execPortConfigTrace
  repeat' first
    | with_reducible assumption | with_reducible apply finish_kept | with_reducible apply runCmd_kept
    | with_reducible apply atOnceOrBoundary_kept | exact no_hold rfl | intro _
    | (extract_lets +onlyGivenNames xk; first | (refine kept_cut (p := ip) xk ?_ ?_ <;> first | (intro hxk; clear_value xk) | subst xk) | subst xk)
    | with_reducible refine kept_ite ?_ ?_ | split
    | (refine kept_of ?_; dsimp only; with_reducible refine kept_to ?_; first | with_reducible assumption | with_reducible apply runCmd_kept | with_reducible apply atOnceOrBoundary_kept)

theorem execProtConfigLinearGroup_kept {ip : State} (c : CmdEntry) (s : State) (hk : Kept ip s) :
    NextKept ip (execProtConfigLinearGroup c s) := by
  unfold execProtConfigLinearGroup
  repeat' first
    | with_reducible assumption | with_reducible apply finish_kept | with_reducible apply refuse_kept
    | with_reducible apply runCmd_kept | with_reducible apply atBoundary_kept | exact no_hold rfl | intro _
    | (extract_lets +onlyGivenNames xk; first | (refine kept_cut (p := ip) xk ?_ ?_ <;> first | (intro hxk; clear_value xk) | subst xk) | subst xk)
    | with_reducible refine kept_ite ?_ ?_ | split
    | (refine kept_of ?_; dsimp only; with_reducible refine kept_to ?_; first | with_reducible assumption | with_reducible apply refuse_kept | with_reducible apply runCmd_kept | with_reducible apply atBoundary_kept)

theorem execProtConfigRing_kept {ip : State} (c : CmdEntry) (s : State) (hk : Kept ip s) :
    NextKept ip (execProtConfigRing c s) := by
  unfold execProtConfigRing
  repeat' first
    | with_reducible assumption | with_reducible apply finish_kept | with_reducible apply refuse_kept
    | with_reducible apply withRead_kept | with_reducible apply runCmd_kept | with_reducible apply atBoundary_kept
    | exact no_hold rfl | intro _
    | (extract_lets +onlyGivenNames xk; first | (refine kept_cut (p := ip) xk ?_ ?_ <;> first | (intro hxk; clear_value xk) | subst xk) | subst xk)
    | with_reducible refine kept_ite ?_ ?_ | split
    | (refine kept_of ?_; dsimp only; with_reducible refine kept_to ?_; first | with_reducible assumption | with_reducible apply refuse_kept | with_reducible apply withRead_kept | with_reducible apply runCmd_kept | with_reducible apply atBoundary_kept)

theorem execProtConfigRemap_kept {ip : State} (c : CmdEntry) (s : State) (hk : Kept ip s) :
    NextKept ip (execProtConfigRemap c s) := by
  unfold execProtConfigRemap
  repeat' first
    | with_reducible assumption | with_reducible apply finish_kept | with_reducible apply refuse_kept
    | with_reducible apply withRead_kept | with_reducible apply runCmd_kept | with_reducible apply atBoundary_kept
    | exact no_hold rfl | intro _
    | (extract_lets +onlyGivenNames xk; first | (refine kept_cut (p := ip) xk ?_ ?_ <;> first | (intro hxk; clear_value xk) | subst xk) | subst xk)
    | with_reducible refine kept_ite ?_ ?_ | split
    | (refine kept_of ?_; dsimp only; with_reducible refine kept_to ?_; first | with_reducible assumption | with_reducible apply refuse_kept | with_reducible apply withRead_kept | with_reducible apply runCmd_kept | with_reducible apply atBoundary_kept)

theorem execProtConfigVblDistrust_kept {ip : State} (c : CmdEntry) (s : State) (hk : Kept ip s) :
    NextKept ip (execProtConfigVblDistrust c s) := by
  unfold execProtConfigVblDistrust
  repeat' first
    | with_reducible assumption | with_reducible apply finish_kept | with_reducible apply runCmd_kept
    | with_reducible apply atBoundary_kept | exact no_hold rfl | intro _
    | (extract_lets +onlyGivenNames xk; first | (refine kept_cut (p := ip) xk ?_ ?_ <;> first | (intro hxk; clear_value xk) | subst xk) | subst xk)
    | with_reducible refine kept_ite ?_ ?_ | split
    | (refine kept_of ?_; dsimp only; with_reducible refine kept_to ?_; first | with_reducible assumption | with_reducible apply runCmd_kept | with_reducible apply atBoundary_kept)

theorem execProtConfigDelete_kept {ip : State} (c : CmdEntry) (s : State) (hk : Kept ip s) :
    NextKept ip (execProtConfigDelete c s) := by
  unfold execProtConfigDelete
  repeat' first
    | with_reducible assumption | with_reducible apply finish_kept | with_reducible apply completeOk_kept
    | with_reducible apply runCmd_kept | with_reducible apply atBoundary_kept | exact no_hold rfl | intro _
    | (extract_lets +onlyGivenNames xk; first | (refine kept_cut (p := ip) xk ?_ ?_ <;> first | (intro hxk; clear_value xk) | subst xk) | subst xk)
    | with_reducible refine kept_ite ?_ ?_ | split
    | (refine kept_of ?_; dsimp only; with_reducible refine kept_to ?_; first | with_reducible assumption | with_reducible apply completeOk_kept | with_reducible apply runCmd_kept | with_reducible apply atBoundary_kept)

theorem execProtCommand_kept {ip : State} (c : CmdEntry) (s : State) (hk : Kept ip s) :
    NextKept ip (execProtCommand c s) := by
  unfold execProtCommand
  repeat' first
    | with_reducible assumption | with_reducible apply finish_kept | with_reducible apply refuse_kept
    | with_reducible apply runCmd_kept | with_reducible apply mirrorConfig_kept | with_reducible apply schedule_kept
    | exact no_hold rfl | intro _
    | (extract_lets +onlyGivenNames xk; first | (refine kept_cut (p := ip) xk ?_ ?_ <;> first | (intro hxk; clear_value xk) | subst xk) | subst xk)
    | with_reducible refine kept_ite ?_ ?_ | split
    | (refine kept_of ?_; dsimp only; with_reducible refine kept_to ?_; first | with_reducible assumption | with_reducible apply refuse_kept | with_reducible apply runCmd_kept | with_reducible apply mirrorConfig_kept | with_reducible apply schedule_kept)

theorem execSncpProfile_kept {ip : State} (c : CmdEntry) (s : State) (hk : Kept ip s) :
    NextKept ip (execSncpProfile c s) := by
  unfold execSncpProfile
  repeat' first
    | with_reducible assumption | with_reducible apply finish_kept | with_reducible apply runCmd_kept
    | with_reducible apply atBoundary_kept | exact no_hold rfl | intro _
    | (extract_lets +onlyGivenNames xk; first | (refine kept_cut (p := ip) xk ?_ ?_ <;> first | (intro hxk; clear_value xk) | subst xk) | subst xk)
    | with_reducible refine kept_ite ?_ ?_ | split
    | (refine kept_of ?_; dsimp only; with_reducible refine kept_to ?_; first | with_reducible assumption | with_reducible apply runCmd_kept | with_reducible apply atBoundary_kept)

theorem execSncpProfileRead_kept {ip : State} (c : CmdEntry) (s : State) (hk : Kept ip s) :
    NextKept ip (execSncpProfileRead c s) := by
  unfold execSncpProfileRead
  repeat' first
    | with_reducible assumption | with_reducible apply finish_kept | with_reducible apply complete_kept
    | with_reducible apply runCmd_kept | exact no_hold rfl | intro _
    | (extract_lets +onlyGivenNames xk; first | (refine kept_cut (p := ip) xk ?_ ?_ <;> first | (intro hxk; clear_value xk) | subst xk) | subst xk)
    | with_reducible refine kept_ite ?_ ?_ | split
    | (refine kept_of ?_; dsimp only; with_reducible refine kept_to ?_; first | with_reducible assumption | with_reducible apply complete_kept | with_reducible apply runCmd_kept)

theorem execPmConfigExport_kept {ip : State} (c : CmdEntry) (s : State) (hk : Kept ip s) :
    NextKept ip (execPmConfigExport c s) := by
  unfold execPmConfigExport
  repeat' first
    | with_reducible assumption | with_reducible apply finish_kept | with_reducible apply completeOk_kept
    | with_reducible apply configRecord_kept | with_reducible apply runCmd_kept | exact no_hold rfl | intro _
    | (extract_lets +onlyGivenNames xk; first | (refine kept_cut (p := ip) xk ?_ ?_ <;> first | (intro hxk; clear_value xk) | subst xk) | subst xk)
    | with_reducible refine kept_ite ?_ ?_ | split
    | (refine kept_of ?_; dsimp only; with_reducible refine kept_to ?_; first | with_reducible assumption | with_reducible apply completeOk_kept | with_reducible apply configRecord_kept | with_reducible apply runCmd_kept)

theorem execPmConfigPostBuffer_kept {ip : State} (c : CmdEntry) (s : State) (hk : Kept ip s) :
    NextKept ip (execPmConfigPostBuffer c s) := by
  unfold execPmConfigPostBuffer
  repeat' first
    | with_reducible assumption | with_reducible apply finish_kept | with_reducible apply completeOk_kept
    | with_reducible apply refuse_kept | with_reducible apply bufferEnd_kept | with_reducible apply runCmd_kept
    | with_reducible refine kept_foldl _ _ (fun _ _ _ => ?_) ?_ | exact no_hold rfl | intro _
    | (extract_lets +onlyGivenNames xk; first | (refine kept_cut (p := ip) xk ?_ ?_ <;> first | (intro hxk; clear_value xk) | subst xk) | subst xk)
    | with_reducible refine kept_ite ?_ ?_ | split
    | (refine kept_of ?_; dsimp only; with_reducible refine kept_to ?_; first | with_reducible assumption | with_reducible apply completeOk_kept | with_reducible apply refuse_kept | with_reducible apply bufferEnd_kept | with_reducible apply runCmd_kept)

theorem execPmConfigExpectedTrace_kept {ip : State} (c : CmdEntry) (s : State) (hk : Kept ip s) :
    NextKept ip (execPmConfigExpectedTrace c s) := by
  unfold execPmConfigExpectedTrace
  repeat' first
    | with_reducible assumption | with_reducible apply finish_kept | with_reducible apply completeOk_kept
    | with_reducible apply configRecord_kept | with_reducible apply withRead_kept | with_reducible apply runCmd_kept
    | with_reducible apply evalTim_kept | exact no_hold rfl | intro _
    | (extract_lets +onlyGivenNames xk; first | (refine kept_cut (p := ip) xk ?_ ?_ <;> first | (intro hxk; clear_value xk) | subst xk) | subst xk)
    | with_reducible refine kept_ite ?_ ?_ | split
    | (refine kept_of ?_; dsimp only; with_reducible refine kept_to ?_; first | with_reducible assumption | with_reducible apply completeOk_kept | with_reducible apply configRecord_kept | with_reducible apply withRead_kept | with_reducible apply runCmd_kept | with_reducible apply evalTim_kept)

theorem execPmConfigWithdraw_kept {ip : State} (c : CmdEntry) (s : State) (hk : Kept ip s) :
    NextKept ip (execPmConfigWithdraw c s) := by
  unfold execPmConfigWithdraw
  repeat' first
    | with_reducible assumption | with_reducible apply finish_kept | with_reducible apply completeOk_kept
    | with_reducible apply runCmd_kept | with_reducible apply announceBuf_kept
    | with_reducible refine kept_foldl _ _ (fun _ _ _ => ?_) ?_ | exact no_hold rfl | intro _
    | (extract_lets +onlyGivenNames xk; first | (refine kept_cut (p := ip) xk ?_ ?_ <;> first | (intro hxk; clear_value xk) | subst xk) | subst xk)
    | with_reducible refine kept_ite ?_ ?_ | split
    | (refine kept_of ?_; dsimp only; with_reducible refine kept_to ?_; first | with_reducible assumption | with_reducible apply completeOk_kept | with_reducible apply runCmd_kept | with_reducible apply announceBuf_kept)

theorem execPmRead_kept {ip : State} (c : CmdEntry) (s : State) (hk : Kept ip s) :
    NextKept ip (execPmRead c s) := by
  unfold execPmRead
  repeat' first
    | with_reducible assumption | with_reducible apply finish_kept | with_reducible apply completeOk_kept
    | with_reducible apply withWrite_kept | with_reducible apply runCmd_kept | exact no_hold rfl | intro _
    | (extract_lets +onlyGivenNames xk; first | (refine kept_cut (p := ip) xk ?_ ?_ <;> first | (intro hxk; clear_value xk) | subst xk) | subst xk)
    | with_reducible refine kept_ite ?_ ?_ | split
    | (refine kept_of ?_; dsimp only; with_reducible refine kept_to ?_; first | with_reducible assumption | with_reducible apply completeOk_kept | with_reducible apply withWrite_kept | with_reducible apply runCmd_kept)

theorem execTapConfig_kept {ip : State} (c : CmdEntry) (s : State) (hk : Kept ip s) :
    NextKept ip (execTapConfig c s) := by
  unfold execTapConfig
  repeat' first
    | with_reducible assumption | with_reducible apply finish_kept | with_reducible apply completeOk_kept
    | with_reducible apply refuse_kept | with_reducible apply runCmd_kept | with_reducible apply newTap_kept
    | exact no_hold rfl | intro _
    | (extract_lets +onlyGivenNames xk; first | (refine kept_cut (p := ip) xk ?_ ?_ <;> first | (intro hxk; clear_value xk) | subst xk) | subst xk)
    | with_reducible refine kept_ite ?_ ?_ | split
    | (refine kept_of ?_; dsimp only; with_reducible refine kept_to ?_; first | with_reducible assumption | with_reducible apply completeOk_kept | with_reducible apply refuse_kept | with_reducible apply runCmd_kept | with_reducible apply newTap_kept)

theorem execPrbsConfig_kept {ip : State} (c : CmdEntry) (s : State) (hk : Kept ip s) :
    NextKept ip (execPrbsConfig c s) := by
  unfold execPrbsConfig
  repeat' first
    | with_reducible assumption | with_reducible apply finish_kept | with_reducible apply complete_kept
    | with_reducible apply refuse_kept | with_reducible apply runCmd_kept | with_reducible apply applyEffect_kept
    | with_reducible apply schedule_kept | with_reducible apply mirrorPrbs_kept | exact no_hold rfl | intro _
    | (extract_lets +onlyGivenNames xk; first | (refine kept_cut (p := ip) xk ?_ ?_ <;> first | (intro hxk; clear_value xk) | subst xk) | subst xk)
    | with_reducible refine kept_ite ?_ ?_ | split
    | (refine kept_of ?_; dsimp only; with_reducible refine kept_to ?_; first | with_reducible assumption | with_reducible apply complete_kept | with_reducible apply refuse_kept | with_reducible apply runCmd_kept | with_reducible apply applyEffect_kept | with_reducible apply schedule_kept | with_reducible apply mirrorPrbs_kept)

theorem execAuditRead_kept {ip : State} (c : CmdEntry) (s : State) (hk : Kept ip s) :
    NextKept ip (execAuditRead c s) := by
  unfold execAuditRead
  repeat' first
    | with_reducible assumption | with_reducible apply finish_kept | with_reducible apply completeOk_kept
    | with_reducible apply refuse_kept | with_reducible apply withWrite_kept | with_reducible apply runCmd_kept
    | with_reducible apply auditSeen_kept | exact no_hold rfl | intro _
    | (extract_lets +onlyGivenNames xk; first | (refine kept_cut (p := ip) xk ?_ ?_ <;> first | (intro hxk; clear_value xk) | subst xk) | subst xk)
    | with_reducible refine kept_ite ?_ ?_ | split
    | (refine kept_of ?_; dsimp only; with_reducible refine kept_to ?_; first | with_reducible assumption | with_reducible apply completeOk_kept | with_reducible apply refuse_kept | with_reducible apply withWrite_kept | with_reducible apply runCmd_kept | with_reducible apply auditSeen_kept)

theorem execTwinConfig_kept {ip : State} (c : CmdEntry) (s : State) (hk : Kept ip s) :
    NextKept ip (execTwinConfig c s) := by
  unfold execTwinConfig
  repeat' first
    | with_reducible assumption | with_reducible apply finish_kept | with_reducible apply completeOk_kept
    | with_reducible apply refuse_kept | with_reducible apply configRecord_kept | with_reducible apply runCmd_kept
    | with_reducible apply membership_kept | exact no_hold rfl | intro _
    | (extract_lets +onlyGivenNames xk; first | (refine kept_cut (p := ip) xk ?_ ?_ <;> first | (intro hxk; clear_value xk) | subst xk) | subst xk)
    | with_reducible refine kept_ite ?_ ?_ | split
    | (refine kept_of ?_; dsimp only; with_reducible refine kept_to ?_; first | with_reducible assumption | with_reducible apply completeOk_kept | with_reducible apply refuse_kept | with_reducible apply configRecord_kept | with_reducible apply runCmd_kept | with_reducible apply membership_kept)

theorem execGroupConfig_kept {ip : State} (c : CmdEntry) (s : State) (hk : Kept ip s) :
    NextKept ip (execGroupConfig c s) := by
  unfold execGroupConfig
  repeat' first
    | with_reducible assumption | with_reducible apply finish_kept | with_reducible apply completeOk_kept
    | with_reducible apply refuse_kept | with_reducible apply configRecord_kept | with_reducible apply runCmd_kept
    | with_reducible apply membership_kept | exact no_hold rfl | intro _
    | (extract_lets +onlyGivenNames xk; first | (refine kept_cut (p := ip) xk ?_ ?_ <;> first | (intro hxk; clear_value xk) | subst xk) | subst xk)
    | with_reducible refine kept_ite ?_ ?_ | split
    | (refine kept_of ?_; dsimp only; with_reducible refine kept_to ?_; first | with_reducible assumption | with_reducible apply completeOk_kept | with_reducible apply refuse_kept | with_reducible apply configRecord_kept | with_reducible apply runCmd_kept | with_reducible apply membership_kept)

theorem execGatehouseKey_kept {ip : State} (c : CmdEntry) (s : State) (hk : Kept ip s) :
    NextKept ip (execGatehouseKey c s) := by
  unfold execGatehouseKey
  repeat' first
    | with_reducible assumption | with_reducible apply finish_kept | with_reducible apply completeOk_kept
    | with_reducible apply runCmd_kept | with_reducible apply putGh_kept | exact no_hold rfl | intro _
    | (extract_lets +onlyGivenNames xk; first | (refine kept_cut (p := ip) xk ?_ ?_ <;> first | (intro hxk; clear_value xk) | subst xk) | subst xk)
    | with_reducible refine kept_ite ?_ ?_ | split
    | (refine kept_of ?_; dsimp only; with_reducible refine kept_to ?_; first | with_reducible assumption | with_reducible apply completeOk_kept | with_reducible apply runCmd_kept | with_reducible apply putGh_kept)

theorem execMlFrameVerify_kept {ip : State} (x : MlAgain) (s : State) (hk : Kept ip s) :
    NextKept ip (execMlFrameVerify x s) := by
  unfold execMlFrameVerify
  repeat' first
    | with_reducible assumption | with_reducible apply finish_kept | with_reducible apply putMl_kept | intro _
    | (extract_lets +onlyGivenNames xk; first | (refine kept_cut (p := ip) xk ?_ ?_ <;> first | (intro hxk; clear_value xk) | subst xk) | subst xk)
    | with_reducible refine kept_ite ?_ ?_ | split
    | (refine kept_of ?_; dsimp only; with_reducible refine kept_to ?_; first | with_reducible assumption | with_reducible apply putMl_kept)

theorem execMlOof_kept {ip : State} (x : MlBlocks) (s : State) (hk : Kept ip s) :
    NextKept ip (execMlOof x s) := by
  unfold execMlOof
  repeat' first
    | with_reducible assumption | with_reducible apply finish_kept | with_reducible apply putMl_kept | intro _
    | (extract_lets +onlyGivenNames xk; first | (refine kept_cut (p := ip) xk ?_ ?_ <;> first | (intro hxk; clear_value xk) | subst xk) | subst xk)
    | with_reducible refine kept_ite ?_ ?_ | split
    | (refine kept_of ?_; dsimp only; with_reducible refine kept_to ?_; first | with_reducible assumption | with_reducible apply putMl_kept)

theorem execMlLof_kept {ip : State} (lane : Bool) (s : State) (hk : Kept ip s) :
    NextKept ip (execMlLof lane s) := by
  unfold execMlLof
  repeat' first
    | with_reducible assumption | with_reducible apply finish_kept | with_reducible apply putMl_kept
    | with_reducible apply linkLost_kept | intro _
    | (extract_lets +onlyGivenNames xk; first | (refine kept_cut (p := ip) xk ?_ ?_ <;> first | (intro hxk; clear_value xk) | subst xk) | subst xk)
    | with_reducible refine kept_ite ?_ ?_ | split
    | (refine kept_of ?_; dsimp only; with_reducible refine kept_to ?_; first | with_reducible assumption | with_reducible apply putMl_kept | with_reducible apply linkLost_kept)

theorem execMateLinkUp_kept {ip : State} (s : State) (hk : Kept ip s) :
    NextKept ip (execMateLinkUp s) := by
  unfold execMateLinkUp
  repeat' first
    | with_reducible assumption | with_reducible apply finish_kept | with_reducible apply twinNote_kept
    | with_reducible apply compareHeld_kept | with_reducible apply resumeRole_kept | intro _
    | (extract_lets +onlyGivenNames xk; first | (refine kept_cut (p := ip) xk ?_ ?_ <;> first | (intro hxk; clear_value xk) | subst xk) | subst xk)
    | with_reducible refine kept_ite ?_ ?_ | split
    | (refine kept_of ?_; dsimp only; with_reducible refine kept_to ?_; first | with_reducible assumption | with_reducible apply twinNote_kept | with_reducible apply compareHeld_kept | with_reducible apply resumeRole_kept)

theorem execMateLinkDown_kept {ip : State} (lane : Bool) (why : Nat) (s : State) (hk : Kept ip s) :
    NextKept ip (execMateLinkDown lane why s) := by
  unfold execMateLinkDown
  repeat' first
    | with_reducible assumption | with_reducible apply finish_kept | with_reducible apply putMl_kept
    | with_reducible apply linkLost_kept | intro _
    | (extract_lets +onlyGivenNames xk; first | (refine kept_cut (p := ip) xk ?_ ?_ <;> first | (intro hxk; clear_value xk) | subst xk) | subst xk)
    | with_reducible refine kept_ite ?_ ?_ | split
    | (refine kept_of ?_; dsimp only; with_reducible refine kept_to ?_; first | with_reducible assumption | with_reducible apply putMl_kept | with_reducible apply linkLost_kept)

theorem execMateHeaderRx_kept {ip : State} (lane : Bool) (m : Bytes) (s : State) (hk : Kept ip s) :
    NextKept ip (execMateHeaderRx lane m s) := by
  unfold execMateHeaderRx
  repeat' first
    | with_reducible assumption | with_reducible apply finish_kept | with_reducible apply mateHeader_rx_kept | intro _
    | (extract_lets +onlyGivenNames xk; first | (refine kept_cut (p := ip) xk ?_ ?_ <;> first | (intro hxk; clear_value xk) | subst xk) | subst xk)
    | with_reducible refine kept_ite ?_ ?_ | split
    | (refine kept_of ?_; dsimp only; with_reducible refine kept_to ?_; first | with_reducible assumption | with_reducible apply mateHeader_rx_kept)

theorem execMateJournalRx_kept {ip : State} (seq : Nat) (r : JRecord) (s : State) (hk : Kept ip s) :
    NextKept ip (execMateJournalRx seq r s) := by
  unfold execMateJournalRx
  repeat' first
    | with_reducible assumption | with_reducible apply finish_kept | with_reducible apply channelRx_kept
    | with_reducible apply takeRecord_kept | intro _
    | (extract_lets +onlyGivenNames xk; first | (refine kept_cut (p := ip) xk ?_ ?_ <;> first | (intro hxk; clear_value xk) | subst xk) | subst xk)
    | with_reducible refine kept_ite ?_ ?_ | split
    | (refine kept_of ?_; dsimp only; with_reducible refine kept_to ?_; first | with_reducible assumption | with_reducible apply channelRx_kept | with_reducible apply takeRecord_kept)

theorem execMateStagedRx_kept {ip : State} (seq : Nat) (ws : List StagedWrite) (s : State) (hk : Kept ip s) :
    NextKept ip (execMateStagedRx seq ws s) := by
  unfold execMateStagedRx
  repeat' first
    | with_reducible assumption | with_reducible apply finish_kept | with_reducible apply channelRx_kept
    | with_reducible apply takeStaged_kept | intro _
    | (extract_lets +onlyGivenNames xk; first | (refine kept_cut (p := ip) xk ?_ ?_ <;> first | (intro hxk; clear_value xk) | subst xk) | subst xk)
    | with_reducible refine kept_ite ?_ ?_ | split
    | (refine kept_of ?_; dsimp only; with_reducible refine kept_to ?_; first | with_reducible assumption | with_reducible apply channelRx_kept | with_reducible apply takeStaged_kept)

theorem execMateBulkRx_kept {ip : State} (last : Bool) (tag : Nat) (img : Snapshot) (s : State) (hk : Kept ip s) :
    NextKept ip (execMateBulkRx last tag img s) := by
  unfold execMateBulkRx
  repeat' first
    | with_reducible assumption | with_reducible apply finish_kept | with_reducible apply bump_kept
    | with_reducible apply imageComplete_kept | intro _
    | (extract_lets +onlyGivenNames xk; first | (refine kept_cut (p := ip) xk ?_ ?_ <;> first | (intro hxk; clear_value xk) | subst xk) | subst xk)
    | with_reducible refine kept_ite ?_ ?_ | split
    | (refine kept_of ?_; dsimp only; with_reducible refine kept_to ?_; first | with_reducible assumption | with_reducible apply bump_kept | with_reducible apply imageComplete_kept)

theorem execMateCommandRx_kept {ip : State} (fn : FN) (e : Effect) (s : State) (hk : Kept ip s) :
    NextKept ip (execMateCommandRx fn e s) := by
  unfold execMateCommandRx
  repeat' first
    | with_reducible assumption | with_reducible apply finish_kept | with_reducible apply bump_kept
    | with_reducible apply schedule_kept | intro _
    | (extract_lets +onlyGivenNames xk; first | (refine kept_cut (p := ip) xk ?_ ?_ <;> first | (intro hxk; clear_value xk) | subst xk) | subst xk)
    | with_reducible refine kept_ite ?_ ?_ | split
    | (refine kept_of ?_; dsimp only; with_reducible refine kept_to ?_; first | with_reducible assumption | with_reducible apply bump_kept | with_reducible apply schedule_kept)

theorem execRetransmit_kept {ip : State} (chan : Nat) (first : Nat) (count : Nat) (s : State) (hk : Kept ip s) :
    NextKept ip (execRetransmit chan first count s) := by
  unfold execRetransmit
  repeat' first
    | with_reducible assumption | with_reducible apply finish_kept | with_reducible apply resend_kept | intro _
    | (extract_lets +onlyGivenNames xk; first | (refine kept_cut (p := ip) xk ?_ ?_ <;> first | (intro hxk; clear_value xk) | subst xk) | subst xk)
    | with_reducible refine kept_ite ?_ ?_ | split
    | (refine kept_of ?_; dsimp only; with_reducible refine kept_to ?_; first | with_reducible assumption | with_reducible apply resend_kept)

theorem execMirrorGapTimeout_kept {ip : State} (chan : Nat) (s : State) (hk : Kept ip s) :
    NextKept ip (execMirrorGapTimeout chan s) := by
  unfold execMirrorGapTimeout
  repeat' first
    | with_reducible assumption | with_reducible apply finish_kept | with_reducible apply gapTimeout_kept | intro _
    | (extract_lets +onlyGivenNames xk; first | (refine kept_cut (p := ip) xk ?_ ?_ <;> first | (intro hxk; clear_value xk) | subst xk) | subst xk)
    | with_reducible refine kept_ite ?_ ?_ | split
    | (refine kept_of ?_; dsimp only; with_reducible refine kept_to ?_; first | with_reducible assumption | with_reducible apply gapTimeout_kept)

theorem execResyncInstall_kept {ip : State} (s : State) (hk : Kept ip s) :
    NextKept ip (execResyncInstall s) := by
  unfold execResyncInstall
  repeat' first
    | with_reducible assumption | with_reducible apply finish_kept | with_reducible apply resyncInstall_kept | intro _
    | (extract_lets +onlyGivenNames xk; first | (refine kept_cut (p := ip) xk ?_ ?_ <;> first | (intro hxk; clear_value xk) | subst xk) | subst xk)
    | with_reducible refine kept_ite ?_ ?_ | split
    | (refine kept_of ?_; dsimp only; with_reducible refine kept_to ?_; first | with_reducible assumption | with_reducible apply resyncInstall_kept)

theorem execTimingAlignmentChange_kept {ip : State} (err : Int) (s : State) (hk : Kept ip s) :
    NextKept ip (execTimingAlignmentChange err s) := by
  unfold execTimingAlignmentChange
  repeat' first
    | with_reducible assumption | with_reducible apply finish_kept | with_reducible apply compareHeld_kept
    | with_reducible apply loseAlignment_kept | intro _
    | (extract_lets +onlyGivenNames xk; first | (refine kept_cut (p := ip) xk ?_ ?_ <;> first | (intro hxk; clear_value xk) | subst xk) | subst xk)
    | with_reducible refine kept_ite ?_ ?_ | split
    | (refine kept_of ?_; dsimp only; with_reducible refine kept_to ?_; first | with_reducible assumption | with_reducible apply compareHeld_kept | with_reducible apply loseAlignment_kept)

theorem execMateAlignStep_kept {ip : State} (s : State) (hk : Kept ip s) :
    NextKept ip (execMateAlignStep s) := by
  unfold execMateAlignStep
  repeat' first
    | with_reducible assumption | with_reducible apply finish_kept | with_reducible apply alignStep_kept | intro _
    | (extract_lets +onlyGivenNames xk; first | (refine kept_cut (p := ip) xk ?_ ?_ <;> first | (intro hxk; clear_value xk) | subst xk) | subst xk)
    | with_reducible refine kept_ite ?_ ?_ | split
    | (refine kept_of ?_; dsimp only; with_reducible refine kept_to ?_; first | with_reducible assumption | with_reducible apply alignStep_kept)

theorem execGrantRx_kept {ip : State} (port : Bool) (m : Bytes) (s : State) (hk : Kept ip s) :
    NextKept ip (execGrantRx port m s) := by
  unfold execGrantRx
  repeat' first
    | with_reducible assumption | with_reducible apply finish_kept | with_reducible apply grantRx_kept | intro _
    | (extract_lets +onlyGivenNames xk; first | (refine kept_cut (p := ip) xk ?_ ?_ <;> first | (intro hxk; clear_value xk) | subst xk) | subst xk)
    | with_reducible refine kept_ite ?_ ?_ | split
    | (refine kept_of ?_; dsimp only; with_reducible refine kept_to ?_; first | with_reducible assumption | with_reducible apply grantRx_kept)

theorem execRelayGrant_kept {ip : State} (port : Bool) (anchor : FN) (m : Bytes) (s : State) (hk : Kept ip s) :
    NextKept ip (execRelayGrant port anchor m s) := by
  unfold execRelayGrant
  repeat' first
    | with_reducible assumption | with_reducible apply finish_kept | with_reducible apply relayRx_kept | intro _
    | (extract_lets +onlyGivenNames xk; first | (refine kept_cut (p := ip) xk ?_ ?_ <;> first | (intro hxk; clear_value xk) | subst xk) | subst xk)
    | with_reducible refine kept_ite ?_ ?_ | split
    | (refine kept_of ?_; dsimp only; with_reducible refine kept_to ?_; first | with_reducible assumption | with_reducible apply relayRx_kept)

theorem execReleased_kept {ip : State} (_epoch : Word32) (_fn : FN) (s : State) (hk : Kept ip s) :
    NextKept ip (execReleased _epoch _fn s) := by
  unfold execReleased
  repeat' first
    | with_reducible assumption | with_reducible apply finish_kept | intro _
    | (extract_lets +onlyGivenNames xk; first | (refine kept_cut (p := ip) xk ?_ ?_ <;> first | (intro hxk; clear_value xk) | subst xk) | subst xk)
    | with_reducible refine kept_ite ?_ ?_ | split
    | (refine kept_of ?_; dsimp only; with_reducible refine kept_to ?_; with_reducible assumption)

theorem execGrantTtlExpiry_kept {ip : State} (port : Bool) (s : State) (hk : Kept ip s) :
    NextKept ip (execGrantTtlExpiry port s) := by
  unfold execGrantTtlExpiry
  repeat' first
    | with_reducible assumption | with_reducible apply finish_kept | with_reducible apply isolate_kept | intro _
    | (extract_lets +onlyGivenNames xk; first | (refine kept_cut (p := ip) xk ?_ ?_ <;> first | (intro hxk; clear_value xk) | subst xk) | subst xk)
    | with_reducible refine kept_ite ?_ ?_ | split
    | (refine kept_of ?_; dsimp only; with_reducible refine kept_to ?_; first | with_reducible assumption | with_reducible apply isolate_kept)

theorem execKeyOverlapExpiry_kept {ip : State} (port : Bool) (s : State) (hk : Kept ip s) :
    NextKept ip (execKeyOverlapExpiry port s) := by
  unfold execKeyOverlapExpiry
  repeat' first
    | with_reducible assumption | with_reducible apply finish_kept | with_reducible apply putGh_kept | intro _
    | (extract_lets +onlyGivenNames xk; first | (refine kept_cut (p := ip) xk ?_ ?_ <;> first | (intro hxk; clear_value xk) | subst xk) | subst xk)
    | with_reducible refine kept_ite ?_ ?_ | split
    | (refine kept_of ?_; dsimp only; with_reducible refine kept_to ?_; first | with_reducible assumption | with_reducible apply putGh_kept)

theorem execGroupRecordRx_kept {ip : State} (slice : Nat) (unit : Bool) (sliceCount : Nat) (m : Bytes) (s : State)
    (hk : Kept ip s) :
    NextKept ip (execGroupRecordRx slice unit sliceCount m s) := by
  unfold execGroupRecordRx
  repeat' first
    | with_reducible assumption | with_reducible apply finish_kept | with_reducible apply recordRx_kept | intro _
    | (extract_lets +onlyGivenNames xk; first | (refine kept_cut (p := ip) xk ?_ ?_ <;> first | (intro hxk; clear_value xk) | subst xk) | subst xk)
    | with_reducible refine kept_ite ?_ ?_ | split
    | (refine kept_of ?_; dsimp only; with_reducible refine kept_to ?_; first | with_reducible assumption | with_reducible apply recordRx_kept)

theorem execGroupRecordLapse_kept {ip : State} (slice : Nat) (unit : Bool) (s : State) (hk : Kept ip s) :
    NextKept ip (execGroupRecordLapse slice unit s) := by
  unfold execGroupRecordLapse
  repeat' first
    | with_reducible assumption | with_reducible apply finish_kept | with_reducible apply recordLapse_kept | intro _
    | (extract_lets +onlyGivenNames xk; first | (refine kept_cut (p := ip) xk ?_ ?_ <;> first | (intro hxk; clear_value xk) | subst xk) | subst xk)
    | with_reducible refine kept_ite ?_ ?_ | split
    | (refine kept_of ?_; dsimp only; with_reducible refine kept_to ?_; first | with_reducible assumption | with_reducible apply recordLapse_kept)

theorem execMateRecordRx_kept {ip : State} (m : Bytes) (s : State) (hk : Kept ip s) :
    NextKept ip (execMateRecordRx m s) := by
  unfold execMateRecordRx
  repeat' first
    | with_reducible assumption | with_reducible apply finish_kept | with_reducible apply mateRecord_kept | intro _
    | (extract_lets +onlyGivenNames xk; first | (refine kept_cut (p := ip) xk ?_ ?_ <;> first | (intro hxk; clear_value xk) | subst xk) | subst xk)
    | with_reducible refine kept_ite ?_ ?_ | split
    | (refine kept_of ?_; dsimp only; with_reducible refine kept_to ?_; first | with_reducible assumption | with_reducible apply mateRecord_kept)

theorem execBellwetherChange_kept {ip : State} (s : State) (hk : Kept ip s) :
    NextKept ip (execBellwetherChange s) := by
  unfold execBellwetherChange
  repeat' first
    | with_reducible assumption | with_reducible apply finish_kept | with_reducible apply bellwetherChange_kept
    | intro _
    | (extract_lets +onlyGivenNames xk; first | (refine kept_cut (p := ip) xk ?_ ?_ <;> first | (intro hxk; clear_value xk) | subst xk) | subst xk)
    | with_reducible refine kept_ite ?_ ?_ | split
    | (refine kept_of ?_; dsimp only; with_reducible refine kept_to ?_; first | with_reducible assumption | with_reducible apply bellwetherChange_kept)

theorem execCatchup_kept {ip : State} (slice : Nat) (unit : Bool) (fromSeq : Nat) (s : State) (hk : Kept ip s) :
    NextKept ip (execCatchup slice unit fromSeq s) := by
  unfold execCatchup
  repeat' first
    | with_reducible assumption | with_reducible apply finish_kept | with_reducible apply sendGroup_kept
    | with_reducible refine kept_foldl _ _ (fun _ _ _ => ?_) ?_ | intro _
    | (extract_lets +onlyGivenNames xk; first | (refine kept_cut (p := ip) xk ?_ ?_ <;> first | (intro hxk; clear_value xk) | subst xk) | subst xk)
    | with_reducible refine kept_ite ?_ ?_ | split
    | (refine kept_of ?_; dsimp only; with_reducible refine kept_to ?_; first | with_reducible assumption | with_reducible apply sendGroup_kept)

theorem execGroupJournalRx_kept {ip : State} (snap : Option Snapshot) (recs : List JRecord) (s : State) (hk : Kept ip
    s) :
    NextKept ip (execGroupJournalRx snap recs s) := by
  unfold execGroupJournalRx
  repeat' first
    | with_reducible assumption | with_reducible apply finish_kept | intro _
    | (extract_lets +onlyGivenNames xk; first | (refine kept_cut (p := ip) xk ?_ ?_ <;> first | (intro hxk; clear_value xk) | subst xk) | subst xk)
    | with_reducible refine kept_ite ?_ ?_ | split
    | (refine kept_of ?_; dsimp only; with_reducible refine kept_to ?_; with_reducible assumption)

theorem execGroupPacketRx_kept {ip : State} (west : Bool) (m : Bytes) (s : State) (hk : Kept ip s) :
    NextKept ip (execGroupPacketRx west m s) := by
  unfold execGroupPacketRx
  repeat' first
    | with_reducible assumption | with_reducible apply finish_kept | with_reducible apply packetRx_kept | intro _
    | (extract_lets +onlyGivenNames xk; first | (refine kept_cut (p := ip) xk ?_ ?_ <;> first | (intro hxk; clear_value xk) | subst xk) | subst xk)
    | with_reducible refine kept_ite ?_ ?_ | split
    | (refine kept_of ?_; dsimp only; with_reducible refine kept_to ?_; first | with_reducible assumption | with_reducible apply packetRx_kept)

theorem execGroupConfigPacketRx_kept {ip : State} (fn : FN) (e : Effect) (s : State) (hk : Kept ip s) :
    NextKept ip (execGroupConfigPacketRx fn e s) := by
  unfold execGroupConfigPacketRx
  repeat' first
    | with_reducible assumption | with_reducible apply finish_kept | with_reducible apply mirrorConfig_kept
    | with_reducible apply schedule_kept | intro _
    | (extract_lets +onlyGivenNames xk; first | (refine kept_cut (p := ip) xk ?_ ?_ <;> first | (intro hxk; clear_value xk) | subst xk) | subst xk)
    | with_reducible refine kept_ite ?_ ?_ | split
    | (refine kept_of ?_; dsimp only; with_reducible refine kept_to ?_; first | with_reducible assumption | with_reducible apply mirrorConfig_kept | with_reducible apply schedule_kept)

theorem execGroupStagedRx_kept {ip : State} (ws : List StagedWrite) (s : State) (hk : Kept ip s) :
    NextKept ip (execGroupStagedRx ws s) := by
  unfold execGroupStagedRx
  repeat' first
    | with_reducible assumption | with_reducible apply finish_kept | with_reducible apply applyStaged_kept | intro _
    | (extract_lets +onlyGivenNames xk; first | (refine kept_cut (p := ip) xk ?_ ?_ <;> first | (intro hxk; clear_value xk) | subst xk) | subst xk)
    | with_reducible refine kept_ite ?_ ?_ | split
    | (refine kept_of ?_; dsimp only; with_reducible refine kept_to ?_; first | with_reducible assumption | with_reducible apply applyStaged_kept)

theorem execGroupLinkDown_kept {ip : State} (x : PortCodes) (s : State) (hk : Kept ip s) :
    NextKept ip (execGroupLinkDown x s) := by
  unfold execGroupLinkDown
  repeat' first
    | with_reducible assumption | with_reducible apply finish_kept | with_reducible apply portRx_kept | intro _
    | (extract_lets +onlyGivenNames xk; first | (refine kept_cut (p := ip) xk ?_ ?_ <;> first | (intro hxk; clear_value xk) | subst xk) | subst xk)
    | with_reducible refine kept_ite ?_ ?_ | split
    | (refine kept_of ?_; dsimp only; with_reducible refine kept_to ?_; first | with_reducible assumption | with_reducible apply portRx_kept)

theorem execCodeGroupAlignment_kept {ip : State} (x : PortCodes) (s : State) (hk : Kept ip s) :
    NextKept ip (execCodeGroupAlignment x s) := by
  unfold execCodeGroupAlignment
  repeat' first
    | with_reducible assumption | with_reducible apply finish_kept | with_reducible apply portRx_kept | intro _
    | (extract_lets +onlyGivenNames xk; first | (refine kept_cut (p := ip) xk ?_ ?_ <;> first | (intro hxk; clear_value xk) | subst xk) | subst xk)
    | with_reducible refine kept_ite ?_ ?_ | split
    | (refine kept_of ?_; dsimp only; with_reducible refine kept_to ?_; first | with_reducible assumption | with_reducible apply portRx_kept)

theorem execVblHeaderRx_kept {ip : State} (lane : Nat) (m : Bytes) (s : State) (hk : Kept ip s) :
    NextKept ip (execVblHeaderRx lane m s) := by
  unfold execVblHeaderRx
  repeat' first
    | with_reducible assumption | with_reducible apply finish_kept | with_reducible apply headerRx_kept | intro _
    | (extract_lets +onlyGivenNames xk; first | (refine kept_cut (p := ip) xk ?_ ?_ <;> first | (intro hxk; clear_value xk) | subst xk) | subst xk)
    | with_reducible refine kept_ite ?_ ?_ | split
    | (refine kept_of ?_; dsimp only; with_reducible refine kept_to ?_; first | with_reducible assumption | with_reducible apply headerRx_kept)

theorem execTrustRestore_kept {ip : State} (lane : Nat) (s : State) (hk : Kept ip s) :
    NextKept ip (execTrustRestore lane s) := by
  unfold execTrustRestore
  repeat' first
    | with_reducible assumption | with_reducible apply finish_kept | with_reducible apply trustRestore_kept | intro _
    | (extract_lets +onlyGivenNames xk; first | (refine kept_cut (p := ip) xk ?_ ?_ <;> first | (intro hxk; clear_value xk) | subst xk) | subst xk)
    | with_reducible refine kept_ite ?_ ?_ | split
    | (refine kept_of ?_; dsimp only; with_reducible refine kept_to ?_; first | with_reducible assumption | with_reducible apply trustRestore_kept)

theorem execDistrustRepeat_kept {ip : State} (lane : Nat) (s : State) (hk : Kept ip s) :
    NextKept ip (execDistrustRepeat lane s) := by
  unfold execDistrustRepeat
  repeat' first
    | with_reducible assumption | with_reducible apply finish_kept | with_reducible apply distrustRepeat_kept
    | intro _
    | (extract_lets +onlyGivenNames xk; first | (refine kept_cut (p := ip) xk ?_ ?_ <;> first | (intro hxk; clear_value xk) | subst xk) | subst xk)
    | with_reducible refine kept_ite ?_ ?_ | split
    | (refine kept_of ?_; dsimp only; with_reducible refine kept_to ?_; first | with_reducible assumption | with_reducible apply distrustRepeat_kept)

theorem execVblMessageRx_kept {ip : State} (lane : Nat) (m : Bytes) (s : State) (hk : Kept ip s) :
    NextKept ip (execVblMessageRx lane m s) := by
  unfold execVblMessageRx
  repeat' first
    | with_reducible assumption | with_reducible apply finish_kept | with_reducible apply messageRx_kept | intro _
    | (extract_lets +onlyGivenNames xk; first | (refine kept_cut (p := ip) xk ?_ ?_ <;> first | (intro hxk; clear_value xk) | subst xk) | subst xk)
    | with_reducible refine kept_ite ?_ ?_ | split
    | (refine kept_of ?_; dsimp only; with_reducible refine kept_to ?_; first | with_reducible assumption | with_reducible apply messageRx_kept)

theorem execVblFrameVerify_kept {ip : State} (lane : Nat) (cands : List VblCand) (s : State) (hk : Kept ip s) :
    NextKept ip (execVblFrameVerify lane cands s) := by
  unfold execVblFrameVerify
  repeat' first
    | with_reducible assumption | with_reducible apply finish_kept | with_reducible apply vblVerify_kept | intro _
    | (extract_lets +onlyGivenNames xk; first | (refine kept_cut (p := ip) xk ?_ ?_ <;> first | (intro hxk; clear_value xk) | subst xk) | subst xk)
    | with_reducible refine kept_ite ?_ ?_ | split
    | (refine kept_of ?_; dsimp only; with_reducible refine kept_to ?_; first | with_reducible assumption | with_reducible apply vblVerify_kept)

theorem execVblOof_kept {ip : State} (lane : Nat) (x : VblSeen) (s : State) (hk : Kept ip s) :
    NextKept ip (execVblOof lane x s) := by
  unfold execVblOof
  repeat' first
    | with_reducible assumption | with_reducible apply finish_kept | with_reducible apply vblOutOfFrame_kept | intro _
    | (extract_lets +onlyGivenNames xk; first | (refine kept_cut (p := ip) xk ?_ ?_ <;> first | (intro hxk; clear_value xk) | subst xk) | subst xk)
    | with_reducible refine kept_ite ?_ ?_ | split
    | (refine kept_of ?_; dsimp only; with_reducible refine kept_to ?_; first | with_reducible assumption | with_reducible apply vblOutOfFrame_kept)

theorem execVblDefectChange_kept {ip : State} (lane : Nat) (b : Nat) (on : Bool) (s : State) (hk : Kept ip s) :
    NextKept ip (execVblDefectChange lane b on s) := by
  unfold execVblDefectChange
  repeat' first
    | with_reducible assumption | with_reducible apply finish_kept | with_reducible apply vblDefect_kept | intro _
    | (extract_lets +onlyGivenNames xk; first | (refine kept_cut (p := ip) xk ?_ ?_ <;> first | (intro hxk; clear_value xk) | subst xk) | subst xk)
    | with_reducible refine kept_ite ?_ ?_ | split
    | (refine kept_of ?_; dsimp only; with_reducible refine kept_to ?_; first | with_reducible assumption | with_reducible apply vblDefect_kept)

theorem execVblBarLapse_kept {ip : State} (lane : Nat) (s : State) (hk : Kept ip s) :
    NextKept ip (execVblBarLapse lane s) := by
  unfold execVblBarLapse
  repeat' first
    | with_reducible assumption | with_reducible apply finish_kept | with_reducible apply vblBarLapse_kept | intro _
    | (extract_lets +onlyGivenNames xk; first | (refine kept_cut (p := ip) xk ?_ ?_ <;> first | (intro hxk; clear_value xk) | subst xk) | subst xk)
    | with_reducible refine kept_ite ?_ ?_ | split
    | (refine kept_of ?_; dsimp only; with_reducible refine kept_to ?_; first | with_reducible assumption | with_reducible apply vblBarLapse_kept)

theorem execLaneFrameVerify_kept {ip : State} (obj : Nat) (cands : List Nat) (s : State) (hk : Kept ip s) :
    NextKept ip (execLaneFrameVerify obj cands s) := by
  unfold execLaneFrameVerify
  repeat' first
    | with_reducible assumption | with_reducible apply finish_kept | with_reducible apply laneVerify_kept | intro _
    | (extract_lets +onlyGivenNames xk; first | (refine kept_cut (p := ip) xk ?_ ?_ <;> first | (intro hxk; clear_value xk) | subst xk) | subst xk)
    | with_reducible refine kept_ite ?_ ?_ | split
    | (refine kept_of ?_; dsimp only; with_reducible refine kept_to ?_; first | with_reducible assumption | with_reducible apply laneVerify_kept)

theorem execLaneOof_kept {ip : State} (obj : Nat) (s : State) (hk : Kept ip s) :
    NextKept ip (execLaneOof obj s) := by
  unfold execLaneOof
  repeat' first
    | with_reducible assumption | with_reducible apply finish_kept | with_reducible apply outOfFrame_kept
    | with_reducible apply afterRx_kept | intro _
    | (extract_lets +onlyGivenNames xk; first | (refine kept_cut (p := ip) xk ?_ ?_ <;> first | (intro hxk; clear_value xk) | subst xk) | subst xk)
    | with_reducible refine kept_ite ?_ ?_ | split
    | (refine kept_of ?_; dsimp only; with_reducible refine kept_to ?_; first | with_reducible assumption | with_reducible apply outOfFrame_kept | with_reducible apply afterRx_kept)

theorem execLaneFalseLockExit_kept {ip : State} (x : Watched) (s : State) (hk : Kept ip s) :
    NextKept ip (execLaneFalseLockExit x s) := by
  unfold execLaneFalseLockExit
  repeat' first
    | with_reducible assumption | with_reducible apply finish_kept | with_reducible apply laneFalseLock_kept | intro _
    | (extract_lets +onlyGivenNames xk; first | (refine kept_cut (p := ip) xk ?_ ?_ <;> first | (intro hxk; clear_value xk) | subst xk) | subst xk)
    | with_reducible refine kept_ite ?_ ?_ | split
    | (refine kept_of ?_; dsimp only; with_reducible refine kept_to ?_; first | with_reducible assumption | with_reducible apply laneFalseLock_kept)

theorem execLaneTieTimeout_kept {ip : State} (obj : Nat) (b1 : List (Nat × Nat)) (s : State) (hk : Kept ip s) :
    NextKept ip (execLaneTieTimeout obj b1 s) := by
  unfold execLaneTieTimeout
  repeat' first
    | with_reducible assumption | with_reducible apply finish_kept | with_reducible apply laneTie_kept | intro _
    | (extract_lets +onlyGivenNames xk; first | (refine kept_cut (p := ip) xk ?_ ?_ <;> first | (intro hxk; clear_value xk) | subst xk) | subst xk)
    | with_reducible refine kept_ite ?_ ?_ | split
    | (refine kept_of ?_; dsimp only; with_reducible refine kept_to ?_; first | with_reducible assumption | with_reducible apply laneTie_kept)

theorem execLaneReadmission_kept {ip : State} (obj : Nat) (s : State) (hk : Kept ip s) :
    NextKept ip (execLaneReadmission obj s) := by
  unfold execLaneReadmission
  repeat' first
    | with_reducible assumption | with_reducible apply finish_kept | with_reducible apply laneReadmit_kept | intro _
    | (extract_lets +onlyGivenNames xk; first | (refine kept_cut (p := ip) xk ?_ ?_ <;> first | (intro hxk; clear_value xk) | subst xk) | subst xk)
    | with_reducible refine kept_ite ?_ ?_ | split
    | (refine kept_of ?_; dsimp only; with_reducible refine kept_to ?_; first | with_reducible assumption | with_reducible apply laneReadmit_kept)

theorem execLaneDefectChange_kept {ip : State} (cls : Nat) (obj : Nat) (b : Nat) (on : Bool) (info : Bytes) (s :
    State) (hk : Kept ip s) :
    NextKept ip (execLaneDefectChange cls obj b on info s) := by
  unfold execLaneDefectChange
  repeat' first
    | with_reducible assumption | with_reducible apply finish_kept | with_reducible apply laneDefect_kept | intro _
    | (extract_lets +onlyGivenNames xk; first | (refine kept_cut (p := ip) xk ?_ ?_ <;> first | (intro hxk; clear_value xk) | subst xk) | subst xk)
    | with_reducible refine kept_ite ?_ ?_ | split
    | (refine kept_of ?_; dsimp only; with_reducible refine kept_to ?_; first | with_reducible assumption | with_reducible apply laneDefect_kept)

theorem execPathDefectChange_kept {ip : State} (cls : Nat) (obj : Nat) (b : Nat) (on : Bool) (info : Bytes) (s :
    State) (hk : Kept ip s) :
    NextKept ip (execPathDefectChange cls obj b on info s) := by
  unfold execPathDefectChange
  repeat' first
    | with_reducible assumption | with_reducible apply finish_kept | with_reducible apply pathDefect_kept | intro _
    | (extract_lets +onlyGivenNames xk; first | (refine kept_cut (p := ip) xk ?_ ?_ <;> first | (intro hxk; clear_value xk) | subst xk) | subst xk)
    | with_reducible refine kept_ite ?_ ?_ | split
    | (refine kept_of ?_; dsimp only; with_reducible refine kept_to ?_; first | with_reducible assumption | with_reducible apply pathDefect_kept)

theorem execBerDeclare_kept {ip : State} (cls : Nat) (obj : Nat) (n : Nat) (on : Bool) (s : State) (hk : Kept ip s) :
    NextKept ip (execBerDeclare cls obj n on s) := by
  unfold execBerDeclare
  repeat' first
    | with_reducible assumption | with_reducible apply finish_kept | with_reducible apply berChange_kept | intro _
    | (extract_lets +onlyGivenNames xk; first | (refine kept_cut (p := ip) xk ?_ ?_ <;> first | (intro hxk; clear_value xk) | subst xk) | subst xk)
    | with_reducible refine kept_ite ?_ ?_ | split
    | (refine kept_of ?_; dsimp only; with_reducible refine kept_to ?_; first | with_reducible assumption | with_reducible apply berChange_kept)

theorem execCarrierAlignVerify_kept {ip : State} (car : Nat) (cands : List (Nat × Bytes)) (s : State) (hk : Kept ip s) :
    NextKept ip (execCarrierAlignVerify car cands s) := by
  unfold execCarrierAlignVerify
  repeat' first
    | with_reducible assumption | with_reducible apply finish_kept | with_reducible apply carVerify_kept | intro _
    | (extract_lets +onlyGivenNames xk; first | (refine kept_cut (p := ip) xk ?_ ?_ <;> first | (intro hxk; clear_value xk) | subst xk) | subst xk)
    | with_reducible refine kept_ite ?_ ?_ | split
    | (refine kept_of ?_; dsimp only; with_reducible refine kept_to ?_; first | with_reducible assumption | with_reducible apply carVerify_kept)

theorem execCarrierTieTimeout_kept {ip : State} (car : Nat) (left : List Nat) (s : State) (hk : Kept ip s) :
    NextKept ip (execCarrierTieTimeout car left s) := by
  unfold execCarrierTieTimeout
  repeat' first
    | with_reducible assumption | with_reducible apply finish_kept | with_reducible apply carTie_kept | intro _
    | (extract_lets +onlyGivenNames xk; first | (refine kept_cut (p := ip) xk ?_ ?_ <;> first | (intro hxk; clear_value xk) | subst xk) | subst xk)
    | with_reducible refine kept_ite ?_ ?_ | split
    | (refine kept_of ?_; dsimp only; with_reducible refine kept_to ?_; first | with_reducible assumption | with_reducible apply carTie_kept)

theorem execCarrierFalseLockExit_kept {ip : State} (x : Errored) (s : State) (hk : Kept ip s) :
    NextKept ip (execCarrierFalseLockExit x s) := by
  unfold execCarrierFalseLockExit
  repeat' first
    | with_reducible assumption | with_reducible apply finish_kept | with_reducible apply carFalseLock_kept | intro _
    | (extract_lets +onlyGivenNames xk; first | (refine kept_cut (p := ip) xk ?_ ?_ <;> first | (intro hxk; clear_value xk) | subst xk) | subst xk)
    | with_reducible refine kept_ite ?_ ?_ | split
    | (refine kept_of ?_; dsimp only; with_reducible refine kept_to ?_; first | with_reducible assumption | with_reducible apply carFalseLock_kept)

theorem execCarrierBarLapse_kept {ip : State} (car : Nat) (s : State) (hk : Kept ip s) :
    NextKept ip (execCarrierBarLapse car s) := finish_kept _ _ hk

theorem execCarrierInterworkFallback_kept {ip : State} (car : Nat) (s : State) (hk : Kept ip s) :
    NextKept ip (execCarrierInterworkFallback car s) := by
  unfold execCarrierInterworkFallback
  repeat' first
    | with_reducible assumption | with_reducible apply finish_kept | with_reducible apply carInterwork_kept | intro _
    | (extract_lets +onlyGivenNames xk; first | (refine kept_cut (p := ip) xk ?_ ?_ <;> first | (intro hxk; clear_value xk) | subst xk) | subst xk)
    | with_reducible refine kept_ite ?_ ?_ | split
    | (refine kept_of ?_; dsimp only; with_reducible refine kept_to ?_; first | with_reducible assumption | with_reducible apply carInterwork_kept)

theorem execCarrierDefectChange_kept {ip : State} (car : Nat) (b : Nat) (x : Shown) (s : State) (hk : Kept ip s) :
    NextKept ip (execCarrierDefectChange car b x s) := by
  unfold execCarrierDefectChange
  repeat' first
    | with_reducible assumption | with_reducible apply finish_kept | with_reducible apply carChange_kept | intro _
    | (extract_lets +onlyGivenNames xk; first | (refine kept_cut (p := ip) xk ?_ ?_ <;> first | (intro hxk; clear_value xk) | subst xk) | subst xk)
    | with_reducible refine kept_ite ?_ ?_ | split
    | (refine kept_of ?_; dsimp only; with_reducible refine kept_to ?_; first | with_reducible assumption | with_reducible apply carChange_kept)

theorem execCarrierSlip_kept {ip : State} (car : Nat) (delete : Bool) (s : State) (hk : Kept ip s) :
    NextKept ip (execCarrierSlip car delete s) := by
  unfold execCarrierSlip
  repeat' first
    | with_reducible assumption | with_reducible apply finish_kept | with_reducible apply carSlip_kept | intro _
    | (extract_lets +onlyGivenNames xk; first | (refine kept_cut (p := ip) xk ?_ ?_ <;> first | (intro hxk; clear_value xk) | subst xk) | subst xk)
    | with_reducible refine kept_ite ?_ ?_ | split
    | (refine kept_of ?_; dsimp only; with_reducible refine kept_to ?_; first | with_reducible assumption | with_reducible apply carSlip_kept)

theorem execSigHoldExpiry_kept {ip : State} (car : Nat) (s : State) (hk : Kept ip s) :
    NextKept ip (execSigHoldExpiry car s) := by
  unfold execSigHoldExpiry
  repeat' first
    | with_reducible assumption | with_reducible apply finish_kept | with_reducible apply carSigExpiry_kept | intro _
    | (extract_lets +onlyGivenNames xk; first | (refine kept_cut (p := ip) xk ?_ ?_ <;> first | (intro hxk; clear_value xk) | subst xk) | subst xk)
    | with_reducible refine kept_ite ?_ ?_ | split
    | (refine kept_of ?_; dsimp only; with_reducible refine kept_to ?_; first | with_reducible assumption | with_reducible apply carSigExpiry_kept)

theorem execCarrierLossOfAlignment_kept {ip : State} (x : Watched) (s : State) (hk : Kept ip s) :
    NextKept ip (execCarrierLossOfAlignment x s) := by
  unfold execCarrierLossOfAlignment
  repeat' first
    | with_reducible assumption | with_reducible apply finish_kept | with_reducible apply carLoss_kept | intro _
    | (extract_lets +onlyGivenNames xk; first | (refine kept_cut (p := ip) xk ?_ ?_ <;> first | (intro hxk; clear_value xk) | subst xk) | subst xk)
    | with_reducible refine kept_ite ?_ ?_ | split
    | (refine kept_of ?_; dsimp only; with_reducible refine kept_to ?_; first | with_reducible assumption | with_reducible apply carLoss_kept)

theorem execMultiframeAlignment_kept {ip : State} (car : Nat) (x : Shown) (s : State) (hk : Kept ip s) :
    NextKept ip (execMultiframeAlignment car x s) := by
  unfold execMultiframeAlignment
  repeat' first
    | with_reducible assumption | with_reducible apply finish_kept | with_reducible apply carMultiframe_kept | intro _
    | (extract_lets +onlyGivenNames xk; first | (refine kept_cut (p := ip) xk ?_ ?_ <;> first | (intro hxk; clear_value xk) | subst xk) | subst xk)
    | with_reducible refine kept_ite ?_ ?_ | split
    | (refine kept_of ?_; dsimp only; with_reducible refine kept_to ?_; first | with_reducible assumption | with_reducible apply carMultiframe_kept)

theorem execDefectEventPeriod_kept {ip : State} (s : State) (hk : Kept ip s) :
    NextKept ip (execDefectEventPeriod s) := by
  unfold execDefectEventPeriod
  repeat' first
    | with_reducible assumption | with_reducible apply finish_kept | with_reducible apply reportDefects_kept
    | with_reducible apply reportSwitches_kept | intro _
    | (extract_lets +onlyGivenNames xk; first | (refine kept_cut (p := ip) xk ?_ ?_ <;> first | (intro hxk; clear_value xk) | subst xk) | subst xk)
    | with_reducible refine kept_ite ?_ ?_ | split
    | (refine kept_of ?_; dsimp only; with_reducible refine kept_to ?_; first | with_reducible assumption | with_reducible apply reportDefects_kept | with_reducible apply reportSwitches_kept)

theorem execCounterGather_kept {ip : State} (s : State) (hk : Kept ip s) :
    NextKept ip (execCounterGather s) := by
  unfold execCounterGather
  repeat' first
    | with_reducible assumption | with_reducible apply finish_kept | with_reducible apply gather_kept | intro _
    | (extract_lets +onlyGivenNames xk; first | (refine kept_cut (p := ip) xk ?_ ?_ <;> first | (intro hxk; clear_value xk) | subst xk) | subst xk)
    | with_reducible refine kept_ite ?_ ?_ | split
    | (refine kept_of ?_; dsimp only; with_reducible refine kept_to ?_; first | with_reducible assumption | with_reducible apply gather_kept)

theorem execFpBackgroundCheck_kept {ip : State} (found : Word64) (s : State) (hk : Kept ip s) :
    NextKept ip (execFpBackgroundCheck found s) := by
  unfold execFpBackgroundCheck
  repeat' first
    | with_reducible assumption | with_reducible apply finish_kept | with_reducible apply raise_kept
    | with_reducible apply bump_kept | intro _
    | (extract_lets +onlyGivenNames xk; first | (refine kept_cut (p := ip) xk ?_ ?_ <;> first | (intro hxk; clear_value xk) | subst xk) | subst xk)
    | with_reducible refine kept_ite ?_ ?_ | split
    | (refine kept_of ?_; dsimp only; with_reducible refine kept_to ?_; first | with_reducible assumption | with_reducible apply raise_kept | with_reducible apply bump_kept)

theorem execPrbsSyncChange_kept {ip : State} (u : Nat) (x : PrbsShown) (s : State) (hk : Kept ip s) :
    NextKept ip (execPrbsSyncChange u x s) := by
  unfold execPrbsSyncChange
  repeat' first
    | with_reducible assumption | with_reducible apply finish_kept | with_reducible apply prbsSync_kept | intro _
    | (extract_lets +onlyGivenNames xk; first | (refine kept_cut (p := ip) xk ?_ ?_ <;> first | (intro hxk; clear_value xk) | subst xk) | subst xk)
    | with_reducible refine kept_ite ?_ ?_ | split
    | (refine kept_of ?_; dsimp only; with_reducible refine kept_to ?_; first | with_reducible assumption | with_reducible apply prbsSync_kept)

theorem execImageBegin_kept {ip : State} (c : CmdEntry) (s : State) (hk : Kept ip s) :
    NextKept ip (execImageBegin c s) := by
  unfold execImageBegin
  repeat' first
    | with_reducible assumption | with_reducible apply finish_kept | with_reducible apply updNote_kept
    | with_reducible apply completeOk_kept | with_reducible apply refuse_kept | with_reducible apply withRead_kept
    | with_reducible apply runCmd_kept | with_reducible apply receive_kept | exact no_hold rfl | intro _
    | (extract_lets +onlyGivenNames xk; first | (refine kept_cut (p := ip) xk ?_ ?_ <;> first | (intro hxk; clear_value xk) | subst xk) | subst xk)
    | with_reducible refine kept_ite ?_ ?_ | split
    | (refine kept_of ?_; dsimp only; with_reducible refine kept_to ?_; first | with_reducible assumption | with_reducible apply updNote_kept | with_reducible apply completeOk_kept | with_reducible apply refuse_kept | with_reducible apply withRead_kept | with_reducible apply runCmd_kept | with_reducible apply receive_kept)

theorem execImageChunk_kept {ip : State} (c : CmdEntry) (s : State) (hk : Kept ip s) :
    NextKept ip (execImageChunk c s) := by
  unfold execImageChunk
  repeat' first
    | with_reducible assumption | with_reducible apply finish_kept | with_reducible apply completeOk_kept
    | with_reducible apply refuse_kept | with_reducible apply withRead_kept | with_reducible apply runCmd_kept
    | with_reducible apply receive_kept | exact no_hold rfl | intro _
    | (extract_lets +onlyGivenNames xk; first | (refine kept_cut (p := ip) xk ?_ ?_ <;> first | (intro hxk; clear_value xk) | subst xk) | subst xk)
    | with_reducible refine kept_ite ?_ ?_ | split
    | (refine kept_of ?_; dsimp only; with_reducible refine kept_to ?_; first | with_reducible assumption | with_reducible apply completeOk_kept | with_reducible apply refuse_kept | with_reducible apply withRead_kept | with_reducible apply runCmd_kept | with_reducible apply receive_kept)

theorem execImageVerify_kept {ip : State} (c : CmdEntry) (s : State) (hk : Kept ip s) :
    NextKept ip (execImageVerify c s) := by
  unfold execImageVerify
  repeat' first
    | with_reducible assumption | with_reducible apply finish_kept | with_reducible apply runCmd_kept
    | exact no_hold rfl | intro _
    | (extract_lets +onlyGivenNames xk; first | (refine kept_cut (p := ip) xk ?_ ?_ <;> first | (intro hxk; clear_value xk) | subst xk) | subst xk)
    | with_reducible refine kept_ite ?_ ?_ | split
    | (refine kept_of ?_; dsimp only; with_reducible refine kept_to ?_; first | with_reducible assumption | with_reducible apply runCmd_kept)

theorem execImageActivate_kept {ip : State} (c : CmdEntry) (s : State) (hk : Kept ip s) :
    NextKept ip (execImageActivate c s) := by
  unfold execImageActivate
  repeat' first
    | with_reducible assumption | with_reducible apply finish_kept | with_reducible apply refuse_kept
    | with_reducible apply runCmd_kept | with_reducible apply activate_kept | exact no_hold rfl | intro _
    | (extract_lets +onlyGivenNames xk; first | (refine kept_cut (p := ip) xk ?_ ?_ <;> first | (intro hxk; clear_value xk) | subst xk) | subst xk)
    | with_reducible refine kept_ite ?_ ?_ | split
    | (refine kept_of ?_; dsimp only; with_reducible refine kept_to ?_; first | with_reducible assumption | with_reducible apply refuse_kept | with_reducible apply runCmd_kept | with_reducible apply activate_kept)

theorem execImageConfirm_kept {ip : State} (c : CmdEntry) (s : State) (hk : Kept ip s) :
    NextKept ip (execImageConfirm c s) := by
  unfold execImageConfirm
  repeat' first
    | with_reducible assumption | with_reducible apply finish_kept | with_reducible apply runCmd_kept
    | exact no_hold rfl | intro _
    | (extract_lets +onlyGivenNames xk; first | (refine kept_cut (p := ip) xk ?_ ?_ <;> first | (intro hxk; clear_value xk) | subst xk) | subst xk)
    | with_reducible refine kept_ite ?_ ?_ | split
    | (refine kept_of ?_; dsimp only; with_reducible refine kept_to ?_; first | with_reducible assumption | with_reducible apply runCmd_kept)

theorem execImageReject_kept {ip : State} (c : CmdEntry) (s : State) (hk : Kept ip s) :
    NextKept ip (execImageReject c s) := by
  unfold execImageReject
  repeat' first
    | with_reducible assumption | with_reducible apply finish_kept | with_reducible apply completeOk_kept
    | with_reducible apply runCmd_kept | with_reducible apply setImage_kept | with_reducible apply endConfirm_kept
    | with_reducible apply fallBack_kept | exact no_hold rfl | intro _
    | (extract_lets +onlyGivenNames xk; first | (refine kept_cut (p := ip) xk ?_ ?_ <;> first | (intro hxk; clear_value xk) | subst xk) | subst xk)
    | with_reducible refine kept_ite ?_ ?_ | split
    | (refine kept_of ?_; dsimp only; with_reducible refine kept_to ?_; first | with_reducible assumption | with_reducible apply completeOk_kept | with_reducible apply runCmd_kept | with_reducible apply setImage_kept | with_reducible apply endConfirm_kept | with_reducible apply fallBack_kept)

theorem execJournalStatus_kept {ip : State} (c : CmdEntry) (s : State) (hk : Kept ip s) :
    NextKept ip (execJournalStatus c s) := by
  unfold execJournalStatus
  repeat' first
    | with_reducible assumption | with_reducible apply finish_kept | with_reducible apply completeOk_kept
    | with_reducible apply runCmd_kept | exact no_hold rfl | intro _
    | (extract_lets +onlyGivenNames xk; first | (refine kept_cut (p := ip) xk ?_ ?_ <;> first | (intro hxk; clear_value xk) | subst xk) | subst xk)
    | with_reducible refine kept_ite ?_ ?_ | split
    | (refine kept_of ?_; dsimp only; with_reducible refine kept_to ?_; first | with_reducible assumption | with_reducible apply completeOk_kept | with_reducible apply runCmd_kept)

theorem execJournalCompact_kept {ip : State} (c : CmdEntry) (s : State) (hk : Kept ip s) :
    NextKept ip (execJournalCompact c s) := by
  unfold execJournalCompact
  repeat' first
    | with_reducible assumption | with_reducible apply finish_kept | with_reducible apply refuse_kept
    | with_reducible apply runCmd_kept | with_reducible apply beginCompaction_kept | exact no_hold rfl | intro _
    | (extract_lets +onlyGivenNames xk; first | (refine kept_cut (p := ip) xk ?_ ?_ <;> first | (intro hxk; clear_value xk) | subst xk) | subst xk)
    | with_reducible refine kept_ite ?_ ?_ | split
    | (refine kept_of ?_; dsimp only; with_reducible refine kept_to ?_; first | with_reducible assumption | with_reducible apply refuse_kept | with_reducible apply runCmd_kept | with_reducible apply beginCompaction_kept)

theorem execPowerDomain_kept {ip : State} (c : CmdEntry) (s : State) (hk : Kept ip s) :
    NextKept ip (execPowerDomain c s) := by
  unfold execPowerDomain
  repeat' first
    | with_reducible assumption | with_reducible apply finish_kept | with_reducible apply completeOk_kept
    | with_reducible apply runCmd_kept | with_reducible apply startDomain_kept | exact no_hold rfl | intro _
    | (extract_lets +onlyGivenNames xk; first | (refine kept_cut (p := ip) xk ?_ ?_ <;> first | (intro hxk; clear_value xk) | subst xk) | subst xk)
    | with_reducible refine kept_ite ?_ ?_ | split
    | (refine kept_of ?_; dsimp only; with_reducible refine kept_to ?_; first | with_reducible assumption | with_reducible apply completeOk_kept | with_reducible apply runCmd_kept | with_reducible apply startDomain_kept)

theorem execTodSet_kept {ip : State} (c : CmdEntry) (s : State) (hk : Kept ip s) :
    NextKept ip (execTodSet c s) := by
  unfold execTodSet
  repeat' first
    | with_reducible assumption | with_reducible apply finish_kept | with_reducible apply complete_kept
    | with_reducible apply refuse_kept | with_reducible apply runCmd_kept | with_reducible apply stepTod_kept
    | exact no_hold rfl | intro _
    | (extract_lets +onlyGivenNames xk; first | (refine kept_cut (p := ip) xk ?_ ?_ <;> first | (intro hxk; clear_value xk) | subst xk) | subst xk)
    | with_reducible refine kept_ite ?_ ?_ | split
    | (refine kept_of ?_; dsimp only; with_reducible refine kept_to ?_; first | with_reducible assumption | with_reducible apply complete_kept | with_reducible apply refuse_kept | with_reducible apply runCmd_kept | with_reducible apply stepTod_kept)

theorem execCommandFetch_kept {ip : State} (s : State) (hk : Kept ip s) :
    NextKept ip (execCommandFetch s) := by
  unfold execCommandFetch
  repeat' first
    | with_reducible assumption | with_reducible apply finish_kept | with_reducible apply fetch_kept | intro _
    | (extract_lets +onlyGivenNames xk; first | (refine kept_cut (p := ip) xk ?_ ?_ <;> first | (intro hxk; clear_value xk) | subst xk) | subst xk)
    | with_reducible refine kept_ite ?_ ?_ | split
    | (refine kept_of ?_; dsimp only; with_reducible refine kept_to ?_; first | with_reducible assumption | with_reducible apply fetch_kept)

theorem execCmdPhaseTimeout_kept {ip : State} (s : State) (hk : Kept ip s) :
    NextKept ip (execCmdPhaseTimeout s) := by
  unfold execCmdPhaseTimeout
  repeat' first
    | with_reducible assumption | with_reducible apply finish_kept | with_reducible apply phaseTimeout_kept | intro _
    | (extract_lets +onlyGivenNames xk; first | (refine kept_cut (p := ip) xk ?_ ?_ <;> first | (intro hxk; clear_value xk) | subst xk) | subst xk)
    | with_reducible refine kept_ite ?_ ?_ | split
    | (refine kept_of ?_; dsimp only; with_reducible refine kept_to ?_; first | with_reducible assumption | with_reducible apply phaseTimeout_kept)

theorem execWaitingCommandDone_kept {ip : State} (i : Nat) (s : State) (hk : Kept ip s) :
    NextKept ip (execWaitingCommandDone i s) := by
  unfold execWaitingCommandDone
  repeat' first
    | with_reducible assumption | with_reducible apply finish_kept | with_reducible apply waitingDone_kept | intro _
    | (extract_lets +onlyGivenNames xk; first | (refine kept_cut (p := ip) xk ?_ ?_ <;> first | (intro hxk; clear_value xk) | subst xk) | subst xk)
    | with_reducible refine kept_ite ?_ ?_ | split
    | (refine kept_of ?_; dsimp only; with_reducible refine kept_to ?_; first | with_reducible assumption | with_reducible apply waitingDone_kept)

theorem execCompletionWrite_kept {ip : State} (s : State) (hk : Kept ip s) :
    NextKept ip (execCompletionWrite s) := by
  unfold execCompletionWrite
  repeat' first
    | with_reducible assumption | with_reducible apply finish_kept | with_reducible apply writeCpl_kept | intro _
    | (extract_lets +onlyGivenNames xk; first | (refine kept_cut (p := ip) xk ?_ ?_ <;> first | (intro hxk; clear_value xk) | subst xk) | subst xk)
    | with_reducible refine kept_ite ?_ ?_ | split
    | (refine kept_of ?_; dsimp only; with_reducible refine kept_to ?_; first | with_reducible assumption | with_reducible apply writeCpl_kept)

theorem execEventWrite_kept {ip : State} (s : State) (hk : Kept ip s) :
    NextKept ip (execEventWrite s) := by
  unfold execEventWrite
  repeat' first
    | with_reducible assumption | with_reducible apply finish_kept | with_reducible apply writeEvt_kept | intro _
    | (extract_lets +onlyGivenNames xk; first | (refine kept_cut (p := ip) xk ?_ ?_ <;> first | (intro hxk; clear_value xk) | subst xk) | subst xk)
    | with_reducible refine kept_ite ?_ ?_ | split
    | (refine kept_of ?_; dsimp only; with_reducible refine kept_to ?_; first | with_reducible assumption | with_reducible apply writeEvt_kept)

theorem execHostSlow_kept {ip : State} (s : State) (hk : Kept ip s) :
    NextKept ip (execHostSlow s) := by
  unfold execHostSlow
  repeat' first
    | with_reducible assumption | with_reducible apply finish_kept | with_reducible apply hostSlow_kept | intro _
    | (extract_lets +onlyGivenNames xk; first | (refine kept_cut (p := ip) xk ?_ ?_ <;> first | (intro hxk; clear_value xk) | subst xk) | subst xk)
    | with_reducible refine kept_ite ?_ ?_ | split
    | (refine kept_of ?_; dsimp only; with_reducible refine kept_to ?_; first | with_reducible assumption | with_reducible apply hostSlow_kept)

theorem execDbCmd_kept {ip : State} (aligned32 : Bool) (v : Word32) (mem : List Host.Cell) (s : State) (hk : Kept ip
    s) :
    NextKept ip (execDbCmd aligned32 v mem s) := by
  unfold execDbCmd
  repeat' first
    | with_reducible assumption | with_reducible apply finish_kept | with_reducible apply doorbell_kept
    | with_reducible apply hostWrites_kept | intro _
    | (extract_lets +onlyGivenNames xk; first | (refine kept_cut (p := ip) xk ?_ ?_ <;> first | (intro hxk; clear_value xk) | subst xk) | subst xk)
    | with_reducible refine kept_ite ?_ ?_ | split
    | (refine kept_of ?_; dsimp only; with_reducible refine kept_to ?_; first | with_reducible assumption | with_reducible apply doorbell_kept | with_reducible apply hostWrites_kept)

theorem execDbCpl_kept {ip : State} (aligned32 : Bool) (v : Word32) (s : State) (hk : Kept ip s) :
    NextKept ip (execDbCpl aligned32 v s) := by
  unfold execDbCpl
  repeat' first
    | with_reducible assumption | with_reducible apply finish_kept | with_reducible apply doorbell_kept | intro _
    | (extract_lets +onlyGivenNames xk; first | (refine kept_cut (p := ip) xk ?_ ?_ <;> first | (intro hxk; clear_value xk) | subst xk) | subst xk)
    | with_reducible refine kept_ite ?_ ?_ | split
    | (refine kept_of ?_; dsimp only; with_reducible refine kept_to ?_; first | with_reducible assumption | with_reducible apply doorbell_kept)

theorem execDbEvt_kept {ip : State} (aligned32 : Bool) (v : Word32) (s : State) (hk : Kept ip s) :
    NextKept ip (execDbEvt aligned32 v s) := by
  unfold execDbEvt
  repeat' first
    | with_reducible assumption | with_reducible apply finish_kept | with_reducible apply doorbell_kept | intro _
    | (extract_lets +onlyGivenNames xk; first | (refine kept_cut (p := ip) xk ?_ ?_ <;> first | (intro hxk; clear_value xk) | subst xk) | subst xk)
    | with_reducible refine kept_ite ?_ ?_ | split
    | (refine kept_of ?_; dsimp only; with_reducible refine kept_to ?_; first | with_reducible assumption | with_reducible apply doorbell_kept)

theorem execDbIrqRearm_kept {ip : State} (x : IrqWrite) (s : State) (hk : Kept ip s) :
    NextKept ip (execDbIrqRearm x s) := by
  unfold execDbIrqRearm
  repeat' first
    | with_reducible assumption | with_reducible apply finish_kept | with_reducible apply raise_kept
    | with_reducible apply sendMsix_kept | intro _
    | (extract_lets +onlyGivenNames xk; first | (refine kept_cut (p := ip) xk ?_ ?_ <;> first | (intro hxk; clear_value xk) | subst xk) | subst xk)
    | with_reducible refine kept_ite ?_ ?_ | split
    | (refine kept_of ?_; dsimp only; with_reducible refine kept_to ?_; first | with_reducible assumption | with_reducible apply raise_kept | with_reducible apply sendMsix_kept)

theorem execLowHalfRead_kept {ip : State} (off : Nat) (s : State) (hk : Kept ip s) :
    NextKept ip (execLowHalfRead off s) := by
  unfold execLowHalfRead
  repeat' first
    | with_reducible assumption | with_reducible apply finish_kept | intro _
    | (extract_lets +onlyGivenNames xk; first | (refine kept_cut (p := ip) xk ?_ ?_ <;> first | (intro hxk; clear_value xk) | subst xk) | subst xk)
    | with_reducible refine kept_ite ?_ ?_ | split
    | (refine kept_of ?_; dsimp only; with_reducible refine kept_to ?_; with_reducible assumption)

theorem execSetupBadAccess_kept {ip : State} (write : Bool) (off : Nat) (size : Nat) (s : State) (hk : Kept ip s) :
    NextKept ip (execSetupBadAccess write off size s) := by
  unfold execSetupBadAccess
  repeat' first
    | with_reducible assumption | with_reducible apply finish_kept | with_reducible apply raise_kept
    | with_reducible apply badWrite_kept | intro _
    | (extract_lets +onlyGivenNames xk; first | (refine kept_cut (p := ip) xk ?_ ?_ <;> first | (intro hxk; clear_value xk) | subst xk) | subst xk)
    | with_reducible refine kept_ite ?_ ?_ | split
    | (refine kept_of ?_; dsimp only; with_reducible refine kept_to ?_; first | with_reducible assumption | with_reducible apply raise_kept | with_reducible apply badWrite_kept)

theorem execTopSetupLock_kept {ip : State} (v : Word32) (s : State) (hk : Kept ip s) :
    NextKept ip (execTopSetupLock v s) := by
  unfold execTopSetupLock
  repeat' first
    | with_reducible assumption | with_reducible apply finish_kept | with_reducible apply writeReg_kept | intro _
    | (extract_lets +onlyGivenNames xk; first | (refine kept_cut (p := ip) xk ?_ ?_ <;> first | (intro hxk; clear_value xk) | subst xk) | subst xk)
    | with_reducible refine kept_ite ?_ ?_ | split
    | (refine kept_of ?_; dsimp only; with_reducible refine kept_to ?_; first | with_reducible assumption | with_reducible apply writeReg_kept)

theorem execRingEnable_kept {ip : State} (r : RingId) (v : Word32) (s : State) (hk : Kept ip s) :
    NextKept ip (execRingEnable r v s) := by
  unfold execRingEnable
  repeat' first
    | with_reducible assumption | with_reducible apply finish_kept | with_reducible apply writeReg_kept | intro _
    | (extract_lets +onlyGivenNames xk; first | (refine kept_cut (p := ip) xk ?_ ?_ <;> first | (intro hxk; clear_value xk) | subst xk) | subst xk)
    | with_reducible refine kept_ite ?_ ?_ | split
    | (refine kept_of ?_; dsimp only; with_reducible refine kept_to ?_; first | with_reducible assumption | with_reducible apply writeReg_kept)

theorem execRingDisable_kept {ip : State} (r : RingId) (v : Word32) (s : State) (hk : Kept ip s) :
    NextKept ip (execRingDisable r v s) := by
  unfold execRingDisable
  repeat' first
    | with_reducible assumption | with_reducible apply finish_kept | with_reducible apply writeReg_kept | intro _
    | (extract_lets +onlyGivenNames xk; first | (refine kept_cut (p := ip) xk ?_ ?_ <;> first | (intro hxk; clear_value xk) | subst xk) | subst xk)
    | with_reducible refine kept_ite ?_ ?_ | split
    | (refine kept_of ?_; dsimp only; with_reducible refine kept_to ?_; first | with_reducible assumption | with_reducible apply writeReg_kept)

theorem execRegisterWrite_kept {ip : State} (off : Nat) (v : Word32) (s : State) (hk : Kept ip s) :
    NextKept ip (execRegisterWrite off v s) := by
  unfold execRegisterWrite
  repeat' first
    | with_reducible assumption | with_reducible apply finish_kept | with_reducible apply writeConfig_kept
    | with_reducible apply writeReg_kept | intro _
    | (extract_lets +onlyGivenNames xk; first | (refine kept_cut (p := ip) xk ?_ ?_ <;> first | (intro hxk; clear_value xk) | subst xk) | subst xk)
    | with_reducible refine kept_ite ?_ ?_ | split
    | (refine kept_of ?_; dsimp only; with_reducible refine kept_to ?_; first | with_reducible assumption | with_reducible apply writeConfig_kept | with_reducible apply writeReg_kept)

theorem execOvfClear_kept {ip : State} (v : Word32) (s : State) (hk : Kept ip s) :
    NextKept ip (execOvfClear v s) := by
  unfold execOvfClear
  repeat' first
    | with_reducible assumption | with_reducible apply finish_kept | with_reducible apply writeReg_kept | intro _
    | (extract_lets +onlyGivenNames xk; first | (refine kept_cut (p := ip) xk ?_ ?_ <;> first | (intro hxk; clear_value xk) | subst xk) | subst xk)
    | with_reducible refine kept_ite ?_ ?_ | split
    | (refine kept_of ?_; dsimp only; with_reducible refine kept_to ?_; first | with_reducible assumption | with_reducible apply writeReg_kept)

theorem execCountClear_kept {ip : State} (v : Word32) (s : State) (hk : Kept ip s) :
    NextKept ip (execCountClear v s) := by
  unfold execCountClear
  repeat' first
    | with_reducible assumption | with_reducible apply finish_kept | with_reducible apply writeReg_kept | intro _
    | (extract_lets +onlyGivenNames xk; first | (refine kept_cut (p := ip) xk ?_ ?_ <;> first | (intro hxk; clear_value xk) | subst xk) | subst xk)
    | with_reducible refine kept_ite ?_ ?_ | split
    | (refine kept_of ?_; dsimp only; with_reducible refine kept_to ?_; first | with_reducible assumption | with_reducible apply writeReg_kept)

theorem execPmcCtrlWrite_kept {ip : State} (n : Nat) (k : Nat) (v : Word32) (s : State) (hk : Kept ip s) :
    NextKept ip (execPmcCtrlWrite n k v s) := by
  unfold execPmcCtrlWrite
  repeat' first
    | with_reducible assumption | with_reducible apply finish_kept | with_reducible apply writeReg_kept | intro _
    | (extract_lets +onlyGivenNames xk; first | (refine kept_cut (p := ip) xk ?_ ?_ <;> first | (intro hxk; clear_value xk) | subst xk) | subst xk)
    | with_reducible refine kept_ite ?_ ?_ | split
    | (refine kept_of ?_; dsimp only; with_reducible refine kept_to ?_; first | with_reducible assumption | with_reducible apply writeReg_kept)

theorem execMsixUnmask_kept {ip : State} (op : MsixOp) (s : State) (hk : Kept ip s) :
    NextKept ip (execMsixUnmask op s) := by
  unfold execMsixUnmask
  repeat' first
    | with_reducible assumption | with_reducible apply finish_kept | with_reducible apply unmaskFunction_kept
    | with_reducible apply enableMsix_kept | with_reducible apply writeReg_kept | intro _
    | (extract_lets +onlyGivenNames xk; first | (refine kept_cut (p := ip) xk ?_ ?_ <;> first | (intro hxk; clear_value xk) | subst xk) | subst xk)
    | with_reducible refine kept_ite ?_ ?_ | split
    | (refine kept_of ?_; dsimp only; with_reducible refine kept_to ?_; first | with_reducible assumption | with_reducible apply unmaskFunction_kept | with_reducible apply enableMsix_kept | with_reducible apply writeReg_kept)

theorem execPerstN_kept {ip : State} (low : Bool) (s : State) (hk : Kept ip s) :
    NextKept ip (execPerstN low s) := by
  unfold execPerstN
  repeat' first
    | with_reducible assumption | with_reducible apply finish_kept | with_reducible apply perstOn_kept | intro _
    | (extract_lets +onlyGivenNames xk; first | (refine kept_cut (p := ip) xk ?_ ?_ <;> first | (intro hxk; clear_value xk) | subst xk) | subst xk)
    | with_reducible refine kept_ite ?_ ?_ | split
    | (refine kept_of ?_; dsimp only; with_reducible refine kept_to ?_; first | with_reducible assumption | with_reducible apply perstOn_kept)

theorem execLinkUnavailable_kept {ip : State} (why : LinkLoss) (s : State) (hk : Kept ip s) :
    NextKept ip (execLinkUnavailable why s) := by
  unfold execLinkUnavailable
  repeat' first
    | with_reducible assumption | with_reducible apply finish_kept | with_reducible apply noteHeld_kept
    | with_reducible apply startDrain_kept | intro _
    | (extract_lets +onlyGivenNames xk; first | (refine kept_cut (p := ip) xk ?_ ?_ <;> first | (intro hxk; clear_value xk) | subst xk) | subst xk)
    | with_reducible refine kept_ite ?_ ?_ | split
    | (refine kept_of ?_; dsimp only; with_reducible refine kept_to ?_; first | with_reducible assumption | with_reducible apply noteHeld_kept | with_reducible apply startDrain_kept)

theorem execLinkRestored_kept {ip : State} (why : LinkLoss) (s : State) (hk : Kept ip s) :
    NextKept ip (execLinkRestored why s) := by
  unfold execLinkRestored
  repeat' first
    | with_reducible assumption | with_reducible apply finish_kept | intro _
    | (extract_lets +onlyGivenNames xk; first | (refine kept_cut (p := ip) xk ?_ ?_ <;> first | (intro hxk; clear_value xk) | subst xk) | subst xk)
    | with_reducible refine kept_ite ?_ ?_ | split
    | (refine kept_of ?_; dsimp only; with_reducible refine kept_to ?_; with_reducible assumption)

theorem execBusTimeout_kept {ip : State} (target : Nat) (master : Nat) (s : State) (hk : Kept ip s) :
    NextKept ip (execBusTimeout target master s) := by
  unfold execBusTimeout
  repeat' first
    | with_reducible assumption | with_reducible apply finish_kept | with_reducible apply raise_kept
    | with_reducible apply bump_kept | intro _
    | (extract_lets +onlyGivenNames xk; first | (refine kept_cut (p := ip) xk ?_ ?_ <;> first | (intro hxk; clear_value xk) | subst xk) | subst xk)
    | with_reducible refine kept_ite ?_ ?_ | split
    | (refine kept_of ?_; dsimp only; with_reducible refine kept_to ?_; first | with_reducible assumption | with_reducible apply raise_kept | with_reducible apply bump_kept)

theorem execBusDrainDone_kept {ip : State} (master : Nat) (s : State) (hk : Kept ip s) :
    NextKept ip (execBusDrainDone master s) := by
  unfold execBusDrainDone
  repeat' first
    | with_reducible assumption | with_reducible apply finish_kept | with_reducible apply raise_kept
    | with_reducible apply bump_kept | intro _
    | (extract_lets +onlyGivenNames xk; first | (refine kept_cut (p := ip) xk ?_ ?_ <;> first | (intro hxk; clear_value xk) | subst xk) | subst xk)
    | with_reducible refine kept_ite ?_ ?_ | split
    | (refine kept_of ?_; dsimp only; with_reducible refine kept_to ?_; first | with_reducible assumption | with_reducible apply raise_kept | with_reducible apply bump_kept)

theorem execEngineOverrun_kept {ip : State} (e : Nat) (s : State) (hk : Kept ip s) :
    NextKept ip (execEngineOverrun e s) := by
  unfold execEngineOverrun
  repeat' first
    | with_reducible assumption | with_reducible apply finish_kept | with_reducible apply engineOverrun_kept | intro _
    | (extract_lets +onlyGivenNames xk; first | (refine kept_cut (p := ip) xk ?_ ?_ <;> first | (intro hxk; clear_value xk) | subst xk) | subst xk)
    | with_reducible refine kept_ite ?_ ?_ | split
    | (refine kept_of ?_; dsimp only; with_reducible refine kept_to ?_; first | with_reducible assumption | with_reducible apply engineOverrun_kept)

theorem execBankSwitch_kept {ip : State} (n : Nat) (s : State) (hk : Kept ip s) :
    NextKept ip (execBankSwitch n s) := by
  unfold execBankSwitch
  repeat' first
    | with_reducible assumption | with_reducible apply finish_kept | with_reducible apply bankSwitch_kept | intro _
    | (extract_lets +onlyGivenNames xk; first | (refine kept_cut (p := ip) xk ?_ ?_ <;> first | (intro hxk; clear_value xk) | subst xk) | subst xk)
    | with_reducible refine kept_ite ?_ ?_ | split
    | (refine kept_of ?_; dsimp only; with_reducible refine kept_to ?_; first | with_reducible assumption | with_reducible apply bankSwitch_kept)

theorem execBankReadyTimeout_kept {ip : State} (n : Nat) (s : State) (hk : Kept ip s) :
    NextKept ip (execBankReadyTimeout n s) := by
  unfold execBankReadyTimeout
  repeat' first
    | with_reducible assumption | with_reducible apply finish_kept | with_reducible apply bankReadyTimeout_kept
    | intro _
    | (extract_lets +onlyGivenNames xk; first | (refine kept_cut (p := ip) xk ?_ ?_ <;> first | (intro hxk; clear_value xk) | subst xk) | subst xk)
    | with_reducible refine kept_ite ?_ ?_ | split
    | (refine kept_of ?_; dsimp only; with_reducible refine kept_to ?_; first | with_reducible assumption | with_reducible apply bankReadyTimeout_kept)

theorem execEccUncorrectable_kept {ip : State} (w : MemRef) (s : State) (hk : Kept ip s) :
    NextKept ip (execEccUncorrectable w s) := by
  unfold execEccUncorrectable
  repeat' first
    | with_reducible assumption | with_reducible apply finish_kept | with_reducible apply eccError_kept | intro _
    | (extract_lets +onlyGivenNames xk; first | (refine kept_cut (p := ip) xk ?_ ?_ <;> first | (intro hxk; clear_value xk) | subst xk) | subst xk)
    | with_reducible refine kept_ite ?_ ?_ | split
    | (refine kept_of ?_; dsimp only; with_reducible refine kept_to ?_; first | with_reducible assumption | with_reducible apply eccError_kept)

theorem execScrubCorrection_kept {ip : State} (w : MemRef) (s : State) (hk : Kept ip s) :
    NextKept ip (execScrubCorrection w s) := by
  unfold execScrubCorrection
  repeat' first
    | with_reducible assumption | with_reducible apply finish_kept | with_reducible apply scrub_kept | intro _
    | (extract_lets +onlyGivenNames xk; first | (refine kept_cut (p := ip) xk ?_ ?_ <;> first | (intro hxk; clear_value xk) | subst xk) | subst xk)
    | with_reducible refine kept_ite ?_ ?_ | split
    | (refine kept_of ?_; dsimp only; with_reducible refine kept_to ?_; first | with_reducible assumption | with_reducible apply scrub_kept)

theorem execBankRepairDone_kept {ip : State} (n : Nat) (s : State) (hk : Kept ip s) :
    NextKept ip (execBankRepairDone n s) := by
  unfold execBankRepairDone
  repeat' first
    | with_reducible assumption | with_reducible apply finish_kept | with_reducible apply repairBank_kept | intro _
    | (extract_lets +onlyGivenNames xk; first | (refine kept_cut (p := ip) xk ?_ ?_ <;> first | (intro hxk; clear_value xk) | subst xk) | subst xk)
    | with_reducible refine kept_ite ?_ ?_ | split
    | (refine kept_of ?_; dsimp only; with_reducible refine kept_to ?_; first | with_reducible assumption | with_reducible apply repairBank_kept)

theorem execLiveItemRewrite_kept {ip : State} (w : MemRef) (s : State) (hk : Kept ip s) :
    NextKept ip (execLiveItemRewrite w s) := by
  unfold execLiveItemRewrite
  repeat' first
    | with_reducible assumption | with_reducible apply finish_kept | with_reducible apply rewriteItem_kept | intro _
    | (extract_lets +onlyGivenNames xk; first | (refine kept_cut (p := ip) xk ?_ ?_ <;> first | (intro hxk; clear_value xk) | subst xk) | subst xk)
    | with_reducible refine kept_ite ?_ ?_ | split
    | (refine kept_of ?_; dsimp only; with_reducible refine kept_to ?_; first | with_reducible assumption | with_reducible apply rewriteItem_kept)

theorem execDomainOnDone_kept {ip : State} (d : Nat) (s : State) (hk : Kept ip s) :
    NextKept ip (execDomainOnDone d s) := by
  unfold execDomainOnDone
  repeat' first
    | with_reducible assumption | with_reducible apply finish_kept | with_reducible apply domainOn_kept | intro _
    | (extract_lets +onlyGivenNames xk; first | (refine kept_cut (p := ip) xk ?_ ?_ <;> first | (intro hxk; clear_value xk) | subst xk) | subst xk)
    | with_reducible refine kept_ite ?_ ?_ | split
    | (refine kept_of ?_; dsimp only; with_reducible refine kept_to ?_; first | with_reducible assumption | with_reducible apply domainOn_kept)

theorem execDomainFault_kept {ip : State} (d : Nat) (s : State) (hk : Kept ip s) :
    NextKept ip (execDomainFault d s) := by
  unfold execDomainFault
  repeat' first
    | with_reducible assumption | with_reducible apply finish_kept | with_reducible apply domainFails_kept | intro _
    | (extract_lets +onlyGivenNames xk; first | (refine kept_cut (p := ip) xk ?_ ?_ <;> first | (intro hxk; clear_value xk) | subst xk) | subst xk)
    | with_reducible refine kept_ite ?_ ?_ | split
    | (refine kept_of ?_; dsimp only; with_reducible refine kept_to ?_; first | with_reducible assumption | with_reducible apply domainFails_kept)

theorem execCompactionStart_kept {ip : State} (s : State) (hk : Kept ip s) :
    NextKept ip (execCompactionStart s) := by
  unfold execCompactionStart
  repeat' first
    | with_reducible assumption | with_reducible apply finish_kept | with_reducible apply beginCompaction_kept
    | intro _
    | (extract_lets +onlyGivenNames xk; first | (refine kept_cut (p := ip) xk ?_ ?_ <;> first | (intro hxk; clear_value xk) | subst xk) | subst xk)
    | with_reducible refine kept_ite ?_ ?_ | split
    | (refine kept_of ?_; dsimp only; with_reducible refine kept_to ?_; first | with_reducible assumption | with_reducible apply beginCompaction_kept)

theorem execCompactionDone_kept {ip : State} (s : State) (hk : Kept ip s) :
    NextKept ip (execCompactionDone s) := by
  unfold execCompactionDone
  repeat' first
    | with_reducible assumption | with_reducible apply finish_kept | with_reducible apply compactionDone_kept
    | intro _
    | (extract_lets +onlyGivenNames xk; first | (refine kept_cut (p := ip) xk ?_ ?_ <;> first | (intro hxk; clear_value xk) | subst xk) | subst xk)
    | with_reducible refine kept_ite ?_ ?_ | split
    | (refine kept_of ?_; dsimp only; with_reducible refine kept_to ?_; first | with_reducible assumption | with_reducible apply compactionDone_kept)

theorem execJournalFault_kept {ip : State} (s : State) (hk : Kept ip s) :
    NextKept ip (execJournalFault s) := by
  unfold execJournalFault
  repeat' first
    | with_reducible assumption | with_reducible apply finish_kept | with_reducible apply journalFails_kept | intro _
    | (extract_lets +onlyGivenNames xk; first | (refine kept_cut (p := ip) xk ?_ ?_ <;> first | (intro hxk; clear_value xk) | subst xk) | subst xk)
    | with_reducible refine kept_ite ?_ ?_ | split
    | (refine kept_of ?_; dsimp only; with_reducible refine kept_to ?_; first | with_reducible assumption | with_reducible apply journalFails_kept)

theorem execManagementHandover_kept {ip : State} (s : State) (hk : Kept ip s) :
    NextKept ip (execManagementHandover s) := by
  unfold execManagementHandover
  repeat' first
    | with_reducible assumption | with_reducible apply finish_kept | with_reducible apply handover_kept | intro _
    | (extract_lets +onlyGivenNames xk; first | (refine kept_cut (p := ip) xk ?_ ?_ <;> first | (intro hxk; clear_value xk) | subst xk) | subst xk)
    | with_reducible refine kept_ite ?_ ?_ | split
    | (refine kept_of ?_; dsimp only; with_reducible refine kept_to ?_; first | with_reducible assumption | with_reducible apply handover_kept)

theorem execHandoverTimeout_kept {ip : State} (s : State) (hk : Kept ip s) :
    NextKept ip (execHandoverTimeout s) := by
  unfold execHandoverTimeout
  repeat' first
    | with_reducible assumption | with_reducible apply finish_kept | with_reducible apply handoverTimeout_kept
    | intro _
    | (extract_lets +onlyGivenNames xk; first | (refine kept_cut (p := ip) xk ?_ ?_ <;> first | (intro hxk; clear_value xk) | subst xk) | subst xk)
    | with_reducible refine kept_ite ?_ ?_ | split
    | (refine kept_of ?_; dsimp only; with_reducible refine kept_to ?_; first | with_reducible assumption | with_reducible apply handoverTimeout_kept)

theorem execMicrocodeSwitch_kept {ip : State} (s : State) (hk : Kept ip s) :
    NextKept ip (execMicrocodeSwitch s) := by
  unfold execMicrocodeSwitch
  repeat' first
    | with_reducible assumption | with_reducible apply finish_kept | with_reducible apply microcode_kept | intro _
    | (extract_lets +onlyGivenNames xk; first | (refine kept_cut (p := ip) xk ?_ ?_ <;> first | (intro hxk; clear_value xk) | subst xk) | subst xk)
    | with_reducible refine kept_ite ?_ ?_ | split
    | (refine kept_of ?_; dsimp only; with_reducible refine kept_to ?_; first | with_reducible assumption | with_reducible apply microcode_kept)

theorem execImageSelfConfirm_kept {ip : State} (s : State) (hk : Kept ip s) :
    NextKept ip (execImageSelfConfirm s) := by
  unfold execImageSelfConfirm
  repeat' first
    | with_reducible assumption | with_reducible apply finish_kept | with_reducible apply confirmImage_kept | intro _
    | (extract_lets +onlyGivenNames xk; first | (refine kept_cut (p := ip) xk ?_ ?_ <;> first | (intro hxk; clear_value xk) | subst xk) | subst xk)
    | with_reducible refine kept_ite ?_ ?_ | split
    | (refine kept_of ?_; dsimp only; with_reducible refine kept_to ?_; first | with_reducible assumption | with_reducible apply confirmImage_kept)

theorem execTrialDeadline_kept {ip : State} (s : State) (hk : Kept ip s) :
    NextKept ip (execTrialDeadline s) := by
  unfold execTrialDeadline
  repeat' first
    | with_reducible assumption | with_reducible apply finish_kept | with_reducible apply endConfirm_kept
    | with_reducible apply fallBack_kept | intro _
    | (extract_lets +onlyGivenNames xk; first | (refine kept_cut (p := ip) xk ?_ ?_ <;> first | (intro hxk; clear_value xk) | subst xk) | subst xk)
    | with_reducible refine kept_ite ?_ ?_ | split
    | (refine kept_of ?_; dsimp only; with_reducible refine kept_to ?_; first | with_reducible assumption | with_reducible apply endConfirm_kept | with_reducible apply fallBack_kept)

theorem execDebugChallenge_kept {ip : State} (s : State) (hk : Kept ip s) :
    NextKept ip (execDebugChallenge s) := by
  unfold execDebugChallenge
  repeat' first
    | with_reducible assumption | with_reducible apply finish_kept | with_reducible apply challenge_kept | intro _
    | (extract_lets +onlyGivenNames xk; first | (refine kept_cut (p := ip) xk ?_ ?_ <;> first | (intro hxk; clear_value xk) | subst xk) | subst xk)
    | with_reducible refine kept_ite ?_ ?_ | split
    | (refine kept_of ?_; dsimp only; with_reducible refine kept_to ?_; first | with_reducible assumption | with_reducible apply challenge_kept)

theorem execDebugResponse_kept {ip : State} (vendorKey : Bytes) (vendorSig : Bytes) (custKey : Bytes) (custSig :
    Bytes) (s : State) (hk : Kept ip s) :
    NextKept ip (execDebugResponse vendorKey vendorSig custKey custSig s) := by
  unfold execDebugResponse
  repeat' first
    | with_reducible assumption | with_reducible apply finish_kept | with_reducible apply respond_kept | intro _
    | (extract_lets +onlyGivenNames xk; first | (refine kept_cut (p := ip) xk ?_ ?_ <;> first | (intro hxk; clear_value xk) | subst xk) | subst xk)
    | with_reducible refine kept_ite ?_ ?_ | split
    | (refine kept_of ?_; dsimp only; with_reducible refine kept_to ?_; first | with_reducible assumption | with_reducible apply respond_kept)

theorem execDebugReset_kept {ip : State} (s : State) (hk : Kept ip s) :
    NextKept ip (execDebugReset s) := by
  unfold execDebugReset
  repeat' first
    | with_reducible assumption | with_reducible apply finish_kept | with_reducible apply assertWarm_kept | intro _
    | (extract_lets +onlyGivenNames xk; first | (refine kept_cut (p := ip) xk ?_ ?_ <;> first | (intro hxk; clear_value xk) | subst xk) | subst xk)
    | with_reducible refine kept_ite ?_ ?_ | split
    | (refine kept_of ?_; dsimp only; with_reducible refine kept_to ?_; first | with_reducible assumption | with_reducible apply assertWarm_kept)

theorem execPowerOn_kept {ip : State} (x : SupplyEdge) (s : State) (hk : Kept ip s) :
    NextKept ip (execPowerOn x s) := by
  unfold execPowerOn
  repeat' first
    | with_reducible assumption | with_reducible apply finish_kept | with_reducible apply powerOn_kept | intro _
    | (extract_lets +onlyGivenNames xk; first | (refine kept_cut (p := ip) xk ?_ ?_ <;> first | (intro hxk; clear_value xk) | subst xk) | subst xk)
    | with_reducible refine kept_ite ?_ ?_ | split
    | (refine kept_of ?_; dsimp only; with_reducible refine kept_to ?_; first | with_reducible assumption | with_reducible apply powerOn_kept)

theorem execRailFault_kept {ip : State} (pd : Option Nat) (s : State) (hk : Kept ip s) :
    NextKept ip (execRailFault pd s) := by
  unfold execRailFault
  repeat' first
    | with_reducible assumption | with_reducible apply finish_kept | with_reducible apply assertCold_kept | intro _
    | (extract_lets +onlyGivenNames xk; first | (refine kept_cut (p := ip) xk ?_ ?_ <;> first | (intro hxk; clear_value xk) | subst xk) | subst xk)
    | with_reducible refine kept_ite ?_ ?_ | split
    | (refine kept_of ?_; dsimp only; with_reducible refine kept_to ?_; first | with_reducible assumption | with_reducible apply assertCold_kept)

theorem execClockFault_kept {ip : State} (s : State) (hk : Kept ip s) :
    NextKept ip (execClockFault s) := by
  unfold execClockFault
  repeat' first
    | with_reducible assumption | with_reducible apply finish_kept | with_reducible apply assertCold_kept | intro _
    | (extract_lets +onlyGivenNames xk; first | (refine kept_cut (p := ip) xk ?_ ?_ <;> first | (intro hxk; clear_value xk) | subst xk) | subst xk)
    | with_reducible refine kept_ite ?_ ?_ | split
    | (refine kept_of ?_; dsimp only; with_reducible refine kept_to ?_; first | with_reducible assumption | with_reducible apply assertCold_kept)

theorem execColdPin_kept {ip : State} (low : Bool) (s : State) (hk : Kept ip s) :
    NextKept ip (execColdPin low s) := by
  unfold execColdPin
  repeat' first
    | with_reducible assumption | with_reducible apply finish_kept | with_reducible apply coldPin_kept | intro _
    | (extract_lets +onlyGivenNames xk; first | (refine kept_cut (p := ip) xk ?_ ?_ <;> first | (intro hxk; clear_value xk) | subst xk) | subst xk)
    | with_reducible refine kept_ite ?_ ?_ | split
    | (refine kept_of ?_; dsimp only; with_reducible refine kept_to ?_; first | with_reducible assumption | with_reducible apply coldPin_kept)

theorem execWarmPin_kept {ip : State} (low : Bool) (s : State) (hk : Kept ip s) :
    NextKept ip (execWarmPin low s) := by
  unfold execWarmPin
  repeat' first
    | with_reducible assumption | with_reducible apply finish_kept | with_reducible apply warmPin_kept | intro _
    | (extract_lets +onlyGivenNames xk; first | (refine kept_cut (p := ip) xk ?_ ?_ <;> first | (intro hxk; clear_value xk) | subst xk) | subst xk)
    | with_reducible refine kept_ite ?_ ?_ | split
    | (refine kept_of ?_; dsimp only; with_reducible refine kept_to ?_; first | with_reducible assumption | with_reducible apply warmPin_kept)

theorem execGanderWarm_kept {ip : State} (s : State) (hk : Kept ip s) :
    NextKept ip (execGanderWarm s) := by
  unfold execGanderWarm
  repeat' first
    | with_reducible assumption | with_reducible apply finish_kept | with_reducible apply assertWarm_kept | intro _
    | (extract_lets +onlyGivenNames xk; first | (refine kept_cut (p := ip) xk ?_ ?_ <;> first | (intro hxk; clear_value xk) | subst xk) | subst xk)
    | with_reducible refine kept_ite ?_ ?_ | split
    | (refine kept_of ?_; dsimp only; with_reducible refine kept_to ?_; first | with_reducible assumption | with_reducible apply assertWarm_kept)

theorem execGanderKick_kept {ip : State} (s : State) (hk : Kept ip s) :
    NextKept ip (execGanderKick s) := finish_kept _ _ hk

theorem execGanderCold_kept {ip : State} (s : State) (hk : Kept ip s) :
    NextKept ip (execGanderCold s) := by
  unfold execGanderCold
  repeat' first
    | with_reducible assumption | with_reducible apply finish_kept | with_reducible apply assertCold_kept | intro _
    | (extract_lets +onlyGivenNames xk; first | (refine kept_cut (p := ip) xk ?_ ?_ <;> first | (intro hxk; clear_value xk) | subst xk) | subst xk)
    | with_reducible refine kept_ite ?_ ?_ | split
    | (refine kept_of ?_; dsimp only; with_reducible refine kept_to ?_; first | with_reducible assumption | with_reducible apply assertCold_kept)

theorem execThermal_kept {ip : State} (s : State) (hk : Kept ip s) :
    NextKept ip (execThermal s) := by
  unfold execThermal
  repeat' first
    | with_reducible assumption | with_reducible apply finish_kept | with_reducible apply thermal_kept | intro _
    | (extract_lets +onlyGivenNames xk; first | (refine kept_cut (p := ip) xk ?_ ?_ <;> first | (intro hxk; clear_value xk) | subst xk) | subst xk)
    | with_reducible refine kept_ite ?_ ?_ | split
    | (refine kept_of ?_; dsimp only; with_reducible refine kept_to ?_; first | with_reducible assumption | with_reducible apply thermal_kept)

theorem execThermalTripClear_kept {ip : State} (tenths : Int) (s : State) (hk : Kept ip s) :
    NextKept ip (execThermalTripClear tenths s) := by
  unfold execThermalTripClear
  repeat' first
    | with_reducible assumption | with_reducible apply finish_kept | with_reducible apply readHottest_kept | intro _
    | (extract_lets +onlyGivenNames xk; first | (refine kept_cut (p := ip) xk ?_ ?_ <;> first | (intro hxk; clear_value xk) | subst xk) | subst xk)
    | with_reducible refine kept_ite ?_ ?_ | split
    | (refine kept_of ?_; dsimp only; with_reducible refine kept_to ?_; first | with_reducible assumption | with_reducible apply readHottest_kept)

theorem execThermalWarn_kept {ip : State} (tenths : Int) (s : State) (hk : Kept ip s) :
    NextKept ip (execThermalWarn tenths s) := by
  unfold execThermalWarn
  repeat' first
    | with_reducible assumption | with_reducible apply finish_kept | with_reducible apply thermalWarn_kept | intro _
    | (extract_lets +onlyGivenNames xk; first | (refine kept_cut (p := ip) xk ?_ ?_ <;> first | (intro hxk; clear_value xk) | subst xk) | subst xk)
    | with_reducible refine kept_ite ?_ ?_ | split
    | (refine kept_of ?_; dsimp only; with_reducible refine kept_to ?_; first | with_reducible assumption | with_reducible apply thermalWarn_kept)

theorem execSensorFault_kept {ip : State} (sensor : Nat) (tenths : Int) (s : State) (hk : Kept ip s) :
    NextKept ip (execSensorFault sensor tenths s) := by
  unfold execSensorFault
  repeat' first
    | with_reducible assumption | with_reducible apply finish_kept | with_reducible apply envNote_kept | intro _
    | (extract_lets +onlyGivenNames xk; first | (refine kept_cut (p := ip) xk ?_ ?_ <;> first | (intro hxk; clear_value xk) | subst xk) | subst xk)
    | with_reducible refine kept_ite ?_ ?_ | split
    | (refine kept_of ?_; dsimp only; with_reducible refine kept_to ?_; first | with_reducible assumption | with_reducible apply envNote_kept)

theorem execVinOvervoltage_kept {ip : State} (millivolts : Nat) (s : State) (hk : Kept ip s) :
    NextKept ip (execVinOvervoltage millivolts s) := finish_kept _ _ hk

theorem execColdRelease_kept {ip : State} (s : State) (hk : Kept ip s) :
    NextKept ip (execColdRelease s) := by
  unfold execColdRelease
  repeat' first
    | with_reducible assumption | with_reducible apply finish_kept | with_reducible apply coldRelease_kept | intro _
    | (extract_lets +onlyGivenNames xk; first | (refine kept_cut (p := ip) xk ?_ ?_ <;> first | (intro hxk; clear_value xk) | subst xk) | subst xk)
    | with_reducible refine kept_ite ?_ ?_ | split
    | (refine kept_of ?_; dsimp only; with_reducible refine kept_to ?_; first | with_reducible assumption | with_reducible apply coldRelease_kept)

theorem execWarmRelease_kept {ip : State} (s : State) (hk : Kept ip s) :
    NextKept ip (execWarmRelease s) := by
  unfold execWarmRelease
  repeat' first
    | with_reducible assumption | with_reducible apply finish_kept | with_reducible apply warmRelease_kept | intro _
    | (extract_lets +onlyGivenNames xk; first | (refine kept_cut (p := ip) xk ?_ ?_ <;> first | (intro hxk; clear_value xk) | subst xk) | subst xk)
    | with_reducible refine kept_ite ?_ ?_ | split
    | (refine kept_of ?_; dsimp only; with_reducible refine kept_to ?_; first | with_reducible assumption | with_reducible apply warmRelease_kept)

theorem execOptionLoadRetry_kept {ip : State} (s : State) (hk : Kept ip s) :
    NextKept ip (execOptionLoadRetry s) := by
  unfold execOptionLoadRetry
  repeat' first
    | with_reducible assumption | with_reducible apply finish_kept | with_reducible apply optionTry_kept
    | with_reducible apply coldRelease_kept | intro _
    | (extract_lets +onlyGivenNames xk; first | (refine kept_cut (p := ip) xk ?_ ?_ <;> first | (intro hxk; clear_value xk) | subst xk) | subst xk)
    | with_reducible refine kept_ite ?_ ?_ | split
    | (refine kept_of ?_; dsimp only; with_reducible refine kept_to ?_; first | with_reducible assumption | with_reducible apply optionTry_kept | with_reducible apply coldRelease_kept)

theorem execTrimLoadRetry_kept {ip : State} (copyOk : Bool) (s : State) (hk : Kept ip s) :
    NextKept ip (execTrimLoadRetry copyOk s) := by
  unfold execTrimLoadRetry
  repeat' first
    | with_reducible assumption | with_reducible apply finish_kept | with_reducible apply stepTrim_kept
    | with_reducible apply coldRelease_kept | with_reducible apply readTrim_kept | intro _
    | (extract_lets +onlyGivenNames xk; first | (refine kept_cut (p := ip) xk ?_ ?_ <;> first | (intro hxk; clear_value xk) | subst xk) | subst xk)
    | with_reducible refine kept_ite ?_ ?_ | split
    | (refine kept_of ?_; dsimp only; with_reducible refine kept_to ?_; first | with_reducible assumption | with_reducible apply stepTrim_kept | with_reducible apply coldRelease_kept | with_reducible apply readTrim_kept)

theorem execXoCheckRetry_kept {ip : State} (ok : Bool) (s : State) (hk : Kept ip s) :
    NextKept ip (execXoCheckRetry ok s) := by
  unfold execXoCheckRetry
  repeat' first
    | with_reducible assumption | with_reducible apply finish_kept | with_reducible apply stepXo_kept
    | with_reducible apply coldRelease_kept | intro _
    | (extract_lets +onlyGivenNames xk; first | (refine kept_cut (p := ip) xk ?_ ?_ <;> first | (intro hxk; clear_value xk) | subst xk) | subst xk)
    | with_reducible refine kept_ite ?_ ?_ | split
    | (refine kept_of ?_; dsimp only; with_reducible refine kept_to ?_; first | with_reducible assumption | with_reducible apply stepXo_kept | with_reducible apply coldRelease_kept)

theorem execSafeRestartEntry_kept {ip : State} (s : State) (hk : Kept ip s) :
    NextKept ip (execSafeRestartEntry s) := by
  unfold execSafeRestartEntry
  repeat' first
    | with_reducible assumption | with_reducible apply finish_kept | with_reducible apply safeEntry_kept | intro _
    | (extract_lets +onlyGivenNames xk; first | (refine kept_cut (p := ip) xk ?_ ?_ <;> first | (intro hxk; clear_value xk) | subst xk) | subst xk)
    | with_reducible refine kept_ite ?_ ?_ | split
    | (refine kept_of ?_; dsimp only; with_reducible refine kept_to ?_; first | with_reducible assumption | with_reducible apply safeEntry_kept)

theorem execPowerFailWarning_kept {ip : State} (src : PfwSource) (s : State) (hk : Kept ip s) :
    NextKept ip (execPowerFailWarning src s) := by
  unfold execPowerFailWarning
  repeat' first
    | with_reducible assumption | with_reducible apply finish_kept | with_reducible apply powerFail_kept | intro _
    | (extract_lets +onlyGivenNames xk; first | (refine kept_cut (p := ip) xk ?_ ?_ <;> first | (intro hxk; clear_value xk) | subst xk) | subst xk)
    | with_reducible refine kept_ite ?_ ?_ | split
    | (refine kept_of ?_; dsimp only; with_reducible refine kept_to ?_; first | with_reducible assumption | with_reducible apply powerFail_kept)

theorem execPfwClear_kept {ip : State} (s : State) (hk : Kept ip s) :
    NextKept ip (execPfwClear s) := by
  unfold execPfwClear
  repeat' first
    | with_reducible assumption | with_reducible apply finish_kept | with_reducible apply pfwClear_kept | intro _
    | (extract_lets +onlyGivenNames xk; first | (refine kept_cut (p := ip) xk ?_ ?_ <;> first | (intro hxk; clear_value xk) | subst xk) | subst xk)
    | with_reducible refine kept_ite ?_ ?_ | split
    | (refine kept_of ?_; dsimp only; with_reducible refine kept_to ?_; first | with_reducible assumption | with_reducible apply pfwClear_kept)

theorem execVbakCheck_kept {ip : State} (millivolts : Nat) (s : State) (hk : Kept ip s) :
    NextKept ip (execVbakCheck millivolts s) := by
  unfold execVbakCheck
  repeat' first
    | with_reducible assumption | with_reducible apply finish_kept | with_reducible apply envNote_kept | intro _
    | (extract_lets +onlyGivenNames xk; first | (refine kept_cut (p := ip) xk ?_ ?_ <;> first | (intro hxk; clear_value xk) | subst xk) | subst xk)
    | with_reducible refine kept_ite ?_ ?_ | split
    | (refine kept_of ?_; dsimp only; with_reducible refine kept_to ?_; first | with_reducible assumption | with_reducible apply envNote_kept)

theorem execClearFaults_kept {ip : State} (pec : Pec) (s : State) (hk : Kept ip s) :
    NextKept ip (execClearFaults pec s) := by
  unfold execClearFaults
  repeat' first
    | with_reducible assumption | with_reducible apply finish_kept | with_reducible apply setCml_kept
    | with_reducible apply i2cWrite_kept | with_reducible apply clearFaults_kept | intro _
    | (extract_lets +onlyGivenNames xk; first | (refine kept_cut (p := ip) xk ?_ ?_ <;> first | (intro hxk; clear_value xk) | subst xk) | subst xk)
    | with_reducible refine kept_ite ?_ ?_ | split
    | (refine kept_of ?_; dsimp only; with_reducible refine kept_to ?_; first | with_reducible assumption | with_reducible apply setCml_kept | with_reducible apply i2cWrite_kept | with_reducible apply clearFaults_kept)

theorem execCapability_kept {ip : State} (_pec : Pec) (s : State) (hk : Kept ip s) :
    NextKept ip (execCapability _pec s) := by
  unfold execCapability
  repeat' first
    | with_reducible assumption | with_reducible apply finish_kept | with_reducible apply i2cRead_kept | intro _
    | (extract_lets +onlyGivenNames xk; first | (refine kept_cut (p := ip) xk ?_ ?_ <;> first | (intro hxk; clear_value xk) | subst xk) | subst xk)
    | with_reducible refine kept_ite ?_ ?_ | split
    | (refine kept_of ?_; dsimp only; with_reducible refine kept_to ?_; first | with_reducible assumption | with_reducible apply i2cRead_kept)

theorem execStatusWord_kept {ip : State} (_pec : Pec) (s : State) (hk : Kept ip s) :
    NextKept ip (execStatusWord _pec s) := by
  unfold execStatusWord
  repeat' first
    | with_reducible assumption | with_reducible apply finish_kept | with_reducible apply i2cRead_kept | intro _
    | (extract_lets +onlyGivenNames xk; first | (refine kept_cut (p := ip) xk ?_ ?_ <;> first | (intro hxk; clear_value xk) | subst xk) | subst xk)
    | with_reducible refine kept_ite ?_ ?_ | split
    | (refine kept_of ?_; dsimp only; with_reducible refine kept_to ?_; first | with_reducible assumption | with_reducible apply i2cRead_kept)

theorem execStatusInput_kept {ip : State} (_pec : Pec) (s : State) (hk : Kept ip s) :
    NextKept ip (execStatusInput _pec s) := by
  unfold execStatusInput
  repeat' first
    | with_reducible assumption | with_reducible apply finish_kept | with_reducible apply i2cRead_kept | intro _
    | (extract_lets +onlyGivenNames xk; first | (refine kept_cut (p := ip) xk ?_ ?_ <;> first | (intro hxk; clear_value xk) | subst xk) | subst xk)
    | with_reducible refine kept_ite ?_ ?_ | split
    | (refine kept_of ?_; dsimp only; with_reducible refine kept_to ?_; first | with_reducible assumption | with_reducible apply i2cRead_kept)

theorem execStatusTemperature_kept {ip : State} (_pec : Pec) (s : State) (hk : Kept ip s) :
    NextKept ip (execStatusTemperature _pec s) := by
  unfold execStatusTemperature
  repeat' first
    | with_reducible assumption | with_reducible apply finish_kept | with_reducible apply i2cRead_kept | intro _
    | (extract_lets +onlyGivenNames xk; first | (refine kept_cut (p := ip) xk ?_ ?_ <;> first | (intro hxk; clear_value xk) | subst xk) | subst xk)
    | with_reducible refine kept_ite ?_ ?_ | split
    | (refine kept_of ?_; dsimp only; with_reducible refine kept_to ?_; first | with_reducible assumption | with_reducible apply i2cRead_kept)

theorem execStatusCml_kept {ip : State} (_pec : Pec) (s : State) (hk : Kept ip s) :
    NextKept ip (execStatusCml _pec s) := by
  unfold execStatusCml
  repeat' first
    | with_reducible assumption | with_reducible apply finish_kept | with_reducible apply i2cRead_kept | intro _
    | (extract_lets +onlyGivenNames xk; first | (refine kept_cut (p := ip) xk ?_ ?_ <;> first | (intro hxk; clear_value xk) | subst xk) | subst xk)
    | with_reducible refine kept_ite ?_ ?_ | split
    | (refine kept_of ?_; dsimp only; with_reducible refine kept_to ?_; first | with_reducible assumption | with_reducible apply i2cRead_kept)

theorem execStatusMfrSpecific_kept {ip : State} (_pec : Pec) (s : State) (hk : Kept ip s) :
    NextKept ip (execStatusMfrSpecific _pec s) := by
  unfold execStatusMfrSpecific
  repeat' first
    | with_reducible assumption | with_reducible apply finish_kept | with_reducible apply i2cRead_kept | intro _
    | (extract_lets +onlyGivenNames xk; first | (refine kept_cut (p := ip) xk ?_ ?_ <;> first | (intro hxk; clear_value xk) | subst xk) | subst xk)
    | with_reducible refine kept_ite ?_ ?_ | split
    | (refine kept_of ?_; dsimp only; with_reducible refine kept_to ?_; first | with_reducible assumption | with_reducible apply i2cRead_kept)

theorem execReadVin_kept {ip : State} (_pec : Pec) (s : State) (hk : Kept ip s) :
    NextKept ip (execReadVin _pec s) := by
  unfold execReadVin
  repeat' first
    | with_reducible assumption | with_reducible apply finish_kept | with_reducible apply i2cRead_kept | intro _
    | (extract_lets +onlyGivenNames xk; first | (refine kept_cut (p := ip) xk ?_ ?_ <;> first | (intro hxk; clear_value xk) | subst xk) | subst xk)
    | with_reducible refine kept_ite ?_ ?_ | split
    | (refine kept_of ?_; dsimp only; with_reducible refine kept_to ?_; first | with_reducible assumption | with_reducible apply i2cRead_kept)

theorem execReadIin_kept {ip : State} (_pec : Pec) (s : State) (hk : Kept ip s) :
    NextKept ip (execReadIin _pec s) := by
  unfold execReadIin
  repeat' first
    | with_reducible assumption | with_reducible apply finish_kept | with_reducible apply i2cRead_kept
    | with_reducible apply withCurrent_kept | intro _
    | (extract_lets +onlyGivenNames xk; first | (refine kept_cut (p := ip) xk ?_ ?_ <;> first | (intro hxk; clear_value xk) | subst xk) | subst xk)
    | with_reducible refine kept_ite ?_ ?_ | split
    | (refine kept_of ?_; dsimp only; with_reducible refine kept_to ?_; first | with_reducible assumption | with_reducible apply i2cRead_kept | with_reducible apply withCurrent_kept)

theorem execReadTemperature1_kept {ip : State} (_pec : Pec) (s : State) (hk : Kept ip s) :
    NextKept ip (execReadTemperature1 _pec s) := by
  unfold execReadTemperature1
  repeat' first
    | with_reducible assumption | with_reducible apply finish_kept | with_reducible apply i2cRead_kept | intro _
    | (extract_lets +onlyGivenNames xk; first | (refine kept_cut (p := ip) xk ?_ ?_ <;> first | (intro hxk; clear_value xk) | subst xk) | subst xk)
    | with_reducible refine kept_ite ?_ ?_ | split
    | (refine kept_of ?_; dsimp only; with_reducible refine kept_to ?_; first | with_reducible assumption | with_reducible apply i2cRead_kept)

theorem execReadPin_kept {ip : State} (_pec : Pec) (s : State) (hk : Kept ip s) :
    NextKept ip (execReadPin _pec s) := by
  unfold execReadPin
  repeat' first
    | with_reducible assumption | with_reducible apply finish_kept | with_reducible apply i2cRead_kept
    | with_reducible apply withCurrent_kept | intro _
    | (extract_lets +onlyGivenNames xk; first | (refine kept_cut (p := ip) xk ?_ ?_ <;> first | (intro hxk; clear_value xk) | subst xk) | subst xk)
    | with_reducible refine kept_ite ?_ ?_ | split
    | (refine kept_of ?_; dsimp only; with_reducible refine kept_to ?_; first | with_reducible assumption | with_reducible apply i2cRead_kept | with_reducible apply withCurrent_kept)

theorem execPmbusRevision_kept {ip : State} (_pec : Pec) (s : State) (hk : Kept ip s) :
    NextKept ip (execPmbusRevision _pec s) := by
  unfold execPmbusRevision
  repeat' first
    | with_reducible assumption | with_reducible apply finish_kept | with_reducible apply i2cRead_kept | intro _
    | (extract_lets +onlyGivenNames xk; first | (refine kept_cut (p := ip) xk ?_ ?_ <;> first | (intro hxk; clear_value xk) | subst xk) | subst xk)
    | with_reducible refine kept_ite ?_ ?_ | split
    | (refine kept_of ?_; dsimp only; with_reducible refine kept_to ?_; first | with_reducible assumption | with_reducible apply i2cRead_kept)

theorem execMfrId_kept {ip : State} (_pec : Pec) (s : State) (hk : Kept ip s) :
    NextKept ip (execMfrId _pec s) := by
  unfold execMfrId
  repeat' first
    | with_reducible assumption | with_reducible apply finish_kept | with_reducible apply i2cRead_kept | intro _
    | (extract_lets +onlyGivenNames xk; first | (refine kept_cut (p := ip) xk ?_ ?_ <;> first | (intro hxk; clear_value xk) | subst xk) | subst xk)
    | with_reducible refine kept_ite ?_ ?_ | split
    | (refine kept_of ?_; dsimp only; with_reducible refine kept_to ?_; first | with_reducible assumption | with_reducible apply i2cRead_kept)

theorem execMfrModel_kept {ip : State} (_pec : Pec) (s : State) (hk : Kept ip s) :
    NextKept ip (execMfrModel _pec s) := by
  unfold execMfrModel
  repeat' first
    | with_reducible assumption | with_reducible apply finish_kept | with_reducible apply i2cRead_kept | intro _
    | (extract_lets +onlyGivenNames xk; first | (refine kept_cut (p := ip) xk ?_ ?_ <;> first | (intro hxk; clear_value xk) | subst xk) | subst xk)
    | with_reducible refine kept_ite ?_ ?_ | split
    | (refine kept_of ?_; dsimp only; with_reducible refine kept_to ?_; first | with_reducible assumption | with_reducible apply i2cRead_kept)

theorem execMfrRevision_kept {ip : State} (_pec : Pec) (s : State) (hk : Kept ip s) :
    NextKept ip (execMfrRevision _pec s) := by
  unfold execMfrRevision
  repeat' first
    | with_reducible assumption | with_reducible apply finish_kept | with_reducible apply i2cRead_kept | intro _
    | (extract_lets +onlyGivenNames xk; first | (refine kept_cut (p := ip) xk ?_ ?_ <;> first | (intro hxk; clear_value xk) | subst xk) | subst xk)
    | with_reducible refine kept_ite ?_ ?_ | split
    | (refine kept_of ?_; dsimp only; with_reducible refine kept_to ?_; first | with_reducible assumption | with_reducible apply i2cRead_kept)

theorem execMfrSerial_kept {ip : State} (_pec : Pec) (s : State) (hk : Kept ip s) :
    NextKept ip (execMfrSerial _pec s) := by
  unfold execMfrSerial
  repeat' first
    | with_reducible assumption | with_reducible apply finish_kept | with_reducible apply i2cRead_kept | intro _
    | (extract_lets +onlyGivenNames xk; first | (refine kept_cut (p := ip) xk ?_ ?_ <;> first | (intro hxk; clear_value xk) | subst xk) | subst xk)
    | with_reducible refine kept_ite ?_ ?_ | split
    | (refine kept_of ?_; dsimp only; with_reducible refine kept_to ?_; first | with_reducible assumption | with_reducible apply i2cRead_kept)

theorem execMfrModuleState_kept {ip : State} (_pec : Pec) (s : State) (hk : Kept ip s) :
    NextKept ip (execMfrModuleState _pec s) := by
  unfold execMfrModuleState
  repeat' first
    | with_reducible assumption | with_reducible apply finish_kept | with_reducible apply i2cRead_kept | intro _
    | (extract_lets +onlyGivenNames xk; first | (refine kept_cut (p := ip) xk ?_ ?_ <;> first | (intro hxk; clear_value xk) | subst xk) | subst xk)
    | with_reducible refine kept_ite ?_ ?_ | split
    | (refine kept_of ?_; dsimp only; with_reducible refine kept_to ?_; first | with_reducible assumption | with_reducible apply i2cRead_kept)

theorem execMfrReset_kept {ip : State} (pec : Pec) (key : Word32) (s : State) (hk : Kept ip s) :
    NextKept ip (execMfrReset pec key s) := by
  unfold execMfrReset
  repeat' first
    | with_reducible assumption | with_reducible apply finish_kept | with_reducible apply i2cWrite_kept
    | with_reducible apply mfrReset_kept | intro _
    | (extract_lets +onlyGivenNames xk; first | (refine kept_cut (p := ip) xk ?_ ?_ <;> first | (intro hxk; clear_value xk) | subst xk) | subst xk)
    | with_reducible refine kept_ite ?_ ?_ | split
    | (refine kept_of ?_; dsimp only; with_reducible refine kept_to ?_; first | with_reducible assumption | with_reducible apply i2cWrite_kept | with_reducible apply mfrReset_kept)

theorem execMfrResetHistory_kept {ip : State} (_pec : Pec) (s : State) (hk : Kept ip s) :
    NextKept ip (execMfrResetHistory _pec s) := by
  unfold execMfrResetHistory
  repeat' first
    | with_reducible assumption | with_reducible apply finish_kept | with_reducible apply i2cRead_kept | intro _
    | (extract_lets +onlyGivenNames xk; first | (refine kept_cut (p := ip) xk ?_ ?_ <;> first | (intro hxk; clear_value xk) | subst xk) | subst xk)
    | with_reducible refine kept_ite ?_ ?_ | split
    | (refine kept_of ?_; dsimp only; with_reducible refine kept_to ?_; first | with_reducible assumption | with_reducible apply i2cRead_kept)

theorem execMfrReadVbak_kept {ip : State} (_pec : Pec) (s : State) (hk : Kept ip s) :
    NextKept ip (execMfrReadVbak _pec s) := by
  unfold execMfrReadVbak
  repeat' first
    | with_reducible assumption | with_reducible apply finish_kept | with_reducible apply i2cRead_kept | intro _
    | (extract_lets +onlyGivenNames xk; first | (refine kept_cut (p := ip) xk ?_ ?_ <;> first | (intro hxk; clear_value xk) | subst xk) | subst xk)
    | with_reducible refine kept_ite ?_ ?_ | split
    | (refine kept_of ?_; dsimp only; with_reducible refine kept_to ?_; first | with_reducible assumption | with_reducible apply i2cRead_kept)

theorem execI2cInvalidCommand_kept {ip : State} (badData : Bool) (s : State) (hk : Kept ip s) :
    NextKept ip (execI2cInvalidCommand badData s) := by
  unfold execI2cInvalidCommand
  repeat' first
    | with_reducible assumption | with_reducible apply finish_kept | with_reducible apply setCml_kept
    | with_reducible apply i2cWrite_kept | intro _
    | (extract_lets +onlyGivenNames xk; first | (refine kept_cut (p := ip) xk ?_ ?_ <;> first | (intro hxk; clear_value xk) | subst xk) | subst xk)
    | with_reducible refine kept_ite ?_ ?_ | split
    | (refine kept_of ?_; dsimp only; with_reducible refine kept_to ?_; first | with_reducible assumption | with_reducible apply setCml_kept | with_reducible apply i2cWrite_kept)

theorem execFrameStart_kept {ip : State} (s : State) (hk : Kept ip s) :
    NextKept ip (execFrameStart s) := by
  unfold execFrameStart
  repeat' first
    | with_reducible assumption | with_reducible apply finish_kept | with_reducible apply frameStart_kept | intro _
    | (extract_lets +onlyGivenNames xk; first | (refine kept_cut (p := ip) xk ?_ ?_ <;> first | (intro hxk; clear_value xk) | subst xk) | subst xk)
    | with_reducible refine kept_ite ?_ ?_ | split
    | (refine kept_of ?_; dsimp only; with_reducible refine kept_to ?_; first | with_reducible assumption | with_reducible apply frameStart_kept)

theorem execReadinessPoint_kept {ip : State} (s : State) (hk : Kept ip s) :
    NextKept ip (execReadinessPoint s) := by
  unfold execReadinessPoint
  repeat' first
    | with_reducible assumption | with_reducible apply finish_kept | with_reducible apply readiness_kept
    | with_reducible apply runStep_kept | intro _
    | (extract_lets +onlyGivenNames xk; first | (refine kept_cut (p := ip) xk ?_ ?_ <;> first | (intro hxk; clear_value xk) | subst xk) | subst xk)
    | with_reducible refine kept_ite ?_ ?_ | split
    | (refine kept_of ?_; dsimp only; with_reducible refine kept_to ?_; first | with_reducible assumption | with_reducible apply readiness_kept | with_reducible apply runStep_kept)

theorem execFinalPoint_kept {ip : State} (s : State) (hk : Kept ip s) :
    NextKept ip (execFinalPoint s) := by
  unfold execFinalPoint
  repeat' first
    | with_reducible assumption | with_reducible apply finish_kept | with_reducible apply finalPoint_kept
    | with_reducible apply runStep_kept | intro _
    | (extract_lets +onlyGivenNames xk; first | (refine kept_cut (p := ip) xk ?_ ?_ <;> first | (intro hxk; clear_value xk) | subst xk) | subst xk)
    | with_reducible refine kept_ite ?_ ?_ | split
    | (refine kept_of ?_; dsimp only; with_reducible refine kept_to ?_; first | with_reducible assumption | with_reducible apply finalPoint_kept | with_reducible apply runStep_kept)

theorem execCommitSwap_kept {ip : State} (s : State) (hk : Kept ip s) :
    NextKept ip (execCommitSwap s) := by
  unfold execCommitSwap
  repeat' first
    | with_reducible assumption | with_reducible apply finish_kept | with_reducible apply commitSwap_kept
    | with_reducible apply runStep_kept | intro _
    | (extract_lets +onlyGivenNames xk; first | (refine kept_cut (p := ip) xk ?_ ?_ <;> first | (intro hxk; clear_value xk) | subst xk) | subst xk)
    | with_reducible refine kept_ite ?_ ?_ | split
    | (refine kept_of ?_; dsimp only; with_reducible refine kept_to ?_; first | with_reducible assumption | with_reducible apply commitSwap_kept | with_reducible apply runStep_kept)

theorem execRoleTakeEffect_kept {ip : State} (s : State) (hk : Kept ip s) :
    NextKept ip (execRoleTakeEffect s) := by
  unfold execRoleTakeEffect
  repeat' first
    | with_reducible assumption | with_reducible apply finish_kept | with_reducible apply roleTake_kept
    | with_reducible apply runStep_kept | intro _
    | (extract_lets +onlyGivenNames xk; first | (refine kept_cut (p := ip) xk ?_ ?_ <;> first | (intro hxk; clear_value xk) | subst xk) | subst xk)
    | with_reducible refine kept_ite ?_ ?_ | split
    | (refine kept_of ?_; dsimp only; with_reducible refine kept_to ?_; first | with_reducible assumption | with_reducible apply roleTake_kept | with_reducible apply runStep_kept)

theorem execLeaseEnd_kept {ip : State} (s : State) (hk : Kept ip s) :
    NextKept ip (execLeaseEnd s) := by
  unfold execLeaseEnd
  repeat' first
    | with_reducible assumption | with_reducible apply finish_kept | with_reducible apply leaseEnds_kept
    | with_reducible apply runStep_kept | intro _
    | (extract_lets +onlyGivenNames xk; first | (refine kept_cut (p := ip) xk ?_ ?_ <;> first | (intro hxk; clear_value xk) | subst xk) | subst xk)
    | with_reducible refine kept_ite ?_ ?_ | split
    | (refine kept_of ?_; dsimp only; with_reducible refine kept_to ?_; first | with_reducible assumption | with_reducible apply leaseEnds_kept | with_reducible apply runStep_kept)

theorem execForcedTakeover_kept {ip : State} (s : State) (hk : Kept ip s) :
    NextKept ip (execForcedTakeover s) := by
  unfold execForcedTakeover
  repeat' first
    | with_reducible assumption | with_reducible apply finish_kept | with_reducible apply forcedTakeover_kept
    | with_reducible apply runStep_kept | intro _
    | (extract_lets +onlyGivenNames xk; first | (refine kept_cut (p := ip) xk ?_ ?_ <;> first | (intro hxk; clear_value xk) | subst xk) | subst xk)
    | with_reducible refine kept_ite ?_ ?_ | split
    | (refine kept_of ?_; dsimp only; with_reducible refine kept_to ?_; first | with_reducible assumption | with_reducible apply forcedTakeover_kept | with_reducible apply runStep_kept)

theorem execPageRestore_kept {ip : State} (s : State) (hk : Kept ip s) :
    NextKept ip (execPageRestore s) := by
  unfold execPageRestore
  repeat' first
    | with_reducible assumption | with_reducible apply finish_kept | with_reducible apply pageRestore_kept
    | with_reducible apply runStep_kept | intro _
    | (extract_lets +onlyGivenNames xk; first | (refine kept_cut (p := ip) xk ?_ ?_ <;> first | (intro hxk; clear_value xk) | subst xk) | subst xk)
    | with_reducible refine kept_ite ?_ ?_ | split
    | (refine kept_of ?_; dsimp only; with_reducible refine kept_to ?_; first | with_reducible assumption | with_reducible apply pageRestore_kept | with_reducible apply runStep_kept)

theorem execHoldOffExpiry_kept {ip : State} (t : Tier) (i : Nat) (l : Leg) (s : State) (hk : Kept ip s) :
    NextKept ip (execHoldOffExpiry t i l s) := by
  unfold execHoldOffExpiry
  repeat' first
    | with_reducible assumption | with_reducible apply finish_kept | with_reducible apply holdOffEnds_kept | intro _
    | (extract_lets +onlyGivenNames xk; first | (refine kept_cut (p := ip) xk ?_ ?_ <;> first | (intro hxk; clear_value xk) | subst xk) | subst xk)
    | with_reducible refine kept_ite ?_ ?_ | split
    | (refine kept_of ?_; dsimp only; with_reducible refine kept_to ?_; first | with_reducible assumption | with_reducible apply holdOffEnds_kept)

theorem execWtrExpiry_kept {ip : State} (t : Tier) (i : Nat) (s : State) (hk : Kept ip s) :
    NextKept ip (execWtrExpiry t i s) := by
  unfold execWtrExpiry
  repeat' first
    | with_reducible assumption | with_reducible apply finish_kept | with_reducible apply wtrEnds_kept | intro _
    | (extract_lets +onlyGivenNames xk; first | (refine kept_cut (p := ip) xk ?_ ?_ <;> first | (intro hxk; clear_value xk) | subst xk) | subst xk)
    | with_reducible refine kept_ite ?_ ?_ | split
    | (refine kept_of ?_; dsimp only; with_reducible refine kept_to ?_; first | with_reducible assumption | with_reducible apply wtrEnds_kept)

end Sys2Proof.Laws
end

