-- ==== Sys2Proof/Laws/State.lean ====
section
/-! SUPPORT. What the shared operations leave: one lemma for each field that raising a cause, counting a happening and
entering a completion write or keep, so that no proof need unfold a record update. -/
namespace Sys2Proof.Machine

@[simp] theorem raise_pending (g b : Nat) (s : State) : (raise g b s).pending = s.pending := rfl
@[simp] theorem raise_mode (g b : Nat) (s : State) : (raise g b s).mode = s.mode := rfl
@[simp] theorem raise_clk (g b : Nat) (s : State) : (raise g b s).clk = s.clk := rfl
@[simp] theorem raise_rst (g b : Nat) (s : State) : (raise g b s).rst = s.rst := rfl
@[simp] theorem raise_bak (g b : Nat) (s : State) : (raise g b s).bak = s.bak := rfl
@[simp] theorem raise_fuse (g b : Nat) (s : State) : (raise g b s).fuse = s.fuse := rfl
@[simp] theorem raise_flash (g b : Nat) (s : State) : (raise g b s).flash = s.flash := rfl
@[simp] theorem raise_jrn (g b : Nat) (s : State) : (raise g b s).jrn = s.jrn := rfl
@[simp] theorem raise_cfg (g b : Nat) (s : State) : (raise g b s).cfg = s.cfg := rfl
@[simp] theorem raise_page (g b : Nat) (s : State) : (raise g b s).page = s.page := rfl
@[simp] theorem raise_prot (g b : Nat) (s : State) : (raise g b s).prot = s.prot := rfl
@[simp] theorem raise_dft (g b : Nat) (s : State) : (raise g b s).dft = s.dft := rfl
@[simp] theorem raise_lane (g b : Nat) (s : State) : (raise g b s).lane = s.lane := rfl
@[simp] theorem raise_car (g b : Nat) (s : State) : (raise g b s).car = s.car := rfl
@[simp] theorem raise_pm (g b : Nat) (s : State) : (raise g b s).pm = s.pm := rfl
@[simp] theorem raise_tim (g b : Nat) (s : State) : (raise g b s).tim = s.tim := rfl
@[simp] theorem raise_twin (g b : Nat) (s : State) : (raise g b s).twin = s.twin := rfl
@[simp] theorem raise_grp (g b : Nat) (s : State) : (raise g b s).grp = s.grp := rfl
@[simp] theorem raise_dma (g b : Nat) (s : State) : (raise g b s).dma = s.dma := rfl
@[simp] theorem raise_pwr (g b : Nat) (s : State) : (raise g b s).pwr = s.pwr := rfl
@[simp] theorem raise_eng (g b : Nat) (s : State) : (raise g b s).eng = s.eng := rfl
@[simp] theorem raise_bel (g b : Nat) (s : State) : (raise g b s).bel = s.bel := rfl
@[simp] theorem raise_i2c (g b : Nat) (s : State) : (raise g b s).i2c = s.i2c := rfl
@[simp] theorem raise_img (g b : Nat) (s : State) : (raise g b s).img = s.img := rfl
@[simp] theorem raise_dbg (g b : Nat) (s : State) : (raise g b s).dbg = s.dbg := rfl
@[simp] theorem raise_tx (g b : Nat) (s : State) : (raise g b s).tx = s.tx := rfl
@[simp] theorem raise_draws (g b : Nat) (s : State) : (raise g b s).draws = s.draws := rfl
@[simp] theorem raise_host_mem (g b : Nat) (s : State) : (raise g b s).host.mem = s.host.mem := rfl
@[simp] theorem raise_host_bulkFail (g b : Nat) (s : State) : (raise g b s).host.bulkFail = s.host.bulkFail := rfl
@[simp] theorem raise_host_bulkBursts (g b : Nat) (s : State) : (raise g b s).host.bulkBursts = s.host.bulkBursts := rfl
@[simp] theorem raise_host_linkUp (g b : Nat) (s : State) : (raise g b s).host.linkUp = s.host.linkUp := rfl
@[simp] theorem raise_host_pcie (g b : Nat) (s : State) : (raise g b s).host.pcie = s.host.pcie := rfl
@[simp] theorem raise_host_busMaster (g b : Nat) (s : State) : (raise g b s).host.busMaster = s.host.busMaster := rfl
@[simp] theorem raise_host_d3hot (g b : Nat) (s : State) : (raise g b s).host.d3hot = s.host.d3hot := rfl
@[simp] theorem raise_host_perst (g b : Nat) (s : State) : (raise g b s).host.perst = s.host.perst := rfl
@[simp] theorem raise_host_lock (g b : Nat) (s : State) : (raise g b s).host.lock = s.host.lock := rfl
@[simp] theorem raise_host_tag (g b : Nat) (s : State) : (raise g b s).host.tag = s.host.tag := rfl
@[simp] theorem raise_host_cmd (g b : Nat) (s : State) : (raise g b s).host.cmd = s.host.cmd := rfl
@[simp] theorem raise_host_cpl (g b : Nat) (s : State) : (raise g b s).host.cpl = s.host.cpl := rfl
@[simp] theorem raise_host_evt (g b : Nat) (s : State) : (raise g b s).host.evt = s.host.evt := rfl
@[simp] theorem raise_host_heldLow (g b : Nat) (s : State) : (raise g b s).host.heldLow = s.host.heldLow := rfl
@[simp] theorem raise_host_latched (g b : Nat) (s : State) : (raise g b s).host.latched = s.host.latched := rfl
@[simp] theorem raise_host_rdata (g b : Nat) (s : State) : (raise g b s).host.rdata = s.host.rdata := rfl
@[simp] theorem raise_host_enables (g b : Nat) (s : State) : (raise g b s).host.enables = s.host.enables := rfl
@[simp] theorem raise_host_topEnable (g b : Nat) (s : State) : (raise g b s).host.topEnable = s.host.topEnable := rfl
@[simp] theorem raise_host_dmaDone (g b : Nat) (s : State) : (raise g b s).host.dmaDone = s.host.dmaDone := rfl
@[simp] theorem raise_host_dmaHalt (g b : Nat) (s : State) : (raise g b s).host.dmaHalt = s.host.dmaHalt := rfl
@[simp] theorem raise_host_engCluster (g b : Nat) (s : State) : (raise g b s).host.engCluster = s.host.engCluster := rfl
@[simp] theorem raise_host_dmaDoneEn (g b : Nat) (s : State) : (raise g b s).host.dmaDoneEn = s.host.dmaDoneEn := rfl
@[simp] theorem raise_host_dmaHaltEn (g b : Nat) (s : State) : (raise g b s).host.dmaHaltEn = s.host.dmaHaltEn := rfl
@[simp] theorem raise_host_engClusterEn (g b : Nat) (s : State) : (raise g b s).host.engClusterEn = s.host.engClusterEn := rfl
@[simp] theorem raise_host_msixEn (g b : Nat) (s : State) : (raise g b s).host.msixEn = s.host.msixEn := rfl
@[simp] theorem raise_host_funcMask (g b : Nat) (s : State) : (raise g b s).host.funcMask = s.host.funcMask := rfl
@[simp] theorem raise_host_vecMask (g b : Nat) (s : State) : (raise g b s).host.vecMask = s.host.vecMask := rfl
@[simp] theorem raise_host_pend (g b : Nat) (s : State) : (raise g b s).host.pend = s.host.pend := rfl
@[simp] theorem raise_host_msixAddr (g b : Nat) (s : State) : (raise g b s).host.msixAddr = s.host.msixAddr := rfl
@[simp] theorem raise_host_msixData (g b : Nat) (s : State) : (raise g b s).host.msixData = s.host.msixData := rfl
@[simp] theorem raise_host_msixSent (g b : Nat) (s : State) : (raise g b s).host.msixSent = s.host.msixSent := rfl
@[simp] theorem raise_host_userEn (g b : Nat) (s : State) : (raise g b s).host.userEn = s.host.userEn := rfl
@[simp] theorem raise_host_mcExpose (g b : Nat) (s : State) : (raise g b s).host.mcExpose = s.host.mcExpose := rfl
@[simp] theorem raise_host_winCtrl (g b : Nat) (s : State) : (raise g b s).host.winCtrl = s.host.winCtrl := rfl
@[simp] theorem raise_host_winBase (g b : Nat) (s : State) : (raise g b s).host.winBase = s.host.winBase := rfl
@[simp] theorem raise_host_remap (g b : Nat) (s : State) : (raise g b s).host.remap = s.host.remap := rfl
@[simp] theorem raise_host_hostCh (g b : Nat) (s : State) : (raise g b s).host.hostCh = s.host.hostCh := rfl
@[simp] theorem raise_host_fetched (g b : Nat) (s : State) : (raise g b s).host.fetched = s.host.fetched := rfl
@[simp] theorem raise_host_held (g b : Nat) (s : State) : (raise g b s).host.held = s.host.held := rfl
@[simp] theorem raise_host_cplQ (g b : Nat) (s : State) : (raise g b s).host.cplQ = s.host.cplQ := rfl
@[simp] theorem raise_host_phaseWait (g b : Nat) (s : State) : (raise g b s).host.phaseWait = s.host.phaseWait := rfl
@[simp] theorem raise_host_evtQ (g b : Nat) (s : State) : (raise g b s).host.evtQ = s.host.evtQ := rfl
@[simp] theorem raise_host_lost (g b : Nat) (s : State) : (raise g b s).host.lost = s.host.lost := rfl
@[simp] theorem raise_host_evtSeq (g b : Nat) (s : State) : (raise g b s).host.evtSeq = s.host.evtSeq := rfl
@[simp] theorem raise_host_sched (g b : Nat) (s : State) : (raise g b s).host.sched = s.host.sched := rfl
@[simp] theorem raise_host_waiters (g b : Nat) (s : State) : (raise g b s).host.waiters = s.host.waiters := rfl
@[simp] theorem raise_host_causes (g b : Nat) (s : State) : (raise g b s).host.causes =
    tset 0 s.host.causes g (tget 0 s.host.causes g ||| place 32 b 1) := rfl

@[simp] theorem bump_pending (b c n : Nat) (s : State) : (bump b c n s).pending = s.pending := rfl
@[simp] theorem bump_mode (b c n : Nat) (s : State) : (bump b c n s).mode = s.mode := rfl
@[simp] theorem bump_clk (b c n : Nat) (s : State) : (bump b c n s).clk = s.clk := rfl
@[simp] theorem bump_rst (b c n : Nat) (s : State) : (bump b c n s).rst = s.rst := rfl
@[simp] theorem bump_bak (b c n : Nat) (s : State) : (bump b c n s).bak = s.bak := rfl
@[simp] theorem bump_fuse (b c n : Nat) (s : State) : (bump b c n s).fuse = s.fuse := rfl
@[simp] theorem bump_flash (b c n : Nat) (s : State) : (bump b c n s).flash = s.flash := rfl
@[simp] theorem bump_jrn (b c n : Nat) (s : State) : (bump b c n s).jrn = s.jrn := rfl
@[simp] theorem bump_cfg (b c n : Nat) (s : State) : (bump b c n s).cfg = s.cfg := rfl
@[simp] theorem bump_page (b c n : Nat) (s : State) : (bump b c n s).page = s.page := rfl
@[simp] theorem bump_prot (b c n : Nat) (s : State) : (bump b c n s).prot = s.prot := rfl
@[simp] theorem bump_dft (b c n : Nat) (s : State) : (bump b c n s).dft = s.dft := rfl
@[simp] theorem bump_lane (b c n : Nat) (s : State) : (bump b c n s).lane = s.lane := rfl
@[simp] theorem bump_car (b c n : Nat) (s : State) : (bump b c n s).car = s.car := rfl
@[simp] theorem bump_pm (b c n : Nat) (s : State) : (bump b c n s).pm = s.pm := rfl
@[simp] theorem bump_tim (b c n : Nat) (s : State) : (bump b c n s).tim = s.tim := rfl
@[simp] theorem bump_twin (b c n : Nat) (s : State) : (bump b c n s).twin = s.twin := rfl
@[simp] theorem bump_grp (b c n : Nat) (s : State) : (bump b c n s).grp = s.grp := rfl
@[simp] theorem bump_host (b c n : Nat) (s : State) : (bump b c n s).host = s.host := rfl
@[simp] theorem bump_dma (b c n : Nat) (s : State) : (bump b c n s).dma = s.dma := rfl
@[simp] theorem bump_pwr (b c n : Nat) (s : State) : (bump b c n s).pwr = s.pwr := rfl
@[simp] theorem bump_eng (b c n : Nat) (s : State) : (bump b c n s).eng = s.eng := rfl
@[simp] theorem bump_i2c (b c n : Nat) (s : State) : (bump b c n s).i2c = s.i2c := rfl
@[simp] theorem bump_img (b c n : Nat) (s : State) : (bump b c n s).img = s.img := rfl
@[simp] theorem bump_dbg (b c n : Nat) (s : State) : (bump b c n s).dbg = s.dbg := rfl
@[simp] theorem bump_tx (b c n : Nat) (s : State) : (bump b c n s).tx = s.tx := rfl
@[simp] theorem bump_draws (b c n : Nat) (s : State) : (bump b c n s).draws = s.draws := rfl
@[simp] theorem bump_bel_audit (b c n : Nat) (s : State) : (bump b c n s).bel.audit = s.bel.audit := rfl
@[simp] theorem bump_bel_auditSeq (b c n : Nat) (s : State) : (bump b c n s).bel.auditSeq = s.bel.auditSeq := rfl
@[simp] theorem bump_bel_auditRead (b c n : Nat) (s : State) : (bump b c n s).bel.auditRead = s.bel.auditRead := rfl
@[simp] theorem bump_bel_auditHigh (b c n : Nat) (s : State) : (bump b c n s).bel.auditHigh = s.bel.auditHigh := rfl
@[simp] theorem bump_bel_taps (b c n : Nat) (s : State) : (bump b c n s).bel.taps = s.bel.taps := rfl
@[simp] theorem bump_bel_prbs (b c n : Nat) (s : State) : (bump b c n s).bel.prbs = s.bel.prbs := rfl
@[simp] theorem bump_bel_gen (b c n : Nat) (s : State) : (bump b c n s).bel.gen = s.bel.gen := rfl
@[simp] theorem bump_bel_gatherFn (b c n : Nat) (s : State) : (bump b c n s).bel.gatherFn = s.bel.gatherFn := rfl
@[simp] theorem bump_bel_core (b c n : Nat) (s : State) : (bump b c n s).bel.core = s.bel.core := rfl
@[simp] theorem bump_bel_window (b c n : Nat) (s : State) : (bump b c n s).bel.window = s.bel.window := rfl
@[simp] theorem bump_bel_ovfClear (b c n : Nat) (s : State) : (bump b c n s).bel.ovfClear = s.bel.ovfClear := rfl
@[simp] theorem bump_bel_pmcCtrl (b c n : Nat) (s : State) : (bump b c n s).bel.pmcCtrl = s.bel.pmcCtrl := rfl
@[simp] theorem bump_bel_pmcBase (b c n : Nat) (s : State) : (bump b c n s).bel.pmcBase = s.bel.pmcBase := rfl
@[simp] theorem bump_bel_pmcLimit (b c n : Nat) (s : State) : (bump b c n s).bel.pmcLimit = s.bel.pmcLimit := rfl

@[simp] theorem complete_pending (k : CmdTok) (st o : Byte) (r : Word64) (s : State) : (complete k st o r s).pending = s.pending := rfl
@[simp] theorem complete_mode (k : CmdTok) (st o : Byte) (r : Word64) (s : State) : (complete k st o r s).mode = s.mode := rfl
@[simp] theorem complete_clk (k : CmdTok) (st o : Byte) (r : Word64) (s : State) : (complete k st o r s).clk = s.clk := rfl
@[simp] theorem complete_rst (k : CmdTok) (st o : Byte) (r : Word64) (s : State) : (complete k st o r s).rst = s.rst := rfl
@[simp] theorem complete_bak (k : CmdTok) (st o : Byte) (r : Word64) (s : State) : (complete k st o r s).bak = s.bak := rfl
@[simp] theorem complete_fuse (k : CmdTok) (st o : Byte) (r : Word64) (s : State) : (complete k st o r s).fuse = s.fuse := rfl
@[simp] theorem complete_flash (k : CmdTok) (st o : Byte) (r : Word64) (s : State) : (complete k st o r s).flash = s.flash := rfl
@[simp] theorem complete_jrn (k : CmdTok) (st o : Byte) (r : Word64) (s : State) : (complete k st o r s).jrn = s.jrn := rfl
@[simp] theorem complete_cfg (k : CmdTok) (st o : Byte) (r : Word64) (s : State) : (complete k st o r s).cfg = s.cfg := rfl
@[simp] theorem complete_page (k : CmdTok) (st o : Byte) (r : Word64) (s : State) : (complete k st o r s).page = s.page := rfl
@[simp] theorem complete_prot (k : CmdTok) (st o : Byte) (r : Word64) (s : State) : (complete k st o r s).prot = s.prot := rfl
@[simp] theorem complete_dft (k : CmdTok) (st o : Byte) (r : Word64) (s : State) : (complete k st o r s).dft = s.dft := rfl
@[simp] theorem complete_lane (k : CmdTok) (st o : Byte) (r : Word64) (s : State) : (complete k st o r s).lane = s.lane := rfl
@[simp] theorem complete_car (k : CmdTok) (st o : Byte) (r : Word64) (s : State) : (complete k st o r s).car = s.car := rfl
@[simp] theorem complete_pm (k : CmdTok) (st o : Byte) (r : Word64) (s : State) : (complete k st o r s).pm = s.pm := rfl
@[simp] theorem complete_tim (k : CmdTok) (st o : Byte) (r : Word64) (s : State) : (complete k st o r s).tim = s.tim := rfl
@[simp] theorem complete_twin (k : CmdTok) (st o : Byte) (r : Word64) (s : State) : (complete k st o r s).twin = s.twin := rfl
@[simp] theorem complete_grp (k : CmdTok) (st o : Byte) (r : Word64) (s : State) : (complete k st o r s).grp = s.grp := rfl
@[simp] theorem complete_dma (k : CmdTok) (st o : Byte) (r : Word64) (s : State) : (complete k st o r s).dma = s.dma := rfl
@[simp] theorem complete_pwr (k : CmdTok) (st o : Byte) (r : Word64) (s : State) : (complete k st o r s).pwr = s.pwr := rfl
@[simp] theorem complete_eng (k : CmdTok) (st o : Byte) (r : Word64) (s : State) : (complete k st o r s).eng = s.eng := rfl
@[simp] theorem complete_bel (k : CmdTok) (st o : Byte) (r : Word64) (s : State) : (complete k st o r s).bel = s.bel := rfl
@[simp] theorem complete_i2c (k : CmdTok) (st o : Byte) (r : Word64) (s : State) : (complete k st o r s).i2c = s.i2c := rfl
@[simp] theorem complete_img (k : CmdTok) (st o : Byte) (r : Word64) (s : State) : (complete k st o r s).img = s.img := rfl
@[simp] theorem complete_dbg (k : CmdTok) (st o : Byte) (r : Word64) (s : State) : (complete k st o r s).dbg = s.dbg := rfl
@[simp] theorem complete_tx (k : CmdTok) (st o : Byte) (r : Word64) (s : State) : (complete k st o r s).tx = s.tx := rfl
@[simp] theorem complete_draws (k : CmdTok) (st o : Byte) (r : Word64) (s : State) : (complete k st o r s).draws = s.draws := rfl
@[simp] theorem complete_host_mem (k : CmdTok) (st o : Byte) (r : Word64) (s : State) : (complete k st o r s).host.mem = s.host.mem := rfl
@[simp] theorem complete_host_bulkFail (k : CmdTok) (st o : Byte) (r : Word64) (s : State) : (complete k st o r s).host.bulkFail = s.host.bulkFail := rfl
@[simp] theorem complete_host_bulkBursts (k : CmdTok) (st o : Byte) (r : Word64) (s : State) : (complete k st o r s).host.bulkBursts = s.host.bulkBursts := rfl
@[simp] theorem complete_host_linkUp (k : CmdTok) (st o : Byte) (r : Word64) (s : State) : (complete k st o r s).host.linkUp = s.host.linkUp := rfl
@[simp] theorem complete_host_pcie (k : CmdTok) (st o : Byte) (r : Word64) (s : State) : (complete k st o r s).host.pcie = s.host.pcie := rfl
@[simp] theorem complete_host_busMaster (k : CmdTok) (st o : Byte) (r : Word64) (s : State) : (complete k st o r s).host.busMaster = s.host.busMaster := rfl
@[simp] theorem complete_host_d3hot (k : CmdTok) (st o : Byte) (r : Word64) (s : State) : (complete k st o r s).host.d3hot = s.host.d3hot := rfl
@[simp] theorem complete_host_perst (k : CmdTok) (st o : Byte) (r : Word64) (s : State) : (complete k st o r s).host.perst = s.host.perst := rfl
@[simp] theorem complete_host_lock (k : CmdTok) (st o : Byte) (r : Word64) (s : State) : (complete k st o r s).host.lock = s.host.lock := rfl
@[simp] theorem complete_host_tag (k : CmdTok) (st o : Byte) (r : Word64) (s : State) : (complete k st o r s).host.tag = s.host.tag := rfl
@[simp] theorem complete_host_cmd (k : CmdTok) (st o : Byte) (r : Word64) (s : State) : (complete k st o r s).host.cmd = s.host.cmd := rfl
@[simp] theorem complete_host_cpl (k : CmdTok) (st o : Byte) (r : Word64) (s : State) : (complete k st o r s).host.cpl = s.host.cpl := rfl
@[simp] theorem complete_host_evt (k : CmdTok) (st o : Byte) (r : Word64) (s : State) : (complete k st o r s).host.evt = s.host.evt := rfl
@[simp] theorem complete_host_heldLow (k : CmdTok) (st o : Byte) (r : Word64) (s : State) : (complete k st o r s).host.heldLow = s.host.heldLow := rfl
@[simp] theorem complete_host_latched (k : CmdTok) (st o : Byte) (r : Word64) (s : State) : (complete k st o r s).host.latched = s.host.latched := rfl
@[simp] theorem complete_host_rdata (k : CmdTok) (st o : Byte) (r : Word64) (s : State) : (complete k st o r s).host.rdata = s.host.rdata := rfl
@[simp] theorem complete_host_causes (k : CmdTok) (st o : Byte) (r : Word64) (s : State) : (complete k st o r s).host.causes = s.host.causes := rfl
@[simp] theorem complete_host_enables (k : CmdTok) (st o : Byte) (r : Word64) (s : State) : (complete k st o r s).host.enables = s.host.enables := rfl
@[simp] theorem complete_host_topEnable (k : CmdTok) (st o : Byte) (r : Word64) (s : State) : (complete k st o r s).host.topEnable = s.host.topEnable := rfl
@[simp] theorem complete_host_dmaDone (k : CmdTok) (st o : Byte) (r : Word64) (s : State) : (complete k st o r s).host.dmaDone = s.host.dmaDone := rfl
@[simp] theorem complete_host_dmaHalt (k : CmdTok) (st o : Byte) (r : Word64) (s : State) : (complete k st o r s).host.dmaHalt = s.host.dmaHalt := rfl
@[simp] theorem complete_host_engCluster (k : CmdTok) (st o : Byte) (r : Word64) (s : State) : (complete k st o r s).host.engCluster = s.host.engCluster := rfl
@[simp] theorem complete_host_dmaDoneEn (k : CmdTok) (st o : Byte) (r : Word64) (s : State) : (complete k st o r s).host.dmaDoneEn = s.host.dmaDoneEn := rfl
@[simp] theorem complete_host_dmaHaltEn (k : CmdTok) (st o : Byte) (r : Word64) (s : State) : (complete k st o r s).host.dmaHaltEn = s.host.dmaHaltEn := rfl
@[simp] theorem complete_host_engClusterEn (k : CmdTok) (st o : Byte) (r : Word64) (s : State) : (complete k st o r s).host.engClusterEn = s.host.engClusterEn := rfl
@[simp] theorem complete_host_msixEn (k : CmdTok) (st o : Byte) (r : Word64) (s : State) : (complete k st o r s).host.msixEn = s.host.msixEn := rfl
@[simp] theorem complete_host_funcMask (k : CmdTok) (st o : Byte) (r : Word64) (s : State) : (complete k st o r s).host.funcMask = s.host.funcMask := rfl
@[simp] theorem complete_host_vecMask (k : CmdTok) (st o : Byte) (r : Word64) (s : State) : (complete k st o r s).host.vecMask = s.host.vecMask := rfl
@[simp] theorem complete_host_pend (k : CmdTok) (st o : Byte) (r : Word64) (s : State) : (complete k st o r s).host.pend = s.host.pend := rfl
@[simp] theorem complete_host_msixAddr (k : CmdTok) (st o : Byte) (r : Word64) (s : State) : (complete k st o r s).host.msixAddr = s.host.msixAddr := rfl
@[simp] theorem complete_host_msixData (k : CmdTok) (st o : Byte) (r : Word64) (s : State) : (complete k st o r s).host.msixData = s.host.msixData := rfl
@[simp] theorem complete_host_msixSent (k : CmdTok) (st o : Byte) (r : Word64) (s : State) : (complete k st o r s).host.msixSent = s.host.msixSent := rfl
@[simp] theorem complete_host_userEn (k : CmdTok) (st o : Byte) (r : Word64) (s : State) : (complete k st o r s).host.userEn = s.host.userEn := rfl
@[simp] theorem complete_host_mcExpose (k : CmdTok) (st o : Byte) (r : Word64) (s : State) : (complete k st o r s).host.mcExpose = s.host.mcExpose := rfl
@[simp] theorem complete_host_winCtrl (k : CmdTok) (st o : Byte) (r : Word64) (s : State) : (complete k st o r s).host.winCtrl = s.host.winCtrl := rfl
@[simp] theorem complete_host_winBase (k : CmdTok) (st o : Byte) (r : Word64) (s : State) : (complete k st o r s).host.winBase = s.host.winBase := rfl
@[simp] theorem complete_host_remap (k : CmdTok) (st o : Byte) (r : Word64) (s : State) : (complete k st o r s).host.remap = s.host.remap := rfl
@[simp] theorem complete_host_hostCh (k : CmdTok) (st o : Byte) (r : Word64) (s : State) : (complete k st o r s).host.hostCh = s.host.hostCh := rfl
@[simp] theorem complete_host_fetched (k : CmdTok) (st o : Byte) (r : Word64) (s : State) : (complete k st o r s).host.fetched = s.host.fetched := rfl
@[simp] theorem complete_host_held (k : CmdTok) (st o : Byte) (r : Word64) (s : State) : (complete k st o r s).host.held = s.host.held := rfl
@[simp] theorem complete_host_phaseWait (k : CmdTok) (st o : Byte) (r : Word64) (s : State) : (complete k st o r s).host.phaseWait = s.host.phaseWait := rfl
@[simp] theorem complete_host_evtQ (k : CmdTok) (st o : Byte) (r : Word64) (s : State) : (complete k st o r s).host.evtQ = s.host.evtQ := rfl
@[simp] theorem complete_host_lost (k : CmdTok) (st o : Byte) (r : Word64) (s : State) : (complete k st o r s).host.lost = s.host.lost := rfl
@[simp] theorem complete_host_evtSeq (k : CmdTok) (st o : Byte) (r : Word64) (s : State) : (complete k st o r s).host.evtSeq = s.host.evtSeq := rfl
@[simp] theorem complete_host_sched (k : CmdTok) (st o : Byte) (r : Word64) (s : State) : (complete k st o r s).host.sched = s.host.sched := rfl
@[simp] theorem complete_host_waiters (k : CmdTok) (st o : Byte) (r : Word64) (s : State) : (complete k st o r s).host.waiters = s.host.waiters := rfl
@[simp] theorem complete_host_cplQ (k : CmdTok) (st o : Byte) (r : Word64) (s : State) : (complete k st o r s).host.cplQ =
    s.host.cplQ ++ [{ tok := k, status := st, obj := o, result := r }] := rfl

/-- A command of the ring that starts is answered by its body, and ends (R35). -/
theorem runCmd_starts (s : State) (op : Byte) (c : CmdEntry) (k : Checks) (pos : Nat) (rest : List Fetched) (body : CmdTok → State → State)
    (h : Starts s op c k pos rest) : runCmd op true c k body s = ended rest (body (tokenOf op c pos) s) := by
  obtain ⟨h1, h2, h3, h4, h5, h6, h7⟩ := h
  have hw : (k.waits && decide (64 ≤ waitingCount s)) = false := by
    cases hk : k.waits
    · rfl
    · have := h3 hk; simp; omega
  have hp : (k.pfwWaits && s.pwr.pfw) = false := by
    cases hk : k.pfwWaits
    · rfl
    · simp [h5 hk]
  have hb : (k.buffer && !linkUsable s) = false := by
    cases hk : k.buffer
    · rfl
    · simp [h6 hk]
  unfold runCmd
  rw [h1]
  simp only []
  rw [if_neg (by simp [h2]), if_neg (by simp [hw]), h4]
  simp only []
  rw [if_neg (by simp [hp, hb]), h7]
  rfl

end Sys2Proof.Machine
end

