-- ==== Sys2Proof/Machine/Otn.lean ====
section
/-! DEFINITION. The bytes of OTN frames (R132 to R134, R161). R132 and R161 refer to G.709 for the frame, the mappings and the scrambler:
what is taken from there is PRESUMED (entry 143). A frame of an OTN signal lasts no whole number of frames of 125 µs, so a signal is a
function of a history: `h f` is the state in the frame whose FN is f. -/
namespace Sys2Proof.Machine

/-- The states in which successive frames were sent. -/
abbrev History := Nat → State

/-- Byte i of the scrambler 1 + x + x^3 + x^12 + x^16 of an OTU frame, from all ones at the first byte after the FAS. -/
def otuScrambler (i : Nat) : Byte :=
  let step := fun (w : Word16) => (w <<< 1) ||| BitVec.ofNat 16 (nat01 (bit w 15 != (bit w 11 != (bit w 2 != bit w 0))))
  let start := (List.range (8 * i % 65535)).foldl (fun w _ => step w) (BitVec.allOnes 16)
  BitVec.ofNat 8 ((List.range 8).foldl (fun (x : Nat × Word16) _ => (2 * x.1 + nat01 (bit x.2 15), step x.2)) (0, start)).1

/-- BIP-8 over the OPU of a frame: rows 0 to 3, columns 14 to 3,823. -/
def opuBip (f : Nat → Nat → Byte) : Byte :=
  (List.range 4).foldl (fun a row => (List.range 3810).foldl (fun a c => a ^^^ f row (14 + c)) a) 0

/-- The overhead of OTU frame n of an interface with its ODU `o` (R156, R161; G.709): rows 0 to 3, columns 0 to 15. The BIP-8 of
SM and PM are `sm` and `pm`. -/
def otuByte (s : State) (l o n : Nat) (sm pm : Byte) (row col : Nat) : Byte :=
  match row, col with
  | 0, 5 => if multiLane (laneMode s.cfg l) then BitVec.ofNat 8 (n % 240) else 0x28
  | 0, 6 => BitVec.ofNat 8 n
  | 0, 7 => byteAt (laneCfg s.cfg l).txTrace (n % 64)
  | 0, 8 => sm
  | 0, 9 => smByte s l n
  | 0, c => if c < 3 then 0xF6 else if c < 5 then 0x28 else 0
  | 2, 9 => byteAt (pmTrace s l o) (n % 64)
  | 2, 10 => pm
  | 2, 11 => pmByte s l o n
  | 3, 14 => psiByte s l o (n % 256)
  | 3, 15 => if laneMode s.cfg l = 0x10 ∧ o = l then BitVec.ofNat 8 (n % 80) else 0
  | _, _ => 0

/-- Column j of a row of an OTU frame whose columns 0 to 3,823 are `data` (R132): RS(255,239) over 16 codewords where FEC is on,
zeros where it is off. -/
def otuColumn (s : State) (l : Nat) (data : Nat → Byte) (j : Nat) : Byte :=
  if j < 3824 then data j
  else if bit (laneCfg s.cfg l).flags 3 then
    byteAt (rsParity ((List.range 239).map fun k => data (16 * k + j % 16))) ((j - 3824) / 16)
  else 0

/-- The logical lane of 16-byte block b of OTU frame n, and the physical lane that carries it (R134). -/
def otlLane (mode n b : Nat) : Nat × Nat :=
  let k := (b + n) % max 1 (logicalLanes mode)
  (k, if mode = 0x10 then k / 5 else k)

/-- Rate of an OTU as a fraction of the OC-192 rate (R132): OTU2 255 / 237, OTU2e from 10.3125 Gb/s. -/
def otuClock (mode : Nat) : Nat × Nat := if mode = 0x0A ∨ mode = 0x0B then (255 * 1031250, 237 * 995328) else (255, 237)

/-- The frame of 125 µs in which OTU frame n of a mode begins, at the clock of R132. -/
def otuFn (mode n : Nat) : Nat :=
  let r := match mode with
    | 0x10 => (2550, 227) | _ => if multiLane mode then (1020, 236) else otuClock mode
  n * 130560 * r.2 / (r.1 * 1244160)

-- Clients (R132): the module's own SONET/SDH signals.

/-- Byte a of the SONET/SDH signal of object o, counted from FN 0; of the client of an OTU2e, whose OPU is faster than it, the manual
says no more (a free value, entry 143). -/
def clientByte (h : History) (l o a : Nat) : Byte :=
  let s := h 0
  let n := 90 * stsCount s o
  let m := laneMode s.cfg l
  if m = 0x0A ∨ m = 0x0B then Config.otu2eByte o a else sonetLine (h (a / (9 * n))) o (a % (9 * n) / n) (a % n)

/-- Fixed stuff columns of an OPU2, and of an OPU3, before column c. -/
def stuffBefore (opu3 : Bool) (c : Nat) : Nat :=
  if opu3 then min 16 (c - 1264) + min 16 (c - 2544) else min 16 (c - 1904)

/-- A byte of OPU frame n that carries an OC-192 or an OC-768 by AMP or BMP: JC 00, for the clock of the OPU and that of its client have
one source (R3, R132), so AMP never justifies (DEDUCED, entry 143); NJO is 0, and PJO carries data. -/
def cbrOpu (opu3 : Bool) (client : Nat → Byte) (psi : Byte) (n row col : Nat) : Byte :=
  let perRow := if opu3 then 3776 else 3792
  if col < 16 then (if row = 3 ∧ col = 14 then psi else 0)
  else if stuffBefore opu3 (col + 1) ≠ stuffBefore opu3 col then 0
  else client (perRow * (4 * n + row) + (col - 16) - stuffBefore opu3 col)

/-- A byte of an ODU2 frame that a multiplexed group carries (R132): its own frame alignment and PM, then its OPU2. -/
def oduByte (h : History) (l o n row col : Nat) : Byte :=
  let at_ := fun (n : Nat) => h (n * 15168 / 155520)
  let opu := fun (n row col : Nat) => cbrOpu false (clientByte h l o) (psiByte (at_ n) l o (n % 256)) n row col
  if 14 ≤ col then opu n row col
  else if row = 0 ∧ 5 < col then (if col = 6 then BitVec.ofNat 8 n else 0)
  else if row = 0 then (if col < 3 then 0xF6 else 0x28)
  else otuByte (at_ n) l o n 0 (opuBip (opu (n - 2))) row col

/-- Byte m of the ODU2 stream of a tributary port. -/
def oduStream (h : History) (l o m : Nat) : Byte := oduByte h l o (m / 15296) (m % 15296 / 3824) (m % 3824)

-- Multiplexing (R132, R133).

/-- Tributary port, from 0, of tributary slot t (R133). -/
def slotPort (s : State) (l t : Nat) : Nat :=
  let m := (laneCfg s.cfg l).slotMap
  if m.isEmpty then t % max 1 (mapShape (laneMode s.cfg l)).2 else (byteAt m t).toNat - 1

/-- Tributary slots below t of a port. -/
def slotsBelow (s : State) (l p t : Nat) : Nat := ((List.range t).filter fun i => slotPort s l i == p).length

/-- Justifications of an ODTU23 up to its k-th opportunity: an ODU2 has 32 bytes in 237 frames less than its slots hold. -/
def odtuStuff (k : Nat) : Nat := 128 * k / 237

/-- A byte of OPU3 frame n of a multiplexed group (R132): ODTU23 by AMP in T slots, of which slot n mod T has its justification in this
frame: one byte less where JC is 11. -/
def muxOpu3 (h : History) (l n row col : Nat) : Byte :=
  let s := h (otuFn 0x0E n)
  let slots := (mapShape (laneMode s.cfg l)).1
  let j := n % slots
  let k := fun (p : Nat) => n / slots * slotsBelow s l p slots + slotsBelow s l p j
  let stuffs := fun (p : Nat) => decide (slotPort s l j = p ∧ odtuStuff (k p + 1) ≠ odtuStuff (k p))
  if col < 16 then
    if row = 3 then (if col = 14 then psiByte s l l (n % 256) else 0)
    else if col = 15 ∧ stuffs (slotPort s l j) then 3 else 0
  else
    let t := (col - 16) % slots
    let p := slotPort s l t
    let mine := slotsBelow s l p slots
    let i := 952 * row + (col - 16) / slots * mine + slotsBelow s l p t
    let gone := nat01 (decide (row = 3) && stuffs p && decide (16 + j < col))
    if row = 3 ∧ col = 16 + j ∧ stuffs p then 0
    else oduStream h l (256 + lanePort s.cfg l + p) (3808 * n - odtuStuff (k p) + i - gone)

/-- Words of 8 bytes of an ODU2 that the first k multiframes of an OPU4 carry (R132, GMP): 14,650.6 to each, of 15,200. -/
def gmpWords (k : Nat) : Nat := k * 3472192 / 237

/-- CRC-8 of JC1 and JC2, x^8 + x^3 + x^2 + 1, and CRC-5 of JC4 and JC5, x^5 + x + 1. -/
def jcCrc (w poly n : Nat) (bits : Nat) : Nat :=
  (List.range n).foldl (fun r i =>
    let f := nat01 (w.testBit (n - 1 - i)) != r / 2 ^ (bits - 1)
    Nat.xor (2 * r % 2 ^ bits) (if f then poly else 0)) 0

/-- JC1 to JC6 of an ODTU4.8: the count of words in the next multiframe, against this one's, and the bytes left over. -/
def gmpControl (k : Nat) : Bytes :=
  let c := gmpWords (k + 2) - gmpWords (k + 1)
  let was := gmpWords (k + 1) - gmpWords k
  let (flip, ii, di) := if c = was then (0, 0, 0) else if c = was + 1 then (0x2AAA, 1, 0) else if c + 1 = was then (0x1555, 0, 1) else (0, 1, 1)
  let w := 4 * Nat.xor (if c = was + 1 ∨ c + 1 = was then was else c) flip + 2 * ii + di
  let d := 32 * ((k + 2) * 8 * 3472192 / 237 % 8)
  [BitVec.ofNat 8 (w / 256), BitVec.ofNat 8 w, BitVec.ofNat 8 (jcCrc w 0x0D 16 8), BitVec.ofNat 8 (d / 32 / 32),
    BitVec.ofNat 8 (d / 32 % 32), BitVec.ofNat 8 (jcCrc (d / 32) 0x03 10 5)]

/-- A byte of OPU4 frame n (R132): ODTU4.8 by GMP in 80 slots, the multiframe being 80 frames. -/
def muxOpu4 (h : History) (l n row col : Nat) : Byte :=
  let s := h (otuFn 0x10 n)
  let k := n / 80
  if col < 16 then
    let p := slotPort s l (n % 80)
    let jc := if slotsBelow s l p 80 = slotsBelow s l p (n % 80 + 1) then gmpControl k else zeros 6
    if row = 3 then (if col = 14 then psiByte s l l (n % 256) else BitVec.ofNat 8 (n % 80))
    else byteAt jc (if col = 15 then row else 3 + row)
  else if 3816 ≤ col then 0
  else
    let q := 3800 * (4 * (n % 80) + row) + (col - 16)
    let t := q % 80
    let p := slotPort s l t
    let b := q / 80 * 8 + slotsBelow s l p t
    let c := gmpWords (k + 1) - gmpWords k
    let j := b / 8 + 1
    if j * c / 15200 = (j - 1) * c / 15200 then 0
    else oduStream h l (256 + lanePort s.cfg l + p) (8 * (gmpWords k + j * c / 15200 - 1) + b % 8)

-- OTU frames.

/-- A byte of the OPU of OTU frame n of an interface (R132). -/
def opuByte (h : History) (l n row col : Nat) : Byte :=
  let m := laneMode (h 0).cfg l
  match m with
  | 0x0E => muxOpu3 h l n row col
  | 0x0F => muxOpu3 h l n row col
  | 0x10 => muxOpu4 h l n row col
  | _ => cbrOpu (multiLane m) (clientByte h l l) (psiByte (h (otuFn m n)) l l (n % 256)) n row col

/-- A byte of OTU frame n below column 3,824 before scrambling: the BIP-8 of SM and of PM are those of the OPU two frames before
(R161). -/
def otuData (h : History) (l n row col : Nat) : Byte :=
  if 14 ≤ col then opuByte h l n row col
  else
    let bip := opuBip (opuByte h l (n - 2))
    otuByte (h (otuFn (laneMode (h 0).cfg l) n)) l l n bip bip row col

/-- A byte of OTU frame n as it leaves: rows 0 to 3, columns 0 to 4,079; all but the FAS is scrambled. -/
def otuLine (h : History) (l n row j : Nat) : Byte :=
  let s := h (otuFn (laneMode (h 0).cfg l) n)
  let b := otuColumn s l (otuData h l n row) j
  if row = 0 ∧ j < 6 then b else b ^^^ otuScrambler (4080 * row + j - 6)

/-- A byte of an OTU2 on its wire, under the lane's test (R131). -/
def otuWire (h : History) (l n row j : Nat) : Byte :=
  testedByte (h (otuFn (laneMode (h 0).cfg l) n)) l 16320 (4080 * row + j) (otuLine h l n row j)

end Sys2Proof.Machine
end

