-- ==== Sys2Proof/Machine/Pins.lean ====
section
/-! DEFINITION. The module's pins as functions of its state (R415, R420, R424, R456) and the land that carries each (R457). -/
namespace Sys2Proof.Machine

/-- A serial transmitter: squelched, sending what keeps its receiver aligned and nothing of its own, or in service. -/
inductive TxPin where
  | squelched | idle | service
  deriving DecidableEq, Repr

/-- A line lane's transmitter (R32, R415). -/
def lineTx (s : State) (l : Nat) : TxPin := if laneSends s l then .service else .squelched

/-- A mate lane's transmitter: framed with IN_RESET headers during a warm reset (R240, R415). -/
def mateTx (s : State) : TxPin :=
  if !framesRun s ∨ s.cfg.twin.isNone then .squelched else if entered s then .service else .idle

/-- A group port's transmitter: /I2/ and the packets of others during a warm reset (R272, R415). -/
def groupTx (s : State) : TxPin :=
  if !framesRun s ∨ s.cfg.group.isNone then .squelched else if entered s then .service else .idle

/-- A Gatehouse port's transmitter: logic 0 until step 6 of a cold release, then idle bytes, and STATUS where R32 sends it. -/
def gatehouseTx (s : State) : TxPin :=
  match s.rst.phase with
  | .coldAsserted => .squelched
  | .coldRelease => if s.rst.step < 6 then .squelched else .idle
  | .running => if sendsStatus s then .service else .idle
  | .warmAsserted => .idle
  | .warmRelease => .idle

/-- SCLK and FSYNC run (R228, R415). -/
def sclkRuns (s : State) : Bool := framesRun s && s.tim.running

/-- ACTIVE_N is driven low (R258, R415). -/
def activeLow (s : State) : Bool := roleShown s

/-- THERM_N is driven low: the hottest junction at 140 °C or more, and after a trip until CLEAR_FAULTS or power-on (R420). -/
def thermLow (s : State) : Bool := s.rst.vinGood && (s.pwr.hot || s.pwr.tripped)

/-- PGOOD as the pin shows it: released with no supply (R415, R456). -/
def pgoodLow (s : State) : Bool := s.rst.vinGood && !pgood s

/-- TDO is driven (R415): the debug port is open. -/
def tdoDriven (s : State) : Bool := s.rst.vinGood && s.dbg.opened

/-- The clocks of R424. -/
inductive ClockName where
  | aon | management | matrix | engines | sclk | fabric | serdes (quad : Nat) | pcie
  deriving DecidableEq, Repr

/-- A clock runs (R424). -/
def clockRuns (s : State) : ClockName → Bool
  | .aon => s.rst.vinGood
  | .management => pastStep6 s
  | .matrix => pastStep6 s
  | .engines => pastStep6 s && (List.range 32).any fun i => domOn s (32 + i)
  | .sclk => s.tim.running
  | .fabric => pastStep6 s && (List.range 40).any fun i => domOn s (64 + i)
  | .serdes q => s.tim.running && domOn s q
  | .pcie => pastStep6 s

-- Lands.

/-- The pins, by group (R456). -/
inductive Pin where
  | vin | vinRtn | pgnd | sgnd | vbak
  | ltx (lane : Nat) (n : Bool) | lrx (lane : Nat) (n : Bool)
  | mtx (lane : Nat) (n : Bool) | mrx (lane : Nat) (n : Bool)
  | getx (n : Bool) | gerx (n : Bool) | gwtx (n : Bool) | gwrx (n : Bool)
  | ghatx (n : Bool) | gharx (n : Bool) | ghbtx (n : Bool) | ghbrx (n : Bool)
  | pet (lane : Nat) (n : Bool) | per (lane : Nat) (n : Bool) | prefclk (n : Bool)
  | xoin (n : Bool) | sclk (n : Bool) | fsync (n : Bool)
  | tin (i : Nat) | tout (i : Nat) | gpio (i : Nat)
  | pfw | pgood | therm | tck | tms | tdi | tdo | trst | scl | sda | addr (i : Nat)
  | cold | warm | recov | irq | active | perst
  deriving DecidableEq, Repr

/-- The pins of row 36, from column 10 at every other column. -/
def row36 : List Pin :=
  [.tck, .tms, .tdi, .tdo, .trst, .scl, .sda, .addr 0, .addr 1, .addr 2, .cold, .warm, .recov, .irq, .active, .perst]

/-- The pairs of the left edge: the pin of a row at columns 3 and 4, and the one at columns 6 and 7. -/
def leftPair : Nat → Option ((Bool → Pin) × Option (Bool → Pin))
  | 19 => some (.pet 0, some (.per 0))
  | 21 => some (.pet 1, some (.per 1))
  | 23 => some (.pet 2, some (.per 2))
  | 25 => some (.pet 3, some (.per 3))
  | 27 => some (.prefclk, none)
  | 29 => some (.mtx 0, some (.mrx 0))
  | 31 => some (.mtx 1, some (.mrx 1))
  | 33 => some (.getx, some .gerx)
  | 35 => some (.gwtx, some .gwrx)
  | _ => none

/-- The pairs of the right edge, at columns 47 and 48 and at 50 and 51. -/
def rightPair : Nat → Option ((Bool → Pin) × Option (Bool → Pin))
  | 19 => some (.ghatx, some .gharx)
  | 21 => some (.ghbtx, some .ghbrx)
  | 23 => some (.xoin, some .sclk)
  | 25 => some (.fsync, none)
  | _ => none

/-- The single pins of the right edge, at columns 47, 49 and 51. -/
def rightPins : Nat → List Pin
  | 27 => [.tin 0, .tin 1, .tin 2]
  | 29 => [.tin 3, .tout 0, .tout 1]
  | 31 => [.pfw, .pgood, .therm]
  | 33 => [.vbak, .vbak]
  | _ => []

/-- The pin of a pair at a column whose first is c0. -/
def ofPair (p : Option ((Bool → Pin) × Option (Bool → Pin))) (c0 c : Nat) : Option Pin :=
  match p with
  | none => none
  | some (a, b) =>
    if c = c0 ∨ c = c0 + 1 then some (a (c = c0 + 1))
    else if c = c0 + 3 ∨ c = c0 + 4 then b.map fun f => f (c = c0 + 4)
    else none

/-- A line lane's land: rows 2 to 8 and 46 to 52 transmit, 10 to 16 and 38 to 44 receive, every other row; of each three columns
from 3 the first is P and the second N. -/
def linePin (r c : Nat) : Option Pin :=
  let k := (c - 3) / 3
  if c < 3 ∨ 50 < c ∨ c % 3 = 2 ∨ r % 2 = 1 then none
  else
    let n := decide (c % 3 = 1)
    if 2 ≤ r ∧ r ≤ 8 then some (.ltx (16 * ((r - 2) / 2) + k) n)
    else if 10 ≤ r ∧ r ≤ 16 then some (.lrx (16 * ((r - 10) / 2) + k) n)
    else if 46 ≤ r ∧ r ≤ 52 then some (.ltx (64 + 16 * ((52 - r) / 2) + k) n)
    else if 38 ≤ r ∧ r ≤ 44 then some (.lrx (64 + 16 * ((44 - r) / 2) + k) n)
    else none

/-- The pins of rows 18 and 36, at columns 10 to 40. -/
def rowPin (r c : Nat) : Option Pin :=
  if c < 10 ∨ 40 < c ∨ c % 2 = 1 then none
  else if r = 18 then some (.gpio ((c - 10) / 2)) else if r = 36 then row36[(c - 10) / 2]? else none

/-- The pin of land (row, column), each from 1 to 53: PGND where nothing else is assigned (R457). -/
def landPin (r c : Nat) : Pin :=
  let single := if 47 ≤ c ∧ c ≤ 51 ∧ c % 2 = 1 then (rightPins r)[(c - 47) / 2]? else none
  let sgnd := if (r = 24 ∨ r = 26) ∧ 46 ≤ c ∧ c ≤ 53 then some Pin.sgnd else none
  let supply := if 21 ≤ r ∧ r ≤ 32 ∧ 14 ≤ c ∧ c ≤ 25 then some Pin.vin
    else if 21 ≤ r ∧ r ≤ 32 ∧ 29 ≤ c ∧ c ≤ 40 then some Pin.vinRtn else none
  let found := [linePin r c, ofPair (leftPair r) 3 c, ofPair (rightPair r) 47 c, single, sgnd, supply, rowPin r c]
  ((found.find? fun x => x.isSome).bind id).getD .pgnd

end Sys2Proof.Machine
end

