-- ==== Sys2Proof/Tests/Slice0.lean ====
section
/-! SUPPORT. Tests: the well-formedness checks refuse, and for every statement of Certificates a state and operands that
meet its hypotheses. -/
namespace Sys2Proof.Tests
open Sys2Proof.Machine
set_option Elab.async false

/-- A SOLO module in service: every domain on, the link up, LOCK set, frame 4,800. -/
def soloState : State :=
  { State.reset with
    mode := { State.reset.mode with mode := .solo }
    rst := { State.reset.rst with phase := .running, coldEntry := false }
    clk := { State.reset.clk with fn := 4800 }
    host := { State.reset.host with linkUp := true, busMaster := true, lock := true }
    pwr := { State.reset.pwr with dom := (List.range 112).map fun n => (n, .on) } }

def modeState (m : Mode) : State := { soloState with mode := { soloState.mode with mode := m } }

/-- An entry of the command ring: LEN, and ARGS as a little-endian number. -/
def mkEntry (len : Nat) (args : Nat) : CmdEntry :=
  { flags := 0, len := BitVec.ofNat 16 len, tag := 7, args := BitVec.ofNat 448 args }

def descOf (addr len : Nat) (toHost : Bool) : Nat := addr + 2 ^ 64 * len + (if toHost then 2 ^ 97 else 0)

/-- The entry of a command at the head of the fetched commands. -/
def atHead (op : Byte) (c : CmdEntry) (s : State) : State :=
  { s with host := { s.host with fetched := [{ opcode := op, entry := c, pos := 0 }] } }

def cmdState (m : Mode) (op : Byte) (c : CmdEntry) : State := atHead op c (modeState m)

/-- `Starts` as a check. -/
def startsNow (s : State) (op : Byte) (c : CmdEntry) (k : Checks) : Bool :=
  decide (s.host.fetched = [{ opcode := op, entry := c, pos := 0 }]) && mayBegin s &&
    (!k.waits || decide (waitingCount s < 64)) && (verdict s c k).isNone && (!k.pfwWaits || !s.pwr.pfw) &&
    (!k.buffer || linkUsable s) && k.hold.isNone

theorem starts_of {s : State} {op : Byte} {c : CmdEntry} {k : Checks} (h : startsNow s op c k = true) :
    Starts s op c k 0 [] := by
  simp only [startsNow, Bool.and_eq_true, decide_eq_true_eq, Option.isNone_iff_eq_none, Bool.or_eq_true,
    Bool.not_eq_true'] at h
  obtain ⟨⟨⟨⟨⟨⟨h1, h2⟩, h3⟩, h4⟩, h5⟩, h6⟩, h7⟩ := h
  exact ⟨h1, h2, fun w => by rcases h3 with h | h <;> simp_all, h4, fun w => by rcases h5 with h | h <;> simp_all,
    fun w => by rcases h6 with h | h <;> simp_all, h7⟩

/-- A plain descriptor names one segment. -/
theorem seg_plain {s : State} {d : BitVec 128} {w : Bool} {ok : Nat → Bool}
    (h : (decide ((tget {} s.dma.ch 3).phase ≠ .halted) && !s.host.bulkFail && !descList d) = true) :
    segments s d w ok = .ok [(descAddr d, descLength d)] := by
  simp only [Bool.and_eq_true, decide_eq_true_eq, Bool.not_eq_true'] at h
  unfold segments
  rw [if_neg h.1.1, if_neg (by simp [h.1.2]), if_neg (by simp [h.2])]


/-- A CRC-32 taken piece by piece. -/
def crcChain (x : Word32) : List (Bytes × Word32) → Word32 → Bool
  | [], z => decide (x = z)
  | (b, y) :: r, z => decide (b.foldl crcByte x = y) && crcChain y r z

theorem crc_chain {x z : Word32} {xs : List (Bytes × Word32)} (h : crcChain x xs z = true) :
    (xs.flatMap fun p => p.1).foldl crcByte x = z := by
  induction xs generalizing x with
  | nil => simpa [crcChain] using h
  | cons p r ih =>
    simp only [crcChain, Bool.and_eq_true, decide_eq_true_eq] at h
    rw [List.flatMap_cons, List.foldl_append, h.1, ih h.2]

theorem crcGood_of {bs : Bytes} {n : Nat} {ok : Bool} (xs : List (Bytes × Word32)) (z : Word32)
    (h : crcChain 0xFFFFFFFF#32 xs z = true) (hs : slice bs 0 n = xs.flatMap fun p => p.1)
    (hz : decide (slice bs n 4 = toBE 4 (~~~z).toNat) = ok) : crcGood bs n = ok := by
  unfold crcGood crcBE crc32
  rw [hs, crc_chain h]
  exact hz

/-- A record of the journal, as an operand. -/
def aRec : JRecord :=
  { seq := 0, kind := .commit, crcOk := true, macOk := true, page := none, fp := 0, cfg := Cfg.initial, member := false,
    audits := [], size := 0 }

/-- The measurement of one object over one second. -/
def aMeas (cls obj blocks errs : Nat) : PmMeas :=
  { cls := cls, obj := obj, monitored := true, nearBlocks := blocks, nearErrs := errs, far := [],
    extraA := 0, extraB := 0 }

/-- Commands and happenings with one operand outside its range. -/
def illFormed0 : List Instr :=
  [.dbCmd false 0 ([(18446744073709551616, 0)]), .lowHalfRead 65536, .setupBadAccess false 65536 8,
   .setupBadAccess false 65535 3, .registerWrite 69632 0, .pmcCtrlWrite 4 7 0, .pmcCtrlWrite 3 8 0, .dmaGo 32 0,
   .dmaPause 32 0, .dmaResume 32 0, .dmaStop 32 0, .dmaPaceEvent 32, .dmaBurstDone 32, .dmaBurstRetry 32 0,
   .dmaWithdrawn 32, .busTimeout 10 7, .busTimeout 9 8, .busDrainDone 8, .holdOffExpiry .ho 49152 .a,
   .wtrExpiry .ho 49152, .prepareRx 4 false (List.replicate 24 0), .prepareRx 3 false (List.replicate 23 0),
   .readyRx 4 false (List.replicate 24 0), .readyRx 3 false (List.replicate 23 0),
   .commitRx 4 false (List.replicate 24 0), .commitRx 3 false (List.replicate 23 0),
   .ackRx 4 false (List.replicate 24 0), .ackRx 3 false (List.replicate 23 0),
   .abortRx 4 false (List.replicate 24 0), .abortRx 3 false (List.replicate 23 0),
   .refuseRx 4 false (List.replicate 24 0), .refuseRx 3 false (List.replicate 23 0),
   .groupRecordRx 4 false 0 (List.replicate 64 0), .groupRecordRx 3 false 0 (List.replicate 63 0),
   .groupRecordLapse 4 false, .catchup 4 false 0, .mateHeaderRx false (List.replicate 63 0),
   .mateLinkDown false 4, .relayGrant false 0 (List.replicate 31 0), .retransmit 256 255 1]

/-- Commands and happenings with one operand outside its range. -/
def illFormed1 : List Instr :=
  [.retransmit 255 256 1, .retransmit 255 255 0, .mateRecordRx (List.replicate 63 0), .mateJournalRx 256 aRec,
   .mateStagedRx 256 [], .mirrorGapTimeout 4, .grantRx false (List.replicate 31 0),
   .vblHeaderRx 128 (List.replicate 92 0), .vblHeaderRx 127 (List.replicate 91 0), .trustRestore 128,
   .distrustRepeat 128, .vblMessageRx 128 (List.replicate 4096 0), .vblMessageRx 127 (List.replicate 7 0),
   .vblFrameVerify 128 [], .vblFrameVerify 0 [⟨2799360, [], 0, []⟩],
   .vblFrameVerify 0 [⟨0, List.replicate 17 0, 0, []⟩], .vblFrameVerify 0 [⟨0, [], 161, []⟩],
   .vblFrameVerify 0 [⟨0, [], 0, List.replicate 93 0⟩], .vblDefectChange 128 63 false,
   .vblDefectChange 127 64 false, .laneFrameVerify 5120 [], .laneOof 5120, .laneFalseLockExit ⟨5120, []⟩,
   .laneFalseLockExit ⟨5119, List.replicate 17 0⟩, .laneTieTimeout 5120 [], .laneReadmission 5120,
   .laneDefectChange 8 511 63 false (List.replicate 64 0),
   .laneDefectChange 7 512 63 false (List.replicate 64 0),
   .laneDefectChange 7 511 64 false (List.replicate 64 0),
   .laneDefectChange 7 511 63 false (List.replicate 65 0),
   .pathDefectChange 4 1376255 63 false (List.replicate 64 0),
   .pathDefectChange 3 1376256 63 false (List.replicate 64 0),
   .pathDefectChange 3 1376255 64 false (List.replicate 64 0),
   .pathDefectChange 3 1376255 63 false (List.replicate 65 0), .berDeclare 8 1376255 9 false,
   .berDeclare 7 1376256 9 false, .berDeclare 7 1376255 10 false, .kbyteAccept 128 0, .psbf 128,
   .kstorm 128 false]

/-- Commands and happenings with one operand outside its range. -/
def illFormed2 : List Instr :=
  [.fop false 64 false, .apsSwitch false 64 14, .apsSwitch false 63 15, .carrierAlignVerify 8192 ([(511, [])]),
   .carrierAlignVerify 8191 ([(512, [])]), .carrierTieTimeout 8192 [511], .carrierTieTimeout 8191 [512],
   .carrierFalseLockExit ⟨8192, 0, 0⟩, .carrierBarLapse 8192, .carrierInterworkFallback 8192,
   .carrierDefectChange 8192 0 ⟨false, []⟩, .carrierDefectChange 8191 64 ⟨false, []⟩,
   .carrierDefectChange 8191 63 ⟨false, List.replicate 65 0⟩, .carrierSlip 8192 false, .sigHoldExpiry 8192,
   .pmSecondFinal 8 1376255, .pmSecondFinal 7 1376256, .pmBinClose 8 1376255 false, .pmBinClose 7 1376256 false,
   .refFailureCondition 16 5 false, .refFailureCondition 15 6 false, .refHoldOffExpiry 16, .refWtrExpiry 16,
   .ssmTimeout 16, .ssmAccept 16 0, .freqMonitorUpdate 16 0, .refConflict 15 15, .refConflict 14 16,
   .prbsSyncChange 16 ⟨false, []⟩, .prbsSyncChange 15 ⟨false, List.replicate 1025 true⟩, .engineOverrun 1024,
   .bankSwitch 32, .bankReadyTimeout 32, .eccUncorrectable (.bankFetch 0 32 0),
   .scrubCorrection (.bankFetch 0 32 0), .bankRepairDone 32, .liveItemRewrite (.bankFetch 0 32 0),
   .domainOnDone 112, .domainFault 112,
   .debugResponse (List.replicate 95 0) (List.replicate 96 0) (List.replicate 96 0) (List.replicate 96 0)]

/-- Commands and happenings with one operand outside its range. -/
def illFormed3 : List Instr :=
  [.debugResponse (List.replicate 96 0) (List.replicate 95 0) (List.replicate 96 0) (List.replicate 96 0),
   .debugResponse (List.replicate 96 0) (List.replicate 96 0) (List.replicate 97 0) (List.replicate 96 0),
   .debugResponse (List.replicate 96 0) (List.replicate 96 0) (List.replicate 96 0) (List.replicate 97 0),
   .railFault (some 112), .mlOof ⟨false, [0, 0, 0, 0, 0], 0⟩, .mlOof ⟨false, [], 78126⟩,
   .mlFrameVerify ⟨false, 0, 129⟩, .carrierLossOfAlignment ⟨8192, []⟩, .multiframeAlignment 8192 ⟨false, []⟩,
   .vblBarLapse 128, .sensorFault 12 0, .pmSecondEnd ([aMeas 7 0 8 9]), .vblOof 128 ⟨[], []⟩,
   .vblOof 0 ⟨[List.replicate 17 0], []⟩, .vblOof 0 ⟨[], [1441]⟩, .fop true 32 false,
   .holdOffExpiry .lo 1376256 .a, .wtrExpiry .ds0 262144, .eccUncorrectable (.mbCore 4),
   .eccUncorrectable (.mbDma 0 32), .eccUncorrectable (.engineData 1024), .eccUncorrectable (.bankFetch 32 0 0),
   .eccUncorrectable (.bankScrub 32 0), .eccUncorrectable (.spareBank 32),
   .eccUncorrectable (.liveEntry .ho 49152), .eccUncorrectable (.liveCarrier 8192),
   .eccUncorrectable (.liveQuiesce 256), .eccUncorrectable (.dmaBuffer 32),
   .vblMessageRx 0 (List.replicate 4097 0), .berDeclare 0 0 2 false, .pmSecondEnd [aMeas 8 0 0 0],
   .pmSecondEnd [aMeas 0 1376256 0 0], .mirrorGapTimeout 1, .pathDefectChange 1 0 0 false []]

/-- Commands and happenings with every operand at the end of its range. -/
def boundary0 : List Instr :=
  [.dbCmd false 0 ([(18446744073709551615, 0)]), .lowHalfRead 65535, .setupBadAccess false 65535 8,
   .registerWrite 69631 0, .pmcCtrlWrite 3 7 0, .dmaGo 31 0, .dmaPause 31 0, .dmaResume 31 0, .dmaStop 31 0,
   .dmaPaceEvent 31, .dmaBurstDone 31, .dmaBurstRetry 31 0, .dmaWithdrawn 31, .busTimeout 9 7, .busDrainDone 7,
   .holdOffExpiry .ho 49151 .a, .wtrExpiry .ho 49151, .prepareRx 3 false (List.replicate 24 0),
   .readyRx 3 false (List.replicate 24 0), .commitRx 3 false (List.replicate 24 0),
   .ackRx 3 false (List.replicate 24 0), .abortRx 3 false (List.replicate 24 0),
   .refuseRx 3 false (List.replicate 24 0), .groupRecordRx 3 false 0 (List.replicate 64 0),
   .groupRecordLapse 3 false, .catchup 3 false 0, .mateHeaderRx false (List.replicate 64 0),
   .mateLinkDown false 3, .relayGrant false 0 (List.replicate 32 0), .retransmit 255 255 1,
   .mateRecordRx (List.replicate 64 0), .mateJournalRx 255 aRec, .mateStagedRx 255 [], .mirrorGapTimeout 3,
   .grantRx false (List.replicate 32 0), .vblHeaderRx 127 (List.replicate 92 0), .trustRestore 127,
   .distrustRepeat 127, .vblMessageRx 127 (List.replicate 4096 0),
   .vblFrameVerify 127 [⟨2799359, List.replicate 16 0, 160, List.replicate 92 0⟩]]

/-- Commands and happenings with every operand at the end of its range. -/
def boundary1 : List Instr :=
  [.vblDefectChange 127 63 false, .laneFrameVerify 5119 [], .laneOof 5119,
   .laneFalseLockExit ⟨5119, List.replicate 16 0⟩, .laneTieTimeout 5119 [], .laneReadmission 5119,
   .laneDefectChange 7 511 63 false (List.replicate 64 0),
   .pathDefectChange 3 1376255 63 false (List.replicate 64 0), .berDeclare 7 1376255 9 false, .kbyteAccept 127 0,
   .psbf 127, .kstorm 127 false, .fop false 63 false, .apsSwitch false 63 14,
   .carrierAlignVerify 8191 ([(511, [])]), .carrierTieTimeout 8191 [511], .carrierFalseLockExit ⟨8191, 0, 0⟩,
   .carrierBarLapse 8191, .carrierInterworkFallback 8191,
   .carrierDefectChange 8191 63 ⟨false, List.replicate 64 0⟩, .carrierSlip 8191 false, .sigHoldExpiry 8191,
   .pmSecondFinal 7 1376255, .pmBinClose 7 1376255 false, .refFailureCondition 15 5 false, .refHoldOffExpiry 15,
   .refWtrExpiry 15, .ssmTimeout 15, .ssmAccept 15 0, .freqMonitorUpdate 15 0, .refConflict 14 15,
   .prbsSyncChange 15 ⟨false, List.replicate 1024 true⟩, .engineOverrun 1023, .bankSwitch 31,
   .bankReadyTimeout 31, .eccUncorrectable (.mbDma 3 31), .scrubCorrection (.mbDma 3 31), .bankRepairDone 31,
   .liveItemRewrite (.mbDma 3 31), .domainOnDone 111]

/-- Commands and happenings with every operand at the end of its range. -/
def boundary2 : List Instr :=
  [.domainFault 111,
   .debugResponse (List.replicate 96 0) (List.replicate 96 0) (List.replicate 96 0) (List.replicate 96 0),
   .railFault (some 111), .mlOof ⟨false, [0, 0, 0, 0], 78125⟩, .mlFrameVerify ⟨false, 0, 128⟩,
   .carrierLossOfAlignment ⟨8191, []⟩, .multiframeAlignment 8191 ⟨false, []⟩, .vblBarLapse 127,
   .sensorFault 11 0, .pmSecondEnd ([aMeas 7 0 8 8]), .vblOof 127 ⟨[List.replicate 16 0], [1440]⟩]

/-- Each operand out of its range is refused (R5 to R12). -/
theorem test_wf_refuses : (illFormed0 ++ illFormed1 ++ illFormed2 ++ illFormed3).all (fun i => !i.wf) = true := by decide +kernel

/-- The ends of the ranges are accepted (R5 to R12). -/
theorem test_wf_accepts : (boundary0 ++ boundary1 ++ boundary2).all (fun i => i.wf) = true := by decide +kernel


-- Configurations.

def withLane (n m : Nat) (s : State) : State :=
  { s with cfg := { s.cfg with lanes := tinsert s.cfg.lanes n { LaneCfg.disabled with mode := BitVec.ofNat 8 m } } }

def withPort (p : Nat) (u : PortUse) (s : State) : State := { s with cfg := { s.cfg with ports := tinsert s.cfg.ports p u } }

/-- Every port of the live page is quiesced. -/
def quiesced (s : State) : State := { s with page := { s.page with live := { s.page.live with quiesce := BitVec.ofNat 256 (2 ^ 256 - 1) } } }

def vblState (s : State) : State := withLane 0 0x18 s
def laneState (s : State) : State := quiesced (withLane 1 1 s)
def monState (s : State) : State := quiesced (withPort 5 .monitor s)

/-- Lanes 0 and 1 of one rate, each bound to a port. -/
def pairState (m : Nat) (s : State) : State :=
  withPort 0 (.lane 0 0) (withPort 1 (.lane 1 1) (withLane 0 m (withLane 1 m s)))

def linearState (s : State) : State := pairState 1 s
def ringState (s : State) : State := pairState 4 s
def remapState (s : State) : State := pairState 4 s

def aLinear : LinearCfg :=
  { oneToN := false, n := 1, bidir := false, revertive := false, extra := false, sdEn := true, holdOff := 0, wtr := 5, prot := 0,
    work := [1] }
def aRing : RingCfg :=
  { east := 0, west := 1, node := 0, map := [0, 1], extra := false, holdOff := 0, wtr := 5, squelch := List.replicate 384 0 }

def linState (s : State) : State := { linearState s with cfg := { (linearState s).cfg with linear := [(3, aLinear)] } }
def rngState (s : State) : State := { ringState s with cfg := { (ringState s).cfg with rings := [(3, aRing)] } }

/-- An entry whose ARGS are given as bytes. -/
def byteEntry (len : Nat) (bs : List Nat) : CmdEntry := mkEntry len (fromLE (bs.map fun b => BitVec.ofNat 8 b))

def withBuf (at_ : Nat) (d : Nat) (c : CmdEntry) : CmdEntry := { c with args := c.args ||| BitVec.ofNat 448 (2 ^ (8 * at_) * d) }

def linearEntry : CmdEntry := byteEntry 24 ([0, 3, 0, 1, 8, 0, 5, 0, 1] ++ List.replicate 13 0xFF)
def ringEntry : CmdEntry :=
  withBuf 32 (descOf 4096 384 false)
    (byteEntry 48 ([1, 3, 0, 1, 0, 2, 0, 0, 5, 0, 0, 0, 0, 0, 0, 0, 0, 1] ++ List.replicate 14 0xFF))
def remapEntry : CmdEntry := withBuf 8 (descOf 4096 1536 false) (byteEntry 24 [2, 9])
def protEntry : CmdEntry := byteEntry 8 [1, 0, 2, 0, 3]
def profileEntry : CmdEntry := mkEntry 16 (1 + 2 ^ 64 * 0x050006030F)
def profileReadEntry : CmdEntry := mkEntry 16 0x101

/-- The buffer at 4,096 holds one record: HO entry 0 empty; or, in the second, of a TYPE that no HO entry has. -/
def bulkState (s : State) : State :=
  { s with host := { s.host with mem := (List.range 6).map fun i => (4104 + i, 0xFF) } }
/-- The buffer holds one carrier record, not configured and bound to nothing. -/
def carBuf (s : State) : State := { s with host := { s.host with mem := (List.range 3).map fun i => (4096 + i, 0xFF) } }
/-- Carrier 0 of the staged page is a T1. -/
def t1Staged (s : State) : State :=
  { s with page := { s.page with staged := { s.page.staged with car := [(0, BitVec.ofNat 128 (2 ^ 24 + 2 ^ 25))] } } }
/-- DS0 entry 24, which no T1 has. -/
def ds0Entry : CmdEntry := mkEntry 16 (0x180000018 + 2 ^ 64 * 0x0000FFFFFFFFFFFF)
def badBulk (s : State) : State := { s with host := { s.host with mem := [(4110, 0x18)] } }

-- Timing.

def slotEntry : CmdEntry := mkEntry 24 (0x0300 + 2 ^ 64 * 0x005C050500000000)
def blockEntry : CmdEntry := mkEntry 24 (1 + 2 ^ 64 * 0x4B1400BB06)

/-- Slot 3 follows the output of lane 1. -/
def slotState (s : State) : State :=
  { laneState s with cfg := { (laneState s).cfg with slots := [(3, 0x005C050500010101)] } }
def wtrSlot (s : State) : State := { s with tim := { s.tim with slots := [(3, { failed := true, wtr := some 4000 })] } }
def holdState (s : State) : State := { s with tim := { s.tim with dpll := 2, holdover := some 7 } }
def forcedState (s : State) : State := { s with cfg := { s.cfg with forceHold := true } }
def softState (s : State) : State := { s with tim := { s.tim with dpll := 4 } }

-- Monitoring.

/-- TAP 0 to port 5, of LO entry 0. -/
def tapEntry : CmdEntry := byteEntry 16 [0, 5, 0, 0, 0, 0, 0, 0, 5, 0]
def tapOffEntry : CmdEntry := byteEntry 16 [0, 0, 0, 0, 0, 0, 0, 0, 5, 0]
def tapState (s : State) : State := monState s
def prbsEntry : CmdEntry := byteEntry 16 [0, 1]

def anAudit : Audit :=
  { seq := 0, kind := 0, origin := 0, slice := 0, unit := false, part := 0, parts := 1, fn := 4000, opcode := 0x22, epoch := 1,
    data := 0 }
def auditState (s : State) : State := { s with bel := { s.bel with audit := [anAudit], auditSeq := 1 } }

-- The pair and the group.

def aTwin : TwinCfg := { unit := false, slice := 0, ghaEn := true, ghbEn := true, ttl := 100 }
def twinEntry : CmdEntry := byteEntry 8 [0x31, 0, 100, 0]
def twinOffEntry : CmdEntry := mkEntry 8 0
def groupEntry : CmdEntry := byteEntry 8 [5, 0, 0, 0, 2]
def groupOffEntry : CmdEntry := mkEntry 8 0
def twinState (s : State) : State := { s with cfg := { s.cfg with twin := some aTwin } }
def keyEntry : CmdEntry := byteEntry 40 [0, 1, 0, 0, 0, 0, 0, 0, 9]
def keyEntryB : CmdEntry := byteEntry 40 [1, 1, 0, 0, 0, 0, 0, 0, 9]
def keyState (s : State) : State := { s with flash := { s.flash with keyB := some (List.replicate 32 1) } }

-- The package.

def imgState (n : Nat) (s : State) : State := { s with img := { s.img with state := BitVec.ofNat 3 n } }
def dlState (s : State) : State := { s with img := { s.img with state := 1, length := 192 } }
def kindState (n : Nat) (s : State) : State :=
  { imgState 3 s with flash := { s.flash with slotB := List.replicate 26 0 ++ [BitVec.ofNat 8 n] } }

/-- A memory with nothing listed reads as zeros. -/
theorem read_blank {s : State} {a n : Nat} (h : s.host.mem = []) : readSegs s [(a, n)] = List.replicate n 0#8 := by
  have key : ∀ k, memByte s.host.mem k = 0#8 := by intro k; rw [h]; rfl
  simp [readSegs, memBytes, key, List.map_const']

theorem le_blank (n off : Nat) : ∀ k, le (List.replicate n 0#8) off k = 0 := by
  have key : ∀ j, byteAt (List.replicate n 0#8) j = 0#8 := by
    intro j; simp only [byteAt, List.getD_eq_getElem?_getD, List.getElem?_replicate]; split <;> rfl
  have zero : ∀ k, fromLE (List.replicate k 0#8) = 0 := by
    intro k; induction k with
    | zero => rfl
    | succ k ih => simp [List.replicate_succ, fromLE, ih]
  intro k; simp [le, slice, key, List.map_const', zero]

/-- The 192 entries that a blank buffer holds. -/
theorem remap_blank {s : State} {a n : Nat} (h : s.host.mem = []) :
    List.replicate 192 0#64 = (List.range 192).map fun i => BitVec.ofNat 64 (le (readSegs s [(a, n)]) (8 * i) 8) := by
  have key : (fun i => BitVec.ofNat 64 (le (readSegs s [(a, n)]) (8 * i) 8)) = fun _ => 0#64 := by
    funext i; rw [read_blank h, le_blank]
  rw [key, List.map_const', List.length_range]

-- The rings.

def withHost (f : HostSt → HostSt) (s : State) : State := { s with host := f s.host }

def aRingUp : Ring := { base := 0x10000, size := 4, en := true }
def anEvt : Evt := { code := 4, mode := .solo, seq := 0, fn := 4800, payload := 0 }
def aCpl : Cpl := { tok := { opcode := 1, tag := 7, pos := 0 }, status := 0, obj := 0, result := 0 }

def ringState0 : State := withHost (fun h => { h with cmd := aRingUp, cpl := aRingUp, evt := aRingUp }) soloState
/-- One NOP with PHASE 1 waits at position 0. -/
def fetchState : State :=
  withHost (fun h => { h with cmd := { h.cmd with host := 1 }, mem := [(0x10000, 1), (0x10001, 1)] }) ringState0
def noRoomState : State := withHost (fun h => { h with held := 16 }) fetchState
def staleState : State := withHost (fun h => { h with mem := [(0x10000, 1)] }) fetchState
def schedState : State :=
  withHost (fun h => { h with sched := [{ due := 4800, tok := none, own := true, effect := .unbind 3, result := 0, applied := false }] }) ringState0
def cplState : State := withHost (fun h => { h with cplQ := [aCpl], held := 1 }) ringState0
def evtState : State := withHost (fun h => { h with evtQ := [anEvt] }) ringState0
def slowState : State :=
  { withHost (fun h => { h with cplQ := [aCpl], cpl := { h.cpl with pos := 16, fullSince := some 100 } }) ringState0 with
    clk := { soloState.clk with fn := 9000 } }
def cplAhead : State := withHost (fun h => { h with cpl := { h.cpl with pos := 1 } }) ringState0
def evtAhead : State := withHost (fun h => { h with evt := { h.evt with pos := 1 } }) ringState0
def irqState : State := withHost (fun h => { h with topEnable := 1, causes := [(0, 1)], enables := [(0, 1)] }) soloState
def unlocked : State := withHost (fun h => { h with lock := false }) ringState0
def openState : State := withHost (fun h => { h with lock := false }) soloState
def maskedState : State := withHost (fun h => { h with pend := true, msixEn := true }) irqState
def safeState : State := modeState .safe

-- Transfers.

def aSet : DmaSet := { src := 0x1000, dst := 0x80001000, len := 512, ctrl := 0x40 }

/-- Channel 31 is the host's, and so is 24, which is paused. -/
def dmaState : State :=
  { withHost (fun h => { h with hostCh := 8 }) soloState with
    dma := { soloState.dma with ch := [(24, { set := aSet, phase := .paused, pause := true }), (31, { set := aSet })] } }
def chState (c : DmaCh) : State := { dmaState with dma := { dmaState.dma with ch := [(31, c)] } }
def armedState : State := chState { set := { aSet with ctrl := 0x240 }, phase := .armed, remain := 512 }
def runState : State := chState { set := { aSet with ctrl := 0x240 }, phase := .running, remain := 512, begun := 1 }
def lastBurst : State := chState { set := aSet, phase := .running, remain := 256, begun := 1 }
def stopState : State := chState { set := aSet, phase := .running, stopping := true, remain := 256 }

-- Frames and commits.

def aJob : CommitJob :=
  { tok := none, first := 100, target := 100, flag := .defer, startFn := 4000, retries := 0, incremental := false, ready := true,
    id := 0, parts := [], part := 1, nParts := 1, swapped := [], cause := none, announced := true, own := true, slice := 0,
    unit := false, stagedFp := 0, prepared := false, sentCommit := false, holdsCommit := false, aborted := false, refused := false,
    participants := 0, readyFrom := 0, ackFrom := 0 }

/-- `n` frames before the boundary of the job. -/
def withJob (n : Nat) (j : CommitJob) (s : State) : State :=
  { s with clk := { s.clk with fn := BitVec.ofNat 48 (4800 - n) }, page := { s.page with state := .sealed, job := some j } }
def jobState (n : Nat) (solving : Bool) : State :=
  let s := withJob n aJob soloState
  if solving then { s with page := { s.page with solving := some 4700 } } else s
def solveState : State :=
  let s := withJob 40 { aJob with ready := false, part := 0 } soloState
  { s with page := { s.page with solving := some 4700 } }
def pfwOn (s : State) : State := { s with pwr := { s.pwr with pfw := true } }
def finalState : State := { jobState 0 false with page := { (jobState 0 false).page with state := .final } }
/-- HO entry 0 selects between two legs; hold-offs and the wait to restore have run their time. -/
def selState : State :=
  { soloState with
    clk := { soloState.clk with fn := 0x1000000 }
    page := { soloState.page with
      live := { soloState.page.live with ho := [(0, BitVec.ofNat 64 (2 ^ 63 + 2 * 2 ^ 48 + 2 ^ 24 + 2))] } }
    prot := { soloState.prot with
      sel := [(selKey .ho 0, { hoA := some 100, hoB := some 100, wtr := some 100 })] } }
/-- The same, with the live entry under an uncorrectable error. -/
def badSelState : State := { selState with page := { selState.page with bad := [.liveEntry .ho 0] } }
def dueState : State := { soloState with jrn := { soloState.jrn with due := [{ aRec with kind := .config }] } }

/-- The Bellwether of a pair. -/
def bellJob (n : Nat) : State := twinState (withJob n aJob (modeState .active))
def syncState : State :=
  let s := twinState (modeState .standby)
  { s with mode := { s.mode with sync := 3 }, twin := { s.twin with linkUp := true } }
def preparedJob : State := twinState (withJob 40 { aJob with prepared := true, announced := false, participants := 3 } (modeState .active))
/-- A message of commit 0 for boundary 100 (FN 4,800), with fingerprint 0 and cause 0; with another fingerprint; with cause 1. -/
def readyMsg : Bytes := List.replicate 8 0 ++ [0x12, 0xC0] ++ List.replicate 14 0
def readyBad : Bytes := readyMsg.set 21 1
def abortMsg : Bytes := readyMsg.set 22 1
/-- The start of a frame in which one row is due. -/
def atStart (x : StartStep) (s : State) : State := { s with clk := { s.clk with start := [x] } }
def prep28 : State := twinState (withJob 28 { aJob with prepared := true, announced := false, participants := 3 } (modeState .active))
def sentJob : State :=
  twinState (withJob 24 { aJob with prepared := true, sentCommit := true, announced := false, participants := 3 } (modeState .active))
def unready : State := withJob 24 { aJob with ready := false, announced := false } soloState
def unannounced : State := withJob 8 { aJob with announced := false } soloState
/-- A later part of the commit, with the identity and the boundary of the message. -/
def aheadPart : List Ahead := [{ id := 0, target := 100, participants := 3, readyFrom := 1 }]
def aheadJob : State := twinState (withJob 40 { aJob with id := 1, target := 99, ahead := aheadPart } (modeState .active))
def otherAhead : State := withJob 24 { aJob with own := false, id := 1, target := 99, ahead := aheadPart } soloState
def memberJob : State := withJob 24 { aJob with participants := 1 } soloState
def otherJob : State := withJob 24 { aJob with own := false } soloState
/-- A channel of which every burst has begun. -/
def spentState : State := chState { set := aSet, phase := .running, remain := 0 }

-- The group and the pair.

def aMember (raw : Bytes) (fn : Nat) : MemberRec := { raw := raw, fn := BitVec.ofNat 48 fn }

def groupState : State :=
  let s := twinState (modeState .active)
  { s with
    cfg := { s.cfg with group := some { gid := 7, slices := 2 } }
    grp := { s.grp with eastDown := false, westDown := false } }
def withGrp (f : GroupSt → GroupSt) (s : State) : State := { s with grp := f s.grp }
def oldRecord : State := withGrp (fun g => { g with recs := [(1, aMember [] 100)] }) soloState
def aPacket : Bytes :=
  let b : Bytes := [0x20, 0x08, 3, 0, 1, 0, 0]
  b ++ crcBE b
def ownPacket : Bytes :=
  let b : Bytes := [0x20, 0, 3, 0, 1, 0, 0]
  b ++ crcBE b
/-- Three ordered sets /I2/ from negative disparity. -/
def threeIdles : List (BitVec 10) := (encodeRow (idleSet ++ idleSet ++ idleSet) false).1.map (BitVec.ofNat 10)
def followState : State := withGrp (fun g => { g with bell := some 1 }) groupState
def bellGroup : State := withGrp (fun g => { g with bell := some 0 }) groupState
def fencedState : State :=
  let s := withGrp (fun g => { g with bell := some 1, fenced := true, recs := [(1, aMember [] 4799)] }) groupState
  { s with page := { s.page with live := { s.page.live with epoch := 5 } } }

def withTwin (f : TwinSt → TwinSt) (s : State) : State := { s with twin := f s.twin }
def framedMl : MlRx := { inFrame := true, run := 16, lastFn := 4800 }
def linkable : State := withTwin (fun t => { t with ml0 := framedMl, ml1 := framedMl }) (twinState soloState)
def twinUp : State := withTwin (fun t => { t with linkUp := true }) linkable
def late : State := soloState
def mateHdr : Bytes :=
  let b : Bytes := [1, 0x90] ++ List.replicate 58 0
  b ++ crcBE b
def ownHdr : Bytes :=
  let b : Bytes := [1, 0x10] ++ List.replicate 58 0
  b ++ crcBE b
def mateHdr0 : Bytes :=
  let b : Bytes := [1, 0x80] ++ List.replicate 58 0
  b ++ crcBE b
def aRecord : JRecord := aRec
def aSnapshot : Snapshot :=
  { seq := 3, closed := true, macOk := true, page := Page.empty, fp := 0, cfg := Cfg.initial, member := false, audits := [] }
def resyncState : State := { syncState with mode := { syncState.mode with sync := 2 } }
def sentState : State :=
  withTwin (fun t => { t with linkUp := true, sentPkts := [(2, 255, [0])] }) (twinState (modeState .active))
def gapState : State := withTwin (fun t => { t with linkUp := true, gaps := [(2, 100)] }) (twinState soloState)
def equalState : State :=
  let hdr := List.replicate 4 0 ++ toBE 6 4800 ++ List.replicate 12 0 ++ toBE 8 syncState.page.live.epoch.toNat ++ toBE 8 syncState.page.liveFp.toNat ++ List.replicate 26 0
  { syncState with
    mode := { syncState.mode with sync := 1 }
    tim := { syncState.tim with aligned := true }
    twin := { syncState.twin with copyGood := true, hdr := { raw := hdr, fn := 4800 } } }
def mateTimed : State :=
  let s := withTwin (fun t => { t with linkUp := true }) (twinState (modeState .standby))
  { s with
    mode := { s.mode with sync := 1 }
    cfg := { s.cfg with slots := [(3, 0x005C050500010003)] }
    tim := { s.tim with use := some 3, dpll := 2 } }

-- Roles.

def grantMsg : Bytes :=
  let b : Bytes := [2, 1, 0, 0, 0, 0, 0, 5, 0, 100, 0, 0, 0, 0, 0, 1, 0, 0, 0, 9] ++ List.replicate 8 0
  b ++ crcBE b
def ghState : State :=
  withTwin (fun t => { t with gha := { t.gha with sent := [(9, 4790)] } }) (twinState (modeState .standby))
def pendState : State :=
  let s := withTwin (fun t => { t with pending := some { epoch := 5, leaseEnd := 100, forced := false } })
    (twinState (modeState .standby))
  { s with clk := { s.clk with fn := 50 } }
def leaseState : State := withTwin (fun t => { t with leaseEnd := some 100 }) (twinState (modeState .active))
def leaseHeard : State := withTwin (fun t => { t with gha := { t.gha with grantFn := some 4790 } }) leaseState
def overlapState : State := withTwin (fun t => { t with ghb := { t.ghb with prevKey := some ([], 100) } }) soloState
def takeoverState : State :=
  let s := withTwin (fun t => { t with takeover := some 100 }) (twinState (modeState .active))
  { s with flash := { s.flash with snap0 := some aSnapshot } }

-- Lanes.

def withRx (k : Nat) (x : RxState) (s : State) : State := { s with lane := { s.lane with rx := tinsert s.lane.rx k x } }

def vblLane : State := withLane 1 0x18 soloState
def vblUp : State := withRx 1 { inFrame := true, pos := 5 } vblLane
def vblDue : State := vblLane
def vblHdr : Bytes :=
  List.replicate 88 0 ++ toBE 4 0xFB42584D
def vblCand : VblCand := { pos := 5, word := vblAlign, uncorr := 3, header := vblHdr }
theorem least_one {α : Type} (key : α → Nat) (c : α) {p : α → Bool} (h : p c = true) : leastBy key ([c].filter p) = some c := by
  rw [List.filter_cons_of_pos h]
  rfl
theorem cand_ok (c : VblCand) (h1 : c.word.length = 16) (h2 : wordErrors c.word ≤ 3) (h3 : c.uncorr ≤ 16)
    (h4 : crcGood c.header 88 = true) : candVerifies c = true := by
  simp [candVerifies, h1, h2, h3, h4]
def vblMsg : Bytes :=
  let b : Bytes := [0, 0, 0x40, 0]
  b ++ crcBE b
def withDistrust (d : Distrust) (s : State) : State := { s with prot := { s.prot with distrust := [(1, d)] } }
def quietLane : State := withDistrust { on := true, quiet := 1000 } vblUp
def repeatLane : State :=
  { withDistrust { on := true, since := 1000 } vblUp with clk := { soloState.clk with fn := 9000 } }
def barredLane : State := withRx 1 { barred := [{ pos := 5, fn := 100 }] } vblLane
def laneUp : State := withLane 0 1 soloState
def laneFramed : State := withPort 0 (.lane 0 0) (withRx 0 { inFrame := true } laneUp)
def tiedLane : State := withRx 0 { tied := [7, 9], tiedFn := 100 } laneUp
def barLane : State := withRx 0 { barred := [{ pos := 7, fn := 100 }] } laneUp
def pathState : State := laneFramed
def laneLof : State := withPort 0 (.lane 0 0) (withRx 0 { since := 100 } laneUp)
def otnLane : State := withPort 0 (.lane 0 0) (withLane 0 8 soloState)
def stormLane : State := { laneFramed with prot := { laneFramed.prot with kb := [(0, { changes := List.replicate 17 4790 })] } }
def stormOver : State :=
  { laneFramed with
    clk := { laneFramed.clk with fn := 20000 }
    prot := { laneFramed.prot with kb := [(0, { kstorm := true, stormFn := 100 })] } }
def linGroup : State := linState soloState
def linAps (a : ApsState) : State := { linGroup with prot := { linGroup.prot with linear := [(3, a)] } }
def fopGroup : State := linAps { fopFn := some 100 }
def wantGroup : State := linAps { want := 1, wantFn := some 100 }
def fopEnds : State := linAps { fopFn := some 100, fop := true }
/-- On the way from one switched state to another. -/
def nextGroup : State := linAps { next := some (2, 2), want := 1, wantFn := some 100 }
def leaveGroup : State := linAps { st := 2, br := 2, want := 1, wantFn := some 100 }

-- Carriers.

/-- Carrier 0 with a record, on LO entry 0 of a groomed HO entry; `found` is the type that TU group shows. -/
def carBase (r : Nat) (found : Nat) : State :=
  { laneFramed with
    page := { laneFramed.page with
      live := { laneFramed.page.live with
        ho := [(0, BitVec.ofNat 64 (2 ^ 63 + 2 ^ 55))], car := [(0, BitVec.ofNat 128 r)] } }
    dft := { laneFramed.dft with found := [(0, found)] } }
def groomedState : State := carBase 0 0
def withCar (x : CarState) (s : State) : State := { s with car := [(0, x)] }
def t1Rec : Nat := 2 ^ 24 + 2 ^ 25
def carState0 : State := carBase t1Rec 1
def carTied : State := withCar { tied := [3, 5], tiedFn := 100 } carState0
def carUp : State := withCar { aligned := true, pos := 3 } carState0
def carFalse : State := withCar { aligned := true, pos := 3 } (carBase (t1Rec + 2 ^ 28) 1)
/-- 36 frames of the T1 SF pattern. -/
def sfBytes : Bytes := (List.range 36).map fun i => if sfPattern.getD (i % 12) false then 1 else 0
def carFalseE1 : State := withCar { aligned := true, mf := true } (carBase (2 ^ 24 + 2 ^ 28) 2)
def carBarred : State := withCar { barred := [{ pos := 3, fn := 100 }] } carState0
def carSeek : State := withCar { aligned := true, seek := some 100 } (carBase (2 ^ 24 + 2 * 2 ^ 28) 2)
def carHeld : State := withCar { aligned := true, sigHold := some 100 } carState0
def carCas : State := withCar { aligned := true } (carBase (2 ^ 24 + 2 * 2 ^ 28 + 2 ^ 32) 2)

-- Reports.

def withFn (n : Nat) (s : State) : State := { s with clk := { s.clk with fn := BitVec.ofNat 48 n } }
def withPm (f : PmSt → PmSt) (s : State) : State := { s with pm := f s.pm }
def aSec : PmSec :=
  { start := 1, endFn := 100, monitored := true, nErr := 0, fErr := 0, nSes := false, fSes := false, nUas := false,
    fUas := false, flags := 0, exA := 0, exB := 0, binned := false, stepped := false }
def pmState : State := withFn 90000 (withPm (fun p => { p with objs := [(objKey 0 0, { secs := [aSec] })] }) soloState)
def pmBin : State :=
  { withPm (fun p => { p with objs := [(objKey 0 0, { lost := 1 })] }) soloState with
    clk := { soloState.clk with todSec := 2000 } }
def pmBufState : State :=
  withFn 9000 (withPm (fun p => { p with
    bufs := [{ segs := [(4096, 4096)], addr := 4096, len := 4096, written := 64, firstFn := 100 }] }) soloState)
def secState : State := { soloState with clk := { soloState.clk with todSec := 5 } }
def aPrbs : PrbsCfg := { gen := false, ana := true, pattern := 0, inv := false, tier := .ho, idx := 0 }
def prbsState : State := { soloState with bel := { soloState.bel with prbs := [(2, { cfg := some aPrbs })] } }

-- References.

def withTim (f : TimSt → TimSt) (s : State) : State := { s with tim := f s.tim }
def slotUp : State := slotState soloState
def slotLof : State := { slotUp with dft := { slotUp.dft with set := [(objKey 0 1, 4)] } }
def slotBad : State := withTim (fun t => { t with slots := [(3, { conds := 1 })] }) slotUp
def slotHold : State := withTim (fun t => { t with slots := [(3, { conds := 1, hold := some 100 })] }) slotUp
def slotWtr : State := withFn 3000000 (withTim (fun t => { t with slots := [(3, { failed := true, wtr := some 100 })] }) slotUp)
def acqState : State := withFn 900000 (withTim (fun t => { t with use := some 3, switching := some 100, dpll := 1 }) slotUp)
def lockState : State := withTim (fun t => { t with use := some 3, lockRun := 16000, dpll := 1, tracking := true }) slotUp
def slotWindow : State := withFn 16000 (withTim (fun t => { t with slots := [(3, { inWin := some 100 })] }) slotUp)
def ssmSlot : State := slotUp
def twoSlots : State :=
  let s := { slotUp with cfg := { slotUp.cfg with slots := [(3, 0x005C050500010101), (4, 0x005C050500010101)] } }
  withTim (fun t => { t with slots := [(3, { ql := some 2 }), (4, { ql := some 2, offset := 500 })] }) s

-- Engines, update, debug, environment.

def engState : State := soloState
def actState (n : Nat) : State :=
  { withFn 48000 soloState with img := { soloState.img with act := some { step := n, next := 0, startFn := 0 } } }
def withCluster (x : ClusterSt) (s : State) : State := { s with eng := { s.eng with cl := [(0, x)] } }
def awaitState : State := withCluster { awaiting := some 100 } (actState 3)
def badBank : State := withCluster { lastBad := some (0, 100) } soloState
def turnState : State :=
  { soloState with pwr := { soloState.pwr with
    dom := soloState.pwr.dom.filter fun x => decide (x.1 ≠ 33), turning := [(33, .on)] } }
def owedDomain : State :=
  { engState with host := { engState.host with waiters := [.domain (some { opcode := 0xA0, tag := 1, pos := 0 }) 33 .off] } }
def fullState : State := { soloState with flash := { soloState.flash with used := 1000000000 } }
def compactState : State := { soloState with jrn := { soloState.jrn with compaction := some { seq := 3, snap := aSnapshot } } }
def healthyState : State := { soloState with img := { soloState.img with state := 4, healthy := some 240000 } }
def overdueState : State := { soloState with img := { soloState.img with state := 4, trialFn := some 2400000 } }
def fieldState : State := { soloState with bak := { soloState.bak with lifecycle := 2 } }
def challengedState : State := { fieldState with dbg := { fieldState.dbg with challenge := some [1] } }
def hotState : State := { soloState with pwr := { soloState.pwr with temps := [(0, 1550)] } }
def pfwOpt : State := soloState
def retiredState : State := { safeState with bak := { safeState.bak with lifecycle := 4 } }
def jobNow : CommitJob := aJob
def fullQueue : State := withHost (fun h => { h with evtQ := List.replicate 8192 anEvt }) soloState

/-- A package header whose package is the header alone; it stands in host memory at 4,096. -/
def aHeader : List (Nat × Byte) :=
  [(0, 0x52), (1, 0x5A), (2, 0x52), (3, 0x4E), (4, 0x01), (6, 0xC0), (8, 0x7A), (9, 0x1F), (10, 0x48), (11, 0x25),
   (12, 0xC0), (188, 0x03), (189, 0x9E), (190, 0xBF), (191, 0x64)]
def beginEntry : CmdEntry := mkEntry 24 (192 + 2 ^ 64 * descOf 4096 192 false)
def beginState : State := withHost (fun h => { h with mem := aHeader.map fun x => (4096 + x.1, x.2) }) (cmdState .solo 0x80 beginEntry)
/-- A key and a signature of the challenge [2] that it verifies. -/
def vendorKey : Bytes :=
  toBE 48 0x109a8970386147c7e70e4e22a6c7ed05aebc09f95c22cade3e9e07ec49bf4995d6c6f54f36a696faef0d7ef968fa4ceb ++
  toBE 48 0x94c284c778f31082ca7af7070ea7f8cd993e9e39b5f4ae728010327444a16b733f8e645eba57dec331f17766d45c8ca9
def vendorSig : Bytes :=
  toBE 48 0x79c6cd072d82b9238e26dfb4664f888a74af6c8f27ef5f2813486be73a96a60296ef68eb6cd89f9a49117bb252685d1b ++
  toBE 48 0x79c6cd072d82b9238e26dfb4664f888a74af6c8f27ef5f2813486be73a96a60296ef68eb6cd89f9a49117bb252685d1b
def answeredState : State :=
  let s := { fieldState with dbg := { fieldState.dbg with challenge := some [2] } }
  { s with fuse := { s.fuse with
    rootHash := BitVec.ofNat 384
      0xd342ef605356fc6c0b9766e9391e1506fb0c040f39c036f0f69a4c5eca7101339b019b95c168de5bc1e1986d3738a1d1 } }
def headerBytes : Bytes := (List.range 192).map fun i => (tget 0 aHeader i)

/-- The checks of IMAGE_BEGIN on that header, its CRC-32 taken piece by piece. -/
theorem header_good : headerReason beginState headerBytes = 0 := by
  have hc : crc32 (slice headerBytes 0 188) = 0x64BF9E03#32 := by
    unfold crc32
    rw [show slice headerBytes 0 188 =
      [([0x52, 0x5A, 0x52, 0x4E, 0x01, 0x00, 0xC0, 0x00, 0x7A, 0x1F, 0x48, 0x25, 0xC0] ++ List.replicate 17 0, 0x8DF97E7F#32),
       (List.replicate 30 0, 0xD887E774#32),
       (List.replicate 30 0, 0xB9B79392#32),
       (List.replicate 30 0, 0xD4BEE2BB#32),
       (List.replicate 30 0, 0xABF15FCF#32),
       (List.replicate 30 0, 0xC0C8690A#32),
       (List.replicate 8 0, 0x9B4061FC#32)].flatMap (fun p : Bytes × Word32 => p.1) by decide +kernel, crc_chain (z := 0x9B4061FC#32) (by decide +kernel)]
    decide +kernel
  unfold headerReason
  rw [hc]
  decide +kernel

/-- States and operands that meet the hypotheses of each of clauses 1 to 5 with hypotheses of Obligations.CompletesMode. -/
theorem witness_CompletesMode_1 :
    (∃ (s : State) (c : CmdEntry) (pos : Nat) (rest : List Fetched),
      (Starts s 0x01 c (nopChecks) pos rest)) ∧
    (∃ (s : State) (c : CmdEntry) (pos : Nat) (rest : List Fetched),
      (Starts s 0x02 c (queryChecks c) pos rest) ∧ (c.len ≠ 24)) ∧
    (∃ (s : State) (c : CmdEntry) (pos : Nat) (rest : List Fetched) (segs : List (Nat × Nat)) (t : State),
      (Starts s 0x02 c (queryChecks c) pos rest) ∧ (c.len = 24) ∧ (segments s (descAt c 8) true (· == 128) = .ok segs) ∧ (t = { s with host := { s.host with mem := writeSegs segs 0 (stateBlock s) s.host.mem } })) ∧
    (∃ (s : State) (c : CmdEntry) (pos : Nat) (rest : List Fetched),
      (Starts s 0x03 c (modeChecks s c) pos rest) ∧ (modeArg c ≠ s.mode.mode)) ∧
    (∃ (s : State) (c : CmdEntry) (pos : Nat) (rest : List Fetched),
      (Starts s 0x03 c (modeChecks s c) pos rest) ∧ (modeArg c = s.mode.mode)) :=
  ⟨⟨(cmdState .solo 0x01 (mkEntry 0 (0))), (mkEntry 0 (0)), 0, [], starts_of (by decide +kernel)⟩,
   ⟨(cmdState .solo 0x02 (mkEntry 0 (0))), (mkEntry 0 (0)), 0, [], starts_of (by decide +kernel), by decide +kernel⟩,
   ⟨(cmdState .solo 0x02 (mkEntry 24 (2 ^ 64 * descOf 4096 128 true))), (mkEntry 24 (2 ^ 64 * descOf 4096 128 true)), 0, [], _, _, starts_of (by decide +kernel), by decide +kernel, seg_plain (by decide +kernel), rfl⟩,
   ⟨(cmdState .solo 0x03 (mkEntry 8 (2))), (mkEntry 8 (2)), 0, [], starts_of (by decide +kernel), by decide +kernel⟩,
   ⟨(cmdState .solo 0x03 (mkEntry 8 (3))), (mkEntry 8 (3)), 0, [], starts_of (by decide +kernel), by decide +kernel⟩⟩

/-- States and operands that meet the hypotheses of each of clauses 6 to 7 with hypotheses of Obligations.CompletesMode. -/
theorem witness_CompletesMode_2 :
    (∃ (s : State) (c : CmdEntry) (pos : Nat) (rest : List Fetched),
      (Starts s 0xF0 c (resetChecks c) pos rest) ∧ (arg c 0 4 = keyCold)) ∧
    (∃ (s : State) (c : CmdEntry) (pos : Nat) (rest : List Fetched),
      (Starts s 0xF0 c (resetChecks c) pos rest) ∧ (arg c 0 4 = keyWarm)) :=
  ⟨⟨(cmdState .solo 0xF0 (mkEntry 4 (0x5AFEC01D))), (mkEntry 4 (0x5AFEC01D)), 0, [], starts_of (by decide +kernel), by decide +kernel⟩,
   ⟨(cmdState .solo 0xF0 (mkEntry 4 (0x5AFE3A53))), (mkEntry 4 (0x5AFE3A53)), 0, [], starts_of (by decide +kernel), by decide +kernel⟩⟩

/-- States and operands that meet the hypotheses of each clause of Obligations.CompletesLane. -/
theorem witness_CompletesLane :
    (∃ (s : State) (c : CmdEntry) (pos : Nat) (rest : List Fetched),
      (Starts s 0x10 c (configureChecks s c) pos rest) ∧ (arg c 0 1 = 0) ∧ (c.len ≠ 40) ∧ (laneConflict s (arg c 1 1) (arg c 2 1) = false) ∧ (arg c 2 1 = 0 ∨ domOn s (arg c 1 1 / 4) = true) ∧ (s.mode.mode ≠ .active)) ∧
    (∃ (s : State) (c : CmdEntry) (pos : Nat) (rest : List Fetched),
      (Starts s 0x10 c (configureChecks s c) pos rest) ∧ (arg c 0 1 = 0) ∧ (c.len ≠ 40) ∧ (laneConflict s (arg c 1 1) (arg c 2 1) = false) ∧ (arg c 2 1 = 0 ∨ domOn s (arg c 1 1 / 4) = true) ∧ (s.mode.mode = .active)) ∧
    (∃ (s : State) (c : CmdEntry) (pos : Nat) (rest : List Fetched) (segs : List (Nat × Nat)),
      (Starts s 0x10 c (configureChecks s c) pos rest) ∧ (arg c 0 1 = 0) ∧ (c.len = 40) ∧ (laneConflict s (arg c 1 1) (arg c 2 1) = false) ∧ (arg c 2 1 = 0 ∨ domOn s (arg c 1 1 / 4) = true) ∧ (segments s (descAt c 24) false (· == 1024) = .ok segs) ∧ (slotMapOk (arg c 2 1) (slice (readSegs s segs) 128 80) = true)) ∧
    (∃ (s : State) (c : CmdEntry) (pos : Nat) (rest : List Fetched) (segs : List (Nat × Nat)) (t : State),
      (Starts s 0x10 c (vblSendChecks s c) pos rest) ∧ (arg c 0 1 = 1) ∧ ((waitingOn s (arg c 1 1)).length < 64) ∧ (laneMode s.cfg (arg c 1 1) = 0x18) ∧ (segments s (descAt c 8) false (· == sendLength (arg c 4 2)) = .ok segs) ∧ (t = { s with lane := { s.lane with txq := s.lane.txq ++ [(arg c 1 1, BitVec.ofNat 8 (arg c 2 1), (readSegs s segs).take (arg c 4 2))] } })) ∧
    (∃ (s : State) (c : CmdEntry) (pos : Nat) (rest : List Fetched) (segs : List (Nat × Nat)),
      (Starts s 0x10 c (vblRxChecks c) pos rest) ∧ (arg c 0 1 = 2) ∧ (s.lane.bufs.length < 256) ∧ (segments s (descAt c 8) true (· == 4096) = .ok segs)) :=
  ⟨⟨(cmdState .solo 0x10 (mkEntry 24 (0x0005030000030300))), (mkEntry 24 (0x0005030000030300)), 0, [], starts_of (by decide +kernel), by decide +kernel, by decide +kernel, by decide +kernel, by decide +kernel, by decide +kernel⟩,
   ⟨(cmdState .active 0x10 (mkEntry 24 (0x0005030000030300))), (mkEntry 24 (0x0005030000030300)), 0, [], starts_of (by decide +kernel), by decide +kernel, by decide +kernel, by decide +kernel, by decide +kernel, by decide +kernel⟩,
   ⟨(cmdState .solo 0x10 (mkEntry 40 (0x0005030000030300 + 2 ^ 192 * descOf 4096 1024 false))), (mkEntry 40 (0x0005030000030300 + 2 ^ 192 * descOf 4096 1024 false)), 0, [], _, starts_of (by decide +kernel), by decide +kernel, by decide +kernel, by decide +kernel, by decide +kernel, seg_plain (by decide +kernel), by decide +kernel⟩,
   ⟨(vblState (cmdState .solo 0x10 (mkEntry 24 (0x0000000800400001 + 2 ^ 64 * descOf 4096 8 false)))), (mkEntry 24 (0x0000000800400001 + 2 ^ 64 * descOf 4096 8 false)), 0, [], _, _, starts_of (by decide +kernel), by decide +kernel, by decide +kernel, by decide +kernel, seg_plain (by decide +kernel), rfl⟩,
   ⟨(cmdState .solo 0x10 (mkEntry 24 (2 + 2 ^ 64 * descOf 4096 4096 true))), (mkEntry 24 (2 + 2 ^ 64 * descOf 4096 4096 true)), 0, [], _, starts_of (by decide +kernel), by decide +kernel, by decide +kernel, seg_plain (by decide +kernel)⟩⟩

/-- States and operands that meet the hypotheses of each of clauses 1 to 5 with hypotheses of Obligations.CompletesPort. -/
theorem witness_CompletesPort_1 :
    (∃ (s : State) (c : CmdEntry) (pos : Nat) (rest : List Fetched),
      (Starts s 0x11 c (bindChecks s c) pos rest) ∧ (arg c 1 1 = 0) ∧ (bindBad s (arg c 0 1) (arg c 2 1) = false) ∧ (s.mode.mode ≠ .active)) ∧
    (∃ (s : State) (c : CmdEntry) (pos : Nat) (rest : List Fetched),
      (Starts s 0x11 c (bindChecks s c) pos rest) ∧ (arg c 1 1 = 0) ∧ (bindBad s (arg c 0 1) (arg c 2 1) = false) ∧ (s.mode.mode = .active)) ∧
    (∃ (s : State) (c : CmdEntry) (pos : Nat) (rest : List Fetched),
      (Starts s 0x11 c (portChecks s c [arg c 0 1]) pos rest) ∧ (arg c 1 1 = 1) ∧ (tget .unbound s.cfg.ports (arg c 0 1) = .unbound) ∧ (s.mode.mode ≠ .active)) ∧
    (∃ (s : State) (c : CmdEntry) (pos : Nat) (rest : List Fetched),
      (Starts s 0x11 c (portChecks s c [arg c 0 1]) pos rest) ∧ (arg c 1 1 = 1) ∧ (tget .unbound s.cfg.ports (arg c 0 1) = .unbound) ∧ (s.mode.mode = .active)) ∧
    (∃ (s : State) (c : CmdEntry) (pos : Nat) (rest : List Fetched),
      (Starts s 0x11 c (portChecks s c (unbindPorts s (arg c 0 1))) pos rest) ∧ (arg c 1 1 = 2) ∧ (unbindPorts s (arg c 0 1) ≠ []) ∧ (s.mode.mode ≠ .active)) :=
  ⟨⟨(laneState (cmdState .solo 0x11 (mkEntry 8 (0x010000)))), (mkEntry 8 (0x010000)), 0, [], starts_of (by decide +kernel), by decide +kernel, by decide +kernel, by decide +kernel⟩,
   ⟨(laneState (cmdState .active 0x11 (mkEntry 8 (0x010000)))), (mkEntry 8 (0x010000)), 0, [], starts_of (by decide +kernel), by decide +kernel, by decide +kernel, by decide +kernel⟩,
   ⟨(quiesced (cmdState .solo 0x11 (mkEntry 8 (0x0105)))), (mkEntry 8 (0x0105)), 0, [], starts_of (by decide +kernel), by decide +kernel, by decide +kernel, by decide +kernel⟩,
   ⟨(quiesced (cmdState .active 0x11 (mkEntry 8 (0x0105)))), (mkEntry 8 (0x0105)), 0, [], starts_of (by decide +kernel), by decide +kernel, by decide +kernel, by decide +kernel⟩,
   ⟨(monState (cmdState .solo 0x11 (mkEntry 8 (0x0205)))), (mkEntry 8 (0x0205)), 0, [], starts_of (by decide +kernel), by decide +kernel, by decide +kernel, by decide +kernel⟩⟩

/-- States and operands that meet the hypotheses of each of clauses 6 to 9 with hypotheses of Obligations.CompletesPort. -/
theorem witness_CompletesPort_2 :
    (∃ (s : State) (c : CmdEntry) (pos : Nat) (rest : List Fetched),
      (Starts s 0x11 c (portChecks s c (unbindPorts s (arg c 0 1))) pos rest) ∧ (arg c 1 1 = 2) ∧ (unbindPorts s (arg c 0 1) ≠ []) ∧ (s.mode.mode = .active)) ∧
    (∃ (s : State) (c : CmdEntry) (pos : Nat) (rest : List Fetched),
      (Starts s 0x11 c (quiesceChecks s c) pos rest) ∧ (arg c 1 1 = 3)) ∧
    (∃ (s : State) (c : CmdEntry) (pos : Nat) (rest : List Fetched),
      (Starts s 0x11 c (traceChecks s c) pos rest) ∧ (arg c 1 1 = 4) ∧ (s.mode.mode ≠ .active)) ∧
    (∃ (s : State) (c : CmdEntry) (pos : Nat) (rest : List Fetched),
      (Starts s 0x11 c (traceChecks s c) pos rest) ∧ (arg c 1 1 = 4) ∧ (s.mode.mode = .active)) :=
  ⟨⟨(monState (cmdState .active 0x11 (mkEntry 8 (0x0205)))), (mkEntry 8 (0x0205)), 0, [], starts_of (by decide +kernel), by decide +kernel, by decide +kernel, by decide +kernel⟩,
   ⟨(cmdState .solo 0x11 (mkEntry 8 (0x01010305))), (mkEntry 8 (0x01010305)), 0, [], starts_of (by decide +kernel), by decide +kernel⟩,
   ⟨(cmdState .solo 0x11 (mkEntry 24 (0x0405))), (mkEntry 24 (0x0405)), 0, [], starts_of (by decide +kernel), by decide +kernel, by decide +kernel⟩,
   ⟨(cmdState .active 0x11 (mkEntry 24 (0x0405))), (mkEntry 24 (0x0405)), 0, [], starts_of (by decide +kernel), by decide +kernel, by decide +kernel⟩⟩

/-- States and operands that meet the hypotheses of each of clauses 1 to 5 with hypotheses of Obligations.CompletesStaging. -/
theorem witness_CompletesStaging_1 :
    (∃ (s : State) (c : CmdEntry) (pos : Nat) (rest : List Fetched),
      (Starts s 0x20 c (stageChecks s c) pos rest) ∧ (firstBad (fun r => entryOk s.page.staged r.1 r.2.1 r.2.2) (inlineRecs c) = none) ∧ (firstBad (fun r => r.2.2 == emptyEntry || bankOn s (bankOf r.1 r.2.1)) (inlineRecs c) = none) ∧ (monCount (putRecs s.page.staged (inlineRecs c)) ≤ 262144)) ∧
    (∃ (s : State) (c : CmdEntry) (pos : Nat) (rest : List Fetched) (n : Nat),
      (Starts s 0x20 c (stageChecks s c) pos rest) ∧ (firstBad (fun r => entryOk s.page.staged r.1 r.2.1 r.2.2) (inlineRecs c) = some n)) ∧
    (∃ (s : State) (c : CmdEntry) (pos : Nat) (rest : List Fetched) (segs : List (Nat × Nat)) (rs : List StageRec) (p : Page),
      (Starts s 0x21 c (bulkChecks s c) pos rest) ∧ (segments s (descAt c 0) false bulkLen = .ok segs) ∧ (bulkRecs (readSegs s segs) = rs.map some) ∧ (p = (if argBit c 16 0 then clearTiers s.page.staged rs else s.page.staged)) ∧ (firstBad (fun r => entryOk p r.1 r.2.1 r.2.2) rs = none) ∧ (firstBad (fun r => r.2.2 == emptyEntry || bankOn s (bankOf r.1 r.2.1)) rs = none) ∧ (monCount (putRecs p rs) ≤ 262144)) ∧
    (∃ (s : State) (c : CmdEntry) (pos : Nat) (rest : List Fetched) (segs : List (Nat × Nat)) (rs : List StageRec) (n : Nat),
      (Starts s 0x21 c (bulkChecks s c) pos rest) ∧ (segments s (descAt c 0) false bulkLen = .ok segs) ∧ (bulkRecs (readSegs s segs) = rs.map some) ∧ (argBit c 16 0 = false) ∧ (firstBad (fun r => entryOk s.page.staged r.1 r.2.1 r.2.2) rs = some n)) ∧
    (∃ (s : State) (c : CmdEntry) (pos : Nat) (rest : List Fetched),
      (Starts s 0x12 c (carrierChecks s c) pos rest) ∧ (argBit c 4 0 = false) ∧ (arg c 2 2 = 1) ∧ (carrierOk (descAt c 8) = true) ∧ (descAt c 8 = emptyCarrier ∨ bankOn s (arg c 0 2 / 512) = true)) :=
  ⟨⟨(cmdState .solo 0x20 (mkEntry 16 (0x0000000100000000 + 2 ^ 64 * 0x0000FFFFFFFFFFFF))), (mkEntry 16 (0x0000000100000000 + 2 ^ 64 * 0x0000FFFFFFFFFFFF)), 0, [], starts_of (by decide +kernel), by decide +kernel, by decide +kernel, by decide +kernel⟩,
   ⟨(t1Staged (cmdState .solo 0x20 ds0Entry)), ds0Entry, 0, [], 0, starts_of (by decide +kernel), by decide +kernel⟩,
   ⟨(bulkState (cmdState .solo 0x21 (mkEntry 24 (descOf 4096 16 false)))), (mkEntry 24 (descOf 4096 16 false)), 0, [], _, [(.ho, 0, emptyEntry)], _, starts_of (by decide +kernel), seg_plain (by decide +kernel), by decide +kernel, rfl, by decide +kernel, by decide +kernel, by decide +kernel⟩,
   ⟨(badBulk (cmdState .solo 0x21 (mkEntry 24 (descOf 4096 16 false)))), (mkEntry 24 (descOf 4096 16 false)), 0, [], _, [(.ho, 0, 0x18000000000000)], 0, starts_of (by decide +kernel), seg_plain (by decide +kernel), by decide +kernel, by decide +kernel, by decide +kernel⟩,
   ⟨(cmdState .solo 0x12 (mkEntry 24 (0x00010000 + 2 ^ 64 * 0xFFFFFF))), (mkEntry 24 (0x00010000 + 2 ^ 64 * 0xFFFFFF)), 0, [], starts_of (by decide +kernel), by decide +kernel, by decide +kernel, by decide +kernel, by decide +kernel⟩⟩

/-- States and operands that meet the hypotheses of clause 6 with hypotheses of Obligations.CompletesStaging. -/
theorem witness_CompletesStaging_2 :
    (∃ (s : State) (c : CmdEntry) (pos : Nat) (rest : List Fetched) (segs : List (Nat × Nat)) (rs : List (BitVec 128)),
      (Starts s 0x12 c (carrierChecks s c) pos rest) ∧ (argBit c 4 0 = true) ∧ (segments s (descAt c 8) false (· == 16 * arg c 2 2) = .ok segs) ∧ (rs = (List.range (arg c 2 2)).map (fun i => BitVec.ofNat 128 (le (readSegs s segs) (16 * i) 16))) ∧ (rs.findIdx? (fun r => !carrierOk r) = none) ∧ ((List.range rs.length).findIdx? (fun i => rs.getD i emptyCarrier != emptyCarrier && !bankOn s ((arg c 0 2 + i) / 512)) = none)) :=
  ⟨(carBuf (cmdState .solo 0x12 (mkEntry 24 (0x0000000100010000 + 2 ^ 64 * descOf 4096 16 false)))), (mkEntry 24 (0x0000000100010000 + 2 ^ 64 * descOf 4096 16 false)), 0, [], _, _, starts_of (by decide +kernel), by decide +kernel, seg_plain (by decide +kernel), rfl, by decide +kernel, by decide +kernel⟩

/-- States and operands that meet the hypotheses of each clause of Obligations.CompletesCommit. -/
theorem witness_CompletesCommit :
    (∃ (s : State) (c : CmdEntry) (pos : Nat) (rest : List Fetched) (flag : CommitFlag) (target : Nat),
      (Starts s 0x22 c (commitChecks s c) pos rest) ∧ (commitFlag (arg c 8 1) = some flag) ∧ ((if arg c 0 6 = 0 then earliestBn s else arg c 0 6) = target) ∧ (earliestBn s ≤ target) ∧ (target ≤ s.clk.fn.toNat / 48 + 10000)) ∧
    (∃ (s : State) (c : CmdEntry) (pos : Nat) (rest : List Fetched),
      (Starts s 0x23 c (abortChecks s c) pos rest) ∧ (s.page.state = .opened) ∧ (s.page.job = none) ∧ (argBit c 0 0 = false)) ∧
    (∃ (s : State) (c : CmdEntry) (pos : Nat) (rest : List Fetched) (t : State),
      (Starts s 0x23 c (abortChecks s c) pos rest) ∧ (s.page.state = .opened) ∧ (s.page.job = none) ∧ (argBit c 0 0 = true) ∧ (t = discardStaged s)) ∧
    (∃ (s : State) (c : CmdEntry) (pos : Nat) (rest : List Fetched) (segs : List (Nat × Nat)) (bs : Bytes),
      (Starts s 0x24 c (readbackChecks c) pos rest) ∧ (segments s (descAt c 16) true (· == arg c 8 4 * itemSize (arg c 1 1)) = .ok segs) ∧ (bs = ((List.range (arg c 8 4)).flatMap fun i => readItem s (pageOf s (argBit c 0 0)) (arg c 1 1) (arg c 4 4 + i)))) ∧
    (∃ (s : State) (c : CmdEntry) (pos : Nat) (rest : List Fetched),
      (Starts s 0x25 c (routeChecks s c) pos rest) ∧ (c.len ≠ 24)) :=
  ⟨⟨(cmdState .solo 0x22 (mkEntry 16 (0))), (mkEntry 16 (0)), 0, [], .defer, _, starts_of (by decide +kernel), by decide +kernel, rfl, by decide +kernel, by decide +kernel⟩,
   ⟨(cmdState .solo 0x23 (mkEntry 8 (0))), (mkEntry 8 (0)), 0, [], starts_of (by decide +kernel), by decide +kernel, by decide +kernel, by decide +kernel⟩,
   ⟨(cmdState .solo 0x23 (mkEntry 8 (1))), (mkEntry 8 (1)), 0, [], _, starts_of (by decide +kernel), by decide +kernel, by decide +kernel, by decide +kernel, rfl⟩,
   ⟨(cmdState .solo 0x24 (mkEntry 32 (0x100 * 0 + 2 ^ 64 * 1 + 2 ^ 128 * descOf 4096 8 true))), (mkEntry 32 (0x100 * 0 + 2 ^ 64 * 1 + 2 ^ 128 * descOf 4096 8 true)), 0, [], _, _, starts_of (by decide +kernel), seg_plain (by decide +kernel), rfl⟩,
   ⟨(cmdState .solo 0x25 (mkEntry 8 (0))), (mkEntry 8 (0)), 0, [], starts_of (by decide +kernel), by decide +kernel⟩⟩

/-- States and operands that meet the hypotheses of each of clauses 1 to 5 with hypotheses of Obligations.CompletesProtection. -/
theorem witness_CompletesProtection_1 :
    (∃ (s : State) (c : CmdEntry) (pos : Nat) (rest : List Fetched),
      (Starts s 0x30 c (linearChecks s c) pos rest) ∧ (arg c 0 1 = 0) ∧ (linearFits s (arg c 1 1) (linearOf c) = true)) ∧
    (∃ (s : State) (c : CmdEntry) (pos : Nat) (rest : List Fetched) (segs : List (Nat × Nat)),
      (Starts s 0x30 c (ringChecks s c) pos rest) ∧ (arg c 0 1 = 1) ∧ (ringFits s (arg c 1 1) (ringOf c) = true) ∧ (segments s (descAt c 32) false (· == 384) = .ok segs) ∧ (squelchOk (ringH s (ringOf c)) (readSegs s segs) = true)) ∧
    (∃ (s : State) (c : CmdEntry) (pos : Nat) (rest : List Fetched) (segs : List (Nat × Nat)) (es : List Word64),
      (Starts s 0x30 c (remapChecks s c) pos rest) ∧ (arg c 0 1 = 2) ∧ (segments s (descAt c 8) false (· == 1536) = .ok segs) ∧ (es = (List.range 192).map (fun i => BitVec.ofNat 64 (le (readSegs s segs) (8 * i) 8))) ∧ (es.all (remapOk s.cfg) = true)) ∧
    (∃ (s : State) (c : CmdEntry) (pos : Nat) (rest : List Fetched),
      (Starts s 0x30 c (distrustChecks s c) pos rest) ∧ (arg c 0 1 = 3)) ∧
    (∃ (s : State) (c : CmdEntry) (pos : Nat) (rest : List Fetched),
      (Starts s 0x30 c (deleteChecks s c) pos rest) ∧ (arg c 0 1 = 4) ∧ (tfind s.cfg.linear (arg c 1 1) = none)) :=
  ⟨⟨(linearState (cmdState .solo 0x30 linearEntry)), linearEntry, 0, [], starts_of (by decide +kernel), by decide +kernel, by decide +kernel⟩,
   ⟨(ringState (cmdState .solo 0x30 ringEntry)), ringEntry, 0, [], _, starts_of (by decide +kernel), by decide +kernel, by decide +kernel, seg_plain (by decide +kernel), by rw [read_blank rfl]; decide +kernel⟩,
   ⟨(remapState (cmdState .solo 0x30 remapEntry)), remapEntry, 0, [], _, (List.replicate 192 0), starts_of (by decide +kernel), by decide +kernel, seg_plain (by decide +kernel), remap_blank rfl, by decide +kernel⟩,
   ⟨(cmdState .solo 0x30 (mkEntry 8 (0x000A00400003))), (mkEntry 8 (0x000A00400003)), 0, [], starts_of (by decide +kernel), by decide +kernel⟩,
   ⟨(cmdState .solo 0x30 (mkEntry 8 (0x0304))), (mkEntry 8 (0x0304)), 0, [], starts_of (by decide +kernel), by decide +kernel, by decide +kernel⟩⟩

/-- States and operands that meet the hypotheses of each of clauses 6 to 10 with hypotheses of Obligations.CompletesProtection. -/
theorem witness_CompletesProtection_2 :
    (∃ (s : State) (c : CmdEntry) (pos : Nat) (rest : List Fetched),
      (Starts s 0x30 c (deleteChecks s c) pos rest) ∧ (arg c 0 1 = 5) ∧ (tfind s.cfg.rings (arg c 1 1) = none)) ∧
    (∃ (s : State) (c : CmdEntry) (pos : Nat) (rest : List Fetched) (lg : LinearCfg),
      (Starts s 0x30 c (deleteChecks s c) pos rest) ∧ (arg c 0 1 = 4) ∧ (tfind s.cfg.linear (arg c 1 1) = some lg)) ∧
    (∃ (s : State) (c : CmdEntry) (pos : Nat) (rest : List Fetched) (rg : RingCfg),
      (Starts s 0x30 c (deleteChecks s c) pos rest) ∧ (arg c 0 1 = 5) ∧ (tfind s.cfg.rings (arg c 1 1) = some rg)) ∧
    (∃ (s : State) (c : CmdEntry) (pos : Nat) (rest : List Fetched),
      (Starts s 0x31 c (protCmdChecks s c) pos rest) ∧ (requestFits s (protObj s c) (arg c 2 1) (arg c 3 1) = true)) ∧
    (∃ (s : State) (c : CmdEntry) (pos : Nat) (rest : List Fetched),
      (Starts s 0x32 c (profileChecks s c) pos rest) ∧ (argBit c 1 0 = false)) :=
  ⟨⟨(cmdState .solo 0x30 (mkEntry 8 (0x0305))), (mkEntry 8 (0x0305)), 0, [], starts_of (by decide +kernel), by decide +kernel, by decide +kernel⟩,
   ⟨(linState (cmdState .solo 0x30 (mkEntry 8 (0x0304)))), (mkEntry 8 (0x0304)), 0, [], _, starts_of (by decide +kernel), by decide +kernel, rfl⟩,
   ⟨(rngState (cmdState .solo 0x30 (mkEntry 8 (0x0305)))), (mkEntry 8 (0x0305)), 0, [], _, starts_of (by decide +kernel), by decide +kernel, rfl⟩,
   ⟨(linState (cmdState .solo 0x31 protEntry)), protEntry, 0, [], starts_of (by decide +kernel), by decide +kernel⟩,
   ⟨(cmdState .solo 0x32 profileEntry), profileEntry, 0, [], starts_of (by decide +kernel), by decide +kernel⟩⟩

/-- States and operands that meet the hypotheses of clause 11 with hypotheses of Obligations.CompletesProtection. -/
theorem witness_CompletesProtection_3 :
    (∃ (s : State) (c : CmdEntry) (pos : Nat) (rest : List Fetched),
      (Starts s 0x32 c (profileChecks s c) pos rest) ∧ (argBit c 1 0 = true)) :=
  ⟨(cmdState .solo 0x32 profileReadEntry), profileReadEntry, 0, [], starts_of (by decide +kernel), by decide +kernel⟩

/-- States and operands that meet the hypotheses of each of clauses 1 to 5 with hypotheses of Obligations.CompletesTimingConfig. -/
theorem witness_CompletesTimingConfig_1 :
    (∃ (s : State) (c : CmdEntry) (pos : Nat) (rest : List Fetched),
      (Starts s 0x40 c (timingSlotChecks c) pos rest) ∧ (arg c 0 1 = 0) ∧ (rKind (descAt c 8) = 0 ∨ rQlForce (descAt c 8) = true ∨ carriesSsm s (descAt c 8) = true)) ∧
    (∃ (s : State) (c : CmdEntry) (pos : Nat) (rest : List Fetched),
      (Starts s 0x40 c (timingBlockChecks c) pos rest) ∧ (arg c 0 1 = 1)) ∧
    (∃ (s : State) (c : CmdEntry) (pos : Nat) (rest : List Fetched),
      (Starts s 0x41 c (timingChecks s c false false false) pos rest) ∧ (arg c 0 1 = 0) ∧ (c.len ≠ 24)) ∧
    (∃ (s : State) (c : CmdEntry) (pos : Nat) (rest : List Fetched) (segs : List (Nat × Nat)),
      (Starts s 0x41 c (timingChecks s c false false false) pos rest) ∧ (arg c 0 1 = 0) ∧ (c.len = 24) ∧ (segments s (descAt c 8) true (· == 288) = .ok segs)) ∧
    (∃ (s : State) (c : CmdEntry) (pos : Nat) (rest : List Fetched),
      (Starts s 0x41 c (timingChecks s c true false true) pos rest) ∧ (arg c 0 1 = 1) ∧ (rKind (slotRec s (arg c 1 1)) ≠ 0) ∧ (rPriority (slotRec s (arg c 1 1)) ≠ 0)) :=
  ⟨⟨(cmdState .solo 0x40 slotEntry), slotEntry, 0, [], starts_of (by decide +kernel), by decide +kernel, by decide +kernel⟩,
   ⟨(cmdState .solo 0x40 blockEntry), blockEntry, 0, [], starts_of (by decide +kernel), by decide +kernel⟩,
   ⟨(cmdState .solo 0x41 (mkEntry 8 (0))), (mkEntry 8 (0)), 0, [], starts_of (by decide +kernel), by decide +kernel, by decide +kernel⟩,
   ⟨(cmdState .solo 0x41 (mkEntry 24 (2 ^ 64 * descOf 4096 288 true))), (mkEntry 24 (2 ^ 64 * descOf 4096 288 true)), 0, [], _, starts_of (by decide +kernel), by decide +kernel, by decide +kernel, seg_plain (by decide +kernel)⟩,
   ⟨(slotState (cmdState .solo 0x41 (mkEntry 8 (0x0301)))), (mkEntry 8 (0x0301)), 0, [], starts_of (by decide +kernel), by decide +kernel, by decide +kernel, by decide +kernel⟩⟩

/-- States and operands that meet the hypotheses of each of clauses 6 to 10 with hypotheses of Obligations.CompletesTimingConfig. -/
theorem witness_CompletesTimingConfig_2 :
    (∃ (s : State) (c : CmdEntry) (pos : Nat) (rest : List Fetched),
      (Starts s 0x41 c (timingChecks s c true false true) pos rest) ∧ (arg c 0 1 = 2) ∧ (rKind (slotRec s (arg c 1 1)) ≠ 0) ∧ (rPriority (slotRec s (arg c 1 1)) ≠ 0)) ∧
    (∃ (s : State) (c : CmdEntry) (pos : Nat) (rest : List Fetched),
      (Starts s 0x41 c (timingChecks s c true false true) pos rest) ∧ (arg c 0 1 = 3) ∧ (rKind (slotRec s (arg c 1 1)) ≠ 0) ∧ (rPriority (slotRec s (arg c 1 1)) ≠ 0)) ∧
    (∃ (s : State) (c : CmdEntry) (pos : Nat) (rest : List Fetched),
      (Starts s 0x41 c (timingChecks s c true false true) pos rest) ∧ (arg c 0 1 = 4) ∧ (rKind (slotRec s (arg c 1 1)) ≠ 0) ∧ (rPriority (slotRec s (arg c 1 1)) ≠ 0)) ∧
    (∃ (s : State) (c : CmdEntry) (pos : Nat) (rest : List Fetched) (x : SlotState) (f : FN),
      (Starts s 0x41 c (timingChecks s c true false false) pos rest) ∧ (arg c 0 1 = 5) ∧ (rKind (slotRec s (arg c 1 1)) ≠ 0) ∧ (rPriority (slotRec s (arg c 1 1)) ≠ 0) ∧ (x = slotSt s (arg c 1 1)) ∧ (x.wtr = some f)) ∧
    (∃ (s : State) (c : CmdEntry) (pos : Nat) (rest : List Fetched),
      (Starts s 0x41 c (timingChecks s c true false false) pos rest) ∧ (arg c 0 1 = 5) ∧ (rKind (slotRec s (arg c 1 1)) ≠ 0) ∧ (rPriority (slotRec s (arg c 1 1)) ≠ 0) ∧ ((slotSt s (arg c 1 1)).wtr = none)) :=
  ⟨⟨(slotState (cmdState .solo 0x41 (mkEntry 8 (0x0302)))), (mkEntry 8 (0x0302)), 0, [], starts_of (by decide +kernel), by decide +kernel, by decide +kernel, by decide +kernel⟩,
   ⟨(slotState (cmdState .solo 0x41 (mkEntry 8 (0x0303)))), (mkEntry 8 (0x0303)), 0, [], starts_of (by decide +kernel), by decide +kernel, by decide +kernel, by decide +kernel⟩,
   ⟨(slotState (cmdState .solo 0x41 (mkEntry 8 (0x0304)))), (mkEntry 8 (0x0304)), 0, [], starts_of (by decide +kernel), by decide +kernel, by decide +kernel, by decide +kernel⟩,
   ⟨(wtrSlot (slotState (cmdState .solo 0x41 (mkEntry 8 (0x0305))))), (mkEntry 8 (0x0305)), 0, [], _, _, starts_of (by decide +kernel), by decide +kernel, by decide +kernel, by decide +kernel, rfl, rfl⟩,
   ⟨(slotState (cmdState .solo 0x41 (mkEntry 8 (0x0305)))), (mkEntry 8 (0x0305)), 0, [], starts_of (by decide +kernel), by decide +kernel, by decide +kernel, by decide +kernel, by decide +kernel⟩⟩

/-- States and operands that meet the hypotheses of each of clauses 1 to 5 with hypotheses of Obligations.CompletesTimingControl. -/
theorem witness_CompletesTimingControl_1 :
    (∃ (s : State) (c : CmdEntry) (pos : Nat) (rest : List Fetched),
      (Starts s 0x41 c (timingChecks s c false false false) pos rest) ∧ (arg c 0 1 = 6)) ∧
    (∃ (s : State) (c : CmdEntry) (pos : Nat) (rest : List Fetched) (t : State),
      (Starts s 0x41 c (timingChecks s c false (decide (s.tim.dpll = 4) || (holdoverNow s).1.isNone) true) pos rest) ∧ (arg c 0 1 = 7) ∧ (t = dropRef { s with cfg := { s.cfg with forceHold := true, forceFree := false } })) ∧
    (∃ (s : State) (c : CmdEntry) (pos : Nat) (rest : List Fetched) (t : State),
      (Starts s 0x41 c (timingChecks s c false (decide (s.tim.dpll = 4)) true) pos rest) ∧ (arg c 0 1 = 8) ∧ (t = dropRef { s with cfg := { s.cfg with forceHold := false, forceFree := true } })) ∧
    (∃ (s : State) (c : CmdEntry) (pos : Nat) (rest : List Fetched),
      (Starts s 0x41 c (timingChecks s c false (!s.cfg.forceHold && !s.cfg.forceFree) true) pos rest) ∧ (arg c 0 1 = 9)) ∧
    (∃ (s : State) (c : CmdEntry) (pos : Nat) (rest : List Fetched) (t : State),
      (Starts s 0x41 c (timingChecks s c false (decide (s.tim.dpll = 4)) false) pos rest) ∧ (arg c 0 1 = 10) ∧ (t = stopTracking s)) :=
  ⟨⟨(cmdState .solo 0x41 (mkEntry 8 (6))), (mkEntry 8 (6)), 0, [], starts_of (by decide +kernel), by decide +kernel⟩,
   ⟨(holdState (cmdState .solo 0x41 (mkEntry 8 (7)))), (mkEntry 8 (7)), 0, [], _, starts_of (by decide +kernel), by decide +kernel, rfl⟩,
   ⟨(cmdState .solo 0x41 (mkEntry 8 (8))), (mkEntry 8 (8)), 0, [], _, starts_of (by decide +kernel), by decide +kernel, rfl⟩,
   ⟨(forcedState (cmdState .solo 0x41 (mkEntry 8 (9)))), (mkEntry 8 (9)), 0, [], starts_of (by decide +kernel), by decide +kernel⟩,
   ⟨(cmdState .solo 0x41 (mkEntry 8 (10))), (mkEntry 8 (10)), 0, [], _, starts_of (by decide +kernel), by decide +kernel, rfl⟩⟩

/-- States and operands that meet the hypotheses of each of clauses 6 to 7 with hypotheses of Obligations.CompletesTimingControl. -/
theorem witness_CompletesTimingControl_2 :
    (∃ (s : State) (c : CmdEntry) (pos : Nat) (rest : List Fetched),
      (Starts s 0x41 c (softWordChecks s c) pos rest) ∧ (arg c 0 1 = 11)) ∧
    (∃ (s : State) (c : CmdEntry) (pos : Nat) (rest : List Fetched),
      (Starts s 0x41 c (timingChecks s c false (decide (s.tim.dpll ≠ 4)) false) pos rest) ∧ (arg c 0 1 = 12)) :=
  ⟨⟨(softState (cmdState .solo 0x41 (mkEntry 8 (11)))), (mkEntry 8 (11)), 0, [], starts_of (by decide +kernel), by decide +kernel⟩,
   ⟨(softState (cmdState .solo 0x41 (mkEntry 8 (12)))), (mkEntry 8 (12)), 0, [], starts_of (by decide +kernel), by decide +kernel⟩⟩

/-- States and operands that meet the hypotheses of each of clauses 1 to 5 with hypotheses of Obligations.CompletesMonitoring. -/
theorem witness_CompletesMonitoring_1 :
    (∃ (s : State) (c : CmdEntry) (pos : Nat) (rest : List Fetched),
      (Starts s 0x50 c (exportChecks c) pos rest) ∧ (arg c 0 1 = 0)) ∧
    (∃ (s : State) (c : CmdEntry) (pos : Nat) (rest : List Fetched) (segs : List (Nat × Nat)),
      (Starts s 0x50 c (postChecks c) pos rest) ∧ (arg c 0 1 = 1) ∧ (s.pm.bufs.length < 64) ∧ (segments s (descAt c 8) true pmBufLen = .ok segs)) ∧
    (∃ (s : State) (c : CmdEntry) (pos : Nat) (rest : List Fetched) (segs : List (Nat × Nat)),
      (Starts s 0x50 c (expectChecks c) pos rest) ∧ (arg c 0 1 = 2) ∧ (segments s (descAt c 8) false (· == 64) = .ok segs)) ∧
    (∃ (s : State) (c : CmdEntry) (pos : Nat) (rest : List Fetched),
      (Starts s 0x50 c (withdrawChecks c) pos rest) ∧ (arg c 0 1 = 3)) ∧
    (∃ (s : State) (c : CmdEntry) (pos : Nat) (rest : List Fetched) (segs : List (Nat × Nat)) (bs : Bytes),
      (Starts s 0x51 c (pmReadChecks c) pos rest) ∧ (segments s (descAt c 16) true (· == arg c 8 4 * pmReadSize (arg c 0 1)) = .ok segs) ∧ (bs = ((List.range (arg c 8 4)).flatMap fun i => pmReadItem s (arg c 0 1) (arg c 1 1) (arg c 4 4 + i)))) :=
  ⟨⟨(cmdState .solo 0x50 (mkEntry 8 (0x070200))), (mkEntry 8 (0x070200)), 0, [], starts_of (by decide +kernel), by decide +kernel⟩,
   ⟨(cmdState .solo 0x50 (mkEntry 24 (1 + 2 ^ 64 * descOf 4096 4096 true))), (mkEntry 24 (1 + 2 ^ 64 * descOf 4096 4096 true)), 0, [], _, starts_of (by decide +kernel), by decide +kernel, by decide +kernel, seg_plain (by decide +kernel)⟩,
   ⟨(cmdState .solo 0x50 (mkEntry 24 (0x202 + 2 ^ 64 * descOf 4096 64 false))), (mkEntry 24 (0x202 + 2 ^ 64 * descOf 4096 64 false)), 0, [], _, starts_of (by decide +kernel), by decide +kernel, seg_plain (by decide +kernel)⟩,
   ⟨(cmdState .solo 0x50 (mkEntry 8 (3))), (mkEntry 8 (3)), 0, [], starts_of (by decide +kernel), by decide +kernel⟩,
   ⟨(cmdState .solo 0x51 (mkEntry 32 (2 ^ 64 * 1 + 2 ^ 128 * descOf 4096 64 true))), (mkEntry 32 (2 ^ 64 * 1 + 2 ^ 128 * descOf 4096 64 true)), 0, [], _, _, starts_of (by decide +kernel), seg_plain (by decide +kernel), rfl⟩⟩

/-- States and operands that meet the hypotheses of each of clauses 6 to 10 with hypotheses of Obligations.CompletesMonitoring. -/
theorem witness_CompletesMonitoring_2 :
    (∃ (s : State) (c : CmdEntry) (pos : Nat) (rest : List Fetched),
      (Starts s 0x60 c (tapChecks s c) pos rest) ∧ (isMonitor s.cfg (arg c 8 1) = true) ∧ (argBit c 1 0 = false)) ∧
    (∃ (s : State) (c : CmdEntry) (pos : Nat) (rest : List Fetched),
      (Starts s 0x60 c (tapChecks s c) pos rest) ∧ (isMonitor s.cfg (arg c 8 1) = true) ∧ (argBit c 1 0 = true) ∧ (tapBad s (arg c 0 1) (tapOf c s.page.live) = false)) ∧
    (∃ (s : State) (c : CmdEntry) (pos : Nat) (rest : List Fetched),
      (Starts s 0x61 c (prbsChecks s c) pos rest) ∧ ((match prbsOf c with | some x => prbsBad s (arg c 0 1) x | none => false) = false) ∧ (s.mode.mode ≠ .active)) ∧
    (∃ (s : State) (c : CmdEntry) (pos : Nat) (rest : List Fetched),
      (Starts s 0x61 c (prbsChecks s c) pos rest) ∧ ((match prbsOf c with | some x => prbsBad s (arg c 0 1) x | none => false) = false) ∧ (s.mode.mode = .active)) ∧
    (∃ (s : State) (c : CmdEntry) (pos : Nat) (rest : List Fetched) (segs : List (Nat × Nat)),
      (Starts s 0x62 c (auditChecks c) pos rest) ∧ (s.bel.audit ≠ []) ∧ (auditOldest s ≤ arg c 0 4) ∧ (arg c 0 4 ≤ auditNewest s) ∧ (segments s (descAt c 8) true (· == 32 * arg c 4 2) = .ok segs)) :=
  ⟨⟨(tapState (cmdState .solo 0x60 tapOffEntry)), tapOffEntry, 0, [], starts_of (by decide +kernel), by decide +kernel, by decide +kernel⟩,
   ⟨(tapState (cmdState .solo 0x60 tapEntry)), tapEntry, 0, [], starts_of (by decide +kernel), by decide +kernel, by decide +kernel, by decide +kernel⟩,
   ⟨(cmdState .solo 0x61 prbsEntry), prbsEntry, 0, [], starts_of (by decide +kernel), by decide +kernel, by decide +kernel⟩,
   ⟨(cmdState .active 0x61 prbsEntry), prbsEntry, 0, [], starts_of (by decide +kernel), by decide +kernel, by decide +kernel⟩,
   ⟨(auditState (cmdState .solo 0x62 (mkEntry 24 (2 ^ 32 + 2 ^ 64 * descOf 4096 32 true)))), (mkEntry 24 (2 ^ 32 + 2 ^ 64 * descOf 4096 32 true)), 0, [], _, starts_of (by decide +kernel), by decide +kernel, by decide +kernel, by decide +kernel, seg_plain (by decide +kernel)⟩⟩

/-- States and operands that meet the hypotheses of each of clauses 1 to 5 with hypotheses of Obligations.CompletesPair. -/
theorem witness_CompletesPair_1 :
    (∃ (s : State) (c : CmdEntry) (pos : Nat) (rest : List Fetched) (t : State),
      (Starts s 0x70 c (twinChecks s c) pos rest) ∧ (argBit c 0 0 = true) ∧ (s.cfg.group = none) ∧ (t = { s with cfg := { s.cfg with twin := some (twinOf c) } })) ∧
    (∃ (s : State) (c : CmdEntry) (pos : Nat) (rest : List Fetched),
      (Starts s 0x70 c (twinChecks s c) pos rest) ∧ (argBit c 0 0 = false)) ∧
    (∃ (s : State) (c : CmdEntry) (pos : Nat) (rest : List Fetched),
      (Starts s 0x71 c (groupChecks s c) pos rest) ∧ (arg c 0 4 = 0)) ∧
    (∃ (s : State) (c : CmdEntry) (pos : Nat) (rest : List Fetched),
      (Starts s 0x71 c (groupChecks s c) pos rest) ∧ (arg c 0 4 ≠ 0) ∧ (ownSlice s < arg c 4 1)) ∧
    (∃ (s : State) (c : CmdEntry) (pos : Nat) (rest : List Fetched) (new : Option Bytes) (t : State),
      (Starts s 0x72 c (keyChecks c) pos rest) ∧ (arg c 0 1 = 0) ∧ (new = (if arg c 1 1 = 0 then none else some (argBytes c 8 32))) ∧ (ghKey s false = none) ∧ (t = putGh false { ghPort s false with mode := arg c 1 1, prevKey := (ghPort s false).prevKey } s)) :=
  ⟨⟨(cmdState .quiet 0x70 twinEntry), twinEntry, 0, [], _, starts_of (by decide +kernel), by decide +kernel, by decide +kernel, rfl⟩,
   ⟨(cmdState .quiet 0x70 twinOffEntry), twinOffEntry, 0, [], starts_of (by decide +kernel), by decide +kernel⟩,
   ⟨(twinState (cmdState .quiet 0x71 groupOffEntry)), groupOffEntry, 0, [], starts_of (by decide +kernel), by decide +kernel⟩,
   ⟨(twinState (cmdState .quiet 0x71 groupEntry)), groupEntry, 0, [], starts_of (by decide +kernel), by decide +kernel, by decide +kernel⟩,
   ⟨(cmdState .solo 0x72 keyEntry), keyEntry, 0, [], _, _, starts_of (by decide +kernel), by decide +kernel, rfl, by decide +kernel, rfl⟩⟩

/-- States and operands that meet the hypotheses of clause 6 with hypotheses of Obligations.CompletesPair. -/
theorem witness_CompletesPair_2 :
    (∃ (s : State) (c : CmdEntry) (pos : Nat) (rest : List Fetched) (new : Option Bytes) (old : Bytes) (t : State),
      (Starts s 0x72 c (keyChecks c) pos rest) ∧ (arg c 0 1 = 1) ∧ (new = (if arg c 1 1 = 0 then none else some (argBytes c 8 32))) ∧ (ghKey s true = some old) ∧ (new ≠ some old) ∧ (t = putGh true { ghPort s true with mode := arg c 1 1, prevKey := some (old, s.clk.fn + 8000) } s)) :=
  ⟨(keyState (cmdState .solo 0x72 keyEntryB)), keyEntryB, 0, [], _, _, _, starts_of (by decide +kernel), by decide +kernel, rfl, rfl, by decide +kernel, rfl⟩

/-- States and operands that meet the hypotheses of each of clauses 1 to 5 with hypotheses of Obligations.CompletesImage. -/
theorem witness_CompletesImage_1 :
    (∃ (s : State) (c : CmdEntry) (pos : Nat) (rest : List Fetched) (segs : List (Nat × Nat)) (b : Bytes),
      (Starts s 0x80 c (beginChecks s c) pos rest) ∧ (segments s (descAt c 8) false (192 ≤ ·) = .ok segs) ∧ (b = readSegs s segs) ∧ (headerReason s b = 0) ∧ (hPackageLen b = arg c 0 4) ∧ (b.length ≤ hPackageLen b)) ∧
    (∃ (s : State) (c : CmdEntry) (pos : Nat) (rest : List Fetched) (segs : List (Nat × Nat)) (b : Bytes) (t : State),
      (Starts s 0x81 c (chunkChecks s c) pos rest) ∧ (arg c 0 4 = s.img.received) ∧ (segments s (descAt c 8) false chunkLen = .ok segs) ∧ (b = readSegs s segs) ∧ (s.img.received + b.length ≤ s.img.length) ∧ (t = receive (glassPackage s ++ b) s)) ∧
    (∃ (s : State) (c : CmdEntry) (pos : Nat) (rest : List Fetched),
      (Starts s 0x82 c (verifyChecks s) pos rest)) ∧
    (∃ (s : State) (c : CmdEntry) (pos : Nat) (rest : List Fetched),
      (Starts s 0x83 c (activateChecks s) pos rest) ∧ (activateRefusal s (argBit c 0 0) = none) ∧ (hKind (glassPackage s) = 0) ∧ (s.mode.mode ≠ .safe)) ∧
    (∃ (s : State) (c : CmdEntry) (pos : Nat) (rest : List Fetched),
      (Starts s 0x83 c (activateChecks s) pos rest) ∧ (activateRefusal s (argBit c 0 0) = none) ∧ (hKind (glassPackage s) = 0) ∧ (s.mode.mode = .safe)) :=
  ⟨⟨beginState, beginEntry, 0, [], _, headerBytes, starts_of (by decide +kernel), seg_plain (by decide +kernel), by decide +kernel, header_good, by decide +kernel, by decide +kernel⟩,
   ⟨(dlState (cmdState .solo 0x81 (mkEntry 24 (2 ^ 64 * descOf 4096 64 false)))), (mkEntry 24 (2 ^ 64 * descOf 4096 64 false)), 0, [], _, _, _, starts_of (by decide +kernel), by decide +kernel, seg_plain (by decide +kernel), rfl, by decide +kernel, rfl⟩,
   ⟨(imgState 2 (cmdState .solo 0x82 (mkEntry 0 (0)))), (mkEntry 0 (0)), 0, [], starts_of (by decide +kernel)⟩,
   ⟨(imgState 3 (cmdState .solo 0x83 (mkEntry 8 (0)))), (mkEntry 8 (0)), 0, [], starts_of (by decide +kernel), by decide +kernel, by decide +kernel, by decide +kernel⟩,
   ⟨(imgState 3 (cmdState .safe 0x83 (mkEntry 8 (0)))), (mkEntry 8 (0)), 0, [], starts_of (by decide +kernel), by decide +kernel, by decide +kernel, by decide +kernel⟩⟩

/-- States and operands that meet the hypotheses of each of clauses 6 to 9 with hypotheses of Obligations.CompletesImage. -/
theorem witness_CompletesImage_2 :
    (∃ (s : State) (c : CmdEntry) (pos : Nat) (rest : List Fetched),
      (Starts s 0x83 c (activateChecks s) pos rest) ∧ (activateRefusal s (argBit c 0 0) = none) ∧ (hKind (glassPackage s) = 2)) ∧
    (∃ (s : State) (c : CmdEntry) (pos : Nat) (rest : List Fetched),
      (Starts s 0x84 c (confirmChecks s) pos rest)) ∧
    (∃ (s : State) (c : CmdEntry) (pos : Nat) (rest : List Fetched) (t : State),
      (Starts s 0x85 c (rejectChecks s) pos rest) ∧ (s.img.state ≠ 4) ∧ (t = setImage 0 s)) ∧
    (∃ (s : State) (c : CmdEntry) (pos : Nat) (rest : List Fetched) (t : State),
      (Starts s 0x85 c (rejectChecks s) pos rest) ∧ (s.img.state = 4) ∧ (t = fallBack (endConfirm stWrongState s))) :=
  ⟨⟨(kindState 2 (cmdState .solo 0x83 (mkEntry 8 (0)))), (mkEntry 8 (0)), 0, [], starts_of (by decide +kernel), by decide +kernel, by decide +kernel⟩,
   ⟨(imgState 4 (cmdState .solo 0x84 (mkEntry 0 (0)))), (mkEntry 0 (0)), 0, [], starts_of (by decide +kernel)⟩,
   ⟨(imgState 1 (cmdState .solo 0x85 (mkEntry 0 (0)))), (mkEntry 0 (0)), 0, [], _, starts_of (by decide +kernel), by decide +kernel, rfl⟩,
   ⟨(imgState 4 (cmdState .solo 0x85 (mkEntry 0 (0)))), (mkEntry 0 (0)), 0, [], _, starts_of (by decide +kernel), by decide +kernel, rfl⟩⟩

/-- States and operands that meet the hypotheses of each of clauses 1 to 5 with hypotheses of Obligations.CompletesService. -/
theorem witness_CompletesService_1 :
    (∃ (s : State) (c : CmdEntry) (pos : Nat) (rest : List Fetched),
      (Starts s 0x90 c (statusChecks) pos rest)) ∧
    (∃ (s : State) (c : CmdEntry) (pos : Nat) (rest : List Fetched) (t : State),
      (Starts s 0x91 c (compactChecks s) pos rest) ∧ (s.flash.noRoom = false) ∧ (t = beginCompaction s)) ∧
    (∃ (s : State) (c : CmdEntry) (pos : Nat) (rest : List Fetched),
      (Starts s 0xA0 c (domChecks s c) pos rest) ∧ (domState s (arg c 0 1) = domTarget (arg c 1 1))) ∧
    (∃ (s : State) (c : CmdEntry) (pos : Nat) (rest : List Fetched) (t : State),
      (Starts s 0xA0 c (domChecks s c) pos rest) ∧ (domState s (arg c 0 1) ≠ domTarget (arg c 1 1)) ∧ (t = startDomain (arg c 0 1) (domTarget (arg c 1 1)) s)) ∧
    (∃ (s : State) (c : CmdEntry) (pos : Nat) (rest : List Fetched),
      (Starts s 0xA1 c (todChecks s c) pos rest) ∧ (argBit c 12 0 = false) ∧ (framesRun s = true)) :=
  ⟨⟨(cmdState .solo 0x90 (mkEntry 0 (0))), (mkEntry 0 (0)), 0, [], starts_of (by decide +kernel)⟩,
   ⟨(cmdState .solo 0x91 (mkEntry 0 (0))), (mkEntry 0 (0)), 0, [], _, starts_of (by decide +kernel), by decide +kernel, rfl⟩,
   ⟨(cmdState .solo 0xA0 (mkEntry 8 (0x0120))), (mkEntry 8 (0x0120)), 0, [], starts_of (by decide +kernel), by decide +kernel⟩,
   ⟨(cmdState .solo 0xA0 (mkEntry 8 (0x0020))), (mkEntry 8 (0x0020)), 0, [], _, starts_of (by decide +kernel), by decide +kernel, rfl⟩,
   ⟨(cmdState .solo 0xA1 (mkEntry 24 (5))), (mkEntry 24 (5)), 0, [], starts_of (by decide +kernel), by decide +kernel, by decide +kernel⟩⟩

/-- States and operands that meet the hypotheses of each of clauses 6 to 7 with hypotheses of Obligations.CompletesService. -/
theorem witness_CompletesService_2 :
    (∃ (s : State) (c : CmdEntry) (pos : Nat) (rest : List Fetched),
      (Starts s 0xA1 c (todChecks s c) pos rest) ∧ (argBit c 12 0 = false) ∧ (framesRun s = false)) ∧
    (∃ (s : State) (c : CmdEntry) (pos : Nat) (rest : List Fetched) (fn : FN),
      (Starts s 0xA1 c (todChecks s c) pos rest) ∧ (argBit c 12 0 = true) ∧ (fn = BitVec.ofNat 48 (arg c 16 6)) ∧ (8 ≤ (fn - s.clk.fn).toNat) ∧ ((fn - s.clk.fn).toNat ≤ 8000)) :=
  ⟨⟨(cmdState .safe 0xA1 (mkEntry 24 (5))), (mkEntry 24 (5)), 0, [], starts_of (by decide +kernel), by decide +kernel, by decide +kernel⟩,
   ⟨(cmdState .solo 0xA1 (mkEntry 24 (5 + 2 ^ 96 + 2 ^ 128 * 4808))), (mkEntry 24 (5 + 2 ^ 96 + 2 ^ 128 * 4808)), 0, [], 4808, starts_of (by decide +kernel), by decide +kernel, by decide +kernel, by decide +kernel, by decide +kernel⟩⟩

/-- States and operands that meet the hypotheses of each of clauses 1 to 5 with hypotheses of Obligations.CompletesRings. -/
theorem witness_CompletesRings_1 :
    (∃ (s : State) (u : State),
      (u = drainHead s) ∧ (mayFetch u = true) ∧ (cplRoom u = true) ∧ (bit (byteAt (entryBytes u u.host.cmd.pos.toNat) 1) 0 = phaseAt u.host.cmd u.host.cmd.pos.toNat)) ∧
    (∃ (s : State) (u : State),
      (u = drainHead s) ∧ (mayFetch u = true) ∧ (cplRoom u = false)) ∧
    (∃ (s : State) (u : State),
      (u = drainHead s) ∧ (mayFetch u = true) ∧ (cplRoom u = true) ∧ (bit (byteAt (entryBytes u u.host.cmd.pos.toNat) 1) 0 ≠ phaseAt u.host.cmd u.host.cmd.pos.toNat)) ∧
    (∃ (s : State) (p : Nat),
      (s.host.phaseWait = some p) ∧ (mayFetch s = true) ∧ (bit (byteAt (entryBytes s p) 1) 0 ≠ phaseAt s.host.cmd p)) ∧
    (∃ (s : State) (n : Nat) (x : Sched),
      (s.host.sched[n]? = some x) ∧ (fnGe s.clk.fn x.due = true)) :=
  ⟨⟨fetchState, _, rfl, by decide +kernel, by decide +kernel, by decide +kernel⟩,
   ⟨noRoomState, _, rfl, by decide +kernel, by decide +kernel⟩,
   ⟨staleState, _, rfl, by decide +kernel, by decide +kernel, by decide +kernel⟩,
   ⟨{ staleState with host := { staleState.host with phaseWait := some 0 } }, 0, by decide +kernel, by decide +kernel, by decide +kernel⟩,
   ⟨schedState, 0, _, rfl, by decide +kernel⟩⟩

/-- States and operands that meet the hypotheses of each of clauses 6 to 8 with hypotheses of Obligations.CompletesRings. -/
theorem witness_CompletesRings_2 :
    (∃ (s : State) (q : Cpl) (rest : List Cpl),
      (s.host.cplQ = q :: rest) ∧ (ringTakes s s.host.cpl = true)) ∧
    (∃ (s : State) (q : Evt) (rest : List Evt),
      (s.host.evtQ = q :: rest) ∧ (s.host.lost = none) ∧ (ringTakes s s.host.evt = true)) ∧
    (∃ (s : State),
      (ringSlow s s.host.cpl = true) ∧ (s.host.cplQ ≠ [])) :=
  ⟨⟨cplState, _, _, rfl, by decide +kernel⟩,
   ⟨evtState, _, _, rfl, by decide +kernel, by decide +kernel⟩,
   ⟨slowState, by decide +kernel, by decide +kernel⟩⟩

/-- States and operands that meet the hypotheses of each of clauses 1 to 5 with hypotheses of Obligations.CompletesDoorbells. -/
theorem witness_CompletesDoorbells_1 :
    (∃ (s : State) (a : Bool) (v : Word32) (cells : List Host.Cell) (p : BitVec 17),
      (entered s = true) ∧ (a = true) ∧ (p = v.setWidth 17) ∧ (s.host.lock = true) ∧ (s.host.cmd.en = true) ∧ (p.toNat < 2 * ringSize s.host.cmd) ∧ (ringDist s.host.cmd p.toNat s.host.cmd.pos.toNat ≤ ringSize s.host.cmd)) ∧
    (∃ (s : State) (a : Bool) (v : Word32) (p : BitVec 17),
      (entered s = true) ∧ (a = true) ∧ (p = v.setWidth 17) ∧ (s.host.lock = true) ∧ (s.host.cpl.en = true) ∧ (p.toNat < 2 * ringSize s.host.cpl) ∧ (inSpanOf s.host.cpl p.toNat = true)) ∧
    (∃ (s : State) (a : Bool) (v : Word32) (p : BitVec 17),
      (entered s = true) ∧ (a = true) ∧ (p = v.setWidth 17) ∧ (s.host.lock = true) ∧ (s.host.evt.en = true) ∧ (p.toNat < 2 * ringSize s.host.evt) ∧ (inSpanOf s.host.evt p.toNat = true)) ∧
    (∃ (s : State) (a : Bool) (v : Word32),
      (entered s = true) ∧ (a = true) ∧ (s.host.lock = true) ∧ (irqCond s = true)) ∧
    (∃ (s : State) (a : Bool) (v : Word32),
      (entered s = true) ∧ (a = true) ∧ (s.host.lock = true) ∧ (irqCond s = false)) :=
  ⟨⟨ringState0, true, 1, [(4096, 7)], 1, by decide +kernel, by decide +kernel, by decide +kernel, by decide +kernel, by decide +kernel, by decide +kernel, by decide +kernel⟩,
   ⟨cplAhead, true, 1, 1, by decide +kernel, by decide +kernel, by decide +kernel, by decide +kernel, by decide +kernel, by decide +kernel, by decide +kernel⟩,
   ⟨evtAhead, true, 1, 1, by decide +kernel, by decide +kernel, by decide +kernel, by decide +kernel, by decide +kernel, by decide +kernel, by decide +kernel⟩,
   ⟨irqState, true, 0, by decide +kernel, by decide +kernel, by decide +kernel, by decide +kernel⟩,
   ⟨soloState, true, 1, by decide +kernel, by decide +kernel, by decide +kernel, by decide +kernel⟩⟩

/-- States and operands that meet the hypotheses of clause 6 with hypotheses of Obligations.CompletesDoorbells. -/
theorem witness_CompletesDoorbells_2 :
    (∃ (s : State) (a : Bool) (v : Word32),
      (entered s = true) ∧ (a = false)) :=
  ⟨soloState, false, 1, by decide +kernel, by decide +kernel⟩

/-- States and operands that meet the hypotheses of each of clauses 1 to 5 with hypotheses of Obligations.CompletesRegisters. -/
theorem witness_CompletesRegisters_1 :
    (∃ (s : State) (v : Word32),
      (entered s = true) ∧ (bit v 0 = true)) ∧
    (∃ (s : State) (v : Word32),
      (entered s = true) ∧ (s.host.lock = false) ∧ (bit v 8 = true) ∧ (s.host.cmd.en = false) ∧ (s.host.cmd.base.toNat % 64 = 0) ∧ (4 ≤ (v.setWidth 5 : BitVec 5).toNat) ∧ ((v.setWidth 5 : BitVec 5).toNat ≤ 16)) ∧
    (∃ (s : State) (v : Word32),
      (entered s = true) ∧ (s.host.lock = false) ∧ (bit v 8 = true) ∧ (s.host.cpl.en = false) ∧ (s.host.cpl.base.toNat % 64 = 0) ∧ (4 ≤ (v.setWidth 5 : BitVec 5).toNat) ∧ ((v.setWidth 5 : BitVec 5).toNat ≤ 16)) ∧
    (∃ (s : State) (v : Word32),
      (entered s = true) ∧ (s.host.lock = false) ∧ (bit v 8 = true) ∧ (s.host.evt.en = false) ∧ (s.host.evt.base.toNat % 64 = 0) ∧ (4 ≤ (v.setWidth 5 : BitVec 5).toNat) ∧ ((v.setWidth 5 : BitVec 5).toNat ≤ 16)) ∧
    (∃ (s : State) (v : Word32),
      (entered s = true) ∧ (s.host.lock = false) ∧ (bit v 8 = false) ∧ (s.host.cmd.en = true) ∧ (v.setWidth 5 = s.host.cmd.size)) :=
  ⟨⟨soloState, 1, by decide +kernel, by decide +kernel⟩,
   ⟨openState, 0x104, by decide +kernel, by decide +kernel, by decide +kernel, by decide +kernel, by decide +kernel, by decide +kernel, by decide +kernel⟩,
   ⟨openState, 0x110, by decide +kernel, by decide +kernel, by decide +kernel, by decide +kernel, by decide +kernel, by decide +kernel, by decide +kernel⟩,
   ⟨openState, 0x104, by decide +kernel, by decide +kernel, by decide +kernel, by decide +kernel, by decide +kernel, by decide +kernel, by decide +kernel⟩,
   ⟨unlocked, 0x004, by decide +kernel, by decide +kernel, by decide +kernel, by decide +kernel, by decide +kernel⟩⟩

/-- States and operands that meet the hypotheses of each of clauses 6 to 10 with hypotheses of Obligations.CompletesRegisters. -/
theorem witness_CompletesRegisters_2 :
    (∃ (s : State) (v : Word32),
      (entered s = true) ∧ (s.host.lock = false) ∧ (bit v 8 = false) ∧ (s.host.cpl.en = true) ∧ (v.setWidth 5 = s.host.cpl.size)) ∧
    (∃ (s : State) (v : Word32),
      (entered s = true) ∧ (s.host.lock = false) ∧ (bit v 8 = false) ∧ (s.host.evt.en = true) ∧ (v.setWidth 5 = s.host.evt.size)) ∧
    (∃ (s : State) (off : Nat),
      (lowHalf off = true)) ∧
    (∃ (s : State) (off : Nat) (size : Nat),
      (size ≠ 4 ∨ assigned off = false)) ∧
    (∃ (s : State) (off : Nat) (size : Nat),
      (size ≠ 4 ∨ assigned off = false) ∧ (entered s = true)) :=
  ⟨⟨unlocked, 0x004, by decide +kernel, by decide +kernel, by decide +kernel, by decide +kernel, by decide +kernel⟩,
   ⟨unlocked, 0x004, by decide +kernel, by decide +kernel, by decide +kernel, by decide +kernel, by decide +kernel⟩,
   ⟨soloState, 0x10, by decide +kernel⟩,
   ⟨soloState, 2, 4, by decide +kernel⟩,
   ⟨soloState, 0, 8, by decide +kernel, by decide +kernel⟩⟩

/-- States and operands that meet the hypotheses of each of clauses 11 to 15 with hypotheses of Obligations.CompletesRegisters. -/
theorem witness_CompletesRegisters_3 :
    (∃ (s : State) (off : Nat) (v : Word32),
      (off < 0x10000) ∧ (assigned off = false) ∧ (entered s = true)) ∧
    (∃ (s : State) (v : Word32),
      (configAnswer s = .completion)) ∧
    (∃ (s : State) (v : Word32),
      True) ∧
    (∃ (s : State) (g : Nat) (v : Word32),
      (g < 19) ∧ (entered s = true)) ∧
    (∃ (s : State) (g : Nat) (v : Word32),
      (g < 19) ∧ (entered s = true)) :=
  ⟨⟨soloState, 0xC, 1, by decide +kernel, by decide +kernel, by decide +kernel⟩,
   ⟨soloState, 4, by decide +kernel⟩,
   ⟨State.reset, 0x12340000, trivial⟩,
   ⟨soloState, 18, 1, by decide +kernel, by decide +kernel⟩,
   ⟨soloState, 0, 1, by decide +kernel, by decide +kernel⟩⟩

/-- States and operands that meet the hypotheses of each of clauses 16 to 18 with hypotheses of Obligations.CompletesRegisters. -/
theorem witness_CompletesRegisters_4 :
    (∃ (s : State) (v : Word32),
      (entered s = true) ∧ (bit v 2 = true) ∧ (bit v 0 = s.host.userEn) ∧ (bit v 1 = s.host.mcExpose)) ∧
    (∃ (s : State) (v : Word32),
      (entered s = true) ∧ (bit v 0 = true)) ∧
    (∃ (s : State) (n : Nat) (k : Nat) (v : Word32),
      (n < 4) ∧ (k < 8) ∧ (entered s = true)) :=
  ⟨⟨soloState, 4, by decide +kernel, by decide +kernel, by decide +kernel, by decide +kernel⟩,
   ⟨soloState, 1, by decide +kernel, by decide +kernel⟩,
   ⟨soloState, 3, 7, 0x7F, by decide +kernel, by decide +kernel, by decide +kernel⟩⟩

/-- States and operands that meet the hypotheses of each of clauses 1 to 5 with hypotheses of Obligations.CompletesDma. -/
theorem witness_CompletesDma_1 :
    (∃ (s : State) (ch : Nat) (v : Word32) (x : DmaCh) (t : State) (y : DmaCh),
      (entered s = true) ∧ (4 ≤ ch) ∧ (ch < 32) ∧ (hostOwns s ch = true) ∧ (x = dmaCh s ch) ∧ (t = { s with host := { s.host with heldLow := none } }) ∧ (bit v 0 = true) ∧ (bit v 2 = false) ∧ (x.phase = .idle) ∧ (bit v 1 = x.pause) ∧ (x.goAfter = false) ∧ (y = { x with set := { x.set with ctrl := v &&& dmaCtrlMask } }) ∧ (dmaRefused s ch y.set = false)) ∧
    (∃ (s : State) (ch : Nat) (v : Word32) (x : DmaCh) (t : State) (y : DmaCh),
      (entered s = true) ∧ (4 ≤ ch) ∧ (ch < 32) ∧ (hostOwns s ch = true) ∧ (x = dmaCh s ch) ∧ (t = { s with host := { s.host with heldLow := none } }) ∧ (bit v 0 = true) ∧ (bit v 2 = false) ∧ (x.phase = .idle) ∧ (bit v 1 = x.pause) ∧ (x.goAfter = false) ∧ (y = { x with set := { x.set with ctrl := v &&& dmaCtrlMask } }) ∧ (dmaRefused s ch y.set = true)) ∧
    (∃ (s : State) (ch : Nat) (v : Word32) (x : DmaCh) (t : State) (y : DmaCh),
      (entered s = true) ∧ (4 ≤ ch) ∧ (ch < 32) ∧ (hostOwns s ch = true) ∧ (x = dmaCh s ch) ∧ (t = { s with host := { s.host with heldLow := none } }) ∧ (bit v 0 = false) ∧ (bit v 1 = true) ∧ (bit v 2 = false) ∧ (x.phase = .armed) ∧ (x.pause = false) ∧ (y = { x with pause := true, phase := .paused, wasArmed := true })) ∧
    (∃ (s : State) (ch : Nat) (v : Word32) (x : DmaCh) (t : State) (y : DmaCh),
      (entered s = true) ∧ (4 ≤ ch) ∧ (ch < 32) ∧ (hostOwns s ch = true) ∧ (x = dmaCh s ch) ∧ (t = { s with host := { s.host with heldLow := none } }) ∧ (bit v 0 = false) ∧ (bit v 1 = true) ∧ (bit v 2 = false) ∧ (x.phase = .running) ∧ (x.pause = false) ∧ (begunNow s x = 0) ∧ (y = { x with pause := true, phase := .paused, begun := 0, wasArmed := false })) ∧
    (∃ (s : State) (ch : Nat) (v : Word32) (x : DmaCh) (t : State) (y : DmaCh),
      (entered s = true) ∧ (4 ≤ ch) ∧ (ch < 32) ∧ (hostOwns s ch = true) ∧ (x = dmaCh s ch) ∧ (t = { s with host := { s.host with heldLow := none } }) ∧ (bit v 0 = false) ∧ (bit v 1 = false) ∧ (bit v 2 = false) ∧ (x.phase = .paused) ∧ (x.pause = true) ∧ (y = { x with pause := false, phase := if x.wasArmed then .armed else .running })) :=
  ⟨⟨dmaState, 31, 0xC1, _, _, _, by decide +kernel, by decide +kernel, by decide +kernel, by decide +kernel, rfl, rfl, by decide +kernel, by decide +kernel, by decide +kernel, by decide +kernel, by decide +kernel, rfl, by decide +kernel⟩,
   ⟨dmaState, 31, 0x1, _, _, _, by decide +kernel, by decide +kernel, by decide +kernel, by decide +kernel, rfl, rfl, by decide +kernel, by decide +kernel, by decide +kernel, by decide +kernel, by decide +kernel, rfl, by decide +kernel⟩,
   ⟨armedState, 31, 2, _, _, _, by decide +kernel, by decide +kernel, by decide +kernel, by decide +kernel, rfl, rfl, by decide +kernel, by decide +kernel, by decide +kernel, by decide +kernel, by decide +kernel, rfl⟩,
   ⟨spentState, 31, 2, _, _, _, by decide +kernel, by decide +kernel, by decide +kernel, by decide +kernel, rfl, rfl, by decide +kernel, by decide +kernel, by decide +kernel, by decide +kernel, by decide +kernel, Nat.le_zero.mp (Nat.le_trans (Nat.min_le_right _ _) (by decide +kernel)), rfl⟩,
   ⟨dmaState, 24, 0, _, _, _, by decide +kernel, by decide +kernel, by decide +kernel, by decide +kernel, rfl, rfl, by decide +kernel, by decide +kernel, by decide +kernel, by decide +kernel, by decide +kernel, rfl⟩⟩

/-- States and operands that meet the hypotheses of each of clauses 6 to 10 with hypotheses of Obligations.CompletesDma. -/
theorem witness_CompletesDma_2 :
    (∃ (s : State) (ch : Nat) (v : Word32) (x : DmaCh) (t : State) (u : State),
      (entered s = true) ∧ (4 ≤ ch) ∧ (ch < 32) ∧ (hostOwns s ch = true) ∧ (x = dmaCh s ch) ∧ (t = { s with host := { s.host with heldLow := none } }) ∧ (bit v 0 = false) ∧ (bit v 2 = true) ∧ (x.phase = .armed ∨ x.phase = .paused) ∧ (bit v 1 = x.pause) ∧ (u = leaveTransfer ch t)) ∧
    (∃ (s : State) (ch : Nat),
      (4 ≤ ch) ∧ (ch < 32) ∧ (paceDue s ch = true) ∧ ((dmaCh s ch).phase = .armed)) ∧
    (∃ (s : State) (ch : Nat),
      (4 ≤ ch) ∧ (ch < 32) ∧ (paceDue s ch = true) ∧ ((dmaCh s ch).phase ≠ .armed)) ∧
    (∃ (s : State) (ch : Nat) (x : DmaCh),
      (4 ≤ ch) ∧ (ch < 32) ∧ (x = dmaCh s ch) ∧ (burstGoes s x = true) ∧ (burstLen x < x.remain) ∧ (x.phase = .running)) ∧
    (∃ (s : State) (ch : Nat) (x : DmaCh),
      (4 ≤ ch) ∧ (ch < 32) ∧ (x = dmaCh s ch) ∧ (burstGoes s x = true) ∧ (burstLen x = x.remain)) :=
  ⟨⟨armedState, 31, 4, _, _, _, by decide +kernel, by decide +kernel, by decide +kernel, by decide +kernel, rfl, rfl, by decide +kernel, by decide +kernel, by decide +kernel, by decide +kernel, rfl⟩,
   ⟨armedState, 31, by decide +kernel, by decide +kernel, by decide +kernel, by decide +kernel⟩,
   ⟨runState, 31, by decide +kernel, by decide +kernel, by decide +kernel, by decide +kernel⟩,
   ⟨runState, 31, _, by decide +kernel, by decide +kernel, rfl, by decide +kernel, by decide +kernel, by decide +kernel⟩,
   ⟨lastBurst, 31, _, by decide +kernel, by decide +kernel, rfl, by decide +kernel, by decide +kernel⟩⟩

/-- States and operands that meet the hypotheses of each of clauses 11 to 13 with hypotheses of Obligations.CompletesDma. -/
theorem witness_CompletesDma_3 :
    (∃ (s : State) (ch : Nat) (cause : Nat),
      (entered s = true) ∧ (ch < 32) ∧ ((dmaCh s ch).phase = .running) ∧ (linkUsable s = true) ∧ (4 ≤ ch) ∧ (cause = 1 ∨ cause = 3 ∨ cause = 4) ∧ ((dmaCh s ch).retries.toNat < 3)) ∧
    (∃ (s : State) (ch : Nat) (cause : Nat),
      (entered s = true) ∧ (ch < 32) ∧ ((dmaCh s ch).phase = .running) ∧ (linkUsable s = true) ∧ (4 ≤ ch) ∧ (cause = 2 ∨ cause = 5 ∨ cause = 6 ∨ ((cause = 1 ∨ cause = 3 ∨ cause = 4) ∧ 3 ≤ (dmaCh s ch).retries.toNat))) ∧
    (∃ (s : State) (ch : Nat),
      ((dmaCh s ch).stopping = true) ∧ ((dmaCh s ch).begun = 0) ∧ ((dmaCh s ch).goAfter = false)) :=
  ⟨⟨runState, 31, 4, by decide +kernel, by decide +kernel, by decide +kernel, by decide +kernel, by decide +kernel, by decide +kernel, by decide +kernel⟩,
   ⟨runState, 31, 6, by decide +kernel, by decide +kernel, by decide +kernel, by decide +kernel, by decide +kernel, by decide +kernel⟩,
   ⟨stopState, 31, by decide +kernel, by decide +kernel, by decide +kernel⟩⟩

/-- States and operands that meet the hypotheses of each of clauses 1 to 5 with hypotheses of Obligations.CompletesLink. -/
theorem witness_CompletesLink_1 :
    (∃ (s : State),
      (entered s = true) ∧ (s.host.pend = true) ∧ (s.host.msixEn = true) ∧ (s.host.funcMask = false) ∧ (irqCond s = true)) ∧
    (∃ (s : State),
      (entered s = true) ∧ (s.host.pend = true) ∧ (s.host.msixEn = true) ∧ (s.host.funcMask = false) ∧ (irqCond s = false)) ∧
    (∃ (s : State),
      (entered s = true) ∧ (s.host.pend = false ∨ s.host.msixEn = false ∨ s.host.funcMask = true)) ∧
    (∃ (s : State),
      (entered s = false)) ∧
    (∃ (s : State),
      (s.host.pend = true) ∧ (s.host.msixEn = true) ∧ (s.host.vecMask = false) ∧ (irqCond s = true)) :=
  ⟨⟨maskedState, by decide +kernel, by decide +kernel, by decide +kernel, by decide +kernel, by decide +kernel⟩,
   ⟨{ soloState with host := { soloState.host with pend := true, msixEn := true } }, by decide +kernel, by decide +kernel, by decide +kernel, by decide +kernel, by decide +kernel⟩,
   ⟨soloState, by decide +kernel, by decide +kernel⟩,
   ⟨State.reset, by decide +kernel⟩,
   ⟨{ maskedState with host := { maskedState.host with vecMask := false, funcMask := true } }, by decide +kernel, by decide +kernel, by decide +kernel, by decide +kernel⟩⟩

/-- States and operands that meet the hypotheses of each of clauses 6 to 10 with hypotheses of Obligations.CompletesLink. -/
theorem witness_CompletesLink_2 :
    (∃ (s : State),
      (s.host.pend = true) ∧ (s.host.msixEn = true) ∧ (s.host.vecMask = false) ∧ (irqCond s = false)) ∧
    (∃ (s : State),
      (s.host.pend = false ∨ s.host.msixEn = false ∨ s.host.vecMask = true)) ∧
    (∃ (s : State),
      (s.host.msixEn = false) ∧ (irqCond s = true)) ∧
    (∃ (s : State),
      (s.host.msixEn = false) ∧ (irqCond s = false)) ∧
    (∃ (s : State),
      (s.host.msixEn = true)) :=
  ⟨⟨{ soloState with host := { soloState.host with pend := true, msixEn := true, vecMask := false, funcMask := true } }, by decide +kernel, by decide +kernel, by decide +kernel, by decide +kernel⟩,
   ⟨soloState, by decide +kernel⟩,
   ⟨irqState, by decide +kernel, by decide +kernel⟩,
   ⟨soloState, by decide +kernel, by decide +kernel⟩,
   ⟨maskedState, by decide +kernel⟩⟩

/-- States and operands that meet the hypotheses of each of clauses 11 to 15 with hypotheses of Obligations.CompletesLink. -/
theorem witness_CompletesLink_3 :
    (∃ (s : State),
      (s.host.perst = true)) ∧
    (∃ (s : State),
      (s.host.perst = false)) ∧
    (∃ (s : State) (low : Bool),
      (low = s.host.perst)) ∧
    (∃ (s : State),
      True) ∧
    (∃ (s : State),
      True) :=
  ⟨⟨{ soloState with host := { soloState.host with perst := true } }, by decide +kernel⟩,
   ⟨soloState, by decide +kernel⟩,
   ⟨soloState, false, by decide +kernel⟩,
   ⟨soloState, trivial⟩,
   ⟨soloState, trivial⟩⟩

/-- States and operands that meet the hypotheses of each of clauses 16 to 20 with hypotheses of Obligations.CompletesLink. -/
theorem witness_CompletesLink_4 :
    (∃ (s : State),
      True) ∧
    (∃ (s : State),
      (s.host.perst = false) ∧ (pastStep6 s = true)) ∧
    (∃ (s : State),
      (s.host.perst = false) ∧ (pastStep6 s = true)) ∧
    (∃ (s : State),
      (s.host.perst = false) ∧ (pastStep6 s = true)) ∧
    (∃ (s : State) (why : LinkLoss),
      (s.host.perst = true ∨ pastStep6 s = false)) :=
  ⟨⟨soloState, trivial⟩,
   ⟨soloState, by decide +kernel, by decide +kernel⟩,
   ⟨soloState, by decide +kernel, by decide +kernel⟩,
   ⟨soloState, by decide +kernel, by decide +kernel⟩,
   ⟨State.reset, .down, by decide +kernel⟩⟩

/-- States and operands that meet the hypotheses of each of clauses 21 to 24 with hypotheses of Obligations.CompletesLink. -/
theorem witness_CompletesLink_5 :
    (∃ (s : State) (target : Nat) (master : Nat),
      (target ≤ 10) ∧ (master ≤ 7) ∧ (target ≠ 9 ∨ master ≠ 5)) ∧
    (∃ (s : State),
      True) ∧
    (∃ (s : State) (master : Nat),
      (master ∈ s.dma.draining)) ∧
    (∃ (s : State) (master : Nat),
      (master ∉ s.dma.draining)) :=
  ⟨⟨soloState, 9, 7, by decide +kernel, by decide +kernel, by decide +kernel⟩,
   ⟨soloState, trivial⟩,
   ⟨{ soloState with dma := { soloState.dma with draining := [6] } }, 6, by decide +kernel⟩,
   ⟨soloState, 6, by decide +kernel⟩⟩

/-- States and operands that meet the hypotheses of each of clauses 1 to 5 with hypotheses of Obligations.CompletesFrame. -/
theorem witness_CompletesFrame_1 :
    (∃ (s : State) (t : State),
      (t = tickReset { groupTxFrame s with tx := [] }) ∧ (framesRun t = true)) ∧
    (∃ (s : State) (t : State),
      (t = tickReset { groupTxFrame s with tx := [] }) ∧ (framesRun t = false)) ∧
    (∃ (s : State) (j : CommitJob) (s1 : State) (u : State),
      (stepDue .swap s = true) ∧ (s.page.job = some j) ∧ (swapDue s = true) ∧ (s.mode.mode ≠ .standby) ∧ (s1 = tapCheck s (recordSwap j (swapPage s j))) ∧ (u = stepDone .swap (afterSwap j (evalSelectors s1 s1)))) ∧
    (∃ (s : State) (j : CommitJob) (s1 : State) (s2 : State) (u : State),
      (stepDue .swap s = true) ∧ (s.page.job = some j) ∧ (swapDue s = true) ∧ (s.mode.mode = .standby) ∧ (s1 = swapPage s j) ∧ (s2 = tapCheck s (recordSwap j { s1 with pwr := { s1.pwr with dom := (neededDomains s1.page.live).foldl (fun m d => tset .off m d .on) s1.pwr.dom } })) ∧ (u = stepDone .swap (afterSwap j (evalSelectors s2 s2)))) ∧
    (∃ (s : State) (r : Tier) (i : Nat) (x : SelState) (f : FN),
      (hasSelector s.page.live r i (entryAt s.page.live r i) = true) ∧ (x = tget {} s.prot.sel (selKey r i)) ∧ (x.hoA = some f) ∧ (800 * pHoldOff (profileOf s (eSncp (entryAt s.page.live r i))) ≤ (s.clk.fn - f).toNat) ∧ (itemBad s (.liveEntry r i) = false)) :=
  ⟨⟨soloState, _, rfl, by decide +kernel⟩,
   ⟨safeState, _, rfl, by decide +kernel⟩,
   ⟨(atStart .swap finalState), _, _, _, by decide +kernel, rfl, by decide +kernel, by decide +kernel, rfl, rfl⟩,
   ⟨{ atStart .swap finalState with mode := { finalState.mode with mode := .standby } }, _, _, _, _, by decide +kernel, rfl, by decide +kernel, by decide +kernel, rfl, rfl, rfl⟩,
   ⟨selState, .ho, 0, _, _, by decide +kernel, rfl, rfl, by decide +kernel, by decide +kernel⟩⟩

/-- States and operands that meet the hypotheses of each of clauses 6 to 9 with hypotheses of Obligations.CompletesFrame. -/
theorem witness_CompletesFrame_2 :
    (∃ (s : State) (r : Tier) (i : Nat) (x : SelState) (f : FN),
      (hasSelector s.page.live r i (entryAt s.page.live r i) = true) ∧ (x = tget {} s.prot.sel (selKey r i)) ∧ (x.hoA = some f) ∧ (800 * pHoldOff (profileOf s (eSncp (entryAt s.page.live r i))) ≤ (s.clk.fn - f).toNat) ∧ (itemBad s (.liveEntry r i) = true)) ∧
    (∃ (s : State) (r : Tier) (i : Nat) (x : SelState) (f : FN),
      (hasSelector s.page.live r i (entryAt s.page.live r i) = true) ∧ (x = tget {} s.prot.sel (selKey r i)) ∧ (x.hoB = some f) ∧ (800 * pHoldOff (profileOf s (eSncp (entryAt s.page.live r i))) ≤ (s.clk.fn - f).toNat) ∧ (itemBad s (.liveEntry r i) = false)) ∧
    (∃ (s : State) (r : Tier) (i : Nat) (x : SelState) (f : FN),
      (hasSelector s.page.live r i (entryAt s.page.live r i) = true) ∧ (x = tget {} s.prot.sel (selKey r i)) ∧ (x.hoB = some f) ∧ (800 * pHoldOff (profileOf s (eSncp (entryAt s.page.live r i))) ≤ (s.clk.fn - f).toNat) ∧ (itemBad s (.liveEntry r i) = true)) ∧
    (∃ (s : State) (r : Tier) (i : Nat) (x : SelState) (f : FN),
      (hasSelector s.page.live r i (entryAt s.page.live r i) = true) ∧ (x = tget {} s.prot.sel (selKey r i)) ∧ (x.wtr = some f) ∧ (480000 * pWtr (profileOf s (eSncp (entryAt s.page.live r i))) ≤ (s.clk.fn - f).toNat)) :=
  ⟨⟨badSelState, .ho, 0, _, _, by decide +kernel, rfl, rfl, by decide +kernel, by decide +kernel⟩,
   ⟨selState, .ho, 0, _, _, by decide +kernel, rfl, rfl, by decide +kernel, by decide +kernel⟩,
   ⟨badSelState, .ho, 0, _, _, by decide +kernel, rfl, rfl, by decide +kernel, by decide +kernel⟩,
   ⟨selState, .ho, 0, _, _, by decide +kernel, rfl, rfl, by decide +kernel⟩⟩

/-- States and operands that meet the hypotheses of each of clauses 1 to 5 with hypotheses of Obligations.CompletesOwnCommit. -/
theorem witness_CompletesOwnCommit_1 :
    (∃ (s : State) (j : CommitJob),
      (s.page.job = some j) ∧ (s.page.solving ≠ none) ∧ (j.ready = false) ∧ (j.part = 0) ∧ (inPair s = false) ∧ (routeVerdict (violations s s.page.staged) = 0)) ∧
    (∃ (s : State) (j : CommitJob) (u : State),
      (stepDue .readiness s = true) ∧ (s.page.job = some j) ∧ (readinessDue s = true) ∧ (s.pwr.pfw = false) ∧ (j.ready = true) ∧ (u = stepDone .readiness (setJob (some { j with announced := true }) s))) ∧
    (∃ (s : State) (j : CommitJob) (u : State),
      (stepDue .readiness s = true) ∧ (s.page.job = some j) ∧ (readinessDue s = true) ∧ (s.pwr.pfw = false) ∧ (j.ready = false) ∧ (u = stepDone .readiness (resolveCause stTimeout true s))) ∧
    (∃ (s : State) (j : CommitJob) (u : State),
      (stepDue .readiness s = true) ∧ (s.page.job = some j) ∧ (readinessDue s = true) ∧ (s.pwr.pfw = true) ∧ (u = stepDone .readiness (resolveCause stTimeout false s))) ∧
    (∃ (s : State) (j : CommitJob) (u : State),
      (stepDue .final s = true) ∧ (s.page.job = some j) ∧ (inPair s = false) ∧ (finalDue s = true) ∧ (s.pwr.pfw = false) ∧ (j.announced = true) ∧ (u = stepDone .final ({ s with page := { s.page with state := .final } }))) :=
  ⟨⟨solveState, _, rfl, by decide +kernel, by decide +kernel, by decide +kernel, by decide +kernel, by decide +kernel⟩,
   ⟨(atStart .readiness (jobState 24 false)), _, _, by decide +kernel, rfl, by decide +kernel, by decide +kernel, by decide +kernel, rfl⟩,
   ⟨(atStart .readiness unready), _, _, by decide +kernel, rfl, by decide +kernel, by decide +kernel, by decide +kernel, rfl⟩,
   ⟨(atStart .readiness (pfwOn (jobState 24 false))), _, _, by decide +kernel, rfl, by decide +kernel, by decide +kernel, rfl⟩,
   ⟨(atStart .final (jobState 8 false)), _, _, by decide +kernel, rfl, by decide +kernel, by decide +kernel, by decide +kernel, by decide +kernel, rfl⟩⟩

/-- States and operands that meet the hypotheses of each of clauses 6 to 7 with hypotheses of Obligations.CompletesOwnCommit. -/
theorem witness_CompletesOwnCommit_2 :
    (∃ (s : State) (j : CommitJob) (u : State),
      (stepDue .final s = true) ∧ (s.page.job = some j) ∧ (inPair s = false) ∧ (finalDue s = true) ∧ (s.pwr.pfw = false) ∧ (j.announced = false) ∧ (u = stepDone .final (resolveCause stTimeout (!j.ready) s))) ∧
    (∃ (s : State) (r : JRecord),
      (s.jrn.due[nextRecord s]? = some r)) :=
  ⟨⟨(atStart .final unannounced), _, _, by decide +kernel, rfl, by decide +kernel, by decide +kernel, by decide +kernel, by decide +kernel, rfl⟩,
   ⟨dueState, _, rfl⟩⟩

/-- States and operands that meet the hypotheses of each of clauses 1 to 5 with hypotheses of Obligations.CompletesGroupCommit. -/
theorem witness_CompletesGroupCommit_1 :
    (∃ (s : State) (j : CommitJob),
      (s.page.job = some j) ∧ (isBellwether s = true) ∧ (s.clk.fn = fnOf j.target - 96) ∧ (j.prepared = false)) ∧
    (∃ (s : State) (sl : Nat) (u : Bool) (m : Bytes),
      (s.page.job = none) ∧ (s.page.state = .opened) ∧ (s.mode.mode = .standby) ∧ (s.mode.sync = 3) ∧ (s.grp.fenced = false) ∧ (s.grp.behind = false) ∧ (isBellwether s = false) ∧ ((msgId m != 0) = true) ∧ (((byteAt m 13) &&& memberBit (ownMember s) != 0) = true)) ∧
    (∃ (s : State) (sl : Nat) (u : Bool) (m : Bytes) (j : CommitJob),
      (s.page.job = some j) ∧ (isBellwether s = true) ∧ ((j.ahead.any fun a => a.id == msgId m) = false) ∧ (ofRound j m = true) ∧ (j.prepared = true) ∧ (j.sentCommit = false) ∧ (be m 14 8 = s.page.stagedFp.toNat)) ∧
    (∃ (s : State) (sl : Nat) (u : Bool) (m : Bytes) (j : CommitJob),
      (s.page.job = some j) ∧ (isBellwether s = true) ∧ ((j.ahead.any fun a => a.id == msgId m) = true) ∧ (be m 14 8 = s.page.stagedFp.toNat)) ∧
    (∃ (s : State) (sl : Nat) (u : Bool) (m : Bytes) (j : CommitJob),
      (s.page.job = some j) ∧ (isBellwether s = false) ∧ ((j.ahead.any fun a => a.id == msgId m && a.target == msgTarget m) = true)) :=
  ⟨⟨(bellJob 96), _, rfl, by decide +kernel, by decide +kernel, by decide +kernel⟩,
   ⟨syncState, 0, false, List.replicate 24 0xFF, by decide +kernel, by decide +kernel, by decide +kernel, by decide +kernel, by decide +kernel, by decide +kernel, by decide +kernel, by decide +kernel, by decide +kernel⟩,
   ⟨preparedJob, 0, true, readyMsg, _, rfl, by decide +kernel, by decide +kernel, by decide +kernel, by decide +kernel, by decide +kernel, by decide +kernel⟩,
   ⟨aheadJob, 0, true, readyMsg, _, rfl, by decide +kernel, by decide +kernel, by decide +kernel⟩,
   ⟨otherAhead, 0, false, abortMsg, _, rfl, by decide +kernel, by decide +kernel⟩⟩

/-- States and operands that meet the hypotheses of each of clauses 6 to 10 with hypotheses of Obligations.CompletesGroupCommit. -/
theorem witness_CompletesGroupCommit_2 :
    (∃ (s : State) (sl : Nat) (u : Bool) (m : Bytes) (j : CommitJob),
      (s.page.job = some j) ∧ (isBellwether s = true) ∧ ((j.ahead.any fun a => a.id == msgId m) = false) ∧ (ofRound j m = true) ∧ (j.prepared = true) ∧ (j.sentCommit = false) ∧ (be m 14 8 ≠ s.page.stagedFp.toNat)) ∧
    (∃ (s : State) (j : CommitJob),
      (s.page.job = some j) ∧ (isBellwether s = true) ∧ (s.clk.fn = fnOf j.target - 28) ∧ (j.prepared = true) ∧ (j.sentCommit = false) ∧ (s.pwr.pfw = false)) ∧
    (∃ (s : State) (sl : Nat) (u : Bool) (m : Bytes) (j : CommitJob),
      (s.page.job = some j) ∧ (isBellwether s = false) ∧ (ofRound j m = true) ∧ (j.aborted = false) ∧ (takesPart s j = true) ∧ (s.page.state ≠ .final) ∧ (s.pwr.pfw = false)) ∧
    (∃ (s : State) (sl : Nat) (u : Bool) (m : Bytes) (j : CommitJob),
      (s.page.job = some j) ∧ (isBellwether s = true) ∧ (ofRound j m = true) ∧ (j.sentCommit = true)) ∧
    (∃ (s : State) (j : CommitJob),
      (s.page.job = some j) ∧ (isBellwether s = true) ∧ (s.clk.fn = fnOf j.target - 24) ∧ (j.sentCommit = true) ∧ (j.announced = false) ∧ (s.pwr.pfw = false)) :=
  ⟨⟨preparedJob, 0, true, readyBad, _, rfl, by decide +kernel, by decide +kernel, by decide +kernel, by decide +kernel, by decide +kernel, by decide +kernel⟩,
   ⟨prep28, _, rfl, by decide +kernel, by decide +kernel, by decide +kernel, by decide +kernel, by decide +kernel⟩,
   ⟨memberJob, 0, false, readyMsg, _, rfl, by decide +kernel, by decide +kernel, by decide +kernel, by decide +kernel, by decide +kernel, by decide +kernel⟩,
   ⟨sentJob, 0, true, readyMsg, _, rfl, by decide +kernel, by decide +kernel, by decide +kernel⟩,
   ⟨sentJob, _, rfl, by decide +kernel, by decide +kernel, by decide +kernel, by decide +kernel, by decide +kernel⟩⟩

/-- States and operands that meet the hypotheses of each of clauses 11 to 13 with hypotheses of Obligations.CompletesGroupCommit. -/
theorem witness_CompletesGroupCommit_3 :
    (∃ (s : State) (sl : Nat) (u : Bool) (m : Bytes) (j : CommitJob),
      (s.page.job = some j) ∧ (isBellwether s = false) ∧ ((j.ahead.any fun a => a.id == msgId m && a.target == msgTarget m) = false) ∧ (ofRound j m = true) ∧ (s.page.state ≠ .final) ∧ (fnGe s.clk.fn (fnOf j.target - 8) = false) ∧ (j.own = false) ∧ (byteAt m 22 = 1 ∨ j.flag = .fail ∨ 8 ≤ j.retries)) ∧
    (∃ (s : State) (sl : Nat) (u : Bool) (m : Bytes) (j : CommitJob),
      (s.page.job = some j) ∧ (isBellwether s = false) ∧ ((j.ahead.any fun a => a.id == msgId m && a.target == msgTarget m) = false) ∧ (ofRound j m = true) ∧ (s.page.state ≠ .final) ∧ (fnGe s.clk.fn (fnOf j.target - 8) = false) ∧ (j.own = false) ∧ (byteAt m 22 ≠ 1) ∧ (j.flag ≠ .fail) ∧ (j.retries < 8)) ∧
    (∃ (s : State) (sl : Nat) (u : Bool) (m : Bytes) (j : CommitJob),
      (s.page.job = some j) ∧ (isBellwether s = true) ∧ (ofRound j m = true) ∧ (s.page.state ≠ .final)) :=
  ⟨⟨otherJob, 0, false, abortMsg, _, rfl, by decide +kernel, by decide +kernel, by decide +kernel, by decide +kernel, by decide +kernel, by decide +kernel, by decide +kernel⟩,
   ⟨otherJob, 0, false, readyMsg, _, rfl, by decide +kernel, by decide +kernel, by decide +kernel, by decide +kernel, by decide +kernel, by decide +kernel, by decide +kernel, by decide +kernel, by decide +kernel⟩,
   ⟨sentJob, 0, true, readyMsg, _, rfl, by decide +kernel, by decide +kernel, by decide +kernel⟩⟩

/-- States and operands that meet the hypotheses of each of clauses 1 to 5 with hypotheses of Obligations.CompletesGroup. -/
theorem witness_CompletesGroup_1 :
    (∃ (s : State) (sl : Nat) (u : Bool) (sc : Nat) (m : Bytes) (g : GroupCfg),
      (s.cfg.group = some g) ∧ (entered s = true) ∧ (be m 0 4 = g.gid.toNat) ∧ (sc = g.slices) ∧ (memberOf sl u ≠ ownMember s) ∧ (sentTwice s (memberOf sl u) m = false)) ∧
    (∃ (s : State) (sl : Nat) (u : Bool) (x : MemberRec) (t : State),
      (tfind s.grp.recs (memberOf sl u) = some x) ∧ (32 ≤ (s.clk.fn - x.fn).toNat) ∧ (t = grpNote 10 (some (memberOf sl u)) { s with grp := { s.grp with recs := terase s.grp.recs (memberOf sl u) } })) ∧
    (∃ (s : State) (x : Nat),
      (s.grp.elected = some x) ∧ (s.clk.fn.toNat % 48 = 0) ∧ (s.clk.fn ≠ s.grp.electedFn) ∧ (x ≠ ownMember s)) ∧
    (∃ (s : State) (w : Bool) (m : Bytes),
      (s.cfg.group ≠ none) ∧ (framesRun s = true) ∧ ((if w then s.grp.westDown else s.grp.eastDown) = false) ∧ (packetOk m = false)) ∧
    (∃ (s : State) (w : Bool) (m : Bytes) (key : (Nat × Nat × Nat)),
      (s.cfg.group ≠ none) ∧ (framesRun s = true) ∧ (entered s = true) ∧ ((if w then s.grp.westDown else s.grp.eastDown) = false) ∧ (packetOk m = true) ∧ (packetFrom m ≠ ownMember s) ∧ (packetKnown (byteAt m 0).toNat = true) ∧ (key = (packetFrom m, (byteAt m 0).toNat, be m 3 2)) ∧ (s.grp.seen = []) ∧ (1 < (byteAt m 2).toNat)) :=
  ⟨⟨groupState, 0, true, 2, [0, 0, 0, 7] ++ List.replicate 60 0, _, rfl, by decide +kernel, by decide +kernel, by decide +kernel, by decide +kernel, by decide +kernel⟩,
   ⟨oldRecord, 0, true, _, _, rfl, by decide +kernel, rfl⟩,
   ⟨{ groupState with grp := { groupState.grp with elected := some 1, electedFn := 1 } }, 1, by decide +kernel, by decide +kernel, by decide +kernel, by decide +kernel⟩,
   ⟨groupState, true, [], by decide +kernel, by decide +kernel, by decide +kernel, by decide +kernel⟩,
   ⟨groupState, false, aPacket, _, by decide +kernel, by decide +kernel, by decide +kernel, by decide +kernel, by decide +kernel, by decide +kernel, by decide +kernel, rfl, by decide +kernel, by decide +kernel⟩⟩

/-- States and operands that meet the hypotheses of each of clauses 6 to 10 with hypotheses of Obligations.CompletesGroup. -/
theorem witness_CompletesGroup_2 :
    (∃ (s : State) (w : Bool) (m : Bytes),
      (s.cfg.group ≠ none) ∧ (framesRun s = true) ∧ ((if w then s.grp.westDown else s.grp.eastDown) = false) ∧ (packetOk m = true) ∧ (packetFrom m = ownMember s)) ∧
    (∃ (s : State) (fn : FN) (e : Effect),
      (takesFromBus s = true)) ∧
    (∃ (s : State) (ws : List StagedWrite),
      (takesFromBus s = true)) ∧
    (∃ (s : State) (sl : Nat) (u : Bool) (q : Nat) (m : Bytes),
      (s.cfg.group ≠ none) ∧ (isBellwether s = true) ∧ (memberOf sl u ≠ ownMember s) ∧ (m = Config.imagePayload (catchupContent s q).1 (catchupContent s q).2)) ∧
    (∃ (s : State) (sn : Option Snapshot) (rs : List JRecord),
      (s.cfg.group ≠ none) ∧ (s.grp.catching = true) ∧ (entered s = true)) :=
  ⟨⟨groupState, true, ownPacket, by decide +kernel, by decide +kernel, by decide +kernel, by decide +kernel, by decide +kernel⟩,
   ⟨followState, 48, .monitor 3, by decide +kernel⟩,
   ⟨followState, [], by decide +kernel⟩,
   ⟨bellGroup, 0, true, 1, _, by decide +kernel, by decide +kernel, by decide +kernel, rfl⟩,
   ⟨{ groupState with grp := { groupState.grp with catching := true } }, none, [], by decide +kernel, by decide +kernel, by decide +kernel⟩⟩

/-- States and operands that meet the hypotheses of each of clauses 11 to 15 with hypotheses of Obligations.CompletesGroup. -/
theorem witness_CompletesGroup_3 :
    (∃ (s : State) (cs : List (BitVec 10)) (x : PortSync),
      (x = s.grp.westSync.take cs) ∧ (x.phase < 6) ∧ (s.grp.westDown = false)) ∧
    (∃ (s : State) (cs : List (BitVec 10)) (x : PortSync),
      (x = s.grp.westSync.take cs) ∧ (x.phase < 6) ∧ (s.grp.westDown = true)) ∧
    (∃ (s : State) (cs : List (BitVec 10)) (x : PortSync),
      (x = s.grp.westSync.take cs) ∧ (6 ≤ x.phase)) ∧
    (∃ (s : State) (cs : List (BitVec 10)) (x : PortSync),
      (x = s.grp.eastSync.take cs) ∧ (x.phase < 6) ∧ (s.grp.eastDown = false)) ∧
    (∃ (s : State) (cs : List (BitVec 10)) (x : PortSync),
      (x = s.grp.eastSync.take cs) ∧ (x.phase < 6) ∧ (s.grp.eastDown = true)) :=
  ⟨⟨groupState, [0], _, rfl, by decide +kernel, by decide +kernel⟩,
   ⟨{ groupState with grp := { groupState.grp with westDown := true } }, [0], _, rfl, by decide +kernel, by decide +kernel⟩,
   ⟨{ groupState with grp := { groupState.grp with westDown := true } }, threeIdles, _, rfl, by decide +kernel⟩,
   ⟨groupState, [0], _, rfl, by decide +kernel, by decide +kernel⟩,
   ⟨{ groupState with grp := { groupState.grp with eastDown := true } }, [0], _, rfl, by decide +kernel, by decide +kernel⟩⟩

/-- States and operands that meet the hypotheses of each of clauses 16 to 20 with hypotheses of Obligations.CompletesGroup. -/
theorem witness_CompletesGroup_4 :
    (∃ (s : State) (cs : List (BitVec 10)) (x : PortSync),
      (x = s.grp.eastSync.take cs) ∧ (6 ≤ x.phase)) ∧
    (∃ (s : State) (cs : List (BitVec 10)) (x : PortSync),
      (x = s.grp.westSync.take cs) ∧ (x.phase < 6) ∧ (s.grp.westDown = false)) ∧
    (∃ (s : State) (cs : List (BitVec 10)) (x : PortSync),
      (x = s.grp.westSync.take cs) ∧ (x.phase < 6) ∧ (s.grp.westDown = true)) ∧
    (∃ (s : State) (cs : List (BitVec 10)) (x : PortSync),
      (x = s.grp.westSync.take cs) ∧ (6 ≤ x.phase)) ∧
    (∃ (s : State) (cs : List (BitVec 10)) (x : PortSync),
      (x = s.grp.eastSync.take cs) ∧ (x.phase < 6) ∧ (s.grp.eastDown = false)) :=
  ⟨⟨{ groupState with grp := { groupState.grp with eastDown := true } }, threeIdles, _, rfl, by decide +kernel⟩,
   ⟨groupState, [0], _, rfl, by decide +kernel, by decide +kernel⟩,
   ⟨{ groupState with grp := { groupState.grp with westDown := true } }, [0], _, rfl, by decide +kernel, by decide +kernel⟩,
   ⟨{ groupState with grp := { groupState.grp with westDown := true } }, threeIdles, _, rfl, by decide +kernel⟩,
   ⟨groupState, [0], _, rfl, by decide +kernel, by decide +kernel⟩⟩

/-- States and operands that meet the hypotheses of each of clauses 21 to 23 with hypotheses of Obligations.CompletesGroup. -/
theorem witness_CompletesGroup_5 :
    (∃ (s : State) (cs : List (BitVec 10)) (x : PortSync),
      (x = s.grp.eastSync.take cs) ∧ (x.phase < 6) ∧ (s.grp.eastDown = true)) ∧
    (∃ (s : State) (cs : List (BitVec 10)) (x : PortSync),
      (x = s.grp.eastSync.take cs) ∧ (6 ≤ x.phase)) ∧
    (∃ (s : State) (x : MemberRec) (bb : Nat) (p : Page) (t1 : State) (t : State) (u : State),
      (stepDue .restore s = true) ∧ (restoreDue s = true) ∧ (bellView s = some bb) ∧ (tfind s.grp.recs bb = some x) ∧ (keptCopy s x.raw = some p) ∧ (t1 = raise gCmem 0 (putPage p (BitVec.ofNat 64 (recFp x.raw)) s)) ∧ (t = { t1 with page := { t1.page with sched := (if s.page.retained = some p then some s.page.retainedSched else none).getD t1.page.sched } }) ∧ (u = stepDone .restore (pageRecord 2 (post 0x02 [(0, 8, t.page.live.epoch.toNat), (8, 8, t.page.liveFp.toNat), (18, 1, 1)] t)))) :=
  ⟨⟨{ groupState with grp := { groupState.grp with eastDown := true } }, [0], _, rfl, by decide +kernel, by decide +kernel⟩,
   ⟨{ groupState with grp := { groupState.grp with eastDown := true } }, threeIdles, _, rfl, by decide +kernel⟩,
   ⟨(atStart .restore fencedState), _, _, Page.empty, _, _, _, by decide +kernel, by decide +kernel, rfl, rfl, by decide +kernel, rfl, rfl, rfl⟩⟩

/-- States and operands that meet the hypotheses of each of clauses 1 to 5 with hypotheses of Obligations.CompletesMate. -/
theorem witness_CompletesMate_1 :
    (∃ (s : State) (lane : Bool) (again : BitVec 66) (heads : Nat),
      ((mlOf s lane).inFrame = false) ∧ (alignErrors lane again ≤ 2) ∧ (heads = 128)) ∧
    (∃ (s : State) (lane : Bool) (blocks : List (BitVec 66)) (bad : Nat),
      ((mlOf s lane).inFrame = true) ∧ (16 ≤ bad)) ∧
    (∃ (s : State) (lane : Bool) (blocks : List (BitVec 66)) (bad : Nat),
      ((mlOf s lane).inFrame = true) ∧ (blocks.length = 4) ∧ (∀ w ∈ blocks, 2 < alignErrors lane w)) ∧
    (∃ (s : State) (lane : Bool),
      ((mlOf s lane).inFrame = false) ∧ ((mlOf s lane).lof = false) ∧ (16 ≤ (s.clk.fn - (mlOf s lane).oofFn).toNat)) ∧
    (∃ (s : State),
      (s.twin.linkUp = false) ∧ (linkReady s = true)) :=
  ⟨⟨soloState, false, alignBlock false, 128, by decide +kernel, by decide +kernel, by decide +kernel⟩,
   ⟨twinUp, true, [], 16, by decide +kernel, by decide +kernel⟩,
   ⟨twinUp, true, List.replicate 4 0, 0, by decide +kernel, by decide +kernel, fun w hw => (List.mem_replicate.mp hw).2 ▸ (by decide +kernel : 2 < alignErrors true 0)⟩,
   ⟨late, false, by decide +kernel, by decide +kernel, by decide +kernel⟩,
   ⟨linkable, by decide +kernel, by decide +kernel⟩⟩

/-- States and operands that meet the hypotheses of each of clauses 6 to 10 with hypotheses of Obligations.CompletesMate. -/
theorem witness_CompletesMate_2 :
    (∃ (s : State) (lane : Bool),
      True) ∧
    (∃ (s : State) (lane : Bool),
      ((mlOf s lane).lof = true)) ∧
    (∃ (s : State) (lane : Bool),
      (32 ≤ (s.clk.fn - s.twin.ml0.lastFn).toNat)) ∧
    (∃ (s : State) (lane : Bool),
      (s.twin.miswire = true)) ∧
    (∃ (s : State) (lane : Bool) (m : Bytes),
      (s.cfg.twin ≠ none) ∧ ((mlOf s lane).inFrame = true) ∧ (crcGood m 60 = false ∨ byteAt m 0 ≠ 1)) :=
  ⟨⟨soloState, true, trivial⟩,
   ⟨{ twinUp with twin := { twinUp.twin with ml1 := { twinUp.twin.ml1 with lof := true } } }, true, by decide +kernel⟩,
   ⟨late, true, by decide +kernel⟩,
   ⟨{ twinUp with twin := { twinUp.twin with miswire := true } }, true, by decide +kernel⟩,
   ⟨twinUp, true, [], by decide +kernel, by decide +kernel, by decide +kernel⟩⟩

/-- States and operands that meet the hypotheses of each of clauses 11 to 15 with hypotheses of Obligations.CompletesMate. -/
theorem witness_CompletesMate_3 :
    (∃ (s : State) (lane : Bool) (m : Bytes) (t : State),
      (s.cfg.twin ≠ none) ∧ ((mlOf s lane).inFrame = true) ∧ (crcGood m 60 = true) ∧ (byteAt m 0 = 1) ∧ (bit (byteAt m 1) 7 = ownUnit s ∨ fld (byteAt m 1) 5 2 ≠ ownSlice s) ∧ (s.twin.miswire = false) ∧ (t = putMl lane { mlOf s lane with run := 0 } (measureArrival lane s))) ∧
    (∃ (s : State) (m : Bytes) (t : State),
      (s.cfg.twin ≠ none) ∧ ((mlOf s true).inFrame = true) ∧ (crcGood m 60 = true) ∧ (byteAt m 0 = 1) ∧ (bit (byteAt m 1) 7 ≠ ownUnit s) ∧ (fld (byteAt m 1) 5 2 = ownSlice s) ∧ (bit (byteAt m 1) 4 = true) ∧ (t = measureArrival true s)) ∧
    (∃ (s : State) (m : Bytes) (t : State) (t1 : State),
      (s.cfg.twin ≠ none) ∧ ((mlOf s false).inFrame = true) ∧ (crcGood m 60 = true) ∧ (byteAt m 0 = 1) ∧ (bit (byteAt m 1) 7 ≠ ownUnit s) ∧ (fld (byteAt m 1) 5 2 = ownSlice s) ∧ (bit (byteAt m 1) 4 = false) ∧ (t = measureArrival false s) ∧ (t1 = putMl false { mlOf s false with run := if (s.clk.fn - (mlOf s false).lastFn).toNat ≤ 5 then (mlOf s false).run + 1 else 1, lastFn := s.clk.fn } { t with twin := { t.twin with miswire := false } })) ∧
    (∃ (s : State) (seq : Nat) (r : JRecord) (n : Nat) (t : State),
      (takesMirror s = true) ∧ (n = seq % 256) ∧ ((tfind s.twin.rxSeq 2).getD n = n) ∧ (t = bump 113 1 1 s)) ∧
    (∃ (s : State) (seq : Nat) (r : JRecord) (n : Nat) (x : Nat) (t : State),
      (takesMirror s = true) ∧ (n = seq % 256) ∧ (tfind s.twin.rxSeq 2 = some x) ∧ (n ≠ x) ∧ (t = bump 113 1 1 s)) :=
  ⟨⟨twinUp, true, ownHdr, _, by decide +kernel, by decide +kernel, by decide +kernel, by decide +kernel, by decide +kernel, by decide +kernel, rfl⟩,
   ⟨twinUp, mateHdr, _, by decide +kernel, by decide +kernel, by decide +kernel, by decide +kernel, by decide +kernel, by decide +kernel, by decide +kernel, rfl⟩,
   ⟨twinUp, mateHdr0, _, _, by decide +kernel, by decide +kernel, by decide +kernel, by decide +kernel, by decide +kernel, by decide +kernel, by decide +kernel, rfl, rfl⟩,
   ⟨syncState, 255, aRecord, _, _, by decide +kernel, rfl, by decide +kernel, rfl⟩,
   ⟨{ syncState with twin := { syncState.twin with rxSeq := [(2, 0)] } }, 255, aRecord, _, _, _, by decide +kernel, rfl, rfl, by decide +kernel, rfl⟩⟩

/-- States and operands that meet the hypotheses of each of clauses 16 to 20 with hypotheses of Obligations.CompletesMate. -/
theorem witness_CompletesMate_4 :
    (∃ (s : State) (seq : Nat) (ws : List StagedWrite) (n : Nat) (t : State),
      (takesMirror s = true) ∧ (n = seq % 256) ∧ ((tfind s.twin.rxSeq 3).getD n = n) ∧ (t = bump 113 1 1 s)) ∧
    (∃ (s : State) (seq : Nat) (ws : List StagedWrite) (n : Nat) (x : Nat) (t : State),
      (takesMirror s = true) ∧ (n = seq % 256) ∧ (tfind s.twin.rxSeq 3 = some x) ∧ (n ≠ x) ∧ (t = bump 113 1 1 s)) ∧
    (∃ (s : State) (tag : Nat) (img : Snapshot),
      (s.mode.mode = .standby) ∧ (s.mode.sync = 2) ∧ (s.twin.linkUp = true)) ∧
    (∃ (s : State) (tag : Nat) (img : Snapshot),
      (s.mode.mode = .standby) ∧ (s.mode.sync = 2) ∧ (s.twin.linkUp = true)) ∧
    (∃ (s : State) (fn : FN) (e : Effect),
      (s.mode.mode = .standby) ∧ (s.twin.linkUp = true) ∧ (s.mode.sync = 2 ∨ s.mode.sync = 3)) :=
  ⟨⟨syncState, 255, [.discard], _, _, by decide +kernel, rfl, by decide +kernel, rfl⟩,
   ⟨{ syncState with twin := { syncState.twin with rxSeq := [(3, 0)] } }, 255, [.discard], _, _, _, by decide +kernel, rfl, rfl, by decide +kernel, rfl⟩,
   ⟨resyncState, 3, aSnapshot, by decide +kernel, by decide +kernel, by decide +kernel⟩,
   ⟨resyncState, 3, aSnapshot, by decide +kernel, by decide +kernel, by decide +kernel⟩,
   ⟨syncState, 48, .unbind 3, by decide +kernel, by decide +kernel, by decide +kernel⟩⟩

/-- States and operands that meet the hypotheses of each of clauses 21 to 25 with hypotheses of Obligations.CompletesMate. -/
theorem witness_CompletesMate_5 :
    (∃ (s : State) (m : Bytes) (t : State),
      (s.cfg.twin ≠ none) ∧ (s.cfg.group = none) ∧ (s.twin.linkUp = true) ∧ (entered s = true) ∧ (be m 0 4 = 0) ∧ (t = bump 113 1 1 s)) ∧
    (∃ (s : State) (chan : Nat) (first : Nat) (count : Nat) (p : (Nat × Nat × Bytes)),
      (s.mode.mode = .active) ∧ (s.twin.linkUp = true) ∧ (chan = 2 ∨ chan = 3) ∧ (count = 1) ∧ (s.twin.sentPkts.find? (fun p => decide (p.1 = chan ∧ p.2.1 = first % 256)) = some p)) ∧
    (∃ (s : State) (chan : Nat) (first : Nat) (count : Nat),
      (s.mode.mode = .active) ∧ (s.twin.linkUp = true) ∧ (chan = 2 ∨ chan = 3)) ∧
    (∃ (s : State) (chan : Nat) (f : FN),
      (tfind s.twin.gaps chan = some f) ∧ (32 ≤ (s.clk.fn - f).toNat) ∧ (takesMirror s = false)) ∧
    (∃ (s : State) (chan : Nat) (f : FN) (t : State),
      (tfind s.twin.gaps chan = some f) ∧ (32 ≤ (s.clk.fn - f).toNat) ∧ (takesMirror s = true) ∧ (t = { s with twin := { s.twin with gaps := terase s.twin.gaps chan, gapTo := terase s.twin.gapTo chan, copyGood := false } })) :=
  ⟨⟨twinUp, List.replicate 64 0, _, by decide +kernel, by decide +kernel, by decide +kernel, by decide +kernel, by decide +kernel, rfl⟩,
   ⟨sentState, 2, 255, 1, (2, 255, [0]), by decide +kernel, by decide +kernel, by decide +kernel, by decide +kernel, by decide +kernel⟩,
   ⟨sentState, 2, 254, 2, by decide +kernel, by decide +kernel, by decide +kernel⟩,
   ⟨gapState, 2, _, rfl, by decide +kernel, by decide +kernel⟩,
   ⟨{ gapState with mode := { gapState.mode with mode := .standby, sync := 3 } }, 2, _, _, rfl, by decide +kernel, by decide +kernel, rfl⟩⟩

/-- States and operands that meet the hypotheses of each of clauses 26 to 30 with hypotheses of Obligations.CompletesMate. -/
theorem witness_CompletesMate_6 :
    (∃ (s : State),
      (s.mode.mode = .standby) ∧ (s.clk.fn.toNat % 48 = 0) ∧ (s.twin.linkUp = true) ∧ (s.mode.sync = 2) ∧ (s.twin.imageDone = true) ∧ (s.twin.installed = false)) ∧
    (∃ (s : State),
      (s.mode.mode = .standby) ∧ (s.clk.fn.toNat % 48 = 0) ∧ (s.twin.linkUp = true) ∧ (s.mode.sync = 2) ∧ (s.twin.installed = true)) ∧
    (∃ (s : State),
      (s.mode.mode = .standby) ∧ (s.clk.fn.toNat % 48 = 0) ∧ (s.twin.linkUp = true) ∧ (s.mode.sync = 1) ∧ (syncReady s = true) ∧ (s.twin.copyGood = true)) ∧
    (∃ (s : State) (fn : FN),
      (s.mode.mode = .standby) ∧ (s.mode.sync.toNat < 3) ∧ (s.twin.linkUp = true) ∧ (onMate s = true) ∧ (s.tim.stepped = false) ∧ (fn = BitVec.ofNat 48 (be s.twin.hdr.raw 4 6))) ∧
    (∃ (s : State) (err : Int),
      (-320 ≤ err) ∧ (err ≤ 320) ∧ (s.tim.aligned = false) ∧ (s.mode.mode = .standby) ∧ (s.tim.dpll = 2) ∧ (onMate s = true)) :=
  ⟨⟨{ resyncState with twin := { resyncState.twin with imageDone := true } }, by decide +kernel, by decide +kernel, by decide +kernel, by decide +kernel, by decide +kernel, by decide +kernel⟩,
   ⟨{ resyncState with twin := { resyncState.twin with installed := true } }, by decide +kernel, by decide +kernel, by decide +kernel, by decide +kernel, by decide +kernel⟩,
   ⟨equalState, by decide +kernel, by decide +kernel, by decide +kernel, by decide +kernel, by decide +kernel, by decide +kernel⟩,
   ⟨mateTimed, _, by decide +kernel, by decide +kernel, by decide +kernel, by decide +kernel, by decide +kernel, rfl⟩,
   ⟨{ mateTimed with tim := { mateTimed.tim with aligned := false } }, -320, by decide +kernel, by decide +kernel, by decide +kernel, by decide +kernel, by decide +kernel, by decide +kernel⟩⟩

/-- States and operands that meet the hypotheses of clause 31 with hypotheses of Obligations.CompletesMate. -/
theorem witness_CompletesMate_7 :
    (∃ (s : State) (err : Int) (t : State),
      (err < -320 ∨ 320 < err) ∧ (s.tim.aligned = true) ∧ (t = timNote 10 none 0xFF { s with tim := { s.tim with aligned := false } })) :=
  ⟨{ soloState with tim := { soloState.tim with aligned := true } }, 321, _, by decide +kernel, by decide +kernel, rfl⟩

/-- States and operands that meet the hypotheses of each of clauses 1 to 5 with hypotheses of Obligations.CompletesRole. -/
theorem witness_CompletesRole_1 :
    (∃ (s : State) (p : Bool) (m : Bytes) (anchor : FN) (t : State),
      (entered s = true) ∧ (ghEnabled s p = true) ∧ (grantFails s p m = none) ∧ (grantAnchor s p m = some anchor) ∧ (s.twin.epoch.toNat ≤ (gEpoch m).toNat) ∧ (t = sendMate 0x01 ([0x01, BitVec.ofNat 8 (nat01 p)] ++ toBE 6 anchor.toNat ++ m) (bump 115 1 1 (putGh p { ghPort s p with grantFn := some s.clk.fn, grantSeq := gSeq m, arbiter := be m 10 2, macFails := 0 } s)))) ∧
    (∃ (s : State) (p : Bool) (m : Bytes) (why : Nat),
      (entered s = true) ∧ (ghEnabled s p = true) ∧ (grantFails s p m = some why)) ∧
    (∃ (s : State) (p : Bool) (m : Bytes),
      (entered s = true) ∧ (ghEnabled s p = true) ∧ (grantFails s p m = none) ∧ (grantAnchor s p m = none)) ∧
    (∃ (s : State) (p : Bool) (anchor : FN) (m : Bytes),
      (entered s = true) ∧ (s.twin.linkUp = true) ∧ (s.cfg.twin ≠ none) ∧ (grantFails s p m = none)) ∧
    (∃ (s : State) (p : Bool) (anchor : FN) (m : Bytes) (why : Nat),
      (entered s = true) ∧ (s.twin.linkUp = true) ∧ (s.cfg.twin ≠ none) ∧ (grantFails s p m = some why)) :=
  ⟨⟨ghState, false, grantMsg, _, _, by decide +kernel, by decide +kernel, by decide +kernel, rfl, by decide +kernel, rfl⟩,
   ⟨ghState, false, [], 0, by decide +kernel, by decide +kernel, by decide +kernel⟩,
   ⟨{ ghState with twin := { ghState.twin with gha := { ghState.twin.gha with sent := [] } } }, false, grantMsg, by decide +kernel, by decide +kernel, by decide +kernel, by decide +kernel⟩,
   ⟨{ ghState with twin := { ghState.twin with linkUp := true } }, false, 5, grantMsg, by decide +kernel, by decide +kernel, by decide +kernel, by decide +kernel⟩,
   ⟨{ ghState with twin := { ghState.twin with linkUp := true } }, false, 5, [], 0, by decide +kernel, by decide +kernel, by decide +kernel, by decide +kernel⟩⟩

/-- States and operands that meet the hypotheses of each of clauses 6 to 10 with hypotheses of Obligations.CompletesRole. -/
theorem witness_CompletesRole_2 :
    (∃ (s : State) (ep : Word32) (fn : FN),
      (s.twin.linkUp = true) ∧ (entered s = true) ∧ (s.mode.mode ≠ .active)) ∧
    (∃ (s : State) (p : PendingGrant) (u : State),
      (stepDue .role s = true) ∧ (s.twin.pending = some p) ∧ (s.mode.mode = .standby ∨ s.mode.mode = .isolated) ∧ (fnGe s.clk.fn p.leaseEnd = false) ∧ (mateFree s = true) ∧ (u = stepDone .role (takeRole p s))) ∧
    (∃ (s : State) (p : PendingGrant) (u : State),
      (stepDue .role s = true) ∧ (s.twin.pending = some p) ∧ (s.mode.mode = .standby ∨ s.mode.mode = .isolated) ∧ (fnGe s.clk.fn p.leaseEnd = true) ∧ (u = stepDone .role ({ s with twin := { s.twin with pending := none } }))) ∧
    (∃ (s : State) (f : FN) (u : State),
      (stepDue .lease s = true) ∧ (s.twin.leaseEnd = some f) ∧ (fnGe s.clk.fn f = true) ∧ (s.mode.mode = .active) ∧ (s.twin.provisional = false) ∧ (s.twin.linkUp = false) ∧ (heardOwn s = false) ∧ (u = stepDone .lease (enterIsolated s))) ∧
    (∃ (s : State) (f : FN) (u : State),
      (stepDue .lease s = true) ∧ (s.twin.leaseEnd = some f) ∧ (fnGe s.clk.fn f = true) ∧ (s.mode.mode = .active) ∧ (s.twin.provisional = false) ∧ (s.twin.linkUp = false) ∧ (heardOwn s = true) ∧ (u = stepDone .lease (becomeStandby s))) :=
  ⟨⟨twinUp, 0, 1, by decide +kernel, by decide +kernel, by decide +kernel⟩,
   ⟨(atStart .role pendState), _, _, by decide +kernel, rfl, by decide +kernel, by decide +kernel, by decide +kernel, rfl⟩,
   ⟨(atStart .role { pendState with clk := { pendState.clk with fn := 200 } }), _, _, by decide +kernel, rfl, by decide +kernel, by decide +kernel, rfl⟩,
   ⟨(atStart .lease leaseState), _, _, by decide +kernel, rfl, by decide +kernel, by decide +kernel, by decide +kernel, by decide +kernel, by decide +kernel, rfl⟩,
   ⟨(atStart .lease leaseHeard), _, _, by decide +kernel, rfl, by decide +kernel, by decide +kernel, by decide +kernel, by decide +kernel, by decide +kernel, rfl⟩⟩

/-- States and operands that meet the hypotheses of each of clauses 11 to 15 with hypotheses of Obligations.CompletesRole. -/
theorem witness_CompletesRole_3 :
    (∃ (s : State) (f : FN) (u : State),
      (stepDue .lease s = true) ∧ (s.twin.leaseEnd = some f) ∧ (fnGe s.clk.fn f = true) ∧ (s.mode.mode = .active) ∧ (s.twin.provisional = false) ∧ (s.twin.linkUp = true) ∧ (heardOwn s = false) ∧ (fld (byteAt s.twin.hdr.raw 14) 2 2 = 0) ∧ (u = stepDone .lease (twinNote 1 { s with twin := { s.twin with leaseEnd := none, lease := 2 } }))) ∧
    (∃ (s : State) (f : FN) (u : State),
      (stepDue .lease s = true) ∧ (s.twin.leaseEnd = some f) ∧ (fnGe s.clk.fn f = true) ∧ (s.mode.mode = .boot) ∧ (u = stepDone .lease ({ s with twin := { s.twin with leaseEnd := none, lease := 0 } }))) ∧
    (∃ (s : State) (p : Bool),
      (s.cfg.twin ≠ none) ∧ (ghSilent s (ghPort s p) = true) ∧ (arbiterLost s = true) ∧ (s.twin.linkUp = false) ∧ (s.mode.mode = .active ∨ s.mode.mode = .standby)) ∧
    (∃ (s : State) (p : Bool) (x : (Bytes × FN)),
      ((ghPort s p).prevKey = some x) ∧ (fnGe s.clk.fn x.2 = true)) ∧
    (∃ (s : State) (f : FN) (g : JFound) (t : State) (u : State),
      (stepDue .takeover s = true) ∧ (s.twin.takeover = some f) ∧ (s.mode.mode = .active) ∧ (s.clk.fn.toNat % 48 = 0) ∧ (fnGe s.clk.fn f = true) ∧ (verifyJournal s.flash = .ok g) ∧ (t = putPage g.page g.fp { s with cfg := { g.cfg with twin := s.cfg.twin, group := s.cfg.group } }) ∧ (u = stepDone .takeover (pageRecord 5 (twinNote 12 { t with twin := { t.twin with takeover := none } })))) :=
  ⟨⟨(atStart .lease { leaseState with twin := { leaseState.twin with linkUp := true } }), _, _, by decide +kernel, rfl, by decide +kernel, by decide +kernel, by decide +kernel, by decide +kernel, by decide +kernel, by decide +kernel, rfl⟩,
   ⟨(atStart .lease { leaseState with mode := { leaseState.mode with mode := .boot } }), _, _, by decide +kernel, rfl, by decide +kernel, by decide +kernel, rfl⟩,
   ⟨leaseState, false, by decide +kernel, by decide +kernel, by decide +kernel, by decide +kernel, by decide +kernel⟩,
   ⟨overlapState, true, _, rfl, by decide +kernel⟩,
   ⟨(atStart .takeover takeoverState), _, { page := Page.empty, fp := 0, cfg := Cfg.initial, member := false, audits := [], seq := 3 }, _, _, by decide +kernel, rfl, by decide +kernel, by decide +kernel, by decide +kernel, by decide +kernel, rfl, rfl⟩⟩

/-- States and operands that meet the hypotheses of each of clauses 1 to 5 with hypotheses of Obligations.CompletesVbl. -/
theorem witness_CompletesVbl_1 :
    (∃ (s : State) (lane : Nat) (m : Bytes),
      (isVbl s lane = true) ∧ ((rxOf s lane).inFrame = true) ∧ (crcGood (fit 92 m) 88 = false)) ∧
    (∃ (s : State) (lane : Nat) (m : Bytes) (h : Bytes) (diff : Bool) (rf : Bool),
      (isVbl s lane = true) ∧ ((rxOf s lane).inFrame = true) ∧ (h = fit 92 m) ∧ (crcGood h 88 = true) ∧ (diff = decide (vblField h 32 4 ≠ (laneCfg s.cfg lane).cardId.toNat)) ∧ (rf = bit (byteAt h 86) 6)) ∧
    (∃ (s : State) (lane : Nat),
      (isVbl s lane = true) ∧ ((distrustOf s lane).on = true) ∧ ((distrustOf s lane).forced = false) ∧ ((distrustCfg s lane).2 ≤ (distrustOf s lane).quiet)) ∧
    (∃ (s : State) (lane : Nat),
      (isVbl s lane = true) ∧ ((distrustOf s lane).since ≠ 0) ∧ ((s.clk.fn - (distrustOf s lane).since).toNat = 8000)) ∧
    (∃ (s : State) (lane : Nat) (m : Bytes),
      (isVbl s lane = true) ∧ ((rxOf s lane).inFrame = true) ∧ ((vblOf s lane).stopped = false) ∧ (be m 0 2 ≤ 4088) ∧ (m.length = be m 0 2 + 8) ∧ (crcGood m (4 + be m 0 2) = true) ∧ (0x40 ≤ (byteAt m 2).toNat) ∧ ((vblOf s lane).relayed < 8)) :=
  ⟨⟨vblUp, 1, [], by decide +kernel, by decide +kernel, crcGood_of [(List.replicate 30 0, 0xFFFBC14A), (List.replicate 30 0, 0xFBED76F7), (List.replicate 28 0, 0x4BDA7B2)] 0x4BDA7B2 (by decide +kernel) (by decide +kernel) (by decide +kernel)⟩,
   ⟨vblUp, 1, vblHdr, _, _, _, by decide +kernel, by decide +kernel, rfl, crcGood_of [(List.replicate 30 0, 0xFFFBC14A), (List.replicate 30 0, 0xFBED76F7), (List.replicate 28 0, 0x4BDA7B2)] 0x4BDA7B2 (by decide +kernel) (by decide +kernel) (by decide +kernel), rfl, rfl⟩,
   ⟨quietLane, 1, by decide +kernel, by decide +kernel, by decide +kernel, by decide +kernel⟩,
   ⟨repeatLane, 1, by decide +kernel, by decide +kernel, by decide +kernel⟩,
   ⟨vblUp, 1, vblMsg, by decide +kernel, by decide +kernel, by decide +kernel, by decide +kernel, by decide +kernel, by decide +kernel, by decide +kernel, by decide +kernel⟩⟩

/-- States and operands that meet the hypotheses of each of clauses 6 to 10 with hypotheses of Obligations.CompletesVbl. -/
theorem witness_CompletesVbl_2 :
    (∃ (s : State) (lane : Nat) (m : Bytes) (t : State),
      (isVbl s lane = true) ∧ ((rxOf s lane).inFrame = true) ∧ ((vblOf s lane).stopped = false) ∧ (be m 0 2 ≠ 0) ∧ (4088 < be m 0 2 ∨ m.length ≠ be m 0 2 + 8 ∨ crcGood m (4 + be m 0 2) = false) ∧ (t = putVbl lane { vblOf s lane with dropped := (vblOf s lane).dropped + 1 } s)) ∧
    (∃ (s : State) (lane : Nat) (cands : List VblCand) (x : VblCand),
      (isVbl s lane = true) ∧ ((rxOf s lane).inFrame = false) ∧ (leastBy (·.uncorr) (cands.filter fun c => candVerifies c && !barredAt s (rxOf s lane) c.pos) = some x)) ∧
    (∃ (s : State) (lane : Nat) (ws : List Bytes) (ns : List Nat),
      (isVbl s lane = true) ∧ ((rxOf s lane).inFrame = true) ∧ (5 ≤ ws.length) ∧ (∀ w ∈ ws.drop (ws.length - 5), 3 < wordErrors w) ∧ (falseLocked ns = false)) ∧
    (∃ (s : State) (lane : Nat) (ws : List Bytes) (ns : List Nat),
      (isVbl s lane = true) ∧ ((rxOf s lane).inFrame = true) ∧ (falseLocked ns = true)) ∧
    (∃ (s : State) (lane : Nat) (b : Nat) (on : Bool) (t : State),
      (isVbl s lane = true) ∧ (vblDefectDue s lane b on = true) ∧ (t = changeDefect 7 lane b on s)) :=
  ⟨⟨vblUp, 1, [0, 1], _, by decide +kernel, by decide +kernel, by decide +kernel, by decide +kernel, by decide +kernel, rfl⟩,
   ⟨vblLane, 1, [vblCand], vblCand, by decide +kernel, by decide +kernel, least_one _ _ (by rw [Bool.and_eq_true]; exact ⟨cand_ok _ (by decide +kernel) (by decide +kernel) (by decide +kernel) (crcGood_of [(List.replicate 30 0, 0xFFFBC14A), (List.replicate 30 0, 0xFBED76F7), (List.replicate 28 0, 0x4BDA7B2)] 0x4BDA7B2 (by decide +kernel) (by decide +kernel) (by decide +kernel)), by decide +kernel⟩)⟩,
   ⟨vblUp, 1, List.replicate 5 (List.replicate 16 0), [], by decide +kernel, by decide +kernel, by decide +kernel, fun w hw => (List.mem_replicate.mp (List.mem_of_mem_drop hw)).2 ▸ (by decide +kernel : 3 < wordErrors (List.replicate 16 0)), by decide +kernel⟩,
   ⟨vblUp, 1, [], List.replicate 8 720, by decide +kernel, by decide +kernel, by decide +kernel⟩,
   ⟨vblDue, 1, bVblLof, true, _, by decide +kernel, by decide +kernel, rfl⟩⟩

/-- States and operands that meet the hypotheses of clause 11 with hypotheses of Obligations.CompletesVbl. -/
theorem witness_CompletesVbl_3 :
    (∃ (s : State) (lane : Nat),
      (isVbl s lane = true)) :=
  ⟨barredLane, 1, by decide +kernel⟩

/-- States and operands that meet the hypotheses of each of clauses 1 to 5 with hypotheses of Obligations.CompletesLanes. -/
theorem witness_CompletesLanes_1 :
    (∃ (s : State) (k : Nat) (cs : List Nat) (vs : List Nat) (x : RxState) (p : Nat),
      (isReceiver s k = true) ∧ ((rxOf s k).inFrame = false) ∧ ((decide (k < 128) && multiLane (laneMode s.cfg k) && groupLol s k) = false) ∧ ((rxOf s k).tied = []) ∧ (vs = cs.filter (fun q => !barStands s k (rxOf s k) q)) ∧ (x = { rxOf s k with barred := markOther s k vs (rxOf s k).barred }) ∧ (vs = [p])) ∧
    (∃ (s : State) (k : Nat) (cs : List Nat) (vs : List Nat) (x : RxState) (p : Nat) (q : Nat) (ps : List Nat),
      (isReceiver s k = true) ∧ ((rxOf s k).inFrame = false) ∧ ((decide (k < 128) && multiLane (laneMode s.cfg k) && groupLol s k) = false) ∧ ((rxOf s k).tied = []) ∧ (vs = cs.filter (fun q => !barStands s k (rxOf s k) q)) ∧ (x = { rxOf s k with barred := markOther s k vs (rxOf s k).barred }) ∧ (vs = p :: q :: ps)) ∧
    (∃ (s : State) (k : Nat) (cs : List Nat) (vs : List Nat) (x : RxState),
      (isReceiver s k = true) ∧ ((rxOf s k).inFrame = false) ∧ ((decide (k < 128) && multiLane (laneMode s.cfg k) && groupLol s k) = false) ∧ ((rxOf s k).tied = []) ∧ (vs = cs.filter (fun q => !barStands s k (rxOf s k) q)) ∧ (x = { rxOf s k with barred := markOther s k vs (rxOf s k).barred }) ∧ (vs = [])) ∧
    (∃ (s : State) (k : Nat),
      (isReceiver s k = true) ∧ ((rxOf s k).inFrame = true)) ∧
    (∃ (s : State) (k : Nat) (ev : List Nat),
      (isReceiver s k = true) ∧ ((rxOf s k).inFrame = true) ∧ ((rxOf s k).readmitted = false) ∧ (falseLocks s k ev = true)) :=
  ⟨⟨laneUp, 0, [7], _, _, 7, by decide +kernel, by decide +kernel, by decide +kernel, by decide +kernel, rfl, rfl, by decide +kernel⟩,
   ⟨laneUp, 0, [7, 9], _, _, 7, 9, [], by decide +kernel, by decide +kernel, by decide +kernel, by decide +kernel, rfl, rfl, by decide +kernel⟩,
   ⟨laneUp, 0, [], _, _, by decide +kernel, by decide +kernel, by decide +kernel, by decide +kernel, rfl, rfl, by decide +kernel⟩,
   ⟨laneFramed, 0, by decide +kernel, by decide +kernel⟩,
   ⟨laneFramed, 0, (List.replicate 8 [4, 0x03FF]).flatten, by decide +kernel, by decide +kernel, by decide +kernel, by decide +kernel⟩⟩

/-- States and operands that meet the hypotheses of each of clauses 6 to 10 with hypotheses of Obligations.CompletesLanes. -/
theorem witness_CompletesLanes_2 :
    (∃ (s : State) (k : Nat) (b1 : List (Nat × Nat)) (x : (Nat × Nat)) (cs : List (Nat × Nat)),
      (isReceiver s k = true) ∧ ((rxOf s k).inFrame = false) ∧ ((if isOtnRx s k then 1 else 16) ≤ (s.clk.fn - (rxOf s k).tiedFn).toNat) ∧ (cs = b1.filter (fun c => (rxOf s k).tied.contains c.1)) ∧ (leastBy (·.2) cs = some x)) ∧
    (∃ (s : State) (k : Nat) (n : Nat) (x : RxState),
      (isReceiver s k = true) ∧ (x = rxOf s k) ∧ (x.inFrame = false) ∧ (n = (barFrames s k).2)) ∧
    (∃ (s : State) (cls : Nat) (obj : Nat) (b : Nat) (on : Bool) (info : Bytes) (t : State),
      ((laneBits cls).contains b = true) ∧ (isMonitored s cls obj = true) ∧ (bitServed s cls obj b = true) ∧ (t = takeOh3 cls obj b info (takeOtn cls obj b info s)) ∧ (b ≠ timBit cls) ∧ (b ≠ 25) ∧ (b ≠ bLos) ∧ (cls ≠ 5 ∨ (b ≠ 9 ∧ b ≠ 10)) ∧ (laneDefectDue t cls obj b on info = true)) ∧
    (∃ (s : State) (obj : Nat) (b : Nat) (on : Bool) (info : Bytes) (t : State),
      ((laneBits 5).contains b = true) ∧ (isMonitored s 5 obj = true) ∧ (bitServed s 5 obj b = true) ∧ (t = takeOh3 5 obj b info (takeOtn 5 obj b info s)) ∧ (b = 9 ∨ b = 10)) ∧
    (∃ (s : State) (cls : Nat) (obj : Nat) (b : Nat) (on : Bool) (info : Bytes) (t : State) (t1 : State),
      ((laneBits cls).contains b = true) ∧ (isMonitored s cls obj = true) ∧ (bitServed s cls obj b = true) ∧ (t = takeOh3 cls obj b info (takeOtn cls obj b info s)) ∧ (b = timBit cls) ∧ (info ≠ []) ∧ (t1 = { t with dft := { t.dft with traces := tinsert t.dft.traces (objKey cls obj) info } })) :=
  ⟨⟨tiedLane, 0, [(9, 1), (7, 4)], _, _, by decide +kernel, by decide +kernel, by decide +kernel, rfl, rfl⟩,
   ⟨barLane, 0, _, _, by decide +kernel, rfl, by decide +kernel, rfl⟩,
   ⟨laneLof, 0, 0, 2, true, [], _, by decide +kernel, by decide +kernel, by decide +kernel, rfl, by decide +kernel, by decide +kernel, by decide +kernel, by decide +kernel, by decide +kernel⟩,
   ⟨otnLane, 0, 10, true, [], _, by decide +kernel, by decide +kernel, by decide +kernel, rfl, by decide +kernel⟩,
   ⟨laneFramed, 0, 0, timBit 0, true, [0x41], _, _, by decide +kernel, by decide +kernel, by decide +kernel, rfl, by decide +kernel, by decide +kernel, rfl⟩⟩

/-- States and operands that meet the hypotheses of each of clauses 11 to 15 with hypotheses of Obligations.CompletesLanes. -/
theorem witness_CompletesLanes_3 :
    (∃ (s : State) (cls : Nat) (obj : Nat) (b : Nat) (on : Bool) (info : Bytes) (f : (Byte → Bool)),
      (pathDefectDue s cls obj b = true) ∧ (bitServed s cls obj b = true) ∧ (pathEvidence cls b = some f) ∧ (info.length = 5) ∧ (info.all (fun v => f v == on) = true) ∧ (cls ≠ 2 ∨ b ≠ 32)) ∧
    (∃ (s : State) (cls : Nat) (obj : Nat) (on : Bool) (info : Bytes),
      (pathDefectDue s cls obj 56 = true) ∧ (bitServed s cls obj 56 = true)) ∧
    (∃ (s : State) (cls : Nat) (obj : Nat) (b : Nat) (on : Bool) (info : Bytes),
      (pathDefectDue s cls obj b = true) ∧ (bitServed s cls obj b = true) ∧ (b = bLop ∨ b = bAisP)) ∧
    (∃ (s : State) (obj : Nat) (on : Bool) (info : Bytes),
      (pathDefectDue s 3 obj 38 = true) ∧ (bitServed s 3 obj 38 = true)) ∧
    (∃ (s : State) (cls : Nat) (obj : Nat) (b : Nat) (on : Bool) (info : Bytes),
      (pathDefectDue s cls obj b = true) ∧ (bitServed s cls obj b = true) ∧ (b = bTim) ∧ (info ≠ [])) :=
  ⟨⟨pathState, 2, 0, 29, true, [0, 0, 0, 0, 0], (fun v => v == 0), by decide +kernel, by decide +kernel, rfl, by decide +kernel, by decide +kernel, by decide +kernel⟩,
   ⟨pathState, 2, 0, true, [4, 0], by decide +kernel, by decide +kernel⟩,
   ⟨pathState, 2, 0, bLop, true, [], by decide +kernel, by decide +kernel, by decide +kernel⟩,
   ⟨groomedState, 0, true, [], by decide +kernel, by decide +kernel⟩,
   ⟨pathState, 2, 0, bTim, true, [0x41], by decide +kernel, by decide +kernel, by decide +kernel, by decide +kernel⟩⟩

/-- States and operands that meet the hypotheses of each of clauses 16 to 18 with hypotheses of Obligations.CompletesLanes. -/
theorem witness_CompletesLanes_4 :
    (∃ (s : State) (cls : Nat) (obj : Nat) (b : Nat) (on : Bool) (info : Bytes),
      (pathDefectDue s cls obj b = true) ∧ (bitServed s cls obj b = true) ∧ (b = bPlm)) ∧
    (∃ (s : State) (obj : Nat) (on : Bool) (info : Bytes),
      (pathDefectDue s 2 obj 37 = true) ∧ (bitServed s 2 obj 37 = true)) ∧
    (∃ (s : State) (cls : Nat) (obj : Nat) (n : Nat) (on : Bool),
      (isEstimated s cls obj = true) ∧ (enginesServe s cls obj = true) ∧ (serverDown s cls obj = false) ∧ (3 ≤ n) ∧ (n ≤ 9)) :=
  ⟨⟨groomedState, 2, 0, bPlm, true, [], by decide +kernel, by decide +kernel, by decide +kernel⟩,
   ⟨groomedState, 0, true, [], by decide +kernel, by decide +kernel⟩,
   ⟨laneFramed, 1, 0, 9, true, by decide +kernel, by decide +kernel, by decide +kernel, by decide +kernel, by decide +kernel⟩⟩

/-- States and operands that meet the hypotheses of each of clauses 1 to 5 with hypotheses of Obligations.CompletesAps. -/
theorem witness_CompletesAps_1 :
    (∃ (s : State) (lane : Nat) (k : BitVec 13) (x : KState),
      (hasK s lane = true) ∧ (x = kbOf s lane)) ∧
    (∃ (s : State) (lane : Nat),
      (hasK s lane = true) ∧ ((kbOf s lane).psbf = false) ∧ (12 ≤ (s.clk.fn - (kbOf s lane).lastFn).toNat)) ∧
    (∃ (s : State) (lane : Nat),
      (hasK s lane = true) ∧ (16 < ((kbOf s lane).changes.filter (fun f => decide ((s.clk.fn - f).toNat < 8000))).length) ∧ ((kbOf s lane).kstorm = false)) ∧
    (∃ (s : State) (lane : Nat),
      (hasK s lane = true) ∧ (((kbOf s lane).changes.filter (fun f => decide ((s.clk.fn - f).toNat < 8000))).length ≤ 2) ∧ (8000 ≤ (s.clk.fn - (kbOf s lane).stormFn).toNat) ∧ ((kbOf s lane).kstorm = true)) ∧
    (∃ (s : State) (g2 : Bool) (g : Nat) (f : FN) (a : ApsState),
      (apsExists s g2 g = true) ∧ (apsHeld s g2 g = false) ∧ (a = apsOf s g2 g) ∧ (a.fop = false) ∧ (a.fopFn = some f) ∧ (400 ≤ (s.clk.fn - f).toNat)) :=
  ⟨⟨laneFramed, 0, 5, _, by decide +kernel, rfl⟩,
   ⟨laneFramed, 0, by decide +kernel, by decide +kernel, by decide +kernel⟩,
   ⟨stormLane, 0, by decide +kernel, by decide +kernel, by decide +kernel⟩,
   ⟨stormOver, 0, by decide +kernel, by decide +kernel, by decide +kernel, by decide +kernel⟩,
   ⟨fopGroup, false, 3, _, _, by decide +kernel, by decide +kernel, rfl, by decide +kernel, rfl, by decide +kernel⟩⟩

/-- States and operands that meet the hypotheses of each of clauses 6 to 9 with hypotheses of Obligations.CompletesAps. -/
theorem witness_CompletesAps_2 :
    (∃ (s : State) (g2 : Bool) (g : Nat) (f : FN) (a : ApsState),
      (apsExists s g2 g = true) ∧ (apsHeld s g2 g = false) ∧ (a = apsOf s g2 g) ∧ (a.fop = true) ∧ (a.fopFn = some f) ∧ (400 ≤ (s.clk.fn - f).toNat)) ∧
    (∃ (s : State) (g2 : Bool) (g : Nat) (st : Nat) (a : ApsState) (t : State),
      (apsExists s g2 g = true) ∧ (apsHeld s g2 g = false) ∧ (a = apsOf s g2 g) ∧ (a.wantFn ≠ none) ∧ (a.want = st) ∧ (a.next = none) ∧ ((a.st = 0 ∧ a.br = 0) ∨ (st = 0 ∧ a.wantBr = 0)) ∧ (t = applyAps g2 g st a.wantBr (putAps g2 g { a with wantFn := none, st := st, br := a.wantBr } s))) ∧
    (∃ (s : State) (g2 : Bool) (g : Nat) (st : Nat) (a : ApsState) (t : State),
      (apsExists s g2 g = true) ∧ (apsHeld s g2 g = false) ∧ (a = apsOf s g2 g) ∧ (a.wantFn ≠ none) ∧ (a.want = st) ∧ (a.next = none) ∧ (a.st ≠ 0 ∨ a.br ≠ 0) ∧ (st ≠ 0 ∨ a.wantBr ≠ 0) ∧ (t = toNormal (apsPorts s g2 g) (putAps g2 g { a with wantFn := none, st := 0, br := 0, next := some (st, a.wantBr), nextFn := s.clk.fn + 1 } s))) ∧
    (∃ (s : State) (g2 : Bool) (g : Nat) (st : Nat) (a : ApsState) (t : State),
      (apsExists s g2 g = true) ∧ (apsHeld s g2 g = false) ∧ (a = apsOf s g2 g) ∧ (a.wantFn ≠ none) ∧ (a.want = st) ∧ (a.next ≠ none) ∧ (t = putAps g2 g { a with wantFn := none, next := if st = 0 ∧ a.wantBr = 0 then none else some (st, a.wantBr) } s)) :=
  ⟨⟨fopEnds, false, 3, _, _, by decide +kernel, by decide +kernel, rfl, by decide +kernel, rfl, by decide +kernel⟩,
   ⟨wantGroup, false, 3, 1, _, _, by decide +kernel, by decide +kernel, rfl, by decide +kernel, by decide +kernel, by decide +kernel, by decide +kernel, rfl⟩,
   ⟨leaveGroup, false, 3, 1, _, _, by decide +kernel, by decide +kernel, rfl, by decide +kernel, by decide +kernel, by decide +kernel, by decide +kernel, by decide +kernel, rfl⟩,
   ⟨nextGroup, false, 3, 1, _, _, by decide +kernel, by decide +kernel, rfl, by decide +kernel, by decide +kernel, by decide +kernel, rfl⟩⟩

/-- States and operands that meet the hypotheses of each of clauses 1 to 5 with hypotheses of Obligations.CompletesCarriers. -/
theorem witness_CompletesCarriers_1 :
    (∃ (s : State) (car : Nat) (cs : List (Nat × Bytes)) (r : BitVec 128) (vs : List Nat) (p : Nat),
      (carRuns s car = true) ∧ ((carOf s car).aligned = false) ∧ (tribBad s car = false) ∧ ((carOf s car).tied = []) ∧ (r = carRec s car) ∧ (vs = (cs.filter (fun p => verifies (cT1 r) (isEsf r) p.2 && mayTake s r (carOf s car) p.1)).map (·.1)) ∧ (vs = [p])) ∧
    (∃ (s : State) (car : Nat) (cs : List (Nat × Bytes)) (r : BitVec 128) (vs : List Nat) (p : Nat) (q : Nat) (ps : List Nat),
      (carRuns s car = true) ∧ ((carOf s car).aligned = false) ∧ (tribBad s car = false) ∧ ((carOf s car).tied = []) ∧ (r = carRec s car) ∧ (vs = (cs.filter (fun p => verifies (cT1 r) (isEsf r) p.2 && mayTake s r (carOf s car) p.1)).map (·.1)) ∧ (vs = p :: q :: ps)) ∧
    (∃ (s : State) (car : Nat) (left : List Nat) (p : Nat) (ps : List Nat),
      (carRuns s car = true) ∧ ((carOf s car).aligned = false) ∧ (96 ≤ (s.clk.fn - (carOf s car).tiedFn).toNat) ∧ (ps = (carOf s car).tied.filter (fun q => left.contains q)) ∧ (firstPlace (carRec s car) (carOf s car) ps = some p)) ∧
    (∃ (s : State) (car : Nat) (errs : Nat) (total : Nat),
      (carRuns s car = true) ∧ (falseLockDue s car errs total = true) ∧ (cT1 (carRec s car) = true ∨ cFraming (carRec s car) ≠ 1)) ∧
    (∃ (s : State) (car : Nat) (errs : Nat) (total : Nat),
      (carRuns s car = true) ∧ (falseLockDue s car errs total = true) ∧ (cT1 (carRec s car) = false) ∧ (cFraming (carRec s car) = 1)) :=
  ⟨⟨carState0, 0, [(3, sfBytes)], _, _, 3, by decide +kernel, by decide +kernel, by decide +kernel, by decide +kernel, rfl, rfl, by decide +kernel⟩,
   ⟨carState0, 0, [(3, sfBytes), (5, sfBytes)], _, _, 3, 5, [], by decide +kernel, by decide +kernel, by decide +kernel, by decide +kernel, rfl, rfl, by decide +kernel⟩,
   ⟨carTied, 0, [3, 5], 3, _, by decide +kernel, by decide +kernel, by decide +kernel, rfl, by decide +kernel⟩,
   ⟨carFalse, 0, 320, 333, by decide +kernel, by decide +kernel, by decide +kernel⟩,
   ⟨carFalseE1, 0, 915, 1000, by decide +kernel, by decide +kernel, by decide +kernel, by decide +kernel⟩⟩

/-- States and operands that meet the hypotheses of each of clauses 6 to 10 with hypotheses of Obligations.CompletesCarriers. -/
theorem witness_CompletesCarriers_2 :
    (∃ (s : State) (car : Nat),
      True) ∧
    (∃ (s : State) (car : Nat) (f : FN),
      (carRuns s car = true) ∧ ((carOf s car).seek = some f) ∧ (usesCrc4 (carRec s car) = true) ∧ (cFraming (carRec s car) = 2) ∧ ((carOf s car).aligned = true) ∧ ((carOf s car).mf = false) ∧ (3200 ≤ (s.clk.fn - f).toNat)) ∧
    (∃ (s : State) (car : Nat) (b : Nat) (on : Bool) (ev : List Nat),
      (carRuns s car = true) ∧ (carDefectDue s car b on ev = true) ∧ (b ≠ bCarLomf) ∧ (b ≠ bTrib)) ∧
    (∃ (s : State) (car : Nat) (d : Bool) (x : CarState),
      (carRuns s car = true) ∧ (x = carOf s car) ∧ (x.aligned = true)) ∧
    (∃ (s : State) (car : Nat) (f : FN),
      ((carOf s car).sigHold = some f) ∧ ((carOf s car).sigIdle = false) ∧ (800 * cSigHold (carRec s car) ≤ (s.clk.fn - f).toNat)) :=
  ⟨⟨carBarred, 0, trivial⟩,
   ⟨carSeek, 0, _, by decide +kernel, rfl, by decide +kernel, by decide +kernel, by decide +kernel, by decide +kernel, by decide +kernel⟩,
   ⟨carUp, 0, 40, true, [2, 2], by decide +kernel, by decide +kernel, by decide +kernel, by decide +kernel⟩,
   ⟨carUp, 0, true, _, by decide +kernel, rfl, by decide +kernel⟩,
   ⟨carHeld, 0, _, rfl, by decide +kernel, by decide +kernel⟩⟩

/-- States and operands that meet the hypotheses of each of clauses 11 to 13 with hypotheses of Obligations.CompletesCarriers. -/
theorem witness_CompletesCarriers_3 :
    (∃ (s : State) (car : Nat) (ev : List Nat) (t : State),
      (carRuns s car = true) ∧ ((carOf s car).aligned = true) ∧ (losesAlignment (cT1 (carRec s car)) (isEsf (carRec s car)) (cNfasLoss (carRec s car)) ev = true) ∧ (t = carLose car false s)) ∧
    (∃ (s : State) (car : Nat) (ev : List Nat) (t : State),
      (carRuns s car = true) ∧ ((carOf s car).aligned = true) ∧ (usesCas (carRec s car) = true) ∧ (casFound ev = true) ∧ ((carOf s car).mf = true ∨ cFraming (carRec s car) ≠ 1) ∧ (t = markPoint car (putCar car { carOf s car with casMf := true } s))) ∧
    (∃ (s : State) (car : Nat) (ev : List Nat) (t : State),
      (carRuns s car = true) ∧ ((carOf s car).aligned = true) ∧ (usesCrc4 (carRec s car) = true) ∧ (crc4Found s.clk.fn.toNat ev = true) ∧ (usesCas (carRec s car) = false) ∧ (t = markPoint car (putCar car { carOf s car with mf := true, interwork := false, seek := none } s))) :=
  ⟨⟨carUp, 0, [0, 0, 1, 0, 1], _, by decide +kernel, by decide +kernel, by decide +kernel, rfl⟩,
   ⟨carCas, 0, [0x10, 0x0F], _, by decide +kernel, by decide +kernel, by decide +kernel, by decide +kernel, by decide +kernel, rfl⟩,
   ⟨carSeek, 0, [4736, 4800], _, by decide +kernel, by decide +kernel, by decide +kernel, by decide +kernel, by decide +kernel, rfl⟩⟩

/-- States and operands that meet the hypotheses of each of clauses 1 to 5 with hypotheses of Obligations.CompletesReports. -/
theorem witness_CompletesReports_1 :
    (∃ (s : State) (k : Nat),
      (s.clk.fn.toNat % 80 = 0) ∧ (s.dft.dirty = [k]) ∧ (s.prot.switched = [])) ∧
    (∃ (s : State),
      (s.clk.fn.toNat % 80 = 0) ∧ (4096 < s.dft.dirty.length) ∧ (s.prot.switched = [])) ∧
    (∃ (s : State) (cls : Nat) (obj : Nat) (x : PmSec) (rest : List PmSec),
      ((pmObj s (objKey cls obj)).secs = x :: rest) ∧ (80000 ≤ (s.clk.fn - x.endFn).toNat)) ∧
    (∃ (s : State) (cls : Nat) (obj : Nat) (day : Bool) (e : Nat),
      (pmObj s (objKey cls obj) ≠ {}) ∧ (e = binEnd day (if day then (pmObj s (objKey cls obj)).curDay else (pmObj s (objKey cls obj)).cur15).start) ∧ (e + 10 ≤ s.clk.todSec.toNat) ∧ ((pmObj s (objKey cls obj)).secs = [])) ∧
    (∃ (s : State) (x : PmBuf) (rest : List PmBuf),
      (s.pm.bufs = x :: rest) ∧ (x.written ≠ 0) ∧ (8000 ≤ (s.clk.fn - x.firstFn).toNat)) :=
  ⟨⟨{ soloState with dft := { soloState.dft with dirty := [5] } }, 5, by decide +kernel, by decide +kernel, by decide +kernel⟩,
   ⟨{ soloState with dft := { soloState.dft with dirty := List.replicate 4097 5 } }, by decide +kernel, by rw [show (List.replicate 4097 5).length = 4097 from List.length_replicate]; decide, by decide +kernel⟩,
   ⟨pmState, 0, 0, _, _, rfl, by decide +kernel⟩,
   ⟨pmBin, 0, 0, false, _, by decide +kernel, rfl, by decide +kernel, by decide +kernel⟩,
   ⟨pmBufState, _, _, rfl, by decide +kernel, by decide +kernel⟩⟩

/-- States and operands that meet the hypotheses of each of clauses 6 to 9 with hypotheses of Obligations.CompletesReports. -/
theorem witness_CompletesReports_2 :
    (∃ (s : State) (ms : List PmMeas) (t : State),
      (s.clk.todSec ≠ 0) ∧ (s.clk.todSec ≠ s.pm.lastSec) ∧ (t = ms.foldl (measure (s.clk.todSec.toNat - 1) (secondView s)) s)) ∧
    (∃ (s : State),
      (entered s = true) ∧ (framesRun s = true) ∧ (s.clk.fn.toNat % 8 = 0)) ∧
    (∃ (s : State) (x : Word64),
      (entered s = true) ∧ (s.mode.carried = true) ∧ (x ≠ s.page.liveFp)) ∧
    (∃ (s : State) (u : Nat) (gain : Bool) (ev : List Bool) (x : PrbsSt) (y : PrbsCfg),
      (x = tget {} s.bel.prbs u) ∧ (x.cfg = some y) ∧ (y.ana = true) ∧ (x.inSync ≠ gain) ∧ (prbsEvidence y gain ev = true) ∧ (entered s = true)) :=
  ⟨⟨secState, [], _, by decide +kernel, by decide +kernel, rfl⟩,
   ⟨soloState, by decide +kernel, by decide +kernel, by decide +kernel⟩,
   ⟨{ soloState with mode := { soloState.mode with carried := true } }, soloState.page.liveFp + 1, by decide +kernel, by decide +kernel, by decide +kernel⟩,
   ⟨prbsState, 2, true, List.replicate ((prbsShape 0).1 + 64) false, _, _, rfl, rfl, by decide +kernel, by decide +kernel, by decide +kernel, by decide +kernel⟩⟩

/-- States and operands that meet the hypotheses of each of clauses 1 to 5 with hypotheses of Obligations.CompletesTiming. -/
theorem witness_CompletesTiming_1 :
    (∃ (s : State) (t : State),
      (s.tim.running = true) ∧ (s.clk.fn.toNat % 80 = 0) ∧ (s.tim.lastTick ≠ some s.clk.fn) ∧ (t = tickPairs ((List.range 16).foldl tickSince (tickSample ((List.range 16).foldl tickQl (applyBlock (bump 112 0 1 { s with tim := { s.tim with lastTick := some s.clk.fn } }))))))) ∧
    (∃ (s : State) (slot : Nat) (b : Nat),
      (slot < 16) ∧ ((rKind (slotRec s slot) = 1 ∧ b < 3 ∧ bit (sourceConds s (slotRec s slot)) b = true) ∨ (rKind (slotRec s slot) = 2 ∧ (b = 0 ∨ (b < 3 ∧ bTinMode s.tim.block (rSource (slotRec s slot)) ≠ 0)))) ∧ (bit (slotSt s slot).conds b = false)) ∧
    (∃ (s : State) (slot : Nat) (b : Nat),
      (slot < 16) ∧ ((rKind (slotRec s slot) = 1 ∧ b < 3 ∧ bit (sourceConds s (slotRec s slot)) b = false) ∨ (rKind (slotRec s slot) = 2 ∧ (b = 0 ∨ (b < 3 ∧ bTinMode s.tim.block (rSource (slotRec s slot)) ≠ 0)))) ∧ (bit (slotSt s slot).conds b = true)) ∧
    (∃ (s : State) (slot : Nat) (on : Bool),
      (rKind (slotRec s slot) = 3)) ∧
    (∃ (s : State) (slot : Nat) (f : FN),
      ((slotSt s slot).hold = some f) ∧ (800 * rHoldOff (slotRec s slot) ≤ (s.clk.fn - f).toNat) ∧ ((slotSt s slot).conds ≠ 0)) :=
  ⟨⟨{ soloState with tim := { soloState.tim with running := true } }, _, by decide +kernel, by decide +kernel, by decide +kernel, rfl⟩,
   ⟨slotLof, 3, 1, by decide +kernel, Or.inl ⟨by decide +kernel, by decide, by decide +kernel⟩, by decide +kernel⟩,
   ⟨slotBad, 3, 0, by decide +kernel, by decide +kernel, by decide +kernel⟩,
   ⟨mateTimed, 3, true, by decide +kernel⟩,
   ⟨slotHold, 3, _, rfl, by decide +kernel, by decide +kernel⟩⟩

/-- States and operands that meet the hypotheses of each of clauses 6 to 10 with hypotheses of Obligations.CompletesTiming. -/
theorem witness_CompletesTiming_2 :
    (∃ (s : State) (slot : Nat) (f : FN),
      ((slotSt s slot).wtr = some f) ∧ (480000 * rWtr (slotRec s slot) ≤ (s.clk.fn - f).toNat) ∧ ((slotSt s slot).conds = 0)) ∧
    (∃ (s : State) (slot : Nat) (f : FN) (t : State) (u : State),
      (s.tim.use = some slot) ∧ (s.tim.switching = some f) ∧ (s.tim.dpll = 1) ∧ (800000 ≤ (s.clk.fn - f).toNat) ∧ (t = condArises slot 4 (putSlotSt slot { slotSt s slot with failed := true, hold := none } s)) ∧ (u = condClears slot 4 (timNote 6 none 0xFF (stopTracking t)))) ∧
    (∃ (s : State),
      (s.tim.dpll = 1) ∧ (lockHolds s = true) ∧ (16000 ≤ s.tim.lockRun)) ∧
    (∃ (s : State) (slot : Nat),
      (40000 ≤ (s.clk.fn - (slotSt s slot).ssmFn).toNat)) ∧
    (∃ (s : State) (slot : Nat) (code : BitVec 4),
      (slot < 16) ∧ (carriesSsm s (slotRec s slot) = true) ∧ ((slotSt s slot).failed = false ∨ (slotSt s slot).conds = 0)) :=
  ⟨⟨slotWtr, 3, _, rfl, by decide +kernel, by decide +kernel⟩,
   ⟨acqState, 3, _, _, _, by decide +kernel, rfl, by decide +kernel, by decide +kernel, rfl, rfl⟩,
   ⟨lockState, by decide +kernel, by decide +kernel, by decide +kernel⟩,
   ⟨{ soloState with clk := { soloState.clk with fn := 40000 } }, 3, by decide +kernel⟩,
   ⟨ssmSlot, 3, 2, by decide +kernel, by decide +kernel, by decide +kernel⟩⟩

/-- States and operands that meet the hypotheses of each of clauses 11 to 15 with hypotheses of Obligations.CompletesTiming. -/
theorem witness_CompletesTiming_3 :
    (∃ (s : State) (slot : Nat) (freq : Int) (off : Int),
      (slot < 16) ∧ (rKind (slotRec s slot) ≠ 0) ∧ (s.clk.fn.toNat % 80 = 0) ∧ (off = (freq - freqBase s) / 10000) ∧ (9 * rFreqLimit (slotRec s slot) < off.natAbs) ∧ (off.natAbs ≤ 10 * rFreqLimit (slotRec s slot))) ∧
    (∃ (s : State) (slot : Nat) (freq : Int) (off : Int),
      (slot < 16) ∧ (rKind (slotRec s slot) ≠ 0) ∧ (s.clk.fn.toNat % 80 = 0) ∧ (off = (freq - freqBase s) / 10000) ∧ (10 * rFreqLimit (slotRec s slot) < off.natAbs)) ∧
    (∃ (s : State) (slot : Nat) (freq : Int) (off : Int),
      (slot < 16) ∧ (rKind (slotRec s slot) ≠ 0) ∧ (s.clk.fn.toNat % 80 = 0) ∧ (off = (freq - freqBase s) / 10000) ∧ (off.natAbs ≤ 9 * rFreqLimit (slotRec s slot)) ∧ ((slotSt s slot).inWin = none)) ∧
    (∃ (s : State) (slot : Nat) (freq : Int) (off : Int) (f : FN),
      (slot < 16) ∧ (rKind (slotRec s slot) ≠ 0) ∧ (s.clk.fn.toNat % 80 = 0) ∧ (off = (freq - freqBase s) / 10000) ∧ (off.natAbs ≤ 9 * rFreqLimit (slotRec s slot)) ∧ ((slotSt s slot).inWin = some f) ∧ (8000 ≤ (s.clk.fn - f).toNat)) ∧
    (∃ (s : State) (i : Nat) (n : Nat),
      (s.tim.pairs = []) ∧ (i < n) ∧ (n < 16) ∧ (candidate s i = true) ∧ (candidate s n = true) ∧ (slotsTie s i n = true) ∧ (offsetsConflict s i n = true)) :=
  ⟨⟨slotUp, 3, 9000000, _, by decide +kernel, by decide +kernel, by decide +kernel, rfl, by decide +kernel, by decide +kernel⟩,
   ⟨slotUp, 3, -10010000, _, by decide +kernel, by decide +kernel, by decide +kernel, rfl, by decide +kernel⟩,
   ⟨slotUp, 3, 8280000, _, by decide +kernel, by decide +kernel, by decide +kernel, rfl, by decide +kernel, by decide +kernel⟩,
   ⟨slotWindow, 3, 0, _, _, by decide +kernel, by decide +kernel, by decide +kernel, rfl, by decide +kernel, rfl, by decide +kernel⟩,
   ⟨twoSlots, 3, 4, by decide +kernel, by decide +kernel, by decide +kernel, by decide +kernel, by decide +kernel, by decide +kernel, by decide +kernel⟩⟩

/-- States and operands that meet the hypotheses of each of clauses 1 to 5 with hypotheses of Obligations.CompletesEngines. -/
theorem witness_CompletesEngines_1 :
    (∃ (s : State) (n : Nat) (k : Nat),
      (n < 1024) ∧ (engineRuns s n = true) ∧ (k = (if tget 0 s.eng.overruns n = 0 then 1 else if tget 0 s.eng.overrunFn n = s.clk.fn then tget 0 s.eng.overruns n else if tget 0 s.eng.overrunFn n + 1 = s.clk.fn then tget 0 s.eng.overruns n + 1 else 1)) ∧ (k < 8)) ∧
    (∃ (s : State) (n : Nat) (k : Nat) (t : State) (u : State),
      (n < 1024) ∧ (engineRuns s n = true) ∧ (k = (if tget 0 s.eng.overruns n = 0 then 1 else if tget 0 s.eng.overrunFn n = s.clk.fn then tget 0 s.eng.overruns n else if tget 0 s.eng.overrunFn n + 1 = s.clk.fn then tget 0 s.eng.overruns n + 1 else 1)) ∧ (8 ≤ k) ∧ (t = raise gEng 3 (bump (32 + n / 32) 1 1 { s with eng := { s.eng with overruns := tset 0 s.eng.overruns n k, overrunFn := tset 0 s.eng.overrunFn n s.clk.fn } })) ∧ (u = putCluster (n / 32) { clusterOf t (n / 32) with faulted := true } t)) ∧
    (∃ (s : State) (n : Nat) (a : Activation),
      (s.img.act = some a) ∧ (a.step = 3) ∧ (atBoundaryFrame s = true) ∧ (a.startFn ≠ s.clk.fn) ∧ (s.pwr.pfw = false) ∧ (entered s = true) ∧ ((clustersFrom s a.next).head? = some n)) ∧
    (∃ (s : State) (n : Nat) (f : FN) (a : Activation),
      ((clusterOf s n).awaiting = some f) ∧ (8 ≤ (s.clk.fn - f).toNat) ∧ (entered s = true) ∧ (s.img.act = some a) ∧ (a.step < 7)) ∧
    (∃ (s : State) (n : Nat),
      (n < 4) ∧ (domOn s (108 + n) = true)) :=
  ⟨⟨engState, 5, _, by decide +kernel, by decide +kernel, rfl, by decide +kernel⟩,
   ⟨{ engState with eng := { engState.eng with overruns := [(5, 8)], overrunFn := [(5, engState.clk.fn)] } }, 5, _, _, _, by decide +kernel, by decide +kernel, rfl, by decide +kernel, rfl, rfl⟩,
   ⟨(actState 3), 0, _, rfl, by decide +kernel, by decide +kernel, by decide +kernel, by decide +kernel, by decide +kernel, by decide +kernel⟩,
   ⟨awaitState, 0, _, _, rfl, by decide +kernel, by decide +kernel, rfl, by decide +kernel⟩,
   ⟨engState, 0, by decide +kernel, by decide +kernel⟩⟩

/-- States and operands that meet the hypotheses of each of clauses 6 to 10 with hypotheses of Obligations.CompletesEngines. -/
theorem witness_CompletesEngines_2 :
    (∃ (s : State) (n : Nat),
      (n < 1024) ∧ (domOn s (32 + n / 32) = true)) ∧
    (∃ (s : State) (r : Tier) (i : Nat),
      True) ∧
    (∃ (s : State),
      True) ∧
    (∃ (s : State) (n : Nat),
      (n < 1024) ∧ (domOn s (32 + n / 32) = true)) ∧
    (∃ (s : State) (r : Tier) (i : Nat),
      (domOn s (80 + itemBank (.liveEntry r i)) = true)) :=
  ⟨⟨engState, 5, by decide +kernel, by decide +kernel⟩,
   ⟨engState, .lo, 7, trivial⟩,
   ⟨engState, trivial⟩,
   ⟨engState, 1023, by decide +kernel, by decide +kernel⟩,
   ⟨engState, .lo, 7, by decide +kernel⟩⟩

/-- States and operands that meet the hypotheses of each of clauses 11 to 15 with hypotheses of Obligations.CompletesEngines. -/
theorem witness_CompletesEngines_3 :
    (∃ (s : State) (n : Nat) (x : ClusterSt),
      (entered s = true) ∧ (x = clusterOf s n) ∧ (x.lastBad ≠ none) ∧ (x.faulted = false)) ∧
    (∃ (s : State) (w : MemRef),
      (entered s = true) ∧ (w ≠ .schedule)) ∧
    (∃ (s : State),
      (entered s = true) ∧ (atBoundaryFrame s = true)) ∧
    (∃ (s : State) (n : Nat) (x : DomState),
      (tfind s.pwr.turning n = some x) ∧ (entered s = true) ∧ ((domRequires n).all (domOn s) = true) ∧ (x ≠ .off) ∧ (domState s n = .off) ∧ (x ≠ .retain)) ∧
    (∃ (s : State) (n : Nat),
      (tfind s.pwr.turning n = some .retain) ∧ (entered s = true) ∧ ((domRequires n).all (domOn s) = true) ∧ (domState s n = .off)) :=
  ⟨⟨badBank, 0, _, by decide +kernel, rfl, by decide +kernel, by decide +kernel⟩,
   ⟨engState, .liveCarrier 3, by decide +kernel, by decide +kernel⟩,
   ⟨engState, by decide +kernel, by decide +kernel⟩,
   ⟨turnState, 33, _, rfl, by decide +kernel, by decide +kernel, by decide +kernel, by decide +kernel, by decide +kernel⟩,
   ⟨{ turnState with pwr := { turnState.pwr with turning := [(33, .retain)] } }, 33, by decide +kernel, by decide +kernel, by decide +kernel, by decide +kernel⟩⟩

/-- States and operands that meet the hypotheses of each of clauses 16 to 20 with hypotheses of Obligations.CompletesEngines. -/
theorem witness_CompletesEngines_4 :
    (∃ (s : State) (n : Nat),
      (tfind s.pwr.turning n = some .on) ∧ (entered s = true) ∧ ((domRequires n).all (domOn s) = true) ∧ (domState s n ≠ .off) ∧ (n < 32 ∨ 64 ≤ n)) ∧
    (∃ (s : State) (n : Nat),
      (tfind s.pwr.turning n = some .on) ∧ (entered s = true) ∧ ((domRequires n).all (domOn s) = true) ∧ (domState s n ≠ .off) ∧ (32 ≤ n) ∧ (n < 64)) ∧
    (∃ (s : State) (n : Nat),
      (n = 104 ∨ n = 108 ∨ n = 111) ∧ (domState s n ≠ .off)) ∧
    (∃ (s : State) (n : Nat) (t : State),
      (n < 112) ∧ (n ≠ 104) ∧ (n ≠ 108) ∧ (n ≠ 111) ∧ (domState s n ≠ .off) ∧ ((s.host.waiters.any fun w => match w with | .domain a b _ => a.isSome && b == n | _ => false) = false) ∧ (t = loseDomain n { s with pwr := { s.pwr with dom := terase s.pwr.dom n, turning := terase s.pwr.turning n } })) ∧
    (∃ (s : State) (n : Nat) (t : State),
      (n < 112) ∧ (n ≠ 104) ∧ (n ≠ 108) ∧ (n ≠ 111) ∧ (domState s n ≠ .off) ∧ ((s.host.waiters.any fun w => match w with | .domain a b _ => a.isSome && b == n | _ => false) = true) ∧ (t = loseDomain n { s with pwr := { s.pwr with dom := terase s.pwr.dom n, turning := terase s.pwr.turning n } })) :=
  ⟨⟨{ turnState with pwr := { turnState.pwr with dom := [(109, .retain)], turning := [(109, .on)] } }, 109, by decide +kernel, by decide +kernel, by decide +kernel, by decide +kernel, by decide +kernel⟩,
   ⟨{ turnState with pwr := { turnState.pwr with dom := [(33, .retain)], turning := [(33, .on)] } }, 33, by decide +kernel, by decide +kernel, by decide +kernel, by decide +kernel, by decide +kernel, by decide +kernel⟩,
   ⟨engState, 111, by decide +kernel, by decide +kernel⟩,
   ⟨engState, 32, _, by decide +kernel, by decide +kernel, by decide +kernel, by decide +kernel, by decide +kernel, by decide +kernel, rfl⟩,
   ⟨owedDomain, 33, _, by decide +kernel, by decide +kernel, by decide +kernel, by decide +kernel, by decide +kernel, by decide +kernel, rfl⟩⟩

/-- States and operands that meet the hypotheses of each of clauses 1 to 5 with hypotheses of Obligations.CompletesUpdate. -/
theorem witness_CompletesUpdate_1 :
    (∃ (s : State) (n : Nat),
      (entered s = true) ∧ (s.mode.mode ≠ .safe) ∧ (compactionDue s = true) ∧ (s.jrn.compaction = none) ∧ (s.pwr.pfw = false) ∧ (s.flash.noRoom = false) ∧ (n = s.jrn.nextSeq - 1)) ∧
    (∃ (s : State) (x : Compaction) (t : State),
      (s.jrn.compaction = some x) ∧ (s.pwr.pfw = false) ∧ (s.flash.noRoom = false) ∧ (entered s = true) ∧ (t = { s with flash := { putSnapshot x.snap (snapshotSpill s.draws) s.flash with journal := (putSnapshot x.snap (snapshotSpill s.draws) s.flash).journal.filter fun r => decide (x.seq < r.seq), used := min (putSnapshot x.snap (snapshotSpill s.draws) s.flash).used (Config.compactedBytes s.draws), lostRecord := false }, jrn := { s.jrn with compaction := none, fault := false }, draws := s.draws + 1 })) ∧
    (∃ (s : State),
      (s.jrn.fault = false) ∧ (entered s = true)) ∧
    (∃ (s : State) (a : Activation) (m : State),
      (s.img.act = some a) ∧ (a.step = 2) ∧ (s.pwr.pfw = false) ∧ (entered s = true) ∧ (m = restartMc3 s)) ∧
    (∃ (s : State) (a : Activation),
      (s.img.act = some a) ∧ (a.step = 8) ∧ (s.pwr.pfw = false) ∧ (entered s = true)) :=
  ⟨⟨fullState, _, by decide +kernel, by decide +kernel, by decide +kernel, by decide +kernel, by decide +kernel, by decide +kernel, rfl⟩,
   ⟨compactState, _, _, rfl, by decide +kernel, by decide +kernel, by decide +kernel, rfl⟩,
   ⟨soloState, by decide +kernel, by decide +kernel⟩,
   ⟨(actState 2), _, _, rfl, by decide +kernel, by decide +kernel, by decide +kernel, rfl⟩,
   ⟨(actState 8), _, rfl, by decide +kernel, by decide +kernel, by decide +kernel⟩⟩

/-- States and operands that meet the hypotheses of each of clauses 6 to 10 with hypotheses of Obligations.CompletesUpdate. -/
theorem witness_CompletesUpdate_2 :
    (∃ (s : State) (a : Activation),
      (s.img.act = some a) ∧ (a.step = 2) ∧ (16000 ≤ (s.clk.fn - a.startFn).toNat) ∧ (entered s = true)) ∧
    (∃ (s : State) (a : Activation) (q : Nat) (qs : List Nat),
      (s.img.act = some a) ∧ (a.step = 4) ∧ (atBoundaryFrame s = true) ∧ (a.startFn ≠ s.clk.fn) ∧ (s.pwr.pfw = false) ∧ (entered s = true) ∧ (quadsFrom s a.next = q :: qs)) ∧
    (∃ (s : State) (a : Activation),
      (s.img.act = some a) ∧ (a.step = 5) ∧ (atBoundaryFrame s = true) ∧ (a.startFn ≠ s.clk.fn) ∧ (s.pwr.pfw = false) ∧ (entered s = true)) ∧
    (∃ (s : State) (f : FN),
      (entered s = true) ∧ (s.img.state = 4) ∧ (s.img.healthy = some f) ∧ (240000 ≤ f.toNat) ∧ (s.pwr.pfw = false)) ∧
    (∃ (s : State) (f : FN),
      (entered s = true) ∧ (s.img.state = 4) ∧ (s.img.trialFn = some f) ∧ (2400000 ≤ f.toNat) ∧ (s.pwr.pfw = false)) :=
  ⟨⟨(actState 2), _, rfl, by decide +kernel, by decide +kernel, by decide +kernel⟩,
   ⟨(actState 4), _, _, _, rfl, by decide +kernel, by decide +kernel, by decide +kernel, by decide +kernel, by decide +kernel, rfl⟩,
   ⟨(actState 5), _, rfl, by decide +kernel, by decide +kernel, by decide +kernel, by decide +kernel, by decide +kernel⟩,
   ⟨healthyState, _, by decide +kernel, by decide +kernel, rfl, by decide +kernel, by decide +kernel⟩,
   ⟨overdueState, _, by decide +kernel, by decide +kernel, rfl, by decide +kernel, by decide +kernel⟩⟩

/-- States and operands that meet the hypotheses of each of clauses 11 to 14 with hypotheses of Obligations.CompletesUpdate. -/
theorem witness_CompletesUpdate_3 :
    (∃ (s : State),
      (s.bak.lifecycle = 2) ∧ (s.dbg.fails < 4)) ∧
    (∃ (s : State) (vk : Bytes) (vs : Bytes) (ck : Bytes) (cs : Bytes) (x : Bytes),
      (s.dbg.challenge = some x) ∧ (s.bak.lifecycle = 2) ∧ (s.dbg.fails < 4) ∧ (responseOk s x vk vs ck cs = false)) ∧
    (∃ (s : State) (vk : Bytes) (vs : Bytes) (ck : Bytes) (cs : Bytes) (x : Bytes),
      (s.dbg.challenge = some x) ∧ (s.bak.lifecycle = 2) ∧ (s.dbg.fails < 4) ∧ (responseOk s x vk vs ck cs = true)) ∧
    (∃ (s : State),
      (s.dbg.opened = true)) :=
  ⟨⟨fieldState, by decide +kernel, by decide +kernel⟩,
   ⟨challengedState, [], [], [], [], _, rfl, by decide +kernel, by decide +kernel, by decide +kernel⟩,
   ⟨answeredState, vendorKey, vendorSig, [], [], _, rfl, by decide +kernel, by decide +kernel, by decide +kernel⟩,
   ⟨{ soloState with dbg := { soloState.dbg with opened := true } }, by decide +kernel⟩⟩

/-- States and operands that meet the hypotheses of each of clauses 1 to 5 with hypotheses of Obligations.CompletesReset. -/
theorem witness_CompletesReset_1 :
    (∃ (s : State) (pins : BitVec 3),
      True) ∧
    (∃ (s : State) (pins : BitVec 3) (t : State),
      (t = assertCold 1 s)) ∧
    (∃ (s : State),
      True) ∧
    (∃ (s : State) (d : Nat),
      (d = 104 ∨ d = 108 ∨ d = 111)) ∧
    (∃ (s : State) (t : State),
      (s.tim.running = true) ∧ (t = assertCold 3 s)) :=
  ⟨⟨State.reset, 5, trivial⟩,
   ⟨soloState, 0, _, rfl⟩,
   ⟨soloState, trivial⟩,
   ⟨soloState, 111, by decide +kernel⟩,
   ⟨{ soloState with tim := { soloState.tim with running := true } }, _, by decide +kernel, rfl⟩⟩

/-- States and operands that meet the hypotheses of each of clauses 6 to 10 with hypotheses of Obligations.CompletesReset. -/
theorem witness_CompletesReset_2 :
    (∃ (s : State) (t : State),
      (s.rst.coldPin = false) ∧ (t = assertCold 4 s)) ∧
    (∃ (s : State),
      True) ∧
    (∃ (s : State) (t : State),
      (s.rst.warmPin = false) ∧ (t = assertWarm 5 s)) ∧
    (∃ (s : State),
      True) ∧
    (∃ (s : State),
      (s.rst.phase = .running) ∧ (8000 ≤ s.rst.kickTicks)) :=
  ⟨⟨soloState, _, by decide +kernel, rfl⟩,
   ⟨soloState, trivial⟩,
   ⟨soloState, _, by decide +kernel, rfl⟩,
   ⟨soloState, trivial⟩,
   ⟨{ soloState with rst := { soloState.rst with kickTicks := 8000 } }, by decide +kernel, by decide +kernel⟩⟩

/-- States and operands that meet the hypotheses of each of clauses 11 to 15 with hypotheses of Obligations.CompletesReset. -/
theorem witness_CompletesReset_3 :
    (∃ (s : State),
      True) ∧
    (∃ (s : State) (f : Nat),
      (s.rst.phase ≠ .running) ∧ (s.rst.relTicks = some f) ∧ (16000 ≤ f)) ∧
    (∃ (s : State) (t : State),
      (1550 ≤ hottest s) ∧ (t = assertCold 0x0C s)) ∧
    (∃ (s : State),
      (s.rst.phase = .coldAsserted) ∧ (s.rst.vinGood = true) ∧ (s.rst.coldPin = false) ∧ (s.rst.thermHold = false)) ∧
    (∃ (s : State),
      (s.rst.phase = .warmAsserted ∨ s.rst.phase = .warmRelease) ∧ (s.rst.hold = .none) ∧ (s.rst.warmPin = false)) :=
  ⟨⟨soloState, trivial⟩,
   ⟨{ State.reset with rst := { State.reset.rst with relTicks := some 16000 } }, _, by decide +kernel, rfl, by decide +kernel⟩,
   ⟨hotState, _, by decide +kernel, rfl⟩,
   ⟨State.reset, by decide +kernel, by decide +kernel, by decide +kernel, by decide +kernel⟩,
   ⟨{ soloState with rst := { soloState.rst with phase := .warmAsserted } }, by decide +kernel, by decide +kernel, by decide +kernel⟩⟩

/-- States and operands that meet the hypotheses of each of clauses 16 to 20 with hypotheses of Obligations.CompletesReset. -/
theorem witness_CompletesReset_4 :
    (∃ (s : State),
      (s.rst.phase = .coldRelease) ∧ (s.rst.hold = .option)) ∧
    (∃ (s : State),
      (s.rst.phase = .coldRelease) ∧ (s.rst.hold = .trim)) ∧
    (∃ (s : State),
      (s.rst.phase = .coldRelease) ∧ (s.rst.hold = .trim)) ∧
    (∃ (s : State),
      (s.rst.phase = .coldRelease) ∧ (s.rst.hold = .xo)) ∧
    (∃ (s : State) (t : State),
      (s.rst.phase = .coldRelease) ∧ (s.rst.hold = .xo) ∧ (t = { s with rst := { s.rst with xoOk := true } })) :=
  ⟨⟨{ State.reset with rst := { State.reset.rst with phase := .coldRelease, hold := .option } }, by decide +kernel, by decide +kernel⟩,
   ⟨{ State.reset with rst := { State.reset.rst with phase := .coldRelease, hold := .trim } }, by decide +kernel, by decide +kernel⟩,
   ⟨{ State.reset with rst := { State.reset.rst with phase := .coldRelease, hold := .trim } }, by decide +kernel, by decide +kernel⟩,
   ⟨{ State.reset with rst := { State.reset.rst with phase := .coldRelease, hold := .xo } }, by decide +kernel, by decide +kernel⟩,
   ⟨{ State.reset with rst := { State.reset.rst with phase := .coldRelease, hold := .xo } }, _, by decide +kernel, by decide +kernel, rfl⟩⟩

/-- States and operands that meet the hypotheses of clause 21 with hypotheses of Obligations.CompletesReset. -/
theorem witness_CompletesReset_5 :
    (∃ (s : State),
      (s.mode.safeRestart = true) ∧ (s.rst.phase = .running) ∧ (s.rst.romOk = true)) :=
  ⟨{ safeState with mode := { safeState.mode with safeRestart := true } }, by decide +kernel, by decide +kernel, by decide +kernel⟩

/-- States and operands that meet the hypotheses of each of clauses 1 to 5 with hypotheses of Obligations.CompletesEnvironment. -/
theorem witness_CompletesEnvironment_1 :
    (∃ (s : State) (x : PfwSource),
      (pfwEnabled s x = true) ∧ (s.pwr.pfw = false)) ∧
    (∃ (s : State) (x : PfwSource),
      (pfwEnabled s x = true) ∧ (s.pwr.pfw = true)) ∧
    (∃ (s : State) (t : State),
      (s.pwr.pfw = true) ∧ (entered s = true) ∧ (s.jrn.compaction = none) ∧ (t = envNote gPwr 1 { s with pwr := { s.pwr with pfw := false, pfwPin := false } })) ∧
    (∃ (s : State) (t : State),
      (s.pwr.pfw = true) ∧ (entered s = true) ∧ (s.jrn.compaction ≠ none) ∧ (t = envNote gPwr 1 { s with pwr := { s.pwr with pfw := false, pfwPin := false } })) ∧
    (∃ (s : State) (mv : Nat),
      (1800 ≤ mv)) :=
  ⟨⟨pfwOpt, .pin, by decide +kernel, by decide +kernel⟩,
   ⟨(pfwOn pfwOpt), .pin, by decide +kernel, by decide +kernel⟩,
   ⟨(pfwOn soloState), _, by decide +kernel, by decide +kernel, by decide +kernel, rfl⟩,
   ⟨(pfwOn compactState), _, by decide +kernel, by decide +kernel, by decide +kernel, rfl⟩,
   ⟨soloState, 1800, by decide +kernel⟩⟩

/-- States and operands that meet the hypotheses of each of clauses 6 to 10 with hypotheses of Obligations.CompletesEnvironment. -/
theorem witness_CompletesEnvironment_2 :
    (∃ (s : State) (mv : Nat),
      (mv < 1800)) ∧
    (∃ (s : State) (mv : Nat),
      True) ∧
    (∃ (s : State) (x : Int) (t : State),
      (1400 ≤ x) ∧ (t = readHottest x s) ∧ (t.pwr.hot = false)) ∧
    (∃ (s : State) (x : Int) (t : State),
      (x < 1400) ∧ (t = readHottest x s) ∧ (t.pwr.hot = true)) ∧
    (∃ (s : State) (x : Int) (t : State),
      (s.rst.thermHold = true) ∧ (x < 1400) ∧ (t = readHottest x s)) :=
  ⟨⟨soloState, 1799, by decide +kernel⟩,
   ⟨soloState, 80000, trivial⟩,
   ⟨soloState, 1400, _, by decide +kernel, rfl, by decide +kernel⟩,
   ⟨{ soloState with pwr := { soloState.pwr with hot := true } }, 1399, _, by decide +kernel, rfl, by decide +kernel⟩,
   ⟨{ State.reset with rst := { State.reset.rst with thermHold := true } }, 1399, _, by decide +kernel, by decide +kernel, rfl⟩⟩

/-- States and operands that meet the hypotheses of clause 11 with hypotheses of Obligations.CompletesEnvironment. -/
theorem witness_CompletesEnvironment_3 :
    (∃ (s : State) (n : Nat) (x : Int),
      (n < 12) ∧ (n ∉ s.pwr.excluded) ∧ (sensorBad s n x = true)) :=
  ⟨soloState, 11, 1751, by decide +kernel, by decide +kernel, by decide +kernel⟩

/-- States and operands that meet the hypotheses of each of clauses 1 to 5 with hypotheses of Obligations.CompletesPmbusReads. -/
theorem witness_CompletesPmbusReads_1 :
    (∃ (s : State) (pec : Pec),
      (s.rst.phase ≠ .coldAsserted)) ∧
    (∃ (s : State) (pec : Pec),
      (s.rst.phase ≠ .coldAsserted)) ∧
    (∃ (s : State) (pec : Pec),
      (s.rst.phase ≠ .coldAsserted)) ∧
    (∃ (s : State) (pec : Pec),
      (s.rst.phase ≠ .coldAsserted)) ∧
    (∃ (s : State) (pec : Pec),
      (s.rst.phase ≠ .coldAsserted)) :=
  ⟨⟨soloState, .correct, by decide +kernel⟩,
   ⟨soloState, .correct, by decide +kernel⟩,
   ⟨soloState, .correct, by decide +kernel⟩,
   ⟨soloState, .correct, by decide +kernel⟩,
   ⟨soloState, .correct, by decide +kernel⟩⟩

/-- States and operands that meet the hypotheses of each of clauses 6 to 10 with hypotheses of Obligations.CompletesPmbusReads. -/
theorem witness_CompletesPmbusReads_2 :
    (∃ (s : State) (pec : Pec),
      (s.rst.phase ≠ .coldAsserted)) ∧
    (∃ (s : State) (pec : Pec),
      (s.rst.phase ≠ .coldAsserted)) ∧
    (∃ (s : State) (pec : Pec) (i : Nat) (t : State),
      (s.rst.phase ≠ .coldAsserted) ∧ (i = Config.inputPower s.draws) ∧ (t = { s with draws := s.draws + 1 })) ∧
    (∃ (s : State) (pec : Pec),
      (s.rst.phase ≠ .coldAsserted)) ∧
    (∃ (s : State) (pec : Pec) (i : Nat) (t : State),
      (s.rst.phase ≠ .coldAsserted) ∧ (i = Config.inputPower s.draws) ∧ (t = { s with draws := s.draws + 1 })) :=
  ⟨⟨soloState, .correct, by decide +kernel⟩,
   ⟨soloState, .correct, by decide +kernel⟩,
   ⟨soloState, .absent, _, _, by decide +kernel, rfl, rfl⟩,
   ⟨soloState, .correct, by decide +kernel⟩,
   ⟨soloState, .absent, _, _, by decide +kernel, rfl, rfl⟩⟩

/-- States and operands that meet the hypotheses of each of clauses 11 to 15 with hypotheses of Obligations.CompletesPmbusReads. -/
theorem witness_CompletesPmbusReads_3 :
    (∃ (s : State) (pec : Pec),
      (s.rst.phase ≠ .coldAsserted)) ∧
    (∃ (s : State) (pec : Pec),
      (s.rst.phase ≠ .coldAsserted)) ∧
    (∃ (s : State) (pec : Pec),
      (s.rst.phase ≠ .coldAsserted)) ∧
    (∃ (s : State) (pec : Pec),
      (s.rst.phase ≠ .coldAsserted)) ∧
    (∃ (s : State) (pec : Pec),
      (s.rst.phase ≠ .coldAsserted)) :=
  ⟨⟨soloState, .correct, by decide +kernel⟩,
   ⟨soloState, .correct, by decide +kernel⟩,
   ⟨soloState, .correct, by decide +kernel⟩,
   ⟨soloState, .correct, by decide +kernel⟩,
   ⟨soloState, .correct, by decide +kernel⟩⟩

/-- States and operands that meet the hypotheses of each of clauses 16 to 18 with hypotheses of Obligations.CompletesPmbusReads. -/
theorem witness_CompletesPmbusReads_4 :
    (∃ (s : State) (pec : Pec),
      (s.rst.phase ≠ .coldAsserted)) ∧
    (∃ (s : State) (pec : Pec),
      (s.rst.phase ≠ .coldAsserted)) ∧
    (∃ (s : State) (pec : Pec),
      (s.rst.phase ≠ .coldAsserted)) :=
  ⟨⟨soloState, .correct, by decide +kernel⟩,
   ⟨soloState, .correct, by decide +kernel⟩,
   ⟨soloState, .correct, by decide +kernel⟩⟩

/-- States and operands that meet the hypotheses of each of clauses 1 to 5 with hypotheses of Obligations.CompletesPmbusWrites. -/
theorem witness_CompletesPmbusWrites_1 :
    (∃ (s : State) (pec : Pec),
      (s.rst.phase ≠ .coldAsserted) ∧ (pec ≠ .wrong)) ∧
    (∃ (s : State),
      (s.rst.phase ≠ .coldAsserted)) ∧
    (∃ (s : State) (key : Word32),
      (s.rst.phase ≠ .coldAsserted) ∧ (key = 0x5AFEC01D)) ∧
    (∃ (s : State) (key : Word32),
      (s.rst.phase ≠ .coldAsserted) ∧ (key = 0x5AFE3A53)) ∧
    (∃ (s : State) (pec : Pec) (key : Word32),
      (s.rst.phase ≠ .coldAsserted) ∧ (pec ≠ .correct)) :=
  ⟨⟨soloState, .absent, by decide +kernel, by decide +kernel⟩,
   ⟨soloState, by decide +kernel⟩,
   ⟨soloState, 0x5AFEC01D, by decide +kernel, by decide +kernel⟩,
   ⟨soloState, 0x5AFE3A53, by decide +kernel, by decide +kernel⟩,
   ⟨soloState, .absent, 0x5AFEC01D, by decide +kernel, by decide +kernel⟩⟩

/-- States and operands that meet the hypotheses of each of clauses 6 to 7 with hypotheses of Obligations.CompletesPmbusWrites. -/
theorem witness_CompletesPmbusWrites_2 :
    (∃ (s : State) (key : Word32),
      (s.rst.phase ≠ .coldAsserted) ∧ (key ≠ 0x5AFEC01D) ∧ (key ≠ 0x5AFE3A53)) ∧
    (∃ (s : State) (bad : Bool),
      (s.rst.phase ≠ .coldAsserted)) :=
  ⟨⟨soloState, 0, by decide +kernel, by decide +kernel, by decide +kernel⟩,
   ⟨soloState, true, by decide +kernel⟩⟩

/-- A state and operands that meet the hypotheses of Obligations.StepRunsFront. -/
theorem witness_StepRunsFront :
    (∃ (c : Instr) (s : State) (rest : List Instr),
      (s.pending = c :: rest)) :=
  ⟨.frameStart, { State.reset with pending := [.frameStart] }, [], by decide +kernel⟩

/-- A state and operands that meet the hypotheses of Obligations.StepIdles. -/
theorem witness_StepIdles :
    (∃ (s : State),
      (s.pending = [])) :=
  ⟨State.reset, by decide +kernel⟩

/-- A state and operands that meet the hypotheses of Obligations.StepKeepsSound. -/
theorem witness_StepKeepsSound :
    (∃ (s : State) (t : State),
      (Sound s) ∧ (Sys2Proof.Machine.step s = .next t)) :=
  ⟨State.reset, State.reset, ⟨by decide +kernel, by decide +kernel, by decide +kernel⟩, by rfl⟩

/-- A state and operands that meet the hypotheses of Obligations.StepGoesForward. -/
theorem witness_StepGoesForward :
    (∃ (s : State) (t : State),
      (Sys2Proof.Machine.step s = .next t)) :=
  ⟨State.reset, State.reset, by rfl⟩

/-- A state and operands that meet the hypotheses of Obligations.WrongLength. -/
theorem witness_WrongLength :
    (∃ (i : Instr) (r : RingRow) (s : State) (pos : Nat) (rest : List Fetched),
      (ringRow i = some r) ∧ (r.fits = true) ∧ (s.host.fetched = { opcode := r.opcode, entry := r.entry, pos := pos } :: rest) ∧ (mayBegin s = true) ∧ (waitingCount s < 64) ∧ (r.entry.len.toNat ∉ r.lens)) :=
  ⟨.nop (mkEntry 4 0), _, cmdState .solo 0x01 (mkEntry 4 0), 0, [], rfl, by decide +kernel, by decide +kernel, by decide +kernel, by decide +kernel, by decide +kernel⟩

/-- A state and operands that meet the hypotheses of Obligations.WrongMode. -/
theorem witness_WrongMode :
    (∃ (i : Instr) (r : RingRow) (s : State) (pos : Nat) (rest : List Fetched),
      (ringRow i = some r) ∧ (r.fits = true) ∧ (s.host.fetched = { opcode := r.opcode, entry := r.entry, pos := pos } :: rest) ∧ (mayBegin s = true) ∧ (waitingCount s < 64) ∧ (s.mode.mode ∉ r.modes)) :=
  ⟨.setMode (mkEntry 8 2), _, cmdState .safe 0x03 (mkEntry 8 2), 0, [], rfl, by decide +kernel, by decide +kernel, by decide +kernel, by decide +kernel, by decide +kernel⟩

/-- A state and operands that meet the hypotheses of Obligations.NotAtHead. -/
theorem witness_NotAtHead :
    (∃ (i : Instr) (r : RingRow) (s : State),
      (ringRow i = some r) ∧ (s.host.fetched = [])) :=
  ⟨.nop (mkEntry 0 0), _, soloState, rfl, by decide +kernel⟩

/-- A state and operands that meet the hypotheses of Obligations.NothingBeginsInReset. -/
theorem witness_NothingBeginsInReset :
    (∃ (i : Instr) (r : RingRow) (s : State),
      (ringRow i = some r) ∧ (mayBegin s = false)) :=
  ⟨.nop (mkEntry 0 0), _, State.reset, rfl, by decide +kernel⟩

/-- States and operands that meet the hypotheses of each of clauses 1 to 5 with hypotheses of Obligations.FirstCheckDecides. -/
theorem witness_FirstCheckDecides_1 :
    (∃ (s : State) (c : CmdEntry) (k : Checks),
      (c.len.toNat ∈ k.lens) ∧ (argsWithin c k.fields = false)) ∧
    (∃ (s : State) (c : CmdEntry) (k : Checks),
      (c.len.toNat ∈ k.lens) ∧ (k.argsOk = false)) ∧
    (∃ (s : State) (c : CmdEntry) (k : Checks),
      (c.len.toNat ∈ k.lens) ∧ (c.flags.toNat < 2) ∧ (argsWithin c k.fields = true) ∧ (k.argsOk = true) ∧ (k.lengthOk = false)) ∧
    (∃ (s : State) (c : CmdEntry) (k : Checks),
      (c.len.toNat ∈ k.lens) ∧ (c.flags.toNat < 2) ∧ (argsWithin c k.fields = true) ∧ (k.argsOk = true) ∧ (k.lengthOk = true) ∧ (s.mode.mode ∉ k.modes)) ∧
    (∃ (s : State) (c : CmdEntry) (k : Checks),
      (c.len.toNat ∈ k.lens) ∧ (c.flags.toNat < 2) ∧ (argsWithin c k.fields = true) ∧ (k.argsOk = true) ∧ (k.lengthOk = true) ∧ (s.mode.mode ∈ k.modes) ∧ (k.modeOk = true) ∧ (¬(s.mode.mode = .safe ∧ s.bak.lifecycle = 4 ∧ k.retiredToo = false))) :=
  ⟨⟨soloState, mkEntry 8 16, modeChecks soloState (mkEntry 8 16), by decide +kernel, by decide +kernel⟩,
   ⟨soloState, mkEntry 8 0, modeChecks soloState (mkEntry 8 0), by decide +kernel, by decide +kernel⟩,
   ⟨soloState, mkEntry 24 (descOf 4096 8 false), bulkChecks soloState (mkEntry 24 (descOf 4096 8 false)), by decide +kernel, by decide +kernel, by decide +kernel, by decide +kernel, by decide +kernel⟩,
   ⟨State.reset, mkEntry 8 2, modeChecks State.reset (mkEntry 8 2), by decide +kernel, by decide +kernel, by decide +kernel, by decide +kernel, by decide +kernel, by decide +kernel⟩,
   ⟨soloState, mkEntry 8 2, modeChecks soloState (mkEntry 8 2), by decide +kernel, by decide +kernel, by decide +kernel, by decide +kernel, by decide +kernel, by decide +kernel, by decide +kernel, by decide +kernel⟩⟩

/-- States and operands that meet the hypotheses of clause 6 with hypotheses of Obligations.FirstCheckDecides. -/
theorem witness_FirstCheckDecides_2 :
    (∃ (s : State) (c : CmdEntry) (k : Checks),
      (c.len.toNat ∈ k.lens) ∧ (c.flags.toNat < 2) ∧ (argsWithin c k.fields = true) ∧ (k.argsOk = true) ∧ (k.lengthOk = true) ∧ (s.mode.mode ∈ k.modes) ∧ (k.modeOk = true) ∧ ((s.mode.mode = .safe ∧ s.bak.lifecycle = 4 ∧ k.retiredToo = false))) :=
  ⟨retiredState, mkEntry 0 0, statusChecks, by decide +kernel, by decide +kernel, by decide +kernel, by decide +kernel, by decide +kernel, by decide +kernel, by decide +kernel, by decide +kernel⟩

/-- A state and operands that meet the hypotheses of Obligations.CommandFrame. -/
theorem witness_CommandFrame :
    (∃ (tok : CmdTok) (st : Byte) (obj : Byte) (result : Word64) (s : State) (t : State),
      (t = complete tok st obj result s)) :=
  ⟨tokenOf 1 (mkEntry 0 0) 0, 0, 0, 0, soloState, _, rfl⟩

/-- A state and operands that meet the hypotheses of Obligations.LockHolds. -/
theorem witness_LockHolds :
    (∃ (s : State) (t : State) (off : Nat) (v : Word32) (r : RingId),
      (s.host.lock = true) ∧ (exec (.registerWrite off v) s = .next t)) :=
  ⟨{ State.reset with host := { State.reset.host with lock := true } }, _, 8, 0, .cmd, by decide +kernel, rfl⟩

/-- States and operands that meet the hypotheses of each clause of Obligations.GlobalSlot. -/
theorem witness_GlobalSlot :
    (∃ (fp : Nat) (slot : Nat),
      (fp < 256) ∧ (slot < 192)) ∧
    (∃ (fp : Nat) (slot : Nat) (fp' : Nat) (slot' : Nat),
      (slot < 192) ∧ (slot' < 192) ∧ (gsOf fp slot = gsOf fp' slot')) ∧
    (∃ (g : Nat),
      (g ≤ 49151)) :=
  ⟨⟨255, 191, by decide +kernel, by decide +kernel⟩,
   ⟨255, 191, 255, 191, by decide +kernel, by decide +kernel, by decide +kernel⟩,
   ⟨49151, by decide +kernel⟩⟩

/-- States and operands that meet the hypotheses of each clause of Obligations.SwapRenewsStaged. -/
theorem witness_SwapRenewsStaged :
    (∃ (s : State) (t : State) (j : CommitJob),
      (t = swapPage s j) ∧ (j.parts.length ≤ 1)) ∧
    (∃ (s : State) (t : State) (j : CommitJob),
      (t = swapPage s j) ∧ (1 < j.parts.length)) :=
  ⟨⟨soloState, _, jobNow, rfl, by decide +kernel⟩,
   ⟨soloState, _, { jobNow with parts := [Page.empty, Page.empty] }, rfl, by decide +kernel⟩⟩

/-- A state and operands that meet the hypotheses of Obligations.SelectorPriority. -/
theorem witness_SelectorPriority :
    (∃ (m : State) (s : State) (t : Tier) (i : Nat) (e : Word64) (old : SelState) (x : SelState) (req : Nat),
      (x = evalSel m s t i e old) ∧ (req = (match extHeld s (selKey t i) with | some h => h.req.toNat | none => 0))) :=
  ⟨soloState, soloState, .ds0, 0, 0, {}, _, _, rfl, rfl⟩

/-- States and operands that meet the hypotheses of each clause of Obligations.AuditHigh. -/
theorem witness_AuditHigh :
    (∃ (s : State) (a : Audit),
      (s.bel.auditHigh = false) ∧ (s.bel.auditRead + 3072 < a.seq + 1)) ∧
    (∃ (s : State) (a : Audit),
      (s.bel.auditHigh = true ∨ a.seq + 1 ≤ s.bel.auditRead + 3072)) ∧
    (∃ (s : State) (first : Nat) (n : Nat),
      (s.bel.auditRead ≤ auditNewest s + 1)) :=
  ⟨⟨soloState, { anAudit with seq := 3072 }, by decide +kernel, by decide +kernel⟩,
   ⟨soloState, { anAudit with seq := 3071 }, by decide +kernel⟩,
   ⟨soloState, 0, 1, by decide +kernel⟩⟩

/-- A state and operands that meet the hypotheses of Obligations.ColdReset. -/
theorem witness_ColdReset :
    (∃ (s : State) (t : State) (cause : Nat),
      (cause < 256) ∧ (t = assertCold cause s)) :=
  ⟨soloState, _, 255, by decide +kernel, rfl⟩

/-- A state and operands that meet the hypotheses of Obligations.WarmReset. -/
theorem witness_WarmReset :
    (∃ (s : State) (t : State) (cause : Nat),
      (s.rst.phase = .running) ∧ (t = assertWarm cause s)) :=
  ⟨soloState, _, 5, by decide +kernel, rfl⟩

/-- A state and operands that meet the hypotheses of Obligations.CounterWraps. -/
theorem witness_CounterWraps :
    (∃ (b : Nat) (c : Nat) (n : Nat) (s : State) (t : State) (w : Word64) (v : Word64),
      (t = bump b c n s) ∧ (w = tget 0 s.bel.ctr (4 * b + c)) ∧ (v = tget 0 t.bel.ctr (4 * b + c))) :=
  ⟨0, 0, 1, soloState, _, _, _, rfl, rfl, rfl⟩

/-- States and operands that meet the hypotheses of each clause of Obligations.EventQueue. -/
theorem witness_EventQueue :
    (∃ (code : Byte) (fn : FN) (p : BitVec 160) (s : State) (t : State),
      (t = postAt code fn p s) ∧ (entered s = false)) ∧
    (∃ (code : Byte) (fn : FN) (p : BitVec 160) (s : State) (t : State),
      (t = postAt code fn p s) ∧ (entered s = true) ∧ (s.host.evtQ.length < 8192)) ∧
    (∃ (code : Byte) (fn : FN) (p : BitVec 160) (s : State) (t : State),
      (t = postAt code fn p s) ∧ (entered s = true) ∧ (8192 ≤ s.host.evtQ.length) ∧ (s.host.lost = none)) ∧
    (∃ (code : Byte) (fn : FN) (p : BitVec 160) (s : State) (t : State) (n : Nat) (l : Lost),
      (t = postAt code fn p s) ∧ (entered s = true) ∧ (8192 ≤ s.host.evtQ.length) ∧ (s.host.lost = some (n, l))) :=
  ⟨⟨1, 0, 0, State.reset, _, rfl, by decide +kernel⟩,
   ⟨1, 0, 0, soloState, _, rfl, by decide +kernel, by decide +kernel⟩,
   ⟨1, 0, 0, fullQueue, _, rfl, by decide +kernel, by decide +kernel, by decide +kernel⟩,
   ⟨1, 0, 0, { fullQueue with host := { fullQueue.host with lost := some (3, ⟨0, .solo, 1, 0, 0⟩) } }, _, _, _, rfl, by decide +kernel, by decide +kernel, rfl⟩⟩

/-- A state and operands that meet the hypotheses of Obligations.CompletionFrame. -/
theorem witness_CompletionFrame :
    (∃ (s : State) (t : State) (q : Cpl) (rest : List Cpl),
      (s.host.cplQ = q :: rest) ∧ (ringTakes s s.host.cpl = true) ∧ (exec .completionWrite s = .next t)) :=
  ⟨cplState, _, _, _, rfl, by decide +kernel, rfl⟩

/-- A state and operands that meet the hypotheses of Obligations.I2cSilent. -/
theorem witness_I2cSilent :
    (∃ (s : State),
      (s.rst.phase = .coldAsserted)) :=
  ⟨State.reset, by decide +kernel⟩


end Sys2Proof.Tests
end

section
/-! The global slot number (R5), the page across the operations that a swap is made of, and the rows of FRAME_START, COMMIT_SWAP,
HOLD_OFF_EXPIRY and WTR_EXPIRY. -/
namespace Sys2Proof.Proofs
open Machine

-- The global slot number (R5).

/-- The port of a global slot number is its quotient by the 192 slots of a port. -/
theorem gsOf_div (fp slot : Nat) (h : slot < 192) : gsOf fp slot / 192 = fp := by
  unfold gsOf; omega

/-- The slot of a global slot number is its remainder. -/
theorem gsOf_mod (fp slot : Nat) (h : slot < 192) : gsOf fp slot % 192 = slot := by
  unfold gsOf; omega

theorem gsOf_div_mod (g : Nat) : gsOf (g / 192) (g % 192) = g := Nat.div_add_mod g 192

theorem gsOf_le (fp slot : Nat) (hf : fp < 256) (hs : slot < 192) : gsOf fp slot ≤ 49151 := by
  unfold gsOf; omega

/-- Settles O50: division by 192 takes a global slot number apart again. -/
theorem globalSlot : Obligations.GlobalSlot := by
  refine ⟨fun fp slot => ?_, gsOf_le, fun fp slot fp' slot' h h' heq => ⟨?_, ?_⟩, fun g hg => ?_⟩
  · rw [gsOf, Nat.mul_comm]
  · rw [← gsOf_div fp slot h, heq, gsOf_div fp' slot' h']
  · rw [← gsOf_mod fp slot h, heq, gsOf_mod fp' slot' h']
  · exact ⟨g / 192, g % 192, by omega, Nat.mod_lt _ (by decide), gsOf_div_mod g⟩

-- The operations of a swap keep the pages that it has put in force.

/-- A fold of steps that each keep the pages keeps them. -/
theorem foldl_page {α : Type} {f : State → α → State} (hf : ∀ s x, (f s x).page = s.page) (l : List α) (s : State) :
    (l.foldl f s).page = s.page :=
  List.foldlRecOn l f (motive := fun t => t.page = s.page) rfl fun t ht x _ => (hf t x).trans ht

@[simp] theorem postAt_page (code : Byte) (fn : FN) (p : BitVec 160) (s : State) : (postAt code fn p s).page = s.page := by
  unfold postAt
  split
  · rfl
  · dsimp only
    split
    · split <;> rfl
    · split <;> rfl

@[simp] theorem post_page (code : Byte) (fs : List Field) (s : State) : (post code fs s).page = s.page := postAt_page ..

@[simp] theorem obsNote_page (b who fp : Nat) (s : State) : (obsNote b who fp s).page = s.page := post_page ..

@[simp] theorem protNote_page (kind obj leg req idx : Nat) (s : State) : (protNote kind obj leg req idx s).page = s.page :=
  post_page ..

@[simp] theorem auditAdd_page (a : Audit) (s : State) : (auditAdd a s).page = s.page := by
  unfold auditAdd
  dsimp only
  split
  · exact obsNote_page ..
  · rfl

@[simp] theorem recordDue_page (k : JKind) (as : List Audit) (s : State) : (recordDue k as s).page = s.page := rfl

@[simp] theorem removeExt_page (t : Tier) (i : Nat) (reported : Bool) (s : State) : (removeExt t i reported s).page = s.page := by
  unfold removeExt
  cases extHeld s (selKey t i) with
  | none => rfl
  | some x => cases reported <;> simp

@[simp] theorem discardPending_page (t : Tier) (i : Nat) (s : State) : (discardPending t i s).page = s.page := rfl

@[simp] theorem markMoved_page (t : Tier) (i : Nat) (s : State) : (markMoved t i s).page = s.page := by
  unfold markMoved
  cases sliceOf t i <;> rfl

@[simp] theorem putDefect_page (cls obj b : Nat) (on : Bool) (s : State) : (putDefect cls obj b on s).page = s.page := by
  unfold putDefect
  dsimp only
  split <;> rfl

@[simp] theorem putSet_page (k : Nat) (w : Word64) (s : State) : (putSet k w s).page = s.page :=
  foldl_page (fun _ _ => putDefect_page ..) _ _

@[simp] theorem pruneDefects_page (old : Page) (s : State) : (pruneDefects old s).page = s.page :=
  foldl_page (fun _ _ => putSet_page ..) _ _

@[simp] theorem swapTier_page (old : Page) (t : Tier) (s : State) : (swapTier old t s).page = s.page := by
  refine foldl_page (fun s i => ?_) _ _
  dsimp only
  split
  · simp
  · split <;> simp

@[simp] theorem swapSelectors_page (old : Page) (s : State) : (swapSelectors old s).page = s.page := by
  simp [swapSelectors]

@[simp] theorem countSwap_page (old : Page) (s : State) : (countSwap old s).page = s.page := by
  unfold countSwap
  refine (foldl_page (fun s x => ?_) _ _).trans ?_
  · split <;> rfl
  · simp only [foldl_page (fun _ _ => bump_page ..)]

@[simp] theorem countLegs_page (before s : State) : (countLegs before s).page = s.page := by
  simp only [countLegs, foldl_page (fun _ _ => bump_page ..)]

@[simp] theorem markChanged_page (old : Page) (s : State) : (markChanged old s).page = s.page := by
  simp only [markChanged, foldl_page (fun _ _ => markMoved_page ..)]

@[simp] theorem pmSwap_page (old s : State) : (pmSwap old s).page = s.page := by
  refine foldl_page (fun s k => ?_) _ _
  dsimp only
  split <;> rfl

@[simp] theorem evalMismatch_page (s : State) : (evalMismatch s).page = s.page := by
  simp only [evalMismatch, foldl_page (fun _ _ => putDefect_page ..)]

/-- What follows a new live page forgets the items lost to memory errors, and changes nothing else of the pages. -/
@[simp] theorem liveChanged_page (before s : State) : (liveChanged before s).page = { s.page with lost := [] } := by
  simp [liveChanged]

/-- The part's page becomes live, with the epoch one higher (R89). -/
theorem swapPage_live (s : State) (j : CommitJob) :
    (swapPage s j).page.live = { j.parts.headD s.page.staged with epoch := s.page.live.epoch + 1 } := by
  simp only [swapPage, countLegs_page, liveChanged_page]

-- FRAME_START (R228).

theorem exec_frameStart (s : State) : exec .frameStart s = .next (irqEdge s (frameStart s)) := rfl

/-- Where frames run, the frame begins (R228). -/
theorem frameStart_runs {s t : State} (ht : t = tickReset { groupTxFrame s with tx := [] }) (h : framesRun t = true) :
    frameStart s = beginFrame t := by
  subst ht
  exact if_pos h

/-- Where frames do not run, only the TOD advances (R33). -/
theorem frameStart_stands {s t : State} (ht : t = tickReset { groupTxFrame s with tx := [] }) (h : framesRun t = false) :
    frameStart s = todFrame { t with clk := { t.clk with start := [] } } := by
  subst ht
  exact if_neg (by simp [h])

/-- With no TOD step named for this frame, the TOD counts 125 µs (R174) and neither the pages nor FN change. -/
theorem todFrame_counts {s : State} (h : ∀ x ∈ s.clk.todStep, x.1 ≠ s.clk.fn) :
    (todFrame s).page = s.page ∧ (todFrame s).clk.fn = s.clk.fn ∧
      (todFrame s).clk.todNs = BitVec.ofNat 32 ((s.clk.todNs.toNat + 125000) % 1000000000) := by
  have hnone : s.clk.todStep.filter (·.1 == s.clk.fn) = [] := by
    simpa [List.filter_eq_nil_iff] using h
  simp [todFrame, hnone]

-- COMMIT_SWAP (R89).

theorem exec_commitSwap (s : State) : exec .commitSwap s = .next (irqEdge s (runStep .swap swapDue commitSwap s)) := rfl

/-- A step of the frame's start that is due and whose condition stands is carried out, and the frame sends after the last. -/
theorem runStep_due {x : StartStep} {due : State → Bool} {f : State → State} {s u : State} (hx : stepDue x s = true)
    (hd : due s = true) (hu : u = stepDone x (f s)) :
    runStep x due f s = if u.clk.start.isEmpty then frameSends u else u := by
  subst hu
  simp only [runStep, hx, hd, Bool.not_true, Bool.false_eq_true, if_false, if_true]

/-- The power domains that the live page of a state needs are on (R262). -/
def powerNeeded (s : State) : State :=
  { s with pwr := { s.pwr with dom := (neededDomains s.page.live).foldl (fun m d => tset .off m d .on) s.pwr.dom } }

/-- A swap at its frame (R89, R91); only a standby sees to the power of the page first (R262). -/
theorem commitSwap_due {s : State} {j : CommitJob} (hj : s.page.job = some j) (hd : swapDue s = true) :
    commitSwap s =
      let p := if s.mode.mode = .standby then powerNeeded (swapPage s j) else swapPage s j
      let s1 := tapCheck s (recordSwap j p)
      afterSwap j (evalSelectors s1 s1) := by
  simp only [commitSwap, hj, hd, Bool.not_true, Bool.false_eq_true, if_false, powerNeeded]

-- HOLD_OFF_EXPIRY and WTR_EXPIRY (R185, R186).

theorem exec_holdOffExpiry (r : Tier) (i : Nat) (l : Leg) (s : State) :
    exec (.holdOffExpiry r i l) s = .next (irqEdge s (holdOffEnds r i l s)) := rfl

theorem exec_wtrExpiry (r : Tier) (i : Nat) (s : State) : exec (.wtrExpiry r i) s = .next (irqEdge s (wtrEnds r i s)) := rfl

/-- The state of one selector is replaced. -/
def setSel (r : Tier) (i : Nat) (x : SelState) (s : State) : State :=
  { s with prot := { s.prot with sel := tset {} s.prot.sel (selKey r i) x } }

/-- An entry lost to a memory error fails both legs (R382). -/
theorem rawCond_bad {m : State} {t : Tier} {i : Nat} (s : State) (e : Word64) (x : Nat) (h : itemBad m (.liveEntry t i) = true) :
    rawCond m s t i e x = .sf := if_pos h

theorem rawCond_good {m : State} {t : Tier} {i : Nat} (s : State) (e : Word64) (x : Nat) (h : itemBad m (.liveEntry t i) = false) :
    rawCond m s t i e x = legCond m s t e x := if_neg (by simp [h])

section
variable {s : State} {r : Tier} {i : Nat} {x : SelState} {f : FN}
  (hsel : hasSelector s.page.live r i (entryAt s.page.live r i) = true) (hx : x = tget {} s.prot.sel (selKey r i))
include hsel hx

/-- A hold-off of leg A that has run its time takes the condition of the leg (R185). -/
theorem holdOffEnds_a (hf : x.hoA = some f)
    (ht : 800 * pHoldOff (profileOf s (eSncp (entryAt s.page.live r i))) ≤ (s.clk.fn - f).toNat) :
    holdOffEnds r i .a s = setSel r i
      { x with condA := rawCond s s r i (entryAt s.page.live r i) (eSrcA (entryAt s.page.live r i)), hoA := none } s := by
  subst hx
  simp only [holdOffEnds, hsel, hf, ht, decide_true, Bool.not_true, Bool.false_eq_true, if_false, if_true, setSel]

/-- A hold-off of leg B that has run its time takes the condition of the leg (R185). -/
theorem holdOffEnds_b (hf : x.hoB = some f)
    (ht : 800 * pHoldOff (profileOf s (eSncp (entryAt s.page.live r i))) ≤ (s.clk.fn - f).toNat) :
    holdOffEnds r i .b s = setSel r i
      { x with condB := rawCond s s r i (entryAt s.page.live r i) (eSrcB (entryAt s.page.live r i)), hoB := none } s := by
  subst hx
  simp only [holdOffEnds, hsel, hf, ht, decide_true, Bool.not_true, Bool.false_eq_true, if_false, if_true, setSel]

/-- A wait to restore that has run its time ends, and its request falls to none (R186). -/
theorem wtrEnds_elapsed (hf : x.wtr = some f)
    (ht : 480000 * pWtr (profileOf s (eSncp (entryAt s.page.live r i))) ≤ (s.clk.fn - f).toNat) :
    wtrEnds r i s = setSel r i { x with wtr := none, req := 9 } s := by
  subst hx
  simp only [wtrEnds, hf]
  exact if_pos ⟨hsel, ht⟩

end

/-- Settles O18: each row answers what its function answers, in the branch that the hypotheses of the clause choose. -/
theorem completesFrame : Obligations.CompletesFrame := by
  refine ⟨?start, fun s => todFrame_counts, ?stands, ?swap, ?standby, swapPage_live, ?goodA, ?badA, ?goodB, ?badB, ?wtr⟩
  case start =>
    intro s t ht hr
    rw [exec_frameStart, frameStart_runs ht hr]
  case stands =>
    intro s t ht hr
    rw [exec_frameStart, frameStart_stands ht hr]
  case swap =>
    intro s j s1 u hdue hj hd hm hs1 hu
    have hstep : u = stepDone .swap (commitSwap s) := by
      rw [hu, hs1, commitSwap_due hj hd, if_neg hm]
    rw [exec_commitSwap, runStep_due hdue hd hstep]
  case standby =>
    intro s j s1 s2 u hdue hj hd hm hs1 hs2 hu
    have hstep : u = stepDone .swap (commitSwap s) := by
      rw [hu, hs2, hs1, commitSwap_due hj hd, if_pos hm, powerNeeded]
    rw [exec_commitSwap, runStep_due hdue hd hstep]
  case goodA =>
    intro s r i x f hsel hx hf ht hgood
    rw [exec_holdOffExpiry, holdOffEnds_a hsel hx hf ht, rawCond_good _ _ _ hgood, setSel]
  case badA =>
    intro s r i x f hsel hx hf ht hbad
    rw [exec_holdOffExpiry, holdOffEnds_a hsel hx hf ht, rawCond_bad _ _ _ hbad, setSel]
  case goodB =>
    intro s r i x f hsel hx hf ht hgood
    rw [exec_holdOffExpiry, holdOffEnds_b hsel hx hf ht, rawCond_good _ _ _ hgood, setSel]
  case badB =>
    intro s r i x f hsel hx hf ht hbad
    rw [exec_holdOffExpiry, holdOffEnds_b hsel hx hf ht, rawCond_bad _ _ _ hbad, setSel]
  case wtr =>
    intro s r i x f hsel hx hf ht
    rw [exec_wtrExpiry, wtrEnds_elapsed hsel hx hf ht, setSel]

end Sys2Proof.Proofs
end

section
/-! The rules of a command of the ring (R35): when it runs nothing, what it does when a check refuses it and when it starts; and
NOP, QUERY_STATE, SET_MODE and RESET (R324 to R326). -/
namespace Sys2Proof.Proofs
open Machine

/-- A row that changes nothing ends where it began: no interrupt edge arises. -/
theorem finish_self (s : State) : finish s s = .next s := by
  simp [finish, irqEdge]

section
variable {s : State} {opcode : Byte} {row : Bool} {c : CmdEntry} {k : Checks} {body : CmdTok → State → State} {pos : Nat}
  {rest : List Fetched}

theorem runCmd_not_at_head (h : ∀ f rest, s.host.fetched = f :: rest → f.opcode ≠ opcode ∨ f.entry ≠ c) :
    runCmd opcode row c k body s = s := by
  unfold runCmd
  split
  next => rfl
  next f rest hf =>
    have hne := h f rest hf
    exact if_pos (by simp [hne])

theorem runCmd_not_begun (h : mayBegin s = false) : runCmd opcode row c k body s = s := by
  unfold runCmd
  split
  next => rfl
  next => exact if_pos (by simp [h])

theorem not_held_back (hw : k.waits = true → waitingCount s < 64) : (k.waits && decide (64 ≤ waitingCount s)) = false :=
  Bool.and_eq_false_imp.2 fun h => by simpa using hw h

theorem runCmd_refused {st obj : Byte} {result : Word64}
    (hf : s.host.fetched = { opcode := opcode, entry := c, pos := pos } :: rest) (hm : mayBegin s = true)
    (hw : k.waits = true → waitingCount s < 64) (hv : verdict s c k = some (st, obj, result)) :
    runCmd opcode true c k body s = drainBad (complete (tokenOf opcode c pos) st obj result s) rest := by
  have hw' := not_held_back hw
  simp [runCmd, hf, hm, hw', hv, tokenOf]

theorem runCmd_starts (h : Starts s opcode c k pos rest) :
    runCmd opcode true c k body s = ended rest (body (tokenOf opcode c pos) s) := by
  obtain ⟨hf, hm, hw, hv, hp, hb, hh⟩ := h
  have hw' := not_held_back hw
  have hheld : ((k.pfwWaits && s.pwr.pfw) || (k.buffer && !linkUsable s)) = false :=
    Bool.or_eq_false_iff.2 ⟨Bool.and_eq_false_imp.2 hp, Bool.and_eq_false_imp.2 fun h => by simp [hb h]⟩
  simp only [runCmd, hf, hm, hw', hv, hheld, hh, ne_eq, not_true_eq_false, decide_false, Bool.or_self, Bool.not_true,
    Bool.false_eq_true, if_false]
  rfl

end

-- What the checks of R35 answer.

theorem verdict_badLength {s : State} {c : CmdEntry} {k : Checks} (h : c.len.toNat ∉ k.lens) :
    verdict s c k = some (stBadLength, 0, 0) := by
  unfold verdict
  exact if_pos (by simpa using h)

/-- The checks before the mode come first, and the mode refuses what they let through. -/
theorem verdict_wrongMode {s : State} {c : CmdEntry} {k : Checks} (h : s.mode.mode ∉ k.modes) :
    ∃ st result, (st = stBadLength ∨ st = stBadArgument ∨ st = stWrongMode) ∧ verdict s c k = some (st, 0, result) := by
  unfold verdict
  split
  · exact ⟨_, _, .inl rfl, rfl⟩
  · split
    · exact ⟨_, _, .inr (.inl rfl), rfl⟩
    · split
      · exact ⟨_, _, .inl rfl, rfl⟩
      · exact ⟨_, _, .inr (.inr rfl), if_pos (by simp [h])⟩

-- The rows of the ring.

theorem timingChecks_lens_status {s : State} {c : CmdEntry} {names bad waits : Bool} (h : (arg c 0 1 == 0) = true) :
    (timingChecks s c names bad waits).lens = [8, 24] :=
  if_pos (by simpa using h)

theorem timingChecks_lens_action {s : State} {c : CmdEntry} {names bad waits : Bool} {n : Nat} (hn : n ≠ 0)
    (h : (arg c 0 1 == n) = true) : (timingChecks s c names bad waits).lens = [8] :=
  if_neg (by rw [eq_of_beq h]; exact hn)

theorem softWordChecks_lens {s : State} {c : CmdEntry} (h : (arg c 0 1 == 11) = true) : (softWordChecks s c).lens = [8] :=
  show (timingChecks s c false (decide (s.tim.dpll ≠ 4)) false).lens = [8] from timingChecks_lens_action (by decide) h

/-- Every command of the ring runs under the checks of R35, with the LEN values of chapter 13 (where its action selects its
row: TIMING_CONTROL takes LEN 24 with STATUS alone) and the modes of R34. -/
theorem exec_ringRow {i : Instr} {r : RingRow} (hr : ringRow i = some r) (s : State) :
    ∃ k body, exec i s = finish s (runCmd r.opcode r.fits r.entry k body s) ∧ (r.fits = true → k.lens = r.lens) ∧
      k.modes = r.modes := by
  cases i <;> cases hr
  case timingStatus => exact ⟨_, _, rfl, timingChecks_lens_status, rfl⟩
  case timingLockout | timingClearLockout | timingForce | timingClearForce | clearWtr | historyClear | forceHoldover |
      forceFreeRun | forceClear | softEnter | softExit =>
    exact ⟨_, _, rfl, timingChecks_lens_action (by decide), rfl⟩
  case softWord => exact ⟨_, _, rfl, softWordChecks_lens, rfl⟩
  all_goals exact ⟨_, _, rfl, fun _ => rfl, rfl⟩

/-- A command of the ring that a check refuses completes, and nothing else of the module changes (R35). -/
theorem exec_ring_refused {i : Instr} {r : RingRow} {s : State} {pos : Nat} {rest : List Fetched} {k : Checks}
    {body : CmdTok → State → State} {st obj : Byte} {result : Word64}
    (hi : exec i s = finish s (runCmd r.opcode r.fits r.entry k body s)) (hfit : r.fits = true)
    (hf : s.host.fetched = { opcode := r.opcode, entry := r.entry, pos := pos } :: rest) (hm : mayBegin s = true)
    (hw : waitingCount s < 64) (hv : verdict s r.entry k = some (st, obj, result)) :
    exec i s = .next (irqEdge s (drainBad (complete (tokenOf r.opcode r.entry pos) st obj result s) rest)) := by
  rw [hi, hfit, runCmd_refused hf hm (fun _ => hw) hv, finish]

/-- Settles O43: the LEN is the first thing that R35 checks. -/
theorem wrongLength : Obligations.WrongLength := by
  intro i r s pos rest hr hfit hf hm hw hlen
  obtain ⟨k, body, hi, hlens, -⟩ := exec_ringRow hr s
  exact exec_ring_refused hi hfit hf hm hw (verdict_badLength (hlens hfit ▸ hlen))

/-- Settles O44: a check before the mode refuses the command, or the mode does. -/
theorem wrongMode : Obligations.WrongMode := by
  intro i r s pos rest hr hfit hf hm hw hmode
  obtain ⟨k, body, hi, -, hmodes⟩ := exec_ringRow hr s
  obtain ⟨st, result, hst, hv⟩ := verdict_wrongMode (hmodes ▸ hmode)
  exact ⟨st, result, hst, exec_ring_refused hi hfit hf hm hw hv⟩

/-- Settles O45: a command whose entry is not at the head runs nothing. -/
theorem notAtHead : Obligations.NotAtHead := by
  intro i r s hr h
  obtain ⟨k, body, hi, -, -⟩ := exec_ringRow hr s
  rw [hi, runCmd_not_at_head h, finish_self]

/-- Settles O46: where no command may begin, none runs. -/
theorem nothingBeginsInReset : Obligations.NothingBeginsInReset := by
  intro i r s hr h
  obtain ⟨k, body, hi, -, -⟩ := exec_ringRow hr s
  rw [hi, runCmd_not_begun h, finish_self]

-- NOP, QUERY_STATE, SET_MODE and RESET (R324 to R326).

/-- A buffer whose pieces the descriptor gives is written before the command goes on (R304). -/
theorem withWrite_ok {tok : CmdTok} {d : BitVec 128} {ok : Nat → Bool} {bs : Bytes} {go : State → State} {s : State}
    {segs : List (Nat × Nat)} (h : segments s d true ok = .ok segs) :
    withWrite tok d ok bs go s = go { s with host := { s.host with mem := writeSegs segs 0 bs s.host.mem } } := by
  unfold withWrite
  rw [h]

theorem keyWarm_ne_keyCold : keyWarm ≠ keyCold := by decide

/-- Settles O1: each command, once it starts, leaves what its body leaves. -/
theorem completesMode : Obligations.CompletesMode := by
  refine ⟨?nop, ?query, ?queryBlock, ?setMode, ?sameMode, ?cold, ?warm⟩
  case nop =>
    intro s c pos rest h
    rw [exec, execNop, runCmd_starts h, finish]
  case query =>
    intro s c pos rest h hlen
    rw [exec, execQueryState, runCmd_starts h, if_neg hlen, finish]
  case queryBlock =>
    intro s c pos rest segs t h hlen hseg ht
    rw [exec, execQueryState, runCmd_starts h, if_pos hlen, withWrite_ok hseg, ← ht, finish]
  case setMode =>
    intro s c pos rest h hm
    rw [exec, execSetMode, runCmd_starts h, if_neg hm, finish]
  case sameMode =>
    intro s c pos rest h hm
    rw [exec, execSetMode, runCmd_starts h, if_pos hm, finish]
  case cold =>
    intro s c pos rest h hk
    rw [exec, execReset, runCmd_starts h, if_pos hk, finish]
  case warm =>
    intro s c pos rest h hk
    rw [exec, execReset, runCmd_starts h, if_neg (hk ▸ keyWarm_ne_keyCold), finish]

end Sys2Proof.Proofs
end

section
/-! No operation of the model touches the queue of rows: one lemma for each, in the order of the model's files; then every row
answers a next state and leaves the queue to the step. -/
namespace Sys2Proof.Proofs
open Machine

@[simp] theorem ite_pending (c : Prop) [Decidable c] (a b : State) :
    (if c then a else b).pending = if c then a.pending else b.pending := apply_ite State.pending c a b

/-- A fold of steps that each keep the queue keeps it. -/
@[simp] theorem foldl_pending {α : Type} {f : State → α → State} (hf : ∀ s x, (f s x).pending = s.pending) (l : List α)
    (s : State) : (l.foldl f s).pending = s.pending :=
  List.foldlRecOn l f (motive := fun t => t.pending = s.pending) rfl fun t ht x _ => (hf t x).trans ht

section
variable (s : State)

@[simp] theorem sendMsix_pending : (sendMsix s).pending = s.pending := by simp [sendMsix]
@[simp] theorem irqEdge_pending (s s' : State) : (irqEdge s s').pending = s'.pending := by simp [irqEdge]

-- Machine/Ops.lean.

@[simp] theorem noteHeld_pending (old : State) : (noteHeld old s).pending = s.pending := by simp [noteHeld]

@[simp] theorem postAt_pending (code : Byte) (fn : FN) (payload : BitVec 160) :
    (postAt code fn payload s).pending = s.pending := by
  simp only [postAt]
  repeat' split
  all_goals simp

@[simp] theorem post_pending (code : Byte) (fs : List Field) : (post code fs s).pending = s.pending := by simp [post]
@[simp] theorem twinNote_pending (b : Nat) : (twinNote b s).pending = s.pending := by simp [twinNote]
@[simp] theorem grpNote_pending (b : Nat) (m : Option Nat) : (grpNote b m s).pending = s.pending := by simp [grpNote]
@[simp] theorem updNote_pending (b reason : Nat) (version : Word32) :
    (updNote b reason version s).pending = s.pending := by simp [updNote]
@[simp] theorem envNote_pending (g b : Nat) : (envNote g b s).pending = s.pending := by simp [envNote]
@[simp] theorem secNote_pending (b port : Nat) : (secNote b port s).pending = s.pending := by simp [secNote]
@[simp] theorem obsNote_pending (b who : Nat) (fp : Nat) : (obsNote b who fp s).pending = s.pending := by simp [obsNote]
@[simp] theorem journalNote_pending (kind seq : Nat) : (journalNote kind seq s).pending = s.pending := by
  simp [journalNote]
@[simp] theorem protNote_pending (kind obj leg req idx : Nat) :
    (protNote kind obj leg req idx s).pending = s.pending := by simp [protNote]

@[simp] theorem completeOpt_pending (tok : Option CmdTok) (status obj : Byte) (result : Word64) :
    (completeOpt tok status obj result s).pending = s.pending := by
  unfold completeOpt
  split <;> simp

@[simp] theorem completeOk_pending (tok : CmdTok) (fs : List Field) : (completeOk tok fs s).pending = s.pending := by
  simp [completeOk]
@[simp] theorem refuse_pending (tok : CmdTok) (status : Byte) (fs : List Field) :
    (refuse tok status fs s).pending = s.pending := by simp [refuse]
@[simp] theorem hostFail_pending (tok : CmdTok) (fs : List Field) : (hostFail tok fs s).pending = s.pending := by
  simp [hostFail]
@[simp] theorem auditAdd_pending (a : Audit) : (auditAdd a s).pending = s.pending := by simp [auditAdd]
@[simp] theorem recordDue_pending (kind : JKind) (audits : List Audit) :
    (recordDue kind audits s).pending = s.pending := by simp [recordDue]
@[simp] theorem configRecord_pending : (configRecord s).pending = s.pending := by simp [configRecord]
@[simp] theorem modeChange_pending (old : Mode) (fn : FN) : (modeChange old fn s).pending = s.pending := by
  simp [modeChange]
@[simp] theorem toMode_pending (m : Mode) (sync : BitVec 3) : (toMode m sync s).pending = s.pending := by simp [toMode]
@[simp] theorem drawRandom_pending : (drawRandom s).2.pending = s.pending := by simp [drawRandom]
@[simp] theorem send_pending (m : TxMsg) : (send m s).pending = s.pending := by simp [send]
@[simp] theorem sendMate_pending (chan : Nat) (payload : Bytes) : (sendMate chan payload s).pending = s.pending := by
  simp [sendMate]

@[simp] theorem sendGroup_pending (type : Nat) (payload : Bytes) : (sendGroup type payload s).pending = s.pending := by
  unfold sendGroup
  split <;> simp

-- Machine/Operands.lean.

@[simp] theorem bufferEnd_pending (tok : CmdTok) (e : Byte) (fs : List Field) :
    (bufferEnd tok e fs s).pending = s.pending := by simp [bufferEnd]

@[simp] theorem withRead_pending (tok : CmdTok) (d : BitVec 128) (ok : Nat → Bool) (fs : Byte → List Field)
    (go : Bytes → State → State) (s : State) (hgo : ∀ bs s, (go bs s).pending = s.pending) :
    (withRead tok d ok fs go s).pending = s.pending := by
  unfold withRead
  split
  · simp
  · exact hgo ..

@[simp] theorem withWrite_pending (tok : CmdTok) (d : BitVec 128) (ok : Nat → Bool) (bs : Bytes) (go : State → State)
    (s : State) (hgo : ∀ s, (go s).pending = s.pending) : (withWrite tok d ok bs go s).pending = s.pending := by
  unfold withWrite
  split
  · simp
  · exact hgo ..

@[simp] theorem drainBad_pending (s : State) (fs : List Fetched) : (drainBad s fs).pending = s.pending := by
  induction fs generalizing s with
  | nil => rfl
  | cons f fs ih =>
    unfold drainBad
    split
    · exact ih _
    · rfl

@[simp] theorem runCmd_pending (opcode : Byte) (row : Bool) (c : CmdEntry) (k : Checks) (body : CmdTok → State → State)
    (s : State) (hb : ∀ tok s, (body tok s).pending = s.pending) (hw : ∀ t, k.hold = some t → t.pending = s.pending) :
    (runCmd opcode row c k body s).pending = s.pending := by
  unfold runCmd
  split
  · rfl
  · split
    · rfl
    · split
      · rfl
      · dsimp only
        split
        · simp
        · split
          · rfl
          · split
            · exact hw _ ‹_›
            · simp [hb]

-- Machine/Selectors.lean.

@[simp] theorem removeExt_pending (t : Tier) (i : Nat) (reported : Bool) :
    (removeExt t i reported s).pending = s.pending := by
  unfold removeExt
  split <;> simp

@[simp] theorem markMoved_pending (t : Tier) (i : Nat) : (markMoved t i s).pending = s.pending := by
  unfold markMoved
  split <;> simp

@[simp] theorem stepSel_pending (m : State) (t : Tier) (x : Nat × Word64) : (stepSel m t s x).pending = s.pending := by
  simp only [stepSel]
  repeat' split
  all_goals simp

@[simp] theorem evalSelectors_pending (m : State) : (evalSelectors m s).pending = s.pending := by simp [evalSelectors]
@[simp] theorem holdTimers_pending (m : State) (x : Nat × Word64) : (holdTimers m s x).pending = s.pending := by
  simp [holdTimers]
@[simp] theorem discardPending_pending (t : Tier) (i : Nat) : (discardPending t i s).pending = s.pending := by
  simp [discardPending]
@[simp] theorem swapTier_pending (old : Page) (t : Tier) : (swapTier old t s).pending = s.pending := by simp [swapTier]
@[simp] theorem swapSelectors_pending (old : Page) : (swapSelectors old s).pending = s.pending := by
  simp [swapSelectors]

-- Machine/Defects.lean.

@[simp] theorem markDirty_pending (k : Nat) : (markDirty k s).pending = s.pending := by simp [markDirty]
@[simp] theorem putDefect_pending (cls obj b : Nat) (on : Bool) : (putDefect cls obj b on s).pending = s.pending := by
  simp [putDefect]
@[simp] theorem putSet_pending (k : Nat) (w : Word64) : (putSet k w s).pending = s.pending := by simp [putSet]
@[simp] theorem suppress_pending : (suppress s).pending = s.pending := by simp [suppress]
@[simp] theorem changeDefect_pending (cls obj b : Nat) (on : Bool) :
    (changeDefect cls obj b on s).pending = s.pending := by simp [changeDefect]
@[simp] theorem evalMismatch_pending : (evalMismatch s).pending = s.pending := by simp [evalMismatch]

@[simp] theorem evalTim_pending (cls obj : Nat) : (evalTim cls obj s).pending = s.pending := by
  unfold evalTim
  split <;> simp

@[simp] theorem evalBands_pending (cls obj : Nat) : (evalBands cls obj s).pending = s.pending := by
  unfold evalBands
  split <;> simp

-- Machine/Pm.lean.

@[simp] theorem putPm_pending (k : Nat) (o : PmObj) : (putPm k o s).pending = s.pending := by simp [putPm]
@[simp] theorem announceBuf_pending (b : PmBuf) : (announceBuf b s).pending = s.pending := by simp [announceBuf]
@[simp] theorem writeRecord_pending (bs : Bytes) (b : PmBuf) (rest : List PmBuf) :
    (writeRecord bs b rest s).pending = s.pending := by simp [writeRecord]

@[simp] theorem emitRecord_pending (kind cls obj : Nat) (c : PmCounts) :
    (emitRecord kind cls obj c s).pending = s.pending := by
  unfold emitRecord
  repeat' split
  all_goals simp

@[simp] theorem pmFinal_pending (cls obj : Nat) : (pmFinal cls obj s).pending = s.pending := by
  simp only [pmFinal]
  repeat' split
  all_goals simp

@[simp] theorem closeBin_pending (cls obj : Nat) (day : Bool) (next : PmCounts) :
    (closeBin cls obj day next s).pending = s.pending := by simp [closeBin]
@[simp] theorem pmClose_pending (cls obj : Nat) (day : Bool) : (pmClose cls obj day s).pending = s.pending := by
  simp [pmClose]

@[simp] theorem pmTimeout_pending : (pmTimeout s).pending = s.pending := by
  unfold pmTimeout
  split <;> simp

@[simp] theorem measure_pending (start : Nat) (v : State) (m : PmMeas) :
    (Machine.measure start v s m).pending = s.pending := by simp [Machine.measure]
@[simp] theorem secondEnd_pending (ms : List PmMeas) : (secondEnd ms s).pending = s.pending := by simp [secondEnd]
@[simp] theorem stepBins_pending (sec : Nat) (x : Nat × PmObj) : (stepBins sec s x).pending = s.pending := by
  simp [stepBins]
@[simp] theorem pmSwap_pending (old : State) : (pmSwap old s).pending = s.pending := by simp [pmSwap]
@[simp] theorem failedFrame_pending : (failedFrame s).pending = s.pending := by simp [failedFrame]
@[simp] theorem stepTod_pending (sec : FN) (ns : Word32) : (stepTod sec ns s).pending = s.pending := by simp [stepTod]

-- Machine/Commit.lean.

@[simp] theorem internalMsg_pending : (internalMsg s).2.pending = s.pending := by simp [internalMsg]
@[simp] theorem sendCommitMsg_pending (type : Nat) (payload : Bytes) :
    (sendCommitMsg type payload s).pending = s.pending := by simp [sendCommitMsg]
@[simp] theorem mirrorStaged_pending : (mirrorStaged s).pending = s.pending := by simp [mirrorStaged]
@[simp] theorem setJob_pending (j : Option CommitJob) : (setJob j s).pending = s.pending := by simp [setJob]
@[simp] theorem openPage_pending : (openPage s).pending = s.pending := by simp [openPage]

@[simp] theorem endCommit_pending (status : Byte) (obj : Byte) (r : Word64) :
    (endCommit status obj r s).pending = s.pending := by
  unfold endCommit
  split <;> simp

@[simp] theorem stopCommit_pending (status : Byte) : (stopCommit status s).pending = s.pending := by
  unfold stopCommit
  split <;> simp

@[simp] theorem deferJob_pending (schedule : Bool) (j : CommitJob) : (deferJob schedule s j).pending = s.pending := by
  simp [deferJob]

@[simp] theorem resolveOnce_pending (status : Byte) (schedule : Bool) :
    (resolveOnce status schedule s).pending = s.pending := by
  unfold resolveOnce
  split <;> simp

@[simp] theorem resolveLate_pending (n : Nat) (s : State) : (resolveLate n s).pending = s.pending := by
  induction n generalizing s with
  | zero => rfl
  | succ n ih => simp [resolveLate, ih]

@[simp] theorem resolveCause_pending (status : Byte) (schedule : Bool) :
    (resolveCause status schedule s).pending = s.pending := by simp [resolveCause]
@[simp] theorem abortOne_pending (cause : Nat) (j : CommitJob) : (abortOne cause j s).pending = s.pending := by
  simp [abortOne]
@[simp] theorem sendAbort_pending (cause : Nat) (j : CommitJob) : (sendAbort cause j s).pending = s.pending := by
  simp [sendAbort]

@[simp] theorem abortRound_pending (cause : Nat) (status : Byte) : (abortRound cause status s).pending = s.pending := by
  unfold abortRound
  split <;> simp

@[simp] theorem checkAcks_pending : (checkAcks s).pending = s.pending := by
  unfold checkAcks
  split <;> simp

@[simp] theorem checkReady_pending : (checkReady s).pending = s.pending := by
  unfold checkReady
  split <;> simp

@[simp] theorem tryPrepare_pending : (tryPrepare s).pending = s.pending := by
  unfold tryPrepare
  split <;> simp

@[simp] theorem prepareAhead_pending (n : Nat) (s : State) : (prepareAhead n s).pending = s.pending := by
  induction n generalizing s with
  | zero => rfl
  | succ n ih =>
    unfold prepareAhead
    split
    · rfl
    · simp [ih]

@[simp] theorem prepareAll_pending : (prepareAll s).pending = s.pending := by simp [prepareAll]

@[simp] theorem tryReady_pending : (tryReady s).pending = s.pending := by
  unfold tryReady
  split <;> simp

@[simp] theorem readyAhead_pending : (readyAhead s).pending = s.pending := by
  unfold readyAhead
  split <;> simp

@[simp] theorem readyAll_pending : (readyAll s).pending = s.pending := by simp [readyAll]

@[simp] theorem solveOn_pending : (solveOn s).pending = s.pending := by
  unfold solveOn
  split <;> simp

@[simp] theorem solvedLater_pending (j : CommitJob) : (solvedLater j s).pending = s.pending := by simp [solvedLater]

@[simp] theorem solvedNow_pending : (solvedNow s).pending = s.pending := by
  simp only [solvedNow]
  repeat' split
  all_goals simp

@[simp] theorem solved_pending : (solved s).pending = s.pending := by
  unfold solved
  split <;> simp

@[simp] theorem pruneDefects_pending (old : Page) : (pruneDefects old s).pending = s.pending := by simp [pruneDefects]

@[simp] theorem countSwap_pending (old : Page) (s : State) : (countSwap old s).pending = s.pending := by
  unfold countSwap
  refine (foldl_pending (fun s x => ?_) _ _).trans ?_
  · split <;> rfl
  · simp only [foldl_pending (fun _ _ => bump_pending ..)]

@[simp] theorem countLegs_pending (before s : State) : (countLegs before s).pending = s.pending := by
  simp only [countLegs, foldl_pending (fun _ _ => bump_pending ..)]

@[simp] theorem markChanged_pending (old : Page) : (markChanged old s).pending = s.pending := by simp [markChanged]

@[simp] theorem tapCheck_pending (before s : State) : (tapCheck before s).pending = s.pending := by
  refine foldl_pending (fun s x => ?_) _ _
  split
  · rfl
  · split <;> simp

@[simp] theorem liveChanged_pending (before : State) : (liveChanged before s).pending = s.pending := by
  simp [liveChanged]
@[simp] theorem swapPage_pending (j : CommitJob) : (swapPage s j).pending = s.pending := by simp [swapPage]
@[simp] theorem commitWrites_pending (c : LateCommit) : (commitWrites c s).pending = s.pending := by simp [commitWrites]
@[simp] theorem recordSwap_pending (j : CommitJob) : (recordSwap j s).pending = s.pending := by simp [recordSwap]

@[simp] theorem commitDone_pending (bn : Nat) : (commitDone bn s).pending = s.pending := by
  unfold commitDone
  split <;> simp

@[simp] theorem afterSwap_pending (j : CommitJob) : (afterSwap j s).pending = s.pending := by simp [afterSwap]
@[simp] theorem mirrorConfig_pending : (mirrorConfig s).pending = s.pending := by simp [mirrorConfig]
@[simp] theorem dropSolution_pending : (dropSolution s).pending = s.pending := by simp [dropSolution]
@[simp] theorem stage_pending (p : Page) (items : Nat) : (stage p items s).pending = s.pending := by simp [stage]

-- Machine/ConnCmds.lean.

@[simp] theorem stageRecs_pending (tok : CmdTok) (p : Page) (rs : List StageRec) :
    (stageRecs tok p rs s).pending = s.pending := by
  unfold stageRecs
  split
  · simp
  · split <;> simp

@[simp] theorem stageBulk_pending (tok : CmdTok) (clear : Bool) (bs : Bytes) :
    (stageBulk tok clear bs s).pending = s.pending := by
  simp only [stageBulk]
  repeat' split
  all_goals simp

@[simp] theorem sealPage_pending (tok : CmdTok) (target : Nat) (flag : CommitFlag) :
    (sealPage tok target flag s).pending = s.pending := by simp [sealPage]

@[simp] theorem commitBody_pending (c : CmdEntry) (tok : CmdTok) : (commitBody c tok s).pending = s.pending := by
  unfold commitBody
  split <;> simp

@[simp] theorem discardStaged_pending : (discardStaged s).pending = s.pending := by simp [discardStaged]

@[simp] theorem cancelJob_pending : (cancelJob s).pending = s.pending := by
  unfold cancelJob
  split <;> simp

@[simp] theorem cancelCommit_pending : (cancelCommit s).pending = s.pending := by
  unfold cancelCommit
  split <;> simp

@[simp] theorem abortBody_pending (c : CmdEntry) (tok : CmdTok) : (abortBody c tok s).pending = s.pending := by
  simp [abortBody]
@[simp] theorem routeBody_pending (c : CmdEntry) (tok : CmdTok) : (routeBody c tok s).pending = s.pending := by
  simp [routeBody]

@[simp] theorem stageCarriers_pending (tok : CmdTok) (first : Nat) (rs : List (BitVec 128)) :
    (stageCarriers tok first rs s).pending = s.pending := by
  unfold stageCarriers
  split
  · simp
  · split <;> simp

@[simp] theorem quiesceRun_pending (first n : Nat) (on : Bool) : (quiesceRun first n on s).pending = s.pending := by
  simp [quiesceRun]

-- Machine/CommitRows.lean.

@[simp] theorem stepDone_pending (x : StartStep) : (stepDone x s).pending = s.pending := by simp [stepDone]

@[simp] theorem readiness_pending : (readiness s).pending = s.pending := by
  unfold readiness
  split <;> simp

@[simp] theorem toFinal_pending : (toFinal s).pending = s.pending := by simp [toFinal]

@[simp] theorem heldOver_pending : (heldOver s).pending = s.pending := by
  unfold heldOver
  split <;> simp

@[simp] theorem issuerLapse_pending : (issuerLapse s).pending = s.pending := by
  unfold issuerLapse
  split <;> simp

@[simp] theorem finalPoint_pending : (finalPoint s).pending = s.pending := by
  unfold finalPoint
  split <;> simp

@[simp] theorem commitSwap_pending : (commitSwap s).pending = s.pending := by
  unfold commitSwap
  split <;> simp

@[simp] theorem faultJournal_pending : (faultJournal s).pending = s.pending := by simp [faultJournal]
@[simp] theorem closeRecord_pending (rec : JRecord) : (closeRecord rec s).pending = s.pending := by simp [closeRecord]

@[simp] theorem journalClose_pending : (journalClose s).pending = s.pending := by
  simp only [journalClose]
  repeat' split
  all_goals simp

@[simp] theorem prepareDeadline_pending : (prepareDeadline s).pending = s.pending := by
  unfold prepareDeadline
  split <;> simp

@[simp] theorem prepareLater_pending (j : CommitJob) (m : Bytes) : (prepareLater j m s).pending = s.pending := by
  simp [prepareLater]

@[simp] theorem prepareRx_pending (slice : Nat) (unit : Bool) (m : Bytes) :
    (prepareRx slice unit m s).pending = s.pending := by
  unfold prepareRx
  split <;> simp

@[simp] theorem readyRx_pending (slice : Nat) (unit : Bool) (m : Bytes) :
    (readyRx slice unit m s).pending = s.pending := by
  unfold readyRx
  split <;> simp

@[simp] theorem readyDeadline_pending : (readyDeadline s).pending = s.pending := by
  unfold readyDeadline
  split <;> simp

@[simp] theorem commitRx_pending (m : Bytes) : (commitRx m s).pending = s.pending := by
  unfold commitRx
  split <;> simp

@[simp] theorem ackRx_pending (slice : Nat) (unit : Bool) (m : Bytes) : (ackRx slice unit m s).pending = s.pending := by
  unfold ackRx
  split <;> simp

@[simp] theorem ackDeadline_pending : (ackDeadline s).pending = s.pending := by
  unfold ackDeadline
  split <;> simp

@[simp] theorem abortRx_pending (m : Bytes) : (abortRx m s).pending = s.pending := by
  unfold abortRx
  split <;> simp

@[simp] theorem refuseRx_pending (m : Bytes) : (refuseRx m s).pending = s.pending := by
  unfold refuseRx
  split <;> simp

@[simp] theorem refuseOnWarning_pending : (refuseOnWarning s).pending = s.pending := by
  unfold refuseOnWarning
  split <;> simp

@[simp] theorem roleCause_pending : (roleCause s).pending = s.pending := by
  unfold roleCause
  split <;> simp

@[simp] theorem abortRepeat_pending : (abortRepeat s).pending = s.pending := by simp [abortRepeat]

@[simp] theorem roundRepeat_pending : (roundRepeat s).pending = s.pending := by
  unfold roundRepeat
  split <;> simp

@[simp] theorem aheadRepeat_pending : (aheadRepeat s).pending = s.pending := by
  unfold aheadRepeat
  split <;> simp

@[simp] theorem commitRepeat_pending : (commitRepeat s).pending = s.pending := by simp [commitRepeat]

-- Machine/Bus.lean.

@[simp] theorem noteAnswer_pending (a : BusAnswer) : (noteAnswer a s).pending = s.pending := by
  unfold noteAnswer
  split <;> simp

@[simp] theorem startDrain_pending (ms : List Nat) : (startDrain ms s).pending = s.pending := by simp [startDrain]

-- Machine/Dma.lean.

@[simp] theorem putCh_pending (n : Nat) (c : DmaCh) : (putCh n c s).pending = s.pending := by simp [putCh]

@[simp] theorem dmaGoOn_pending (n : Nat) : (dmaGoOn n s).pending = s.pending := by
  simp only [dmaGoOn]
  repeat' split
  all_goals simp

@[simp] theorem leaveTransfer_pending (n : Nat) : (leaveTransfer n s).pending = s.pending := by simp [leaveTransfer]
@[simp] theorem withdraw_pending (n : Nat) : (withdraw n s).pending = s.pending := by simp [withdraw]
@[simp] theorem drewDma_pending : (drewDma s).pending = s.pending := by simp [drewDma]

@[simp] theorem dmaStopOn_pending (n : Nat) : (dmaStopOn n s).pending = s.pending := by
  simp only [dmaStopOn]
  repeat' split
  all_goals simp

@[simp] theorem dmaPauseOn_pending (n : Nat) (on : Bool) : (dmaPauseOn n on s).pending = s.pending := by
  simp only [dmaPauseOn]
  repeat' split
  all_goals simp

@[simp] theorem dmaFields_pending (n : Nat) (v : Word32) : (dmaFields n v s).pending = s.pending := by simp [dmaFields]
@[simp] theorem dmaCtrlWrite_pending (n : Nat) (v : Word32) : (dmaCtrlWrite n v s).pending = s.pending := by
  simp [dmaCtrlWrite]
@[simp] theorem hostCtrlWrite_pending (n : Nat) (v : Word32) : (hostCtrlWrite n v s).pending = s.pending := by
  simp [hostCtrlWrite]
@[simp] theorem paceEvent_pending (n : Nat) : (paceEvent n s).pending = s.pending := by simp [paceEvent]
@[simp] theorem chainPace_pending (n : Nat) : (chainPace n s).pending = s.pending := by simp [chainPace]
@[simp] theorem dmaComplete_pending (n : Nat) : (dmaComplete n s).pending = s.pending := by simp [dmaComplete]
@[simp] theorem bulkBurst_pending : (bulkBurst s).pending = s.pending := by simp [bulkBurst]
@[simp] theorem ringBurst_pending (n : Nat) : (ringBurst n s).pending = s.pending := by simp [ringBurst]
@[simp] theorem burstDone_pending (n : Nat) : (burstDone n s).pending = s.pending := by simp [burstDone]
@[simp] theorem haltCh_pending (n cause : Nat) : (haltCh n cause s).pending = s.pending := by simp [haltCh]

@[simp] theorem haltRing_pending (n : Nat) : (haltRing n s).pending = s.pending := by
  unfold haltRing
  split <;> simp

@[simp] theorem lastFailure_pending (n cause : Nat) : (lastFailure n cause s).pending = s.pending := by
  unfold lastFailure
  split <;> simp

@[simp] theorem noteAer_pending : (noteAer s).pending = s.pending := by simp [noteAer]

@[simp] theorem noteError_pending (cause : Nat) : (noteError cause s).pending = s.pending := by
  unfold noteError
  split <;> simp

@[simp] theorem burstFails_pending (n cause : Nat) : (burstFails n cause s).pending = s.pending := by simp [burstFails]
@[simp] theorem stopChannels_pending (ns : List Nat) : (stopChannels ns s).pending = s.pending := by simp [stopChannels]
@[simp] theorem perstDma_pending : (perstDma s).pending = s.pending := by simp [perstDma]

-- Machine/Timing.lean.

@[simp] theorem putSlotSt_pending (i : Nat) (x : SlotState) : (putSlotSt i x s).pending = s.pending := by
  simp [putSlotSt]
@[simp] theorem timNote_pending (b : Nat) (first : Option Nat) (second : Nat) :
    (timNote b first second s).pending = s.pending := by simp [timNote]
@[simp] theorem setDpll_pending (st : BitVec 3) : (setDpll st s).pending = s.pending := by simp [setDpll]
@[simp] theorem stopTracking_pending : (stopTracking s).pending = s.pending := by simp [stopTracking]
@[simp] theorem toHoldover_pending : (toHoldover s).pending = s.pending := by simp [toHoldover]
@[simp] theorem fromXo_pending : (fromXo s).pending = s.pending := by simp [fromXo]
@[simp] theorem toFreeRun_pending : (toFreeRun s).pending = s.pending := by simp [toFreeRun]
@[simp] theorem openLoop_pending : (openLoop s).pending = s.pending := by simp [openLoop]
@[simp] theorem applyBlock_pending : (applyBlock s).pending = s.pending := by simp [applyBlock]
@[simp] theorem tickQl_pending (i : Nat) : (tickQl s i).pending = s.pending := by simp [tickQl]
@[simp] theorem tickSince_pending (i : Nat) : (tickSince s i).pending = s.pending := by simp [tickSince]
@[simp] theorem tickSample_pending : (tickSample s).pending = s.pending := by simp [tickSample]
@[simp] theorem takePhase_pending : (takePhase s).pending = s.pending := by simp [takePhase]
@[simp] theorem startTracking_pending : (startTracking s).pending = s.pending := by simp [startTracking]
@[simp] theorem refSwitch_pending (c : Nat) : (refSwitch c s).pending = s.pending := by simp [refSwitch]

@[simp] theorem actOn_pending (choice : Option Nat) : (actOn choice s).pending = s.pending := by
  unfold actOn
  repeat' split
  all_goals simp

@[simp] theorem refConflict_pending (a b : Nat) : (refConflict a b s).pending = s.pending := by
  unfold refConflict
  repeat' split
  all_goals simp

@[simp] theorem tickPairs_pending : (tickPairs s).pending = s.pending := by simp [tickPairs]
@[simp] theorem tick_pending : (tick s).pending = s.pending := by simp [tick]
@[simp] theorem failSlot_pending (i : Nat) : (failSlot i s).pending = s.pending := by simp [failSlot]
@[simp] theorem holdOffStops_pending : (holdOffStops s).pending = s.pending := by simp [holdOffStops]
@[simp] theorem condArises_pending (i b : Nat) : (condArises i b s).pending = s.pending := by simp [condArises]
@[simp] theorem condClears_pending (i b : Nat) : (condClears i b s).pending = s.pending := by simp [condClears]
@[simp] theorem resumeFrame_pending : (resumeFrame s).pending = s.pending := by simp [resumeFrame]
@[simp] theorem slotCond_pending (i b : Nat) (on : Bool) : (slotCond i b on s).pending = s.pending := by simp [slotCond]

@[simp] theorem evalSlot_pending (i : Nat) : (evalSlot s i).pending = s.pending := by
  simp only [evalSlot]
  repeat' split
  all_goals simp

@[simp] theorem evalSlots_pending : (evalSlots s).pending = s.pending := by simp [evalSlots]

@[simp] theorem refCondition_pending (i b : Nat) (on : Bool) : (refCondition i b on s).pending = s.pending := by
  unfold refCondition
  split <;> simp

@[simp] theorem refHoldOff_pending (i : Nat) : (refHoldOff i s).pending = s.pending := by
  unfold refHoldOff
  split <;> simp

@[simp] theorem refWtr_pending (i : Nat) : (refWtr i s).pending = s.pending := by
  unfold refWtr
  split <;> simp

@[simp] theorem acqFail_pending : (acqFail s).pending = s.pending := by
  unfold acqFail
  split <;> simp

@[simp] theorem lockFrame_pending : (lockFrame s).pending = s.pending := by simp [lockFrame]
@[simp] theorem dpllLocked_pending : (dpllLocked s).pending = s.pending := by simp [dpllLocked]
@[simp] theorem ssmTimeout_pending (i : Nat) : (ssmTimeout i s).pending = s.pending := by simp [ssmTimeout]
@[simp] theorem ssmAccept_pending (i : Nat) (code : BitVec 4) : (ssmAccept i code s).pending = s.pending := by
  simp [ssmAccept]

@[simp] theorem freqUpdate_pending (i : Nat) (freq : Int) : (freqUpdate i freq s).pending = s.pending := by
  simp only [freqUpdate]
  repeat' split
  all_goals simp

@[simp] theorem writeSlot_pending (i : Nat) (r : BitVec 128) : (writeSlot i r s).pending = s.pending := by
  simp [writeSlot]
@[simp] theorem timOk_pending (tok : CmdTok) : (timOk tok s).pending = s.pending := by simp [timOk]

@[simp] theorem onSlot_pending (c : CmdEntry) (tok : CmdTok) (act : State → State) (s : State)
    (hact : ∀ s, (act s).pending = s.pending) : (onSlot c tok act s).pending = s.pending := by
  simp [onSlot, hact]

@[simp] theorem clearWtr_pending (i : Nat) : (clearWtr i s).pending = s.pending := by simp [clearWtr]
@[simp] theorem dropRef_pending : (dropRef s).pending = s.pending := by simp [dropRef]
@[simp] theorem phaseFrame_pending : (phaseFrame s).pending = s.pending := by simp [phaseFrame]
@[simp] theorem rampFrame_pending : (rampFrame s).pending = s.pending := by simp [rampFrame]

-- Machine/Effects.lean.

@[simp] theorem toNormal_pending (ps : List Nat) : (toNormal ps s).pending = s.pending := by simp [toNormal]
@[simp] theorem toProtect_pending (p : Nat) (f : Nat → Word64) : (toProtect p f s).pending = s.pending := by
  simp [toProtect]

@[simp] theorem remapMoves_pending (f : FN) (was s : State) : (remapMoves f was s).pending = s.pending := by
  unfold remapMoves
  split
  · rfl
  · exact foldl_pending (fun _ _ => bump_pending ..) _ _

@[simp] theorem writeLinearNormal_pending (g : LinearCfg) : (writeLinearNormal g s).pending = s.pending := by
  simp [writeLinearNormal]
@[simp] theorem applyLinear_pending (g : LinearCfg) (st br : Nat) : (applyLinear g st br s).pending = s.pending := by
  simp [applyLinear]
@[simp] theorem applySpan_pending (r : RingCfg) (far : Nat) (east : Bool) :
    (applySpan r far east s).pending = s.pending := by simp [applySpan]

@[simp] theorem applyRing_pending (r : RingCfg) (st br : Nat) : (applyRing r st br s).pending = s.pending := by
  unfold applyRing
  split <;> simp

@[simp] theorem putAps_pending (ring : Bool) (g : Nat) (a : ApsState) : (putAps ring g a s).pending = s.pending := by
  simp [putAps]

@[simp] theorem applyAps_pending (ring : Bool) (g st br : Nat) : (applyAps ring g st br s).pending = s.pending := by
  unfold applyAps
  repeat' split
  all_goals simp

@[simp] theorem putDistrust_pending (l : Nat) (d : Distrust) : (putDistrust l d s).pending = s.pending := by
  simp [putDistrust]
@[simp] theorem queueVbl_pending (l : Nat) (type : Byte) (payload : Bytes) :
    (queueVbl l type payload s).pending = s.pending := by simp [queueVbl]
@[simp] theorem sendTrust_pending (l : Nat) (on : Bool) (fn : FN) : (sendTrust l on fn s).pending = s.pending := by
  simp [sendTrust]
@[simp] theorem setDistrust_pending (l : Nat) (on forced : Bool) (fn : FN) :
    (setDistrust l on forced fn s).pending = s.pending := by simp [setDistrust]
@[simp] theorem holdDistrust_pending (l : Nat) : (holdDistrust l s).pending = s.pending := by simp [holdDistrust]
@[simp] theorem renewProtection_pending : (renewProtection s).pending = s.pending := by simp [renewProtection]
@[simp] theorem raiseEpoch_pending : (raiseEpoch s).pending = s.pending := by simp [raiseEpoch]
@[simp] theorem effectDone_pending (own : Bool) (opcode : Byte) : (effectDone own opcode s).pending = s.pending := by
  simp [effectDone]
@[simp] theorem extDone_pending (own : Bool) (kind idx : Nat) (req : Byte) :
    (extDone own kind idx req s).pending = s.pending := by simp [extDone]

@[simp] theorem applyExt_pending (own : Bool) (o : ProtObj) (req : Byte) (chan : Nat) :
    (applyExt own o req chan s).pending = s.pending := by
  unfold applyExt
  repeat' split
  all_goals simp

@[simp] theorem restartLane_pending (l : Nat) : (restartLane l s).pending = s.pending := by simp [restartLane]
@[simp] theorem applyLane_pending (l : Nat) (c : LaneCfg) : (applyLane l c s).pending = s.pending := by simp [applyLane]
@[simp] theorem applyBind_pending (base l : Nat) : (applyBind base l s).pending = s.pending := by simp [applyBind]
@[simp] theorem applyUnbind_pending (fp : Nat) : (applyUnbind fp s).pending = s.pending := by simp [applyUnbind]

@[simp] theorem applyLinearCfg_pending (g : Nat) (c : LinearCfg) : (applyLinearCfg g c s).pending = s.pending := by
  unfold applyLinearCfg
  split <;> simp

@[simp] theorem applyRingCfg_pending (r : Nat) (c : RingCfg) : (applyRingCfg r c s).pending = s.pending := by
  unfold applyRingCfg
  split <;> simp

@[simp] theorem applyDelete_pending (ring : Bool) (g : Nat) : (applyDelete ring g s).pending = s.pending := by
  simp [applyDelete]
@[simp] theorem applyRemap_pending (fp : Nat) (es : List Word64) : (applyRemap fp es s).pending = s.pending := by
  simp [applyRemap]
@[simp] theorem applyPrbs_pending (u : Nat) (c : Option PrbsCfg) (clear : Bool) :
    (applyPrbs u c clear s).pending = s.pending := by simp [applyPrbs]

@[simp] theorem applyEffect_pending (own : Bool) (e : Effect) : (applyEffect own e s).pending = s.pending := by
  unfold applyEffect
  split <;> simp

@[simp] theorem schedule_pending (due : FN) (tok : Option CmdTok) (own : Bool) (e : Effect) (r : Word64) :
    (schedule due tok own e r s).pending = s.pending := by simp [schedule]
@[simp] theorem atBoundary_pending (tok : CmdTok) (e : Effect) : (atBoundary tok e s).pending = s.pending := by
  simp [atBoundary]
@[simp] theorem atOnceOrBoundary_pending (tok : CmdTok) (e : Effect) (r : List Field) :
    (atOnceOrBoundary tok e r s).pending = s.pending := by simp [atOnceOrBoundary]

-- Machine/Restart.lean.

@[simp] theorem windowsWarm_pending : (windowsWarm s).pending = s.pending := by simp [windowsWarm]
@[simp] theorem dropToks_pending : (dropToks s).pending = s.pending := by simp [dropToks]
@[simp] theorem dropEvents_pending : (dropEvents s).pending = s.pending := by simp [dropEvents]
@[simp] theorem removeTests_pending : (removeTests s).pending = s.pending := by simp [removeTests]
@[simp] theorem dropControl_pending : (dropControl s).pending = s.pending := by simp [dropControl]
@[simp] theorem enterSafe_pending : (enterSafe s).pending = s.pending := by simp [enterSafe]
@[simp] theorem countReset_pending (cause : Nat) : (countReset cause s).pending = s.pending := by simp [countReset]
@[simp] theorem coldState_pending (powerOn : Bool) : (coldState powerOn s).pending = s.pending := by simp [coldState]
@[simp] theorem assertCold_pending (cause : Nat) : (assertCold cause s).pending = s.pending := by simp [assertCold]
@[simp] theorem warmPage_pending : (warmPage s).pending = s.pending := by simp [warmPage]
@[simp] theorem warmState_pending : (warmState s).pending = s.pending := by simp [warmState]
@[simp] theorem assertWarm_pending (cause : Nat) : (assertWarm cause s).pending = s.pending := by simp [assertWarm]
@[simp] theorem initialSnapshot_pending : (initialSnapshot s).pending = s.pending := by simp [initialSnapshot]
@[simp] theorem runImage_pending (b : Bool) : (runImage b s).pending = s.pending := by simp [runImage]
@[simp] theorem clearTrial_pending (br : BootRec) : (clearTrial br s).pending = s.pending := by simp [clearTrial]
@[simp] theorem bootRun_pending (b : Bool) : (bootRun b s).pending = s.pending := by simp [bootRun]
@[simp] theorem raiseRollback_pending : (raiseRollback s).pending = s.pending := by simp [raiseRollback]

@[simp] theorem chooseImage_pending : (chooseImage s).pending = s.pending := by
  simp only [chooseImage]
  repeat' split
  all_goals simp

@[simp] theorem startFrame_pending : (startFrame s).pending = s.pending := by simp [startFrame]
@[simp] theorem lateEvents_pending : (lateEvents s).pending = s.pending := by simp [lateEvents]
@[simp] theorem enterMode_pending (m : Mode) (sync : BitVec 3) : (enterMode m sync s).pending = s.pending := by
  simp [enterMode]
@[simp] theorem releaseSafe_pending : (releaseSafe s).pending = s.pending := by simp [releaseSafe]
@[simp] theorem selfRestore_pending (g : JFound) : (selfRestore g s).pending = s.pending := by simp [selfRestore]
@[simp] theorem restoreDomains_pending (c : Cfg) : (restoreDomains c s).pending = s.pending := by simp [restoreDomains]
@[simp] theorem adoptJournal_pending (g : JFound) : (adoptJournal g s).pending = s.pending := by simp [adoptJournal]

@[simp] theorem decideMode_pending : (decideMode s).pending = s.pending := by
  simp only [decideMode]
  repeat' split
  all_goals simp

@[simp] theorem warmMode_pending : (warmMode s).2.2.pending = s.pending := by
  simp only [warmMode]
  repeat' split
  all_goals simp

@[simp] theorem afterRom_pending : (afterRom s).pending = s.pending := by simp [afterRom]
@[simp] theorem entryFrame_pending : (entryFrame s).pending = s.pending := by simp [entryFrame]
@[simp] theorem stepRom_pending : (stepRom s).pending = s.pending := by simp [stepRom]
@[simp] theorem stepXo_pending : (stepXo s).pending = s.pending := by simp [stepXo]
@[simp] theorem stepFuse_pending : (stepFuse s).pending = s.pending := by simp [stepFuse]

@[simp] theorem optionTry_pending : (optionTry s).pending = s.pending := by
  unfold optionTry
  split <;> simp

@[simp] theorem stepOption_pending : (stepOption s).pending = s.pending := by simp [stepOption]
@[simp] theorem stepTrim_pending : (stepTrim s).pending = s.pending := by simp [stepTrim]
@[simp] theorem bakCheck_pending : (bakCheck s).pending = s.pending := by simp [bakCheck]
@[simp] theorem eraseSecrets_pending : (eraseSecrets s).pending = s.pending := by simp [eraseSecrets]
@[simp] theorem finishErasure_pending : (finishErasure s).pending = s.pending := by simp [finishErasure]
@[simp] theorem clearCauses_pending : (clearCauses s).pending = s.pending := by simp [clearCauses]
@[simp] theorem coldRelease_pending : (coldRelease s).pending = s.pending := by simp [coldRelease]
@[simp] theorem warmRelease_pending : (warmRelease s).pending = s.pending := by simp [warmRelease]

-- Machine/Aps.lean.

@[simp] theorem putKb_pending (l : Nat) (x : KState) : (putKb l x s).pending = s.pending := by simp [putKb]
@[simp] theorem kAccept_pending (l : Nat) (k : BitVec 13) : (kAccept l k s).pending = s.pending := by simp [kAccept]
@[simp] theorem psbfNow_pending (l : Nat) : (psbfNow l s).pending = s.pending := by simp [psbfNow]
@[simp] theorem kstormNow_pending (l : Nat) (on : Bool) : (kstormNow l on s).pending = s.pending := by simp [kstormNow]
@[simp] theorem sendK_pending (l : Nat) (w : Word16) : (sendK l w s).pending = s.pending := by simp [sendK]

@[simp] theorem outrankExt_pending (ring : Bool) (g side : Nat) (gone : Bool) (st : Nat) :
    (outrankExt ring g side gone st s).pending = s.pending := by
  simp only [outrankExt]
  repeat' split
  all_goals simp

@[simp] theorem linearStep_pending (x : Nat × LinearCfg) : (linearStep s x).pending = s.pending := by simp [linearStep]
@[simp] theorem ringStep_pending (x : Nat × RingCfg) : (ringStep s x).pending = s.pending := by simp [ringStep]
@[simp] theorem apsMove_pending (f : FN) (ring : Bool) (g : Nat) : (apsMove f ring g s).pending = s.pending := by
  simp [apsMove]

@[simp] theorem apsNext_pending (ring : Bool) (x : Nat × ApsState) : (apsNext ring s x).pending = s.pending := by
  unfold apsNext
  split <;> simp

@[simp] theorem apsBound_pending (ring : Bool) (g : Nat) : (apsBound ring s g).pending = s.pending := by
  unfold apsBound
  split <;> simp

@[simp] theorem apsFrame_pending : (apsFrame s).pending = s.pending := by simp [apsFrame]
@[simp] theorem fopNow_pending (ring : Bool) (g : Nat) (on : Bool) : (fopNow ring g on s).pending = s.pending := by
  simp [fopNow]

-- Machine/LaneCmds.lean.

@[simp] theorem configureBody_pending (c : CmdEntry) (tok : CmdTok) : (configureBody c tok s).pending = s.pending := by
  simp [configureBody]
@[simp] theorem vblSendBody_pending (c : CmdEntry) (tok : CmdTok) : (vblSendBody c tok s).pending = s.pending := by
  simp [vblSendBody]

-- Machine/MonCmds.lean.

@[simp] theorem newTap_pending (u : Nat) (x : TapCfg) : (newTap u x s).pending = s.pending := by simp [newTap]
@[simp] theorem mirrorPrbs_pending : (mirrorPrbs s).pending = s.pending := by simp [mirrorPrbs]
@[simp] theorem auditSeen_pending (first n : Nat) : (auditSeen first n s).pending = s.pending := by simp [auditSeen]

-- Machine/TwinCmds.lean.

@[simp] theorem membership_pending (was : Bool) : (membership was s).pending = s.pending := by simp [membership]
@[simp] theorem putGh_pending (b : Bool) (p : GhPort) : (putGh b p s).pending = s.pending := by simp [putGh]

-- Machine/TwinRows.lean.

@[simp] theorem putMl_pending (lane : Bool) (x : MlRx) : (putMl lane x s).pending = s.pending := by simp [putMl]
@[simp] theorem setSync_pending (n : BitVec 3) : (setSync n s).pending = s.pending := by simp [setSync]
@[simp] theorem dropImage_pending : (dropImage s).pending = s.pending := by simp [dropImage]
@[simp] theorem enterIsolated_pending : (enterIsolated s).pending = s.pending := by simp [enterIsolated]
@[simp] theorem isolate_pending : (isolate s).pending = s.pending := by simp [isolate]
@[simp] theorem sendReleased_pending : (sendReleased s).pending = s.pending := by simp [sendReleased]
@[simp] theorem becomeStandby_pending : (becomeStandby s).pending = s.pending := by simp [becomeStandby]

@[simp] theorem linkLost_pending : (linkLost s).pending = s.pending := by
  simp only [linkLost]
  repeat' split
  all_goals simp

@[simp] theorem compareHeld_pending : (compareHeld s).pending = s.pending := by simp [compareHeld]
@[simp] theorem resumeRole_pending : (resumeRole s).pending = s.pending := by simp [resumeRole]
@[simp] theorem takeBackRole_pending : (takeBackRole s).pending = s.pending := by simp [takeBackRole]
@[simp] theorem startResync_pending : (startResync s).pending = s.pending := by simp [startResync]
@[simp] theorem checkMismatch_pending : (checkMismatch s).pending = s.pending := by simp [checkMismatch]
@[simp] theorem checkFpMate_pending : (checkFpMate s).pending = s.pending := by simp [checkFpMate]
@[simp] theorem checkConflict_pending : (checkConflict s).pending = s.pending := by simp [checkConflict]
@[simp] theorem mateQl_pending : (mateQl s).pending = s.pending := by simp [mateQl]
@[simp] theorem headerSeen_pending : (headerSeen s).pending = s.pending := by simp [headerSeen]
@[simp] theorem measureArrival_pending (lane : Bool) : (measureArrival lane s).pending = s.pending := by
  simp [measureArrival]
@[simp] theorem mateHeader_rx_pending (lane : Bool) (m : Bytes) : (mateHeader_rx lane m s).pending = s.pending := by
  simp [mateHeader_rx]

@[simp] theorem takeSealed_pending (c : SealedCommit) : (takeSealed c s).pending = s.pending := by
  unfold takeSealed
  split <;> simp

@[simp] theorem takeOpened_pending : (takeOpened s).pending = s.pending := by
  unfold takeOpened
  split <;> simp

@[simp] theorem issuerDone_pending (bn : Nat) (fp : Word64) : (issuerDone bn fp s).pending = s.pending := by
  unfold issuerDone
  split <;> simp

@[simp] theorem takeWrite_pending (w : StagedWrite) : (takeWrite s w).pending = s.pending := by
  unfold takeWrite
  split <;> simp

@[simp] theorem applyStaged_pending (ws : List StagedWrite) : (applyStaged ws s).pending = s.pending := by
  simp [applyStaged]

@[simp] theorem dropCommit_pending : (dropCommit s).pending = s.pending := by
  unfold dropCommit
  split <;> simp

@[simp] theorem endScheduled_pending (fp : Word64) : (endScheduled fp s).pending = s.pending := by
  unfold endScheduled
  split <;> simp

@[simp] theorem putPage_pending (p : Page) (fp : Word64) : (putPage p fp s).pending = s.pending := by simp [putPage]
@[simp] theorem pageRecord_pending (kind : Nat) : (pageRecord kind s).pending = s.pending := by simp [pageRecord]
@[simp] theorem powerForPage_pending : (powerForPage s).pending = s.pending := by simp [powerForPage]
@[simp] theorem requestFrom_pending (chan first upto : Nat) : (requestFrom chan first upto s).pending = s.pending := by
  simp [requestFrom]

@[simp] theorem channelRx_pending (chan seq : Nat) (take : State → State) (s : State)
    (htake : ∀ s, (take s).pending = s.pending) : (channelRx chan seq take s).pending = s.pending := by
  simp only [channelRx]
  split
  · rfl
  · split
    · exact htake _
    · simp

@[simp] theorem superframeRx_pending (lane : Bool) (s : State) : (superframeRx lane s).pending = s.pending := by
  unfold superframeRx
  generalize parsePackets 78116 (mateRxStream s lane) = r
  obtain ⟨l, _ | c⟩ := r
  · simp
  · dsimp only
    split
    · rfl
    · split
      · simp
      · rfl

@[simp] theorem mateRxFrame_pending : (mateRxFrame s).pending = s.pending := by simp [mateRxFrame]
@[simp] theorem takeRecord_pending (r : JRecord) : (takeRecord r s).pending = s.pending := by simp [takeRecord]
@[simp] theorem takeStaged_pending (ws : List StagedWrite) : (takeStaged ws s).pending = s.pending := by
  simp [takeStaged]
@[simp] theorem imageComplete_pending (tag : Nat) : (imageComplete tag s).pending = s.pending := by simp [imageComplete]

@[simp] theorem resend_pending (chan first count : Nat) (s : State) : (resend chan first count s).pending = s.pending := by
  unfold resend
  split
  · rfl
  · refine foldl_pending (fun s i => ?_) _ _
    dsimp only
    split <;> rfl

@[simp] theorem gapTimeout_pending (chan : Nat) : (gapTimeout chan s).pending = s.pending := by
  unfold gapTimeout
  split <;> simp

@[simp] theorem installImage_pending : (installImage s).pending = s.pending := by
  unfold installImage
  split <;> simp

@[simp] theorem applyLater_pending (rs : List (JRecord × List StagedWrite)) (s : State) :
    (applyLater rs s).pending = s.pending := by
  induction rs generalizing s with
  | nil => rfl
  | cons x rs ih =>
    unfold applyLater
    dsimp only
    split
    · simp
    · simp [ih]

@[simp] theorem enterSync_pending : (enterSync s).pending = s.pending := by simp [enterSync]
@[simp] theorem resyncInstall_pending : (resyncInstall s).pending = s.pending := by simp [resyncInstall]
@[simp] theorem loseAlignment_pending : (loseAlignment s).pending = s.pending := by simp [loseAlignment]
@[simp] theorem alignStep_pending : (alignStep s).pending = s.pending := by simp [alignStep]
@[simp] theorem countGrant_pending (b : Bool) (why : Nat) : (countGrant b why s).pending = s.pending := by
  simp [countGrant]
@[simp] theorem macFailed_pending (b : Bool) : (macFailed b s).pending = s.pending := by simp [macFailed]
@[simp] theorem discardGrant_pending (b : Bool) (why : Nat) : (discardGrant b why s).pending = s.pending := by
  simp [discardGrant]

@[simp] theorem grantMe_pending (b own : Bool) (anchor : FN) (m : Bytes) :
    (grantMe b own anchor m s).pending = s.pending := by
  unfold grantMe
  split <;> simp

@[simp] theorem grantOther_pending (own : Bool) : (grantOther own s).pending = s.pending := by
  simp only [grantOther]
  repeat' split
  all_goals simp

@[simp] theorem namedGrant_pending (b own : Bool) (anchor : FN) (m : Bytes) :
    (namedGrant b own anchor m s).pending = s.pending := by simp [namedGrant]

@[simp] theorem applyGrant_pending (b own : Bool) (anchor : FN) (m : Bytes) :
    (applyGrant b own anchor m s).pending = s.pending := by
  simp only [applyGrant]
  repeat' split
  all_goals simp

@[simp] theorem decidePending_pending (anchor : FN) (m : Bytes) : (decidePending anchor m s).pending = s.pending := by
  simp [decidePending]
@[simp] theorem grantReset_pending (b : Bool) (m : Bytes) : (grantReset b m s).pending = s.pending := by
  simp [grantReset]

@[simp] theorem grantRx_pending (b : Bool) (m : Bytes) : (grantRx b m s).pending = s.pending := by
  unfold grantRx
  repeat' split
  all_goals simp

@[simp] theorem relayRx_pending (b : Bool) (anchor : FN) (m : Bytes) : (relayRx b anchor m s).pending = s.pending := by
  unfold relayRx
  split
  · simp
  · split <;> simp

@[simp] theorem takeRole_pending (p : PendingGrant) : (takeRole p s).pending = s.pending := by simp [takeRole]

@[simp] theorem roleTake_pending : (roleTake s).pending = s.pending := by
  unfold roleTake
  split <;> simp

@[simp] theorem leaseEnds_pending : (leaseEnds s).pending = s.pending := by
  unfold leaseEnds
  repeat' split
  all_goals simp

@[simp] theorem forcedTakeover_pending : (forcedTakeover s).pending = s.pending := by
  unfold forcedTakeover
  repeat' split
  all_goals simp

-- Machine/GroupRows.lean.

@[simp] theorem elect_pending : (elect s).pending = s.pending := by
  unfold elect
  split
  · simp
  · split <;> simp

@[simp] theorem startCatchup_pending : (startCatchup s).pending = s.pending := by simp [startCatchup]
@[simp] theorem setFenced_pending (on : Bool) : (setFenced on s).pending = s.pending := by simp [setFenced]
@[simp] theorem checkFpGroup_pending (c : Compared) (r : Bytes) : (checkFpGroup c r s).pending = s.pending := by
  simp [checkFpGroup]
@[simp] theorem dropRetained_pending : (dropRetained s).pending = s.pending := by simp [dropRetained]
@[simp] theorem actOnCompared_pending (c : Compared) (r : Bytes) : (actOnCompared c r s).pending = s.pending := by
  simp [actOnCompared]

@[simp] theorem compareBell_pending (from_ : Option Nat) : (compareBell from_ s).pending = s.pending := by
  unfold compareBell
  repeat' split
  all_goals simp

@[simp] theorem holdRecord_pending (k : Nat) (m : Bytes) : (holdRecord k m s).pending = s.pending := by
  simp [holdRecord]
@[simp] theorem miswiredRecord_pending (k : Nat) : (miswiredRecord k s).pending = s.pending := by simp [miswiredRecord]

@[simp] theorem recordRx_pending (k : Nat) (sliceCount : Nat) (m : Bytes) :
    (recordRx k sliceCount m s).pending = s.pending := by
  unfold recordRx
  split <;> simp

@[simp] theorem recordLapse_pending (k : Nat) : (recordLapse k s).pending = s.pending := by
  unfold recordLapse
  split <;> simp

@[simp] theorem mateRecord_pending (m : Bytes) : (mateRecord m s).pending = s.pending := by simp [mateRecord]

@[simp] theorem bellwetherChange_pending : (bellwetherChange s).pending = s.pending := by
  unfold bellwetherChange
  split <;> simp

@[simp] theorem pageRestore_pending : (pageRestore s).pending = s.pending := by
  unfold pageRestore
  repeat' split
  all_goals simp

@[simp] theorem putRecord_pending (c : Cfg) (p : Option Page) (fp : Word64) :
    (putRecord c p fp s).pending = s.pending := by
  unfold putRecord
  split <;> simp

@[simp] theorem groupApply_apply_pending (rs : List JRecord) (s : State) : (groupApply.apply rs s).pending = s.pending := by
  induction rs generalizing s with
  | nil => rfl
  | cons r rs ih => simp [groupApply.apply, ih]

@[simp] theorem groupApply_pending : (groupApply s).pending = s.pending := by
  unfold groupApply
  split
  · simp
  · split <;> simp

@[simp] theorem acceptPacket_pending (m : Bytes) : (acceptPacket m s).pending = s.pending := by simp [acceptPacket]
@[simp] theorem packetRx_pending (west : Bool) (m : Bytes) : (packetRx west m s).pending = s.pending := by
  simp [packetRx]
@[simp] theorem portRx_pending (west : Bool) (codes : List (BitVec 10)) :
    (portRx west codes s).pending = s.pending := by simp [portRx]

-- Machine/VblRows.lean.

@[simp] theorem putRx_pending (k : Nat) (x : RxState) : (putRx k x s).pending = s.pending := by simp [putRx]
@[simp] theorem putVbl_pending (l : Nat) (x : VblRx) : (putVbl l x s).pending = s.pending := by simp [putVbl]

@[simp] theorem setBitmap_pending (l v : Nat) (on : Bool) : (setBitmap l v on s).pending = s.pending := by
  simp only [setBitmap]
  repeat' split
  all_goals simp

@[simp] theorem setBitRun_pending (k n : Nat) : (setBitRun k n s).pending = s.pending := by simp [setBitRun]

@[simp] theorem filterSlot_pending (l : Nat) (m : Bytes) (x : Nat × State) (v : Nat) :
    (filterSlot l m x v).2.pending = x.2.pending := by
  simp only [filterSlot]
  repeat' split
  all_goals simp

@[simp] theorem filterSlots_pending (l : Nat) (m : Bytes) (vs : List Nat) (x : Nat × State) :
    (vs.foldl (filterSlot l m) x).2.pending = x.2.pending :=
  List.foldlRecOn vs (filterSlot l m) (motive := fun y => y.2.pending = x.2.pending) rfl
    fun _ hy _ _ => (filterSlot_pending ..).trans hy

@[simp] theorem countFlips_pending (l n : Nat) : (countFlips l n s).pending = s.pending := by simp [countFlips]
@[simp] theorem takeBitmap_pending (l : Nat) (m : Bytes) : (takeBitmap l m s).pending = s.pending := by
  simp [takeBitmap]
@[simp] theorem headerRx_pending (l : Nat) (m : Bytes) : (headerRx l m s).pending = s.pending := by simp [headerRx]
@[simp] theorem trustRestore_pending (l : Nat) : (trustRestore l s).pending = s.pending := by simp [trustRestore]
@[simp] theorem distrustRepeat_pending (l : Nat) : (distrustRepeat l s).pending = s.pending := by simp [distrustRepeat]
@[simp] theorem dropMessage_pending (l : Nat) : (dropMessage l s).pending = s.pending := by simp [dropMessage]
@[simp] theorem messageNote_pending (l : Nat) (m : Bytes) (addr : Nat) :
    (messageNote l m addr s).pending = s.pending := by simp [messageNote]
@[simp] theorem toBuffer_pending (l : Nat) (m : Bytes) (b : Nat × List (Nat × Nat)) :
    (toBuffer l m b s).pending = s.pending := by simp [toBuffer]
@[simp] theorem flushRx_pending : (flushRx s).pending = s.pending := by simp [flushRx]

@[simp] theorem relayMessage_pending (l : Nat) (m : Bytes) : (relayMessage l m s).pending = s.pending := by
  simp only [relayMessage]
  repeat' split
  all_goals simp

@[simp] theorem stopBlock_pending (l : Nat) : (stopBlock l s).pending = s.pending := by simp [stopBlock]
@[simp] theorem messageRx_pending (l : Nat) (m : Bytes) : (messageRx l m s).pending = s.pending := by simp [messageRx]

@[simp] theorem vblVerify_pending (l : Nat) (cands : List VblCand) : (vblVerify l cands s).pending = s.pending := by
  simp only [vblVerify]
  repeat' split
  all_goals simp

@[simp] theorem vblOutOfFrame_pending (l : Nat) (words : List Bytes) (uncorr : List Nat) :
    (vblOutOfFrame l words uncorr s).pending = s.pending := by simp [vblOutOfFrame]
@[simp] theorem freshBitmap_pending (l : Nat) : (freshBitmap l s).pending = s.pending := by simp [freshBitmap]
@[simp] theorem fecFrame_pending : (fecFrame s).pending = s.pending := by simp [fecFrame]
@[simp] theorem vblDefect_pending (l b : Nat) (on : Bool) : (vblDefect l b on s).pending = s.pending := by
  simp [vblDefect]
@[simp] theorem vblBarLapse_pending (l : Nat) : (vblBarLapse l s).pending = s.pending := by simp [vblBarLapse]

-- Machine/LaneRows.lean.

@[simp] theorem putOof_pending (k : Nat) (on : Bool) : (putOof k on s).pending = s.pending := by simp [putOof]
@[simp] theorem outOfFrame_pending (k : Nat) (bar : Bool) : (outOfFrame k bar s).pending = s.pending := by
  simp [outOfFrame]
@[simp] theorem evalGroup_pending (l : Nat) : (evalGroup l s).pending = s.pending := by simp [evalGroup]
@[simp] theorem afterRx_pending (k : Nat) : (afterRx k s).pending = s.pending := by simp [afterRx]
@[simp] theorem groupFrame_pending : (groupFrame s).pending = s.pending := by simp [groupFrame]
@[simp] theorem takeMarkers_pending (l n : Nat) (vs : Bytes) : (takeMarkers l n vs s).pending = s.pending := by
  simp [takeMarkers]

@[simp] theorem takeLogical_pending (l : Nat) (info : Bytes) : (takeLogical l info s).pending = s.pending := by
  unfold takeLogical
  split <;> simp

@[simp] theorem takePosition_pending (k p : Nat) (amb : Bool) : (takePosition k p amb s).pending = s.pending := by
  simp [takePosition]

@[simp] theorem laneVerify_pending (k : Nat) (cands : List Nat) : (laneVerify k cands s).pending = s.pending := by
  simp only [laneVerify]
  repeat' split
  all_goals simp

@[simp] theorem laneFalseLock_pending (k : Nat) (ev : List Nat) : (laneFalseLock k ev s).pending = s.pending := by
  simp [laneFalseLock]

@[simp] theorem laneTie_pending (k : Nat) (b1 : List (Nat × Nat)) : (laneTie k b1 s).pending = s.pending := by
  simp only [laneTie]
  repeat' split
  all_goals simp

@[simp] theorem laneReadmit_pending (k : Nat) : (laneReadmit k s).pending = s.pending := by simp [laneReadmit]
@[simp] theorem acceptTrace_pending (cls obj : Nat) (t : Bytes) : (acceptTrace cls obj t s).pending = s.pending := by
  simp [acceptTrace]
@[simp] theorem takeMultiframe_pending (l : Nat) (omfi : Bool) (bs : Bytes) :
    (takeMultiframe l omfi bs s).pending = s.pending := by simp [takeMultiframe]

@[simp] theorem takeOtn_pending (cls obj b : Nat) (info : Bytes) : (takeOtn cls obj b info s).pending = s.pending := by
  unfold takeOtn
  split
  · simp
  · split <;> simp

@[simp] theorem laneChange_pending (cls obj b : Nat) (on : Bool) : (laneChange cls obj b on s).pending = s.pending := by
  simp [laneChange]

@[simp] theorem takeOh3_pending (cls obj b : Nat) (info : Bytes) : (takeOh3 cls obj b info s).pending = s.pending := by
  unfold takeOh3
  repeat' split
  all_goals simp

@[simp] theorem laneDefect_pending (cls obj b : Nat) (on : Bool) (info : Bytes) :
    (laneDefect cls obj b on info s).pending = s.pending := by simp [laneDefect]
@[simp] theorem unmask_pending (e : Nat × RxState) : (unmask s e).pending = s.pending := by simp [unmask]
@[simp] theorem maskFrame_pending : (maskFrame s).pending = s.pending := by simp [maskFrame]
@[simp] theorem putPtr_pending (cls obj : Nat) (x : PtrState) : (putPtr cls obj x s).pending = s.pending := by
  simp [putPtr]

@[simp] theorem takePointers_pending (cls obj : Nat) (info : Bytes) :
    (takePointers cls obj info s).pending = s.pending := by
  unfold takePointers
  split
  · simp
  · split <;> simp

@[simp] theorem takeH4_pending (g : Nat) (info : Bytes) : (takeH4 g info s).pending = s.pending := by simp [takeH4]
@[simp] theorem takeStructure_pending (obj : Nat) (info : Bytes) : (takeStructure obj info s).pending = s.pending := by
  simp [takeStructure]
@[simp] theorem labelSeen_pending (cls obj : Nat) (info : Bytes) : (labelSeen cls obj info s).pending = s.pending := by
  simp [labelSeen]

@[simp] theorem takeLabel_pending (cls obj : Nat) (info : Bytes) : (takeLabel cls obj info s).pending = s.pending := by
  simp only [takeLabel]
  repeat' split
  all_goals simp

@[simp] theorem takeRdiCode_pending (obj : Nat) (on : Bool) (info : Bytes) :
    (takeRdiCode obj on info s).pending = s.pending := by simp [takeRdiCode]

@[simp] theorem pathDefect_pending (cls obj b : Nat) (on : Bool) (info : Bytes) :
    (pathDefect cls obj b on info s).pending = s.pending := by
  unfold pathDefect
  repeat' split
  all_goals simp

@[simp] theorem berChange_pending (cls obj n : Nat) (on : Bool) : (berChange cls obj n on s).pending = s.pending := by
  simp [berChange]

-- Machine/CarrierRows.lean.

@[simp] theorem putCar_pending (c : Nat) (x : CarState) : (putCar c x s).pending = s.pending := by simp [putCar]
@[simp] theorem evalSig_pending (c : Nat) : (evalSig c s).pending = s.pending := by simp [evalSig]
@[simp] theorem markPoint_pending (c : Nat) : (markPoint c s).pending = s.pending := by simp [markPoint]
@[simp] theorem carDefect_pending (c b : Nat) (on : Bool) : (carDefect c b on s).pending = s.pending := by
  simp [carDefect]
@[simp] theorem carTake_pending (c p : Nat) (amb : Bool) : (carTake c p amb s).pending = s.pending := by simp [carTake]

@[simp] theorem carVerify_pending (c : Nat) (cands : List (Nat × Bytes)) :
    (carVerify c cands s).pending = s.pending := by
  simp only [carVerify]
  repeat' split
  all_goals simp

@[simp] theorem carTie_pending (c : Nat) (left : List Nat) : (carTie c left s).pending = s.pending := by
  simp only [carTie]
  repeat' split
  all_goals simp

@[simp] theorem carLose_pending (c : Nat) (bar : Bool) : (carLose c bar s).pending = s.pending := by simp [carLose]
@[simp] theorem carFalseLock_pending (c errs total : Nat) : (carFalseLock c errs total s).pending = s.pending := by
  simp [carFalseLock]
@[simp] theorem carBarLapse_pending (c : Nat) : (carBarLapse c s).pending = s.pending := by simp [carBarLapse]

@[simp] theorem carInterwork_pending (c : Nat) : (carInterwork c s).pending = s.pending := by
  simp only [carInterwork]
  repeat' split
  all_goals simp

@[simp] theorem carTribFails_pending (c : Nat) : (carTribFails c s).pending = s.pending := by simp [carTribFails]
@[simp] theorem carChange_pending (c b : Nat) (on : Bool) (ev : List Nat) :
    (carChange c b on ev s).pending = s.pending := by simp [carChange]
@[simp] theorem carSlip_pending (c : Nat) (delete : Bool) : (carSlip c delete s).pending = s.pending := by
  simp [carSlip]

@[simp] theorem carSigExpiry_pending (c : Nat) : (carSigExpiry c s).pending = s.pending := by
  simp only [carSigExpiry]
  repeat' split
  all_goals simp

@[simp] theorem carLoss_pending (c : Nat) (ev : List Nat) : (carLoss c ev s).pending = s.pending := by simp [carLoss]
@[simp] theorem carMultiframe_pending (c : Nat) (cas : Bool) (ev : List Nat) :
    (carMultiframe c cas ev s).pending = s.pending := by simp [carMultiframe]
@[simp] theorem carFrame_pending : (carFrame s).pending = s.pending := by simp [carFrame]

-- Machine/Egress.lean.

@[simp] theorem genFrame_pending : (genFrame s).pending = s.pending := by simp [genFrame]
@[simp] theorem checkBegin_pending (c : Nat) : (checkBegin c s).pending = s.pending := by simp [checkBegin]
@[simp] theorem checkFrame_pending (c : Nat) : (checkFrame c s).pending = s.pending := by simp [checkFrame]
@[simp] theorem parityFrame_pending : (parityFrame s).pending = s.pending := by simp [parityFrame]

@[simp] theorem checkFrames_pending (f : Nat → State → State) (s : State) (hf : ∀ c s, (f c s).pending = s.pending) :
    (checkFrames f s).pending = s.pending := by
  simp [checkFrames, hf]

@[simp] theorem egressSends_pending (s : State) : (egressSends s).pending = s.pending := by
  unfold egressSends
  refine (foldl_pending (fun s x => ?_) _ _).trans
    ((foldl_pending (fun s x => ?_) _ _).trans (foldl_pending (fun s x => ?_) _ _))
  · dsimp only
    split <;> rfl
  · split <;> rfl
  · dsimp only
    split
    · rfl
    · split <;> rfl

@[simp] theorem egressFrame_pending : (egressFrame s).pending = s.pending := by simp [egressFrame]

-- Machine/LineOut.lean.

@[simp] theorem lineParity_pending : (lineParity s).pending = s.pending := by simp [lineParity]
@[simp] theorem groupTxFrame_pending : (groupTxFrame s).pending = s.pending := by simp [groupTxFrame]
@[simp] theorem lineSends_pending : (lineSends s).pending = s.pending := by simp [lineSends]

-- Machine/ReportRows.lean.

@[simp] theorem reportDefects_pending : (reportDefects s).pending = s.pending := by simp [reportDefects]
@[simp] theorem switchEvent_pending (x : Nat × Leg × Nat × FN) : (switchEvent s x).pending = s.pending := by
  simp [switchEvent]
@[simp] theorem reportSwitches_pending : (reportSwitches s).pending = s.pending := by simp [reportSwitches]
@[simp] theorem gatherBlock_pending (b : Nat) : (gatherBlock s b).pending = s.pending := by simp [gatherBlock]
@[simp] theorem gatherCore_pending (n : Nat) : (gatherCore s n).pending = s.pending := by simp [gatherCore]
@[simp] theorem clearOvf_pending : (clearOvf s).pending = s.pending := by simp [clearOvf]
@[simp] theorem gather_pending : (gather s).pending = s.pending := by simp [gather]

@[simp] theorem prbsSync_pending (u : Nat) (gain : Bool) (ev : List Bool) :
    (prbsSync u gain ev s).pending = s.pending := by
  simp only [prbsSync]
  repeat' split
  all_goals simp

@[simp] theorem prbsFrame_pending : (prbsFrame s).pending = s.pending := by simp [prbsFrame]

-- Machine/ImageCmds.lean.

@[simp] theorem setImage_pending (n : BitVec 3) : (setImage n s).pending = s.pending := by simp [setImage]
@[simp] theorem receive_pending (p : Bytes) : (receive p s).pending = s.pending := by simp [receive]

@[simp] theorem verifyDone_pending (tok : Option CmdTok) : (verifyDone tok s).pending = s.pending := by
  simp only [verifyDone]
  repeat' split
  all_goals simp

@[simp] theorem writeIntent_pending : (writeIntent s).pending = s.pending := by simp [writeIntent]
@[simp] theorem updateRecord_pending : (updateRecord s).pending = s.pending := by simp [updateRecord]
@[simp] theorem startUpdate_pending (tok : CmdTok) (hold : Bool) : (startUpdate tok hold s).pending = s.pending := by
  simp [startUpdate]
@[simp] theorem lifecycleField_pending (b : Bytes) : (lifecycleField b s).pending = s.pending := by
  simp [lifecycleField]
@[simp] theorem retire_pending : (retire s).pending = s.pending := by simp [retire]

@[simp] theorem activate_pending (tok : CmdTok) (hold : Bool) : (activate tok hold s).pending = s.pending := by
  simp only [activate]
  repeat' split
  all_goals simp

@[simp] theorem endConfirm_pending (st : Byte) : (endConfirm st s).pending = s.pending := by simp [endConfirm]
@[simp] theorem endTrial_pending : (endTrial s).pending = s.pending := by simp [endTrial]
@[simp] theorem fallBack_pending : (fallBack s).pending = s.pending := by simp [fallBack]
@[simp] theorem startCompaction_pending : (startCompaction s).pending = s.pending := by simp [startCompaction]
@[simp] theorem beginCompaction_pending : (beginCompaction s).pending = s.pending := by simp [beginCompaction]
@[simp] theorem startDomain_pending (d : Nat) (t : DomState) : (startDomain d t s).pending = s.pending := by
  simp [startDomain]

-- Machine/Rings.lean.

@[simp] theorem drainHead_pending : (drainHead s).pending = s.pending := by simp [drainHead]
@[simp] theorem fetch_pending (s0 : State) : (fetch s0).pending = s0.pending := by simp [fetch]

@[simp] theorem phaseTimeout_pending : (phaseTimeout s).pending = s.pending := by
  unfold phaseTimeout
  split <;> simp

@[simp] theorem putInForce_pending (x : Sched) : (putInForce x s).2.pending = s.pending := by
  unfold putInForce
  split <;> simp

@[simp] theorem dueEffect_pending (fn : FN) (a : List Sched × State) (x : Sched) :
    (dueEffect fn a x).2.pending = a.2.pending := by
  unfold dueEffect
  split <;> simp

@[simp] theorem dueEffects_pending (fn : FN) (xs : List Sched) (a : List Sched × State) :
    (xs.foldl (dueEffect fn) a).2.pending = a.2.pending :=
  List.foldlRecOn xs (dueEffect fn) (motive := fun b => b.2.pending = a.2.pending) rfl
    fun _ hb _ _ => (dueEffect_pending ..).trans hb

@[simp] theorem dueFrame_pending : (dueFrame s).pending = s.pending := by simp [dueFrame]

@[simp] theorem completeSched_pending (x : Sched) : (completeSched x s).pending = s.pending := by
  unfold completeSched
  split <;> simp

@[simp] theorem endSched_pending (x : Sched) : (endSched x s).pending = s.pending := by
  unfold endSched
  split <;> simp

@[simp] theorem waitingDone_pending (i : Nat) : (waitingDone i s).pending = s.pending := by
  unfold waitingDone
  repeat' split
  all_goals simp

@[simp] theorem writeCpl_pending : (writeCpl s).pending = s.pending := by
  unfold writeCpl
  split <;> simp

@[simp] theorem putEvt_pending (e : Evt) : (putEvt e s).pending = s.pending := by simp [putEvt]

@[simp] theorem writeEvt_pending : (writeEvt s).pending = s.pending := by
  unfold writeEvt
  split
  · simp
  · split <;> simp

@[simp] theorem hostSlow_pending : (hostSlow s).pending = s.pending := by simp [hostSlow]
@[simp] theorem noteRings_pending : (noteRings s).pending = s.pending := by simp [noteRings]

@[simp] theorem doorbell_pending (aligned : Bool) (v : Word32) (r : Ring) (inRange : Nat → Bool)
    (apply : BitVec 17 → State → State) (s : State) (happly : ∀ p s, (apply p s).pending = s.pending) :
    (doorbell aligned v r inRange apply s).pending = s.pending := by
  simp [doorbell, happly]

@[simp] theorem hostWrites_pending (cells : List Host.Cell) : (hostWrites cells s).pending = s.pending := by
  simp [hostWrites]

-- Machine/Pcie.lean.

@[simp] theorem unmaskFunction_pending : (unmaskFunction s).pending = s.pending := by simp [unmaskFunction]
@[simp] theorem enableMsix_pending : (enableMsix s).pending = s.pending := by simp [enableMsix]
@[simp] theorem writeMsixCtrl_pending (v : Word32) : (writeMsixCtrl v s).pending = s.pending := by simp [writeMsixCtrl]
@[simp] theorem writeBar_pending (k : Nat) (v : Word32) : (writeBar k v s).pending = s.pending := by simp [writeBar]
@[simp] theorem putPcie_pending (f : PcieSt → PcieSt) : (putPcie f s).pending = s.pending := by simp [putPcie]
@[simp] theorem writeConfigReg_pending (off : Nat) (v : Word32) : (writeConfigReg off v s).pending = s.pending := by
  simp [writeConfigReg]
@[simp] theorem writeConfig_pending (off : Nat) (v : Word32) : (writeConfig off v s).pending = s.pending := by
  simp [writeConfig]

-- Machine/Regs.lean.

@[simp] theorem putRing_pending (r : RingId) (x : Ring) : (putRing r x s).pending = s.pending := by
  unfold putRing
  split <;> simp

@[simp] theorem badWrite_pending : (badWrite s).pending = s.pending := by simp [badWrite]

@[simp] theorem rwl_pending (change : Bool) (set : State → State) (s : State) (hset : ∀ s, (set s).pending = s.pending) :
    (rwl change set s).pending = s.pending := by
  simp [rwl, hset]

@[simp] theorem writeBase_pending (r : RingId) (v : Word32) : (writeBase r v s).pending = s.pending := by
  simp [writeBase]
@[simp] theorem enableRing_pending (r : RingId) : (enableRing r s).pending = s.pending := by simp [enableRing]
@[simp] theorem writeRingCtrl_pending (r : RingId) (v : Word32) : (writeRingCtrl r v s).pending = s.pending := by
  simp [writeRingCtrl]

@[simp] theorem writeRing_pending (r : RingId) (rel : Nat) (v : Word32) :
    (writeRing r rel v s).pending = s.pending := by
  unfold writeRing
  split <;> simp

@[simp] theorem dmaPut_pending (n : Nat) (f : DmaSet → DmaSet) : (dmaPut n f s).pending = s.pending := by simp [dmaPut]

@[simp] theorem writeDma_pending (n rel : Nat) (v : Word32) : (writeDma n rel v s).pending = s.pending := by
  unfold writeDma
  split
  · simp
  · split <;> simp

@[simp] theorem writePmc_pending (i rel : Nat) (v : Word32) : (writePmc i rel v s).pending = s.pending := by
  unfold writePmc
  split <;> simp

@[simp] theorem writeHostCh_pending (v : Word32) : (writeHostCh v s).pending = s.pending := by simp [writeHostCh]
@[simp] theorem writeCtrCtrl_pending (v : Word32) : (writeCtrCtrl v s).pending = s.pending := by simp [writeCtrCtrl]
@[simp] theorem unmaskVector_pending : (unmaskVector s).pending = s.pending := by simp [unmaskVector]
@[simp] theorem putMsixAddr_pending (a : Word64) : (putMsixAddr a s).pending = s.pending := by simp [putMsixAddr]
@[simp] theorem writeMsix_pending (off : Nat) (v : Word32) : (writeMsix off v s).pending = s.pending := by
  simp [writeMsix]

@[simp] theorem writeInService_pending (off : Nat) (v : Word32) : (writeInService off v s).pending = s.pending := by
  unfold writeInService
  split <;> simp

@[simp] theorem dropHeld_pending (off : Nat) : (dropHeld off s).pending = s.pending := by
  unfold dropHeld
  split <;> simp

@[simp] theorem writeReg_pending (off : Nat) (v : Word32) : (writeReg off v s).pending = s.pending := by simp [writeReg]

-- Machine/Link.lean.

@[simp] theorem perstOn_pending (old : State) : (perstOn old).pending = old.pending := by simp [perstOn]

-- Machine/EngineRows.lean.

@[simp] theorem putCluster_pending (n : Nat) (c : ClusterSt) : (putCluster n c s).pending = s.pending := by
  simp [putCluster]
@[simp] theorem faultCluster_pending (n : Nat) : (faultCluster n s).pending = s.pending := by simp [faultCluster]
@[simp] theorem engineOverrun_pending (e : Nat) : (engineOverrun e s).pending = s.pending := by simp [engineOverrun]
@[simp] theorem restartObjects_pending (cluster : Nat) (mine : Nat → Bool) :
    (restartObjects cluster mine s).pending = s.pending := by simp [restartObjects]
@[simp] theorem restartCounted_pending (cluster : Nat) (mine : Nat → Bool) :
    (restartCounted cluster mine s).pending = s.pending := by simp [restartCounted]

@[simp] theorem switchBank_pending (n : Nat) (trial : Bool) : (switchBank n trial s).pending = s.pending := by
  simp only [switchBank]
  repeat' split
  all_goals simp

@[simp] theorem bankSwitch_pending (n : Nat) : (bankSwitch n s).pending = s.pending := by
  unfold bankSwitch
  split <;> simp

@[simp] theorem internalCause_pending (cluster : Option Nat) : (internalCause cluster s).pending = s.pending := by
  unfold internalCause
  split <;> simp

@[simp] theorem endActivate_pending (st : Byte) (fs : List Field) : (endActivate st fs s).pending = s.pending := by
  simp [endActivate]
@[simp] theorem endFallback_pending : (endFallback s).pending = s.pending := by simp [endFallback]
@[simp] theorem backOut_pending (cluster : Option Nat) : (backOut cluster s).pending = s.pending := by simp [backOut]

@[simp] theorem bankReadyTimeout_pending (n : Nat) : (bankReadyTimeout n s).pending = s.pending := by
  unfold bankReadyTimeout
  split <;> simp

@[simp] theorem badWord_pending (n addr : Nat) : (badWord n addr s).pending = s.pending := by simp [badWord]
@[simp] theorem loseItem_pending (w : MemRef) : (loseItem w s).pending = s.pending := by simp [loseItem]

@[simp] theorem eccError_pending (w : MemRef) : (eccError w s).pending = s.pending := by
  unfold eccError
  split <;> simp

@[simp] theorem scrubEngine_pending (n : Nat) : (scrubEngine n s).pending = s.pending := by simp [scrubEngine]
@[simp] theorem scrubMb_pending (b : Nat) : (scrubMb b s).pending = s.pending := by simp [scrubMb]
@[simp] theorem scrubCm_pending (b : Nat) : (scrubCm b s).pending = s.pending := by simp [scrubCm]

@[simp] theorem scrub_pending (w : MemRef) : (scrub w s).pending = s.pending := by
  unfold scrub
  split <;> simp

@[simp] theorem repairBank_pending (n : Nat) : (repairBank n s).pending = s.pending := by simp [repairBank]

@[simp] theorem rewriteItem_pending (w : MemRef) : (rewriteItem w s).pending = s.pending := by
  unfold rewriteItem
  split
  · simp
  · split <;> simp

@[simp] theorem dropEngineBits_pending (n : Nat) : (dropEngineBits n s).pending = s.pending := by simp [dropEngineBits]

@[simp] theorem loseBank_pending (b : Nat) : (loseBank b s).pending = s.pending := by
  simp only [loseBank]
  repeat' split
  all_goals simp

@[simp] theorem resetCore_pending (n : Nat) : (resetCore n s).pending = s.pending := by simp [resetCore]
@[simp] theorem loseDomain_pending (d : Nat) : (loseDomain d s).pending = s.pending := by simp [loseDomain]
@[simp] theorem freshDomain_pending (d : Nat) : (freshDomain d s).pending = s.pending := by simp [freshDomain]
@[simp] theorem endDomain_pending (d : Nat) (st : Byte) : (endDomain d st s).pending = s.pending := by simp [endDomain]
@[simp] theorem reachDomain_pending (d : Nat) (t : DomState) : (reachDomain d t s).pending = s.pending := by
  simp [reachDomain]

@[simp] theorem domainOn_pending (d : Nat) : (domainOn d s).pending = s.pending := by
  unfold domainOn
  split <;> simp

@[simp] theorem domainFrame_pending : (domainFrame s).pending = s.pending := by simp [domainFrame]
@[simp] theorem domainFails_pending (d : Nat) : (domainFails d s).pending = s.pending := by simp [domainFails]

-- Machine/UpdateRows.lean.

@[simp] theorem endCompact_pending : (endCompact s).pending = s.pending := by simp [endCompact]
@[simp] theorem reprovision_pending : (reprovision s).pending = s.pending := by simp [reprovision]

@[simp] theorem compactionDone_pending : (compactionDone s).pending = s.pending := by
  unfold compactionDone
  split <;> simp

@[simp] theorem journalFails_pending : (journalFails s).pending = s.pending := by simp [journalFails]
@[simp] theorem writeSpares_pending : (writeSpares s).pending = s.pending := by simp [writeSpares]
@[simp] theorem restartMc3_pending : (restartMc3 s).pending = s.pending := by simp [restartMc3]

@[simp] theorem handover_pending : (handover s).pending = s.pending := by
  unfold handover
  split <;> simp

@[simp] theorem handoverTimeout_pending : (handoverTimeout s).pending = s.pending := by
  unfold handoverTimeout
  split <;> simp

@[simp] theorem activationDone_pending : (activationDone s).pending = s.pending := by simp [activationDone]

@[simp] theorem microcode_pending : (microcode s).pending = s.pending := by
  unfold microcode
  repeat' split
  all_goals simp

@[simp] theorem confirmImage_pending : (confirmImage s).pending = s.pending := by simp [confirmImage]

@[simp] theorem returnFirmware_pending : (returnFirmware s).pending = s.pending := by
  simp only [returnFirmware]
  repeat' split
  all_goals simp

@[simp] theorem updateFrame_pending : (updateFrame s).pending = s.pending := by
  simp only [updateFrame]
  repeat' split
  all_goals simp

@[simp] theorem challenge_pending : (challenge s).pending = s.pending := by simp [challenge]
@[simp] theorem noteKeys_pending : (noteKeys s).pending = s.pending := by simp [noteKeys]
@[simp] theorem unlock_pending : (unlock s).pending = s.pending := by simp [unlock]

@[simp] theorem respond_pending (vKey vSig cKey cSig : Bytes) :
    (respond vKey vSig cKey cSig s).pending = s.pending := by
  unfold respond
  split <;> simp

-- Machine/ResetRows.lean.

@[simp] theorem powerOn_pending (rising : Bool) (pins : BitVec 3) : (powerOn rising pins s).pending = s.pending := by
  simp [powerOn]
@[simp] theorem coldPin_pending (low : Bool) : (coldPin low s).pending = s.pending := by simp [coldPin]
@[simp] theorem warmPin_pending (low : Bool) : (warmPin low s).pending = s.pending := by simp [warmPin]
@[simp] theorem readHottest_pending (tenths : Int) : (readHottest tenths s).pending = s.pending := by simp [readHottest]
@[simp] theorem thermal_pending : (thermal s).pending = s.pending := by simp [thermal]
@[simp] theorem thermalWarn_pending (tenths : Int) : (thermalWarn tenths s).pending = s.pending := by simp [thermalWarn]
@[simp] theorem readTrim_pending (copyOk : Bool) : (readTrim copyOk s).pending = s.pending := by simp [readTrim]
@[simp] theorem safeEntry_pending : (safeEntry s).pending = s.pending := by simp [safeEntry]
@[simp] theorem powerFail_pending (src : PfwSource) : (powerFail src s).pending = s.pending := by simp [powerFail]
@[simp] theorem pfwClear_pending : (pfwClear s).pending = s.pending := by simp [pfwClear]

-- Machine/Pmbus.lean.

@[simp] theorem i2cRead_pending (code : Byte) (bs : Bytes) : (i2cRead code bs s).pending = s.pending := by
  simp [i2cRead]
@[simp] theorem setCml_pending (b : Nat) : (setCml b s).pending = s.pending := by simp [setCml]

@[simp] theorem i2cWrite_pending (act : State → State) (s : State) (hact : ∀ s, (act s).pending = s.pending) :
    (i2cWrite act s).pending = s.pending := by
  simp [i2cWrite, hact]

@[simp] theorem clearFaults_pending : (clearFaults s).pending = s.pending := by simp [clearFaults]

@[simp] theorem withCurrent_pending (f : Nat → State → State) (s : State) (hf : ∀ n s, (f n s).pending = s.pending) :
    (withCurrent f s).pending = s.pending := hf ..

@[simp] theorem mfrReset_pending (pec : Pec) (key : Word32) : (mfrReset pec key s).pending = s.pending := by
  simp [mfrReset]

-- Machine/Frame.lean.

@[simp] theorem foldl_stepTod_pending (l : List (FN × FN × Word32)) (s : State) :
    (l.foldl (fun s x => stepTod x.2.1 x.2.2 s) s).pending = s.pending := by
  induction l generalizing s with
  | nil => rfl
  | cons x l ih => rw [List.foldl_cons, ih, stepTod_pending]

@[simp] theorem todFrame_pending (s : State) : (todFrame s).pending = s.pending := by
  unfold todFrame
  split
  · rfl
  · exact foldl_stepTod_pending ..

@[simp] theorem tickReset_pending : (tickReset s).pending = s.pending := by simp [tickReset]
@[simp] theorem distrustSecond_pending : (distrustSecond s).pending = s.pending := by simp [distrustSecond]
@[simp] theorem secondFrame_pending : (secondFrame s).pending = s.pending := by simp [secondFrame]
@[simp] theorem relayFrame_pending : (relayFrame s).pending = s.pending := by simp [relayFrame]
@[simp] theorem pruneMoved_pending : (pruneMoved s).pending = s.pending := by simp [pruneMoved]

@[simp] theorem changeMode_pending (m : Mode) : (changeMode m s).pending = s.pending := by
  unfold changeMode
  split <;> simp

@[simp] theorem modeFrame_pending : (modeFrame s).pending = s.pending := by
  unfold modeFrame
  split <;> simp

@[simp] theorem yieldFrame_pending (m : State) : (yieldFrame m s).pending = s.pending := by simp [yieldFrame]
@[simp] theorem alignFrame_pending : (alignFrame s).pending = s.pending := by simp [alignFrame]
@[simp] theorem selectorFrame_pending (m : State) : (selectorFrame m s).pending = s.pending := by simp [selectorFrame]

@[simp] theorem solverFrame_pending : (solverFrame s).pending = s.pending := by
  unfold solverFrame
  split <;> simp

@[simp] theorem bandFrame_pending : (bandFrame s).pending = s.pending := by simp [bandFrame]
@[simp] theorem sendVbl_pending (m : Nat × Byte × Bytes) : (sendVbl s m).pending = s.pending := by simp [sendVbl]
@[simp] theorem vblSends_pending (l : Nat) : (vblSends s l).pending = s.pending := by simp [vblSends]
@[simp] theorem mateSends_pending : (mateSends s).pending = s.pending := by simp [mateSends]
@[simp] theorem bulkSends_pending : (bulkSends s).pending = s.pending := by simp [bulkSends]
@[simp] theorem sendStatus_pending (b : Bool) : (sendStatus b s).pending = s.pending := by simp [sendStatus]
@[simp] theorem statusSends_pending : (statusSends s).pending = s.pending := by simp [statusSends]
@[simp] theorem recordSends_pending : (recordSends s).pending = s.pending := by simp [recordSends]
@[simp] theorem frameSends_pending : (frameSends s).pending = s.pending := by simp [frameSends]
@[simp] theorem effectFrame_pending (m : State) : (effectFrame m s).pending = s.pending := by simp [effectFrame]
@[simp] theorem layerFrame_pending : (layerFrame s).pending = s.pending := by simp [layerFrame]
@[simp] theorem reportFrame_pending : (reportFrame s).pending = s.pending := by simp [reportFrame]
@[simp] theorem beginFrame_pending (m : State) : (beginFrame m).pending = m.pending := by simp [beginFrame]
@[simp] theorem frameStart_pending : (frameStart s).pending = s.pending := by simp [frameStart]

@[simp] theorem runStep_pending (x : StartStep) (due : State → Bool) (f : State → State) (s : State)
    (hf : ∀ s, (f s).pending = s.pending) : (runStep x due f s).pending = s.pending := by
  simp [runStep, hf]

@[simp] theorem holdOffEnds_pending (t : Tier) (i : Nat) (l : Leg) : (holdOffEnds t i l s).pending = s.pending := by
  unfold holdOffEnds
  split <;> simp

@[simp] theorem wtrEnds_pending (t : Tier) (i : Nat) : (wtrEnds t i s).pending = s.pending := by
  simp only [wtrEnds]
  repeat' split
  all_goals simp

end

-- The rows.

/-- The row answers a next state, whose queue is the queue of the state before. -/
def NextKeepsQueue (s : State) (o : Host.Outcome State Fault Refusal) : Prop := ∃ t, o = .next t ∧ t.pending = s.pending

theorem finish_keepsQueue {s t : State} (h : t.pending = s.pending) : NextKeepsQueue s (finish s t) :=
  ⟨_, rfl, (irqEdge_pending ..).trans h⟩

/-- A command whose work is done at once keeps the queue where its body does. -/
theorem finish_runCmd_keepsQueue {s : State} {opcode : Byte} {row : Bool} {c : CmdEntry} {k : Checks}
    {body : CmdTok → State → State} (hk : k.hold = none) (hb : ∀ tok s, (body tok s).pending = s.pending) :
    NextKeepsQueue s (finish s (runCmd opcode row c k body s)) :=
  finish_keepsQueue (runCmd_pending _ _ _ _ _ _ hb (by simp [hk]))

theorem routeHold_pending {s t : State} {c : CmdEntry} (h : routeHold s c = some t) : t.pending = s.pending := by
  unfold routeHold at h
  split at h
  · cases h
  · split at h
    · cases h; rfl
    · split at h
      · cases h; rfl
      · cases h

theorem exec_command_keepsQueue {c : Instr} {r : RingRow} (hr : ringRow c = some r) (s : State) :
    NextKeepsQueue s (exec c s) := by
  cases c <;> cases hr
  case routeCheck =>
    exact finish_keepsQueue (runCmd_pending _ _ _ _ _ _ (fun _ _ => routeBody_pending ..) fun _ => routeHold_pending)
  case vblRxBuffer | pmConfigPostBuffer =>
    refine finish_runCmd_keepsQueue rfl fun tok s => ?_
    split
    · rfl
    · split <;> simp
  case imageActivate => exact finish_runCmd_keepsQueue rfl fun tok s => by split <;> simp
  case todSet =>
    refine finish_runCmd_keepsQueue rfl fun tok s => ?_
    extract_lets sec ns named fn ahead r
    split
    · rfl
    · split
      · rfl
      · split
        · rfl
        · rw [complete_pending, stepTod_pending]
  all_goals exact finish_runCmd_keepsQueue rfl (by simp)

theorem exec_happening_keepsQueue {c : Instr} (hr : ringRow c = none) (s : State) : NextKeepsQueue s (exec c s) := by
  cases c <;> cases hr
  case msixUnmask op => cases op <;> exact finish_keepsQueue (by simp)
  case linkUnavailable why => cases why <;> exact finish_keepsQueue (by simp)
  case linkRestored why => cases why <;> exact finish_keepsQueue (by simp)
  case mateLinkDown => exact finish_keepsQueue (by split <;> simp)
  case keyOverlapExpiry => exact finish_keepsQueue (by split <;> simp)
  all_goals exact finish_keepsQueue (by simp)

/-- Settles O42: a row is a command of the ring or a happening, and either keeps the queue. -/
theorem rowsComplete : Obligations.RowsComplete := by
  intro c s
  cases hr : ringRow c with
  | some r => exact exec_command_keepsQueue hr s
  | none => exact exec_happening_keepsQueue hr s

end Sys2Proof.Proofs
end

section
/-! What the staging of a page and the taking effect of a change leave of the pages and of the configuration. -/
namespace Sys2Proof.Proofs
open Machine

-- The pages across a message.

@[simp] theorem sendMate_page (chan : Nat) (payload : Bytes) (s : State) : (sendMate chan payload s).page = s.page := by
  unfold sendMate
  split <;> rfl

@[simp] theorem sendGroup_page (type : Nat) (payload : Bytes) (s : State) : (sendGroup type payload s).page = s.page := by
  unfold sendGroup
  split
  · rfl
  · split <;> rfl

/-- Sending the staged page to the mate and the group leaves every page (R94). -/
@[simp] theorem mirrorStaged_page (s : State) : (mirrorStaged s).page = s.page := by
  unfold mirrorStaged
  split
  · rfl
  · dsimp only
    split <;> simp [internalMsg]

-- The staged page (R58, R79).

@[simp] theorem dropSolution_staged (s : State) : (dropSolution s).page.staged = s.page.staged := by
  unfold dropSolution
  split <;> rfl

@[simp] theorem dropSolution_stagedFp (s : State) : (dropSolution s).page.stagedFp = s.page.stagedFp := by
  unfold dropSolution
  split <;> rfl

@[simp] theorem dropSolution_live (s : State) : (dropSolution s).page.live = s.page.live := by
  unfold dropSolution
  split <;> rfl

theorem stage_pages (p : Page) (n : Nat) (s : State) :
    (stage p n s).page.staged = p ∧ (stage p n s).page.stagedFp = fingerprint p ∧ (stage p n s).page.live = s.page.live := by
  simp [stage]

theorem discardStaged_pages (s : State) :
    (discardStaged s).page.staged = { s.page.live with epoch := s.page.live.epoch + 1 } ∧
      (discardStaged s).page.live = s.page.live := by
  simp [discardStaged]

-- The configuration when a change takes effect (R271, R387).

@[simp] theorem postAt_cfg (code : Byte) (fn : FN) (p : BitVec 160) (s : State) : (postAt code fn p s).cfg = s.cfg := by
  unfold postAt
  split
  · rfl
  · dsimp only
    split
    · split <;> rfl
    · split <;> rfl

@[simp] theorem obsNote_cfg (b who fp : Nat) (s : State) : (obsNote b who fp s).cfg = s.cfg := postAt_cfg ..

@[simp] theorem auditAdd_cfg (a : Audit) (s : State) : (auditAdd a s).cfg = s.cfg := by
  unfold auditAdd
  dsimp only
  split
  · exact obsNote_cfg ..
  · rfl

@[simp] theorem recordDue_cfg (k : JKind) (as : List Audit) (s : State) : (recordDue k as s).cfg = s.cfg := rfl

@[simp] theorem raiseEpoch_page (s : State) : (raiseEpoch s).page = s.page := by
  unfold raiseEpoch
  split <;> rfl

@[simp] theorem raiseEpoch_ports (s : State) : (raiseEpoch s).cfg.ports = s.cfg.ports := by
  unfold raiseEpoch
  split <;> rfl

@[simp] theorem raiseEpoch_traces (s : State) : (raiseEpoch s).cfg.traces = s.cfg.traces := by
  unfold raiseEpoch
  split <;> rfl

/-- The record of a change leaves the configuration but for its epoch. -/
@[simp] theorem effectDone_cfg (own : Bool) (op : Byte) (s : State) : (effectDone own op s).cfg = (raiseEpoch s).cfg := by
  simp [effectDone]

@[simp] theorem effectDone_page (own : Bool) (op : Byte) (s : State) : (effectDone own op s).page = s.page := by
  simp [effectDone]

theorem applyEffect_monitor (fp : Nat) (s : State) :
    (applyEffect true (.monitor fp) s).cfg.ports = tset .unbound s.cfg.ports fp .monitor ∧
      (applyEffect true (.monitor fp) s).page = s.page := by
  simp [applyEffect]

theorem applyEffect_trace (fp : Nat) (x : TraceCfg) (s : State) :
    (applyEffect true (.trace fp x) s).cfg.traces = tset defaultTrace s.cfg.traces fp x ∧
      (applyEffect true (.trace fp x) s).page = s.page := by
  simp [applyEffect]

end Sys2Proof.Proofs
end

section
/-! PORT_CONFIG (R327): what each action does once it starts, at once or at the earliest boundary (R323). -/
namespace Sys2Proof.Proofs
open Machine

section
variable {s : State} {c : CmdEntry} {pos : Nat} {rest : List Fetched}

/-- A command of the ring that starts leaves what its body leaves (R35). -/
theorem exec_starts {i : Instr} {op : Byte} {row : Bool} {k : Checks} {body : CmdTok → State → State}
    (hi : exec i s = finish s (runCmd op row c k body s)) (hrow : row = true) (h : Starts s op c k pos rest) :
    exec i s = .next (irqEdge s (ended rest (body (tokenOf op c pos) s))) := by
  rw [hi, hrow, runCmd_starts h, finish]

theorem atOnceOrBoundary_of_active {tok : CmdTok} {e : Effect} {r : List Field} (h : s.mode.mode = .active) :
    atOnceOrBoundary tok e r s = mirrorConfig (schedule (fnOf (earliestBn s)) (some tok) true e (res r) s) :=
  if_pos h

theorem atOnceOrBoundary_of_not_active {tok : CmdTok} {e : Effect} {r : List Field} (h : s.mode.mode ≠ .active) :
    atOnceOrBoundary tok e r s = completeOk tok r (applyEffect true e s) :=
  if_neg h

theorem exec_bind_starts (h : Starts s 0x11 c (bindChecks s c) pos rest) (ha : arg c 1 1 = 0)
    (hb : bindBad s (arg c 0 1) (arg c 2 1) = false) :
    exec (.portConfigBind c) s = .next (irqEdge s (ended rest (atOnceOrBoundary (tokenOf 0x11 c pos)
      (.bind (arg c 0 1) (arg c 2 1)) [(0, 1, arg c 0 1), (1, 1, portCount (laneMode s.cfg (arg c 2 1)))] s))) := by
  rw [exec_starts rfl (beq_of_eq ha) h]
  simp only [hb, Bool.false_eq_true, if_false]

theorem exec_monitor_starts (h : Starts s 0x11 c (portChecks s c [arg c 0 1]) pos rest) (ha : arg c 1 1 = 1)
    (hu : tget .unbound s.cfg.ports (arg c 0 1) = .unbound) :
    exec (.portConfigMonitor c) s = .next (irqEdge s (ended rest (atOnceOrBoundary (tokenOf 0x11 c pos)
      (.monitor (arg c 0 1)) [(0, 1, arg c 0 1), (1, 1, 1)] s))) := by
  rw [exec_starts rfl (beq_of_eq ha) h, if_neg (not_not_intro hu)]

theorem exec_unbind_starts (h : Starts s 0x11 c (portChecks s c (unbindPorts s (arg c 0 1))) pos rest) (ha : arg c 1 1 = 2)
    (hp : unbindPorts s (arg c 0 1) ≠ []) :
    exec (.portConfigUnbind c) s = .next (irqEdge s (ended rest (atOnceOrBoundary (tokenOf 0x11 c pos)
      (.unbind (arg c 0 1)) [(0, 1, arg c 0 1), (1, 1, (unbindPorts s (arg c 0 1)).length)] s))) := by
  rw [exec_starts rfl (beq_of_eq ha) h, if_neg (mt List.isEmpty_iff.1 hp)]

theorem exec_trace_starts (h : Starts s 0x11 c (traceChecks s c) pos rest) (ha : arg c 1 1 = 4) :
    exec (.portConfigTrace c) s = .next (irqEdge s (ended rest (atOnceOrBoundary (tokenOf 0x11 c pos)
      (.trace (arg c 0 1) { long := argBit c 2 0, pfx := canonBytes (argBytes c 8 10) }) [(0, 1, arg c 0 1)] s))) := by
  rw [exec_starts rfl (beq_of_eq ha) h]

end

/-- Settles O3: each action, once it starts, applies its effect by the mode of the module, and QUIESCE stages its page. -/
theorem completesPort : Obligations.CompletesPort := by
  refine ⟨?bind, ?bindActive, ?monitor, ?monitorActive, ?unbind, ?unbindActive, ?quiesce, applyEffect_monitor,
    applyEffect_trace, stage_pages, ?trace, ?traceActive⟩
  case bind =>
    intro s c pos rest h ha hb hm
    rw [exec_bind_starts h ha hb, atOnceOrBoundary_of_not_active hm]
  case bindActive =>
    intro s c pos rest h ha hb hm
    rw [exec_bind_starts h ha hb, atOnceOrBoundary_of_active hm]
  case monitor =>
    intro s c pos rest h ha hu hm
    rw [exec_monitor_starts h ha hu, atOnceOrBoundary_of_not_active hm]
  case monitorActive =>
    intro s c pos rest h ha hu hm
    rw [exec_monitor_starts h ha hu, atOnceOrBoundary_of_active hm]
  case unbind =>
    intro s c pos rest h ha hp hm
    rw [exec_unbind_starts h ha hp, atOnceOrBoundary_of_not_active hm]
  case unbindActive =>
    intro s c pos rest h ha hp hm
    rw [exec_unbind_starts h ha hp, atOnceOrBoundary_of_active hm]
  case quiesce =>
    intro s c pos rest h ha
    rw [exec_starts rfl (beq_of_eq ha) h, quiesceRun]
  case trace =>
    intro s c pos rest h ha hm
    rw [exec_trace_starts h ha, atOnceOrBoundary_of_not_active hm]
  case traceActive =>
    intro s c pos rest h ha hm
    rw [exec_trace_starts h ha, atOnceOrBoundary_of_active hm]

end Sys2Proof.Proofs
end

section
/-! CONN_COMMIT, CONN_ABORT, CONN_READBACK and ROUTE_CHECK (R330). -/
namespace Sys2Proof.Proofs
open Machine

section
variable {s : State} {c : CmdEntry} {tok : CmdTok}

theorem commitBody_seals {flag : CommitFlag} {target : Nat} (hf : commitFlag (arg c 8 1) = some flag)
    (ht : (if arg c 0 6 = 0 then earliestBn s else arg c 0 6) = target) (hlo : earliestBn s ≤ target)
    (hhi : target ≤ s.clk.fn.toNat / 48 + 10000) : commitBody c tok s = sealPage tok target flag s := by
  unfold commitBody
  simp only [hf, ht]
  exact if_neg (not_or.2 ⟨Nat.not_lt.2 hlo, Nat.not_lt.2 hhi⟩)

/-- With no commit to cancel, CONN_ABORT is its DISCARD alone (R79). -/
theorem abortBody_opened {t : State} (hs : s.page.state = .opened) (hj : s.page.job = none)
    (ht : (if argBit c 0 0 then discardStaged s else s) = t) :
    abortBody c tok s = completeOk tok [(0, 1, pageCode s.page.state), (1, 1, pageCode t.page.state), (2, 1, 0)] t := by
  have hnone : ¬(s.page.state = .sealed ∨ s.page.state = .split) := by simp [hs]
  simp only [abortBody, if_neg hnone, hj, ht]

/-- Sealing with no kept solution schedules the commit and starts the solver (R81). -/
theorem sealPage_unsolved (target : Nat) (flag : CommitFlag) (hk : s.page.kept = false) :
    ∃ j : CommitJob, (sealPage tok target flag s).page = { s.page with
        state := .sealed, job := some j, stagedFp := fingerprint s.page.staged, kept := false, commitId := j.id,
        solving := some s.clk.fn } ∧
      j.tok = some tok ∧ j.target = target ∧ j.flag = flag ∧ j.first = target := by
  unfold sealPage
  extract_lets inc lead parts job kept t
  have hkept : ¬kept = true := by simp [kept, hk]
  rw [if_neg hkept, mirrorStaged_page]
  exact ⟨job, rfl, rfl, rfl, rfl, rfl⟩

end

/-- Settles O5: each command, once it starts, leaves what its body leaves; no solution kept, sealing leaves its commit. -/
theorem completesCommit : Obligations.CompletesCommit := by
  refine ⟨?commit, ?abort, ?discard, ?readback, ?check, ?sealing, discardStaged_pages⟩
  case commit =>
    intro s c pos rest flag target h hf ht hlo hhi
    rw [exec_starts rfl rfl h, commitBody_seals hf ht hlo hhi]
  case abort =>
    intro s c pos rest h hs hj hd
    rw [exec_starts rfl rfl h, abortBody_opened hs hj (if_neg (by simp [hd]))]
  case discard =>
    intro s c pos rest t h hs hj hd ht
    rw [exec_starts rfl rfl h, abortBody_opened hs hj (if_pos hd), ht]
  case readback =>
    intro s c pos rest segs bs h hseg hbs
    rw [exec_starts rfl rfl h, withWrite_ok hseg, ← hbs]
  case check =>
    intro s c pos rest h hlen
    rw [exec_starts rfl rfl h, routeBody, if_neg hlen]
  case sealing =>
    intro tok target flag s hk _
    obtain ⟨j, hpage, htok, htarget, hflag, hfirst⟩ := sealPage_unsolved (tok := tok) target flag hk
    rw [hpage]
    exact ⟨⟨j, rfl, htok, htarget, hflag, hfirst⟩, rfl, rfl⟩

end Sys2Proof.Proofs
end

section
/-! The staged page after a swap (R71), and what a warm reset keeps (R95, R406). -/
namespace Sys2Proof.Proofs
open Machine

/-- With the last part the staged page follows the live page; while parts are to come it keeps the final target (R71). -/
theorem swapPage_staged (s : State) (j : CommitJob) :
    (swapPage s j).page.staged =
      { (if j.parts.length ≤ 1 then (swapPage s j).page.live else s.page.staged) with
        epoch := (swapPage s j).page.live.epoch + 1 } := by
  rw [swapPage_live]
  simp only [swapPage, countLegs_page, liveChanged_page, decide_eq_true_eq]
  split <;> rfl

/-- Settles O51: the staged page after a swap, for the last part and for one with parts to come. -/
theorem swapRenewsStaged : Obligations.SwapRenewsStaged := by
  rintro s t j rfl
  refine ⟨fun hlast => ?_, fun hmore => ?_⟩
  · rw [swapPage_staged, if_pos hlast]
  · rw [swapPage_staged, if_neg (Nat.not_le.2 hmore)]

/-- R95 touches the commit alone: it ends unless it is past its final point, and the page staged for it stays. -/
theorem warmPage_page (s : State) : ∃ p : PageSt, warmPage s = { s with page := p } ∧
    p.live = s.page.live ∧ p.liveFp = s.page.liveFp ∧ p.sched = s.page.sched ∧ p.staged = s.page.staged ∧
    p.state = if s.page.state = .final then .final else .opened := by
  by_cases hf : s.page.state = .final
  · exact ⟨s.page, if_pos hf, rfl, rfl, rfl, rfl, hf.trans (if_pos hf).symm⟩
  · exact ⟨_, if_neg hf, rfl, rfl, rfl, rfl, (if_neg hf).symm⟩

/-- A module in service takes a warm reset at once; cause 0x0A also starts the count of Gander (R408). -/
theorem assertWarm_of_running (cause : Nat) {s : State} (h : s.rst.phase = .running) :
    ∃ r : Option Nat, assertWarm cause s =
      let t := warmState { countReset cause s with bak := { (countReset cause s).bak with last := BitVec.ofNat 8 cause } }
      { t with rst := { t.rst with ganderTicks := r } } := by
  have hphase : (countReset cause s).rst.phase = .running := h
  unfold assertWarm
  simp only [hphase, Bool.false_eq_true, if_false]
  split
  · exact ⟨_, rfl⟩
  · exact ⟨_, rfl⟩

/-- Settles O55: a warm reset ends the control hierarchy, and of the pages only an unfinished commit. -/
theorem warmReset : Obligations.WarmReset := by
  rintro s t cause hrun rfl
  obtain ⟨ticks, ht⟩ := assertWarm_of_running cause hrun
  obtain ⟨p, hp, hlive, hfp, hsched, hstaged, hstate⟩ := warmPage_page (dropEvents (dropControl (dropToks (windowsWarm
    { countReset cause s with bak := { (countReset cause s).bak with last := BitVec.ofNat 8 cause } }))))
  rw [ht, warmState, hp]
  exact ⟨rfl, rfl, hlive, hfp, hsched, hstaged, hstate, rfl, rfl, rfl, rfl, rfl, rfl, rfl, rfl, rfl, rfl, rfl, rfl⟩

end Sys2Proof.Proofs
end

section
/-! CONN_STAGE, CONN_STAGE_BULK and CARRIER_CONFIG (R73, R74, R111). -/
namespace Sys2Proof.Proofs
open Machine

section
variable {s : State} {tok : CmdTok} {p : Page} {rs : List StageRec}

/-- Every record fits (R67), what is written lies in powered banks (R69), and R76 leaves room: the page is staged. -/
theorem stageRecs_stages (hfit : firstBad (fun r => entryOk p r.1 r.2.1 r.2.2) rs = none)
    (hon : firstBad (fun r => r.2.2 == emptyEntry || bankOn s (bankOf r.1 r.2.1)) rs = none)
    (hmon : monCount (putRecs p rs) ≤ 262144) :
    stageRecs tok p rs s = completeOk tok (stageRes rs.length noPos) (stage (putRecs p rs) rs.length s) := by
  simp only [stageRecs, hfit, hon]
  exact if_neg (Nat.not_lt.2 hmon)

/-- A record that does not fit refuses all of them (R73). -/
theorem stageRecs_misfit {n : Nat} (hbad : firstBad (fun r => entryOk p r.1 r.2.1 r.2.2) rs = some n) :
    stageRecs tok p rs s = refuse tok stBadArgument (stageRes 0 n) s := by
  simp only [stageRecs, hbad]

/-- A buffer of well-formed records is staged as an inline list is, on the page that CLEAR leaves (R74). -/
theorem stageBulk_wellFormed {clear : Bool} {bs : Bytes} (hbs : bulkRecs bs = rs.map some)
    (hp : p = if clear then clearTiers s.page.staged rs else s.page.staged) : stageBulk tok clear bs s = stageRecs tok p rs s := by
  have hgood : (rs.map some).filterMap id = rs := by simp
  unfold stageBulk
  simp only [hbs, hgood, ← hp, List.findIdx?_map, Function.comp_def]
  cases hfit : firstBad (fun r => entryOk p r.1 r.2.1 r.2.2) rs with
  | some n =>
    rw [firstBad] at hfit
    rw [hfit, stageRecs_misfit hfit]
  | none =>
    rw [firstBad] at hfit
    rw [hfit]

/-- Carrier records that are all well formed, with powered banks for those that are configured, are staged in order (R111). -/
theorem stageCarriers_stages {first : Nat} {cs : List (BitVec 128)} (hok : cs.findIdx? (fun r => !carrierOk r) = none)
    (hon : (List.range cs.length).findIdx? (fun i => cs.getD i emptyCarrier != emptyCarrier && !bankOn s ((first + i) / 512)) = none) :
    stageCarriers tok first cs s = completeOk tok [(0, 2, first), (2, 2, cs.length)]
      (stage ((List.range cs.length).foldl (fun p i => putCarrier p (first + i) (cs.getD i emptyCarrier)) s.page.staged)
        cs.length s) := by
  simp only [stageCarriers, hok, hon]

/-- The one record of FORM 0. -/
theorem stageCarriers_one {first : Nat} {r : BitVec 128} (hok : carrierOk r = true)
    (hon : r = emptyCarrier ∨ bankOn s (first / 512) = true) :
    stageCarriers tok first [r] s =
      completeOk tok [(0, 2, first), (2, 2, 1)] (stage (putCarrier s.page.staged first r) 1 s) := by
  refine stageCarriers_stages (by simp [hok]) ?_
  obtain rfl | hon := hon
  · simp
  · simp [hon]

/-- A buffer whose pieces the descriptor gives is read before the command goes on (R304). -/
theorem withRead_ok {d : BitVec 128} {ok : Nat → Bool} {fs : Byte → List Field} {go : Bytes → State → State}
    {segs : List (Nat × Nat)} (h : segments s d false ok = .ok segs) : withRead tok d ok fs go s = go (readSegs s segs) s := by
  unfold withRead
  rw [h]

end

/-- Settles O4: each command, once it starts, stages all its records or none. -/
theorem completesStaging : Obligations.CompletesStaging := by
  refine ⟨?inline, ?misfit, ?bulk, ?bulkMisfit, ?carrier, ?carriers, stage_pages⟩
  case inline =>
    intro s c pos rest h hfit hon hmon
    rw [exec_starts rfl rfl h, stageRecs_stages hfit hon hmon]
  case misfit =>
    intro s c pos rest n h hbad
    rw [exec_starts rfl rfl h, stageRecs_misfit hbad]
  case bulk =>
    intro s c pos rest segs rs p h hseg hbs hp hfit hon hmon
    rw [exec_starts rfl rfl h, withRead_ok hseg, stageBulk_wellFormed hbs hp, stageRecs_stages hfit hon hmon]
  case bulkMisfit =>
    intro s c pos rest segs rs n h hseg hbs hclear hbad
    rw [exec_starts rfl rfl h, withRead_ok hseg, stageBulk_wellFormed hbs (if_neg (by simp [hclear])).symm, stageRecs_misfit hbad]
  case carrier =>
    intro s c pos rest h hform _ hok hon
    rw [exec_starts rfl rfl h, if_neg (by simp [hform]), stageCarriers_one hok hon]
  case carriers =>
    intro s c pos rest segs rs h hform hseg hrs hok hon
    have hlen : rs.length = arg c 2 2 := by simp [hrs]
    rw [exec_starts rfl rfl h, if_pos hform, withRead_ok hseg, ← hrs, stageCarriers_stages hok hon, hlen]

end Sys2Proof.Proofs
end

section
/-! A commit whose boundary has failed it (R84, R85), and the rows of a commit outside a pair or group: the solver's end, the
readiness and the final point (R82, R83), and the closing of a journal record (R432, R434). -/
namespace Sys2Proof.Proofs
open Machine

/-- Posting an event touches the host's side alone (R300). -/
theorem postAt_host (code : Byte) (fn : FN) (p : BitVec 160) (s : State) :
    postAt code fn p s = { s with host := (postAt code fn p s).host } := by
  unfold postAt
  split
  · rfl
  · dsimp only
    split
    · split <;> rfl
    · split <;> rfl

-- Resolving a commit by its flag (R85, R88).

@[simp] theorem sendMate_isBellwether (chan : Nat) (m : Bytes) (s : State) : isBellwether (sendMate chan m s) = isBellwether s := by
  unfold sendMate
  split <;> rfl

@[simp] theorem sendGroup_isBellwether (type : Nat) (m : Bytes) (s : State) : isBellwether (sendGroup type m s) = isBellwether s := by
  unfold sendGroup
  split
  · rfl
  · split <;> rfl

@[simp] theorem mirrorStaged_isBellwether (s : State) : isBellwether (mirrorStaged s) = isBellwether s := by
  unfold mirrorStaged
  split
  · rfl
  · dsimp only
    split
    · rw [sendGroup_isBellwether, sendMate_isBellwether]
      rfl
    · rw [sendMate_isBellwether]
      rfl

theorem post_isBellwether (code : Byte) (fs : List Field) (s : State) : isBellwether (post code fs s) = isBellwether s := by
  rw [post, postAt_host]
  rfl

@[simp] theorem completeOpt_page (tok : Option CmdTok) (st obj : Byte) (r : Word64) (s : State) :
    (completeOpt tok st obj r s).page = s.page := by
  cases tok <;> rfl

theorem endCommit_job (st obj : Byte) (r : Word64) (s : State) : (endCommit st obj r s).page.job = none := by
  unfold endCommit
  split
  · rfl
  · dsimp only
    split <;> simp [openPage]

/-- A commit that is stopped is no longer scheduled (R85). -/
theorem stopCommit_job (st : Byte) (s : State) : (stopCommit st s).page.job = none := by
  unfold stopCommit
  split
  · assumption
  · split <;> exact endCommit_job ..

section
variable {s : State} {j : CommitJob}

theorem tooLate_of_no_job (h : s.page.job = none) : tooLate s = false := by
  simp only [tooLate, h]

/-- Only the Bellwether has a PREPARE to send in time (R281). -/
theorem tooLate_of_not_bellwether (h : isBellwether s = false) : tooLate s = false := by
  unfold tooLate
  split
  · simp [h]
  · rfl

theorem resolveLate_in_time (n : Nat) (h : tooLate s = false) : resolveLate n s = s := by
  cases n with
  | zero => rfl
  | succ n => exact if_neg (by simp [h])

/-- FAIL ends the commit before its first part has swapped (R85). -/
theorem resolveCause_fail (st : Byte) (b : Bool) (hj : s.page.job = some j) (hpart : j.part = 0) (hflag : j.flag = .fail) :
    resolveCause st b s = stopCommit st s := by
  have honce : resolveOnce st b s = stopCommit st s := by
    simp [resolveOnce, hj, hpart, hflag]
  rw [resolveCause, honce, resolveLate_in_time 9 (tooLate_of_no_job (stopCommit_job st s))]

/-- With DEFER and the first part, the commit moves to the next boundary, counted as a retry (R85). -/
theorem deferJob_first (b : Bool) (s : State) (hpart : j.part = 0) (hflag : j.flag = .defer) :
    (deferJob b s j).page.job = some { clearRound j with target := j.target + 1, retries := j.retries + 1 } := by
  simp [deferJob, hpart, hflag, setJob]

theorem deferJob_isBellwether (b : Bool) (s : State) (j : CommitJob) : isBellwether (deferJob b s j) = isBellwether s :=
  mirrorStaged_isBellwether _

/-- A boundary that DEFER lets pass is reported, and the commit is as `deferJob` leaves it (R85). -/
theorem resolveOnce_defer (st : Byte) (b : Bool) (hj : s.page.job = some j) (hpart : j.part = 0) (hflag : j.flag = .defer)
    (hretries : j.retries < 8) :
    (resolveOnce st b s).page = (deferJob b s j).page ∧ isBellwether (resolveOnce st b s) = isBellwether s := by
  have hwaits : ¬(b = true ∧ j.part ≠ 0) := by simp [hpart]
  have hends : ¬(j.flag = .fail ∨ 8 ≤ j.retries) := by simp [hflag, hretries]
  simp only [resolveOnce, hj, if_neg hwaits, if_neg hends]
  split
  · exact ⟨rfl, deferJob_isBellwether ..⟩
  · exact ⟨post_page .., (post_isBellwether ..).trans (deferJob_isBellwether ..)⟩

theorem resolveCause_defer (st : Byte) (b : Bool) (hj : s.page.job = some j) (hpart : j.part = 0)
    (hbell : isBellwether s = false) (hflag : j.flag = .defer) (hretries : j.retries < 8) :
    (resolveCause st b s).page.job = some { clearRound j with target := j.target + 1, retries := j.retries + 1 } := by
  obtain ⟨hpage, hsame⟩ := resolveOnce_defer st b hj hpart hflag hretries
  rw [resolveCause, resolveLate_in_time 9 (tooLate_of_not_bellwether (hsame.trans hbell)), hpage, deferJob_first b s hpart hflag]

-- ROUTE_SOLVE_DONE (R53).

/-- Outside a pair or group a part whose schedule is written keeps its boundary. -/
theorem partTarget_alone (h : inPair s = false) : partTarget s j = j.target := by
  simp [partTarget, h]

/-- Outside a pair or group, a solution without violations makes the commit ready for the boundary it aims at. -/
theorem solved_ready (hj : s.page.job = some j) (hready : j.ready = false) (hpair : inPair s = false)
    (hgood : routeVerdict (violations s s.page.staged) = 0) :
    solved s = { s with page := { s.page with
      solving := none, idle := some (solvePage s.page.sched (j.parts.headD s.page.staged)), job := some { j with ready := true } } } := by
  simp only [solved, hj, hready, Bool.false_eq_true, if_false, solvedNow, hgood]
  rw [if_neg (by decide), partTarget_alone]
  · exact if_neg (ne_true_of_eq_false hpair)
  · exact hpair

-- READINESS_POINT and FINAL_POINT (R82, R84).

theorem exec_readinessPoint_due {t u : State} (hdue : stepDue .readiness s = true) (hd : readinessDue s = true)
    (hu : u = stepDone .readiness t) (ht : readiness s = t) :
    exec .readinessPoint s = .next (irqEdge s (if u.clk.start.isEmpty then frameSends u else u)) :=
  congrArg (finish s) (runStep_due hdue hd (ht ▸ hu))

theorem exec_finalPoint_due {t u : State} (hdue : stepDue .final s = true) (hd : finalDue s = true)
    (hu : u = stepDone .final t) (ht : finalPoint s = t) :
    exec .finalPoint s = .next (irqEdge s (if u.clk.start.isEmpty then frameSends u else u)) :=
  congrArg (finish s) (runStep_due hdue hd (ht ▸ hu))

theorem readiness_warned (hj : s.page.job = some j) (hpfw : s.pwr.pfw = true) : readiness s = resolveCause stTimeout false s := by
  simp only [readiness, hj, if_pos hpfw]

/-- With no power-fail warning, a commit that is ready is announced (R90), and one that is not is resolved by its flag. -/
theorem readiness_unwarned (hj : s.page.job = some j) (hpfw : s.pwr.pfw = false) :
    readiness s = if j.ready then setJob (some { j with announced := true }) s else resolveCause stTimeout true s := by
  cases hr : j.ready <;> simp [readiness, hj, hpfw, hr]

/-- A commit of a lone module passes its final point when it has been announced; otherwise it is resolved by its flag. -/
theorem finalPoint_alone (hj : s.page.job = some j) (hpair : inPair s = false) (hpfw : s.pwr.pfw = false) :
    finalPoint s = if j.announced then toFinal s else resolveCause stTimeout (!j.ready) s := by
  simp [finalPoint, hj, hpair, hpfw]

end

-- JOURNAL_RECORD_CLOSE (R432, R434).

theorem journalClose_due {s : State} {r : JRecord} (h : s.jrn.due[nextRecord s]? = some r) :
    journalClose s = closeRecord r { s with jrn := { s.jrn with due := s.jrn.due.eraseIdx (nextRecord s) } } := by
  simp only [journalClose, h]

@[simp] theorem sendMate_flash (chan : Nat) (m : Bytes) (s : State) : (sendMate chan m s).flash = s.flash := by
  unfold sendMate
  split <;> rfl

@[simp] theorem sendMate_jrn (chan : Nat) (m : Bytes) (s : State) : (sendMate chan m s).jrn = s.jrn := by
  unfold sendMate
  split <;> rfl

theorem journalNote_flash (kind seq : Nat) (s : State) : (journalNote kind seq s).flash = s.flash := by
  rw [journalNote, post, postAt_host]

theorem journalNote_jrn (kind seq : Nat) (s : State) : (journalNote kind seq s).jrn = s.jrn := by
  rw [journalNote, post, postAt_host]

section
variable {r : JRecord} {s : State} (hfault : s.jrn.fault = false)
include hfault

/-- With room for it, the record closes under the next number. -/
theorem closeRecord_fits (hroom : s.flash.used + s.flash.spill + r.size ≤ journalArea) :
    (closeRecord r s).flash.journal = s.flash.journal ++ [{ r with seq := s.jrn.nextSeq }] ∧
      (closeRecord r s).jrn.nextSeq = s.jrn.nextSeq + 1 := by
  simp only [closeRecord, hfault, Bool.false_eq_true, if_false, if_neg (Nat.not_lt.2 hroom), apply_ite State.flash,
    apply_ite State.jrn, sendMate_flash, sendMate_jrn, ite_self, bump_flash, bump_jrn, and_self]

/-- Without room the record is lost and the journal faults (R434). -/
theorem closeRecord_full (hfull : journalArea < s.flash.used + s.flash.spill + r.size) :
    (closeRecord r s).jrn.fault = true ∧ (closeRecord r s).flash.lostRecord = true ∧
      (closeRecord r s).flash.journal = s.flash.journal := by
  simp only [closeRecord, hfault, Bool.false_eq_true, if_false, if_pos hfull, faultJournal, raise_flash, raise_jrn,
    journalNote_flash, journalNote_jrn, and_self]

end

/-- Settles O19: each row answers what its function answers, in the branch that the hypotheses of the clause choose. -/
theorem completesOwnCommit : Obligations.CompletesOwnCommit := by
  refine ⟨?solveDone, ?announced, ?unready, ?warned, ?passes, ?unannounced, ?fails, ?defers, ?record, fun _ _ => closeRecord_fits,
    fun _ _ => closeRecord_full⟩
  case solveDone =>
    intro s j hj hsolving hready _ hpair hgood
    have hworks : s.page.solving.isSome = true := Option.isSome_iff_ne_none.2 hsolving
    exact congrArg (finish s) ((if_pos hworks).trans (solved_ready hj hready hpair hgood))
  case announced =>
    intro s j u hdue hj hd hpfw hready hu
    exact exec_readinessPoint_due hdue hd hu ((readiness_unwarned hj hpfw).trans (if_pos hready))
  case unready =>
    intro s j u hdue hj hd hpfw hready hu
    exact exec_readinessPoint_due hdue hd hu ((readiness_unwarned hj hpfw).trans (if_neg (by simp [hready])))
  case warned =>
    intro s j u hdue hj hd hpfw hu
    exact exec_readinessPoint_due hdue hd hu (readiness_warned hj hpfw)
  case passes =>
    intro s j u hdue hj hpair hd hpfw hann hu
    exact exec_finalPoint_due hdue hd hu ((finalPoint_alone hj hpair hpfw).trans (if_pos hann))
  case unannounced =>
    intro s j u hdue hj hpair hd hpfw hann hu
    exact exec_finalPoint_due hdue hd hu ((finalPoint_alone hj hpair hpfw).trans (if_neg (by simp [hann])))
  case fails =>
    intro st b s j hj hpart hflag
    exact ⟨resolveCause_fail st b hj hpart hflag, stopCommit_job st s⟩
  case defers =>
    intro st b s j hj hpart hbell hflag hretries
    exact ⟨_, resolveCause_defer st b hj hpart hbell hflag hretries, rfl, rfl⟩
  case record =>
    intro s r hr
    exact congrArg (finish s) (journalClose_due hr)

end Sys2Proof.Proofs
end

section
/-! A commit of a twin pair or group (R279 to R283): its deadlines and the messages PREPARE to REFUSE, at the Bellwether and at
another member. -/
namespace Sys2Proof.Proofs
open Machine

section
variable {s : State} {j : CommitJob} {sl : Nat} {u : Bool} {m : Bytes} (hj : s.page.job = some j)

-- PREPARE at a participant (R281).

/-- A member that can take part and has no commit of its own seals its open page for the one that the PREPARE describes. -/
theorem prepareRx_seals (hnone : s.page.job = none) (hopen : s.page.state = .opened) (hmode : s.mode.mode = .standby)
    (hsync : s.mode.sync = 3) (hfenced : s.grp.fenced = false) (hbehind : s.grp.behind = false) (hbell : isBellwether s = false)
    (hid : (msgId m != 0) = true) (hnamed : ((byteAt m 13) &&& memberBit (ownMember s) != 0) = true) :
    prepareRx sl u m s = { s with page := { s.page with
      state := .sealed, job := some (jobOfPrepare s sl u m), solving := some s.clk.fn, kept := false } } := by
  unfold prepareRx
  extract_lets mayTake
  have htake : mayTake = true := by
    simp only [mayTake, hmode, hsync, hfenced, hbehind, hbell, hid, hnamed, decide_true, Bool.and_true, Bool.or_true,
      Bool.not_false]
  rw [if_neg (by simp [htake]), hnone]
  exact if_neg (not_not_intro hopen)

include hj

theorem abortRound_job (cause : Nat) (st : Byte) : abortRound cause st s = resolveCause st false (sendAbort cause j s) := by
  simp only [abortRound, hj]

-- At the Bellwether (R281, R283).

section
variable (hbell : isBellwether s = true)
include hbell

theorem prepareDeadline_passed (hfn : s.clk.fn = fnOf j.target - 96) (hprep : j.prepared = false) :
    prepareDeadline s = resolveCause stTimeout (!j.ready) s := by
  simp [prepareDeadline, hj, hbell, hfn, hprep]

/-- A READY of a part prepared ahead marks its sender there (R283). -/
theorem readyRx_ahead (hahead : (j.ahead.any fun a => a.id == msgId m) = true) (hfp : be m 14 8 = s.page.stagedFp.toNat) :
    readyRx sl u m s = setJob (some { j with
      ahead := j.ahead.map fun a =>
        if a.id = msgId m ∧ a.target = msgTarget m then { a with readyFrom := a.readyFrom ||| memberBit (memberOf sl u) }
        else a }) s := by
  simp only [readyRx, hj]
  exact if_pos ⟨hbell, hahead, hfp⟩

/-- A READY of the round marks its sender if it shows the fingerprint of the staged page, and aborts the round if not. -/
theorem readyRx_round (hahead : (j.ahead.any fun a => a.id == msgId m) = false) (hround : ofRound j m = true)
    (hprep : j.prepared = true) (hsent : j.sentCommit = false) :
    readyRx sl u m s = if be m 14 8 ≠ s.page.stagedFp.toNat then abortRound 3 stGroupDisagree s
      else checkReady (setJob (some { j with readyFrom := j.readyFrom ||| memberBit (memberOf sl u) }) s) := by
  simp [readyRx, hj, hbell, hahead, hround, hprep, hsent]

theorem readyDeadline_missed (hfn : s.clk.fn = fnOf j.target - 28) (hprep : j.prepared = true) (hsent : j.sentCommit = false)
    (hpfw : s.pwr.pfw = false) : readyDeadline s = abortRound 2 stGroupDisagree s := by
  simp [readyDeadline, hj, hbell, hfn, hprep, hsent, hpfw]

theorem ackRx_round (hround : ofRound j m = true) (hsent : j.sentCommit = true) :
    ackRx sl u m s = checkAcks (setJob (some { j with ackFrom := j.ackFrom ||| memberBit (memberOf sl u) }) s) := by
  simp [ackRx, hj, hbell, hround, hsent]

theorem ackDeadline_missed (hfn : s.clk.fn = fnOf j.target - 24) (hsent : j.sentCommit = true) (hann : j.announced = false)
    (hpfw : s.pwr.pfw = false) : ackDeadline s = abortRound 4 stGroupDisagree s := by
  simp [ackDeadline, hj, hbell, hfn, hsent, hann, hpfw]

theorem refuseRx_round (hround : ofRound j m = true) (hfinal : s.page.state ≠ .final) :
    refuseRx m s = abortRound 5 stTimeout s := by
  simp [refuseRx, hj, hbell, hround, hfinal]

end

/-- While a READY is missing, no COMMIT is sent. -/
theorem checkReady_waits (hmissing : j.participants &&& ~~~j.readyFrom ≠ 0) : checkReady s = s := by
  simp only [checkReady, hj]
  exact if_neg fun ⟨_, _, _, hall, _⟩ => hmissing hall

theorem checkAcks_all (hsent : j.sentCommit = true) (hpfw : s.pwr.pfw = false) (hall : j.participants &&& ~~~j.ackFrom = 0) :
    checkAcks s = setJob (some { j with announced := true }) s := by
  simp only [checkAcks, hj]
  exact if_pos ⟨hsent, by simp [hpfw], hall⟩

-- At another member (R282, R283).

section
variable (hbell : isBellwether s = false)
include hbell

theorem commitRx_holds (hround : ofRound j m = true) (haborted : j.aborted = false) (htakes : takesPart s j = true)
    (hfinal : s.page.state ≠ .final) (hpfw : s.pwr.pfw = false) :
    commitRx m s =
      sendCommitMsg 0x13 (commitPayload j 0 0) (setJob (some { j with holdsCommit := true, announced := true }) s) := by
  simp [commitRx, hj, hbell, hround, haborted, htakes, hfinal, hpfw]

/-- An ABORT of a part prepared ahead drops it and those behind it (R283). -/
theorem abortRx_ahead (hahead : (j.ahead.any fun a => a.id == msgId m && a.target == msgTarget m) = true) :
    abortRx m s = setJob (some { j with ahead := j.ahead.takeWhile fun a => a.id != msgId m }) s := by
  simp only [abortRx, hj]
  exact if_pos ⟨by simp [hbell], hahead⟩

/-- An ABORT of another unit's commit, before T − 8: cause 1 opens the page, any other cause holds the commit over (R282). -/
theorem abortRx_round (hahead : (j.ahead.any fun a => a.id == msgId m && a.target == msgTarget m) = false)
    (hround : ofRound j m = true) (hfinal : s.page.state ≠ .final) (hearly : fnGe s.clk.fn (fnOf j.target - 8) = false)
    (hown : j.own = false) : abortRx m s = if byteAt m 22 = 1 then openPage s else heldOver s := by
  simp only [abortRx, hj, hbell, hahead, hround, hfinal, hearly, hown, Bool.not_true, Bool.false_eq_true, and_false, or_self,
    if_false]

end

/-- FAIL, or the last retry, opens the page that was sealed for another unit's commit (R85). -/
theorem heldOver_ends (hown : j.own = false) (hends : j.flag = .fail ∨ 8 ≤ j.retries) : heldOver s = openPage s := by
  simp only [heldOver, hj, if_pos hends, hown, Bool.false_eq_true, if_false]

theorem heldOver_moves (hflag : j.flag ≠ .fail) (hretries : j.retries < 8) :
    heldOver s = setJob (some { clearRound j with aborted := true, target := j.target + 1, retries := j.retries + 1 }) s := by
  simp only [heldOver, hj]
  exact if_neg (not_or.2 ⟨hflag, Nat.not_le.2 hretries⟩)

end

/-- Settles O20: each row answers what its function answers, in the branch that the hypotheses of the clause choose. -/
theorem completesGroupCommit : Obligations.CompletesGroupCommit := by
  refine ⟨?prepareDeadline, ?prepare, ?ready, fun _ _ => checkReady_waits, ?readyAhead, ?abortAhead, ?readyDiffers,
    ?readyDeadline, ?commit, ?ack, fun _ _ => checkAcks_all, ?ackDeadline, ?abortOpens, ?abortMoves, ?refuse,
    fun cause st _ _ hj => abortRound_job hj cause st⟩
  case prepareDeadline =>
    intro s j hj hbell hfn hprep
    exact congrArg (finish s) (prepareDeadline_passed hj hbell hfn hprep)
  case prepare =>
    intro s sl u m hnone hopen hmode hsync hfenced hbehind hbell hid hnamed
    exact congrArg (finish s) (prepareRx_seals hnone hopen hmode hsync hfenced hbehind hbell hid hnamed)
  case ready =>
    intro s sl u m j hj hbell hahead hround hprep hsent hfp
    exact congrArg (finish s) ((readyRx_round hj hbell hahead hround hprep hsent).trans (if_neg (not_not_intro hfp)))
  case readyAhead =>
    intro s sl u m j hj hbell hahead hfp
    exact congrArg (finish s) (readyRx_ahead hj hbell hahead hfp)
  case abortAhead =>
    intro s sl u m j hj hbell hahead
    exact congrArg (finish s) (abortRx_ahead hj hbell hahead)
  case readyDiffers =>
    intro s sl u m j hj hbell hahead hround hprep hsent hfp
    exact congrArg (finish s) ((readyRx_round hj hbell hahead hround hprep hsent).trans (if_pos hfp))
  case readyDeadline =>
    intro s j hj hbell hfn hprep hsent hpfw
    exact congrArg (finish s) (readyDeadline_missed hj hbell hfn hprep hsent hpfw)
  case commit =>
    intro s sl u m j hj hbell hround haborted htakes hfinal hpfw
    exact congrArg (finish s) (commitRx_holds hj hbell hround haborted htakes hfinal hpfw)
  case ack =>
    intro s sl u m j hj hbell hround hsent
    exact congrArg (finish s) (ackRx_round hj hbell hround hsent)
  case ackDeadline =>
    intro s j hj hbell hfn hsent hann hpfw
    exact congrArg (finish s) (ackDeadline_missed hj hbell hfn hsent hann hpfw)
  case abortOpens =>
    intro s sl u m j hj hbell hahead hround hfinal hearly hown hends
    have hopens : (if byteAt m 22 = 1 then openPage s else heldOver s) = openPage s := by
      split
      · rfl
      · exact heldOver_ends hj hown (hends.resolve_left ‹_›)
    exact congrArg (finish s) ((abortRx_round hj hbell hahead hround hfinal hearly hown).trans hopens)
  case abortMoves =>
    intro s sl u m j hj hbell hahead hround hfinal hearly hown hcause hflag hretries
    exact congrArg (finish s) ((abortRx_round hj hbell hahead hround hfinal hearly hown).trans
      ((if_neg hcause).trans (heldOver_moves hj hflag hretries)))
  case refuse =>
    intro s sl u m j hj hbell hround hfinal
    exact congrArg (finish s) (refuseRx_round hj hbell hround hfinal)

end Sys2Proof.Proofs
end

section
/-! E1 and T1 carriers: the search for alignment (R119), its loss (R120, R121), multiframes and defects (R123, R124), slips
(R114) and held signalling (R125). -/
namespace Sys2Proof.Proofs
open Machine

/-- The positions whose bytes verify and which the carrier may take (R119 step 2). -/
def positionsFound (s : State) (c : Nat) (cs : List (Nat × Bytes)) : List Nat :=
  (cs.filter fun p => verifies (cT1 (carRec s c)) (isEsf (carRec s c)) p.2 && mayTake s (carRec s c) (carOf s c) p.1).map (·.1)

/-- One position found is taken, several are watched (R119 steps 2 and 3). -/
def takeOrWatch (c : Nat) (vs : List Nat) (s : State) : State :=
  match vs with
  | [] => putCar c { carOf s c with tied := [] } s
  | [p] => carTake c p false s
  | ps => putCar c { carOf s c with tied := ps, tiedFn := s.clk.fn } s

section
variable {s : State} {c : Nat}

-- The bars of a carrier (R119 step 4) and its held signalling (R125), which need no carrier that runs.

theorem exec_carrierBarLapse (c : Nat) (s : State) : exec (.carrierBarLapse c) s = .next (irqEdge s (putCar c
    { carOf s c with barred := (carOf s c).barred.filter fun b => decide ((s.clk.fn - b.fn).toNat < 256) } s)) := rfl

/-- Signalling held for SIG_HOLD × 100 ms goes idle (R125). -/
theorem carSigExpiry_elapsed {f : FN} (hhold : (carOf s c).sigHold = some f) (hidle : (carOf s c).sigIdle = false)
    (ht : 800 * cSigHold (carRec s c) ≤ (s.clk.fn - f).toNat) :
    carSigExpiry c s = putCar c { carOf s c with sigIdle := true } s := by
  simp only [carSigExpiry, hhold]
  exact if_pos ⟨by simp [hidle], ht⟩

section
variable (hruns : carRuns s c = true)
include hruns

-- The search for alignment (R119).

section
variable (hout : (carOf s c).aligned = false)
include hout

/-- With no tie watched, the positions found alone decide (R119 step 2). -/
theorem carVerify_untied {cs : List (Nat × Bytes)} {vs : List Nat} (htrib : tribBad s c = false)
    (htied : (carOf s c).tied = []) (hvs : positionsFound s c cs = vs) : carVerify c cs s = takeOrWatch c vs s := by
  subst hvs
  refine (if_neg (by simp [hruns, hout, htrib])).trans ?_
  simp only [htied, List.filter_nil, List.isEmpty_nil, if_true]
  rfl

/-- After 96 frames the first of the tied positions left is taken, as ambiguous when another is left (R119 step 3). -/
theorem carTie_elapsed {left : List Nat} {p : Nat} (ht : 96 ≤ (s.clk.fn - (carOf s c).tiedFn).toNat)
    (hp : firstPlace (carRec s c) (carOf s c) ((carOf s c).tied.filter fun q => left.contains q) = some p) :
    carTie c left s = carTake c p (decide (2 ≤ ((carOf s c).tied.filter fun q => left.contains q).length)) s := by
  have helapsed : decide ((s.clk.fn - (carOf s c).tiedFn).toNat < 96) = false := decide_eq_false (Nat.not_lt.2 ht)
  simp only [carTie, hruns, hout, helapsed, hp, Bool.not_true, Bool.or_self, Bool.false_eq_true, if_false]

end

/-- A false-lock exit is counted and ends the alignment; an E1 of FRAMING 1 declares LOMF (R119 step 4, R124). -/
theorem carFalseLock_due {errs total : Nat} (hdue : falseLockDue s c errs total = true) :
    carFalseLock c errs total s =
      let t := bump (96 + c / 1024) 2 1 (carLose c (decide (cMapping (carRec s c) ≠ 1)) s)
      if !cT1 (carRec s c) && decide (cFraming (carRec s c) = 1) then carDefect c bCarLomf true t else t :=
  if_neg (by simp [hruns, hdue])

/-- A defect bit other than LOMF and TRIB changes alone (R124). -/
theorem carChange_due {b : Nat} {on : Bool} {ev : List Nat} (hdue : carDefectDue s c b on ev = true) (hlomf : b ≠ bCarLomf)
    (htrib : b ≠ bTrib) : carChange c b on ev s = carDefect c b on s := by
  simp only [carChange, hruns, hdue, hlomf, htrib, Bool.not_true, Bool.or_self, decide_false, Bool.false_and,
    Bool.false_eq_true, if_false]

-- A carrier in alignment.

section
variable (hin : (carOf s c).aligned = true)
include hin

/-- After 3,200 frames without a CRC-4 multiframe the carrier falls back to interworking (R120). -/
theorem carInterwork_elapsed {f : FN} (hseek : (carOf s c).seek = some f) (hcrc : usesCrc4 (carRec s c) = true)
    (hframing : cFraming (carRec s c) = 2) (hmf : (carOf s c).mf = false) (ht : 3200 ≤ (s.clk.fn - f).toNat) :
    carInterwork c s = evalSig c (markPoint c (putCar c { carOf s c with interwork := true, seek := some s.clk.fn } s)) := by
  simp only [carInterwork, hseek]
  exact if_pos ⟨hruns, hcrc, hframing, hin, by simp [hmf], ht⟩

theorem carSlip_aligned (d : Bool) : carSlip c d s = bump (96 + c / 1024) 0 1 (putCar c { carOf s c with
    slips := (carOf s c).slips + 1, behind := if d then (carOf s c).behind - 1 else (carOf s c).behind + 1 } s) :=
  if_pos (by simp [hruns, hin])

theorem carLoss_lost {ev : List Nat}
    (hloses : losesAlignment (cT1 (carRec s c)) (isEsf (carRec s c)) (cNfasLoss (carRec s c)) ev = true) :
    carLoss c ev s = putCar c { carOf (carLose c false s) c with seek := none } (carLose c false s) :=
  if_pos (by simp [hruns, hin, hloses])

/-- A CAS multiframe found ends LOMF unless a CRC-4 multiframe is still to be found (R123, R124). -/
theorem carMultiframe_cas {ev : List Nat} (hcas : usesCas (carRec s c) = true) (hfound : casFound ev = true)
    (hlast : (carOf s c).mf = true ∨ cFraming (carRec s c) ≠ 1) :
    carMultiframe c true ev s =
      carDefect c bCarLomf false (markPoint c (putCar c { carOf s c with casMf := true } s)) := by
  have hall : ((carOf s c).mf || decide (cFraming (carRec s c) ≠ 1)) = true := by simpa using hlast
  simp only [carMultiframe, hruns, hin, hcas, hfound, hall, Bool.and_self, Bool.not_true, Bool.or_self, Bool.true_or,
    Bool.false_eq_true, if_false, if_true]

/-- A CRC-4 multiframe found ends LOMF of a carrier without CAS (R123, R124). -/
theorem carMultiframe_crc4 {ev : List Nat} (hcrc : usesCrc4 (carRec s c) = true) (hfound : crc4Found s.clk.fn.toNat ev = true)
    (hcas : usesCas (carRec s c) = false) :
    carMultiframe c false ev s = carDefect c bCarLomf false
      (markPoint c (putCar c { carOf s c with mf := true, interwork := false, seek := none } s)) := by
  simp only [carMultiframe, hruns, hin, hcrc, hfound, hcas, Bool.and_self, Bool.not_true, Bool.not_false, Bool.or_self,
    Bool.or_true, Bool.true_or, Bool.false_eq_true, if_false, if_true]

end
end
end

/-- Settles O27: each row answers what its function answers, in the branch that the hypotheses of the clause choose. -/
theorem completesCarriers : Obligations.CompletesCarriers := by
  refine ⟨?takes, ?watches, ?tie, ?falseLock, ?falseLockLomf, fun s car => exec_carrierBarLapse car s, ?interwork, ?defect,
    ?slip, ?signalling, ?loss, ?cas, ?crc4⟩
  case takes =>
    rintro s car cs r vs p hruns hout htrib htied rfl hvs rfl
    exact congrArg (finish s) (carVerify_untied hruns hout htrib htied hvs.symm)
  case watches =>
    rintro s car cs r vs p q ps hruns hout htrib htied rfl hvs rfl
    exact congrArg (finish s) (carVerify_untied hruns hout htrib htied hvs.symm)
  case tie =>
    rintro s car left p ps hruns hout ht rfl hp
    exact congrArg (finish s) (carTie_elapsed hruns hout ht hp)
  case falseLock =>
    intro s car errs total hruns hdue hother
    have hnotLomf : (!cT1 (carRec s car) && decide (cFraming (carRec s car) = 1)) = false := by
      obtain ht1 | hframing := hother
      · rw [ht1, Bool.not_true, Bool.false_and]
      · rw [decide_eq_false hframing, Bool.and_false]
    exact congrArg (finish s) ((carFalseLock_due hruns hdue).trans (if_neg (ne_true_of_eq_false hnotLomf)))
  case falseLockLomf =>
    intro s car errs total hruns hdue ht1 hframing
    exact congrArg (finish s) ((carFalseLock_due hruns hdue).trans (if_pos (by simp [ht1, hframing])))
  case interwork =>
    intro s car f hruns hseek hcrc hframing hin hmf ht
    exact congrArg (finish s) (carInterwork_elapsed hruns hin hseek hcrc hframing hmf ht)
  case defect =>
    intro s car b on ev hruns hdue hlomf htrib
    exact congrArg (finish s) (carChange_due hruns hdue hlomf htrib)
  case slip =>
    rintro s car d x hruns rfl hin
    exact congrArg (finish s) (carSlip_aligned hruns hin d)
  case signalling =>
    intro s car f hhold hidle ht
    exact congrArg (finish s) (carSigExpiry_elapsed hhold hidle ht)
  case loss =>
    rintro s car ev t hruns hin hloses rfl
    exact congrArg (finish s) (carLoss_lost hruns hin hloses)
  case cas =>
    rintro s car ev t hruns hin hcas hfound hlast rfl
    exact congrArg (finish s) (carMultiframe_cas hruns hin hcas hfound hlast)
  case crc4 =>
    rintro s car ev t hruns hin hcrc hfound hcas rfl
    exact congrArg (finish s) (carMultiframe_crc4 hruns hin hcrc hfound hcas)

end Sys2Proof.Proofs
end

section
/-! LANE_CONFIG (R327, R328): what CONFIGURE, VBL_SEND and VBL_RX_BUFFER do once they start. -/
namespace Sys2Proof.Proofs
open Machine

section
variable {s : State} {c : CmdEntry} {tok : CmdTok}

-- CONFIGURE of a mode that the quad of the lane takes (R130) and for which it has power.

section
variable (hfree : laneConflict s (arg c 1 1) (arg c 2 1) = false) (hon : arg c 2 1 = 0 ∨ domOn s (arg c 1 1 / 4) = true)
include hon

theorem not_unpowered : ¬(arg c 2 1 ≠ 0 ∧ (!domOn s (arg c 1 1 / 4)) = true) := by
  rintro ⟨hmode, hoff⟩
  obtain hdark | hon := hon
  · exact hmode hdark
  · simp [hon] at hoff

include hfree

/-- Without a buffer the lane takes the setting of the entry (R327). -/
theorem configureBody_entry (hlen : c.len ≠ 40) :
    configureBody c tok s = atOnceOrBoundary tok (.lane (arg c 1 1) (laneOf c (laneCfg s.cfg (arg c 1 1))))
      [(0, 1, arg c 1 1), (1, 1, arg c 2 1)] s :=
  (if_neg (ne_true_of_eq_false hfree)).trans ((if_neg (not_unpowered hon)).trans (if_neg hlen))

/-- With a buffer whose slot map fits the mode, the lane takes the settings of the buffer too (R133, R328). -/
theorem configureBody_buffer {segs : List (Nat × Nat)} (hlen : c.len = 40)
    (hseg : segments s (descAt c 24) false (· == 1024) = .ok segs)
    (hmap : slotMapOk (arg c 2 1) (slice (readSegs s segs) 128 80) = true) :
    configureBody c tok s = atOnceOrBoundary tok
      (.lane (arg c 1 1) (withBuffer (laneOf c (laneCfg s.cfg (arg c 1 1))) (readSegs s segs)))
      [(0, 1, arg c 1 1), (1, 1, arg c 2 1)] s :=
  (if_neg (ne_true_of_eq_false hfree)).trans ((if_neg (not_unpowered hon)).trans
    ((if_pos hlen).trans ((withRead_ok hseg).trans (if_pos hmap))))

end

/-- A VBL lane with room takes the message last in its queue (R143), and the RESULT names the frame (R327). -/
theorem vblSendBody_queues {segs : List (Nat × Nat)} {t : State} (hroom : (waitingOn s (arg c 1 1)).length < 64)
    (hmode : laneMode s.cfg (arg c 1 1) = 0x18)
    (hseg : segments s (descAt c 8) false (· == sendLength (arg c 4 2)) = .ok segs)
    (ht : queueVbl (arg c 1 1) (BitVec.ofNat 8 (arg c 2 1)) ((readSegs s segs).take (arg c 4 2)) s = t) :
    vblSendBody c tok s = completeOk tok [(0, 6, (s.clk.fn + BitVec.ofNat 48 (framesFor ((waitingOn t (arg c 1 1)).map
      fun m => msgBytes m.2.2) 4096 1)).toNat)] t := by
  subst ht
  exact (if_neg (Nat.not_le.2 hroom)).trans ((if_neg (not_not_intro hmode)).trans (withRead_ok hseg))

end

/-- Settles O2: each command, once it starts, leaves what its body leaves, and CONFIGURE applies its effect by the mode. -/
theorem completesLane : Obligations.CompletesLane := by
  refine ⟨?configure, ?configureActive, ?configureBuffer, ?send, ?rxBuffer⟩
  case configure =>
    intro s c pos rest h ha hlen hfree hon hm
    rw [exec_starts rfl (beq_of_eq ha) h, configureBody_entry hfree hon hlen, atOnceOrBoundary_of_not_active hm]
  case configureActive =>
    intro s c pos rest h ha hlen hfree hon hm
    rw [exec_starts rfl (beq_of_eq ha) h, configureBody_entry hfree hon hlen, atOnceOrBoundary_of_active hm]
  case configureBuffer =>
    intro s c pos rest segs h ha hlen hfree hon hseg hmap
    rw [exec_starts rfl (beq_of_eq ha) h, configureBody_buffer hfree hon hlen hseg hmap]
  case send =>
    intro s c pos rest segs t h ha hroom hmode hseg ht
    rw [exec_starts rfl (beq_of_eq ha) h, vblSendBody_queues hroom hmode hseg ht.symm]
  case rxBuffer =>
    intro s c pos rest segs h ha hroom hseg
    rw [exec_starts rfl (beq_of_eq ha) h, if_neg (Nat.not_le.2 hroom), hseg]

end Sys2Proof.Proofs
end

section
/-! The VBL lanes: headers and their bitmap (R140, R142, R151), trust (R145, R182), the message channel (R144), the search for
frame and its loss (R150), and the defects (R151, R152). -/
namespace Sys2Proof.Proofs
open Machine

theorem falseLocked_iff (ns : List Nat) :
    falseLocked ns = true ↔ 8 ≤ ns.length ∧ ∀ n ∈ ns.drop (ns.length - 8), 720 ≤ n := by
  simp only [falseLocked, Bool.and_eq_true, decide_eq_true_eq, List.all_eq_true]

theorem wordsLost_iff (ws : List Bytes) :
    wordsLost ws = true ↔ 5 ≤ ws.length ∧ ∀ w ∈ ws.drop (ws.length - 5), 3 < wordErrors w := by
  simp only [wordsLost, Bool.and_eq_true, decide_eq_true_eq, List.all_eq_true]

theorem candVerifies_iff (c : VblCand) :
    candVerifies c = true ↔ c.word.length = 16 ∧ wordErrors c.word ≤ 3 ∧ c.uncorr ≤ 16 ∧ crcGood c.header 88 = true := by
  simp only [candVerifies, Bool.and_eq_true, decide_eq_true_eq, and_assoc]

section
variable {s : State} {l : Nat} {m : Bytes}

-- A header of a receiver in frame (R140, R151).

theorem headerRx_bad (hcrc : crcGood m 88 = false) :
    headerRx l m s = putVbl l { vblOf s l with bad := (vblOf s l).bad + 1, good := 0 } s :=
  if_pos (by simp [hcrc])

/-- A good header is held and counted in the runs, and its bitmap goes to the filter (R142). -/
theorem headerRx_good (hcrc : crcGood m 88 = true) {diff rf : Bool}
    (hdiff : diff = decide (vblField m 32 4 ≠ (laneCfg s.cfg l).cardId.toNat)) (hrf : rf = bit (byteAt m 86) 6) :
    headerRx l m s = takeBitmap l m (putVbl l { vblOf s l with
      hdr := m, bad := 0, good := (vblOf s l).good + 1,
      idDiff := diff, idRun := runOn (vblOf s l).idDiff diff (vblOf s l).idRun,
      rf := rf, rfRun := runOn (vblOf s l).rf rf (vblOf s l).rfRun } s) := by
  subst hdiff hrf
  exact if_neg (by simp [hcrc])

-- The messages of a block (R144).

section
variable (hopen : (vblOf s l).stopped = false)
include hopen

/-- A message in form of a type from 0x40 on is relayed, while fewer than 8 were in this frame (R144, R329). -/
theorem messageRx_relays (hmax : be m 0 2 ≤ 4088) (hlen : m.length = be m 0 2 + 8) (hcrc : crcGood m (4 + be m 0 2) = true)
    (htype : 0x40 ≤ (byteAt m 2).toNat) (hroom : (vblOf s l).relayed < 8) : messageRx l m s = relayMessage l m s := by
  have hnotEnd : ¬(be m 0 2 = 0 ∧ byteAt m 2 = 0) := fun h => by simp [h.2] at htype
  have hform : ¬(4088 < be m 0 2 ∨ m.length ≠ be m 0 2 + 8 ∨ (!crcGood m (4 + be m 0 2)) = true) := by
    simp [hmax, hlen, hcrc]
  exact (if_neg (ne_true_of_eq_false hopen)).trans ((if_neg hnotEnd).trans ((if_neg hform).trans
    ((if_neg (Nat.not_lt.2 htype)).trans (if_neg (Nat.not_le.2 hroom)))))

/-- A message out of form is dropped and ends the parse of its block (R144). -/
theorem messageRx_misformed (hn : be m 0 2 ≠ 0)
    (hbad : 4088 < be m 0 2 ∨ m.length ≠ be m 0 2 + 8 ∨ crcGood m (4 + be m 0 2) = false) :
    messageRx l m s = stopBlock l (dropMessage l s) :=
  (if_neg (ne_true_of_eq_false hopen)).trans ((if_neg fun h => hn h.1).trans (if_pos (by simpa using hbad)))

end

section
variable (hvbl : isVbl s l = true)
include hvbl

/-- In frame the receiver hands its headers on. -/
theorem exec_vblHeaderRx_inFrame (hin : (rxOf s l).inFrame = true) :
    exec (.vblHeaderRx l m) s = finish s (headerRx l (fit 92 m) s) :=
  congrArg (finish s) (if_pos (by simp [hvbl, hin]))

/-- In frame the receiver hands its messages on. -/
theorem exec_vblMessageRx_inFrame (hin : (rxOf s l).inFrame = true) :
    exec (.vblMessageRx l m) s = finish s (messageRx l m s) :=
  congrArg (finish s) (if_pos (by simp [hvbl, hin]))

-- Trust (R145, R182).

theorem trustRestore_quiet (hon : (distrustOf s l).on = true) (hforced : (distrustOf s l).forced = false)
    (hquiet : (distrustCfg s l).2 ≤ (distrustOf s l).quiet) : trustRestore l s = setDistrust l false false (s.clk.fn + 1) s :=
  if_pos (by simp [hvbl, hon, hforced, hquiet])

theorem distrustRepeat_due (hsince : (distrustOf s l).since ≠ 0) (ht : (s.clk.fn - (distrustOf s l).since).toNat = 8000) :
    distrustRepeat l s = sendTrust l (distrustOf s l).on (distrustOf s l).since s :=
  if_pos ⟨hvbl, hsince, by omega, by omega, by omega⟩

-- Frame search and loss of frame (R150).

/-- Out of frame, the least candidate among those that verify and are not barred is taken (R150 steps 2 and 3). -/
theorem vblVerify_takes {cands : List VblCand} {x : VblCand} (hout : (rxOf s l).inFrame = false)
    (hx : leastBy (·.uncorr) (cands.filter fun c => candVerifies c && !barredAt s (rxOf s l) c.pos) = some x) :
    vblVerify l cands s =
      changeDefect 7 l bVblOof false (putRx l { rxOf s l with inFrame := true, pos := x.pos, since := s.clk.fn } s) := by
  refine (if_neg (by simp [hvbl, hout])).trans ?_
  rw [hx]

/-- Lost alignment words or a false lock end the frame; the false lock alone bars the position (R150 steps 4 and 5). -/
theorem vblOutOfFrame_lost (ws : List Bytes) (ns : List Nat) (hin : (rxOf s l).inFrame = true)
    (hlost : wordsLost ws = true ∨ falseLocked ns = true) :
    vblOutOfFrame l ws ns s = changeDefect 7 l bVblOof true (putRx l { rxOf s l with
      inFrame := false, since := s.clk.fn,
      barred := if falseLocked ns then { pos := (rxOf s l).pos, fn := s.clk.fn } :: (rxOf s l).barred
        else (rxOf s l).barred } s) := by
  have hshown : (wordsLost ws || falseLocked ns) = true := Bool.or_eq_true_iff.2 hlost
  exact if_neg (by simp [hvbl, hin, hshown])

/-- A bar of 32 frames lapses whatever else verified (R150 step 5). -/
theorem vblBarLapse_vbl : vblBarLapse l s = putRx l { rxOf s l with
    barred := (rxOf s l).barred.filter fun x => decide ((s.clk.fn - x.fn).toNat < 32) } s :=
  if_pos hvbl

/-- A defect that is due changes, and a lane no longer down starts its bitmap afresh (R151, R152, R182). -/
theorem vblDefect_due {b : Nat} {on : Bool} (hdue : vblDefectDue s l b on = true) :
    vblDefect l b on s = evalSlots (if vblDown s l && !vblDown (changeDefect 7 l b on s) l
      then freshBitmap l (changeDefect 7 l b on s) else changeDefect 7 l b on s) :=
  if_neg (by simp [hvbl, hdue])

end
end

/-- Settles O24: each row answers what its function answers, in the branch that the hypotheses of the clause choose. -/
theorem completesVbl : Obligations.CompletesVbl := by
  refine ⟨?badHeader, ?goodHeader, ?trust, ?repeated, ?relay, ?misformed, ?verify, candVerifies_iff, ?wordsLost, ?falseLock,
    falseLocked_iff, ?defect, fun s lane hvbl => congrArg (finish s) (vblBarLapse_vbl hvbl)⟩
  case badHeader =>
    intro s lane m hvbl hin hcrc
    rw [exec_vblHeaderRx_inFrame hvbl hin, headerRx_bad hcrc, finish]
  case goodHeader =>
    rintro s lane m h diff rf hvbl hin rfl hcrc hdiff hrf
    rw [exec_vblHeaderRx_inFrame hvbl hin, headerRx_good hcrc hdiff hrf, finish]
  case trust =>
    intro s lane hvbl hon hforced hquiet
    exact congrArg (finish s) (trustRestore_quiet hvbl hon hforced hquiet)
  case repeated =>
    intro s lane hvbl hsince ht
    exact congrArg (finish s) (distrustRepeat_due hvbl hsince ht)
  case relay =>
    intro s lane m hvbl hin hopen hmax hlen hcrc htype hroom
    rw [exec_vblMessageRx_inFrame hvbl hin, messageRx_relays hopen hmax hlen hcrc htype hroom, finish]
  case misformed =>
    rintro s lane m t hvbl hin hopen hn hbad rfl
    exact (exec_vblMessageRx_inFrame hvbl hin).trans (congrArg (finish s) (messageRx_misformed hopen hn hbad))
  case verify =>
    intro s lane cands x hvbl hout hx
    exact congrArg (finish s) (vblVerify_takes hvbl hout hx)
  case wordsLost =>
    intro s lane ws ns hvbl hin hlen hws hlock
    have hlost := vblOutOfFrame_lost hvbl ws ns hin (.inl ((wordsLost_iff ws).2 ⟨hlen, hws⟩))
    rw [hlock] at hlost
    exact congrArg (finish s) hlost
  case falseLock =>
    intro s lane ws ns hvbl hin hlock
    have hlost := vblOutOfFrame_lost hvbl ws ns hin (.inr hlock)
    rw [hlock] at hlost
    exact congrArg (finish s) hlost
  case defect =>
    rintro s lane b on t hvbl hdue rfl
    exact congrArg (finish s) (vblDefect_due hvbl hdue)

end Sys2Proof.Proofs
end

section
/-! PM_CONFIG and PM_READ (R162, R177, R336), TAP_CONFIG (R391, R392), PRBS_CONFIG (R395, R397) and AUDIT_READ (R389). -/
namespace Sys2Proof.Proofs
open Machine

/-- The live page refuses a setting of a PRBS unit (R397); it never refuses to turn the unit off. -/
def prbsRefused (s : State) (u : Nat) : Option PrbsCfg → Bool
  | some x => prbsBad s u x
  | none => false

section
variable {s : State} {c : CmdEntry} {pos : Nat} {rest : List Fetched}

/-- With its FP a MONITOR port, TAP_CONFIG removes the tap, or puts one that the live page allows (R391). -/
theorem exec_tapConfig_starts (h : Starts s 0x60 c (tapChecks s c) pos rest) (hport : isMonitor s.cfg (arg c 8 1) = true) :
    exec (.tapConfig c) s = .next (irqEdge s (ended rest (
      if !argBit c 1 0 then
        completeOk (tokenOf 0x60 c pos) [] { s with bel := { s.bel with taps := terase s.bel.taps (arg c 0 1) } }
      else if tapBad s (arg c 0 1) (tapOf c s.page.live) then refuse (tokenOf 0x60 c pos) stBadArgument [] s
      else completeOk (tokenOf 0x60 c pos) [] (newTap (arg c 0 1) (tapOf c s.page.live)
        { s with bel := { s.bel with taps := tinsert s.bel.taps (arg c 0 1) (some (tapOf c s.page.live)) } })))) := by
  have hfp : ¬((!isMonitor s.cfg (tapOf c s.page.live).fp) = true) := by simp [tapOf, hport]
  rw [exec_starts rfl rfl h, if_neg hfp]

/-- A setting that the page allows is scheduled in ACTIVE and applied at once elsewhere (R395, R397). -/
theorem exec_prbsConfig_starts (h : Starts s 0x61 c (prbsChecks s c) pos rest)
    (hgood : prbsRefused s (arg c 0 1) (prbsOf c) = false) :
    exec (.prbsConfig c) s = .next (irqEdge s (ended rest (
      if s.mode.mode = .active then
        mirrorPrbs (schedule (fnOf (earliestBn s)) (some (tokenOf 0x61 c pos)) true
          (.prbs (arg c 0 1) (prbsOf c) (argBit c 8 0)) 0 s)
      else complete (tokenOf 0x61 c pos) stOk 0 (prbsRes s (arg c 0 1))
        (applyPrbs (arg c 0 1) (prbsOf c) (argBit c 8 0) s)))) := by
  rw [exec_starts rfl rfl h]
  exact congrArg (fun t => Host.Outcome.next (irqEdge s (ended rest t))) (if_neg (ne_true_of_eq_false hgood))

/-- Entries from the oldest to the newest SEQ held may be read (R389). -/
theorem not_outside_audit (hsome : s.bel.audit ≠ []) {n : Nat} (hlo : auditOldest s ≤ n) (hhi : n ≤ auditNewest s) :
    ¬(s.bel.audit.isEmpty ∨ n < auditOldest s ∨ auditNewest s < n) := by
  simp [hsome, hlo, hhi]

end

/-- Settles O9: each command, once it starts, leaves what its body leaves, PRBS_CONFIG by the mode. -/
theorem completesMonitoring : Obligations.CompletesMonitoring := by
  refine ⟨?selection, ?post, ?expected, ?withdraw, ?read, ?untap, ?tap, ?prbs, ?prbsActive, ?audit⟩
  case selection =>
    intro s c pos rest h ha
    rw [exec_starts rfl (beq_of_eq ha) h]
  case post =>
    intro s c pos rest segs h ha hroom hseg
    rw [exec_starts rfl (beq_of_eq ha) h, if_neg (Nat.not_le.2 hroom), hseg]
  case expected =>
    intro s c pos rest segs h ha hseg
    rw [exec_starts rfl (beq_of_eq ha) h, withRead_ok hseg]
  case withdraw =>
    intro s c pos rest h ha
    rw [exec_starts rfl (beq_of_eq ha) h]
  case read =>
    intro s c pos rest segs bs h hseg hbs
    rw [exec_starts rfl rfl h, withWrite_ok hseg, ← hbs]
  case untap =>
    intro s c pos rest h hport hoff
    rw [exec_tapConfig_starts h hport, if_pos (by simp [hoff])]
  case tap =>
    intro s c pos rest h hport hon hgood
    rw [exec_tapConfig_starts h hport, if_neg (by simp [hon]), if_neg (ne_true_of_eq_false hgood)]
  case prbs =>
    intro s c pos rest h hgood hm
    rw [exec_prbsConfig_starts h hgood, if_neg hm]
  case prbsActive =>
    intro s c pos rest h hgood hm
    rw [exec_prbsConfig_starts h hgood, if_pos hm]
  case audit =>
    intro s c pos rest segs h hsome hlo hhi hseg
    rw [exec_starts rfl rfl h, if_neg (not_outside_audit hsome hlo hhi), withWrite_ok hseg]

end Sys2Proof.Proofs
end

section
/-! Receivers of the lanes: the search for frame, its loss and the bars (R154, R155); the defects of lanes and paths (R163,
R169) and the bit error ratio (R168). -/
namespace Sys2Proof.Proofs
open Machine

section
variable {s : State} {k : Nat}

/-- One candidate left is taken, several are watched (R154 steps 2 and 3). -/
def takeWatched (k : Nat) (vs : List Nat) (x : RxState) (s : State) : State :=
  match vs with
  | [] => putRx k { x with tied := [] } s
  | [p] => takePosition k p false (putRx k x s)
  | ps => putRx k { x with tied := ps, tiedFn := s.clk.fn } s

theorem takeWatched_nil {x : RxState} (htied : x.tied = []) : takeWatched k [] x s = putRx k x s := by
  rw [takeWatched, ← htied]

section
variable (hrx : isReceiver s k = true)
include hrx

section
variable (hout : (rxOf s k).inFrame = false)
include hout

/-- With no tie watched, the candidates at which no bar stands alone decide (R154 steps 2 and 3). -/
theorem laneVerify_untied {cs vs : List Nat} {x : RxState}
    (hgroup : (decide (k < 128) && multiLane (laneMode s.cfg k) && groupLol s k) = false) (htied : (rxOf s k).tied = [])
    (hvs : vs = cs.filter fun q => !barStands s k (rxOf s k) q)
    (hx : x = { rxOf s k with barred := markOther s k vs (rxOf s k).barred }) : laneVerify k cs s = takeWatched k vs x s := by
  subst hvs hx
  refine (if_neg (by simp only [hrx, hout, hgroup]; decide)).trans ?_
  simp only [htied, List.filter_nil, List.isEmpty_nil, if_true]
  rfl

/-- A tie that has run its time takes the watched candidate with the fewest errors (R154 step 3). -/
theorem laneTie_elapsed {b1 : List (Nat × Nat)} {x : Nat × Nat}
    (ht : (if isOtnRx s k then 1 else 16) ≤ (s.clk.fn - (rxOf s k).tiedFn).toNat)
    (hx : leastBy (·.2) (b1.filter fun c => (rxOf s k).tied.contains c.1) = some x) :
    laneTie k b1 s =
      takePosition k x.1 (decide (2 ≤ (b1.filter fun c => (rxOf s k).tied.contains c.1).length)) s := by
  have helapsed : decide ((s.clk.fn - (rxOf s k).tiedFn).toNat < if isOtnRx s k then 1 else 16) = false :=
    decide_eq_false (Nat.not_lt.2 ht)
  refine (if_neg (by simp only [hrx, hout, helapsed]; decide)).trans ?_
  rw [hx]

/-- Bars whose time has run are readmitted unless another candidate has verified, and end at their full time (R154 step 6). -/
theorem laneReadmit_searching : laneReadmit k s = putRx k { rxOf s k with
    barred := ((rxOf s k).barred.filter fun b => b.other || decide ((s.clk.fn - b.fn).toNat < (barFrames s k).2)).filter
      fun b => decide ((s.clk.fn - b.fn).toNat < (barFrames s k).1),
    lifted := (rxOf s k).lifted ++ ((rxOf s k).barred.filter fun b =>
      !b.other && decide ((barFrames s k).2 ≤ (s.clk.fn - b.fn).toNat)).map (·.pos) } s :=
  if_neg (by simp [hrx, hout])

end

section
variable (hin : (rxOf s k).inFrame = true)
include hin

theorem exec_laneOof_inFrame : exec (.laneOof k) s = .next (irqEdge s (afterRx k (outOfFrame k false s))) :=
  congrArg (finish s) (if_pos (by simp [hrx, hin]))

/-- A position taken after readmission keeps its lock; any other falsely locked one is lost and barred (R154 step 5). -/
theorem laneFalseLock_shown {ev : List Nat} (hfirst : (rxOf s k).readmitted = false) (hshown : falseLocks s k ev = true) :
    laneFalseLock k ev s = afterRx k (outOfFrame k true s) :=
  if_pos (by simp [hrx, hin, hfirst, hshown])

end
end
end

-- LANE_DEFECT_CHANGE (R163, R169).

section
variable {s : State} {cls obj b : Nat} {on : Bool} {info : Bytes} {t : State}

/-- A bit other than LOS and 25 changes alone. -/
theorem laneChange_alone (h25 : b ≠ 25) (hlos : b ≠ bLos) : laneChange cls obj b on s = changeDefect cls obj b on s := by
  simp only [laneChange, h25, hlos, decide_false, Bool.false_and, Bool.false_eq_true, if_false]

section
variable (hbits : (laneBits cls).contains b = true) (hmon : isMonitored s cls obj = true)
  (hserved : bitServed s cls obj b = true) (ht : t = takeOh3 cls obj b info (takeOtn cls obj b info s))
include hbits hmon hserved ht

/-- What becomes of a bit that its row may bring, once its multiframe information is taken. -/
theorem laneDefect_served : laneDefect cls obj b on info s =
    if cls = 5 ∧ (b = 9 ∨ b = 10) then evalSlots (evalGroup obj t)
    else if b = timBit cls then (if info.isEmpty then t else acceptTrace cls obj info t)
    else if laneDefectDue t cls obj b on info then evalSlots (laneChange cls obj b on t)
    else t := by
  subst ht
  exact if_neg (by simp [hmon, hserved, hbits, -List.contains_eq_mem])

theorem laneDefect_due (hlogical : cls ≠ 5 ∨ (b ≠ 9 ∧ b ≠ 10)) (htim : b ≠ timBit cls) (h25 : b ≠ 25) (hlos : b ≠ bLos)
    (hdue : laneDefectDue t cls obj b on info = true) :
    laneDefect cls obj b on info s = evalSlots (changeDefect cls obj b on t) := by
  rw [laneDefect_served hbits hmon hserved ht, if_neg (by omega), if_neg htim, if_pos hdue, laneChange_alone h25 hlos]

/-- An accepted trace is no bit of a logical lane (R162). -/
theorem laneDefect_trace (htim : b = timBit cls) (hinfo : info ≠ []) :
    laneDefect cls obj b on info s = acceptTrace cls obj info t := by
  have hlogical : ¬(cls = 5 ∧ (b = 9 ∨ b = 10)) := by
    rintro ⟨rfl, hb⟩
    simp [htim, timBit] at hb
  rw [laneDefect_served hbits hmon hserved ht, if_neg hlogical, if_pos htim, if_neg (by simp [hinfo])]

end

-- PATH_DEFECT_CHANGE (R105 to R108, R163, R169).

/-- The bits that C2, G1 and V5 show: unequipped, RDI and RFI (R163). -/
theorem pathEvidence_bits {f : Byte → Bool} (h : pathEvidence cls b = some f) : b = 29 ∨ b = 32 ∨ b = 33 := by
  unfold pathEvidence at h
  split at h <;> simp_all

section
variable (hdue : pathDefectDue s cls obj b = true) (hserved : bitServed s cls obj b = true)
include hdue hserved

/-- A row of pointer words. -/
theorem pathDefect_pointers (hb : b = bLop ∨ b = bAisP) : pathDefect cls obj b on info s = takePointers cls obj info s :=
  (if_neg (by simp [hdue, hserved])).trans (if_pos hb)

theorem pathDefect_trace (hb : b = bTim) (hinfo : info ≠ []) :
    pathDefect cls obj b on info s = acceptTrace cls obj info s := by
  subst hb
  have hsome : ¬(info.isEmpty = true) := by simp [hinfo]
  exact (if_neg (by simp [hdue, hserved])).trans (if_neg hsome)

theorem pathDefect_label (hb : b = bPlm) : pathDefect cls obj b on info s = takeLabel cls obj info s := by
  subst hb
  exact if_neg (by simp [hdue, hserved])

theorem pathDefect_h4 (hb : b = 37) : pathDefect cls obj b on info s = takeH4 obj info s := by
  subst hb
  exact if_neg (by simp [hdue, hserved])

theorem pathDefect_structure (hb : b = 38) : pathDefect cls obj b on info s = takeStructure obj info s := by
  subst hb
  exact if_neg (by simp [hdue, hserved])

/-- Excessive pointers are more than 1,000 adjustments in a second (R169). -/
theorem pathDefect_invalidCode (hb : b = 56) :
    pathDefect cls obj b on info s = changeDefect cls obj b (decide (1000 < be info 0 info.length)) s := by
  subst hb
  exact if_neg (by simp [hdue, hserved])

/-- A bit shown by bytes changes when 5 of them agree; RDI-P alone brings a code with it (R163). -/
theorem pathDefect_shown {f : Byte → Bool} (hf : pathEvidence cls b = some f) (hlen : info.length = 5)
    (hall : (info.all fun v => f v == on) = true) (hcode : cls ≠ 2 ∨ b ≠ 32) :
    pathDefect cls obj b on info s = changeDefect cls obj b on s := by
  have hbits := pathEvidence_bits hf
  have hshown : persists 5 on f info = true := by simp only [persists, hlen, hall, decide_true, Bool.and_self]
  have hplain : ¬(cls = 2 ∧ b = 32) := by omega
  refine (if_neg (by simp [hdue, hserved])).trans ?_
  rw [if_neg (by simp only [bLop, bAisP]; omega), if_neg (by simp only [bLomH4]; omega), if_neg (by omega),
    if_neg (by simp only [bTim]; omega), if_neg (by simp only [bPlm]; omega), if_neg (by omega), if_neg (by omega), hf]
  simp only [hshown, hplain, Bool.not_true, Bool.false_eq_true, if_false]

end
end

-- BER_DECLARE (R168).

/-- An estimate of an object that its engine serves, with no server defect, declares or clears its threshold. -/
theorem berChange_estimated {s : State} {cls obj n : Nat} {on : Bool} {w : Nat} (hest : isEstimated s cls obj = true)
    (hserved : enginesServe s cls obj = true) (hup : serverDown s cls obj = false) (hlo : 3 ≤ n) (hhi : n ≤ 9)
    (hw : w = tget 0 s.dft.ber (objKey cls obj)) : berChange cls obj n on s = evalBands cls obj { s with dft := { s.dft with
      ber := tset 0 s.dft.ber (objKey cls obj) (if on then w ||| 2 ^ n else w - (w &&& 2 ^ n)) } } := by
  subst hw
  have hrange : decide (n < 3 ∨ 9 < n) = false := decide_eq_false (by omega)
  exact if_neg (by simp only [hest, hserved, hup, hrange]; decide)

/-- Settles O25: each row answers what its function answers, in the branch that the hypotheses of the clause choose. -/
theorem completesLanes : Obligations.CompletesLanes := by
  refine ⟨?takes, ?watches, ?finds, ?oof, ?falseLock, ?tie, ?readmits, ?defect, ?logical, ?laneTrace, ?shown, ?invalidCode,
    ?pointers, ?found, ?trace, ?label, ?h4, ?ber⟩
  case takes =>
    rintro s k cs _ x p hrx hout hgroup htied hvs hx rfl
    exact congrArg (finish s) (laneVerify_untied hrx hout hgroup htied hvs hx)
  case watches =>
    rintro s k cs _ x p q ps hrx hout hgroup htied hvs hx rfl
    exact congrArg (finish s) (laneVerify_untied hrx hout hgroup htied hvs hx)
  case finds =>
    rintro s k cs _ x hrx hout hgroup htied hvs hx rfl
    have hnone : x.tied = [] := by rw [hx, htied]
    exact congrArg (finish s) ((laneVerify_untied hrx hout hgroup htied hvs hx).trans (takeWatched_nil hnone))
  case oof =>
    intro s k hrx hin
    exact exec_laneOof_inFrame hrx hin
  case falseLock =>
    intro s k ev hrx hin hfirst hshown
    exact congrArg (finish s) (laneFalseLock_shown hrx hin hfirst hshown)
  case tie =>
    rintro s k b1 x cs hrx hout ht rfl hx
    exact congrArg (finish s) (laneTie_elapsed hrx hout ht hx)
  case readmits =>
    rintro s k n x hrx rfl hout rfl
    exact congrArg (finish s) (laneReadmit_searching hrx hout)
  case defect =>
    intro s cls obj b on info t hbits hmon hserved ht htim h25 hlos hlogical hdue
    exact congrArg (finish s) (laneDefect_due hbits hmon hserved ht hlogical htim h25 hlos hdue)
  case logical =>
    intro s obj b on info t hbits hmon hserved ht hb
    exact congrArg (finish s) ((laneDefect_served hbits hmon hserved ht).trans (if_pos ⟨rfl, hb⟩))
  case laneTrace =>
    rintro s cls obj b on info t t1 hbits hmon hserved ht htim hinfo rfl
    exact congrArg (finish s) (laneDefect_trace hbits hmon hserved ht htim hinfo)
  case shown =>
    intro s cls obj b on info f hdue hserved hf hlen hall hcode
    exact congrArg (finish s) (pathDefect_shown hdue hserved hf hlen hall hcode)
  case invalidCode =>
    intro s cls obj on info hdue hserved
    exact congrArg (finish s) (pathDefect_invalidCode hdue hserved rfl)
  case pointers =>
    intro s cls obj b on info hdue hserved hb
    exact congrArg (finish s) (pathDefect_pointers hdue hserved hb)
  case found =>
    intro s obj on info hdue hserved
    exact congrArg (finish s) (pathDefect_structure hdue hserved rfl)
  case trace =>
    intro s cls obj b on info hdue hserved hb hinfo
    exact congrArg (finish s) (pathDefect_trace hdue hserved hb hinfo)
  case label =>
    intro s cls obj b on info hdue hserved hb
    exact congrArg (finish s) (pathDefect_label hdue hserved hb)
  case h4 =>
    intro s obj on info hdue hserved
    exact congrArg (finish s) (pathDefect_h4 hdue hserved rfl)
  case ber =>
    intro s cls obj n on hest hserved hup hlo hhi
    exact congrArg (finish s) (berChange_estimated hest hserved hup hlo hhi rfl)

end Sys2Proof.Proofs
end

section
/-! The K bytes of a lane (R166), the failure of protocol (R203) and the switches of linear groups and rings (R196). -/
namespace Sys2Proof.Proofs
open Machine

section
variable {s : State} {l : Nat} (hk : hasK s l = true)
include hk

-- KBYTE_ACCEPT, PSBF and KSTORM (R166).

theorem exec_kbyteAccept_hasK (k : BitVec 13) :
    exec (.kbyteAccept l k) s = .next (irqEdge s (changeDefect 1 l bPsbf false (putKb l { kbOf s l with
      accepted := k, got := true, psbf := false, lastFn := s.clk.fn,
      changes := if k = (kbOf s l).accepted then recentChanges s (kbOf s l)
        else s.clk.fn :: recentChanges s (kbOf s l) } s))) :=
  congrArg (finish s) (if_pos hk)

theorem psbfNow_declares (hoff : (kbOf s l).psbf = false) (ht : 12 ≤ (s.clk.fn - (kbOf s l).lastFn).toNat) :
    psbfNow l s = changeDefect 1 l bPsbf true (putKb l { kbOf s l with psbf := true } s) :=
  if_pos ⟨hk, by simp [hoff], ht⟩

theorem kstormNow_declares (hmany : 16 < (recentChanges s (kbOf s l)).length) (hoff : (kbOf s l).kstorm = false) :
    kstormNow l true s =
      changeDefect 1 l bKstorm true (putKb l { kbOf s l with kstorm := true, stormFn := s.clk.fn } s) :=
  if_pos (by simp [hk, hmany, hoff])

theorem kstormNow_clears (hfew : (recentChanges s (kbOf s l)).length ≤ 2)
    (ht : 8000 ≤ (s.clk.fn - (kbOf s l).stormFn).toNat) (hon : (kbOf s l).kstorm = true) :
    kstormNow l false s =
      changeDefect 1 l bKstorm false (putKb l { kbOf s l with kstorm := false, stormFn := s.clk.fn } s) :=
  if_pos (by simp [hk, hfew, ht, hon, -BitVec.toNat_sub])

end

section
variable {s : State} {ring : Bool} {g : Nat} {a : ApsState} (hexists : apsExists s ring g = true)
  (hfree : apsHeld s ring g = false) (ha : a = apsOf s ring g)
include hexists hfree ha

-- FOP (R203).

/-- A change of the failure of protocol whose conditions have persisted for 400 frames is put in force and reported. -/
theorem fopNow_persisted {f : FN} {on : Bool} (hother : a.fop = !on) (hfn : a.fopFn = some f)
    (ht : 400 ≤ (s.clk.fn - f).toNat) :
    fopNow ring g on s =
      let b := { a with fop := on, fopFn := none }
      raise gProt 4 (protNote (if on then 4 else 5) (if ring then 2 else 1) a.st 0 g (putAps ring g (if on then { b with
        want := (a.next.getD (a.st, a.br)).1, wantBr := (a.next.getD (a.st, a.br)).2, wantFn := none } else b) s)) := by
  subst ha
  exact if_neg (by simp [hexists, hfree, hother, hfn, ht, -BitVec.toNat_sub])

-- APS_SWITCH (R196).

/-- The decision that waits is put in force from the next frame on. -/
theorem exec_apsSwitch_waiting {st : Nat} (hwaits : a.wantFn ≠ none) (hst : a.want = st) :
    exec (.apsSwitch ring g st) s = .next (irqEdge s (apsMove (s.clk.fn + 1) ring g s)) := by
  subst ha
  have hsome : (apsOf s ring g).wantFn.isSome = true := Option.isSome_iff_ne_none.2 hwaits
  exact congrArg (finish s) (if_pos (by simp [apsWaits, hexists, hfree, hsome, hst]))

end

/-- A selector with its bridge is out of the normal version when either is set (R196). -/
theorem switched_iff (st br : Nat) : (st, br) ≠ (0, 0) ↔ st ≠ 0 ∨ br ≠ 0 := by
  simp only [ne_eq, Prod.mk.injEq]
  omega

section
variable {s : State} {ring : Bool} {g : Nat} {f : FN} {a : ApsState} (ha : a = apsOf s ring g)
include ha

/-- On its way through the normal version the group or ring keeps it, towards what is wanted now. -/
theorem apsMove_onWay (hway : a.next ≠ none) :
    apsMove f ring g s = raise gProt 6 (protNote 7 (if ring then 2 else 1) a.want 0 g (remapMoves f s (putAps ring g { a with
      wantFn := none, next := if a.want = 0 ∧ a.wantBr = 0 then none else some (a.want, a.wantBr) } s))) := by
  subst ha
  have hsome : (apsOf s ring g).next.isSome = true := Option.isSome_iff_ne_none.2 hway
  simp only [apsMove, hsome, if_true, Prod.mk.injEq]

section
variable (hnone : a.next = none)
include hnone

/-- From the normal version, or to it, the switch is made at once. -/
theorem apsMove_direct (hnormal : (a.st = 0 ∧ a.br = 0) ∨ (a.want = 0 ∧ a.wantBr = 0)) :
    apsMove f ring g s = raise gProt 6 (protNote 7 (if ring then 2 else 1) a.want 0 g (remapMoves f s
      (applyAps ring g a.want a.wantBr (putAps ring g { a with wantFn := none, st := a.want, br := a.wantBr } s)))) := by
  subst ha
  have hdirect : ¬(((apsOf s ring g).st, (apsOf s ring g).br) ≠ (0, 0) ∧
      ((apsOf s ring g).want, (apsOf s ring g).wantBr) ≠ (0, 0)) := by
    simp only [switched_iff]
    omega
  simp only [apsMove, hnone, Option.isSome_none, Bool.false_eq_true, if_false, if_neg hdirect]

/-- Between two switched states the normal version stands for a frame. -/
theorem apsMove_throughNormal (hfrom : a.st ≠ 0 ∨ a.br ≠ 0) (hto : a.want ≠ 0 ∨ a.wantBr ≠ 0) :
    apsMove f ring g s = raise gProt 6 (protNote 7 (if ring then 2 else 1) a.want 0 g (remapMoves f s
      (toNormal (apsPorts s ring g) (putAps ring g { a with
        wantFn := none, st := 0, br := 0, next := some (a.want, a.wantBr), nextFn := f } s)))) := by
  subst ha
  have hswitched : ((apsOf s ring g).st, (apsOf s ring g).br) ≠ (0, 0) ∧
      ((apsOf s ring g).want, (apsOf s ring g).wantBr) ≠ (0, 0) :=
    ⟨(switched_iff ..).2 hfrom, (switched_iff ..).2 hto⟩
  simp only [apsMove, hnone, Option.isSome_none, Bool.false_eq_true, if_false, if_pos hswitched]

end
end

/-- Settles O26: each row answers what its function answers, in the branch that the hypotheses of the clause choose. -/
theorem completesAps : Obligations.CompletesAps := by
  refine ⟨?accept, ?psbf, ?storm, ?calm, ?fails, ?recovers, ?direct, ?throughNormal, ?onWay⟩
  case accept =>
    rintro s lane k _ hk rfl
    exact exec_kbyteAccept_hasK hk k
  case psbf =>
    intro s lane hk hoff ht
    exact congrArg (finish s) (psbfNow_declares hk hoff ht)
  case storm =>
    intro s lane hk hmany hoff
    exact congrArg (finish s) (kstormNow_declares hk hmany hoff)
  case calm =>
    intro s lane hk hfew ht hon
    exact congrArg (finish s) (kstormNow_clears hk hfew ht hon)
  case fails =>
    intro s ring g f a hexists hfree ha hoff hfn ht
    exact congrArg (finish s) (fopNow_persisted (on := true) hexists hfree ha hoff hfn ht)
  case recovers =>
    intro s ring g f a hexists hfree ha hon hfn ht
    exact congrArg (finish s) (fopNow_persisted (on := false) hexists hfree ha hon hfn ht)
  case direct =>
    rintro s ring g _ a t hexists hfree ha hwaits rfl hnone hnormal rfl
    exact (exec_apsSwitch_waiting hexists hfree ha hwaits rfl).trans
      (congrArg (finish s) (apsMove_direct ha hnone hnormal))
  case throughNormal =>
    rintro s ring g _ a t hexists hfree ha hwaits rfl hnone hfrom hto rfl
    exact (exec_apsSwitch_waiting hexists hfree ha hwaits rfl).trans
      (congrArg (finish s) (apsMove_throughNormal ha hnone hfrom hto))
  case onWay =>
    rintro s ring g _ a t hexists hfree ha hwaits rfl hway rfl
    exact (exec_apsSwitch_waiting hexists hfree ha hwaits rfl).trans (congrArg (finish s) (apsMove_onWay ha hway))

end Sys2Proof.Proofs
end

section
/-! The reports of a period (R170, R188), the seconds and bins of performance monitoring (R172 to R177), the counter window
(R399), the background check of the live page (R385) and PRBS synchronism (R396). -/
namespace Sys2Proof.Proofs
open Machine

-- DEFECT_EVENT_PERIOD (R170, R188).

theorem post_prot (code : Byte) (fs : List Field) (s : State) : (post code fs s).prot = s.prot := by
  rw [post, postAt_host]

theorem reportSwitches_none {s : State} (h : s.prot.switched = []) : reportSwitches s = s := by
  have hnone : lastSwitches s.prot.switched = [] := by rw [h]; rfl
  have hsame : { s with prot := { s.prot with switched := [] } } = s := by rw [← h]
  simp only [reportSwitches, hnone, List.length_nil, hsame]
  exact if_neg (by decide)

/-- One changed object gets a DEFECT event with its set. -/
theorem reportDefects_one {s : State} {k : Nat} (h : s.dft.dirty = [k]) : reportDefects s =
    post 0x10 [(0, 4, k), (4, 8, (tget 0 s.dft.set k).toNat)] { s with dft := { s.dft with dirty := [] } } := by
  simp only [reportDefects, h]
  exact if_neg (by simp)

/-- More than 4,096 changed objects get one DEFECT_OVERFLOW. -/
theorem reportDefects_overflow {s : State} (h : 4096 < s.dft.dirty.length) : reportDefects s =
    raise gOvh 5 (post 0x11 [(0, 4, s.dft.dirty.length)] { s with dft := { s.dft with dirty := [] } }) :=
  if_pos h

/-- The end of a period without switches reports the defects alone. -/
theorem exec_defectEventPeriod_noSwitches {s t : State} (hfn : s.clk.fn.toNat % 80 = 0) (ht : reportDefects s = t)
    (hprot : t.prot.switched = []) : exec .defectEventPeriod s = .next (irqEdge s t) := by
  subst ht
  exact congrArg (finish s) ((if_pos hfn).trans (reportSwitches_none hprot))

-- The seconds and bins of performance monitoring (R172 to R177).

section
variable {s : State} {cls obj : Nat}

theorem pmFinal_due {x : PmSec} {rest : List PmSec} (hsecs : (pmObj s (objKey cls obj)).secs = x :: rest)
    (ht : 80000 ≤ (s.clk.fn - x.endFn).toNat) : pmFinal cls obj s = emitRecord 0 cls obj (secRecord cls x)
      (putPm (objKey cls obj) (binSecond cls x { pmObj s (objKey cls obj) with secs := rest }) s) := by
  simp only [pmFinal, hsecs]
  exact if_neg (Nat.not_lt.2 ht)

/-- With no second outstanding, a bin closes 10 s after its end (R173). -/
theorem pmClose_due {day : Bool} {e : Nat} (hheld : pmObj s (objKey cls obj) ≠ {})
    (he : e = binEnd day (if day then (pmObj s (objKey cls obj)).curDay else (pmObj s (objKey cls obj)).cur15).start)
    (ht : e + 10 ≤ s.clk.todSec.toNat) (hsecs : (pmObj s (objKey cls obj)).secs = []) :
    pmClose cls obj day s = closeBin cls obj day { start := e } s := by
  subst he
  exact if_neg (by simp [hheld, hsecs, Nat.not_lt.2 ht])

end

theorem pmTimeout_due {s : State} {x : PmBuf} {rest : List PmBuf} (hbufs : s.pm.bufs = x :: rest) (hwritten : x.written ≠ 0)
    (ht : 8000 ≤ (s.clk.fn - x.firstFn).toNat) :
    pmTimeout s = announceBuf x { s with pm := { s.pm with bufs := rest } } := by
  simp only [pmTimeout, hbufs]
  exact if_pos ⟨hwritten, ht⟩

-- COUNTER_GATHER (R399, R402).

/-- What the window of counters is marked with: its generation, and the frame that gathers it. -/
def windowMark (s : State) : Word32 × FN := (s.bel.gen, s.clk.fn)

/-- A fold of steps that each keep the mark keeps it. -/
theorem foldl_windowMark {α : Type} {f : State → α → State} (hf : ∀ s x, windowMark (f s x) = windowMark s) (l : List α)
    (s : State) : windowMark (l.foldl f s) = windowMark s :=
  List.foldlRecOn l f (motive := fun t => windowMark t = windowMark s) rfl fun t ht x _ => (hf t x).trans ht

theorem windowMark_draws (n : Nat) (s : State) : windowMark { s with draws := n } = windowMark s := rfl

theorem gatherBlock_windowMark (s : State) (b : Nat) : windowMark (gatherBlock s b) = windowMark s := by
  unfold gatherBlock
  split
  · rfl
  · exact foldl_windowMark (fun s c => by split <;> rfl) _ s

theorem obsNote_bel (b who fp : Nat) (s : State) : (obsNote b who fp s).bel = s.bel := by
  rw [obsNote, post, postAt_host, raise_bel]

/-- The state whose counters a gather shows: the increments below the grain are taken in (R400, R401). -/
def gatherCounts (s : State) : State :=
  let t := (List.range 117).foldl gatherBlock (bump 116 0 1 (if s.bel.ovfClear then clearOvf s else s))
  (List.range 4).foldl gatherCore { t with draws := t.draws + 1 }

theorem gatherCounts_windowMark (s : State) : windowMark (gatherCounts s) = windowMark s := by
  have hcores := foldl_windowMark (f := gatherCore) fun _ _ => rfl
  have hblocks := foldl_windowMark gatherBlock_windowMark
  simp only [gatherCounts, hcores, windowMark_draws, hblocks]
  split <;> rfl

/-- A gather raises the generation by 2 and keeps its frame (R399). -/
theorem gather_window (s : State) : (gather s).bel.gen = s.bel.gen + 2 ∧ (gather s).bel.gatherFn = s.clk.fn := by
  obtain ⟨hgen, hfn⟩ := Prod.mk.inj (gatherCounts_windowMark s)
  unfold gatherCounts at hgen hfn
  simp only [gather, apply_ite State.bel, obsNote_bel, ite_self, hgen, hfn, and_self]

-- PRBS_SYNC_CHANGE (R396).

/-- Past mode entry a change with its evidence is kept and reported at once. -/
theorem prbsSync_shown {s : State} {u : Nat} {gain : Bool} {ev : List Bool} {x : PrbsSt} {y : PrbsCfg}
    (hx : x = tget {} s.bel.prbs u) (hcfg : x.cfg = some y) (hana : y.ana = true) (hother : x.inSync ≠ gain)
    (hshown : prbsEvidence y gain ev = true) (hentered : entered s = true) : prbsSync u gain ev s =
      obsNote 4 u 0 { s with bel := { s.bel with prbs := tset {} s.bel.prbs u { x with inSync := gain } } } := by
  simp only [prbsSync, ← hx, hcfg]
  exact (if_neg (by simp [hana, hother, hshown])).trans (if_pos hentered)

/-- Settles O28: each row answers what its function answers, in the branch that the hypotheses of the clause choose. -/
theorem completesReports : Obligations.CompletesReports := by
  refine ⟨?one, ?overflow, ?final, ?bin, ?timeout, ?second, ?gathers, gather_window, ?check, ?sync⟩
  case one =>
    intro s k hfn hdirty hnone
    exact exec_defectEventPeriod_noSwitches hfn (reportDefects_one hdirty) (by rw [post_prot, hnone])
  case overflow =>
    intro s hfn hmany hnone
    exact exec_defectEventPeriod_noSwitches hfn (reportDefects_overflow hmany) (by rw [raise_prot, post_prot, hnone])
  case final =>
    intro s cls obj x rest hsecs ht
    exact congrArg (finish s) (pmFinal_due hsecs ht)
  case bin =>
    intro s cls obj day e hheld he ht hsecs
    exact congrArg (finish s) (pmClose_due hheld he ht hsecs)
  case timeout =>
    intro s x rest hbufs hwritten ht
    exact congrArg (finish s) (pmTimeout_due hbufs hwritten ht)
  case second =>
    rintro s ms t hset hnew rfl
    exact congrArg (finish s) (if_neg (not_or.2 ⟨hset, hnew⟩))
  case gathers =>
    intro s hentered hruns hfn
    exact congrArg (finish s) (if_pos ⟨hentered, hruns, hfn⟩)
  case check =>
    intro s x hentered hcarried hdiffers
    exact congrArg (finish s) (if_pos ⟨hentered, hcarried, hdiffers⟩)
  case sync =>
    intro s u gain ev x y hx hcfg hana hother hshown hentered
    exact congrArg (finish s) (prbsSync_shown hx hcfg hana hother hshown hentered)

end Sys2Proof.Proofs
end

section
/-! The leg that a selector delivers (R184). -/
namespace Sys2Proof.Proofs
open Machine

/-- The request of the external command that a selector holds, 0 with none. -/
def heldRequest : Option ExtHeld → Nat
  | some h => h.req.toNat
  | none => 0

/-- The order of R184 above WTR. -/
theorem topRequest_eq (a b : Cond) (ext : Option ExtHeld) : topRequest a b ext =
    if heldRequest ext = 1 then 1 else if b = .sf then 2 else if heldRequest ext = 2 then 3 else if a = .sf then 4
    else if b = .sd then 5 else if a = .sd then 6 else if heldRequest ext = 3 ∨ heldRequest ext = 4 then 7 else 9 := by
  cases ext <;> rfl

/-- A manual switch delivers the leg that it names. -/
theorem legFor_manual {ext : Option ExtHeld} (h : heldRequest ext = 3 ∨ heldRequest ext = 4) (rev : Bool) (present : Leg) :
    legFor 7 ext rev present = if heldRequest ext = 4 then .a else .b := by
  cases ext with
  | none => simp [heldRequest] at h
  | some x => simp only [legFor, heldRequest, ← BitVec.toNat_inj]; rfl

/-- A selector delivers the leg of its request on the conditions that it has recognised, WTR counting where no request above it
stands. -/
theorem evalSel_leg (m s : State) (t : Tier) (i : Nat) (e : Word64) (old : SelState) : (evalSel m s t i e old).leg =
    let x := evalSel m s t i e old
    let ext := extHeld s (selKey t i)
    let top := topRequest x.condA x.condB ext
    legFor (if top = 9 ∧ x.wtr.isSome then 8 else top) ext (revertive s e) old.leg :=
  rfl

/-- The leg of the highest request, down the table of R184: each case takes a request that stands, the ones above it excluded. -/
theorem legFor_highest (a b : Cond) (ext : Option ExtHeld) (wtr rev : Bool) (present : Leg) :
    legFor (if topRequest a b ext = 9 ∧ wtr = true then 8 else topRequest a b ext) ext rev present =
      if heldRequest ext = 1 then .a else if b = .sf then .a else if heldRequest ext = 2 then .b else if a = .sf then .b
      else if b = .sd then .a else if a = .sd then .b else if heldRequest ext = 4 then .a
      else if heldRequest ext = 3 then .b else if wtr = true then .b else if rev = true then .a else present := by
  rw [topRequest_eq]
  by_cases lockout : heldRequest ext = 1
  · simp [lockout, legFor]
  by_cases sfB : b = .sf
  · simp [lockout, sfB, legFor]
  by_cases forced : heldRequest ext = 2
  · simp [sfB, forced, legFor]
  by_cases sfA : a = .sf
  · simp [lockout, sfB, forced, sfA, legFor]
  by_cases sdB : b = .sd
  · simp [lockout, forced, sfA, sdB, legFor]
  by_cases sdA : a = .sd
  · simp [lockout, sfB, forced, sdB, sdA, legFor]
  by_cases manual : heldRequest ext = 3 ∨ heldRequest ext = 4
  · have hleg := legFor_manual manual rev present
    obtain hB | hA := manual
    · simp [sfB, sfA, sdB, sdA, hleg, hB]
    · simp [sfB, sfA, sdB, sdA, hleg, hA]
  · obtain ⟨noB, noA⟩ := not_or.1 manual
    cases wtr <;> simp [lockout, sfB, forced, sfA, sdB, sdA, noB, noA, legFor]

/-- Settles O52: an evaluation delivers the leg of the highest request, on the conditions and the WTR that it leaves. -/
theorem selectorPriority : Obligations.SelectorPriority := by
  rintro m s t i e old x req rfl rfl
  exact (evalSel_leg ..).trans (legFor_highest ..)

end Sys2Proof.Proofs
end

section
/-! PROT_CONFIG, PROT_COMMAND and SNCP_PROFILE (R190, R193, R333): what each does once it starts. -/
namespace Sys2Proof.Proofs
open Machine

section
variable {s : State} {c : CmdEntry} {pos : Nat} {rest : List Fetched}

/-- DELETE of a linear group is scheduled where the group is configured, and completes at once where it is not (R333). -/
theorem exec_deleteLinear_starts (h : Starts s 0x30 c (deleteChecks s c) pos rest) (ha : arg c 0 1 = 4) :
    exec (.protConfigDelete c) s = .next (irqEdge s (ended rest (
      if (tfind s.cfg.linear (arg c 1 1)).isSome then atBoundary (tokenOf 0x30 c pos) (.delLinear (arg c 1 1)) s
      else completeOk (tokenOf 0x30 c pos) [] s))) := by
  rw [exec_starts rfl (by simp [ha]) h, if_neg (by simp [ha])]

/-- DELETE of a ring likewise. -/
theorem exec_deleteRing_starts (h : Starts s 0x30 c (deleteChecks s c) pos rest) (ha : arg c 0 1 = 5) :
    exec (.protConfigDelete c) s = .next (irqEdge s (ended rest (
      if (tfind s.cfg.rings (arg c 1 1)).isSome then atBoundary (tokenOf 0x30 c pos) (.delRing (arg c 1 1)) s
      else completeOk (tokenOf 0x30 c pos) [] s))) := by
  rw [exec_starts rfl (by simp [ha]) h, if_pos (by simp [ha])]

end

/-- Settles O6: each command, once it starts, schedules its effect, completes at once or answers. -/
theorem completesProtection : Obligations.CompletesProtection := by
  refine ⟨?linear, ?ring, ?remap, ?distrust, ?noLinear, ?noRing, ?deleteLinear, ?deleteRing, ?command, ?profile, ?read⟩
  case linear =>
    intro s c pos rest h ha hfits
    rw [exec_starts rfl (beq_of_eq ha) h, if_pos hfits, atBoundary]
  case ring =>
    intro s c pos rest segs h ha hfits hseg hsquelch
    rw [exec_starts rfl (beq_of_eq ha) h, if_neg (by simp [hfits]), withRead_ok hseg, if_pos hsquelch, atBoundary]
  case remap =>
    intro s c pos rest segs es h ha hseg hes hok
    rw [exec_starts rfl (beq_of_eq ha) h, withRead_ok hseg, ← hes, if_pos hok, atBoundary]
  case distrust =>
    intro s c pos rest h ha
    rw [exec_starts rfl (beq_of_eq ha) h, atBoundary]
  case noLinear =>
    intro s c pos rest h ha hnone
    rw [exec_deleteLinear_starts h ha, if_neg (by simp [hnone])]
  case noRing =>
    intro s c pos rest h ha hnone
    rw [exec_deleteRing_starts h ha, if_neg (by simp [hnone])]
  case deleteLinear =>
    intro s c pos rest lg h ha hsome
    rw [exec_deleteLinear_starts h ha, if_pos (by simp [hsome]), atBoundary]
  case deleteRing =>
    intro s c pos rest rg h ha hsome
    rw [exec_deleteRing_starts h ha, if_pos (by simp [hsome]), atBoundary]
  case command =>
    intro s c pos rest h hfits
    rw [exec_starts rfl rfl h, if_neg (by simp [hfits])]
  case profile =>
    intro s c pos rest h hwrite
    rw [exec_starts rfl (by simp [hwrite]) h, atBoundary]
  case read =>
    intro s c pos rest h hread
    rw [exec_starts rfl hread h]

end Sys2Proof.Proofs
end

section
/-! TIMING_CONFIG and the slot actions of TIMING_CONTROL (R207 to R209, R213, R218, R334, R335). -/
namespace Sys2Proof.Proofs
open Machine

section
variable {s : State} {c : CmdEntry} {pos : Nat} {rest : List Fetched}

/-- A slot record is refused only for a source whose quality level is neither forced nor carried by its SSM (R208). -/
theorem not_without_quality {r : BitVec 128} (hr : rKind r = 0 ∨ rQlForce r = true ∨ carriesSsm s r = true) :
    ¬(rKind r ≠ 0 ∧ !rQlForce r ∧ !carriesSsm s r) := by
  rintro ⟨hkind, hforce, hssm⟩
  obtain hnone | hql | hcarried := hr
  · exact hkind hnone
  · rw [hql] at hforce
    exact Bool.false_ne_true hforce
  · rw [hcarried] at hssm
    exact Bool.false_ne_true hssm

/-- An action that names a slot with a source and a priority is carried out (R218). -/
theorem onSlot_selectable {tok : CmdTok} {act : State → State} (hkind : rKind (slotRec s (arg c 1 1)) ≠ 0)
    (hprio : rPriority (slotRec s (arg c 1 1)) ≠ 0) : onSlot c tok act s = timOk tok (act s) :=
  if_neg (not_or.2 ⟨hkind, hprio⟩)

theorem clearWtr_running {i : Nat} {f : FN} (h : (slotSt s i).wtr = some f) :
    clearWtr i s = putSlotSt i { slotSt s i with wtr := none, failed := false } s :=
  if_pos (by simp [h])

theorem clearWtr_idle {i : Nat} (h : (slotSt s i).wtr = none) : clearWtr i s = s :=
  if_neg (by simp [h])

end

/-- Settles O7: each command, once it starts, leaves what its body leaves; a slot action acts on a slot that can be selected. -/
theorem completesTimingConfig : Obligations.CompletesTimingConfig := by
  refine ⟨?slot, ?block, ?status, ?statusBlock, ?lockout, ?clearLockout, ?force, ?clearForce, ?wtr, ?noWtr⟩
  case slot =>
    intro s c pos rest h ha hssm
    rw [exec_starts rfl (beq_of_eq ha) h, if_neg (not_without_quality hssm)]
  case block =>
    intro s c pos rest h ha
    rw [exec_starts rfl (beq_of_eq ha) h]
  case status =>
    intro s c pos rest h ha hlen
    rw [exec_starts rfl (beq_of_eq ha) h, if_neg hlen]
  case statusBlock =>
    intro s c pos rest segs h ha hlen hseg
    rw [exec_starts rfl (beq_of_eq ha) h, if_pos hlen, withWrite_ok hseg]
  case lockout | clearLockout | force | clearForce =>
    intro s c pos rest h ha hkind hprio
    rw [exec_starts rfl (beq_of_eq ha) h, onSlot_selectable hkind hprio]
  case wtr =>
    rintro s c pos rest _ f h ha hkind hprio rfl hwtr
    rw [exec_starts rfl (beq_of_eq ha) h, onSlot_selectable hkind hprio, clearWtr_running hwtr]
  case noWtr =>
    intro s c pos rest h ha hkind hprio hwtr
    rw [exec_starts rfl (beq_of_eq ha) h, onSlot_selectable hkind hprio, clearWtr_idle hwtr]

end Sys2Proof.Proofs
end

section
/-! The block's actions of TIMING_CONTROL (R218, R220, R225, R226, R334). -/
namespace Sys2Proof.Proofs
open Machine

/-- Settles O8: each action selects its row, and once it starts leaves what its body leaves. That FORCE_HOLDOVER and
FORCE_FREE_RUN each clear the other's force is log entry 92. -/
theorem completesTimingControl : Obligations.CompletesTimingControl := by
  refine ⟨?historyClear, ?forceHoldover, ?forceFreeRun, ?forceClear, ?softEnter, ?softWord, ?softExit⟩
  case historyClear | forceClear | softWord | softExit =>
    intro s c pos rest h ha
    rw [exec_starts rfl (beq_of_eq ha) h]
  case forceHoldover | forceFreeRun | softEnter =>
    rintro s c pos rest _ h ha rfl
    rw [exec_starts rfl (beq_of_eq ha) h]

end Sys2Proof.Proofs
end

section
/-! The happenings of the synchronisation block: the tick (R215), the conditions of a slot and their timers (R210 to R213), the
acquisition (R216, R221), the SSM (R208, R214), the frequency monitors (R211) and conflicts (R217). -/
namespace Sys2Proof.Proofs
open Machine

-- SELECTION_TICK (R215).

/-- A running block takes its tick once in a frame of the 10 ms grid (R215). -/
theorem tick_due {s t : State} (hrun : s.tim.running = true) (hfn : s.clk.fn.toNat % 80 = 0)
    (hlast : s.tim.lastTick ≠ some s.clk.fn)
    (ht : t = tickPairs ((List.range 16).foldl tickSince (tickSample ((List.range 16).foldl tickQl (applyBlock
      (bump 112 0 1 { s with tim := { s.tim with lastTick := some s.clk.fn } })))))) :
    tick s = actOn (choose t ((List.range 16).filter (candidate t))) t := by
  have hdue : ¬(!s.tim.running ∨ s.clk.fn.toNat % 80 ≠ 0 ∨ s.tim.lastTick = some s.clk.fn) := by simp [hrun, hfn, hlast]
  rw [tick, if_neg hdue, ht]

section
variable {s : State} {i : Nat}

-- REF_FAILURE_CONDITION (R210, R212).

section
variable {b : Nat} {on : Bool}

/-- A condition of a slot with a source changes where its bit differs. -/
theorem slotCond_changes (hi : i < 16) (hb : b < 6) (hkind : rKind (slotRec s i) ≠ 0) (hbit : bit (slotSt s i).conds b = !on) :
    slotCond i b on s = if on then condArises i b s else condClears i b s :=
  if_neg (by simp [hi, hb, hkind, hbit])

section
variable (hknown : (rKind (slotRec s i) = 1 ∧ b < 3 ∧ bit (sourceConds s (slotRec s i)) b = on) ∨
  (rKind (slotRec s i) = 2 ∧ (b = 0 ∨ (b < 3 ∧ bTinMode s.tim.block (rSource (slotRec s i)) ≠ 0))))
include hknown

/-- A lane slot takes the conditions that its lane shows, a TIN slot those that its receiver can find (R210). -/
theorem refCondition_known : refCondition i b on s = slotCond i b on s := by
  obtain ⟨hlane, hshown⟩ | ⟨htin, hfound⟩ := hknown
  · simp only [refCondition, hlane]
    exact if_pos hshown
  · simp only [refCondition, htin]
    exact if_pos hfound

/-- A condition that the kind of the slot knows arises or clears. -/
theorem refCondition_changes (hi : i < 16) (hbit : bit (slotSt s i).conds b = !on) :
    refCondition i b on s = if on then condArises i b s else condClears i b s := by
  have hb : b < 6 := by omega
  have hkind : rKind (slotRec s i) ≠ 0 := by omega
  rw [refCondition_known hknown, slotCond_changes hi hb hkind hbit]

end
end

/-- A MATE slot takes the mate's report of its own clock (R210). -/
theorem refCondition_mate {on : Bool} (hmate : rKind (slotRec s i) = 3) :
    refCondition i 5 on s = evalSlots { s with tim := { s.tim with mateStopped := on } } := by
  simp only [refCondition, hmate, if_true]

-- REF_HOLD_OFF_EXPIRY and REF_WTR_EXPIRY (R212, R213).

theorem refHoldOff_elapsed {f : FN} (hhold : (slotSt s i).hold = some f)
    (ht : 800 * rHoldOff (slotRec s i) ≤ (s.clk.fn - f).toNat) (hconds : (slotSt s i).conds ≠ 0) :
    refHoldOff i s = failSlot i s := by
  simp only [refHoldOff, hhold]
  exact if_pos ⟨ht, hconds⟩

theorem refWtr_elapsed {f : FN} (hwtr : (slotSt s i).wtr = some f)
    (ht : 480000 * rWtr (slotRec s i) ≤ (s.clk.fn - f).toNat) (hconds : (slotSt s i).conds = 0) :
    refWtr i s = putSlotSt i { slotSt s i with failed := false, wtr := none } s := by
  simp only [refWtr, hwtr]
  exact if_pos ⟨ht, hconds⟩

-- ACQ_FAIL (R216) and DPLL_LOCKED (R221).

/-- An acquisition of 100 s fails its slot, and goes on where its WTR leaves it not failed (R216). -/
theorem acqFail_elapsed {f : FN} {t u : State} (huse : s.tim.use = some i) (hswitching : s.tim.switching = some f)
    (hacquiring : s.tim.dpll = 1) (htime : 800000 ≤ (s.clk.fn - f).toNat)
    (ht : t = condArises i 4 (putSlotSt i { slotSt s i with failed := true, hold := none } s))
    (hu : u = condClears i 4 (timNote 6 none 0xFF (stopTracking t))) :
    acqFail s = if (slotSt u i).failed then u
      else { startTracking u with tim := { (startTracking u).tim with switching := some u.clk.fn } } := by
  subst hu ht
  simp only [acqFail, huse, hswitching]
  exact if_neg (not_or.2 ⟨not_not_intro hacquiring, Nat.not_lt.2 htime⟩)

theorem dpllLocked_held (hacquiring : s.tim.dpll = 1) (hlock : lockHolds s = true) (hheld : 16000 ≤ s.tim.lockRun) :
    dpllLocked s = setDpll 2 { s with tim := { s.tim with switching := none, lockRun := 0 } } :=
  if_pos ⟨hacquiring, hlock, hheld⟩

-- SSM_TIMEOUT and SSM_ACCEPT (R208, R214).

theorem ssmTimeout_elapsed (ht : 40000 ≤ (s.clk.fn - (slotSt s i).ssmFn).toNat) :
    ssmTimeout i s = putSlotSt i { slotSt s i with ssm := none } s :=
  if_pos ht

/-- A source gives an SSM unless its slot has failed on a condition that stands (R214). -/
theorem ssmAccept_given {code : BitVec 4} (hi : i < 16) (hcarries : carriesSsm s (slotRec s i) = true)
    (hgiven : (slotSt s i).failed = false ∨ (slotSt s i).conds = 0) :
    ssmAccept i code s = putSlotSt i { slotSt s i with ssm := some code, ssmFn := s.clk.fn } s := by
  refine if_pos ⟨hi, hcarries, ?_⟩
  obtain hup | hnone := hgiven
  · simp [hup]
  · simp [hnone]

-- FREQ_MONITOR_UPDATE (R211).

section
variable {freq off : Int} (hi : i < 16) (hkind : rKind (slotRec s i) ≠ 0) (hfn : s.clk.fn.toNat % 80 = 0)
  (hoff : off = (freq - freqBase s) / 10000)
include hi hkind hfn hoff

/-- Beyond nine tenths of its limit a slot is not in window, and beyond the limit it is out of it. -/
theorem freqUpdate_far (hfar : 9 * rFreqLimit (slotRec s i) < off.natAbs) : freqUpdate i freq s =
    let t := putSlotSt i { slotSt s i with offset := off, inWin := none } s
    if 10 * rFreqLimit (slotRec s i) < off.natAbs then slotCond i 3 true t else t := by
  subst hoff
  have hrow : ¬(16 ≤ i ∨ rKind (slotRec s i) = 0 ∨ s.clk.fn.toNat % 80 ≠ 0) := by omega
  have hnear := decide_eq_false (Nat.not_le.2 hfar)
  simp only [freqUpdate, hrow, hnear, Bool.false_eq_true, if_false]

/-- Within nine tenths of its limit a slot is in window, since this tick or from before, and 8,000 frames of it clear the
condition. -/
theorem freqUpdate_near {f : FN} (hnear : off.natAbs ≤ 9 * rFreqLimit (slotRec s i))
    (hf : (slotSt s i).inWin.getD s.clk.fn = f) : freqUpdate i freq s =
    let t := putSlotSt i { slotSt s i with offset := off, inWin := some f } s
    if 8000 ≤ (s.clk.fn - f).toNat then slotCond i 3 false t else t := by
  subst hoff hf
  have hrow : ¬(16 ≤ i ∨ rKind (slotRec s i) = 0 ∨ s.clk.fn.toNat % 80 ≠ 0) := by omega
  have hwithin := decide_eq_true hnear
  have hlimit : ¬(10 * rFreqLimit (slotRec s i) < ((freq - freqBase s) / 10000).natAbs) := by omega
  simp only [freqUpdate, hrow, hwithin, hlimit, if_false, if_true]
  cases (slotSt s i).inWin <;> rfl

end

-- REF_CONFLICT (R217).

/-- The first conflict of two candidates that tie is reported and remembered. -/
theorem refConflict_flagged {n : Nat} (hpairs : s.tim.pairs = []) (hlt : i < n) (hn : n < 16) (hci : candidate s i = true)
    (hcn : candidate s n = true) (htie : slotsTie s i n = true) (hconflict : offsetsConflict s i n = true) :
    refConflict i n s = timNote 7 (some i) n { s with tim := { s.tim with pairs := [(i, n, none)] } } := by
  simp only [refConflict, hpairs]
  exact if_pos ⟨hlt, hn, hci, hcn, htie, hconflict⟩

end

/-- Settles O29: each row answers what its function answers, in the branch that the hypotheses of the clause choose. The offset
kept in steps of 0.01 ppm, rounded down, is log entry 158. -/
theorem completesTiming : Obligations.CompletesTiming := by
  refine ⟨?tick, ?arises, ?clears, ?mate, ?holdOff, ?wtr, ?acqFail, ?locked, ?ssmTimeout, ?ssmAccept, ?nearLimit, ?outOfWindow,
    ?enters, ?stays, ?conflict⟩
  case tick =>
    intro s t hrun hfn hlast ht
    exact congrArg (finish s) (tick_due hrun hfn hlast ht)
  case arises | clears =>
    intro s slot b hi hknown hbit
    exact congrArg (finish s) (refCondition_changes hknown hi hbit)
  case mate =>
    intro s slot on hmate
    exact congrArg (finish s) (refCondition_mate hmate)
  case holdOff =>
    intro s slot f hhold ht hconds
    exact congrArg (finish s) (refHoldOff_elapsed hhold ht hconds)
  case wtr =>
    intro s slot f hwtr ht hconds
    exact congrArg (finish s) (refWtr_elapsed hwtr ht hconds)
  case acqFail =>
    intro s slot f t u huse hswitching hacquiring htime ht hu
    exact congrArg (finish s) (acqFail_elapsed huse hswitching hacquiring htime ht hu)
  case locked =>
    intro s hacquiring hlock hheld
    exact congrArg (finish s) (dpllLocked_held hacquiring hlock hheld)
  case ssmTimeout =>
    intro s slot ht
    exact congrArg (finish s) (ssmTimeout_elapsed ht)
  case ssmAccept =>
    intro s slot code hi hcarries hgiven
    exact congrArg (finish s) (ssmAccept_given hi hcarries hgiven)
  case nearLimit =>
    intro s slot freq off hi hkind hfn hoff hfar hlimit
    exact congrArg (finish s) ((freqUpdate_far hi hkind hfn hoff hfar).trans (if_neg (Nat.not_lt.2 hlimit)))
  case outOfWindow =>
    intro s slot freq off hi hkind hfn hoff hout
    have hfar : 9 * rFreqLimit (slotRec s slot) < off.natAbs := by omega
    exact congrArg (finish s) ((freqUpdate_far hi hkind hfn hoff hfar).trans (if_pos hout))
  case enters =>
    intro s slot freq off hi hkind hfn hoff hnear hnone
    have hnow : (slotSt s slot).inWin.getD s.clk.fn = s.clk.fn := by rw [hnone, Option.getD_none]
    exact congrArg (finish s) ((freqUpdate_near hi hkind hfn hoff hnear hnow).trans (if_neg (by simp)))
  case stays =>
    intro s slot freq off f hi hkind hfn hoff hnear hin ht
    have hsince : (slotSt s slot).inWin.getD s.clk.fn = f := by rw [hin, Option.getD_some]
    exact congrArg (finish s) ((freqUpdate_near hi hkind hfn hoff hnear hsince).trans (if_pos ht))
  case conflict =>
    intro s i n hpairs hlt hn hci hcn htie hconflict
    exact congrArg (finish s) (refConflict_flagged hpairs hlt hn hci hcn htie hconflict)

end Sys2Proof.Proofs
end

section
/-! TWIN_CONFIG, GROUP_CONFIG and GATEHOUSE_KEY (R236, R250, R270, R337): what each does once it starts. -/
namespace Sys2Proof.Proofs
open Machine

section
variable {s : State} {c : CmdEntry} {pos : Nat} {rest : List Fetched}

/-- TWIN_CONFIG refuses a SLICE only where it puts a pair into a group (log entry 71). -/
theorem exec_twinConfig_starts (h : Starts s 0x70 c (twinChecks s c) pos rest)
    (hgroup : argBit c 0 0 = true → s.cfg.group = none) :
    exec (.twinConfig c) s = .next (irqEdge s (ended rest (completeOk (tokenOf 0x70 c pos) []
      (membership (s.cfg.twin.isSome || s.cfg.group.isSome) (configRecord
        { s with cfg := { s.cfg with twin := if argBit c 0 0 then some (twinOf c) else none } }))))) := by
  rw [exec_starts rfl rfl h]
  refine congrArg (fun t => Host.Outcome.next (irqEdge s (ended rest t))) (if_neg ?_)
  rintro ⟨hon, hmisfit⟩
  simp [hgroup hon] at hmisfit

/-- GROUP_CONFIG refuses only a group with too few slices for this unit (log entry 71). -/
theorem exec_groupConfig_starts (h : Starts s 0x71 c (groupChecks s c) pos rest)
    (hslice : arg c 0 4 ≠ 0 → ownSlice s < arg c 4 1) :
    exec (.groupConfig c) s = .next (irqEdge s (ended rest (completeOk (tokenOf 0x71 c pos) []
      (membership (s.cfg.twin.isSome || s.cfg.group.isSome) (configRecord
        { s with
          cfg := { s.cfg with
            group := if arg c 0 4 = 0 then none else some { gid := BitVec.ofNat 32 (arg c 0 4), slices := arg c 4 1 } },
          grp := busPorts s.grp }))))) := by
  rw [exec_starts rfl rfl h]
  exact congrArg (fun t => Host.Outcome.next (irqEdge s (ended rest t)))
    (if_neg fun hbad => Nat.not_le.2 (hslice hbad.1) hbad.2)

end

/-- Settles O10: each command, once it starts, leaves what its body leaves; the key of the port decides what stays good. When a
membership record falls due is log entry 71. -/
theorem completesPair : Obligations.CompletesPair := by
  refine ⟨?twin, ?untwin, ?ungroup, ?group, ?keyA, ?keyB⟩
  case twin =>
    rintro s c pos rest _ h hon hgroup rfl
    rw [exec_twinConfig_starts h fun _ => hgroup, if_pos hon]
  case untwin =>
    intro s c pos rest h hoff
    rw [exec_twinConfig_starts h (by simp [hoff]), if_neg (ne_true_of_eq_false hoff)]
  case ungroup =>
    intro s c pos rest h hgid
    rw [exec_groupConfig_starts h (absurd hgid), if_pos hgid]
  case group =>
    intro s c pos rest h hgid hslice
    rw [exec_groupConfig_starts h fun _ => hslice, if_neg hgid]
  case keyA =>
    rintro s c pos rest _ _ h hport rfl hkey rfl
    have hgha : decide (arg c 0 1 = 1) = false := by simp [hport]
    rw [exec_starts rfl rfl h]
    simp only [hgha, hkey, Bool.false_eq_true, if_false]
  case keyB =>
    rintro s c pos rest _ old _ h hport rfl hkey hnew rfl
    have hghb : decide (arg c 0 1 = 1) = true := decide_eq_true hport
    rw [exec_starts rfl rfl h]
    simp only [hghb, hkey, if_neg hnew, if_true]

end Sys2Proof.Proofs
end

section
/-! The mode across a message, an event, the end of a commit and a change of role: only `toMode` enters another (R26). -/
namespace Sys2Proof.Proofs
open Machine

@[simp] theorem postAt_mode (code : Byte) (fn : FN) (p : BitVec 160) (s : State) : (postAt code fn p s).mode = s.mode := by
  rw [postAt_host]

@[simp] theorem post_mode (code : Byte) (fs : List Field) (s : State) : (post code fs s).mode = s.mode := postAt_mode ..

@[simp] theorem twinNote_mode (b : Nat) (s : State) : (twinNote b s).mode = s.mode := post_mode ..

@[simp] theorem timNote_mode (b : Nat) (first : Option Nat) (second : Nat) (s : State) :
    (timNote b first second s).mode = s.mode := post_mode ..

@[simp] theorem sendMate_mode (chan : Nat) (payload : Bytes) (s : State) : (sendMate chan payload s).mode = s.mode := by
  unfold sendMate
  split <;> rfl

@[simp] theorem sendGroup_mode (type : Nat) (payload : Bytes) (s : State) : (sendGroup type payload s).mode = s.mode := by
  unfold sendGroup
  split
  · rfl
  · split <;> rfl

@[simp] theorem sendCommitMsg_mode (type : Nat) (payload : Bytes) (s : State) : (sendCommitMsg type payload s).mode = s.mode := by
  unfold sendCommitMsg
  split <;> simp

@[simp] theorem mirrorStaged_mode (s : State) : (mirrorStaged s).mode = s.mode := by
  unfold mirrorStaged
  split
  · rfl
  · dsimp only
    split <;> simp [internalMsg]

@[simp] theorem completeOpt_mode (tok : Option CmdTok) (st obj : Byte) (r : Word64) (s : State) :
    (completeOpt tok st obj r s).mode = s.mode := by
  cases tok <;> rfl

@[simp] theorem openPage_mode (s : State) : (openPage s).mode = s.mode := rfl

@[simp] theorem endCommit_mode (st obj : Byte) (r : Word64) (s : State) : (endCommit st obj r s).mode = s.mode := by
  unfold endCommit
  split
  · rfl
  · dsimp only
    split <;> simp

@[simp] theorem stopCommit_mode (st : Byte) (s : State) : (stopCommit st s).mode = s.mode := by
  unfold stopCommit
  split
  · rfl
  · split <;> simp

@[simp] theorem deferJob_mode (b : Bool) (s : State) (j : CommitJob) : (deferJob b s j).mode = s.mode := mirrorStaged_mode _

@[simp] theorem resolveOnce_mode (st : Byte) (b : Bool) (s : State) : (resolveOnce st b s).mode = s.mode := by
  unfold resolveOnce
  split
  · rfl
  · dsimp only
    repeat' split
    all_goals simp

@[simp] theorem resolveLate_mode (n : Nat) (s : State) : (resolveLate n s).mode = s.mode := by
  induction n generalizing s with
  | zero => rfl
  | succ n ih =>
    rw [resolveLate]
    split
    · rw [ih, resolveOnce_mode]
    · rfl

@[simp] theorem resolveCause_mode (st : Byte) (b : Bool) (s : State) : (resolveCause st b s).mode = s.mode := by
  simp [resolveCause]

@[simp] theorem abortOne_mode (cause : Nat) (j : CommitJob) (s : State) : (abortOne cause j s).mode = s.mode := by
  simp [abortOne]

@[simp] theorem sendAbort_mode (cause : Nat) (j : CommitJob) (s : State) : (sendAbort cause j s).mode = s.mode :=
  List.foldlRecOn _ _ (motive := fun t : State => t.mode = s.mode) (abortOne_mode cause j s) fun _ ht _ _ =>
    (abortOne_mode ..).trans ht

@[simp] theorem abortRound_mode (cause : Nat) (st : Byte) (s : State) : (abortRound cause st s).mode = s.mode := by
  unfold abortRound
  split <;> simp

@[simp] theorem roleCause_mode (s : State) : (roleCause s).mode = s.mode := by
  unfold roleCause
  split
  · split
    · rfl
    · split
      · exact abortRound_mode ..
      · rfl
  · rfl

@[simp] theorem dropCommit_mode (s : State) : (dropCommit s).mode = s.mode := by
  unfold dropCommit
  split
  · split <;> simp
  · rfl

/-- The mode asked for is entered, or is the present one (R26). -/
@[simp] theorem toMode_mode (m : Mode) (sync : BitVec 3) (s : State) : (toMode m sync s).mode.mode = m := by
  unfold toMode
  dsimp only
  split
  next h => exact h
  next => simp [modeChange]

end Sys2Proof.Proofs
end

section
/-! The mate link (R239 to R244), what a standby mirrors (R242, R243, R261 to R264) and its timing alignment (R232, R233). -/
namespace Sys2Proof.Proofs
open Machine

section
variable {s : State} {lane : Bool}

-- Mate lanes and the link (R239, R244).

theorem exec_mlFrameVerify_framed {again : BitVec 66} {heads : Nat} (hout : (mlOf s lane).inFrame = false)
    (hagain : alignErrors lane again ≤ 2) (hheads : heads = 128) :
    exec (.mlFrameVerify ⟨lane, again, heads⟩) s =
      finish s (putMl lane { mlOf s lane with inFrame := true, los := false, lof := false, run := 0 } s) :=
  congrArg (finish s) (if_pos (by simp [hout, hagain, hheads]))

theorem mlLost_iff (blocks : List (BitVec 66)) (bad : Nat) :
    mlLost lane blocks bad = true ↔ (blocks.length = 4 ∧ ∀ w ∈ blocks, 2 < alignErrors lane w) ∨ 16 ≤ bad := by
  simp [mlLost]

theorem exec_mlOof_lost {blocks : List (BitVec 66)} {bad : Nat} (hin : (mlOf s lane).inFrame = true)
    (hlost : mlLost lane blocks bad = true) :
    exec (.mlOof ⟨lane, blocks, bad⟩) s =
      finish s (putMl lane { mlOf s lane with inFrame := false, oofFn := s.clk.fn, run := 0 } s) :=
  congrArg (finish s) (if_pos (by simp [hin, hlost]))

theorem exec_mlLof_due (hout : (mlOf s lane).inFrame = false) (hoff : (mlOf s lane).lof = false)
    (ht : 16 ≤ (s.clk.fn - (mlOf s lane).oofFn).toNat) :
    exec (.mlLof lane) s = finish s (linkLost (putMl lane { mlOf s lane with lof := true } s)) :=
  congrArg (finish s) (if_pos (by simp [hout, hoff, -BitVec.toNat_sub, ht]))

theorem linkLost_idle (hdown : s.twin.linkUp = false) : linkLost s = s :=
  if_pos (by simp [hdown])

theorem exec_mateLinkUp_ready (hdown : s.twin.linkUp = false) (hready : linkReady s = true) :
    exec .mateLinkUp s = finish s
      (compareHeld (resumeRole (twinNote 6 { s with twin := { s.twin with linkUp := true, rxSeq := [] } }))) :=
  congrArg (finish s) (if_pos (by simp [hdown, hready]))

-- Headers (R240, R244).

@[simp] theorem measureArrival_cfg : (measureArrival lane s).cfg = s.cfg := by cases lane <;> rfl

@[simp] theorem measureArrival_clk : (measureArrival lane s).clk = s.clk := by cases lane <;> rfl

@[simp] theorem measureArrival_miswire : (measureArrival lane s).twin.miswire = s.twin.miswire := by cases lane <;> rfl

@[simp] theorem measureArrival_ownUnit : ownUnit (measureArrival lane s) = ownUnit s := by simp [ownUnit, twinSet]

@[simp] theorem measureArrival_ownSlice : ownSlice (measureArrival lane s) = ownSlice s := by simp [ownSlice, twinSet]

@[simp] theorem putMl_clk (x : MlRx) : (putMl lane x s).clk = s.clk := by cases lane <;> rfl

@[simp] theorem putMl_miswire (x : MlRx) : (putMl lane x s).twin.miswire = s.twin.miswire := by cases lane <;> rfl

/-- A good header counts in the run of its lane, which starts again after 5 frames without one (R244). -/
def countHeader (lane : Bool) (s : State) : State :=
  putMl lane { mlOf s lane with
      run := if (s.clk.fn - (mlOf s lane).lastFn).toNat ≤ 5 then (mlOf s lane).run + 1 else 1, lastFn := s.clk.fn }
    { measureArrival lane s with twin := { (measureArrival lane s).twin with miswire := false } }

section
variable {m : Bytes} (htwin : s.cfg.twin ≠ none) (hin : (mlOf s lane).inFrame = true)
include htwin hin

/-- A lane in frame of a unit in a pair reads its headers (R240). -/
theorem header_not_passed_over : ¬((measureArrival lane s).cfg.twin.isNone = true ∨ (!(mlOf s lane).inFrame) = true) := by
  simp [htwin, hin]

theorem mateHeader_rx_bad (hbad : crcGood m 60 = false ∨ byteAt m 0 ≠ 1) :
    mateHeader_rx lane m s = bump 113 2 1 (putMl lane { mlOf s lane with run := 0 } (measureArrival lane s)) := by
  have hfails : (!crcGood m 60) = true ∨ byteAt m 0 ≠ 1 := by simpa using hbad
  simp only [mateHeader_rx, if_pos hin]
  rw [if_neg (header_not_passed_over htwin hin), if_pos hfails]

section
variable (hcrc : crcGood m 60 = true) (htype : byteAt m 0 = 1)
include hcrc htype

theorem mateHeader_rx_miswired (hwrong : bit (byteAt m 1) 7 = ownUnit s ∨ fld (byteAt m 1) 5 2 ≠ ownSlice s)
    (hfirst : s.twin.miswire = false) {t : State}
    (ht : t = putMl lane { mlOf s lane with run := 0 } (measureArrival lane s)) :
    mateHeader_rx lane m s = linkLost (twinNote 7 { t with twin := { t.twin with miswire := true } }) := by
  subst ht
  simp only [mateHeader_rx, if_pos hin]
  rw [if_neg (header_not_passed_over htwin hin), if_neg (by simp [hcrc, htype]), if_pos (by simpa using hwrong),
    if_neg (by simp [hfirst])]

theorem mateHeader_rx_good (hunit : bit (byteAt m 1) 7 ≠ ownUnit s) (hslice : fld (byteAt m 1) 5 2 = ownSlice s)
    (hlane : bit (byteAt m 1) 4 = lane) :
    mateHeader_rx lane m s = if lane then countHeader lane s else
      headerSeen { countHeader lane s with twin := { (countHeader lane s).twin with hdr := { raw := m, fn := s.clk.fn } } } := by
  simp only [mateHeader_rx, if_pos hin]
  rw [if_neg (header_not_passed_over htwin hin), if_neg (by simp [hcrc, htype]), if_neg (by simp [hunit, hslice]),
    if_neg (not_not_intro hlane)]
  simp [countHeader]

end
end

-- What a standby mirrors (R242, R243, R263).

section
variable {chan seq n : Nat} {take : State → State} (htakes : takesMirror s = true) (hn : n = seq % 256)
include htakes hn

/-- The packet with the number expected is taken, and ends a gap that reached to it (R242). -/
theorem channelRx_expected (hnext : (tfind s.twin.rxSeq chan).getD n = n) {t : State} (ht : t = bump 113 1 1 s) :
    channelRx chan seq take s = take { t with twin := { t.twin with
      rxSeq := tinsert s.twin.rxSeq chan ((n + 1) % 256),
      gaps := if (tfind s.twin.gapTo chan).getD n = n then terase s.twin.gaps chan else s.twin.gaps,
      gapTo := if (tfind s.twin.gapTo chan).getD n = n then terase s.twin.gapTo chan else s.twin.gapTo } } := by
  subst hn ht
  simp only [channelRx, decide_eq_true_eq]
  exact (if_neg (by simp [htakes])).trans (if_pos hnext.symm)

/-- Another number opens a gap, and what is missing is requested (R242). -/
theorem channelRx_gap {x : Nat} (hnext : tfind s.twin.rxSeq chan = some x) (hother : n ≠ x) :
    channelRx chan seq take s = requestFrom chan x n (bump 113 1 1 s) := by
  subst hn
  simp [channelRx, htakes, hnext, hother]

end

theorem exec_mateBulkRx_resync {last : Bool} {tag : Nat} {img : Snapshot} (hm : s.mode.mode = .standby)
    (hsync : s.mode.sync = 2) (hlink : s.twin.linkUp = true) :
    exec (.mateBulkRx last tag img) s = finish s
      (if last then imageComplete tag (bump 113 1 1 { s with twin := { s.twin with image := some img } })
        else bump 113 1 1 { s with twin := { s.twin with image := some img } }) :=
  congrArg (finish s) (if_pos ⟨hm, hsync, hlink⟩)

/-- With no record received behind it, the mirror stands at the tag of the image (R263). -/
theorem imageComplete_mirrorSeq {tag : Nat} (hlater : s.twin.later = []) : (imageComplete tag s).twin.mirrorSeq = tag := by
  simp [imageComplete, hlater]

theorem mateRecord_alone {m : Bytes} {t : State} (htwin : s.cfg.twin ≠ none) (hgroup : s.cfg.group = none)
    (hlink : s.twin.linkUp = true) (hent : entered s = true) (hgid : be m 0 4 = 0) (ht : t = bump 113 1 1 s) :
    mateRecord m s = compareBell (some (2 * ownSlice s + nat01 (!ownUnit s)))
      (holdRecord (2 * ownSlice s + nat01 (!ownUnit s)) m t) := by
  subst ht
  simp [mateRecord, htwin, hgroup, hlink, hent, hgid]

section
variable {chan : Nat}

/-- A packet that is still kept is sent again, one that is not is passed over (R242). -/
def resendOne (chan first : Nat) (s : State) (i : Nat) : State :=
  match s.twin.sentPkts.find? fun p => decide (p.1 = chan ∧ p.2.1 = (first + i) % 256) with
  | some p => bump 113 0 1 (send (.mate (BitVec.ofNat 8 chan) p.2.2)
      { s with twin := { s.twin with stream := s.twin.stream ++ [(chan, p.2.2)] } })
  | none => s

theorem resend_kept {first count : Nat} (hm : s.mode.mode = .active) (hlink : s.twin.linkUp = true)
    (hchan : chan = 2 ∨ chan = 3) :
    resend chan first count s = (List.range (min count 255)).foldl (resendOne chan first) s :=
  if_neg (by simp [hm, hlink]; omega)

theorem resendOne_found {first : Nat} {p : Nat × Nat × Bytes}
    (hp : (s.twin.sentPkts.find? fun p => decide (p.1 = chan ∧ p.2.1 = first % 256)) = some p) :
    resendOne chan first s 0 = bump 113 0 1 (send (.mate (BitVec.ofNat 8 chan) p.2.2)
      { s with twin := { s.twin with stream := s.twin.stream ++ [(chan, p.2.2)] } }) := by
  rw [resendOne, Nat.add_zero, hp]

/-- A gap unfilled for 8 superframes ends (R242), and with it the copy of a standby that mirrors (R264). -/
theorem gapTimeout_elapsed {f : FN} (hgap : tfind s.twin.gaps chan = some f) (ht : 32 ≤ (s.clk.fn - f).toNat) :
    gapTimeout chan s =
      let t := { s with twin := { s.twin with gaps := terase s.twin.gaps chan, gapTo := terase s.twin.gapTo chan } }
      if takesMirror s then setSync 1 (dropImage { t with twin := { t.twin with copyGood := false } }) else t := by
  rw [gapTimeout, hgap]
  exact if_neg (Nat.not_lt.2 ht)

end

section
variable (hm : s.mode.mode = .standby) (hbn : s.clk.fn.toNat % 48 = 0) (hlink : s.twin.linkUp = true)
include hm hbn hlink

/-- A standby installs, or applies, what has come at a boundary, and then sees whether it is in SYNC (R263). -/
theorem resyncInstall_boundary : resyncInstall s = enterSync
    (if s.mode.sync = 2 ∧ s.twin.imageDone ∧ !s.twin.installed then installImage s
      else if s.mode.sync = 2 ∧ s.twin.installed then applyLater s.twin.later s
      else s) :=
  if_neg (by simp [hm, hbn, hlink])

end

/-- A copy that timing alone set back is in SYNC again as soon as the conditions of R263 stand (R264). -/
theorem enterSync_copy (hsync : s.mode.sync = 1) (hready : syncReady s = true) (hcopy : s.twin.copyGood = true) :
    enterSync s = setSync 3 (dropImage { s with twin := { s.twin with copyGood := false } }) := by
  simp [enterSync, hready, hsync, hcopy]

-- Timing (R232, R233).

theorem alignStep_first {fn : FN} (hm : s.mode.mode = .standby) (hsync : s.mode.sync.toNat < 3) (hlink : s.twin.linkUp = true)
    (hmate : onMate s = true) (hfirst : s.tim.stepped = false) (hfn : fn = BitVec.ofNat 48 (be s.twin.hdr.raw 4 6)) :
    alignStep s = startFrame { s with
      clk := { s.clk with fn := fn + (s.clk.fn - s.twin.hdr.fn) }, tim := { s.tim with stepped := true },
      twin := { s.twin with hdr := { s.twin.hdr with fn := fn } } } := by
  subst hfn
  exact if_neg (by simp [hm, hsync, hlink, hmate, hfirst])

/-- Alignment lost ends the SYNC of a standby, which keeps its copy (R232, R264). -/
theorem loseAlignment_lost {t : State} (ht : t = timNote 10 none 0xFF { s with tim := { s.tim with aligned := false } }) :
    loseAlignment s = if s.mode.mode = .standby ∧ s.mode.sync = 3 then
      setSync 1 { t with twin := { t.twin with copyGood := true } } else t := by
  have hmode : t.mode = s.mode := by rw [ht, timNote_mode]
  rw [← hmode, ht]
  rfl

section
variable {err : Int}

theorem exec_timingAlignmentChange_gained (hlo : -320 ≤ err) (hhi : err ≤ 320) (hoff : s.tim.aligned = false)
    (hm : s.mode.mode = .standby) (hdpll : s.tim.dpll = 2) (hmate : onMate s = true) :
    exec (.timingAlignmentChange err) s = finish s (compareHeld { s with tim := { s.tim with aligned := true } }) := by
  have hin : decide (-320 ≤ err ∧ err ≤ 320) = true := decide_eq_true ⟨hlo, hhi⟩
  simp [exec, execTimingAlignmentChange, hin, hoff, hm, hdpll, hmate]

theorem exec_timingAlignmentChange_lost (hout : err < -320 ∨ 320 < err) (hon : s.tim.aligned = true) :
    exec (.timingAlignmentChange err) s = finish s (loseAlignment s) := by
  have hin : decide (-320 ≤ err ∧ err ≤ 320) = false := decide_eq_false (by omega)
  simp [exec, execTimingAlignmentChange, hin, hon]

end
end

/-- Settles O22: each row answers what its function answers, in the branch that the hypotheses of the clause choose. That ML-LOF
clears when the lane frames is log entry 117, what the step of FN leaves unshifted entry 51. -/
theorem completesMate : Obligations.CompletesMate := by
  refine ⟨?framed, ?badHeads, ?badBlocks, ?lof, fun s => linkLost_idle, ?linkUp, ?los, ?lofDown, ?noHeader, ?miswireDown,
    ?badHeader, ?miswired, ?good1, ?good0, ?journal, ?journalGap, ?staged, ?stagedGap, ?bulkLast, ?bulk,
    fun _ _ => ⟨rfl, rfl, imageComplete_mirrorSeq⟩, ?command, ?record, ?resendOne, ?resend, ?gap, ?gapMirrored, ?install,
    ?later, ?copy, ?step, ?gained, ?lost⟩
  case framed =>
    intro s lane again heads hout hagain hheads
    exact exec_mlFrameVerify_framed hout hagain hheads
  case badHeads =>
    intro s lane blocks bad hin hbad
    exact exec_mlOof_lost hin ((mlLost_iff ..).2 (.inr hbad))
  case badBlocks =>
    intro s lane blocks bad hin hlen hblocks
    exact exec_mlOof_lost hin ((mlLost_iff ..).2 (.inl ⟨hlen, hblocks⟩))
  case lof =>
    intro s lane hout hoff ht
    exact exec_mlLof_due hout hoff ht
  case linkUp =>
    intro s hdown hready
    exact exec_mateLinkUp_ready hdown hready
  case los =>
    intro s lane
    rw [exec, execMateLinkDown, finish]
  case lofDown =>
    intro s lane hlof
    exact congrArg (finish s) (if_pos hlof)
  case noHeader =>
    intro s lane ht
    exact congrArg (finish s) (if_pos ht)
  case miswireDown =>
    intro s lane hmiswire
    exact congrArg (finish s) (if_pos hmiswire)
  case badHeader =>
    intro s lane m htwin hin hbad
    exact congrArg (finish s) (mateHeader_rx_bad htwin hin hbad)
  case miswired =>
    intro s lane m t htwin hin hcrc htype hwrong hfirst ht
    exact congrArg (finish s) (mateHeader_rx_miswired htwin hin hcrc htype hwrong hfirst ht)
  case good1 =>
    rintro s m _ htwin hin hcrc htype hunit hslice hlane rfl
    exact congrArg (finish s) ((mateHeader_rx_good htwin hin hcrc htype hunit hslice hlane).trans (if_pos rfl))
  case good0 =>
    rintro s m _ _ htwin hin hcrc htype hunit hslice hlane rfl rfl
    exact congrArg (finish s) ((mateHeader_rx_good htwin hin hcrc htype hunit hslice hlane).trans (if_neg Bool.false_ne_true))
  case journal | staged =>
    intro s seq _ n t htakes hn hnext ht
    exact congrArg (finish s) (channelRx_expected htakes hn hnext ht)
  case journalGap | stagedGap =>
    rintro s seq _ n x _ htakes hn hnext hother rfl
    exact congrArg (finish s) (channelRx_gap htakes hn hnext hother)
  case bulkLast | bulk =>
    intro s tag img hm hsync hlink
    exact exec_mateBulkRx_resync hm hsync hlink
  case command =>
    intro s fn e hm hlink hsync
    exact congrArg (finish s) (if_pos ⟨hm, hlink, hsync⟩)
  case record =>
    intro s m t htwin hgroup hlink hent hgid ht
    exact congrArg (finish s) (mateRecord_alone htwin hgroup hlink hent hgid ht)
  case resendOne =>
    rintro s chan first _ p hm hlink hchan rfl hp
    exact congrArg (finish s) ((resend_kept hm hlink hchan).trans (resendOne_found hp))
  case resend =>
    intro s chan first count hm hlink hchan
    exact congrArg (finish s) (resend_kept hm hlink hchan)
  case gap =>
    intro s chan f hgap ht hidle
    exact congrArg (finish s) ((gapTimeout_elapsed hgap ht).trans (if_neg (ne_true_of_eq_false hidle)))
  case gapMirrored =>
    rintro s chan f _ hgap ht htakes rfl
    exact congrArg (finish s) ((gapTimeout_elapsed hgap ht).trans (if_pos htakes))
  case install =>
    intro s hm hbn hlink hsync hdone hnew
    have hinstall := resyncInstall_boundary hm hbn hlink
    rw [if_pos (by simp [hsync, hdone, hnew])] at hinstall
    exact congrArg (finish s) hinstall
  case later =>
    intro s hm hbn hlink hsync hold
    have happly := resyncInstall_boundary hm hbn hlink
    rw [if_neg (by simp [hold]), if_pos ⟨hsync, hold⟩] at happly
    exact congrArg (finish s) happly
  case copy =>
    intro s hm hbn hlink hsync hready hcopy
    have hkeep := resyncInstall_boundary hm hbn hlink
    rw [if_neg (by simp [hsync]), if_neg (by simp [hsync]), enterSync_copy hsync hready hcopy] at hkeep
    exact congrArg (finish s) hkeep
  case step =>
    intro s fn hm hsync hlink hmate hfirst hfn
    exact congrArg (finish s) (alignStep_first hm hsync hlink hmate hfirst hfn)
  case gained =>
    intro s err hlo hhi hoff hm hdpll hmate
    exact exec_timingAlignmentChange_gained hlo hhi hoff hm hdpll hmate
  case lost =>
    intro s err t hout hon ht
    rw [exec_timingAlignmentChange_lost hout hon, loseAlignment_lost ht, finish]

end Sys2Proof.Proofs
end

section
/-! GRANTs, the lease and the roles of a twin pair (R246 to R260, R264 to R268). -/
namespace Sys2Proof.Proofs
open Machine

/-- The unit that takes the role is ACTIVE (R256). -/
theorem takeRole_active (p : PendingGrant) (s : State) : (takeRole p s).mode.mode = .active := by
  unfold takeRole
  dsimp only
  split <;> simp

section
variable {s : State} {p : Bool} {m : Bytes} {anchor : FN}

-- GRANTs (R249 to R253).

section
variable (hent : entered s = true)
include hent

section
variable (hen : ghEnabled s p = true)
include hen

theorem grantRx_discarded {why : Nat} (hfails : grantFails s p m = some why) : grantRx p m s = discardGrant p why s := by
  simp [grantRx, hent, hen, hfails]

section
variable (hpasses : grantFails s p m = none)
include hpasses

theorem grantRx_noAnchor (hnone : grantAnchor s p m = none) : grantRx p m s = discardGrant p 4 s := by
  simp [grantRx, hent, hen, hpasses, hnone]

/-- A valid GRANT of no earlier epoch is counted, relayed and acted on, its reset request last (R251, R252, R260). -/
theorem grantRx_accepted (hanchor : grantAnchor s p m = some anchor) (hfresh : s.twin.epoch.toNat ≤ (gEpoch m).toNat)
    {t : State} (ht : t = sendMate 0x01 ([0x01, BitVec.ofNat 8 (nat01 p)] ++ toBE 6 anchor.toNat ++ m) (bump 115 1 1 (putGh p
      { ghPort s p with grantFn := some s.clk.fn, grantSeq := gSeq m, arbiter := be m 10 2, macFails := 0 } s))) :
    grantRx p m s = grantReset p m (applyGrant p true anchor m (decidePending anchor m t)) := by
  subst ht
  simp [grantRx, hent, hen, hpasses, hanchor, Nat.not_lt.2 hfresh]

end
end

section
variable (hlink : s.twin.linkUp = true) (htwin : s.cfg.twin ≠ none)
include hlink htwin

theorem relayRx_passes (hpasses : grantFails s p m = none) : relayRx p anchor m s = applyGrant p false anchor m s := by
  simp [relayRx, hent, hlink, htwin, hpasses]

theorem relayRx_fails {why : Nat} (hfails : grantFails s p m = some why) : relayRx p anchor m s = discardGrant p why s := by
  simp [relayRx, hent, hlink, htwin, hfails]

end
end

theorem applyGrant_stale {own : Bool} (hstale : (gEpoch m).toNat < s.twin.epoch.toNat) :
    applyGrant p own anchor m s = countGrant p 5 s :=
  if_pos hstale

-- ROLE_TAKE_EFFECT (R256).

section
variable {g : PendingGrant} (hpending : s.twin.pending = some g) (hm : s.mode.mode = .standby ∨ s.mode.mode = .isolated)
include hpending hm

theorem roleDue_of_pending (hdue : fnGe s.clk.fn g.leaseEnd = true ∨ mateFree s = true) : roleDue s = true := by
  simp [roleDue, hpending, hm, hdue]

theorem roleTake_of_pending : roleTake s =
    if fnGe s.clk.fn g.leaseEnd then { s with twin := { s.twin with pending := none } }
    else if mateFree s then takeRole g s
    else s := by
  rw [roleTake, hpending]
  exact if_neg (by rintro ⟨hstandby, hisolated⟩; exact hm.elim hstandby hisolated)

end

-- LEASE_END (R254, R259).

section
variable {f : FN} (hlease : s.twin.leaseEnd = some f) (hend : fnGe s.clk.fn f = true)
include hlease hend

theorem leaseDue_of_ended (hm : s.mode.mode = .boot ∨ s.mode.mode = .active) : leaseDue s = true := by
  simp [leaseDue, hlease, hend, hm]

theorem leaseEnds_boot (hm : s.mode.mode = .boot) :
    leaseEnds s = { s with twin := { s.twin with leaseEnd := none, lease := 0 } } := by
  simp [leaseEnds, hlease, hend, hm]

section
variable (hm : s.mode.mode = .active) (hprov : s.twin.provisional = false)
include hm hprov

/-- Without the mate link, the arbiter decides between STANDBY and ISOLATED (R254). -/
theorem leaseEnds_alone (hlink : s.twin.linkUp = false) :
    leaseEnds s = if heardOwn s then becomeStandby s else enterIsolated s := by
  simp [leaseEnds, hlease, hend, hm, hprov, hlink]

/-- With the mate link in service the lease is carried where neither unit hears the arbiter (R254). -/
theorem leaseEnds_carried (hlink : s.twin.linkUp = true) (hdeaf : heardOwn s = false)
    (hmate : fld (byteAt s.twin.hdr.raw 14) 2 2 = 0) :
    leaseEnds s = twinNote 1 { s with twin := { s.twin with leaseEnd := none, lease := 2 } } := by
  simp [leaseEnds, hlease, hend, hm, hprov, hlink, hdeaf, hmate]

end
end

-- KEY_OVERLAP_EXPIRY (R250) and FORCED_TAKEOVER (R265).

theorem exec_keyOverlapExpiry_ended {x : Bytes × FN} (hkey : (ghPort s p).prevKey = some x) (hend : fnGe s.clk.fn x.2 = true) :
    exec (.keyOverlapExpiry p) s = finish s (putGh p { ghPort s p with prevKey := none } s) := by
  rw [exec, execKeyOverlapExpiry, hkey]
  exact congrArg (finish s) (if_pos hend)

section
variable {f : FN} (htakeover : s.twin.takeover = some f) (hm : s.mode.mode = .active) (hbn : s.clk.fn.toNat % 48 = 0)
  (hpast : fnGe s.clk.fn f = true)
include htakeover hm hbn hpast

theorem takeoverDue_of_past : takeoverDue s = true := by
  simp [takeoverDue, htakeover, hm, hbn, hpast]

/-- The page and the configuration of a good journal are put in force, the membership staying (R265). -/
theorem forcedTakeover_journal {g : JFound} {t : State} (hjournal : verifyJournal s.flash = .ok g)
    (ht : t = putPage g.page g.fp { s with cfg := { g.cfg with twin := s.cfg.twin, group := s.cfg.group } }) :
    forcedTakeover s = pageRecord 5 (twinNote 12 { t with twin := { t.twin with takeover := none } }) := by
  subst ht
  simp [forcedTakeover, htakeover, hm, hbn, hpast, hjournal]

end
end

/-- Settles O23: each row answers what its function answers, in the branch that the hypotheses of the clause choose. That a unit
is marked for ISOLATED and enters it at the next frame is log entry 46. -/
theorem completesRole : Obligations.CompletesRole := by
  refine ⟨?grant, ?discarded, ?noAnchor, ?relayed, ?relayFails, fun _ _ _ _ _ => applyGrant_stale, ?released, ?role, ?lapsed,
    takeRole_active, ?isolated, ?standby, ?carried, ?boot, ?ttl, ?key, ?takeover⟩
  case grant =>
    intro s p m anchor t hent hen hpasses hanchor hfresh ht
    exact congrArg (finish s) (grantRx_accepted hent hen hpasses hanchor hfresh ht)
  case discarded =>
    intro s p m why hent hen hfails
    exact congrArg (finish s) (grantRx_discarded hent hen hfails)
  case noAnchor =>
    intro s p m hent hen hpasses hnone
    exact congrArg (finish s) (grantRx_noAnchor hent hen hpasses hnone)
  case relayed =>
    intro s p anchor m hent hlink htwin hpasses
    exact congrArg (finish s) (relayRx_passes hent hlink htwin hpasses)
  case relayFails =>
    intro s p anchor m why hent hlink htwin hfails
    exact congrArg (finish s) (relayRx_fails hent hlink htwin hfails)
  case released =>
    intro s ep fn hlink hent hm
    exact congrArg (finish s) (if_pos ⟨hlink, hent, hm⟩)
  case role =>
    intro s g u hx hpending hm hrunning hfree hu
    have htake := roleTake_of_pending hpending hm
    rw [if_neg (ne_true_of_eq_false hrunning), if_pos hfree] at htake
    exact congrArg (finish s) (runStep_due hx (roleDue_of_pending hpending hm (.inr hfree)) (htake ▸ hu))
  case lapsed =>
    intro s g u hx hpending hm hended hu
    have htake := roleTake_of_pending hpending hm
    rw [if_pos hended] at htake
    exact congrArg (finish s) (runStep_due hx (roleDue_of_pending hpending hm (.inl hended)) (htake ▸ hu))
  case isolated =>
    intro s f u hx hlease hend hm hprov hlink hdeaf hu
    have hends := leaseEnds_alone hlease hend hm hprov hlink
    rw [if_neg (ne_true_of_eq_false hdeaf)] at hends
    exact congrArg (finish s) (runStep_due hx (leaseDue_of_ended hlease hend (.inr hm)) (hends ▸ hu))
  case standby =>
    intro s f u hx hlease hend hm hprov hlink hheard hu
    have hends := leaseEnds_alone hlease hend hm hprov hlink
    rw [if_pos hheard] at hends
    exact congrArg (finish s) (runStep_due hx (leaseDue_of_ended hlease hend (.inr hm)) (hends ▸ hu))
  case carried =>
    intro s f u hx hlease hend hm hprov hlink hdeaf hmate hu
    have hends := leaseEnds_carried hlease hend hm hprov hlink hdeaf hmate
    exact congrArg (finish s) (runStep_due hx (leaseDue_of_ended hlease hend (.inr hm)) (hends ▸ hu))
  case boot =>
    intro s f u hx hlease hend hm hu
    have hends := leaseEnds_boot hlease hend hm
    exact congrArg (finish s) (runStep_due hx (leaseDue_of_ended hlease hend (.inl hm)) (hends ▸ hu))
  case ttl =>
    intro s p htwin hsilent hlost hlink hm
    exact congrArg (finish s) (if_pos ⟨Option.isSome_iff_ne_none.2 htwin, hsilent, hlost, by simp [hlink], hm⟩)
  case key =>
    intro s p x hkey hend
    exact exec_keyOverlapExpiry_ended hkey hend
  case takeover =>
    intro s f g t u hx htakeover hm hbn hpast hjournal ht hu
    have htakes := forcedTakeover_journal htakeover hm hbn hpast hjournal ht
    exact congrArg (finish s) (runStep_due hx (takeoverDue_of_past htakeover hm hbn hpast) (htakes ▸ hu))

end Sys2Proof.Proofs
end

section
/-! The frame clock across a message, an event, the end of a commit and a change of role: only a frame's start and a step of FN
move it (R228, R232). -/
namespace Sys2Proof.Proofs
open Machine

@[simp] theorem postAt_clk (code : Byte) (fn : FN) (p : BitVec 160) (s : State) : (postAt code fn p s).clk = s.clk := by
  rw [postAt_host]

@[simp] theorem post_clk (code : Byte) (fs : List Field) (s : State) : (post code fs s).clk = s.clk := postAt_clk ..

@[simp] theorem sendMate_clk (chan : Nat) (payload : Bytes) (s : State) : (sendMate chan payload s).clk = s.clk := by
  unfold sendMate
  split <;> rfl

@[simp] theorem sendGroup_clk (type : Nat) (payload : Bytes) (s : State) : (sendGroup type payload s).clk = s.clk := by
  unfold sendGroup
  split
  · rfl
  · split <;> rfl

@[simp] theorem sendCommitMsg_clk (type : Nat) (payload : Bytes) (s : State) : (sendCommitMsg type payload s).clk = s.clk := by
  unfold sendCommitMsg
  split <;> simp

@[simp] theorem mirrorStaged_clk (s : State) : (mirrorStaged s).clk = s.clk := by
  unfold mirrorStaged
  split
  · rfl
  · dsimp only
    split <;> simp [internalMsg]

@[simp] theorem completeOpt_clk (tok : Option CmdTok) (st obj : Byte) (r : Word64) (s : State) :
    (completeOpt tok st obj r s).clk = s.clk := by
  cases tok <;> rfl

@[simp] theorem endCommit_clk (st obj : Byte) (r : Word64) (s : State) : (endCommit st obj r s).clk = s.clk := by
  unfold endCommit
  split
  · rfl
  · dsimp only
    split <;> simp [openPage]

@[simp] theorem stopCommit_clk (st : Byte) (s : State) : (stopCommit st s).clk = s.clk := by
  unfold stopCommit
  split
  · rfl
  · split <;> simp

@[simp] theorem deferJob_clk (b : Bool) (s : State) (j : CommitJob) : (deferJob b s j).clk = s.clk := mirrorStaged_clk _

@[simp] theorem resolveOnce_clk (st : Byte) (b : Bool) (s : State) : (resolveOnce st b s).clk = s.clk := by
  unfold resolveOnce
  split
  · rfl
  · dsimp only
    repeat' split
    all_goals simp

@[simp] theorem resolveLate_clk (n : Nat) (s : State) : (resolveLate n s).clk = s.clk := by
  induction n generalizing s with
  | zero => rfl
  | succ n ih =>
    rw [resolveLate]
    split
    · rw [ih, resolveOnce_clk]
    · rfl

@[simp] theorem resolveCause_clk (st : Byte) (b : Bool) (s : State) : (resolveCause st b s).clk = s.clk := by
  simp [resolveCause]

@[simp] theorem abortOne_clk (cause : Nat) (j : CommitJob) (s : State) : (abortOne cause j s).clk = s.clk := by
  simp [abortOne]

@[simp] theorem sendAbort_clk (cause : Nat) (j : CommitJob) (s : State) : (sendAbort cause j s).clk = s.clk :=
  List.foldlRecOn _ _ (motive := fun t : State => t.clk = s.clk) (abortOne_clk cause j s) fun _ ht _ _ =>
    (abortOne_clk ..).trans ht

@[simp] theorem abortRound_clk (cause : Nat) (st : Byte) (s : State) : (abortRound cause st s).clk = s.clk := by
  unfold abortRound
  split <;> simp

@[simp] theorem roleCause_clk (s : State) : (roleCause s).clk = s.clk := by
  unfold roleCause
  split
  · split
    · rfl
    · split
      · exact abortRound_clk ..
      · rfl
  · rfl

end Sys2Proof.Proofs
end

section
/-! A fabric group: its records and its Bellwether (R276 to R278), its packets and ports (R272 to R274), catch-up (R286) and
PAGE_RESTORE (R285). -/
namespace Sys2Proof.Proofs
open Machine

@[simp] theorem grpNote_grp (b : Nat) (m : Option Nat) (s : State) : (grpNote b m s).grp = s.grp := by
  rw [grpNote, post, postAt_host, raise_grp]

@[simp] theorem grpNote_cfg (b : Nat) (m : Option Nat) (s : State) : (grpNote b m s).cfg = s.cfg := postAt_cfg ..

@[simp] theorem grpNote_ownMember (b : Nat) (m : Option Nat) (s : State) : ownMember (grpNote b m s) = ownMember s := by
  simp [ownMember, ownSlice, ownUnit, twinSet]

-- Records and the Bellwether (R276 to R278).

/-- A record is held with the frame it came in, whatever a change of role has done to the commit (R84, R276). -/
theorem holdRecord_find (k : Nat) (m : Bytes) (s : State) :
    tfind (holdRecord k m s).grp.recs k = some { raw := m, fn := s.clk.fn } := by
  have hinsert (t : State) (ht : t.clk = s.clk) :
      tfind (tinsert t.grp.recs k { raw := m, fn := t.clk.fn }) k = some { raw := m, fn := s.clk.fn } := by
    rw [Laws.tfind_tinsert, if_pos rfl, ht]
  simp only [holdRecord]
  split
  · rw [grpNote_grp]
    exact hinsert _ (by rw [apply_ite State.clk, roleCause_clk, ite_self])
  · exact hinsert _ (by rw [apply_ite State.clk, roleCause_clk, ite_self])

section
variable {s : State} {k : Nat}

theorem recordRx_member {sc : Nat} {m : Bytes} {g : GroupCfg} (hgroup : s.cfg.group = some g) (hent : entered s = true)
    (hgid : be m 0 4 = g.gid.toNat) (hslices : sc = g.slices) (hother : k ≠ ownMember s) (honce : sentTwice s k m = false) :
    recordRx k sc m s = compareBell (some k) (elect (holdRecord k m s)) := by
  simp [recordRx, hgroup, hent, hgid, hslices, hother, honce]

theorem recordLapse_elapsed {x : MemberRec} {t : State} (hrec : tfind s.grp.recs k = some x)
    (hold : 32 ≤ (s.clk.fn - x.fn).toNat)
    (ht : t = grpNote 10 (some k) { s with grp := { s.grp with recs := terase s.grp.recs k } }) :
    recordLapse k s = if s.cfg.group.isSome then compareBell none (elect t) else t := by
  have hcfg : t.cfg = s.cfg := by rw [ht, grpNote_cfg]
  have hlapses : recordLapse k s = if t.cfg.group.isSome then compareBell none (elect t) else t := by
    rw [recordLapse, hrec, ht]
    exact if_neg (Nat.not_lt.2 hold)
  rw [hlapses, hcfg]

/-- The Bellwether elected takes over at a boundary; a change of it is no change of role at another member (R278). -/
theorem bellwetherChange_other (helected : s.grp.elected = some k) (hbn : s.clk.fn.toNat % 48 = 0)
    (hlater : s.clk.fn ≠ s.grp.electedFn) (hother : k ≠ ownMember s) :
    bellwetherChange s = grpNote 0 (some k) { s with grp := { s.grp with bell := some k, elected := none } } := by
  rw [bellwetherChange, helected]
  refine (if_neg (by simp [hbn, hlater])).trans (if_neg ?_)
  rw [grpNote_ownMember]
  exact hother

end

-- Packets and ports of the bus (R272 to R274).

section
variable {s : State} {w : Bool} {m : Bytes}

/-- A packet not received within 256 frames is accepted, and remembered with its frame (R273). -/
theorem acceptPacket_first (hknown : packetKnown (byteAt m 0).toNat = true) (hseen : s.grp.seen = []) :
    acceptPacket m s = { s with grp := { s.grp with seen := [(packetFrom m, (byteAt m 0).toNat, be m 3 2, s.clk.fn)] } } := by
  simp [acceptPacket, hknown, hseen]

section
variable (hgroup : s.cfg.group ≠ none) (hruns : framesRun s = true)
  (hup : (if w then s.grp.westDown else s.grp.eastDown) = false)
include hgroup hruns hup

theorem packetRx_bad (hbad : packetOk m = false) : packetRx w m s = bump 114 2 1 s := by
  simp [packetRx, hgroup, hruns, hup, hbad]

section
variable (hok : packetOk m = true)
include hok

theorem packetRx_own (hown : packetFrom m = ownMember s) : packetRx w m s = s := by
  simp [packetRx, hgroup, hruns, hup, hok, hown]

theorem packetRx_forwards (hent : entered s = true) (hother : packetFrom m ≠ ownMember s) (hhops : 1 < (byteAt m 2).toNat) :
    packetRx w m s = bump 114 1 1 (send (.groupFwd (!w) (lessHops m)) (acceptPacket m s)) := by
  simp [packetRx, hgroup, hruns, hup, hok, hent, hother, Nat.not_le.2 hhops]

end
end

/-- The synchronisation of one port, and whether it is down (R272). -/
def putPort (west : Bool) (x : PortSync) (down : Bool) (s : State) : State :=
  if west then { s with grp := { s.grp with westSync := x, westDown := down } }
  else { s with grp := { s.grp with eastSync := x, eastDown := down } }

/-- A port is down where it holds no synchronisation, and reports when it goes down (R272). -/
theorem portRx_eq {cs : List (BitVec 10)} {x : PortSync} (hx : x = (if w then s.grp.westSync else s.grp.eastSync).take cs) :
    portRx w cs s =
      if decide (x.phase < 6) && !(if w then s.grp.westDown else s.grp.eastDown)
      then grpNote 9 none (putPort w x (decide (x.phase < 6)) s)
      else putPort w x (decide (x.phase < 6)) s := by
  subst hx
  rfl

section
variable {cs : List (BitVec 10)} {x : PortSync} (hx : x = (if w then s.grp.westSync else s.grp.eastSync).take cs)
include hx

theorem portRx_goesDown (hlost : x.phase < 6) (hwas : (if w then s.grp.westDown else s.grp.eastDown) = false) :
    portRx w cs s = grpNote 9 none (putPort w x true s) := by
  simp [portRx_eq hx, hlost, hwas]

theorem portRx_staysDown (hlost : x.phase < 6) (hwas : (if w then s.grp.westDown else s.grp.eastDown) = true) :
    portRx w cs s = putPort w x true s := by
  simp [portRx_eq hx, hlost, hwas]

theorem portRx_comesBack (hsync : 6 ≤ x.phase) : portRx w cs s = putPort w x false s := by
  simp [portRx_eq hx, Nat.not_lt.2 hsync]

end
end

-- Catch-up (R286).

section
variable {s : State}

theorem exec_catchup_member {sl q : Nat} {u : Bool} {m : Bytes} (hgroup : s.cfg.group ≠ none) (hbell : isBellwether s = true)
    (hother : memberOf sl u ≠ ownMember s) (hm : m = Config.imagePayload (catchupContent s q).1 (catchupContent s q).2) :
    exec (.catchup sl u q) s =
      finish s ((pieces 2048 (m.length + 1) m).foldl (fun s p => sendGroup 0x22 p s) s) := by
  subst hm
  exact congrArg (finish s) (if_pos ⟨Option.isSome_iff_ne_none.2 hgroup, hbell, hother⟩)

/-- Records still in the journal answer without a snapshot (R286). -/
theorem catchupContent_inJournal {r : JRecord} {q : Nat} (hhead : s.flash.journal.head? = some r) (hfirst : r.seq ≤ q)
    (hnext : q ≤ s.jrn.nextSeq) : catchupContent s q = (none, s.flash.journal.filter fun x => decide (q ≤ x.seq)) := by
  obtain ⟨rs, hjournal⟩ := List.head?_eq_some_iff.1 hhead
  simp only [catchupContent, hjournal]
  exact if_neg (by omega)

-- PAGE_RESTORE (R285).

theorem pageRestore_keptCopy {x : MemberRec} {b : Nat} {p : Page} {t1 t : State} (hdue : restoreDue s = true)
    (hbell : bellView s = some b) (hrec : tfind s.grp.recs b = some x) (hcopy : keptCopy s x.raw = some p)
    (ht1 : t1 = raise gCmem 0 (putPage p (BitVec.ofNat 64 (recFp x.raw)) s))
    (ht : t = { t1 with page := { t1.page with
      sched := (if s.page.retained = some p then some s.page.retainedSched else none).getD t1.page.sched } }) :
    pageRestore s =
      pageRecord 2 (post 0x02 [(0, 8, t.page.live.epoch.toNat), (8, 8, t.page.liveFp.toNat), (18, 1, 1)] t) := by
  subst ht ht1
  have hdiffers : s.grp.fenced = true ∧ s.mode.mode = .active ∧ s.clk.fn.toNat % 48 = 0 ∧
      (compareWith s x.raw false).page = true := by
    simpa [restoreDue, hbell, hrec, hcopy, and_assoc] using hdue
  obtain ⟨hfenced, hm, hbn, hpage⟩ := hdiffers
  simp [pageRestore, hfenced, hm, hbn, hbell, hrec, hpage, hcopy]

end

/-- Settles O21: each row answers what its function answers, in the branch that the hypotheses of the clause choose. The rows of
the two ports share `portRx`, so each of its three outcomes serves four clauses. -/
theorem completesGroup : Obligations.CompletesGroup := by
  refine ⟨holdRecord_find, ?record, ?lapse, ?bellwether, ?badPacket, ?forward, ?ownPacket, ?config, ?staged, ?catchup,
    fun _ _ _ => catchupContent_inJournal, ?journal, ?wDown, ?wStays, ?wBack, ?eDown, ?eStays, ?eBack, ?wDown',
    ?wStays', ?wBack', ?eDown', ?eStays', ?eBack', ?restore⟩
  case record =>
    intro s sl u sc m g hgroup hent hgid hslices hother honce
    exact congrArg (finish s) (recordRx_member hgroup hent hgid hslices hother honce)
  case lapse =>
    intro s sl u x t hrec hold ht
    exact congrArg (finish s) (recordLapse_elapsed hrec hold ht)
  case bellwether =>
    intro s x helected hbn hlater hother
    exact congrArg (finish s) (bellwetherChange_other helected hbn hlater hother)
  case badPacket =>
    intro s w m hgroup hruns hup hbad
    exact congrArg (finish s) (packetRx_bad hgroup hruns hup hbad)
  case forward =>
    rintro s w m _ hgroup hruns hent hup hok hother hknown rfl hseen hhops
    have hforwards := packetRx_forwards hgroup hruns hup hok hent hother hhops
    rw [acceptPacket_first hknown hseen] at hforwards
    exact congrArg (finish s) hforwards
  case ownPacket =>
    intro s w m hgroup hruns hup hok hown
    exact congrArg (finish s) (packetRx_own hgroup hruns hup hok hown)
  case config =>
    intro s fn e htakes
    exact congrArg (finish s) (if_pos htakes)
  case staged =>
    intro s ws htakes
    exact congrArg (finish s) (if_pos htakes)
  case catchup =>
    intro s sl u q m hgroup hbell hother hm
    exact exec_catchup_member hgroup hbell hother hm
  case journal =>
    intro s sn rs hgroup hcatching hent
    exact congrArg (finish s) (if_pos ⟨Option.isSome_iff_ne_none.2 hgroup, hcatching, hent⟩)
  case wDown | eDown | wDown' | eDown' =>
    intro s cs x hx hlost hwas
    exact congrArg (finish s) (portRx_goesDown hx hlost hwas)
  case wStays | eStays | wStays' | eStays' =>
    intro s cs x hx hlost hwas
    exact congrArg (finish s) (portRx_staysDown hx hlost hwas)
  case wBack | eBack | wBack' | eBack' =>
    intro s cs x hx hsync
    exact congrArg (finish s) (portRx_comesBack hx hsync)
  case restore =>
    intro s x b p t1 t u hx hdue hbell hrec hcopy ht1 ht hu
    have hrestores := pageRestore_keptCopy hdue hbell hrec hcopy ht1 ht
    exact congrArg (finish s) (runStep_due hx hdue (hrestores ▸ hu))

end Sys2Proof.Proofs
end

section
/-! The steps of the block: the row at the front of the queue, the state right after reset, and soundness, which every row keeps. -/
namespace Sys2Proof.Proofs
open Machine Laws

theorem step_of_front {c : Instr} {s : State} {rest : List Instr} (h : s.pending = c :: rest) :
    step s = exec c { s with pending := rest } := by
  unfold step
  rw [h]

theorem step_of_empty {s : State} (h : s.pending = []) : step s = .next s := by
  unfold step
  rw [h]

/-- Settles O36: the equation of a step with a row at the front. -/
theorem stepRunsFront : Obligations.StepRunsFront := fun _ _ _ => step_of_front

/-- Settles O37: the equation of a step on an empty queue. -/
theorem stepIdles : Obligations.StepIdles := fun _ => step_of_empty

/-- Settles O38: the reset state is closed, and each of its fields is what its structure has for default. -/
theorem resetValues : Obligations.ResetValues := by
  refine ⟨rfl, rfl, rfl, rfl, rfl, rfl, rfl, rfl, rfl, rfl, rfl, rfl, rfl, rfl, rfl, rfl, rfl⟩

/-- Settles O39: memory, events and audit log are empty. -/
theorem resetIsSound : Obligations.ResetIsSound := ⟨rfl, Nat.zero_le _, Nat.zero_le _⟩

/-- Every row answers a next state, and keeps what `Kept` says: the meaning of each constructor does. -/
theorem exec_kept {b : State} (c : Instr) (s : State) (h : Kept b s) : NextKept b (exec c s) :=
  match c with
  | .nop _ => execNop_kept _ s h
  | .queryState _ => execQueryState_kept _ s h
  | .setMode _ => execSetMode_kept _ s h
  | .reset _ => execReset_kept _ s h
  | .laneConfigConfigure _ => execLaneConfigConfigure_kept _ s h
  | .vblSend _ => execVblSend_kept _ s h
  | .vblRxBuffer _ => execVblRxBuffer_kept _ s h
  | .portConfigBind _ => execPortConfigBind_kept _ s h
  | .portConfigMonitor _ => execPortConfigMonitor_kept _ s h
  | .portConfigUnbind _ => execPortConfigUnbind_kept _ s h
  | .portConfigQuiesce _ => execPortConfigQuiesce_kept _ s h
  | .portConfigTrace _ => execPortConfigTrace_kept _ s h
  | .carrierConfig _ => execCarrierConfig_kept _ s h
  | .connStage _ => execConnStage_kept _ s h
  | .connStageBulk _ => execConnStageBulk_kept _ s h
  | .connCommit _ => execConnCommit_kept _ s h
  | .connAbort _ => execConnAbort_kept _ s h
  | .connReadback _ => execConnReadback_kept _ s h
  | .routeCheck _ => execRouteCheck_kept _ s h
  | .protConfigLinearGroup _ => execProtConfigLinearGroup_kept _ s h
  | .protConfigRing _ => execProtConfigRing_kept _ s h
  | .protConfigRemap _ => execProtConfigRemap_kept _ s h
  | .protConfigVblDistrust _ => execProtConfigVblDistrust_kept _ s h
  | .protConfigDelete _ => execProtConfigDelete_kept _ s h
  | .protCommand _ => execProtCommand_kept _ s h
  | .sncpProfile _ => execSncpProfile_kept _ s h
  | .sncpProfileRead _ => execSncpProfileRead_kept _ s h
  | .timingConfigSlot _ => execTimingConfigSlot_kept _ s h
  | .timingConfigBlock _ => execTimingConfigBlock_kept _ s h
  | .timingStatus _ => execTimingStatus_kept _ s h
  | .timingLockout _ => execTimingLockout_kept _ s h
  | .timingClearLockout _ => execTimingClearLockout_kept _ s h
  | .timingForce _ => execTimingForce_kept _ s h
  | .timingClearForce _ => execTimingClearForce_kept _ s h
  | .clearWtr _ => execClearWtr_kept _ s h
  | .historyClear _ => execHistoryClear_kept _ s h
  | .forceHoldover _ => execForceHoldover_kept _ s h
  | .forceFreeRun _ => execForceFreeRun_kept _ s h
  | .forceClear _ => execForceClear_kept _ s h
  | .softEnter _ => execSoftEnter_kept _ s h
  | .softWord _ => execSoftWord_kept _ s h
  | .softExit _ => execSoftExit_kept _ s h
  | .pmConfigExport _ => execPmConfigExport_kept _ s h
  | .pmConfigPostBuffer _ => execPmConfigPostBuffer_kept _ s h
  | .pmConfigExpectedTrace _ => execPmConfigExpectedTrace_kept _ s h
  | .pmConfigWithdraw _ => execPmConfigWithdraw_kept _ s h
  | .pmRead _ => execPmRead_kept _ s h
  | .tapConfig _ => execTapConfig_kept _ s h
  | .prbsConfig _ => execPrbsConfig_kept _ s h
  | .auditRead _ => execAuditRead_kept _ s h
  | .twinConfig _ => execTwinConfig_kept _ s h
  | .groupConfig _ => execGroupConfig_kept _ s h
  | .gatehouseKey _ => execGatehouseKey_kept _ s h
  | .imageBegin _ => execImageBegin_kept _ s h
  | .imageChunk _ => execImageChunk_kept _ s h
  | .imageVerify _ => execImageVerify_kept _ s h
  | .imageActivate _ => execImageActivate_kept _ s h
  | .imageConfirm _ => execImageConfirm_kept _ s h
  | .imageReject _ => execImageReject_kept _ s h
  | .journalStatus _ => execJournalStatus_kept _ s h
  | .journalCompact _ => execJournalCompact_kept _ s h
  | .powerDomain _ => execPowerDomain_kept _ s h
  | .todSet _ => execTodSet_kept _ s h
  | .commandFetch => execCommandFetch_kept s h
  | .cmdPhaseTimeout => execCmdPhaseTimeout_kept s h
  | .waitingCommandDone _ => execWaitingCommandDone_kept _ s h
  | .completionWrite => execCompletionWrite_kept s h
  | .eventWrite => execEventWrite_kept s h
  | .hostSlow => execHostSlow_kept s h
  | .dbCmd _ _ _ => execDbCmd_kept _ _ _ s h
  | .dbCpl _ _ => execDbCpl_kept _ _ s h
  | .dbEvt _ _ => execDbEvt_kept _ _ s h
  | .dbIrqRearm _ => execDbIrqRearm_kept _ s h
  | .topSetupLock _ => execTopSetupLock_kept _ s h
  | .ringEnable _ _ => execRingEnable_kept _ _ s h
  | .ringDisable _ _ => execRingDisable_kept _ _ s h
  | .lowHalfRead _ => execLowHalfRead_kept _ s h
  | .setupBadAccess _ _ _ => execSetupBadAccess_kept _ _ _ s h
  | .registerWrite _ _ => execRegisterWrite_kept _ _ s h
  | .ovfClear _ => execOvfClear_kept _ s h
  | .countClear _ => execCountClear_kept _ s h
  | .pmcCtrlWrite _ _ _ => execPmcCtrlWrite_kept _ _ _ s h
  | .dmaGo _ _ => execDmaGo_kept _ _ s h
  | .dmaPause _ _ => execDmaPause_kept _ _ s h
  | .dmaResume _ _ => execDmaResume_kept _ _ s h
  | .dmaStop _ _ => execDmaStop_kept _ _ s h
  | .dmaPaceEvent _ => execDmaPaceEvent_kept _ s h
  | .dmaBurstDone _ => execDmaBurstDone_kept _ s h
  | .dmaBurstRetry _ _ => execDmaBurstRetry_kept _ _ s h
  | .dmaWithdrawn _ => execDmaWithdrawn_kept _ s h
  | .msixUnmask _ => execMsixUnmask_kept _ s h
  | .perstN _ => execPerstN_kept _ s h
  | .linkUnavailable _ => execLinkUnavailable_kept _ s h
  | .linkRestored _ => execLinkRestored_kept _ s h
  | .busTimeout _ _ => execBusTimeout_kept _ _ s h
  | .busDrainDone _ => execBusDrainDone_kept _ s h
  | .frameStart => execFrameStart_kept s h
  | .holdOffExpiry _ _ _ => execHoldOffExpiry_kept _ _ _ s h
  | .wtrExpiry _ _ => execWtrExpiry_kept _ _ s h
  | .routeSolveDone => execRouteSolveDone_kept s h
  | .readinessPoint => execReadinessPoint_kept s h
  | .finalPoint => execFinalPoint_kept s h
  | .commitSwap => execCommitSwap_kept s h
  | .journalRecordClose => execJournalRecordClose_kept s h
  | .prepareDeadline => execPrepareDeadline_kept s h
  | .prepareRx _ _ _ => execPrepareRx_kept _ _ _ s h
  | .readyRx _ _ _ => execReadyRx_kept _ _ _ s h
  | .readyDeadline => execReadyDeadline_kept s h
  | .commitRx sl u _ => execCommitRx_kept sl u _ s h
  | .ackRx _ _ _ => execAckRx_kept _ _ _ s h
  | .ackDeadline => execAckDeadline_kept s h
  | .abortRx sl u _ => execAbortRx_kept sl u _ s h
  | .refuseRx sl u _ => execRefuseRx_kept sl u _ s h
  | .groupRecordRx _ _ _ _ => execGroupRecordRx_kept _ _ _ _ s h
  | .groupRecordLapse _ _ => execGroupRecordLapse_kept _ _ s h
  | .bellwetherChange => execBellwetherChange_kept s h
  | .groupPacketRx _ _ => execGroupPacketRx_kept _ _ s h
  | .groupConfigPacketRx _ _ => execGroupConfigPacketRx_kept _ _ s h
  | .groupStagedRx _ => execGroupStagedRx_kept _ s h
  | .catchup _ _ _ => execCatchup_kept _ _ _ s h
  | .groupJournalRx _ _ => execGroupJournalRx_kept _ _ s h
  | .groupLinkDown _ => execGroupLinkDown_kept _ s h
  | .pageRestore => execPageRestore_kept s h
  | .mateHeaderRx _ _ => execMateHeaderRx_kept _ _ s h
  | .mateLinkUp => execMateLinkUp_kept s h
  | .mateLinkDown _ _ => execMateLinkDown_kept _ _ s h
  | .mlLof _ => execMlLof_kept _ s h
  | .relayGrant _ _ _ => execRelayGrant_kept _ _ _ s h
  | .released epoch fn => execReleased_kept epoch fn s h
  | .retransmit _ _ _ => execRetransmit_kept _ _ _ s h
  | .mateCommandRx _ _ => execMateCommandRx_kept _ _ s h
  | .mateRecordRx _ => execMateRecordRx_kept _ s h
  | .mateJournalRx _ _ => execMateJournalRx_kept _ _ s h
  | .mateStagedRx _ _ => execMateStagedRx_kept _ _ s h
  | .mateBulkRx _ _ _ => execMateBulkRx_kept _ _ _ s h
  | .mirrorGapTimeout _ => execMirrorGapTimeout_kept _ s h
  | .resyncInstall => execResyncInstall_kept s h
  | .mateAlignStep => execMateAlignStep_kept s h
  | .grantRx _ _ => execGrantRx_kept _ _ s h
  | .roleTakeEffect => execRoleTakeEffect_kept s h
  | .leaseEnd => execLeaseEnd_kept s h
  | .grantTtlExpiry _ => execGrantTtlExpiry_kept _ s h
  | .keyOverlapExpiry _ => execKeyOverlapExpiry_kept _ s h
  | .forcedTakeover => execForcedTakeover_kept s h
  | .vblHeaderRx _ _ => execVblHeaderRx_kept _ _ s h
  | .trustRestore _ => execTrustRestore_kept _ s h
  | .distrustRepeat _ => execDistrustRepeat_kept _ s h
  | .vblMessageRx _ _ => execVblMessageRx_kept _ _ s h
  | .vblFrameVerify _ _ => execVblFrameVerify_kept _ _ s h
  | .vblOof _ _ => execVblOof_kept _ _ s h
  | .vblDefectChange _ _ _ => execVblDefectChange_kept _ _ _ s h
  | .laneFrameVerify _ _ => execLaneFrameVerify_kept _ _ s h
  | .laneOof _ => execLaneOof_kept _ s h
  | .laneFalseLockExit _ => execLaneFalseLockExit_kept _ s h
  | .laneTieTimeout _ _ => execLaneTieTimeout_kept _ _ s h
  | .laneReadmission _ => execLaneReadmission_kept _ s h
  | .laneDefectChange _ _ _ _ _ => execLaneDefectChange_kept _ _ _ _ _ s h
  | .pathDefectChange _ _ _ _ _ => execPathDefectChange_kept _ _ _ _ _ s h
  | .berDeclare _ _ _ _ => execBerDeclare_kept _ _ _ _ s h
  | .kbyteAccept _ _ => execKbyteAccept_kept _ _ s h
  | .psbf _ => execPsbf_kept _ s h
  | .kstorm _ _ => execKstorm_kept _ _ s h
  | .fop _ _ _ => execFop_kept _ _ _ s h
  | .apsSwitch _ _ _ => execApsSwitch_kept _ _ _ s h
  | .carrierAlignVerify _ _ => execCarrierAlignVerify_kept _ _ s h
  | .carrierTieTimeout _ _ => execCarrierTieTimeout_kept _ _ s h
  | .carrierFalseLockExit _ => execCarrierFalseLockExit_kept _ s h
  | .carrierBarLapse _ => execCarrierBarLapse_kept _ s h
  | .carrierInterworkFallback _ => execCarrierInterworkFallback_kept _ s h
  | .carrierDefectChange _ _ _ => execCarrierDefectChange_kept _ _ _ s h
  | .carrierSlip _ _ => execCarrierSlip_kept _ _ s h
  | .sigHoldExpiry _ => execSigHoldExpiry_kept _ s h
  | .defectEventPeriod => execDefectEventPeriod_kept s h
  | .pmSecondFinal _ _ => execPmSecondFinal_kept _ _ s h
  | .pmBinClose _ _ _ => execPmBinClose_kept _ _ _ s h
  | .pmBufferTimeout => execPmBufferTimeout_kept s h
  | .selectionTick => execSelectionTick_kept s h
  | .refFailureCondition _ _ _ => execRefFailureCondition_kept _ _ _ s h
  | .refHoldOffExpiry _ => execRefHoldOffExpiry_kept _ s h
  | .refWtrExpiry _ => execRefWtrExpiry_kept _ s h
  | .acqFail => execAcqFail_kept s h
  | .dpllLocked => execDpllLocked_kept s h
  | .ssmTimeout _ => execSsmTimeout_kept _ s h
  | .ssmAccept _ _ => execSsmAccept_kept _ _ s h
  | .freqMonitorUpdate _ _ => execFreqMonitorUpdate_kept _ _ s h
  | .refConflict _ _ => execRefConflict_kept _ _ s h
  | .counterGather => execCounterGather_kept s h
  | .fpBackgroundCheck _ => execFpBackgroundCheck_kept _ s h
  | .prbsSyncChange _ _ => execPrbsSyncChange_kept _ _ s h
  | .engineOverrun _ => execEngineOverrun_kept _ s h
  | .bankSwitch _ => execBankSwitch_kept _ s h
  | .bankReadyTimeout _ => execBankReadyTimeout_kept _ s h
  | .eccUncorrectable _ => execEccUncorrectable_kept _ s h
  | .scrubCorrection _ => execScrubCorrection_kept _ s h
  | .bankRepairDone _ => execBankRepairDone_kept _ s h
  | .liveItemRewrite _ => execLiveItemRewrite_kept _ s h
  | .domainOnDone _ => execDomainOnDone_kept _ s h
  | .domainFault _ => execDomainFault_kept _ s h
  | .debugResponse _ _ _ _ => execDebugResponse_kept _ _ _ _ s h
  | .powerOn _ => execPowerOn_kept _ s h
  | .railFault _ => execRailFault_kept _ s h
  | .coldPin _ => execColdPin_kept _ s h
  | .warmPin _ => execWarmPin_kept _ s h
  | .thermalTripClear _ => execThermalTripClear_kept _ s h
  | .thermalWarn _ => execThermalWarn_kept _ s h
  | .trimLoadRetry _ => execTrimLoadRetry_kept _ s h
  | .xoCheckRetry _ => execXoCheckRetry_kept _ s h
  | .powerFailWarning _ => execPowerFailWarning_kept _ s h
  | .vbakCheck _ => execVbakCheck_kept _ s h
  | .clearFaults _ => execClearFaults_kept _ s h
  | .capability pec => execCapability_kept pec s h
  | .statusWord pec => execStatusWord_kept pec s h
  | .statusInput pec => execStatusInput_kept pec s h
  | .statusTemperature pec => execStatusTemperature_kept pec s h
  | .statusCml pec => execStatusCml_kept pec s h
  | .statusMfrSpecific pec => execStatusMfrSpecific_kept pec s h
  | .readVin pec => execReadVin_kept pec s h
  | .readIin pec => execReadIin_kept pec s h
  | .readTemperature1 pec => execReadTemperature1_kept pec s h
  | .readPin pec => execReadPin_kept pec s h
  | .pmbusRevision pec => execPmbusRevision_kept pec s h
  | .mfrId pec => execMfrId_kept pec s h
  | .mfrModel pec => execMfrModel_kept pec s h
  | .mfrRevision pec => execMfrRevision_kept pec s h
  | .mfrSerial pec => execMfrSerial_kept pec s h
  | .mfrModuleState pec => execMfrModuleState_kept pec s h
  | .mfrReset _ _ => execMfrReset_kept _ _ s h
  | .mfrResetHistory pec => execMfrResetHistory_kept pec s h
  | .mfrReadVbak pec => execMfrReadVbak_kept pec s h
  | .i2cInvalidCommand _ => execI2cInvalidCommand_kept _ s h
  | .mlOof _ => execMlOof_kept _ s h
  | .mlFrameVerify _ => execMlFrameVerify_kept _ s h
  | .codeGroupAlignment _ => execCodeGroupAlignment_kept _ s h
  | .timingAlignmentChange _ => execTimingAlignmentChange_kept _ s h
  | .carrierLossOfAlignment _ => execCarrierLossOfAlignment_kept _ s h
  | .multiframeAlignment _ _ => execMultiframeAlignment_kept _ _ s h
  | .vblBarLapse _ => execVblBarLapse_kept _ s h
  | .sensorFault _ _ => execSensorFault_kept _ _ s h
  | .vinOvervoltage _ => execVinOvervoltage_kept _ s h
  | .pmSecondEnd _ => execPmSecondEnd_kept _ s h
  | .compactionStart => execCompactionStart_kept s h
  | .compactionDone => execCompactionDone_kept s h
  | .journalFault => execJournalFault_kept s h
  | .managementHandover => execManagementHandover_kept s h
  | .handoverTimeout => execHandoverTimeout_kept s h
  | .microcodeSwitch => execMicrocodeSwitch_kept s h
  | .imageSelfConfirm => execImageSelfConfirm_kept s h
  | .trialDeadline => execTrialDeadline_kept s h
  | .debugChallenge => execDebugChallenge_kept s h
  | .debugReset => execDebugReset_kept s h
  | .clockFault => execClockFault_kept s h
  | .ganderWarm => execGanderWarm_kept s h
  | .ganderKick => execGanderKick_kept s h
  | .ganderCold => execGanderCold_kept s h
  | .thermal => execThermal_kept s h
  | .coldRelease => execColdRelease_kept s h
  | .warmRelease => execWarmRelease_kept s h
  | .optionLoadRetry => execOptionLoadRetry_kept s h
  | .safeRestartEntry => execSafeRestartEntry_kept s h
  | .pfwClear => execPfwClear_kept s h

/-- A step from a sound state is sound: the idle one changes nothing, any other runs a row. -/
theorem step_sound {s t : State} (hs : Sound s) (ht : step s = .next t) : Sound t := by
  cases hp : s.pending with
  | nil =>
    rw [step_of_empty hp] at ht
    cases ht
    exact hs
  | cons c rest =>
    rw [step_of_front hp] at ht
    have hsound : Sound { s with pending := rest } := hs
    obtain ⟨u, hu, hkept⟩ := exec_kept c _ (kept_refl hsound)
    obtain ⟨-, hu', -⟩ := kept_iff.1 hkept
    rw [ht] at hu
    cases hu
    exact hu'

/-- Settles O40: every row keeps a sound state sound. -/
theorem stepKeepsSound : Obligations.StepKeepsSound := fun _ _ => step_sound

end Sys2Proof.Proofs
end

section
/-! Counters (R400, R402), the event queue (R300, R301), OBS.AUDIT_HIGH (R390) and the frame of COMPLETION_WRITE (R299). -/
namespace Sys2Proof.Proofs
open Machine Laws

-- Counters.

theorem fld_toNat {n : Nat} (w : BitVec n) (off k : Nat) : fld w off k = w.toNat / 2 ^ off % 2 ^ k := by
  simp [fld, Nat.shiftRight_eq_div_pow]

theorem bit_eq_div_mod {n : Nat} (w : BitVec n) (i : Nat) : bit w i = decide (w.toNat / 2 ^ i % 2 = 1) :=
  Nat.testBit_eq_decide_div_mod_eq

/-- A counter word as R402 lays it out: 48 bits of COUNT, and OVF on top. -/
def countWord (count : Nat) (ovf : Bool) : Word64 := BitVec.ofNat 64 (count + if ovf then 2 ^ 63 else 0)

theorem fld_countWord {count : Nat} (h : count < 2 ^ 48) (ovf : Bool) : fld (countWord count ovf) 0 48 = count := by
  rw [fld_toNat, countWord, BitVec.toNat_ofNat]
  cases ovf <;> simp <;> omega

theorem bit_countWord {count : Nat} (h : count < 2 ^ 48) (ovf : Bool) : bit (countWord count ovf) 63 = ovf := by
  rw [bit_eq_div_mod, countWord, BitVec.toNat_ofNat]
  cases ovf <;> simp <;> omega

/-- What a counter holds after n more happenings (R402). -/
theorem tget_bump_same (b c n : Nat) (s : State) : tget 0 (bump b c n s).bel.ctr (4 * b + c) =
    countWord ((fld (tget 0 s.bel.ctr (4 * b + c)) 0 48 + n) % 2 ^ 48)
      (bit (tget 0 s.bel.ctr (4 * b + c)) 63 || decide (2 ^ 48 ≤ fld (tget 0 s.bel.ctr (4 * b + c)) 0 48 + n)) :=
  tget_tset_same ..

theorem tget_bump_other {b c k : Nat} (n : Nat) (s : State) (h : k ≠ 4 * b + c) :
    tget 0 (bump b c n s).bel.ctr k = tget 0 s.bel.ctr k :=
  tget_tset_other _ _ _ _ _ h

/-- Settles O56: the word written back is the sum cut to 48 bits, with OVF over it. -/
theorem counterWraps : Obligations.CounterWraps := by
  rintro b c n s t w v rfl rfl rfl
  have hcut := Nat.mod_lt (fld (tget 0 s.bel.ctr (4 * b + c)) 0 48 + n) (Nat.two_pow_pos 48)
  refine ⟨?_, ?_, fun k => tget_bump_other n s⟩
  · rw [tget_bump_same, fld_countWord hcut]
  · rw [tget_bump_same, bit_countWord hcut]

-- Events.

theorem postAt_before_entry {s : State} (h : entered s = false) (code : Byte) (fn : FN) (p : BitVec 160) :
    postAt code fn p s = s :=
  if_pos (by simp [h])

section
variable {s : State} (he : entered s = true) (code : Byte) (fn : FN) (p : BitVec 160)
include he

/-- With room in the queue an event goes to its tail; EVT.QUEUED, where the ring cannot take it, is a cause only (R301). -/
theorem postAt_room (hroom : s.host.evtQ.length < 8192) : ∃ causes, postAt code fn p s =
    { s with host := { s.host with
      evtSeq := s.host.evtSeq + 1, causes := causes,
      evtQ := s.host.evtQ ++ [{ code := code, mode := s.mode.mode, seq := s.host.evtSeq, fn := fn, payload := p }] } } := by
  unfold postAt
  simp only [he, Bool.not_true, Bool.false_eq_true, if_false, if_pos hroom]
  split
  · exact ⟨_, rfl⟩
  · exact ⟨_, rfl⟩

/-- The first event that a full queue discards opens the EVENTS_LOST entry (R301). -/
theorem postAt_first_lost (hfull : 8192 ≤ s.host.evtQ.length) (hl : s.host.lost = none) :
    postAt code fn p s = raise gEvt 2 { s with host := { s.host with
      evtSeq := s.host.evtSeq + 1,
      lost := some (8192, { seq := s.host.evtSeq, mode := s.mode.mode, count := 1, first := fn, last := fn }) } } := by
  unfold postAt
  simp only [he, Bool.not_true, Bool.false_eq_true, if_false, if_neg (Nat.not_lt.2 hfull), hl]

/-- A further one adds to its count (R301). -/
theorem postAt_more_lost (hfull : 8192 ≤ s.host.evtQ.length) {n : Nat} {l : Lost} (hl : s.host.lost = some (n, l)) :
    postAt code fn p s = { s with host := { s.host with
      evtSeq := s.host.evtSeq + 1, lost := some (n, { l with count := l.count + 1, last := fn }) } } := by
  unfold postAt
  simp only [he, Bool.not_true, Bool.false_eq_true, if_false, if_neg (Nat.not_lt.2 hfull), hl]

end

/-- Settles O57: the event finds room, opens the EVENTS_LOST entry, or adds to it. -/
theorem eventQueue : Obligations.EventQueue := by
  rintro code fn p s t rfl
  refine ⟨fun he => postAt_before_entry he .., fun he => ?_⟩
  rcases Nat.lt_or_ge s.host.evtQ.length 8192 with hroom | hfull
  · obtain ⟨causes, h⟩ := postAt_room he code fn p hroom
    rw [h]
    exact ⟨rfl, fun _ => ⟨rfl, rfl⟩, fun hfull => absurd hroom (Nat.not_lt.2 hfull)⟩
  · cases hl : s.host.lost with
    | none =>
      rw [postAt_first_lost he code fn p hfull hl]
      exact ⟨rfl, fun hroom => absurd hroom (Nat.not_lt.2 hfull), fun _ => ⟨rfl, fun _ => rfl, nofun⟩⟩
    | some x =>
      obtain ⟨n, l⟩ := x
      rw [postAt_more_lost he code fn p hfull hl]
      refine ⟨rfl, fun hroom => absurd hroom (Nat.not_lt.2 hfull), fun _ => ⟨rfl, nofun, ?_⟩⟩
      rintro n' l' ⟨⟩
      rfl

-- OBS.AUDIT_HIGH.

/-- An event changes the queue, its SEQ, what is lost and the causes of its own group. -/
theorem postAt_shape (code : Byte) (fn : FN) (p : BitVec 160) (s : State) : ∃ seq q l causes, postAt code fn p s =
    { s with host := { s.host with evtSeq := seq, evtQ := q, lost := l, causes := causes } } ∧
      ∀ g, g ≠ gEvt → tget 0 causes g = tget 0 s.host.causes g := by
  unfold postAt
  split
  · exact ⟨_, _, _, _, rfl, fun _ _ => rfl⟩
  · dsimp only
    split
    · split
      · exact ⟨_, _, _, _, rfl, fun g hg => tget_tset_other _ _ _ _ _ hg⟩
      · exact ⟨_, _, _, _, rfl, fun _ _ => rfl⟩
    · split
      · exact ⟨_, _, _, _, rfl, fun _ _ => rfl⟩
      · exact ⟨_, _, _, _, rfl, fun g hg => tget_tset_other _ _ _ _ _ hg⟩

theorem post_causes_other {g : Nat} (hg : g ≠ gEvt) (code : Byte) (fs : List Field) (s : State) :
    tget 0 (post code fs s).host.causes g = tget 0 s.host.causes g := by
  obtain ⟨_, _, _, _, h, hcauses⟩ := postAt_shape code s.clk.fn (pack 160 fs) s
  rw [post, h]
  exact hcauses g hg

theorem post_bel (code : Byte) (fs : List Field) (s : State) : (post code fs s).bel = s.bel := by rw [post, postAt_host]

/-- A cause that has been raised stands (R309). -/
theorem causeOf_raise (g : Nat) {b : Nat} (hb : b < 32) (s : State) : causeOf (raise g b s) g b = true := by
  have hbit : (place 32 b 1).getLsbD b = true := by
    rw [place, Nat.one_mul, BitVec.getLsbD_ofNat, Nat.testBit_two_pow_self]
    simp [hb]
  simp only [causeOf, bit, raise, tget_tset_same, BitVec.getLsbD_or, hbit, Bool.or_true]

/-- The entry that passes the limit raises the cause, once until the newest has been returned (R390). -/
theorem auditAdd_high {s : State} {a : Audit} (hoff : s.bel.auditHigh = false) (hfar : s.bel.auditRead + 3072 < a.seq + 1) :
    causeOf (auditAdd a s) gObs 2 = true ∧ (auditAdd a s).bel.auditHigh = true := by
  have hc : (decide (a.seq + 1 > s.bel.auditRead + 3072) && !s.bel.auditHigh) = true := by simpa [hoff] using hfar
  simp only [auditAdd, hc, if_true, obsNote]
  refine ⟨?_, by rw [post_bel]; rfl⟩
  rw [causeOf, post_causes_other (by decide)]
  exact causeOf_raise gObs (by decide) _

theorem auditAdd_not_high {s : State} {a : Audit} (h : s.bel.auditHigh = true ∨ a.seq + 1 ≤ s.bel.auditRead + 3072) :
    (auditAdd a s).host.causes = s.host.causes ∧ (auditAdd a s).bel.auditHigh = s.bel.auditHigh := by
  have hc : (decide (a.seq + 1 > s.bel.auditRead + 3072) && !s.bel.auditHigh) = false := by
    rcases h with h | h
    · simp [h]
    · simp [Nat.not_lt.2 h]
  simp only [auditAdd, hc, Bool.false_eq_true, if_false]
  exact ⟨rfl, rfl⟩

/-- Settles O53: an entry passes the limit or not, and only the return of the newest moves the highest SEQ up to it. -/
theorem auditHigh : Obligations.AuditHigh := by
  refine ⟨fun s a => auditAdd_high, fun s a => auditAdd_not_high, fun s first n hread => ⟨rfl, ?_⟩⟩
  have hlt : max s.bel.auditRead (min (first + n) (auditNewest s + 1)) < auditNewest s + 1 ↔
      s.bel.auditRead < auditNewest s + 1 ∧ first + n < auditNewest s + 1 := by omega
  rw [auditSeen, Bool.and_eq_true, decide_eq_true_eq, hlt]

-- COMPLETION_WRITE.

theorem sendMsix_frame (s : State) : sendMsix s =
    { s with host := { s.host with msixSent := (sendMsix s).host.msixSent, pend := (sendMsix s).host.pend } } := by
  unfold sendMsix
  split
  · split <;> rfl
  · rfl

/-- The end of a row sends at most the message of the interrupt (R313). -/
theorem irqEdge_frame (s t : State) : irqEdge s t =
    { t with host := { t.host with msixSent := (irqEdge s t).host.msixSent, pend := (irqEdge s t).host.pend } } := by
  unfold irqEdge
  split
  · exact sendMsix_frame t
  · rfl

theorem irqEdge_mem (s t : State) : (irqEdge s t).host.mem = t.host.mem := by rw [irqEdge_frame]

/-- A row after which the interrupt condition stands as before ends without a message (R313). -/
theorem irqEdge_same {s t : State} (h : irqCond t = irqCond s) : irqEdge s t = t :=
  if_neg (by simp [h])

@[simp] theorem length_toLE (n v : Nat) : (toLE n v).length = n := by
  induction n generalizing v with
  | zero => rfl
  | succ n ih => simp [toLE, ih]

theorem length_cplBytes (s : State) (c : Cpl) : (cplBytes s c).length = 32 := length_toLE ..

theorem exec_completionWrite {s : State} {q : Cpl} {rest : List Cpl} (hq : s.host.cplQ = q :: rest)
    (htakes : ringTakes s s.host.cpl = true) : exec .completionWrite s = .next (irqEdge s (raise gCpl 0 { s with host := { s.host with
      mem := memStore s.host.mem (ringAddr s.host.cpl) (cplBytes s q), cplQ := rest, held := s.host.held - 1,
      cpl := { s.host.cpl with pos := ringNext s.host.cpl } } })) := by
  have h : writeCpl s = raise gCpl 0 { s with host := { s.host with
      mem := memStore s.host.mem (ringAddr s.host.cpl) (cplBytes s q), cplQ := rest, held := s.host.held - 1,
      cpl := { s.host.cpl with pos := ringNext s.host.cpl } } } := by
    simp only [writeCpl, hq, htakes, Bool.not_true, Bool.false_eq_true, if_false]
  rw [← h]
  rfl

/-- Settles O58: the store covers exactly the 32 bytes of the entry, and the end of the row touches the message only. -/
theorem completionFrame : Obligations.CompletionFrame := by
  intro s t q rest hq htakes ht
  rw [exec_completionWrite hq htakes] at ht
  cases ht
  rw [irqEdge_mem]
  refine ⟨fun a ha => ?_, fun k hk => ?_, ?_⟩
  · refine memByte_memStore_other _ _ _ _ ?_
    rw [length_cplBytes]
    omega
  · have hin : k < (cplBytes s q).length := by rw [length_cplBytes]; exact hk
    rw [raise_host_mem, memByte_memStore, dif_pos (by omega)]
    simp [hin]
  · exact irqEdge_frame s _

end Sys2Proof.Proofs
end

section
/-! The I2C target (R314 to R316): a read, a write, and each PMBus command. -/
namespace Sys2Proof.Proofs
open Machine

section
variable {s : State}

/-- A read that the target acknowledges is answered with its bytes and their packet error code (R314). -/
theorem i2cRead_acked (h : s.rst.phase ≠ .coldAsserted) (code : Byte) (bs : Bytes) : i2cRead code bs s =
    { s with i2c := { s.i2c with acked := true, reply := bs ++ [readPec s code bs] } } :=
  if_pos (decide_eq_true h)

/-- While a cold reset is asserted no read is acknowledged (R314). -/
theorem i2cRead_silent (h : s.rst.phase = .coldAsserted) (code : Byte) (bs : Bytes) : i2cRead code bs s =
    { s with i2c := { s.i2c with acked := false, reply := [] } } :=
  if_neg (by simp [i2cAcks, h])

/-- A write that the target acknowledges has its effect (R314). -/
theorem i2cWrite_acked (h : s.rst.phase ≠ .coldAsserted) (act : State → State) :
    i2cWrite act s = act { s with i2c := { s.i2c with acked := true, reply := [] } } := by
  have hack : i2cAcks s = true := decide_eq_true h
  simp only [i2cWrite, hack, if_true]

theorem i2cWrite_silent (h : s.rst.phase = .coldAsserted) (act : State → State) :
    i2cWrite act s = { s with i2c := { s.i2c with acked := false, reply := [] } } := by
  have hack : i2cAcks s = false := by simp [i2cAcks, h]
  simp only [i2cWrite, hack, Bool.false_eq_true, if_false]

/-- The I2C port and the free values take no part in the interrupt condition. -/
theorem finish_i2c (s : State) (i : I2cSt) : finish s { s with i2c := i } = .next { s with i2c := i } :=
  congrArg Host.Outcome.next (irqEdge_same rfl)

theorem finish_i2c_draws (s : State) (n : Nat) (i : I2cSt) :
    finish s { s with draws := n, i2c := i } = .next { s with draws := n, i2c := i } :=
  congrArg Host.Outcome.next (irqEdge_same rfl)

end

/-- Settles O59: neither a read nor a write is acknowledged, and what stays changes no interrupt condition. -/
theorem i2cSilent : Obligations.I2cSilent := by
  intro s pec key bad h
  refine ⟨fun c hc => ?_, fun c hc => ?_⟩
  · have hread : ∀ code bs, finish s (i2cRead code bs s) = .next { s with i2c := { s.i2c with acked := false, reply := [] } } :=
      fun code bs => by rw [i2cRead_silent h, finish_i2c]
    have hwrite : ∀ act, finish s (i2cWrite act s) = .next { s with i2c := { s.i2c with acked := false, reply := [] } } :=
      fun act => by rw [i2cWrite_silent h, finish_i2c]
    simp only [List.mem_cons, List.not_mem_nil, or_false] at hc
    rcases hc with rfl | rfl | rfl | rfl | rfl | rfl | rfl | rfl | rfl | rfl | rfl | rfl | rfl | rfl | rfl | rfl | hc
    case inr =>
      rcases hc with rfl | rfl | rfl
      all_goals exact hwrite _
    all_goals exact hread _ _
  · have hread : ∀ code bs, finish s (i2cRead code bs { s with draws := s.draws + 1 }) =
        .next { s with draws := s.draws + 1, i2c := { s.i2c with acked := false, reply := [] } } :=
      fun code bs => by rw [i2cRead_silent (s := { s with draws := s.draws + 1 }) h, finish_i2c_draws]
    simp only [List.mem_cons, List.not_mem_nil, or_false] at hc
    rcases hc with rfl | rfl
    all_goals exact hread _ _

/-- Settles O34: each read is a read of the target with its own code and bytes. -/
theorem completesPmbusReads : Obligations.CompletesPmbusReads := by
  have hread : ∀ {s t : State}, t.rst.phase ≠ .coldAsserted → ∀ code bs, finish s (i2cRead code bs t) =
      .next (irqEdge s { t with i2c := { t.i2c with acked := true, reply := bs ++ [readPec t code bs] } }) :=
    fun h code bs => by rw [i2cRead_acked h, finish]
  refine ⟨?_, ?_, ?_, ?_, ?_, ?_, ?_, ?iin, ?_, ?pin, ?_, ?_, ?_, ?_, ?_, ?_, ?_, ?_⟩
  case iin | pin =>
    rintro s pec i t h rfl rfl
    exact hread (t := { s with draws := s.draws + 1 }) h _ _
  all_goals exact fun s pec h => hread h _ _

theorem mfrReset_keyCold (s : State) : mfrReset .correct 0x5AFEC01D s = assertCold 8 s := rfl

theorem mfrReset_keyWarm (s : State) : mfrReset .correct 0x5AFE3A53 s = assertWarm 9 s := rfl

theorem mfrReset_badPec {pec : Pec} (h : pec ≠ .correct) (key : Word32) (s : State) : mfrReset pec key s = setCml 5 s :=
  if_pos h

theorem mfrReset_otherKey {key : Word32} (hc : key ≠ 0x5AFEC01D) (hw : key ≠ 0x5AFE3A53) (s : State) :
    mfrReset .correct key s = setCml 6 s := by
  rw [mfrReset, if_neg (by decide), if_neg hc, if_neg hw]

/-- Settles O35: each write is acknowledged, and its packet error code and key choose the effect. -/
theorem completesPmbusWrites : Obligations.CompletesPmbusWrites := by
  have hwrite : ∀ {s : State}, s.rst.phase ≠ .coldAsserted → ∀ act, finish s (i2cWrite act s) =
      .next (irqEdge s (act { s with i2c := { s.i2c with acked := true, reply := [] } })) :=
    fun h act => by rw [i2cWrite_acked h, finish]
  refine ⟨?clear, ?clearWrong, ?cold, ?warm, ?badPec, ?otherKey, ?invalid⟩
  case clear =>
    intro s pec h hpec
    rw [exec, execClearFaults, hwrite h, if_neg hpec, clearFaults]
  case clearWrong =>
    intro s h
    rw [exec, execClearFaults, hwrite h, if_pos rfl, setCml]
  case cold =>
    rintro s key h rfl
    rw [exec, execMfrReset, hwrite h, mfrReset_keyCold]
  case warm =>
    rintro s key h rfl
    rw [exec, execMfrReset, hwrite h, mfrReset_keyWarm]
  case badPec =>
    intro s pec key h hpec
    rw [exec, execMfrReset, hwrite h, mfrReset_badPec hpec, setCml]
  case otherKey =>
    intro s key h hc hw
    rw [exec, execMfrReset, hwrite h, mfrReset_otherKey hc hw, setCml]
  case invalid =>
    intro s bad h
    rw [exec, execI2cInvalidCommand, hwrite h, setCml]

end Sys2Proof.Proofs
end

section
/-! What a cold reset leaves (R405, R416); the rows that assert and release resets (R404 to R412, R419, R425), and those of the
supply, the battery and the sensors (R417, R420, R426). -/
namespace Sys2Proof.Proofs
open Machine Laws

/-- A reset request counts its cause once more, up to 255 (R416). -/
theorem tget_countReset_same (cause : Nat) (s : State) : tget 0 (countReset cause s).bak.counts cause =
    if tget 0 s.bak.counts cause = 255 then 255 else tget 0 s.bak.counts cause + 1 := by
  rw [countReset, tget_tset_same]
  split
  · assumption
  · rfl

/-- Settles O54: what the reset keeps it names; the rest holds the values of the reset state, and the count is one entry of the
table. -/
theorem coldReset : Obligations.ColdReset := by
  rintro s t cause - rfl
  exact ⟨rfl, rfl, rfl, rfl, rfl, rfl, rfl, rfl, rfl, rfl, rfl, rfl, rfl, rfl, rfl, rfl, rfl, rfl, tget_countReset_same ..,
    fun _ hk => tget_tset_other _ _ _ _ _ hk, rfl, rfl, rfl⟩

-- Assertions.

section
variable {s : State}

theorem railFault_resets {d : Nat} (h : d = 104 ∨ d = 108 ∨ d = 111) : exec (.railFault (some d)) s = finish s (assertCold 2 s) := by
  rcases h with rfl | rfl | rfl <;> rfl

theorem coldPin_falls (h : s.rst.coldPin = false) :
    coldPin true s = { assertCold 4 s with rst := { (assertCold 4 s).rst with coldPin := true } } := by
  simp only [coldPin, h, Bool.not_false, and_self, if_true]

theorem warmPin_falls (h : s.rst.warmPin = false) :
    warmPin true s = { assertWarm 5 s with rst := { (assertWarm 5 s).rst with warmPin := true } } := by
  simp only [warmPin, h, Bool.not_false, and_self, if_true]

theorem coldPin_rises : coldPin false s = { s with rst := { s.rst with coldPin := false } } := rfl

theorem warmPin_rises : warmPin false s = { s with rst := { s.rst with warmPin := false } } := rfl

theorem thermal_trips (h : 1550 ≤ hottest s) : thermal s = { assertCold 0x0C s with
    rst := { (assertCold 0x0C s).rst with thermHold := true }, pwr := { (assertCold 0x0C s).pwr with tripped := true } } :=
  if_neg (Int.not_lt.2 h)

-- Releases.

theorem coldRelease_free (hp : s.rst.phase = .coldAsserted) (hv : s.rst.vinGood = true) (hc : s.rst.coldPin = false)
    (ht : s.rst.thermHold = false) : coldRelease s = stepTrim (finishErasure (bakCheck (clearCauses
      { s with rst := { s.rst with phase := .coldRelease, step := 1, optFailed := false, noImage := false } }))) :=
  if_pos ⟨hp, by simp [coldFree, hv, hc, ht]⟩

theorem warmRelease_free (hp : s.rst.phase = .warmAsserted ∨ s.rst.phase = .warmRelease) (hh : s.rst.hold = .none)
    (hw : s.rst.warmPin = false) : warmRelease s = stepRom { s with rst := { s.rst with phase := .warmRelease } } :=
  if_pos ⟨hp, hh, by simp [hw]⟩

/-- A trim copy that reads wrong holds the release at step 1 (R411). -/
theorem stepTrim_held (h : s.fuse.trimOk = false) : stepTrim s = { s with rst := { s.rst with step := 1, hold := .trim } } :=
  if_neg (by simp [h])

theorem stepTrim_good (h : s.fuse.trimOk = true) :
    stepTrim s = stepOption { s with rst := { s.rst with step := 2, hold := .none } } :=
  if_pos h

/-- A clock that fails its check holds the release at step 5 (R425). -/
theorem stepXo_held (h : s.rst.xoOk = false) : stepXo s = { s with rst := { s.rst with step := 5, hold := .xo } } :=
  if_neg (by simp [h])

theorem safeEntry_due (hr : s.mode.safeRestart = true) (hp : s.rst.phase = .running) (hrom : s.rst.romOk = true) :
    safeEntry s = lateEvents (modeChange s.mode.safeFrom s.mode.safeFn
      (raise gRst 1 { s with mode := { s.mode with safeRestart := false }, rst := { s.rst with kickTicks := 0 } })) :=
  if_neg (by simp [hr, hp, hrom])

end

/-- Settles O32: each row answers what its function answers in the branch that the hypotheses of the clause choose. -/
theorem completesReset : Obligations.CompletesReset := by
  refine ⟨?rise, ?fall, ?rail, ?railDomain, ?clock, ?coldLow, ?coldHigh, ?warmLow, ?warmHigh, ?gander, ?kick, ?ganderCold,
    ?thermal, ?coldRelease, ?warmRelease, ?option, ?trimBad, ?trimGood, ?xoBad, ?xoGood, ?safe⟩
  case rise => exact fun s pins => rfl
  case fall =>
    rintro s pins t rfl
    rfl
  case rail => exact fun s => rfl
  case railDomain => exact fun s d hd => railFault_resets hd
  case clock =>
    rintro s t hrun rfl
    rw [exec, execClockFault, if_pos hrun, finish]
  case coldLow =>
    rintro s t hpin rfl
    rw [exec, execColdPin, coldPin_falls hpin, finish]
  case coldHigh => exact fun s => by rw [exec, execColdPin, coldPin_rises, finish]
  case warmLow =>
    rintro s t hpin rfl
    rw [exec, execWarmPin, warmPin_falls hpin, finish]
  case warmHigh => exact fun s => by rw [exec, execWarmPin, warmPin_rises, finish]
  case gander =>
    intro s hrun hlate
    rw [exec, execGanderWarm, if_pos ⟨hrun, hlate⟩, finish]
  case kick => exact fun s => rfl
  case ganderCold =>
    intro s f hrun hrel hlate
    rw [exec, execGanderCold, hrel, Option.getD_some, if_pos ⟨hrun, hlate⟩, finish]
  case thermal =>
    rintro s t hhot rfl
    rw [exec, execThermal, thermal_trips hhot, finish]
  case coldRelease =>
    intro s hp hv hc ht
    rw [exec, execColdRelease, coldRelease_free hp hv hc ht, finish]
  case warmRelease =>
    intro s hp hh hw
    rw [exec, execWarmRelease, warmRelease_free hp hh hw, finish]
  case option =>
    intro s hp hh
    rw [exec, execOptionLoadRetry, if_pos ⟨hp, hh⟩, finish]
  case trimBad =>
    intro s hp hh
    rw [exec, execTrimLoadRetry, if_pos ⟨hp, hh⟩, stepTrim_held rfl, readTrim, finish]
  case trimGood =>
    intro s hp hh
    rw [exec, execTrimLoadRetry, if_pos ⟨hp, hh⟩, stepTrim_good rfl, readTrim, finish]
  case xoBad =>
    intro s hp hh
    rw [exec, execXoCheckRetry, if_pos ⟨hp, hh⟩, stepXo_held rfl, finish]
  case xoGood =>
    rintro s t hp hh rfl
    rw [exec, execXoCheckRetry, if_pos ⟨hp, hh⟩, finish]
  case safe =>
    intro s hr hp hrom
    rw [exec, execSafeRestartEntry, safeEntry_due hr hp hrom, finish]

-- The supply, the battery and the sensors.

section
variable {s : State}

theorem envNote_frame (g b : Nat) (s : State) : envNote g b s = { s with host := (envNote g b s).host } := postAt_host ..

theorem entered_envNote (g b : Nat) (s : State) : entered (envNote g b s) = entered s := by
  rw [envNote_frame]
  rfl

theorem envNote_jrn (g b : Nat) (s : State) : (envNote g b s).jrn = s.jrn := by rw [envNote_frame]

/-- The first warning of an enabled source refuses the commit that R483 names (R426). -/
theorem powerFail_first {x : PfwSource} (hen : pfwEnabled s x = true) (hoff : s.pwr.pfw = false) : powerFail x s =
    refuseOnWarning (envNote gPwr 0 { s with pwr := { s.pwr with
      pfw := true, pfwSeen := true, pfwPin := s.pwr.pfwPin || decide (x = .pin) } }) := by
  simp only [powerFail, hen, hoff, Bool.not_true, Bool.false_eq_true, if_false]

theorem powerFail_again {x : PfwSource} (hen : pfwEnabled s x = true) (hon : s.pwr.pfw = true) : powerFail x s =
    { s with pwr := { s.pwr with pfwPin := s.pwr.pfwPin || decide (x = .pin) } } := by
  simp only [powerFail, hen, hon, Bool.not_true, Bool.false_eq_true, if_false, if_true]

/-- The end of a warning past mode entry: an interrupted compaction starts again, then what the warning held goes on (R426, R433). -/
theorem pfwClear_entered (hon : s.pwr.pfw = true) (he : entered s = true) : pfwClear s =
    let t := envNote gPwr 1 { s with pwr := { s.pwr with pfw := false, pfwPin := false } }
    let u := if s.jrn.compaction.isSome then startCompaction t else t
    drainHead (if entered u then initialSnapshot u else u) := by
  have he' : entered { s with pwr := { s.pwr with pfw := false, pfwPin := false } } = true := he
  simp only [pfwClear, hon, Bool.not_true, Bool.false_eq_true, if_false, entered_envNote, he', envNote_jrn, and_true]

theorem thermalWarn_rises {x : Int} (hx : 1400 ≤ x) (hoff : (readHottest x s).pwr.hot = false) : thermalWarn x s =
    envNote gTherm 0 { readHottest x s with pwr := { (readHottest x s).pwr with hot := true } } := by
  simp only [thermalWarn, hoff, hx, decide_true, Bool.true_eq_false, if_false, if_true]

theorem thermalWarn_falls {x : Int} (hx : x < 1400) (hon : (readHottest x s).pwr.hot = true) : thermalWarn x s =
    envNote gTherm 1 { readHottest x s with pwr := { (readHottest x s).pwr with hot := false } } := by
  simp only [thermalWarn, hon, Int.not_le.2 hx, decide_false, Bool.false_eq_true, if_false]

end

/-- Settles O33: each row answers what its function answers in the branch that the hypotheses of the clause choose. -/
theorem completesEnvironment : Obligations.CompletesEnvironment := by
  refine ⟨?first, ?again, ?clear, ?clearCompacting, ?battery, ?batteryLow, ?supply, ?hot, ?cool, ?tripOver, ?sensor⟩
  case first =>
    intro s x hen hoff
    rw [exec, execPowerFailWarning, powerFail_first hen hoff, finish]
  case again =>
    intro s x hen hon
    rw [exec, execPowerFailWarning, powerFail_again hen hon, finish]
  case clear =>
    rintro s t hon he hnone rfl
    have hent : entered (envNote gPwr 1 { s with pwr := { s.pwr with pfw := false, pfwPin := false } }) = true :=
      (entered_envNote ..).trans he
    simp only [exec, execPfwClear, pfwClear_entered hon he, hnone, Option.isSome_none, Bool.false_eq_true, if_false, hent,
      if_true, finish]
  case clearCompacting =>
    rintro s t hon he hsome rfl
    have hent : entered (startCompaction (envNote gPwr 1 { s with pwr := { s.pwr with pfw := false, pfwPin := false } })) = true :=
      (entered_envNote ..).trans he
    simp only [exec, execPfwClear, pfwClear_entered hon he, Option.isSome_iff_ne_none.2 hsome, if_true, hent, finish]
  case battery =>
    intro s mv hmv
    rw [exec, execVbakCheck, if_neg (Nat.not_lt.2 hmv), finish]
  case batteryLow =>
    intro s mv hmv
    rw [exec, execVbakCheck, if_pos hmv, finish]
  case supply => exact fun s mv => rfl
  case hot =>
    rintro s x t hx rfl hoff
    rw [exec, execThermalWarn, thermalWarn_rises hx hoff, finish]
  case cool =>
    rintro s x t hx rfl hon
    rw [exec, execThermalWarn, thermalWarn_falls hx hon, finish]
  case tripOver =>
    rintro s x t hheld hx rfl
    rw [exec, execThermalTripClear, if_pos ⟨hheld, hx⟩, finish]
  case sensor =>
    intro s n x hn hin hbad
    rw [exec, execSensorFault, if_pos ⟨hn, by simpa using hin, hbad⟩, finish]

end Sys2Proof.Proofs
end

section
/-! LOCK and the fields it holds (R291, R477): no register write of a locked module changes one. -/
namespace Sys2Proof.Proofs
open Machine Laws

/-- LOCK and the fields of access RWL (R291). -/
def lockedPart (s : State) :=
  (s.host.lock, s.host.cmd.base, s.host.cmd.size, s.host.cmd.en, s.host.cpl.base, s.host.cpl.size, s.host.cpl.en,
    s.host.evt.base, s.host.evt.size, s.host.evt.en, s.host.userEn, s.host.mcExpose, s.host.hostCh, s.host.winCtrl, s.host.winBase)

-- Messages, causes and channels are no part of it.

@[simp] theorem raise_lockedPart (g b : Nat) (s : State) : lockedPart (raise g b s) = lockedPart s := rfl

@[simp] theorem putCh_lockedPart (n : Nat) (c : DmaCh) (s : State) : lockedPart (putCh n c s) = lockedPart s := rfl

@[simp] theorem drewDma_lockedPart (s : State) : lockedPart (drewDma s) = lockedPart s := rfl

@[simp] theorem sendMsix_lockedPart (s : State) : lockedPart (sendMsix s) = lockedPart s := by
  rw [sendMsix_frame]
  rfl

@[simp] theorem irqEdge_lockedPart (s t : State) : lockedPart (irqEdge s t) = lockedPart t := by
  rw [irqEdge_frame]
  rfl

@[simp] theorem noteHeld_lockedPart (old s : State) : lockedPart (noteHeld old s) = lockedPart s := by
  unfold noteHeld
  split <;> rfl

@[simp] theorem dropHeld_lockedPart (off : Nat) (s : State) : lockedPart (dropHeld off s) = lockedPart s := by
  unfold dropHeld
  split
  · split <;> rfl
  · rfl

@[simp] theorem badWrite_lockedPart (s : State) : lockedPart (badWrite s) = lockedPart s := by
  unfold badWrite
  split <;> rfl

-- The registers of a DMA channel (R480).

@[simp] theorem dmaPut_lockedPart (n : Nat) (f : DmaSet → DmaSet) (s : State) : lockedPart (dmaPut n f s) = lockedPart s := by
  unfold dmaPut
  dsimp only
  split <;> rfl

@[simp] theorem dmaGoOn_lockedPart (n : Nat) (s : State) : lockedPart (dmaGoOn n s) = lockedPart s := by
  unfold dmaGoOn
  dsimp only
  split
  · split <;> rfl
  · rfl
  · split <;> rfl

@[simp] theorem leaveTransfer_lockedPart (n : Nat) (s : State) : lockedPart (leaveTransfer n s) = lockedPart s := rfl

@[simp] theorem dmaStopOn_lockedPart (n : Nat) (s : State) : lockedPart (dmaStopOn n s) = lockedPart s := by
  unfold dmaStopOn
  dsimp only
  split
  · rfl
  · rfl
  · split <;> rfl
  · rfl
  · rfl

@[simp] theorem dmaPauseOn_lockedPart (n : Nat) (on : Bool) (s : State) : lockedPart (dmaPauseOn n on s) = lockedPart s := by
  unfold dmaPauseOn
  dsimp only
  split
  · rfl
  · split
    · split <;> rfl
    · split <;> rfl

@[simp] theorem dmaFields_lockedPart (n : Nat) (v : Word32) (s : State) : lockedPart (dmaFields n v s) = lockedPart s := by
  unfold dmaFields
  dsimp only
  split <;> rfl

/-- A choice between two states that agree with `u` agrees with `u`. -/
theorem ite_lockedPart {c : Prop} [Decidable c] {a b u : State} (ha : lockedPart a = lockedPart u)
    (hb : lockedPart b = lockedPart u) : lockedPart (if c then a else b) = lockedPart u := by
  split <;> assumption

@[simp] theorem dmaCtrlWrite_lockedPart (n : Nat) (v : Word32) (s : State) : lockedPart (dmaCtrlWrite n v s) = lockedPart s := by
  have hgo : ∀ t : State, lockedPart (if bit v 0 ∧ !(dmaCh t n).goAfter then dmaGoOn n t else t) = lockedPart t :=
    fun t => ite_lockedPart (dmaGoOn_lockedPart n t) rfl
  unfold dmaCtrlWrite
  dsimp only
  refine (hgo _).trans ?_
  rw [dmaFields_lockedPart, dmaPauseOn_lockedPart]
  have hboth : ∀ (c : Prop) [Decidable c] (x : DmaCh), lockedPart (if c then putCh n x s else s) = lockedPart s :=
    fun c _ x => ite_lockedPart rfl rfl
  exact (ite_lockedPart (dmaStopOn_lockedPart n _) rfl).trans (hboth _ _)

@[simp] theorem writeDma_lockedPart (n rel : Nat) (v : Word32) (s : State) : lockedPart (writeDma n rel v s) = lockedPart s := by
  unfold writeDma
  dsimp only
  split
  · rfl
  · split
    · rfl
    · simp
    · rfl
    · simp
    · simp
    · simp
    · rfl
    · rfl

-- The registers that LOCK does not hold.

@[simp] theorem writePmc_lockedPart (i rel : Nat) (v : Word32) (s : State) : lockedPart (writePmc i rel v s) = lockedPart s := by
  unfold writePmc
  split <;> rfl

@[simp] theorem unmaskVector_lockedPart (s : State) : lockedPart (unmaskVector s) = lockedPart s := by
  unfold unmaskVector
  dsimp only
  split
  · split
    · exact sendMsix_lockedPart _
    · rfl
  · rfl

theorem putMsixAddr_lockedPart (a : Word64) (s : State) : lockedPart (putMsixAddr a s) = lockedPart s := rfl

@[simp] theorem writeMsix_lockedPart (off : Nat) (v : Word32) (s : State) : lockedPart (writeMsix off v s) = lockedPart s := by
  unfold writeMsix
  dsimp only
  refine ite_lockedPart (putMsixAddr_lockedPart ..) (ite_lockedPart (putMsixAddr_lockedPart ..) (ite_lockedPart rfl ?_))
  exact ite_lockedPart (ite_lockedPart rfl (unmaskVector_lockedPart s)) rfl

@[simp] theorem unmaskFunction_lockedPart (s : State) : lockedPart (unmaskFunction s) = lockedPart s := by
  unfold unmaskFunction
  dsimp only
  split
  · split
    · exact sendMsix_lockedPart _
    · rfl
  · rfl

@[simp] theorem enableMsix_lockedPart (s : State) : lockedPart (enableMsix s) = lockedPart s := by
  unfold enableMsix
  dsimp only
  split
  · exact sendMsix_lockedPart _
  · rfl

@[simp] theorem writeMsixCtrl_lockedPart (v : Word32) (s : State) : lockedPart (writeMsixCtrl v s) = lockedPart s := by
  have hmask : lockedPart (if bit v 30 then { s with host := { s.host with funcMask := true } }
      else if s.host.funcMask then unmaskFunction s else s) = lockedPart s :=
    ite_lockedPart rfl (ite_lockedPart (unmaskFunction_lockedPart s) rfl)
  exact ite_lockedPart hmask (ite_lockedPart hmask ((enableMsix_lockedPart _).trans hmask))

/-- No register of the configuration space is held by LOCK (R288). -/
@[simp] theorem writeConfig_lockedPart (off : Nat) (v : Word32) (s : State) : lockedPart (writeConfig off v s) = lockedPart s := by
  have hreg : lockedPart (writeConfigReg off v s) = lockedPart s :=
    ite_lockedPart rfl <| ite_lockedPart (noteHeld_lockedPart ..) <| ite_lockedPart rfl <|
      ite_lockedPart (noteHeld_lockedPart ..) <| ite_lockedPart rfl <| ite_lockedPart rfl <| ite_lockedPart rfl <|
      ite_lockedPart (writeMsixCtrl_lockedPart ..) <| ite_lockedPart rfl <| ite_lockedPart rfl <| ite_lockedPart rfl <|
      ite_lockedPart rfl <| ite_lockedPart rfl rfl
  exact ite_lockedPart hreg rfl

-- The registers that LOCK holds.

/-- A locked field keeps its value, whatever is written (R291). -/
theorem rwl_lockedPart {s : State} (h : s.host.lock = true) (change : Bool) (set : State → State) :
    lockedPart (rwl change set s) = lockedPart s := by
  simp only [rwl, h, if_true]
  split <;> rfl

theorem writeBase_lockedPart {s : State} (h : s.host.lock = true) (r : RingId) (v : Word32) :
    lockedPart (writeBase r v s) = lockedPart s := by
  simp only [writeBase, h, true_or, if_true]
  exact ite_lockedPart rfl rfl

theorem writeRingCtrl_lockedPart {s : State} (h : s.host.lock = true) (r : RingId) (v : Word32) :
    lockedPart (writeRingCtrl r v s) = lockedPart s := by
  simp only [writeRingCtrl, h, if_true]
  split <;> rfl

theorem writeRing_lockedPart {s : State} (h : s.host.lock = true) (r : RingId) (rel : Nat) (v : Word32) :
    lockedPart (writeRing r rel v s) = lockedPart s := by
  unfold writeRing
  split
  · rfl
  · exact writeBase_lockedPart h r v
  · exact writeRingCtrl_lockedPart h r v
  · rfl

theorem lock_of_lockedPart {s t : State} (h : lockedPart t = lockedPart s) : t.host.lock = s.host.lock :=
  congrArg Prod.fst h

theorem writeCtrCtrl_lockedPart {s : State} (h : s.host.lock = true) (v : Word32) :
    lockedPart (writeCtrCtrl v s) = lockedPart s := by
  have huser := rwl_lockedPart h (bit v 0 != s.host.userEn) fun s => { s with host := { s.host with userEn := bit v 0 } }
  have hmc := fun c f => rwl_lockedPart ((lock_of_lockedPart huser).trans h) c f
  unfold writeCtrCtrl
  dsimp only
  split
  · exact (hmc _ _).trans huser
  · exact (hmc _ _).trans huser

theorem writeInService_lockedPart {s : State} (h : s.host.lock = true) (off : Nat) (v : Word32) :
    lockedPart (writeInService off v s) = lockedPart s := by
  have hlock : lockedPart { s with host := { s.host with lock := true } } = lockedPart s := by
    simp only [lockedPart, h]
  cases hr : ringAt off with
  | some r => simp only [writeInService, hr, writeRing_lockedPart h]
  | none =>
    simp only [writeInService, hr]
    exact ite_lockedPart (ite_lockedPart hlock rfl) <| ite_lockedPart rfl <| ite_lockedPart (ite_lockedPart rfl rfl) <|
      ite_lockedPart rfl <| ite_lockedPart rfl <| ite_lockedPart rfl <| ite_lockedPart rfl <| ite_lockedPart rfl <|
      ite_lockedPart rfl <| ite_lockedPart (ite_lockedPart (rwl_lockedPart h ..) (rwl_lockedPart h ..)) <|
      ite_lockedPart (ite_lockedPart rfl rfl) <| ite_lockedPart (writeCtrCtrl_lockedPart h v) <|
      ite_lockedPart (rwl_lockedPart h ..) <| ite_lockedPart (writeDma_lockedPart ..) <|
      ite_lockedPart (writePmc_lockedPart ..) <| ite_lockedPart (writeMsix_lockedPart ..) rfl

theorem writeReg_lockedPart {s : State} (h : s.host.lock = true) (off : Nat) (v : Word32) :
    lockedPart (writeReg off v s) = lockedPart s := by
  unfold writeReg
  split
  · exact badWrite_lockedPart s
  · split
    · exact dropHeld_lockedPart ..
    · split
      · rfl
      · exact (dropHeld_lockedPart ..).trans (writeInService_lockedPart h off v)

/-- Settles O49: each of the rows is a register write or nothing, and its end sends a message at most. -/
theorem lockHolds : Obligations.LockHolds := by
  intro s t off v r h c hc ht
  have hfin : ∀ u, lockedPart u = lockedPart s → finish s u = .next t → lockedPart t = lockedPart s := by
    rintro u hu ⟨⟩
    exact (irqEdge_lockedPart s u).trans hu
  have hreg : ∀ off, lockedPart (writeReg off v s) = lockedPart s := fun off => writeReg_lockedPart h off v
  have hpart : lockedPart t = lockedPart s := by
    simp only [List.mem_cons, List.not_mem_nil, or_false] at hc
    rcases hc with rfl | rfl | rfl | rfl | rfl
    · exact hfin _ (ite_lockedPart (hreg _) (writeConfig_lockedPart ..)) ht
    · exact hfin _ (ite_lockedPart (hreg _) rfl) ht
    · exact hfin _ (ite_lockedPart rfl (hreg _)) ht
    · exact hfin _ (hreg _) ht
    · exact hfin _ (ite_lockedPart (hreg _) rfl) ht
  simp only [lockedPart, Prod.mk.injEq] at hpart
  exact h ▸ hpart

end Sys2Proof.Proofs
end

section
/-! The set-up window (R290, R291, R474 to R482): what a write of a register does, register by register. -/
namespace Sys2Proof.Proofs
open Machine

-- Reaching a register.

section
variable {s : State} {off : Nat} {v : Word32}

theorem writeReg_unassigned (ha : assigned off = false) (he : entered s = true) : writeReg off v s = raise gBus 3 s := by
  simp only [writeReg, ha, badWrite, he, Bool.not_false, if_true]

/-- HOST_TAG takes a write at any time (R476). -/
theorem writeReg_tag : writeReg 8 v s = dropHeld 8 { s with host := { s.host with tag := BitVec.ofNat 16 (v.toNat / 65536) } } :=
  rfl

/-- An assigned register other than TOP_STATUS takes a write in service (R290, R308). -/
theorem writeReg_assigned (ha : assigned off = true) (h8 : off ≠ 8) (he : entered s = true) :
    writeReg off v s = dropHeld off (writeInService off v s) := by
  simp only [writeReg, ha, he, h8, Bool.not_true, Bool.false_eq_true, if_false]

theorem writeReg_before_entry (ha : assigned off = true) (h8 : off ≠ 8) (he : entered s = false) : writeReg off v s = s := by
  simp only [writeReg, ha, he, h8, Bool.not_true, Bool.not_false, Bool.false_eq_true, if_false, if_true]

theorem ringAt_above (h : 0x150 < off) : ringAt off = none := by
  rw [ringAt, if_neg (by omega), if_neg (by omega), if_neg (by omega)]

-- The rings (R294, R477).

theorem hostRing_putRing (r : RingId) (x : Ring) (s : State) : hostRing (putRing r x s) r = x := by
  cases r <;> rfl

theorem putRing_putRing (r : RingId) (x y : Ring) (s : State) : putRing r x (putRing r y s) = putRing r x s := by
  cases r <;> rfl

theorem writeReg_ringCtrl (r : RingId) (he : entered s = true) :
    writeReg (ringBase r + 8) v s = dropHeld (ringBase r + 8) (writeRingCtrl r v s) := by
  cases r <;> exact writeReg_assigned rfl (by decide) he

/-- A disabled ring with an aligned base and a size from 4 to 16 is enabled at position 0 (R294). -/
theorem writeRingCtrl_enables {r : RingId} (hl : s.host.lock = false) (hv : bit v 8 = true) (hen : (hostRing s r).en = false)
    (hbase : (hostRing s r).base.toNat % 64 = 0) (hlo : 4 ≤ (v.setWidth 5 : BitVec 5).toNat)
    (hhi : (v.setWidth 5 : BitVec 5).toNat ≤ 16) : writeRingCtrl r v s =
      putRing r { hostRing s r with size := v.setWidth 5, en := true, pos := 0, host := 0, fullSince := none } s := by
  have hgood : ¬(({ hostRing s r with size := v.setWidth 5 } : Ring).base.toNat % 64 ≠ 0 ∨ (v.setWidth 5 : BitVec 5).toNat < 4 ∨
      16 < (v.setWidth 5 : BitVec 5).toNat) := by
    simp only [hbase]
    omega
  simp only [writeRingCtrl, hl, hv, hen, Bool.false_eq_true, if_false, if_true, enableRing, hostRing_putRing]
  rw [if_neg hgood, putRing_putRing]

/-- An enabled ring is disabled; queued events that become held are noted (R301, R477). -/
theorem writeRingCtrl_disables {r : RingId} (hl : s.host.lock = false) (hv : bit v 8 = false) (hen : (hostRing s r).en = true)
    (hsize : v.setWidth 5 = (hostRing s r).size) :
    writeRingCtrl r v s = noteHeld s (putRing r { hostRing s r with en := false } s) := by
  simp only [writeRingCtrl, hl, hv, hen, hsize, Bool.false_eq_true, if_false, if_true]

-- The causes and enables of a group (R309, R478).

theorem assigned_group {g : Nat} (hg : g < 19) {k : Nat} (hk : k = 0 ∨ k = 4) : assigned (0x240 + 8 * g + k) = true := by
  have hin : 0x240 ≤ 0x240 + 8 * g + k ∧ 0x240 + 8 * g + k < 0x2D8 := by omega
  have hal : (0x240 + 8 * g + k) % 4 = 0 := by omega
  simp only [assigned, hin, hal]
  simp

theorem writeInService_group {g : Nat} (hg : g < 19) {k : Nat} (hk : k < 8) : writeInService (0x240 + 8 * g + k) v s =
    if k = 0 then { s with host := { s.host with causes := tset 0 s.host.causes g (tget 0 s.host.causes g &&& ~~~v) } }
    else { s with host := { s.host with enables := tset 0 s.host.enables g (v &&& causeMask g) } } := by
  have hg' : (0x240 + 8 * g + k - 0x240) / 8 = g := by omega
  have hk' : (0x240 + 8 * g + k) % 8 = k := by omega
  unfold writeInService
  rw [ringAt_above (by omega)]
  simp only []
  rw [if_neg (by omega), if_neg (by omega), if_pos (by omega), hg', hk']

-- The programmable counters (R401, R479).

theorem assigned_pmcCtrl {n k : Nat} (hn : n < 4) (hk : k < 8) : assigned (0x3000 + 0x80 * n + 0x10 * k) = true := by
  have hin : 0x3000 ≤ 0x3000 + 0x80 * n + 0x10 * k ∧ 0x3000 + 0x80 * n + 0x10 * k < 0x3200 := by omega
  have hal : (0x3000 + 0x80 * n + 0x10 * k) % 4 = 0 := by omega
  have hctrl : (0x3000 + 0x80 * n + 0x10 * k) % 16 ≠ 12 := by omega
  simp only [assigned, Bool.and_eq_true, Bool.or_eq_true, decide_eq_true_eq, beq_iff_eq]
  exact ⟨hal, .inr ⟨hin, hctrl⟩⟩

theorem writeInService_pmcCtrl {n k : Nat} (hn : n < 4) (hk : k < 8) : writeInService (0x3000 + 0x80 * n + 0x10 * k) v s =
    { s with bel := { s.bel with
      pmcCtrl := tset 0xFF00 s.bel.pmcCtrl (8 * n + k) (v &&& 0xFF7F), core := terase s.bel.core (9 * n + 1 + k) } } := by
  have hi : pmcAt (0x3000 + 0x80 * n + 0x10 * k) = 8 * n + k := by
    unfold pmcAt
    omega
  have hrel : (0x3000 + 0x80 * n + 0x10 * k) % 0x10 = 0 := by omega
  have hdiv : (8 * n + k) / 8 = n := by omega
  have hmod : (8 * n + k) % 8 = k := by omega
  unfold writeInService
  rw [ringAt_above (by omega)]
  simp only [hi, hrel]
  repeat rw [if_neg (by omega)]
  rw [if_pos (by omega), writePmc, hdiv, hmod]

end

end Sys2Proof.Proofs
end

section
/-! The rows of the set-up window (R290, R294, R475 to R482), the doorbells (R295, R303, R313), the rings (R298 to R302, R307, R319)
and the link (R305, R306, R313, R349, R354). -/
namespace Sys2Proof.Proofs
open Machine

/-- What is held from now on raises EVT.QUEUED, or nothing is (R301). -/
theorem noteHeld_cases (old t : State) : noteHeld old t = t ∨ noteHeld old t = raise gEvt 1 t := by
  unfold noteHeld
  split
  · exact .inr rfl
  · exact .inl rfl

section
variable {s : State} {v : Word32} (r : RingId) (he : entered s = true) (hl : s.host.lock = false)
include he hl

theorem exec_ringEnable_good (hv : bit v 8 = true) (hen : (hostRing s r).en = false) (hbase : (hostRing s r).base.toNat % 64 = 0)
    (hlo : 4 ≤ (v.setWidth 5 : BitVec 5).toNat) (hhi : (v.setWidth 5 : BitVec 5).toNat ≤ 16) :
    exec (.ringEnable r v) s = .next (irqEdge s (dropHeld (ringBase r + 8)
      (putRing r { hostRing s r with size := v.setWidth 5, en := true, pos := 0, host := 0, fullSince := none } s))) := by
  rw [exec, execRingEnable, if_pos hv, writeReg_ringCtrl r he, writeRingCtrl_enables hl hv hen hbase hlo hhi, finish]

theorem exec_ringDisable_good (hv : bit v 8 = false) (hen : (hostRing s r).en = true) (hsize : v.setWidth 5 = (hostRing s r).size) :
    exec (.ringDisable r v) s = .next (irqEdge s (dropHeld (ringBase r + 8)
      (noteHeld s (putRing r { hostRing s r with en := false } s)))) := by
  rw [exec, execRingDisable, if_neg (by simp [hv]), writeReg_ringCtrl r he, writeRingCtrl_disables hl hv hen hsize, finish]

end

/-- Settles O15: each row is a register write, at its register, or the access that R290 refuses. -/
theorem completesRegisters : Obligations.CompletesRegisters := by
  refine ⟨?lock, ?enableCmd, ?enableCpl, ?enableEvt, ?disableCmd, ?disableCpl, ?disableEvt, ?lowHalf, ?badRead, ?badWrite,
    ?unassigned, ?config, noteHeld_cases, ?tag, ?cause, ?enable, ?ovf, ?count, ?pmc⟩
  case lock =>
    intro s v he hv
    have hw : writeInService 0x18 v s = { s with host := { s.host with lock := true } } := if_pos hv
    rw [exec, execTopSetupLock, writeReg_assigned rfl (by decide) he, hw, finish]
  case enableCmd => exact fun s v he hl hv hen hbase hlo hhi => exec_ringEnable_good .cmd he hl hv hen hbase hlo hhi
  case enableCpl => exact fun s v he hl hv hen hbase hlo hhi => exec_ringEnable_good .cpl he hl hv hen hbase hlo hhi
  case enableEvt => exact fun s v he hl hv hen hbase hlo hhi => exec_ringEnable_good .evt he hl hv hen hbase hlo hhi
  case disableCmd => exact fun s v he hl hv hen hsize => exec_ringDisable_good .cmd he hl hv hen hsize
  case disableCpl => exact fun s v he hl hv hen hsize => exec_ringDisable_good .cpl he hl hv hen hsize
  case disableEvt => exact fun s v he hl hv hen hsize => exec_ringDisable_good .evt he hl hv hen hsize
  case lowHalf =>
    intro s off hlow
    rw [exec, execLowHalfRead, if_pos hlow, finish]
  case badRead =>
    intro s off size hbad
    have hbad' : ¬(size = 4 ∧ assigned off = true) := by rcases hbad with h | h <;> simp [h]
    rw [exec, execSetupBadAccess, if_neg hbad', if_neg (by decide), finish]
  case badWrite =>
    intro s off size hbad he
    have hbad' : ¬(size = 4 ∧ assigned off = true) := by rcases hbad with h | h <;> simp [h]
    rw [exec, execSetupBadAccess, if_neg hbad', if_pos rfl, badWrite, if_pos he, finish]
  case unassigned =>
    intro s off v hoff ha he
    rw [exec, execRegisterWrite, if_pos hoff, writeReg_unassigned ha he, finish]
  case config =>
    intro s v hc
    rw [exec, execRegisterWrite, if_neg (by decide), writeConfig, if_pos hc]
    rfl
  case tag => exact fun s v => rfl
  case cause =>
    intro s g v hg he
    have ha : assigned (0x240 + 8 * g) = true := assigned_group hg (k := 0) (.inl rfl)
    have hw : writeInService (0x240 + 8 * g) v s =
        { s with host := { s.host with causes := tset 0 s.host.causes g (tget 0 s.host.causes g &&& ~~~v) } } :=
      writeInService_group hg (k := 0) (by decide)
    rw [exec, execRegisterWrite, if_pos (by omega), writeReg_assigned ha (by omega) he, hw, finish]
  case enable =>
    intro s g v hg he
    have ha : assigned (0x240 + 8 * g + 4) = true := assigned_group hg (.inr rfl)
    have hw : writeInService (0x240 + 8 * g + 4) v s =
        { s with host := { s.host with enables := tset 0 s.host.enables g (v &&& causeMask g) } } :=
      writeInService_group hg (by decide)
    have hoff : 0x244 + 8 * g = 0x240 + 8 * g + 4 := by omega
    rw [exec, execRegisterWrite, hoff, if_pos (by omega), writeReg_assigned ha (by omega) he, hw, finish]
  case ovf =>
    intro s v he hv huser hmc
    have hw : writeInService 0x600 v s = { s with bel := { s.bel with ovfClear := true } } := by
      show writeCtrCtrl v s = _
      simp [writeCtrCtrl, rwl, huser, hmc, hv]
    rw [exec, execOvfClear, if_pos hv, writeReg_assigned rfl (by decide) he, hw, finish]
  case count =>
    intro s v he hv
    have hw : writeInService 0x530 v s = { s with bak := { s.bak with counts := [] } } := if_pos hv
    rw [exec, execCountClear, if_pos hv, writeReg_assigned rfl (by decide) he, hw, finish]
  case pmc =>
    intro s n k v hn hk he
    rw [exec, execPmcCtrlWrite, if_pos ⟨hn, hk⟩, writeReg_assigned (assigned_pmcCtrl hn hk) (by omega) he,
      writeInService_pmcCtrl hn hk, finish]

-- Doorbells.

/-- A doorbell of an enabled ring with LOCK, aligned and in range, is put in force (R303). -/
theorem doorbell_good {s : State} {v : Word32} {r : Ring} {inRange : Nat → Bool} {apply : BitVec 17 → State → State}
    (he : entered s = true) (hl : s.host.lock = true) (hen : r.en = true) (hlt : (v.setWidth 17).toNat < 2 * ringSize r)
    (hin : inRange (v.setWidth 17).toNat = true) : doorbell true v r inRange apply s = apply (v.setWidth 17) s := by
  simp only [doorbell, he, hl, hen, hin, Nat.not_le.2 hlt, Bool.not_true, Bool.or_self, Bool.false_eq_true, or_self, if_false]

/-- Settles O14: each doorbell is put in force, and REARM asks for the condition of the interrupt. -/
theorem completesDoorbells : Obligations.CompletesDoorbells := by
  refine ⟨?cmd, ?cpl, ?evt, fun p r => ⟨rfl, rfl, rfl⟩, ?rearm, ?idle, ?malformed⟩
  case cmd =>
    rintro s a v cells p he rfl rfl hl hen hlt hin
    have he' : entered (hostWrites cells s) = true := he
    rw [exec, execDbCmd, doorbell_good he' hl hen hlt (decide_eq_true hin)]
    rfl
  case cpl | evt =>
    rintro s a v p he rfl rfl hl hen hlt hin
    simp only [exec, execDbCpl, execDbEvt, doorbell_good he hl hen hlt hin, finish]
  case rearm =>
    rintro s a v he rfl hl hirq
    simp only [exec, execDbIrqRearm, he, hl, hirq, Bool.not_true, Bool.false_eq_true, if_false, if_true, finish]
  case idle =>
    rintro s a v he rfl hl hirq
    simp only [exec, execDbIrqRearm, he, hl, hirq, Bool.not_true, Bool.false_eq_true, if_false, finish]
  case malformed =>
    rintro s a v he rfl
    simp only [exec, execDbIrqRearm, he, Bool.not_true, Bool.not_false, Bool.false_eq_true, if_false, if_true, finish]

-- The rings.

section
variable {s : State}

/-- Where fetching goes on and the completion ring has room, an entry whose PHASE fits is fetched (R298). -/
theorem fetch_taken {u : State} (hu : u = drainHead s) (hf : mayFetch u = true) (hroom : cplRoom u = true)
    (hp : bit (byteAt (entryBytes u u.host.cmd.pos.toNat) 1) 0 = phaseAt u.host.cmd u.host.cmd.pos.toNat) :
    fetch s = drainHead { u with host := { u.host with
      fetched := u.host.fetched ++ [⟨byteAt (entryBytes u u.host.cmd.pos.toNat) 0,
        entryOf (entryBytes u u.host.cmd.pos.toNat), u.host.cmd.pos.toNat⟩],
      held := u.host.held + 1, phaseWait := none, cmd := { u.host.cmd with pos := ringNext u.host.cmd } } } := by
  subst hu
  simp only [fetch, hf, hroom, hp, ne_eq, not_true_eq_false, Bool.not_true, Bool.false_eq_true, if_false]

theorem fetch_full {u : State} (hu : u = drainHead s) (hf : mayFetch u = true) (hroom : cplRoom u = false) :
    fetch s = raise gCpl 1 u := by
  subst hu
  simp only [fetch, hf, hroom, Bool.not_true, Bool.not_false, Bool.false_eq_true, if_false, if_true]

theorem fetch_wrongPhase {u : State} (hu : u = drainHead s) (hf : mayFetch u = true) (hroom : cplRoom u = true)
    (hp : bit (byteAt (entryBytes u u.host.cmd.pos.toNat) 1) 0 ≠ phaseAt u.host.cmd u.host.cmd.pos.toNat) :
    fetch s = { u with host := { u.host with phaseWait := some u.host.cmd.pos.toNat } } := by
  subst hu
  simp only [fetch, hf, hroom, Bool.not_true, Bool.false_eq_true, if_false]
  exact if_pos hp

/-- With nothing fetched there is nothing to drain. -/
theorem drainHead_host (h : s.host.fetched = []) : (drainHead s).host = s.host := by
  unfold drainHead
  split
  · rw [h, drainBad, ← h]
  · rfl

theorem phaseTimeout_halts {p : Nat} (hw : s.host.phaseWait = some p) (hf : mayFetch s = true)
    (hp : bit (byteAt (entryBytes s p) 1) 0 ≠ phaseAt s.host.cmd p) : phaseTimeout s =
      raise gRingErr 1 (raise gRingErr 0 { s with host := { s.host with
        phaseWait := none, cmd := { s.host.cmd with halted := true } } }) := by
  simp only [phaseTimeout, hw]
  exact if_neg (by simp [hf, hp])

theorem waitingDone_due {n : Nat} {x : Sched} (hx : s.host.sched[n]? = some x) (hd : fnGe s.clk.fn x.due = true) :
    waitingDone n s = endSched x { s with host := { s.host with sched := s.host.sched.eraseIdx n } } := by
  simp only [waitingDone, hx, hd, if_true]

/-- The oldest event is written where none has been lost (R301). -/
theorem writeEvt_takes {q : Evt} {rest : List Evt} (hq : s.host.evtQ = q :: rest) (hl : s.host.lost = none)
    (ht : ringTakes s s.host.evt = true) :
    writeEvt s = noteHeld s (putEvt q { s with host := { s.host with evtQ := rest } }) := by
  simp only [writeEvt, hq, hl, ht, Bool.not_true, Bool.false_eq_true, if_false]

theorem hostSlow_cpl (hslow : ringSlow s s.host.cpl = true) (hq : s.host.cplQ ≠ []) : hostSlow s = raise gRingErr 7 s :=
  if_pos (by simp [hslow, hq])

end

/-- Settles O13: each row answers what its function answers in the branch that the hypotheses of the clause choose. -/
theorem completesRings : Obligations.CompletesRings := by
  refine ⟨?taken, ?full, ?wrongPhase, fun s => drainHead_host, ?timeout, ?waiting, ?cpl, ?evt, ?slow⟩
  case taken =>
    intro s u hu hf hroom hp
    rw [exec, execCommandFetch, fetch_taken hu hf hroom hp, finish]
  case full =>
    intro s u hu hf hroom
    rw [exec, execCommandFetch, fetch_full hu hf hroom, finish]
  case wrongPhase =>
    intro s u hu hf hroom hp
    rw [exec, execCommandFetch, fetch_wrongPhase hu hf hroom hp, finish]
  case timeout =>
    intro s p hw hf hp
    rw [exec, execCmdPhaseTimeout, phaseTimeout_halts hw hf hp, finish]
  case waiting =>
    intro s n x hx hd
    rw [exec, execWaitingCommandDone, waitingDone_due hx hd, finish]
  case cpl => exact fun s q rest => exec_completionWrite
  case evt =>
    intro s q rest hq hl ht
    rw [exec, execEventWrite, writeEvt_takes hq hl ht]
    rfl
  case slow =>
    intro s hslow hq
    rw [exec, execHostSlow, hostSlow_cpl hslow hq, finish]

end Sys2Proof.Proofs
end

section
/-! The link (R305, R306, R313, R349, R354) and the DMA channels of the host (R358 to R366). -/
namespace Sys2Proof.Proofs
open Machine

-- What a channel's STOP touches.

/-- Stopping a channel touches the engine's part and the cause of its withdrawal (R366). -/
theorem dmaStopOn_frame (n : Nat) (s : State) :
    ∃ d causes, dmaStopOn n s = { s with dma := d, host := { s.host with causes := causes } } := by
  unfold dmaStopOn
  dsimp only
  split
  · exact ⟨_, _, rfl⟩
  · exact ⟨_, _, rfl⟩
  · split <;> exact ⟨_, _, rfl⟩
  · exact ⟨_, _, rfl⟩
  · exact ⟨_, _, rfl⟩

theorem stopChannels_frame (ns : List Nat) (s : State) :
    ∃ d causes, stopChannels ns s = { s with dma := d, host := { s.host with causes := causes } } := by
  unfold stopChannels
  induction ns generalizing s with
  | nil => exact ⟨_, _, rfl⟩
  | cons n ns ih =>
    obtain ⟨d, causes, h⟩ := dmaStopOn_frame n s
    obtain ⟨d', causes', h'⟩ := ih (dmaStopOn n s)
    exact ⟨d', causes', by rw [List.foldl_cons, h', h]⟩

theorem perstDma_frame (s : State) : ∃ d causes, perstDma s = { s with dma := d, host := { s.host with causes := causes } } := by
  obtain ⟨d, causes, h⟩ := stopChannels_frame ((List.range 28).map (4 + ·)) s
  exact ⟨_, _, by rw [perstDma, h]⟩

-- The link.

/-- The masters named wait for the end of their drains (R354). -/
theorem mem_draining_startDrain {ms : List Nat} {m : Nat} (h : m ∈ ms) (s : State) : m ∈ (startDrain ms s).dma.draining := by
  by_cases hd : m ∈ s.dma.draining
  · exact List.mem_append_left _ hd
  · exact List.mem_append_right _ (List.mem_filter.2 ⟨h, by simpa using hd⟩)

theorem noteHeld_held {old t : State} (he : entered t = true) (ho : evtHeld old = false) (ht : evtHeld t = true)
    (hq : t.host.evtQ ≠ []) : noteHeld old t = raise gEvt 1 t :=
  if_pos (by simp [he, ho, ht, hq])

theorem noteHeld_not {old t : State} (h : t.host.evtQ = [] ∧ t.host.lost = none ∨ evtHeld old = true ∨ evtHeld t = false) :
    noteHeld old t = t := by
  refine if_neg ?_
  rcases h with ⟨hq, hl⟩ | ho | ht
  · simp [hq, hl]
  · simp [ho]
  · simp [ht]

/-- Noting what is held changes a cause of its own group at most (R301). -/
theorem noteHeld_frame (old t : State) : ∃ causes, noteHeld old t = { t with host := { t.host with causes := causes } } ∧
    ∀ g, g ≠ gEvt → tget 0 causes g = tget 0 t.host.causes g := by
  rcases noteHeld_cases old t with h | h
  · exact ⟨_, h, fun _ _ => rfl⟩
  · exact ⟨_, h, fun g hg => Laws.tget_tset_other _ _ _ _ _ hg⟩

/-- PERST_N asserted (R306): the interface of the link holds its reset values, its master drains, and what is no part of it stays. -/
theorem perstOn_spec (s : State) : (perstOn s).host.perst = true ∧ (perstOn s).host.linkUp = false ∧
    (perstOn s).host.lock = false ∧ (perstOn s).host.cmd.en = false ∧ (perstOn s).host.cpl.en = false ∧
    (perstOn s).host.evt.en = false ∧ (perstOn s).host.cplQ = [] ∧ (perstOn s).host.fetched = [] ∧
    (perstOn s).host.msixEn = false ∧ (perstOn s).host.vecMask = true ∧ (perstOn s).host.pend = false ∧
    bit (tget 0 (perstOn s).host.causes gRst) 4 = true ∧ 6 ∈ (perstOn s).dma.draining ∧
    (perstOn s).page.live = s.page.live ∧ (perstOn s).page.staged = s.page.staged ∧ (perstOn s).cfg = s.cfg := by
  obtain ⟨d, c, hdma⟩ := perstDma_frame s
  unfold perstOn
  generalize perstDma s = p at hdma
  subst hdma
  dsimp only
  obtain ⟨causes, hnote, hcauses⟩ := noteHeld_frame s (raise gRst 4 _)
  rw [hnote]
  refine ⟨rfl, rfl, rfl, rfl, rfl, rfl, rfl, rfl, rfl, rfl, rfl, ?_, ?_, rfl, rfl, rfl⟩
  · exact (congrArg (bit · 4) (hcauses gRst (by decide))).trans (causeOf_raise gRst (by decide) _)
  · exact mem_draining_startDrain (List.mem_singleton_self 6) _

section
variable {s : State}

/-- Unmasking the vector with a message pending that nothing else masks (R313). -/
theorem unmaskVector_of_pending (hp : s.host.pend = true) (hm : s.host.msixEn = true) (hf : s.host.funcMask = false) :
    unmaskVector s = if irqCond s then sendMsix { s with host := { s.host with vecMask := false } }
      else { s with host := { s.host with vecMask := false, pend := false } } :=
  if_pos ⟨hp, hm, by simp [hf]⟩

theorem unmaskVector_only (h : s.host.pend = false ∨ s.host.msixEn = false ∨ s.host.funcMask = true) :
    unmaskVector s = { s with host := { s.host with vecMask := false } } := by
  refine if_neg ?_
  rcases h with h | h | h <;> simp [h]

/-- Unmasking the function with a message pending that nothing else masks (R313). -/
theorem unmaskFunction_of_pending (hp : s.host.pend = true) (hm : s.host.msixEn = true) (hv : s.host.vecMask = false) :
    unmaskFunction s = if irqCond s then sendMsix { s with host := { s.host with funcMask := false } }
      else { s with host := { s.host with funcMask := false, pend := false } } :=
  if_pos ⟨hp, hm, by simp [hv]⟩

theorem unmaskFunction_only (h : s.host.pend = false ∨ s.host.msixEn = false ∨ s.host.vecMask = true) :
    unmaskFunction s = { s with host := { s.host with funcMask := false } } := by
  refine if_neg ?_
  rcases h with h | h | h <;> simp [h]

theorem sendMsix_sends (hm : s.host.msixEn = true) (hv : s.host.vecMask = false) (hf : s.host.funcMask = false) :
    sendMsix s = { s with host := { s.host with msixSent := s.host.msixSent + 1, pend := false } } := by
  simp only [sendMsix, hm, hv, hf, Bool.or_self, Bool.false_eq_true, if_false, if_true]

theorem sendMsix_masked (hm : s.host.msixEn = true) (h : s.host.vecMask = true ∨ s.host.funcMask = true) :
    sendMsix s = { s with host := { s.host with pend := true } } := by
  have h' : (s.host.vecMask || s.host.funcMask) = true := by simpa using h
  simp only [sendMsix, hm, h', if_true]

/-- MSIX_UNMASK of the vector past mode entry is a write of its mask (R482). -/
theorem exec_unmask_vector (he : entered s = true) :
    exec (.msixUnmask .vector) s = .next (irqEdge s (dropHeld 0xF00C (unmaskVector s))) := by
  have hw : writeInService 0xF00C 0 s = unmaskVector s := rfl
  rw [exec, execMsixUnmask, writeReg_assigned rfl (by decide) he, hw, finish]

theorem exec_unmask_function : exec (.msixUnmask .function) s = .next (irqEdge s (unmaskFunction s)) := rfl

theorem exec_unmask_enable (h : s.host.msixEn = false) :
    exec (.msixUnmask .enable) s = .next (irqEdge s (enableMsix s)) := by
  simp only [exec, execMsixUnmask, h, Bool.false_eq_true, if_false, finish]

end

/-- Settles O17: each row answers what its function answers in the branch that the hypotheses of the clause choose. -/
theorem completesLink : Obligations.CompletesLink := by
  refine ⟨?vecSends, ?vecDrops, ?vecOnly, ?vecEarly, ?funSends, ?funDrops, ?funOnly, ?enSends, ?enOnly, ?enAgain, ?sends, ?masked,
    ?perstHigh, ?perstLow, ?perstSame, perstOn_spec, fun s => rfl, fun s => rfl, fun s => rfl, fun ms s m h =>
    mem_draining_startDrain h s, fun old t => ⟨fun ⟨he, ho, ht, hq⟩ => noteHeld_held he ho ht hq, noteHeld_not⟩, ?backMaster,
    ?backD3hot, ?backUp, ?noBack, ?timeout, fun s => rfl, ?drained, ?notDraining⟩
  case vecSends =>
    intro s he hp hm hf hirq
    rw [exec_unmask_vector he, unmaskVector_of_pending hp hm hf, if_pos hirq]
  case vecDrops =>
    intro s he hp hm hf hirq
    rw [exec_unmask_vector he, unmaskVector_of_pending hp hm hf, if_neg (by simp [hirq])]
  case vecOnly =>
    intro s he h
    rw [exec_unmask_vector he, unmaskVector_only h]
  case vecEarly =>
    intro s he
    rw [exec, execMsixUnmask, writeReg_before_entry rfl (by decide) he, finish]
  case funSends =>
    intro s hp hm hv hirq
    rw [exec_unmask_function, unmaskFunction_of_pending hp hm hv, if_pos hirq]
  case funDrops =>
    intro s hp hm hv hirq
    rw [exec_unmask_function, unmaskFunction_of_pending hp hm hv, if_neg (by simp [hirq])]
  case funOnly =>
    intro s h
    rw [exec_unmask_function, unmaskFunction_only h]
  case enSends =>
    intro s hm hirq
    rw [exec_unmask_enable hm, show enableMsix s = sendMsix { s with host := { s.host with msixEn := true } } from if_pos hirq]
  case enOnly =>
    intro s hm hirq
    rw [exec_unmask_enable hm, show enableMsix s = { s with host := { s.host with msixEn := true } } from
      if_neg (ne_true_of_eq_false hirq)]
  case enAgain =>
    intro s hm
    simp only [exec, execMsixUnmask, hm, if_true, finish]
  case sends =>
    intro s hm hv hf
    rw [sendMsix_sends hm hv hf]
    exact ⟨rfl, rfl⟩
  case masked =>
    intro s hm h
    rw [sendMsix_masked hm h]
    exact ⟨rfl, rfl⟩
  case perstHigh =>
    intro s h
    rw [exec, execPerstN, if_neg (by simp [h]), if_neg (by decide), finish]
  case perstLow =>
    intro s h
    rw [exec, execPerstN, if_neg (by simp [h]), if_pos rfl, finish]
  case perstSame =>
    intro s low h
    rw [exec, execPerstN, if_pos h, finish]
  case backMaster | backD3hot | backUp =>
    intro s h hp
    exact congrArg (fun t => Host.Outcome.next (irqEdge s t)) (if_neg (by simp [h, hp]))
  case noBack =>
    intro s why h
    exact congrArg (fun t => Host.Outcome.next (irqEdge s t)) (if_pos (by simpa using h))
  case timeout =>
    intro s target master ht hm hposted
    rw [exec, execBusTimeout, if_neg (by omega), finish]
  case drained =>
    intro s master h
    rw [exec, execBusDrainDone, if_pos (by simpa using h), finish]
  case notDraining =>
    intro s master h
    rw [exec, execBusDrainDone, if_neg (by simpa using h), finish]

end Sys2Proof.Proofs
end

section
/-! The DMA channels of the host (R358 to R366, R480). -/
namespace Sys2Proof.Proofs
open Machine

-- Channels.

@[simp] theorem dmaCh_putCh_same (n : Nat) (c : DmaCh) (s : State) : dmaCh (putCh n c s) n = c := Laws.tget_tset_same ..

section
variable {s : State} {n : Nat}

theorem startSet_spec (x : DmaCh) : (startSet x).remain = x.set.len ∧ (startSet x).set = x.set ∧
    (startSet x).phase = if x.pause then .paused else if dPace x.set.ctrl ≠ 0 then .armed else .running := by
  refine ⟨rfl, rfl, ?_⟩
  simp only [startSet, decide_eq_true_eq]

theorem dmaGoOn_starts {y : DmaCh} (hp : y.phase = .idle) (hr : dmaRefused (putCh n y s) n y.set = false) :
    dmaGoOn n (putCh n y s) = putCh n (startSet y) (putCh n y s) := by
  simp only [dmaGoOn, dmaCh_putCh_same, hp, hr, Bool.false_eq_true, if_false]

theorem dmaGoOn_refused {y : DmaCh} (hp : y.phase = .idle) (hr : dmaRefused (putCh n y s) n y.set = true) :
    dmaGoOn n (putCh n y s) = putCh n { y with refused := true } (putCh n y s) := by
  simp only [dmaGoOn, dmaCh_putCh_same, hp, hr, if_true]

/-- A withdrawn transfer leaves its channel IDLE (R366). -/
theorem dmaCh_leaveTransfer : (dmaCh (leaveTransfer n s) n).phase = .idle ∧ (dmaCh (leaveTransfer n s) n).withdrawn = true ∧
    (dmaCh (leaveTransfer n s) n).pause = (dmaCh s n).pause := by
  have h : dmaCh (leaveTransfer n s) n = _ := dmaCh_putCh_same n _ s
  rw [h]
  exact ⟨rfl, rfl, rfl⟩

theorem dmaStopOn_withdraws (h : (dmaCh s n).phase = .armed ∨ (dmaCh s n).phase = .paused) : dmaStopOn n s = leaveTransfer n s := by
  rcases h with h | h <;> simp only [dmaStopOn, h]

theorem dmaPauseOn_same {on : Bool} (h : on = (dmaCh s n).pause) : dmaPauseOn n on s = s := if_pos h

theorem dmaPauseOn_armed (hp : (dmaCh s n).phase = .armed) (h : (dmaCh s n).pause = false) : dmaPauseOn n true s =
    putCh n { dmaCh s n with pause := true, phase := .paused, wasArmed := true } s := by
  simp only [dmaPauseOn, hp, h, Bool.true_eq_false, if_false, if_true]

theorem begunNow_of_update (c : DmaCh) (p : DmaPhase) (b : Bool) : begunNow s { c with phase := p, pause := b } = begunNow s c :=
  rfl

/-- A running channel of which no burst has begun pauses at once (R365). -/
theorem dmaPauseOn_running (hp : (dmaCh s n).phase = .running) (h : (dmaCh s n).pause = false) (hb : begunNow s (dmaCh s n) = 0) :
    dmaPauseOn n true s =
      putCh n { dmaCh s n with pause := true, phase := .paused, begun := 0, wasArmed := false } (drewDma s) := by
  simp only [dmaPauseOn, hp, h, begunNow_of_update, hb, Bool.true_eq_false, if_false, if_true]

theorem dmaPauseOn_resumes (hp : (dmaCh s n).phase = .paused) (h : (dmaCh s n).pause = true) : dmaPauseOn n false s =
    putCh n { dmaCh s n with pause := false, phase := if (dmaCh s n).wasArmed then .armed else .running } s := by
  simp only [dmaPauseOn, hp, h, Bool.false_eq_true, if_false]

theorem dmaFields_idle (v : Word32) (h : (dmaCh s n).phase = .idle) : dmaFields n v s =
    putCh n { dmaCh s n with set := { (dmaCh s n).set with ctrl := v &&& dmaCtrlMask } } s :=
  if_pos h

theorem dmaFields_busy (v : Word32) (h : (dmaCh s n).phase ≠ .idle) : dmaFields n v s =
    putCh n { dmaCh s n with shadow := { (dmaCh s n).shadow with ctrl := v &&& dmaCtrlMask } } s :=
  if_neg h

-- One write of CTRL (R480).

theorem dmaCtrlWrite_fields {v : Word32} (h0 : bit v 0 = false) (h2 : bit v 2 = false) :
    dmaCtrlWrite n v s = dmaFields n v (dmaPauseOn n (bit v 1) s) := by
  simp only [dmaCtrlWrite, h0, h2, Bool.false_and, Bool.false_eq_true, false_and, if_false]

theorem dmaCtrlWrite_stop {v : Word32} (h0 : bit v 0 = false) (h2 : bit v 2 = true) :
    dmaCtrlWrite n v s = dmaFields n v (dmaPauseOn n (bit v 1) (dmaStopOn n s)) := by
  simp only [dmaCtrlWrite, h0, h2, Bool.false_and, Bool.false_eq_true, false_and, if_false, if_true]

theorem dmaCtrlWrite_go {v : Word32} (h0 : bit v 0 = true) (h2 : bit v 2 = false)
    (hg : (dmaCh (dmaFields n v (dmaPauseOn n (bit v 1) s)) n).goAfter = false) :
    dmaCtrlWrite n v s = dmaGoOn n (dmaFields n v (dmaPauseOn n (bit v 1) s)) := by
  simp only [dmaCtrlWrite, h0, h2, Bool.and_false, Bool.false_and, Bool.false_eq_true, if_false]
  exact if_pos ⟨trivial, by simp [hg]⟩

/-- A write of the CTRL of a channel of the host reaches it, and drops a held low half (R475, R480). -/
theorem hostCtrlWrite_owned {t : State} (he : entered s = true) (hlo : 4 ≤ n) (hhi : n < 32) (ho : hostOwns s n = true)
    (ht : t = { s with host := { s.host with heldLow := none } }) (v : Word32) : hostCtrlWrite n v s = dmaCtrlWrite n v t := by
  subst ht
  have hin : ¬(!entered s ∨ n < 4 ∨ 31 < n) := by
    simp only [he, Bool.not_true, Bool.false_eq_true, false_or]
    omega
  rw [hostCtrlWrite, if_neg hin, if_neg (by simp [ho])]

-- Pacing and bursts.

theorem exec_dmaPaceEvent_due (hlo : 4 ≤ n) (hhi : n < 32) (hd : paceDue s n = true) :
    exec (.dmaPaceEvent n) s = .next (irqEdge s (paceEvent n s)) := by
  rw [exec, execDmaPaceEvent, if_pos ⟨hlo, hhi, hd⟩, finish]

/-- What a burst of a channel leaves before the channel itself moves on (R363). -/
def burstMoved (n : Nat) (s : State) : State :=
  drewDma (bump 109 0 (burstLen (dmaCh s n)) { s with host := { s.host with
    mem := memStore s.host.mem ((dmaCh s n).set.dst.toNat + ((dmaCh s n).set.len - (dmaCh s n).remain))
      (swapBytes (dSwap (dmaCh s n).set.ctrl) (burstData s (dmaCh s n) (burstLen (dmaCh s n)))) } })

theorem burstDone_more (hlo : 4 ≤ n) (hhi : n < 32) (hg : burstGoes s (dmaCh s n) = true)
    (hmore : burstLen (dmaCh s n) < (dmaCh s n).remain) (hp : (dmaCh s n).phase = .running) : burstDone n s =
      putCh n { dmaCh s n with remain := (dmaCh s n).remain - burstLen (dmaCh s n), retries := 0, begun := (dmaCh s n).begun - 1 }
        (burstMoved n s) := by
  have hleft : (dmaCh s n).remain - burstLen (dmaCh s n) ≠ 0 := by omega
  unfold burstDone
  rw [if_neg (by omega), if_neg (by omega), if_neg (by simp [hg]; omega)]
  simp only [hleft, if_false, hp]
  rfl

theorem burstDone_last (hlo : 4 ≤ n) (hhi : n < 32) (hg : burstGoes s (dmaCh s n) = true)
    (hlast : burstLen (dmaCh s n) = (dmaCh s n).remain) : burstDone n s = dmaComplete n
      (putCh n { dmaCh s n with remain := 0, retries := 0, begun := (dmaCh s n).begun - 1 } (burstMoved n s)) := by
  have hleft : (dmaCh s n).remain - burstLen (dmaCh s n) = 0 := by omega
  unfold burstDone
  rw [if_neg (by omega), if_neg (by omega), if_neg (by simp [hg]; omega)]
  simp only [hleft, if_true]
  rfl

-- Failures (R364).

theorem lastFailure_set (hlo : 4 ≤ n) (cause : Nat) : lastFailure n cause s = haltCh n cause s := by
  obtain ⟨k, rfl⟩ := Nat.exists_eq_add_of_le' hlo
  rfl

theorem burstFails_running (he : entered s = true) (hhi : n < 32) (hp : (dmaCh s n).phase = .running)
    (hl : linkUsable s = true) {cause : Nat} (hc : cause ≠ 0) (hc6 : cause ≤ 6) : burstFails n cause s =
      if (cause = 1 ∨ cause = 3 ∨ cause = 4) ∧ (dmaCh s n).retries.toNat < 3 then
        bump 109 1 1 (putCh n { dmaCh s n with retries := (dmaCh s n).retries + 1 } (noteError cause s))
      else lastFailure n cause (noteError cause s) :=
  if_neg (by simp [he, hhi, hp, hl, hc, hc6])

end

/-- Settles O16: each row answers what its function answers in the branch that the hypotheses of the clause choose. -/
theorem completesDma : Obligations.CompletesDma := by
  refine ⟨?go, ?goRefused, startSet_spec, ?pauseArmed, ?pauseRunning, ?resume, ?stop, ?left, ?pace, ?paceMissed, ?burst, ?lastBurst,
    ?retry, ?halt, fun s => ⟨rfl, rfl, rfl, rfl, rfl⟩, ?withdrawn⟩
  case go =>
    intro s ch v x t y he hlo hhi ho hx ht h0 h2 hp h1 hg hy hr
    obtain rfl : x = dmaCh t ch := hx.trans (ht ▸ rfl)
    have hf : dmaFields ch v (dmaPauseOn ch (bit v 1) t) = putCh ch y t := by rw [hy, dmaPauseOn_same h1, dmaFields_idle v hp]
    have hg' : (dmaCh (putCh ch y t) ch).goAfter = false := by rw [dmaCh_putCh_same, hy]; exact hg
    have hr' : dmaRefused (putCh ch y t) ch y.set = false := by rw [ht]; exact hr
    have hp' : y.phase = .idle := by rw [hy]; exact hp
    rw [exec, execDmaGo, if_pos h0, hostCtrlWrite_owned he hlo hhi ho ht, dmaCtrlWrite_go h0 h2 (hf ▸ hg'), hf,
      dmaGoOn_starts hp' hr', finish]
  case goRefused =>
    intro s ch v x t y he hlo hhi ho hx ht h0 h2 hp h1 hg hy hr
    obtain rfl : x = dmaCh t ch := hx.trans (ht ▸ rfl)
    have hf : dmaFields ch v (dmaPauseOn ch (bit v 1) t) = putCh ch y t := by rw [hy, dmaPauseOn_same h1, dmaFields_idle v hp]
    have hg' : (dmaCh (putCh ch y t) ch).goAfter = false := by rw [dmaCh_putCh_same, hy]; exact hg
    have hr' : dmaRefused (putCh ch y t) ch y.set = true := by rw [ht]; exact hr
    have hp' : y.phase = .idle := by rw [hy]; exact hp
    rw [exec, execDmaGo, if_pos h0, hostCtrlWrite_owned he hlo hhi ho ht, dmaCtrlWrite_go h0 h2 (hf ▸ hg'), hf,
      dmaGoOn_refused hp' hr', finish]
  case pauseArmed =>
    rintro s ch v x t y he hlo hhi ho hx ht h0 h1 h2 hp hoff rfl
    obtain rfl : x = dmaCh t ch := hx.trans (ht ▸ rfl)
    rw [exec, execDmaPause, if_pos h1, hostCtrlWrite_owned he hlo hhi ho ht, dmaCtrlWrite_fields h0 h2, h1,
      dmaPauseOn_armed hp hoff, dmaFields_busy _ (by rw [dmaCh_putCh_same]; nofun), dmaCh_putCh_same, finish]
  case pauseRunning =>
    rintro s ch v x t y he hlo hhi ho hx ht h0 h1 h2 hp hoff hb rfl
    obtain rfl : x = dmaCh t ch := hx.trans (ht ▸ rfl)
    have hb' : begunNow t (dmaCh t ch) = 0 := by rw [← hb, ht]; rfl
    rw [exec, execDmaPause, if_pos h1, hostCtrlWrite_owned he hlo hhi ho ht, dmaCtrlWrite_fields h0 h2, h1,
      dmaPauseOn_running hp hoff hb', dmaFields_busy _ (by rw [dmaCh_putCh_same]; nofun), dmaCh_putCh_same, finish]
  case resume =>
    rintro s ch v x t y he hlo hhi ho hx ht h0 h1 h2 hp hon rfl
    obtain rfl : x = dmaCh t ch := hx.trans (ht ▸ rfl)
    rw [exec, execDmaResume, if_neg (by simp [h1]), hostCtrlWrite_owned he hlo hhi ho ht, dmaCtrlWrite_fields h0 h2, h1,
      dmaPauseOn_resumes hp hon, dmaFields_busy _ (by rw [dmaCh_putCh_same]; dsimp only; split <;> nofun), dmaCh_putCh_same,
      finish]
  case stop =>
    rintro s ch v x t u he hlo hhi ho hx ht h0 h2 hp h1 rfl
    obtain rfl : x = dmaCh t ch := hx.trans (ht ▸ rfl)
    obtain ⟨hidle, -, hpause⟩ := dmaCh_leaveTransfer (s := t) (n := ch)
    rw [exec, execDmaStop, if_pos h2, hostCtrlWrite_owned he hlo hhi ho ht, dmaCtrlWrite_stop h0 h2, dmaStopOn_withdraws hp,
      dmaPauseOn_same (h1.trans hpause.symm), dmaFields_idle v hidle, finish]
  case left =>
    intro ch s
    obtain ⟨hidle, hw, -⟩ := dmaCh_leaveTransfer (s := s) (n := ch)
    exact ⟨hidle, hw, rfl⟩
  case pace =>
    intro s ch hlo hhi hd hp
    rw [exec_dmaPaceEvent_due hlo hhi hd, paceEvent, if_pos hp]
  case paceMissed =>
    intro s ch hlo hhi hd hp
    rw [exec_dmaPaceEvent_due hlo hhi hd, paceEvent, if_neg hp]
  case burst =>
    rintro s ch x hlo hhi rfl hg hmore hp
    rw [exec, execDmaBurstDone, burstDone_more hlo hhi hg hmore hp, burstMoved, finish]
  case lastBurst =>
    rintro s ch x hlo hhi rfl hg hlast
    rw [exec, execDmaBurstDone, burstDone_last hlo hhi hg hlast, burstMoved, finish]
  case retry =>
    intro s ch cause he hhi hp hl hlo hc hr
    rw [exec, execDmaBurstRetry, burstFails_running he hhi hp hl (by omega) (by omega), if_pos ⟨hc, hr⟩, finish]
  case halt =>
    intro s ch cause he hhi hp hl hlo hc
    rw [exec, execDmaBurstRetry, burstFails_running he hhi hp hl (by omega) (by omega), if_neg (by omega), lastFailure_set hlo,
      finish]
  case withdrawn =>
    intro s ch hs hb hg
    rw [exec, execDmaWithdrawn, if_pos ⟨hs, hb⟩, withdraw, if_neg (by simp [hg]), finish]

end Sys2Proof.Proofs
end

section
/-! IMAGE_BEGIN to IMAGE_REJECT (R338, R339, R440 to R445), JOURNAL_STATUS, JOURNAL_COMPACT, POWER_DOMAIN and TOD_SET (R338, R340,
R341). -/
namespace Sys2Proof.Proofs
open Machine

/-- The sequence of an update begins with its intent and its journal record (R442). -/
theorem activate_update {s : State} (tok : CmdTok) (hold : Bool) (hk : hKind (glassPackage s) = 0) (hm : s.mode.mode ≠ .safe) :
    activate tok hold s = updateRecord (startUpdate tok hold (writeIntent s)) := by
  simp only [activate, hk, hm, if_false]

theorem activate_safe {s : State} (tok : CmdTok) (hold : Bool) (hk : hKind (glassPackage s) = 0) (hm : s.mode.mode = .safe) :
    activate tok hold s = assertCold 0x11 (writeIntent s) := by
  simp only [activate, hk, hm, if_true]

theorem activate_lifecycle {s : State} (tok : CmdTok) (hold : Bool) (hk : hKind (glassPackage s) = 2) :
    activate tok hold s = completeOk tok [(0, 4, (hImageVersion (glassPackage s)).toNat)]
      (lifecycleField (glassPackage s) (setImage 0 s)) := by
  simp only [activate, hk]

/-- Settles O11: each command, once it starts, leaves what its body leaves in the branch that the clause chooses. -/
theorem completesImage : Obligations.CompletesImage := by
  refine ⟨?begin, ?chunk, ?verify, ?update, ?updateSafe, ?lifecycle, ?confirm, ?reject, ?rejectTrial⟩
  case begin =>
    rintro s c pos rest segs b h hseg rfl hgood hlen hfit
    have hargs : ¬(hPackageLen (readSegs s segs) ≠ arg c 0 4 ∨
        hPackageLen (readSegs s segs) < (readSegs s segs).length) := by omega
    rw [exec_starts rfl rfl h, withRead_ok hseg, if_neg (by simp [hgood]), if_neg hargs]
  case chunk =>
    rintro s c pos rest segs b t h hoff hseg rfl hfit rfl
    rw [exec_starts rfl rfl h, if_neg (by simp [hoff]), withRead_ok hseg, if_neg (by omega)]
  case verify => 
    intro s c pos rest h
    rw [exec_starts rfl rfl h]
  case update =>
    intro s c pos rest h hr hk hm
    rw [exec_starts rfl rfl h, hr, activate_update _ _ hk hm]
  case updateSafe =>
    intro s c pos rest h hr hk hm
    rw [exec_starts rfl rfl h, hr, activate_safe _ _ hk hm]
  case lifecycle =>
    intro s c pos rest h hr hk
    rw [exec_starts rfl rfl h, hr, activate_lifecycle _ _ hk]
  case confirm => 
    intro s c pos rest h
    rw [exec_starts rfl rfl h]
  case reject =>
    rintro s c pos rest t h hs rfl
    rw [exec_starts rfl rfl h, if_neg hs]
  case rejectTrial =>
    rintro s c pos rest t h hs rfl
    rw [exec_starts rfl rfl h, if_pos hs]

/-- Settles O12: each command, once it starts, leaves what its body leaves in the branch that the clause chooses. -/
theorem completesService : Obligations.CompletesService := by
  refine ⟨?status, ?compact, ?domainSame, ?domain, ?tod, ?todStill, ?todNamed⟩
  case status => 
    intro s c pos rest h
    rw [exec_starts rfl rfl h]
  case compact =>
    rintro s c pos rest t h hroom rfl
    rw [exec_starts rfl rfl h, if_neg (by simp [hroom])]
  case domainSame =>
    intro s c pos rest h hd
    rw [exec_starts rfl rfl h, if_pos hd]
  case domain =>
    rintro s c pos rest t h hd rfl
    rw [exec_starts rfl rfl h, if_neg hd]
  case tod =>
    intro s c pos rest h hn hrun
    rw [exec_starts rfl rfl h]
    simp only [hn, hrun, Bool.false_eq_true, false_and, if_false, if_true]
  case todStill =>
    intro s c pos rest h hn hrun
    rw [exec_starts rfl rfl h]
    simp only [hn, hrun, Bool.false_eq_true, false_and, if_false]
  case todNamed =>
    rintro s c pos rest fn h hn rfl hlo hhi
    have hahead : ¬((BitVec.ofNat 48 (arg c 16 6) - s.clk.fn).toNat < 8 ∨
        8000 < (BitVec.ofNat 48 (arg c 16 6) - s.clk.fn).toNat) := by omega
    rw [exec_starts rfl rfl h]
    simp only [hn, hahead, and_false, if_false, if_true]

end Sys2Proof.Proofs
end

section
/-! Tributary engines, memories and power domains (R372 to R383, R421 to R423). -/
namespace Sys2Proof.Proofs
open Machine

section
variable {s : State} {n : Nat}

-- Engines and their banks.

/-- What an overrun leaves before the fault of R372: its count, in a row, and ENG.LOAD. -/
def overrunCounted (n k : Nat) (s : State) : State :=
  raise gEng 3 (bump (32 + n / 32) 1 1 { s with eng := { s.eng with
    overruns := tset 0 s.eng.overruns n k, overrunFn := tset 0 s.eng.overrunFn n s.clk.fn } })

theorem engineOverrun_eq {k : Nat} (hn : n < 1024) (hrun : engineRuns s n = true)
    (hk : k = if tget 0 s.eng.overruns n = 0 then 1 else if tget 0 s.eng.overrunFn n = s.clk.fn then tget 0 s.eng.overruns n
      else if tget 0 s.eng.overrunFn n + 1 = s.clk.fn then tget 0 s.eng.overruns n + 1 else 1) :
    engineOverrun n s = if 8 ≤ k then faultCluster (n / 32) (overrunCounted n k s) else overrunCounted n k s := by
  have hlive : ¬(1024 ≤ n ∨ (!engineRuns s n) = true) := by simp [hrun, hn]
  rw [engineOverrun, if_neg hlive, hk]
  rfl

theorem bankSwitch_switches {a : Activation} (ha : s.img.act = some a)
    (h : a.step = 3 ∧ atBoundaryFrame s ∧ a.startFn ≠ s.clk.fn ∧ !s.pwr.pfw ∧ entered s ∧ (clustersFrom s a.next).head? = some n) :
    bankSwitch n s =
      switchBank n true { s with img := { s.img with act := some { a with next := n + 1, startFn := s.clk.fn } } } := by
  simp only [bankSwitch, ha]
  exact if_pos h

theorem bankReadyTimeout_backsOut {a : Activation} {f : FN} (hw : (clusterOf s n).awaiting = some f)
    (ha : s.img.act = some a) (h8 : 8 ≤ (s.clk.fn - f).toNat) (he : entered s = true) (hstep : a.step < 7) :
    bankReadyTimeout n s =
      backOut (some n) { s with eng := { s.eng with cl := s.eng.cl.map fun x => (x.1, { x.2 with awaiting := none }) } } := by
  simp only [bankReadyTimeout, hw, ha]
  exact if_pos ⟨h8, he, by simp [hstep]⟩

-- Power domains.

/-- What a fault switches off (R423). -/
def domainLost (n : Nat) (s : State) : State :=
  loseDomain n { s with pwr := { s.pwr with dom := terase s.pwr.dom n, turning := terase s.pwr.turning n } }

/-- A POWER_DOMAIN command waits on the domain. -/
def domainOwed (s : State) (n : Nat) : Bool :=
  s.host.waiters.any fun w => match w with | .domain a b _ => a.isSome && b == n | _ => false

theorem domainFails_resets (hn : n = 104 ∨ n = 108 ∨ n = 111) (hd : domState s n ≠ .off) : domainFails n s = assertCold 2 s := by
  have hon : ¬(112 ≤ n ∨ (domState s n = .off ∧ (tfind s.pwr.turning n).isNone)) := fun h =>
    h.elim (fun h => by omega) (fun h => hd h.1)
  rw [domainFails, if_neg hon, if_pos hn]

theorem domainFails_loses (hlt : n < 112) (hn : ¬(n = 104 ∨ n = 108 ∨ n = 111)) (hd : domState s n ≠ .off) :
    domainFails n s = tapCheck s (endDomain n stInternal (envNote gPwr 2 (if domainOwed s n then
      internalCause (if 32 ≤ n ∧ n < 64 then some (n - 32) else none) (domainLost n s) else domainLost n s))) := by
  have hon : ¬(112 ≤ n ∨ (domState s n = .off ∧ (tfind s.pwr.turning n).isNone)) := fun h =>
    h.elim (fun h => by omega) (fun h => hd h.1)
  rw [domainFails, if_neg hon, if_neg hn]
  rfl

section
variable {x : DomState} (hturn : tfind s.pwr.turning n = some x) (he : entered s = true)
  (hreq : (domRequires n).all (domOn s) = true)
include hturn he hreq

theorem domainOn_eq (hx : x ≠ .off) (hstay : ¬(x = .retain ∧ domState s n = .on)) :
    domainOn n s =
      if domState s n = .off ∧ x = .retain then freshDomain n { s with pwr := { s.pwr with dom := tset .off s.pwr.dom n .on } }
      else if domState s n = .off then reachDomain n x (freshDomain n s)
      else if 32 ≤ n ∧ n < 64 then reachDomain n x (restartObjects (n - 32) (fun _ => true) s)
      else reachDomain n x s := by
  have hgo : ¬(x = .off ∨ (x = .retain ∧ domState s n = .on) ∨ !entered s ∨ !(domRequires n).all (domOn s)) := by
    simp [hx, hstay, he, hreq]
  simp only [domainOn, hturn]
  exact if_neg hgo

end

end

/-- Settles O30: each row leaves what its operation leaves in the branch that the clause chooses. -/
theorem completesEngines : Obligations.CompletesEngines := by
  refine ⟨?overrun, ?overrunFault, ?switch, ?timeout, ?eccCore, ?eccData, ?eccEntry, ?eccSchedule, ?scrubData, ?scrubEntry,
    ?repair, ?rewrite, ?rewriteSchedule, ?fresh, ?freshRetain, ?turn, ?turnCluster, ?failReset, ?failFree, ?failOwed⟩
  case overrun =>
    intro s n k hn hrun hk hlt
    change finish s (engineOverrun n s) = _
    rw [engineOverrun_eq hn hrun hk, if_neg (by omega)]
    rfl
  case overrunFault =>
    rintro s n k t u hn hrun hk hle rfl rfl
    change finish s (engineOverrun n s) = _
    rw [engineOverrun_eq hn hrun hk, if_pos hle]
    rfl
  case switch =>
    intro s n a ha hstep hb hfn hp he hhead
    change finish s (bankSwitch n s) = _
    rw [bankSwitch_switches ha ⟨hstep, hb, hfn, by simp [hp], he, hhead⟩, finish]
  case timeout =>
    intro s n f a hw h8 he ha hstep
    change finish s (bankReadyTimeout n s) = _
    rw [bankReadyTimeout_backsOut hw ha h8 he hstep, finish]
  case eccCore =>
    intro s n hn hd
    change finish s (if _ then _ else _) = _
    rw [if_pos ⟨hn, hd⟩]
    rfl
  case eccData =>
    intro s n hn hd
    change finish s (if _ then _ else _) = _
    rw [if_pos ⟨hn, hd⟩, finish]
  case eccEntry => exact fun s r i => rfl
  case eccSchedule => exact fun s => rfl
  case scrubData =>
    intro s n hn hd
    change finish s (scrubEngine (n / 32) s) = _
    rw [scrubEngine, if_pos ⟨by omega, hd⟩, finish]
  case scrubEntry =>
    intro s r i hd
    change finish s (scrubCm _ s) = _
    rw [scrubCm, if_pos hd, finish]
  case repair =>
    rintro s n x he rfl hbad hf
    change finish s (if _ then _ else _) = _
    rw [if_pos ⟨he, Option.isSome_iff_ne_none.2 hbad⟩, repairBank]
    simp only [hf, Bool.false_eq_true, if_false, finish]
  case rewrite =>
    intro s w he hw
    change finish s (rewriteItem w s) = _
    cases w with
    | schedule => exact absurd rfl hw
    | _ => simp only [rewriteItem, he, Bool.not_true, Bool.false_eq_true, if_false, finish]
  case rewriteSchedule =>
    intro s he hb
    change finish s (rewriteItem .schedule s) = _
    simp only [rewriteItem, he, hb, Bool.not_true, Bool.false_eq_true, if_false, if_true, finish]
  case fresh =>
    intro s n x hturn he hreq hx hd hr
    change finish s (domainOn n s) = _
    rw [domainOn_eq hturn he hreq hx (fun h => hr h.1), if_neg (fun h => hr h.2), if_pos hd, finish]
  case freshRetain =>
    intro s n hturn he hreq hd
    change finish s (domainOn n s) = _
    rw [domainOn_eq hturn he hreq (by decide) (by simp [hd]), if_pos ⟨hd, rfl⟩, finish]
  case turn =>
    intro s n hturn he hreq hd hn
    change finish s (domainOn n s) = _
    rw [domainOn_eq hturn he hreq (by decide) (by simp), if_neg (fun h => hd h.1), if_neg hd, if_neg (by omega), finish]
  case turnCluster =>
    intro s n hturn he hreq hd hlo hhi
    change finish s (domainOn n s) = _
    rw [domainOn_eq hturn he hreq (by decide) (by simp), if_neg (fun h => hd h.1), if_neg hd, if_pos ⟨hlo, hhi⟩, finish]
  case failReset =>
    intro s n hn hd
    change finish s (domainFails n s) = _
    rw [domainFails_resets hn hd, finish]
  case failFree =>
    rintro s n t hlt h104 h108 h111 hd howed rfl
    change finish s (domainFails n s) = _
    have hfree : domainOwed s n = false := howed
    rw [domainFails_loses hlt (by simp [h104, h108, h111]) hd, hfree, finish, domainLost]
    rfl
  case failOwed =>
    rintro s n t hlt h104 h108 h111 hd howed rfl
    change finish s (domainFails n s) = _
    have hwaits : domainOwed s n = true := howed
    rw [domainFails_loses hlt (by simp [h104, h108, h111]) hd, hwaits, finish, domainLost]
    rfl

end Sys2Proof.Proofs
end

section
/-! The journal's happenings (R433, R434), the steps of an update (R442 to R446) and the debug port (R454, R455). -/
namespace Sys2Proof.Proofs
open Machine

section
variable {s : State}

-- The journal.

theorem compactionDone_stores {x : Compaction} (hx : s.jrn.compaction = some x) (hp : s.pwr.pfw = false)
    (hr : s.flash.noRoom = false) (he : entered s = true) :
    compactionDone s = endCompact (journalNote 4 x.seq (reprovision { s with
      flash := { putSnapshot x.snap (snapshotSpill s.draws) s.flash with
        journal := (putSnapshot x.snap (snapshotSpill s.draws) s.flash).journal.filter fun r => decide (x.seq < r.seq)
        used := min (putSnapshot x.snap (snapshotSpill s.draws) s.flash).used (Config.compactedBytes s.draws)
        lostRecord := false },
      jrn := { s.jrn with compaction := none, fault := false }, draws := s.draws + 1 })) := by
  have hgo : ¬(s.pwr.pfw ∨ s.flash.noRoom ∨ !entered s) := by simp [hp, hr, he]
  simp only [compactionDone, hx]
  rw [if_neg hgo]

theorem journalFails_faults (hf : s.jrn.fault = false) (he : entered s = true) :
    journalFails s = faultJournal { s with
      flash := { s.flash with noRoom := s.flash.noRoom || Config.blocksShort s.draws }, draws := s.draws + 1 } :=
  if_neg (by simp [hf, he])

-- An update.

@[simp] theorem post_img (code : Byte) (fs : List Field) (s : State) : (post code fs s).img = s.img := by
  rw [post, postAt_host]

@[simp] theorem updNote_img (b reason : Nat) (v : Word32) (s : State) : (updNote b reason v s).img = s.img := post_img ..

@[simp] theorem completeOpt_img (tok : Option CmdTok) (st obj : Byte) (r : Word64) (s : State) :
    (completeOpt tok st obj r s).img = s.img := by
  cases tok <;> rfl

/-- A fallback that is over leaves no activation, no fallback and no rejection (R445 step 4). -/
theorem endFallback_img (s : State) :
    (endFallback s).img = { s.img with act := none, fallback := false, rejecting := none } := by
  rw [endFallback, completeOpt_img, updNote_img]
  cases bootRecord s.flash with
  | none => rfl
  | some br => cases h : br.trialSlot.isSome <;> simp only [h] <;> rfl

section
variable {a : Activation} (ha : s.img.act = some a)
include ha

section
variable (hp : s.pwr.pfw = false) (he : entered s = true)
include hp he

theorem handover_wakes (hstep : a.step = 2) : handover s = writeSpares { restartMc3 s with
    img := { (restartMc3 s).img with act := some { step := 3, next := 0, startFn := s.clk.fn } },
    pwr := { (restartMc3 s).pwr with dom := ((List.range 32).filterMap fun n =>
      if domState s (32 + n) = .retain then some (32 + n) else none).foldl (fun m d => tset .off m d .on) (restartMc3 s).pwr.dom } } := by
  have hgo : ¬(s.pwr.pfw ∨ !entered s) := by simp [hp, he]
  simp only [handover, ha]
  rw [if_neg hgo, if_pos hstep]
  rfl

theorem handover_returns (hstep : a.step = 8) : handover s = endFallback (restartMc3 s) := by
  have hgo : ¬(s.pwr.pfw ∨ !entered s) := by simp [hp, he]
  simp only [handover, ha]
  rw [if_neg hgo, if_neg (by omega), if_pos hstep]

section
variable (hb : atBoundaryFrame s = true) (hfn : a.startFn ≠ s.clk.fn)
include hb hfn

theorem microcode_switches {q : Nat} {qs : List Nat} (hstep : a.step = 4) (hq : quadsFrom s a.next = q :: qs) :
    microcode s = { s with img := { s.img with
      quads := s.img.quads ++ [q], act := some { a with next := q + 1, startFn := s.clk.fn } } } := by
  have hgo : ¬(!atBoundaryFrame s ∨ a.startFn = s.clk.fn ∨ s.pwr.pfw ∨ !entered s) := by simp [hb, hfn, hp, he]
  simp only [microcode, ha]
  rw [if_neg hgo, if_pos hstep, hq]

theorem microcode_ends (hstep : a.step = 5) : microcode s = activationDone s := by
  have hgo : ¬(!atBoundaryFrame s ∨ a.startFn = s.clk.fn ∨ s.pwr.pfw ∨ !entered s) := by simp [hb, hfn, hp, he]
  simp only [microcode, ha]
  rw [if_neg hgo, if_neg (by omega), if_pos hstep]

end
end

theorem handoverTimeout_backsOut (hstep : a.step = 2) (hlate : 16000 ≤ (s.clk.fn - a.startFn).toNat)
    (he : entered s = true) : handoverTimeout s = backOut none s := by
  simp only [handoverTimeout, ha]
  exact if_pos ⟨hstep, hlate, he⟩

end

-- The debug port.

theorem challenge_draws (hl : s.bak.lifecycle = 2) (hf : s.dbg.fails < 4) : challenge s =
    { s with dbg := { s.dbg with challenge := some (fit 32 (Config.random s.dbg.draws)), draws := s.dbg.draws + 1 } } :=
  if_neg (by simp [hl, hf])

theorem respond_eq {x vk vs ck cs : Bytes} (hx : s.dbg.challenge = some x) (hl : s.bak.lifecycle = 2) (hf : s.dbg.fails < 4) :
    respond vk vs ck cs s = if responseOk s x vk vs ck cs then unlock s
      else { s with dbg := { s.dbg with challenge := none, fails := s.dbg.fails + 1 } } := by
  have hgo : ¬(s.bak.lifecycle ≠ 2 ∨ 4 ≤ s.dbg.fails) := by simp [hl, hf]
  simp only [respond, hx]
  exact if_neg hgo

end

/-- Settles O31: each row leaves what its operation leaves in the branch that the clause chooses. -/
theorem completesUpdate : Obligations.CompletesUpdate := by
  refine ⟨?compactStart, ?compactDone, ?fault, ?handover, ?handoverBack, ?parts, ?timeout, ?quad, ?powerCtl, ?confirm, ?deadline,
    ?challenge, ?refused, ?unlocked, ?reset⟩
  case compactStart =>
    rintro s n he hm hdue hc hp hr rfl
    change finish s (if _ then _ else _) = _
    rw [if_pos ⟨he, hm, hdue, by simp [hc], by simp [hp], by simp [hr]⟩]
    rfl
  case compactDone =>
    rintro s x t hx hp hr he rfl
    change finish s (compactionDone s) = _
    rw [compactionDone_stores hx hp hr he, finish]
  case fault =>
    intro s hf he
    change finish s (journalFails s) = _
    rw [journalFails_faults hf he]
    rfl
  case handover =>
    rintro s a m ha hstep hp he rfl
    change finish s (handover s) = _
    rw [handover_wakes ha hp he hstep, finish]
  case handoverBack =>
    intro s a ha hstep hp he
    change finish s (handover s) = _
    rw [handover_returns ha hp he hstep, finish]
  case parts =>
    intro s
    rw [endFallback_img]
    exact ⟨rfl, rfl, rfl, rfl⟩
  case timeout =>
    intro s a ha hstep hlate he
    change finish s (handoverTimeout s) = _
    rw [handoverTimeout_backsOut ha hstep hlate he, finish]
  case quad =>
    intro s a q qs ha hstep hb hfn hp he hq
    change finish s (microcode s) = _
    rw [microcode_switches ha hp he hb hfn hstep hq, finish]
  case powerCtl =>
    intro s a ha hstep hb hfn hp he
    change finish s (microcode s) = _
    rw [microcode_ends ha hp he hb hfn hstep, finish]
  case confirm =>
    intro s f he hst hf h30 hp
    have hlong : 240000 ≤ (s.img.healthy.getD 0).toNat := by rw [hf]; exact h30
    change finish s (if _ then _ else _) = _
    rw [if_pos ⟨he, hst, hlong, by simp [hp]⟩, finish]
  case deadline =>
    intro s f he hst hf h300 hp
    have hlong : 2400000 ≤ (s.img.trialFn.getD 0).toNat := by rw [hf]; exact h300
    change finish s (if _ then _ else _) = _
    rw [if_pos ⟨he, hst, hlong, by simp [hp]⟩, finish]
  case challenge =>
    intro s hl hf
    change finish s (challenge s) = _
    rw [challenge_draws hl hf, finish]
  case refused =>
    intro s vk vs ck cs x hx hl hf hbad
    change finish s (respond vk vs ck cs s) = _
    rw [respond_eq hx hl hf, hbad, finish]
    rfl
  case unlocked =>
    intro s vk vs ck cs x hx hl hf hok
    change finish s (respond vk vs ck cs s) = _
    rw [respond_eq hx hl hf, hok, finish]
    rfl
  case reset =>
    intro s ho
    change finish s (if _ then _ else _) = _
    rw [if_pos ho, finish]

end Sys2Proof.Proofs
end

section
/-! Most operations of the model touch neither the fuses nor the number of the audit log: one lemma for each, in the order of the
model's files. -/
namespace Sys2Proof.Proofs
open Machine

/-- What the second state has of the fuses and of the number of the audit log is what the first has. -/
@[simp] abbrev Still (s t : State) : Prop := t.fuse = s.fuse ∧ t.bel.auditSeq = s.bel.auditSeq

theorem Still.refl (s : State) : Still s s := ⟨rfl, rfl⟩

theorem Still.trans {s t u : State} (h : Still s t) (h' : Still t u) : Still s u := ⟨h'.1.trans h.1, h'.2.trans h.2⟩

@[simp] theorem ite_fuse (c : Prop) [Decidable c] (a b : State) :
    (if c then a else b).fuse = if c then a.fuse else b.fuse := apply_ite State.fuse c a b

@[simp] theorem ite_auditSeq (c : Prop) [Decidable c] (a b : State) :
    (if c then a else b).bel.auditSeq = if c then a.bel.auditSeq else b.bel.auditSeq :=
  apply_ite (fun s : State => s.bel.auditSeq) c a b

/-- A fold of steps that each keep them keeps them. -/
@[simp] theorem foldl_still {α : Type} {f : State → α → State} (hf : ∀ s x, Still s (f s x)) (l : List α) (s : State) :
    Still s (l.foldl f s) :=
  List.foldlRecOn l f (motive := Still s) (.refl s) fun _ ht x _ => ht.trans (hf _ x)

section
variable (s : State)

@[simp] theorem sendMsix_still : Still s (sendMsix s) := by simp [sendMsix]
@[simp] theorem irqEdge_still (s s' : State) : Still s' (irqEdge s s') := by simp [irqEdge]

-- Machine/Ops.lean.

@[simp] theorem noteHeld_still (old : State) : Still s (noteHeld old s) := by simp [noteHeld]

@[simp] theorem postAt_still (code : Byte) (fn : FN) (payload : BitVec 160) : Still s (postAt code fn payload s) := by
  simp only [postAt]
  repeat' split
  all_goals simp

@[simp] theorem post_still (code : Byte) (fs : List Field) : Still s (post code fs s) := by simp [post]
@[simp] theorem twinNote_still (b : Nat) : Still s (twinNote b s) := by simp [twinNote]
@[simp] theorem grpNote_still (b : Nat) (m : Option Nat) : Still s (grpNote b m s) := by simp [grpNote]
@[simp] theorem updNote_still (b reason : Nat) (version : Word32) : Still s (updNote b reason version s) := by simp [updNote]
@[simp] theorem envNote_still (g b : Nat) : Still s (envNote g b s) := by simp [envNote]
@[simp] theorem secNote_still (b port : Nat) : Still s (secNote b port s) := by simp [secNote]
@[simp] theorem obsNote_still (b who : Nat) (fp : Nat) : Still s (obsNote b who fp s) := by simp [obsNote]
@[simp] theorem journalNote_still (kind seq : Nat) : Still s (journalNote kind seq s) := by
  simp [journalNote]
@[simp] theorem protNote_still (kind obj leg req idx : Nat) : Still s (protNote kind obj leg req idx s) := by simp [protNote]

@[simp] theorem completeOpt_still (tok : Option CmdTok) (status obj : Byte) (result : Word64) :
    Still s (completeOpt tok status obj result s) := by
  unfold completeOpt
  split <;> simp

@[simp] theorem completeOk_still (tok : CmdTok) (fs : List Field) : Still s (completeOk tok fs s) := by
  simp [completeOk]
@[simp] theorem refuse_still (tok : CmdTok) (status : Byte) (fs : List Field) : Still s (refuse tok status fs s) := by simp [refuse]
@[simp] theorem hostFail_still (tok : CmdTok) (fs : List Field) : Still s (hostFail tok fs s) := by
  simp [hostFail]
@[simp] theorem recordDue_still (kind : JKind) (audits : List Audit) : Still s (recordDue kind audits s) := by simp [recordDue]
@[simp] theorem configRecord_still : Still s (configRecord s) := by simp [configRecord]
@[simp] theorem modeChange_still (old : Mode) (fn : FN) : Still s (modeChange old fn s) := by
  simp [modeChange]
@[simp] theorem toMode_still (m : Mode) (sync : BitVec 3) : Still s (toMode m sync s) := by simp [toMode]
@[simp] theorem drawRandom_still : Still s (drawRandom s).2 := by simp [drawRandom]
@[simp] theorem send_still (m : TxMsg) : Still s (send m s) := by simp [send]
@[simp] theorem sendMate_still (chan : Nat) (payload : Bytes) : Still s (sendMate chan payload s) := by
  simp [sendMate]

@[simp] theorem sendGroup_still (type : Nat) (payload : Bytes) : Still s (sendGroup type payload s) := by
  unfold sendGroup
  split <;> simp

-- Machine/Operands.lean.

@[simp] theorem bufferEnd_still (tok : CmdTok) (e : Byte) (fs : List Field) : Still s (bufferEnd tok e fs s) := by simp [bufferEnd]

@[simp] theorem withRead_still (tok : CmdTok) (d : BitVec 128) (ok : Nat → Bool) (fs : Byte → List Field)
    (go : Bytes → State → State) (s : State) (hgo : ∀ bs s, Still s (go bs s)) :
    Still s (withRead tok d ok fs go s) := by
  unfold withRead
  split
  · simp
  · exact hgo ..

@[simp] theorem withWrite_still (tok : CmdTok) (d : BitVec 128) (ok : Nat → Bool) (bs : Bytes) (go : State → State)
    (s : State) (hgo : ∀ s, Still s (go s)) : Still s (withWrite tok d ok bs go s) := by
  unfold withWrite
  split
  · simp
  · exact hgo ..

@[simp] theorem drainBad_still (s : State) (fs : List Fetched) : Still s (drainBad s fs) := by
  induction fs generalizing s with
  | nil => exact ⟨rfl, rfl⟩
  | cons f fs ih =>
    unfold drainBad
    split
    · exact ih _
    · exact ⟨rfl, rfl⟩

@[simp] theorem runCmd_still (opcode : Byte) (row : Bool) (c : CmdEntry) (k : Checks) (body : CmdTok → State → State)
    (s : State) (hb : ∀ tok s, Still s (body tok s)) (hw : ∀ t, k.hold = some t → Still s t) :
    Still s (runCmd opcode row c k body s) := by
  unfold runCmd
  split
  · exact ⟨rfl, rfl⟩
  · split
    · exact ⟨rfl, rfl⟩
    · split
      · exact ⟨rfl, rfl⟩
      · dsimp only
        split
        · simp
        · split
          · exact ⟨rfl, rfl⟩
          · split
            · exact hw _ ‹_›
            · simp [hb]

-- Machine/Selectors.lean.

@[simp] theorem markMoved_still (t : Tier) (i : Nat) : Still s (markMoved t i s) := by
  unfold markMoved
  split <;> simp

@[simp] theorem holdTimers_still (m : State) (x : Nat × Word64) : Still s (holdTimers m s x) := by
  simp [holdTimers]
@[simp] theorem discardPending_still (t : Tier) (i : Nat) : Still s (discardPending t i s) := by
  simp [discardPending]

-- Machine/Defects.lean.

@[simp] theorem markDirty_still (k : Nat) : Still s (markDirty k s) := by simp [markDirty]
@[simp] theorem putDefect_still (cls obj b : Nat) (on : Bool) : Still s (putDefect cls obj b on s) := by
  simp [putDefect]
@[simp] theorem putSet_still (k : Nat) (w : Word64) : Still s (putSet k w s) := by simp [putSet]
@[simp] theorem suppress_still : Still s (suppress s) := by simp [suppress]
@[simp] theorem changeDefect_still (cls obj b : Nat) (on : Bool) : Still s (changeDefect cls obj b on s) := by simp [changeDefect]
@[simp] theorem evalMismatch_still : Still s (evalMismatch s) := by simp [evalMismatch]

@[simp] theorem evalTim_still (cls obj : Nat) : Still s (evalTim cls obj s) := by
  unfold evalTim
  split <;> simp

@[simp] theorem evalBands_still (cls obj : Nat) : Still s (evalBands cls obj s) := by
  unfold evalBands
  split <;> simp

-- Machine/Pm.lean.

@[simp] theorem putPm_still (k : Nat) (o : PmObj) : Still s (putPm k o s) := by simp [putPm]
@[simp] theorem announceBuf_still (b : PmBuf) : Still s (announceBuf b s) := by simp [announceBuf]
@[simp] theorem writeRecord_still (bs : Bytes) (b : PmBuf) (rest : List PmBuf) :
    Still s (writeRecord bs b rest s) := by simp [writeRecord]

@[simp] theorem emitRecord_still (kind cls obj : Nat) (c : PmCounts) :
    Still s (emitRecord kind cls obj c s) := by
  unfold emitRecord
  repeat' split
  all_goals simp

@[simp] theorem pmFinal_still (cls obj : Nat) : Still s (pmFinal cls obj s) := by
  simp only [pmFinal]
  repeat' split
  all_goals simp

@[simp] theorem closeBin_still (cls obj : Nat) (day : Bool) (next : PmCounts) :
    Still s (closeBin cls obj day next s) := by simp [closeBin]
@[simp] theorem pmClose_still (cls obj : Nat) (day : Bool) : Still s (pmClose cls obj day s) := by
  simp [pmClose]

@[simp] theorem pmTimeout_still : Still s (pmTimeout s) := by
  unfold pmTimeout
  split <;> simp

@[simp] theorem measure_still (start : Nat) (v : State) (m : PmMeas) :
    Still s (Machine.measure start v s m) := by simp [Machine.measure]
@[simp] theorem secondEnd_still (ms : List PmMeas) : Still s (secondEnd ms s) := by simp [secondEnd]
@[simp] theorem stepBins_still (sec : Nat) (x : Nat × PmObj) : Still s (stepBins sec s x) := by
  simp [stepBins]
@[simp] theorem pmSwap_still (old : State) : Still s (pmSwap old s) := by simp [pmSwap]
@[simp] theorem failedFrame_still : Still s (failedFrame s) := by simp [failedFrame]
@[simp] theorem stepTod_still (sec : FN) (ns : Word32) : Still s (stepTod sec ns s) := by simp [stepTod]

-- Machine/Commit.lean.

@[simp] theorem internalMsg_still : Still s (internalMsg s).2 := by simp [internalMsg]
@[simp] theorem sendCommitMsg_still (type : Nat) (payload : Bytes) :
    Still s (sendCommitMsg type payload s) := by simp [sendCommitMsg]
@[simp] theorem mirrorStaged_still : Still s (mirrorStaged s) := by simp [mirrorStaged]
@[simp] theorem setJob_still (j : Option CommitJob) : Still s (setJob j s) := by simp [setJob]
@[simp] theorem openPage_still : Still s (openPage s) := by simp [openPage]

@[simp] theorem endCommit_still (status : Byte) (obj : Byte) (r : Word64) :
    Still s (endCommit status obj r s) := by
  unfold endCommit
  split <;> simp

@[simp] theorem stopCommit_still (status : Byte) : Still s (stopCommit status s) := by
  unfold stopCommit
  split <;> simp

@[simp] theorem deferJob_still (schedule : Bool) (j : CommitJob) : Still s (deferJob schedule s j) := by
  simp [deferJob]

@[simp] theorem resolveOnce_still (status : Byte) (schedule : Bool) :
    Still s (resolveOnce status schedule s) := by
  unfold resolveOnce
  split <;> simp

@[simp] theorem resolveLate_still (n : Nat) (s : State) : Still s (resolveLate n s) := by
  induction n generalizing s with
  | zero => exact ⟨rfl, rfl⟩
  | succ n ih => simp [resolveLate, ih]

@[simp] theorem resolveCause_still (status : Byte) (schedule : Bool) :
    Still s (resolveCause status schedule s) := by simp [resolveCause]
@[simp] theorem abortOne_still (cause : Nat) (j : CommitJob) : Still s (abortOne cause j s) := by
  simp [abortOne]
@[simp] theorem sendAbort_still (cause : Nat) (j : CommitJob) : Still s (sendAbort cause j s) := by
  simp [sendAbort]

@[simp] theorem abortRound_still (cause : Nat) (status : Byte) : Still s (abortRound cause status s) := by
  unfold abortRound
  split <;> simp

@[simp] theorem checkAcks_still : Still s (checkAcks s) := by
  unfold checkAcks
  split <;> simp

@[simp] theorem checkReady_still : Still s (checkReady s) := by
  unfold checkReady
  split <;> simp

@[simp] theorem tryPrepare_still : Still s (tryPrepare s) := by
  unfold tryPrepare
  split <;> simp

@[simp] theorem prepareAhead_still (n : Nat) (s : State) : Still s (prepareAhead n s) := by
  induction n generalizing s with
  | zero => exact ⟨rfl, rfl⟩
  | succ n ih =>
    unfold prepareAhead
    split
    · exact ⟨rfl, rfl⟩
    · simp [ih]

@[simp] theorem prepareAll_still : Still s (prepareAll s) := by simp [prepareAll]

@[simp] theorem tryReady_still : Still s (tryReady s) := by
  unfold tryReady
  split <;> simp

@[simp] theorem readyAhead_still : Still s (readyAhead s) := by
  unfold readyAhead
  split <;> simp

@[simp] theorem readyAll_still : Still s (readyAll s) := by simp [readyAll]

@[simp] theorem solveOn_still : Still s (solveOn s) := by
  unfold solveOn
  split <;> simp

@[simp] theorem solvedLater_still (j : CommitJob) : Still s (solvedLater j s) := by simp [solvedLater]

@[simp] theorem solvedNow_still : Still s (solvedNow s) := by
  simp only [solvedNow]
  repeat' split
  all_goals simp

@[simp] theorem solved_still : Still s (solved s) := by
  unfold solved
  split <;> simp

@[simp] theorem pruneDefects_still (old : Page) : Still s (pruneDefects old s) := by simp [pruneDefects]

@[simp] theorem countSwap_still (old : Page) (s : State) : Still s (countSwap old s) := by
  unfold countSwap
  refine Still.trans ?_ (foldl_still (fun s x => ?_) _ _)
  · simp
  · split <;> exact ⟨rfl, rfl⟩

@[simp] theorem countLegs_still (before s : State) : Still s (countLegs before s) := by
  simp [countLegs]

@[simp] theorem markChanged_still (old : Page) : Still s (markChanged old s) := by simp [markChanged]

@[simp] theorem tapCheck_still (before s : State) : Still s (tapCheck before s) := by
  refine foldl_still (fun s x => ?_) _ _
  split
  · exact ⟨rfl, rfl⟩
  · split <;> simp

@[simp] theorem commitDone_still (bn : Nat) : Still s (commitDone bn s) := by
  unfold commitDone
  split <;> simp

@[simp] theorem afterSwap_still (j : CommitJob) : Still s (afterSwap j s) := by simp [afterSwap]
@[simp] theorem mirrorConfig_still : Still s (mirrorConfig s) := by simp [mirrorConfig]
@[simp] theorem dropSolution_still : Still s (dropSolution s) := by simp [dropSolution]
@[simp] theorem stage_still (p : Page) (items : Nat) : Still s (stage p items s) := by simp [stage]

-- Machine/ConnCmds.lean.

@[simp] theorem stageRecs_still (tok : CmdTok) (p : Page) (rs : List StageRec) :
    Still s (stageRecs tok p rs s) := by
  unfold stageRecs
  split
  · simp
  · split <;> simp

@[simp] theorem stageBulk_still (tok : CmdTok) (clear : Bool) (bs : Bytes) : Still s (stageBulk tok clear bs s) := by
  simp only [stageBulk]
  repeat' split
  all_goals simp

@[simp] theorem sealPage_still (tok : CmdTok) (target : Nat) (flag : CommitFlag) :
    Still s (sealPage tok target flag s) := by simp [sealPage]

@[simp] theorem commitBody_still (c : CmdEntry) (tok : CmdTok) : Still s (commitBody c tok s) := by
  unfold commitBody
  split <;> simp

@[simp] theorem discardStaged_still : Still s (discardStaged s) := by simp [discardStaged]

@[simp] theorem cancelJob_still : Still s (cancelJob s) := by
  unfold cancelJob
  split <;> simp

@[simp] theorem cancelCommit_still : Still s (cancelCommit s) := by
  unfold cancelCommit
  split <;> simp

@[simp] theorem abortBody_still (c : CmdEntry) (tok : CmdTok) : Still s (abortBody c tok s) := by
  simp [abortBody]
@[simp] theorem routeBody_still (c : CmdEntry) (tok : CmdTok) : Still s (routeBody c tok s) := by
  simp [routeBody]

@[simp] theorem stageCarriers_still (tok : CmdTok) (first : Nat) (rs : List (BitVec 128)) :
    Still s (stageCarriers tok first rs s) := by
  unfold stageCarriers
  split
  · simp
  · split <;> simp

@[simp] theorem quiesceRun_still (first n : Nat) (on : Bool) : Still s (quiesceRun first n on s) := by
  simp [quiesceRun]

-- Machine/CommitRows.lean.

@[simp] theorem stepDone_still (x : StartStep) : Still s (stepDone x s) := by simp [stepDone]

@[simp] theorem readiness_still : Still s (readiness s) := by
  unfold readiness
  split <;> simp

@[simp] theorem toFinal_still : Still s (toFinal s) := by simp [toFinal]

@[simp] theorem heldOver_still : Still s (heldOver s) := by
  unfold heldOver
  split <;> simp

@[simp] theorem issuerLapse_still : Still s (issuerLapse s) := by
  unfold issuerLapse
  split <;> simp

@[simp] theorem finalPoint_still : Still s (finalPoint s) := by
  unfold finalPoint
  split <;> simp

@[simp] theorem faultJournal_still : Still s (faultJournal s) := by simp [faultJournal]
@[simp] theorem closeRecord_still (rec : JRecord) : Still s (closeRecord rec s) := by simp [closeRecord]

@[simp] theorem journalClose_still : Still s (journalClose s) := by
  simp only [journalClose]
  repeat' split
  all_goals simp

@[simp] theorem prepareDeadline_still : Still s (prepareDeadline s) := by
  unfold prepareDeadline
  split <;> simp

@[simp] theorem prepareLater_still (j : CommitJob) (m : Bytes) : Still s (prepareLater j m s) := by
  simp [prepareLater]

@[simp] theorem prepareRx_still (slice : Nat) (unit : Bool) (m : Bytes) :
    Still s (prepareRx slice unit m s) := by
  unfold prepareRx
  split <;> simp

@[simp] theorem readyRx_still (slice : Nat) (unit : Bool) (m : Bytes) :
    Still s (readyRx slice unit m s) := by
  unfold readyRx
  split <;> simp

@[simp] theorem readyDeadline_still : Still s (readyDeadline s) := by
  unfold readyDeadline
  split <;> simp

@[simp] theorem commitRx_still (m : Bytes) : Still s (commitRx m s) := by
  unfold commitRx
  split <;> simp

@[simp] theorem ackRx_still (slice : Nat) (unit : Bool) (m : Bytes) : Still s (ackRx slice unit m s) := by
  unfold ackRx
  split <;> simp

@[simp] theorem ackDeadline_still : Still s (ackDeadline s) := by
  unfold ackDeadline
  split <;> simp

@[simp] theorem abortRx_still (m : Bytes) : Still s (abortRx m s) := by
  unfold abortRx
  split <;> simp

@[simp] theorem refuseRx_still (m : Bytes) : Still s (refuseRx m s) := by
  unfold refuseRx
  split <;> simp

@[simp] theorem refuseOnWarning_still : Still s (refuseOnWarning s) := by
  unfold refuseOnWarning
  split <;> simp

@[simp] theorem roleCause_still : Still s (roleCause s) := by
  unfold roleCause
  split <;> simp

@[simp] theorem abortRepeat_still : Still s (abortRepeat s) := by simp [abortRepeat]

@[simp] theorem roundRepeat_still : Still s (roundRepeat s) := by
  unfold roundRepeat
  split <;> simp

@[simp] theorem aheadRepeat_still : Still s (aheadRepeat s) := by
  unfold aheadRepeat
  split <;> simp

@[simp] theorem commitRepeat_still : Still s (commitRepeat s) := by simp [commitRepeat]

-- Machine/Bus.lean.

@[simp] theorem noteAnswer_still (a : BusAnswer) : Still s (noteAnswer a s) := by
  unfold noteAnswer
  split <;> simp

@[simp] theorem startDrain_still (ms : List Nat) : Still s (startDrain ms s) := by simp [startDrain]

-- Machine/Dma.lean.

@[simp] theorem putCh_still (n : Nat) (c : DmaCh) : Still s (putCh n c s) := by simp [putCh]

@[simp] theorem dmaGoOn_still (n : Nat) : Still s (dmaGoOn n s) := by
  simp only [dmaGoOn]
  repeat' split
  all_goals simp

@[simp] theorem leaveTransfer_still (n : Nat) : Still s (leaveTransfer n s) := by simp [leaveTransfer]
@[simp] theorem withdraw_still (n : Nat) : Still s (withdraw n s) := by simp [withdraw]
@[simp] theorem drewDma_still : Still s (drewDma s) := by simp [drewDma]

@[simp] theorem dmaStopOn_still (n : Nat) : Still s (dmaStopOn n s) := by
  simp only [dmaStopOn]
  repeat' split
  all_goals simp

@[simp] theorem dmaPauseOn_still (n : Nat) (on : Bool) : Still s (dmaPauseOn n on s) := by
  simp only [dmaPauseOn]
  repeat' split
  all_goals simp

@[simp] theorem dmaFields_still (n : Nat) (v : Word32) : Still s (dmaFields n v s) := by simp [dmaFields]
@[simp] theorem dmaCtrlWrite_still (n : Nat) (v : Word32) : Still s (dmaCtrlWrite n v s) := by
  simp [dmaCtrlWrite]
@[simp] theorem hostCtrlWrite_still (n : Nat) (v : Word32) : Still s (hostCtrlWrite n v s) := by
  simp [hostCtrlWrite]
@[simp] theorem paceEvent_still (n : Nat) : Still s (paceEvent n s) := by simp [paceEvent]
@[simp] theorem chainPace_still (n : Nat) : Still s (chainPace n s) := by simp [chainPace]
@[simp] theorem dmaComplete_still (n : Nat) : Still s (dmaComplete n s) := by simp [dmaComplete]
@[simp] theorem bulkBurst_still : Still s (bulkBurst s) := by simp [bulkBurst]
@[simp] theorem ringBurst_still (n : Nat) : Still s (ringBurst n s) := by simp [ringBurst]
@[simp] theorem burstDone_still (n : Nat) : Still s (burstDone n s) := by simp [burstDone]
@[simp] theorem haltCh_still (n cause : Nat) : Still s (haltCh n cause s) := by simp [haltCh]

@[simp] theorem haltRing_still (n : Nat) : Still s (haltRing n s) := by
  unfold haltRing
  split <;> simp

@[simp] theorem lastFailure_still (n cause : Nat) : Still s (lastFailure n cause s) := by
  unfold lastFailure
  split <;> simp

@[simp] theorem noteAer_still : Still s (noteAer s) := by simp [noteAer]

@[simp] theorem noteError_still (cause : Nat) : Still s (noteError cause s) := by
  unfold noteError
  split <;> simp

@[simp] theorem burstFails_still (n cause : Nat) : Still s (burstFails n cause s) := by simp [burstFails]
@[simp] theorem stopChannels_still (ns : List Nat) : Still s (stopChannels ns s) := by simp [stopChannels]
@[simp] theorem perstDma_still : Still s (perstDma s) := by simp [perstDma]

-- Machine/Timing.lean.

@[simp] theorem putSlotSt_still (i : Nat) (x : SlotState) : Still s (putSlotSt i x s) := by
  simp [putSlotSt]
@[simp] theorem timNote_still (b : Nat) (first : Option Nat) (second : Nat) :
    Still s (timNote b first second s) := by simp [timNote]
@[simp] theorem setDpll_still (st : BitVec 3) : Still s (setDpll st s) := by simp [setDpll]
@[simp] theorem stopTracking_still : Still s (stopTracking s) := by simp [stopTracking]
@[simp] theorem toHoldover_still : Still s (toHoldover s) := by simp [toHoldover]
@[simp] theorem fromXo_still : Still s (fromXo s) := by simp [fromXo]
@[simp] theorem toFreeRun_still : Still s (toFreeRun s) := by simp [toFreeRun]
@[simp] theorem openLoop_still : Still s (openLoop s) := by simp [openLoop]
@[simp] theorem applyBlock_still : Still s (applyBlock s) := by simp [applyBlock]
@[simp] theorem tickQl_still (i : Nat) : Still s (tickQl s i) := by simp [tickQl]
@[simp] theorem tickSince_still (i : Nat) : Still s (tickSince s i) := by simp [tickSince]
@[simp] theorem tickSample_still : Still s (tickSample s) := by simp [tickSample]
@[simp] theorem takePhase_still : Still s (takePhase s) := by simp [takePhase]
@[simp] theorem startTracking_still : Still s (startTracking s) := by simp [startTracking]
@[simp] theorem refSwitch_still (c : Nat) : Still s (refSwitch c s) := by simp [refSwitch]

@[simp] theorem actOn_still (choice : Option Nat) : Still s (actOn choice s) := by
  unfold actOn
  repeat' split
  all_goals simp

@[simp] theorem refConflict_still (a b : Nat) : Still s (refConflict a b s) := by
  unfold refConflict
  repeat' split
  all_goals simp

@[simp] theorem tickPairs_still : Still s (tickPairs s) := by simp [tickPairs]
@[simp] theorem tick_still : Still s (tick s) := by simp [tick]
@[simp] theorem failSlot_still (i : Nat) : Still s (failSlot i s) := by simp [failSlot]
@[simp] theorem holdOffStops_still : Still s (holdOffStops s) := by simp [holdOffStops]
@[simp] theorem condArises_still (i b : Nat) : Still s (condArises i b s) := by simp [condArises]
@[simp] theorem condClears_still (i b : Nat) : Still s (condClears i b s) := by simp [condClears]
@[simp] theorem resumeFrame_still : Still s (resumeFrame s) := by simp [resumeFrame]
@[simp] theorem slotCond_still (i b : Nat) (on : Bool) : Still s (slotCond i b on s) := by simp [slotCond]

@[simp] theorem evalSlot_still (i : Nat) : Still s (evalSlot s i) := by
  simp only [evalSlot]
  repeat' split
  all_goals simp

@[simp] theorem evalSlots_still : Still s (evalSlots s) := by simp [evalSlots]

@[simp] theorem refCondition_still (i b : Nat) (on : Bool) : Still s (refCondition i b on s) := by
  unfold refCondition
  split <;> simp

@[simp] theorem refHoldOff_still (i : Nat) : Still s (refHoldOff i s) := by
  unfold refHoldOff
  split <;> simp

@[simp] theorem refWtr_still (i : Nat) : Still s (refWtr i s) := by
  unfold refWtr
  split <;> simp

@[simp] theorem acqFail_still : Still s (acqFail s) := by
  unfold acqFail
  split <;> simp

@[simp] theorem lockFrame_still : Still s (lockFrame s) := by simp [lockFrame]
@[simp] theorem dpllLocked_still : Still s (dpllLocked s) := by simp [dpllLocked]
@[simp] theorem ssmTimeout_still (i : Nat) : Still s (ssmTimeout i s) := by simp [ssmTimeout]
@[simp] theorem ssmAccept_still (i : Nat) (code : BitVec 4) : Still s (ssmAccept i code s) := by
  simp [ssmAccept]

@[simp] theorem freqUpdate_still (i : Nat) (freq : Int) : Still s (freqUpdate i freq s) := by
  simp only [freqUpdate]
  repeat' split
  all_goals simp

@[simp] theorem writeSlot_still (i : Nat) (r : BitVec 128) : Still s (writeSlot i r s) := by
  simp [writeSlot]
@[simp] theorem timOk_still (tok : CmdTok) : Still s (timOk tok s) := by simp [timOk]

@[simp] theorem onSlot_still (c : CmdEntry) (tok : CmdTok) (act : State → State) (s : State)
    (hact : ∀ s, Still s (act s)) : Still s (onSlot c tok act s) := by
  simp [onSlot, hact]

@[simp] theorem clearWtr_still (i : Nat) : Still s (clearWtr i s) := by simp [clearWtr]
@[simp] theorem dropRef_still : Still s (dropRef s) := by simp [dropRef]
@[simp] theorem phaseFrame_still : Still s (phaseFrame s) := by simp [phaseFrame]
@[simp] theorem rampFrame_still : Still s (rampFrame s) := by simp [rampFrame]

-- Machine/Effects.lean.

@[simp] theorem toNormal_still (ps : List Nat) : Still s (toNormal ps s) := by simp [toNormal]
@[simp] theorem toProtect_still (p : Nat) (f : Nat → Word64) : Still s (toProtect p f s) := by
  simp [toProtect]

@[simp] theorem remapMoves_still (f : FN) (was s : State) : Still s (remapMoves f was s) := by
  unfold remapMoves
  split
  · exact ⟨rfl, rfl⟩
  · simp

@[simp] theorem writeLinearNormal_still (g : LinearCfg) : Still s (writeLinearNormal g s) := by
  simp [writeLinearNormal]
@[simp] theorem applyLinear_still (g : LinearCfg) (st br : Nat) : Still s (applyLinear g st br s) := by
  simp [applyLinear]
@[simp] theorem applySpan_still (r : RingCfg) (far : Nat) (east : Bool) : Still s (applySpan r far east s) := by simp [applySpan]

@[simp] theorem applyRing_still (r : RingCfg) (st br : Nat) : Still s (applyRing r st br s) := by
  unfold applyRing
  split <;> simp

@[simp] theorem putAps_still (ring : Bool) (g : Nat) (a : ApsState) : Still s (putAps ring g a s) := by
  simp [putAps]

@[simp] theorem applyAps_still (ring : Bool) (g st br : Nat) : Still s (applyAps ring g st br s) := by
  unfold applyAps
  repeat' split
  all_goals simp

@[simp] theorem putDistrust_still (l : Nat) (d : Distrust) : Still s (putDistrust l d s) := by
  simp [putDistrust]
@[simp] theorem queueVbl_still (l : Nat) (type : Byte) (payload : Bytes) : Still s (queueVbl l type payload s) := by simp [queueVbl]
@[simp] theorem sendTrust_still (l : Nat) (on : Bool) (fn : FN) : Still s (sendTrust l on fn s) := by
  simp [sendTrust]
@[simp] theorem setDistrust_still (l : Nat) (on forced : Bool) (fn : FN) :
    Still s (setDistrust l on forced fn s) := by simp [setDistrust]
@[simp] theorem holdDistrust_still (l : Nat) : Still s (holdDistrust l s) := by simp [holdDistrust]
@[simp] theorem renewProtection_still : Still s (renewProtection s) := by simp [renewProtection]
@[simp] theorem raiseEpoch_still : Still s (raiseEpoch s) := by simp [raiseEpoch]

@[simp] theorem restartLane_still (l : Nat) : Still s (restartLane l s) := by simp [restartLane]
@[simp] theorem applyLane_still (l : Nat) (c : LaneCfg) : Still s (applyLane l c s) := by simp [applyLane]
@[simp] theorem applyBind_still (base l : Nat) : Still s (applyBind base l s) := by simp [applyBind]
@[simp] theorem applyUnbind_still (fp : Nat) : Still s (applyUnbind fp s) := by simp [applyUnbind]

@[simp] theorem applyLinearCfg_still (g : Nat) (c : LinearCfg) : Still s (applyLinearCfg g c s) := by
  unfold applyLinearCfg
  split <;> simp

@[simp] theorem applyRingCfg_still (r : Nat) (c : RingCfg) : Still s (applyRingCfg r c s) := by
  unfold applyRingCfg
  split <;> simp

@[simp] theorem applyDelete_still (ring : Bool) (g : Nat) : Still s (applyDelete ring g s) := by
  simp [applyDelete]
@[simp] theorem applyRemap_still (fp : Nat) (es : List Word64) : Still s (applyRemap fp es s) := by
  simp [applyRemap]
@[simp] theorem applyPrbs_still (u : Nat) (c : Option PrbsCfg) (clear : Bool) :
    Still s (applyPrbs u c clear s) := by simp [applyPrbs]

@[simp] theorem schedule_still (due : FN) (tok : Option CmdTok) (own : Bool) (e : Effect) (r : Word64) :
    Still s (schedule due tok own e r s) := by simp [schedule]
@[simp] theorem atBoundary_still (tok : CmdTok) (e : Effect) : Still s (atBoundary tok e s) := by
  simp [atBoundary]

-- Machine/Restart.lean.

@[simp] theorem windowsWarm_still : Still s (windowsWarm s) := by simp [windowsWarm]
@[simp] theorem dropToks_still : Still s (dropToks s) := by simp [dropToks]
@[simp] theorem dropEvents_still : Still s (dropEvents s) := by simp [dropEvents]
@[simp] theorem removeTests_still : Still s (removeTests s) := by simp [removeTests]
@[simp] theorem dropControl_still : Still s (dropControl s) := by simp [dropControl]
@[simp] theorem enterSafe_still : Still s (enterSafe s) := by simp [enterSafe]
@[simp] theorem countReset_still (cause : Nat) : Still s (countReset cause s) := by simp [countReset]
@[simp] theorem coldState_still (powerOn : Bool) : Still s (coldState powerOn s) := by simp [coldState]
@[simp] theorem assertCold_still (cause : Nat) : Still s (assertCold cause s) := by simp [assertCold]
@[simp] theorem warmPage_still : Still s (warmPage s) := by simp [warmPage]
@[simp] theorem warmState_still : Still s (warmState s) := by simp [warmState]
@[simp] theorem assertWarm_still (cause : Nat) : Still s (assertWarm cause s) := by simp [assertWarm]
@[simp] theorem initialSnapshot_still : Still s (initialSnapshot s) := by simp [initialSnapshot]
@[simp] theorem runImage_still (b : Bool) : Still s (runImage b s) := by simp [runImage]
@[simp] theorem clearTrial_still (br : BootRec) : Still s (clearTrial br s) := by simp [clearTrial]
@[simp] theorem bootRun_still (b : Bool) : Still s (bootRun b s) := by simp [bootRun]

@[simp] theorem startFrame_still : Still s (startFrame s) := by simp [startFrame]
@[simp] theorem restoreDomains_still (c : Cfg) : Still s (restoreDomains c s) := by simp [restoreDomains]

@[simp] theorem warmMode_still : Still s (warmMode s).2.2 := by
  simp only [warmMode]
  repeat' split
  all_goals simp

@[simp] theorem bakCheck_still : Still s (bakCheck s) := by simp [bakCheck]
@[simp] theorem eraseSecrets_still : Still s (eraseSecrets s) := by simp [eraseSecrets]
@[simp] theorem finishErasure_still : Still s (finishErasure s) := by simp [finishErasure]
@[simp] theorem clearCauses_still : Still s (clearCauses s) := by simp [clearCauses]

-- Machine/Aps.lean.

@[simp] theorem putKb_still (l : Nat) (x : KState) : Still s (putKb l x s) := by simp [putKb]
@[simp] theorem kAccept_still (l : Nat) (k : BitVec 13) : Still s (kAccept l k s) := by simp [kAccept]
@[simp] theorem psbfNow_still (l : Nat) : Still s (psbfNow l s) := by simp [psbfNow]
@[simp] theorem kstormNow_still (l : Nat) (on : Bool) : Still s (kstormNow l on s) := by simp [kstormNow]
@[simp] theorem sendK_still (l : Nat) (w : Word16) : Still s (sendK l w s) := by simp [sendK]

@[simp] theorem apsMove_still (f : FN) (ring : Bool) (g : Nat) : Still s (apsMove f ring g s) := by
  simp [apsMove]

@[simp] theorem apsNext_still (ring : Bool) (x : Nat × ApsState) : Still s (apsNext ring s x) := by
  unfold apsNext
  split <;> simp

@[simp] theorem apsBound_still (ring : Bool) (g : Nat) : Still s (apsBound ring s g) := by
  unfold apsBound
  split <;> simp

@[simp] theorem fopNow_still (ring : Bool) (g : Nat) (on : Bool) : Still s (fopNow ring g on s) := by
  simp [fopNow]

-- Machine/LaneCmds.lean.

@[simp] theorem vblSendBody_still (c : CmdEntry) (tok : CmdTok) : Still s (vblSendBody c tok s) := by
  simp [vblSendBody]

-- Machine/MonCmds.lean.

@[simp] theorem newTap_still (u : Nat) (x : TapCfg) : Still s (newTap u x s) := by simp [newTap]
@[simp] theorem mirrorPrbs_still : Still s (mirrorPrbs s) := by simp [mirrorPrbs]
@[simp] theorem auditSeen_still (first n : Nat) : Still s (auditSeen first n s) := by simp [auditSeen]

-- Machine/TwinCmds.lean.

@[simp] theorem membership_still (was : Bool) : Still s (membership was s) := by simp [membership]
@[simp] theorem putGh_still (b : Bool) (p : GhPort) : Still s (putGh b p s) := by simp [putGh]

-- Machine/TwinRows.lean.

@[simp] theorem putMl_still (lane : Bool) (x : MlRx) : Still s (putMl lane x s) := by simp [putMl]
@[simp] theorem setSync_still (n : BitVec 3) : Still s (setSync n s) := by simp [setSync]
@[simp] theorem dropImage_still : Still s (dropImage s) := by simp [dropImage]
@[simp] theorem enterIsolated_still : Still s (enterIsolated s) := by simp [enterIsolated]
@[simp] theorem isolate_still : Still s (isolate s) := by simp [isolate]
@[simp] theorem sendReleased_still : Still s (sendReleased s) := by simp [sendReleased]
@[simp] theorem becomeStandby_still : Still s (becomeStandby s) := by simp [becomeStandby]

@[simp] theorem linkLost_still : Still s (linkLost s) := by
  simp only [linkLost]
  repeat' split
  all_goals simp

@[simp] theorem compareHeld_still : Still s (compareHeld s) := by simp [compareHeld]
@[simp] theorem resumeRole_still : Still s (resumeRole s) := by simp [resumeRole]
@[simp] theorem takeBackRole_still : Still s (takeBackRole s) := by simp [takeBackRole]
@[simp] theorem startResync_still : Still s (startResync s) := by simp [startResync]
@[simp] theorem checkMismatch_still : Still s (checkMismatch s) := by simp [checkMismatch]
@[simp] theorem checkFpMate_still : Still s (checkFpMate s) := by simp [checkFpMate]
@[simp] theorem checkConflict_still : Still s (checkConflict s) := by simp [checkConflict]
@[simp] theorem mateQl_still : Still s (mateQl s) := by simp [mateQl]
@[simp] theorem headerSeen_still : Still s (headerSeen s) := by simp [headerSeen]
@[simp] theorem measureArrival_still (lane : Bool) : Still s (measureArrival lane s) := by
  simp [measureArrival]
@[simp] theorem mateHeader_rx_still (lane : Bool) (m : Bytes) : Still s (mateHeader_rx lane m s) := by
  simp [mateHeader_rx]

@[simp] theorem takeSealed_still (c : SealedCommit) : Still s (takeSealed c s) := by
  unfold takeSealed
  split <;> simp

@[simp] theorem takeOpened_still : Still s (takeOpened s) := by
  unfold takeOpened
  split <;> simp

@[simp] theorem issuerDone_still (bn : Nat) (fp : Word64) : Still s (issuerDone bn fp s) := by
  unfold issuerDone
  split <;> simp

@[simp] theorem takeWrite_still (w : StagedWrite) : Still s (takeWrite s w) := by
  unfold takeWrite
  split <;> simp

@[simp] theorem applyStaged_still (ws : List StagedWrite) : Still s (applyStaged ws s) := by
  simp [applyStaged]

@[simp] theorem dropCommit_still : Still s (dropCommit s) := by
  unfold dropCommit
  split <;> simp

@[simp] theorem endScheduled_still (fp : Word64) : Still s (endScheduled fp s) := by
  unfold endScheduled
  split <;> simp

@[simp] theorem powerForPage_still : Still s (powerForPage s) := by simp [powerForPage]
@[simp] theorem requestFrom_still (chan first upto : Nat) : Still s (requestFrom chan first upto s) := by
  simp [requestFrom]

@[simp] theorem channelRx_still (chan seq : Nat) (take : State → State) (s : State)
    (htake : ∀ s, Still s (take s)) : Still s (channelRx chan seq take s) := by
  simp only [channelRx]
  split
  · exact ⟨rfl, rfl⟩
  · split
    · exact htake _
    · simp

@[simp] theorem superframeRx_still (lane : Bool) (s : State) : Still s (superframeRx lane s) := by
  unfold superframeRx
  generalize parsePackets 78116 (mateRxStream s lane) = r
  obtain ⟨l, _ | c⟩ := r
  · simp
  · dsimp only
    split
    · exact ⟨rfl, rfl⟩
    · split
      · simp
      · exact ⟨rfl, rfl⟩

@[simp] theorem mateRxFrame_still : Still s (mateRxFrame s) := by simp [mateRxFrame]
@[simp] theorem takeRecord_still (r : JRecord) : Still s (takeRecord r s) := by simp [takeRecord]
@[simp] theorem takeStaged_still (ws : List StagedWrite) : Still s (takeStaged ws s) := by
  simp [takeStaged]
@[simp] theorem imageComplete_still (tag : Nat) : Still s (imageComplete tag s) := by simp [imageComplete]

@[simp] theorem resend_still (chan first count : Nat) (s : State) : Still s (resend chan first count s) := by
  unfold resend
  split
  · exact ⟨rfl, rfl⟩
  · refine foldl_still (fun s i => ?_) _ _
    dsimp only
    split <;> exact ⟨rfl, rfl⟩

@[simp] theorem gapTimeout_still (chan : Nat) : Still s (gapTimeout chan s) := by
  unfold gapTimeout
  split <;> simp

@[simp] theorem loseAlignment_still : Still s (loseAlignment s) := by simp [loseAlignment]
@[simp] theorem alignStep_still : Still s (alignStep s) := by simp [alignStep]
@[simp] theorem countGrant_still (b : Bool) (why : Nat) : Still s (countGrant b why s) := by
  simp [countGrant]
@[simp] theorem macFailed_still (b : Bool) : Still s (macFailed b s) := by simp [macFailed]
@[simp] theorem discardGrant_still (b : Bool) (why : Nat) : Still s (discardGrant b why s) := by
  simp [discardGrant]

@[simp] theorem grantMe_still (b own : Bool) (anchor : FN) (m : Bytes) :
    Still s (grantMe b own anchor m s) := by
  unfold grantMe
  split <;> simp

@[simp] theorem grantOther_still (own : Bool) : Still s (grantOther own s) := by
  simp only [grantOther]
  repeat' split
  all_goals simp

@[simp] theorem namedGrant_still (b own : Bool) (anchor : FN) (m : Bytes) :
    Still s (namedGrant b own anchor m s) := by simp [namedGrant]

@[simp] theorem applyGrant_still (b own : Bool) (anchor : FN) (m : Bytes) : Still s (applyGrant b own anchor m s) := by
  simp only [applyGrant]
  repeat' split
  all_goals simp

@[simp] theorem decidePending_still (anchor : FN) (m : Bytes) : Still s (decidePending anchor m s) := by
  simp [decidePending]
@[simp] theorem grantReset_still (b : Bool) (m : Bytes) : Still s (grantReset b m s) := by
  simp [grantReset]

@[simp] theorem grantRx_still (b : Bool) (m : Bytes) : Still s (grantRx b m s) := by
  unfold grantRx
  repeat' split
  all_goals simp

@[simp] theorem relayRx_still (b : Bool) (anchor : FN) (m : Bytes) : Still s (relayRx b anchor m s) := by
  unfold relayRx
  split
  · simp
  · split <;> simp

@[simp] theorem takeRole_still (p : PendingGrant) : Still s (takeRole p s) := by simp [takeRole]

@[simp] theorem roleTake_still : Still s (roleTake s) := by
  unfold roleTake
  split <;> simp

@[simp] theorem leaseEnds_still : Still s (leaseEnds s) := by
  unfold leaseEnds
  repeat' split
  all_goals simp

-- Machine/GroupRows.lean.

@[simp] theorem elect_still : Still s (elect s) := by
  unfold elect
  split
  · simp
  · split <;> simp

@[simp] theorem startCatchup_still : Still s (startCatchup s) := by simp [startCatchup]
@[simp] theorem setFenced_still (on : Bool) : Still s (setFenced on s) := by simp [setFenced]
@[simp] theorem checkFpGroup_still (c : Compared) (r : Bytes) : Still s (checkFpGroup c r s) := by
  simp [checkFpGroup]
@[simp] theorem dropRetained_still : Still s (dropRetained s) := by simp [dropRetained]
@[simp] theorem actOnCompared_still (c : Compared) (r : Bytes) : Still s (actOnCompared c r s) := by
  simp [actOnCompared]

@[simp] theorem compareBell_still (from_ : Option Nat) : Still s (compareBell from_ s) := by
  unfold compareBell
  repeat' split
  all_goals simp

@[simp] theorem holdRecord_still (k : Nat) (m : Bytes) : Still s (holdRecord k m s) := by
  simp [holdRecord]
@[simp] theorem miswiredRecord_still (k : Nat) : Still s (miswiredRecord k s) := by simp [miswiredRecord]

@[simp] theorem recordRx_still (k : Nat) (sliceCount : Nat) (m : Bytes) :
    Still s (recordRx k sliceCount m s) := by
  unfold recordRx
  split <;> simp

@[simp] theorem recordLapse_still (k : Nat) : Still s (recordLapse k s) := by
  unfold recordLapse
  split <;> simp

@[simp] theorem mateRecord_still (m : Bytes) : Still s (mateRecord m s) := by simp [mateRecord]

@[simp] theorem bellwetherChange_still : Still s (bellwetherChange s) := by
  unfold bellwetherChange
  split <;> simp

@[simp] theorem acceptPacket_still (m : Bytes) : Still s (acceptPacket m s) := by simp [acceptPacket]
@[simp] theorem packetRx_still (west : Bool) (m : Bytes) : Still s (packetRx west m s) := by
  simp [packetRx]
@[simp] theorem portRx_still (west : Bool) (codes : List (BitVec 10)) : Still s (portRx west codes s) := by simp [portRx]

-- Machine/VblRows.lean.

@[simp] theorem putRx_still (k : Nat) (x : RxState) : Still s (putRx k x s) := by simp [putRx]
@[simp] theorem putVbl_still (l : Nat) (x : VblRx) : Still s (putVbl l x s) := by simp [putVbl]

@[simp] theorem setBitmap_still (l v : Nat) (on : Bool) : Still s (setBitmap l v on s) := by
  simp only [setBitmap]
  repeat' split
  all_goals simp

@[simp] theorem setBitRun_still (k n : Nat) : Still s (setBitRun k n s) := by simp [setBitRun]

@[simp] theorem filterSlot_still (l : Nat) (m : Bytes) (x : Nat × State) (v : Nat) : Still x.2 (filterSlot l m x v).2 := by
  simp only [filterSlot]
  repeat' split
  all_goals simp

@[simp] theorem filterSlots_still (l : Nat) (m : Bytes) (vs : List Nat) (x : Nat × State) :
    Still x.2 (vs.foldl (filterSlot l m) x).2 :=
  List.foldlRecOn vs (filterSlot l m) (motive := fun y => Still x.2 y.2) (.refl _)
    fun _ hy _ _ => hy.trans (filterSlot_still ..)

@[simp] theorem countFlips_still (l n : Nat) : Still s (countFlips l n s) := by simp [countFlips]
@[simp] theorem takeBitmap_still (l : Nat) (m : Bytes) : Still s (takeBitmap l m s) := by
  simp [takeBitmap]
@[simp] theorem headerRx_still (l : Nat) (m : Bytes) : Still s (headerRx l m s) := by simp [headerRx]
@[simp] theorem trustRestore_still (l : Nat) : Still s (trustRestore l s) := by simp [trustRestore]
@[simp] theorem distrustRepeat_still (l : Nat) : Still s (distrustRepeat l s) := by simp [distrustRepeat]
@[simp] theorem dropMessage_still (l : Nat) : Still s (dropMessage l s) := by simp [dropMessage]
@[simp] theorem messageNote_still (l : Nat) (m : Bytes) (addr : Nat) : Still s (messageNote l m addr s) := by simp [messageNote]
@[simp] theorem toBuffer_still (l : Nat) (m : Bytes) (b : Nat × List (Nat × Nat)) : Still s (toBuffer l m b s) := by simp [toBuffer]
@[simp] theorem flushRx_still : Still s (flushRx s) := by simp [flushRx]

@[simp] theorem relayMessage_still (l : Nat) (m : Bytes) : Still s (relayMessage l m s) := by
  simp only [relayMessage]
  repeat' split
  all_goals simp

@[simp] theorem stopBlock_still (l : Nat) : Still s (stopBlock l s) := by simp [stopBlock]
@[simp] theorem messageRx_still (l : Nat) (m : Bytes) : Still s (messageRx l m s) := by simp [messageRx]

@[simp] theorem vblVerify_still (l : Nat) (cands : List VblCand) : Still s (vblVerify l cands s) := by
  simp only [vblVerify]
  repeat' split
  all_goals simp

@[simp] theorem vblOutOfFrame_still (l : Nat) (words : List Bytes) (uncorr : List Nat) :
    Still s (vblOutOfFrame l words uncorr s) := by simp [vblOutOfFrame]
@[simp] theorem freshBitmap_still (l : Nat) : Still s (freshBitmap l s) := by simp [freshBitmap]
@[simp] theorem fecFrame_still : Still s (fecFrame s) := by simp [fecFrame]
@[simp] theorem vblDefect_still (l b : Nat) (on : Bool) : Still s (vblDefect l b on s) := by
  simp [vblDefect]
@[simp] theorem vblBarLapse_still (l : Nat) : Still s (vblBarLapse l s) := by simp [vblBarLapse]

-- Machine/LaneRows.lean.

@[simp] theorem putOof_still (k : Nat) (on : Bool) : Still s (putOof k on s) := by simp [putOof]
@[simp] theorem outOfFrame_still (k : Nat) (bar : Bool) : Still s (outOfFrame k bar s) := by
  simp [outOfFrame]
@[simp] theorem evalGroup_still (l : Nat) : Still s (evalGroup l s) := by simp [evalGroup]
@[simp] theorem afterRx_still (k : Nat) : Still s (afterRx k s) := by simp [afterRx]
@[simp] theorem groupFrame_still : Still s (groupFrame s) := by simp [groupFrame]
@[simp] theorem takeMarkers_still (l n : Nat) (vs : Bytes) : Still s (takeMarkers l n vs s) := by
  simp [takeMarkers]

@[simp] theorem takeLogical_still (l : Nat) (info : Bytes) : Still s (takeLogical l info s) := by
  unfold takeLogical
  split <;> simp

@[simp] theorem takePosition_still (k p : Nat) (amb : Bool) : Still s (takePosition k p amb s) := by
  simp [takePosition]

@[simp] theorem laneVerify_still (k : Nat) (cands : List Nat) : Still s (laneVerify k cands s) := by
  simp only [laneVerify]
  repeat' split
  all_goals simp

@[simp] theorem laneFalseLock_still (k : Nat) (ev : List Nat) : Still s (laneFalseLock k ev s) := by
  simp [laneFalseLock]

@[simp] theorem laneTie_still (k : Nat) (b1 : List (Nat × Nat)) : Still s (laneTie k b1 s) := by
  simp only [laneTie]
  repeat' split
  all_goals simp

@[simp] theorem laneReadmit_still (k : Nat) : Still s (laneReadmit k s) := by simp [laneReadmit]
@[simp] theorem acceptTrace_still (cls obj : Nat) (t : Bytes) : Still s (acceptTrace cls obj t s) := by
  simp [acceptTrace]
@[simp] theorem takeMultiframe_still (l : Nat) (omfi : Bool) (bs : Bytes) :
    Still s (takeMultiframe l omfi bs s) := by simp [takeMultiframe]

@[simp] theorem takeOtn_still (cls obj b : Nat) (info : Bytes) : Still s (takeOtn cls obj b info s) := by
  unfold takeOtn
  split
  · simp
  · split <;> simp

@[simp] theorem laneChange_still (cls obj b : Nat) (on : Bool) : Still s (laneChange cls obj b on s) := by
  simp [laneChange]

@[simp] theorem takeOh3_still (cls obj b : Nat) (info : Bytes) : Still s (takeOh3 cls obj b info s) := by
  unfold takeOh3
  repeat' split
  all_goals simp

@[simp] theorem laneDefect_still (cls obj b : Nat) (on : Bool) (info : Bytes) :
    Still s (laneDefect cls obj b on info s) := by simp [laneDefect]
@[simp] theorem unmask_still (e : Nat × RxState) : Still s (unmask s e) := by simp [unmask]
@[simp] theorem maskFrame_still : Still s (maskFrame s) := by simp [maskFrame]
@[simp] theorem putPtr_still (cls obj : Nat) (x : PtrState) : Still s (putPtr cls obj x s) := by
  simp [putPtr]

@[simp] theorem takePointers_still (cls obj : Nat) (info : Bytes) :
    Still s (takePointers cls obj info s) := by
  unfold takePointers
  split
  · simp
  · split <;> simp

@[simp] theorem takeH4_still (g : Nat) (info : Bytes) : Still s (takeH4 g info s) := by simp [takeH4]
@[simp] theorem takeStructure_still (obj : Nat) (info : Bytes) : Still s (takeStructure obj info s) := by
  simp [takeStructure]
@[simp] theorem labelSeen_still (cls obj : Nat) (info : Bytes) : Still s (labelSeen cls obj info s) := by
  simp [labelSeen]

@[simp] theorem takeLabel_still (cls obj : Nat) (info : Bytes) : Still s (takeLabel cls obj info s) := by
  simp only [takeLabel]
  repeat' split
  all_goals simp

@[simp] theorem takeRdiCode_still (obj : Nat) (on : Bool) (info : Bytes) :
    Still s (takeRdiCode obj on info s) := by simp [takeRdiCode]

@[simp] theorem pathDefect_still (cls obj b : Nat) (on : Bool) (info : Bytes) :
    Still s (pathDefect cls obj b on info s) := by
  unfold pathDefect
  repeat' split
  all_goals simp

@[simp] theorem berChange_still (cls obj n : Nat) (on : Bool) : Still s (berChange cls obj n on s) := by
  simp [berChange]

-- Machine/CarrierRows.lean.

@[simp] theorem putCar_still (c : Nat) (x : CarState) : Still s (putCar c x s) := by simp [putCar]
@[simp] theorem evalSig_still (c : Nat) : Still s (evalSig c s) := by simp [evalSig]
@[simp] theorem markPoint_still (c : Nat) : Still s (markPoint c s) := by simp [markPoint]
@[simp] theorem carDefect_still (c b : Nat) (on : Bool) : Still s (carDefect c b on s) := by
  simp [carDefect]
@[simp] theorem carTake_still (c p : Nat) (amb : Bool) : Still s (carTake c p amb s) := by simp [carTake]

@[simp] theorem carVerify_still (c : Nat) (cands : List (Nat × Bytes)) : Still s (carVerify c cands s) := by
  simp only [carVerify]
  repeat' split
  all_goals simp

@[simp] theorem carTie_still (c : Nat) (left : List Nat) : Still s (carTie c left s) := by
  simp only [carTie]
  repeat' split
  all_goals simp

@[simp] theorem carLose_still (c : Nat) (bar : Bool) : Still s (carLose c bar s) := by simp [carLose]
@[simp] theorem carFalseLock_still (c errs total : Nat) : Still s (carFalseLock c errs total s) := by
  simp [carFalseLock]
@[simp] theorem carBarLapse_still (c : Nat) : Still s (carBarLapse c s) := by simp [carBarLapse]

@[simp] theorem carInterwork_still (c : Nat) : Still s (carInterwork c s) := by
  simp only [carInterwork]
  repeat' split
  all_goals simp

@[simp] theorem carTribFails_still (c : Nat) : Still s (carTribFails c s) := by simp [carTribFails]
@[simp] theorem carChange_still (c b : Nat) (on : Bool) (ev : List Nat) : Still s (carChange c b on ev s) := by simp [carChange]
@[simp] theorem carSlip_still (c : Nat) (delete : Bool) : Still s (carSlip c delete s) := by
  simp [carSlip]

@[simp] theorem carSigExpiry_still (c : Nat) : Still s (carSigExpiry c s) := by
  simp only [carSigExpiry]
  repeat' split
  all_goals simp

@[simp] theorem carLoss_still (c : Nat) (ev : List Nat) : Still s (carLoss c ev s) := by simp [carLoss]
@[simp] theorem carMultiframe_still (c : Nat) (cas : Bool) (ev : List Nat) :
    Still s (carMultiframe c cas ev s) := by simp [carMultiframe]
@[simp] theorem carFrame_still : Still s (carFrame s) := by simp [carFrame]

-- Machine/Egress.lean.

@[simp] theorem genFrame_still : Still s (genFrame s) := by simp [genFrame]
@[simp] theorem checkBegin_still (c : Nat) : Still s (checkBegin c s) := by simp [checkBegin]
@[simp] theorem checkFrame_still (c : Nat) : Still s (checkFrame c s) := by simp [checkFrame]
@[simp] theorem parityFrame_still : Still s (parityFrame s) := by simp [parityFrame]

@[simp] theorem checkFrames_still (f : Nat → State → State) (s : State) (hf : ∀ c s, Still s (f c s)) :
    Still s (checkFrames f s) := by
  simp [checkFrames, hf]

@[simp] theorem egressSends_still (s : State) : Still s (egressSends s) := by
  unfold egressSends
  refine (foldl_still (fun s x => ?_) _ _).trans
    ((foldl_still (fun s x => ?_) _ _).trans (foldl_still (fun s x => ?_) _ _))
  · dsimp only
    split <;> simp
  · split <;> simp
  · dsimp only
    split <;> simp

@[simp] theorem egressFrame_still : Still s (egressFrame s) := by simp [egressFrame]

-- Machine/LineOut.lean.

@[simp] theorem lineParity_still : Still s (lineParity s) := by simp [lineParity]
@[simp] theorem groupTxFrame_still : Still s (groupTxFrame s) := by simp [groupTxFrame]
@[simp] theorem lineSends_still : Still s (lineSends s) := by simp [lineSends]

-- Machine/ReportRows.lean.

@[simp] theorem reportDefects_still : Still s (reportDefects s) := by simp [reportDefects]
@[simp] theorem switchEvent_still (x : Nat × Leg × Nat × FN) : Still s (switchEvent s x) := by
  simp [switchEvent]
@[simp] theorem reportSwitches_still : Still s (reportSwitches s) := by simp [reportSwitches]
@[simp] theorem gatherBlock_still (b : Nat) : Still s (gatherBlock s b) := by simp [gatherBlock]
@[simp] theorem gatherCore_still (n : Nat) : Still s (gatherCore s n) := by simp [gatherCore]
@[simp] theorem clearOvf_still : Still s (clearOvf s) := by simp [clearOvf]
@[simp] theorem gather_still : Still s (gather s) := by simp [gather]

@[simp] theorem prbsSync_still (u : Nat) (gain : Bool) (ev : List Bool) : Still s (prbsSync u gain ev s) := by
  simp only [prbsSync]
  repeat' split
  all_goals simp

@[simp] theorem prbsFrame_still : Still s (prbsFrame s) := by simp [prbsFrame]

-- Machine/ImageCmds.lean.

@[simp] theorem setImage_still (n : BitVec 3) : Still s (setImage n s) := by simp [setImage]
@[simp] theorem receive_still (p : Bytes) : Still s (receive p s) := by simp [receive]

@[simp] theorem verifyDone_still (tok : Option CmdTok) : Still s (verifyDone tok s) := by
  simp only [verifyDone]
  repeat' split
  all_goals simp

@[simp] theorem writeIntent_still : Still s (writeIntent s) := by simp [writeIntent]
@[simp] theorem updateRecord_still : Still s (updateRecord s) := by simp [updateRecord]
@[simp] theorem startUpdate_still (tok : CmdTok) (hold : Bool) : Still s (startUpdate tok hold s) := by
  simp [startUpdate]

@[simp] theorem endConfirm_still (st : Byte) : Still s (endConfirm st s) := by simp [endConfirm]
@[simp] theorem endTrial_still : Still s (endTrial s) := by simp [endTrial]
@[simp] theorem fallBack_still : Still s (fallBack s) := by simp [fallBack]
@[simp] theorem startCompaction_still : Still s (startCompaction s) := by simp [startCompaction]
@[simp] theorem beginCompaction_still : Still s (beginCompaction s) := by simp [beginCompaction]
@[simp] theorem startDomain_still (d : Nat) (t : DomState) : Still s (startDomain d t s) := by
  simp [startDomain]

-- Machine/Rings.lean.

@[simp] theorem drainHead_still : Still s (drainHead s) := by simp [drainHead]
@[simp] theorem fetch_still (s0 : State) : Still s0 (fetch s0) := by simp [fetch]

@[simp] theorem phaseTimeout_still : Still s (phaseTimeout s) := by
  unfold phaseTimeout
  split <;> simp

@[simp] theorem completeSched_still (x : Sched) : Still s (completeSched x s) := by
  unfold completeSched
  split <;> simp

@[simp] theorem writeCpl_still : Still s (writeCpl s) := by
  unfold writeCpl
  split <;> simp

@[simp] theorem putEvt_still (e : Evt) : Still s (putEvt e s) := by simp [putEvt]

@[simp] theorem writeEvt_still : Still s (writeEvt s) := by
  unfold writeEvt
  split
  · simp
  · split <;> simp

@[simp] theorem hostSlow_still : Still s (hostSlow s) := by simp [hostSlow]
@[simp] theorem noteRings_still : Still s (noteRings s) := by simp [noteRings]

@[simp] theorem doorbell_still (aligned : Bool) (v : Word32) (r : Ring) (inRange : Nat → Bool)
    (apply : BitVec 17 → State → State) (s : State) (happly : ∀ p s, Still s (apply p s)) :
    Still s (doorbell aligned v r inRange apply s) := by
  simp [doorbell, happly]

@[simp] theorem hostWrites_still (cells : List Host.Cell) : Still s (hostWrites cells s) := by
  simp [hostWrites]

-- Machine/Pcie.lean.

@[simp] theorem unmaskFunction_still : Still s (unmaskFunction s) := by simp [unmaskFunction]
@[simp] theorem enableMsix_still : Still s (enableMsix s) := by simp [enableMsix]
@[simp] theorem writeMsixCtrl_still (v : Word32) : Still s (writeMsixCtrl v s) := by simp [writeMsixCtrl]
@[simp] theorem writeBar_still (k : Nat) (v : Word32) : Still s (writeBar k v s) := by simp [writeBar]
@[simp] theorem putPcie_still (f : PcieSt → PcieSt) : Still s (putPcie f s) := by simp [putPcie]
@[simp] theorem writeConfigReg_still (off : Nat) (v : Word32) : Still s (writeConfigReg off v s) := by
  simp [writeConfigReg]
@[simp] theorem writeConfig_still (off : Nat) (v : Word32) : Still s (writeConfig off v s) := by
  simp [writeConfig]

-- Machine/Regs.lean.

@[simp] theorem putRing_still (r : RingId) (x : Ring) : Still s (putRing r x s) := by
  unfold putRing
  split <;> simp

@[simp] theorem badWrite_still : Still s (badWrite s) := by simp [badWrite]

@[simp] theorem rwl_still (change : Bool) (set : State → State) (s : State) (hset : ∀ s, Still s (set s)) :
    Still s (rwl change set s) := by
  simp [rwl, hset]

@[simp] theorem writeBase_still (r : RingId) (v : Word32) : Still s (writeBase r v s) := by
  simp [writeBase]
@[simp] theorem enableRing_still (r : RingId) : Still s (enableRing r s) := by simp [enableRing]
@[simp] theorem writeRingCtrl_still (r : RingId) (v : Word32) : Still s (writeRingCtrl r v s) := by
  simp [writeRingCtrl]

@[simp] theorem writeRing_still (r : RingId) (rel : Nat) (v : Word32) :
    Still s (writeRing r rel v s) := by
  unfold writeRing
  split <;> simp

@[simp] theorem dmaPut_still (n : Nat) (f : DmaSet → DmaSet) : Still s (dmaPut n f s) := by simp [dmaPut]

@[simp] theorem writeDma_still (n rel : Nat) (v : Word32) : Still s (writeDma n rel v s) := by
  unfold writeDma
  split
  · simp
  · split <;> simp

@[simp] theorem writePmc_still (i rel : Nat) (v : Word32) : Still s (writePmc i rel v s) := by
  unfold writePmc
  split <;> simp

@[simp] theorem writeHostCh_still (v : Word32) : Still s (writeHostCh v s) := by simp [writeHostCh]
@[simp] theorem writeCtrCtrl_still (v : Word32) : Still s (writeCtrCtrl v s) := by simp [writeCtrCtrl]
@[simp] theorem unmaskVector_still : Still s (unmaskVector s) := by simp [unmaskVector]
@[simp] theorem putMsixAddr_still (a : Word64) : Still s (putMsixAddr a s) := by simp [putMsixAddr]
@[simp] theorem writeMsix_still (off : Nat) (v : Word32) : Still s (writeMsix off v s) := by
  simp [writeMsix]

@[simp] theorem writeInService_still (off : Nat) (v : Word32) : Still s (writeInService off v s) := by
  unfold writeInService
  split <;> simp

@[simp] theorem dropHeld_still (off : Nat) : Still s (dropHeld off s) := by
  unfold dropHeld
  split <;> simp

@[simp] theorem writeReg_still (off : Nat) (v : Word32) : Still s (writeReg off v s) := by simp [writeReg]

-- Machine/Link.lean.

@[simp] theorem perstOn_still (old : State) : Still old (perstOn old) := by simp [perstOn]

-- Machine/EngineRows.lean.

@[simp] theorem putCluster_still (n : Nat) (c : ClusterSt) : Still s (putCluster n c s) := by
  simp [putCluster]
@[simp] theorem faultCluster_still (n : Nat) : Still s (faultCluster n s) := by simp [faultCluster]
@[simp] theorem engineOverrun_still (e : Nat) : Still s (engineOverrun e s) := by simp [engineOverrun]
@[simp] theorem restartObjects_still (cluster : Nat) (mine : Nat → Bool) :
    Still s (restartObjects cluster mine s) := by simp [restartObjects]
@[simp] theorem restartCounted_still (cluster : Nat) (mine : Nat → Bool) :
    Still s (restartCounted cluster mine s) := by simp [restartCounted]

@[simp] theorem switchBank_still (n : Nat) (trial : Bool) : Still s (switchBank n trial s) := by
  simp only [switchBank]
  repeat' split
  all_goals simp

@[simp] theorem bankSwitch_still (n : Nat) : Still s (bankSwitch n s) := by
  unfold bankSwitch
  split <;> simp

@[simp] theorem internalCause_still (cluster : Option Nat) : Still s (internalCause cluster s) := by
  unfold internalCause
  split <;> simp

@[simp] theorem endActivate_still (st : Byte) (fs : List Field) : Still s (endActivate st fs s) := by
  simp [endActivate]
@[simp] theorem endFallback_still : Still s (endFallback s) := by simp [endFallback]
@[simp] theorem backOut_still (cluster : Option Nat) : Still s (backOut cluster s) := by simp [backOut]

@[simp] theorem bankReadyTimeout_still (n : Nat) : Still s (bankReadyTimeout n s) := by
  unfold bankReadyTimeout
  split <;> simp

@[simp] theorem badWord_still (n addr : Nat) : Still s (badWord n addr s) := by simp [badWord]
@[simp] theorem loseItem_still (w : MemRef) : Still s (loseItem w s) := by simp [loseItem]

@[simp] theorem eccError_still (w : MemRef) : Still s (eccError w s) := by
  unfold eccError
  split <;> simp

@[simp] theorem scrubEngine_still (n : Nat) : Still s (scrubEngine n s) := by simp [scrubEngine]
@[simp] theorem scrubMb_still (b : Nat) : Still s (scrubMb b s) := by simp [scrubMb]
@[simp] theorem scrubCm_still (b : Nat) : Still s (scrubCm b s) := by simp [scrubCm]

@[simp] theorem scrub_still (w : MemRef) : Still s (scrub w s) := by
  unfold scrub
  split <;> simp

@[simp] theorem repairBank_still (n : Nat) : Still s (repairBank n s) := by simp [repairBank]

@[simp] theorem rewriteItem_still (w : MemRef) : Still s (rewriteItem w s) := by
  unfold rewriteItem
  split
  · simp
  · split <;> simp

@[simp] theorem dropEngineBits_still (n : Nat) : Still s (dropEngineBits n s) := by simp [dropEngineBits]

@[simp] theorem loseBank_still (b : Nat) : Still s (loseBank b s) := by
  simp only [loseBank]
  repeat' split
  all_goals simp

@[simp] theorem resetCore_still (n : Nat) : Still s (resetCore n s) := by simp [resetCore]
@[simp] theorem loseDomain_still (d : Nat) : Still s (loseDomain d s) := by simp [loseDomain]
@[simp] theorem freshDomain_still (d : Nat) : Still s (freshDomain d s) := by simp [freshDomain]
@[simp] theorem endDomain_still (d : Nat) (st : Byte) : Still s (endDomain d st s) := by simp [endDomain]
@[simp] theorem reachDomain_still (d : Nat) (t : DomState) : Still s (reachDomain d t s) := by
  simp [reachDomain]

@[simp] theorem domainOn_still (d : Nat) : Still s (domainOn d s) := by
  unfold domainOn
  split <;> simp

@[simp] theorem domainFrame_still : Still s (domainFrame s) := by simp [domainFrame]
@[simp] theorem domainFails_still (d : Nat) : Still s (domainFails d s) := by simp [domainFails]

-- Machine/UpdateRows.lean.

@[simp] theorem endCompact_still : Still s (endCompact s) := by simp [endCompact]
@[simp] theorem reprovision_still : Still s (reprovision s) := by simp [reprovision]

@[simp] theorem compactionDone_still : Still s (compactionDone s) := by
  unfold compactionDone
  split <;> simp

@[simp] theorem journalFails_still : Still s (journalFails s) := by simp [journalFails]
@[simp] theorem writeSpares_still : Still s (writeSpares s) := by simp [writeSpares]
@[simp] theorem restartMc3_still : Still s (restartMc3 s) := by simp [restartMc3]

@[simp] theorem handover_still : Still s (handover s) := by
  unfold handover
  split <;> simp

@[simp] theorem handoverTimeout_still : Still s (handoverTimeout s) := by
  unfold handoverTimeout
  split <;> simp

@[simp] theorem activationDone_still : Still s (activationDone s) := by simp [activationDone]

@[simp] theorem microcode_still : Still s (microcode s) := by
  unfold microcode
  repeat' split
  all_goals simp

@[simp] theorem returnFirmware_still : Still s (returnFirmware s) := by
  simp only [returnFirmware]
  repeat' split
  all_goals simp

@[simp] theorem updateFrame_still : Still s (updateFrame s) := by
  simp only [updateFrame]
  repeat' split
  all_goals simp

@[simp] theorem challenge_still : Still s (challenge s) := by simp [challenge]
@[simp] theorem noteKeys_still : Still s (noteKeys s) := by simp [noteKeys]
@[simp] theorem unlock_still : Still s (unlock s) := by simp [unlock]

@[simp] theorem respond_still (vKey vSig cKey cSig : Bytes) :
    Still s (respond vKey vSig cKey cSig s) := by
  unfold respond
  split <;> simp

-- Machine/ResetRows.lean.

@[simp] theorem powerOn_still (rising : Bool) (pins : BitVec 3) : Still s (powerOn rising pins s) := by
  simp [powerOn]
@[simp] theorem coldPin_still (low : Bool) : Still s (coldPin low s) := by simp [coldPin]
@[simp] theorem warmPin_still (low : Bool) : Still s (warmPin low s) := by simp [warmPin]
@[simp] theorem readHottest_still (tenths : Int) : Still s (readHottest tenths s) := by simp [readHottest]
@[simp] theorem thermal_still : Still s (thermal s) := by simp [thermal]
@[simp] theorem thermalWarn_still (tenths : Int) : Still s (thermalWarn tenths s) := by simp [thermalWarn]
@[simp] theorem powerFail_still (src : PfwSource) : Still s (powerFail src s) := by simp [powerFail]
@[simp] theorem pfwClear_still : Still s (pfwClear s) := by simp [pfwClear]

-- Machine/Pmbus.lean.

@[simp] theorem i2cRead_still (code : Byte) (bs : Bytes) : Still s (i2cRead code bs s) := by
  simp [i2cRead]
@[simp] theorem setCml_still (b : Nat) : Still s (setCml b s) := by simp [setCml]

@[simp] theorem i2cWrite_still (act : State → State) (s : State) (hact : ∀ s, Still s (act s)) : Still s (i2cWrite act s) := by
  simp [i2cWrite, hact]

@[simp] theorem clearFaults_still : Still s (clearFaults s) := by simp [clearFaults]

@[simp] theorem withCurrent_still (f : Nat → State → State) (s : State) (hf : ∀ n s, Still s (f n s)) :
    Still s (withCurrent f s) := hf ..

@[simp] theorem mfrReset_still (pec : Pec) (key : Word32) : Still s (mfrReset pec key s) := by
  simp [mfrReset]

-- Machine/Frame.lean.

@[simp] theorem foldl_stepTod_still (l : List (FN × FN × Word32)) (s : State) :
    Still s (l.foldl (fun s x => stepTod x.2.1 x.2.2 s) s) := by
  induction l generalizing s with
  | nil => exact ⟨rfl, rfl⟩
  | cons x l ih => simp only [List.foldl_cons, ih, stepTod_still, Still, and_self]

@[simp] theorem todFrame_still (s : State) : Still s (todFrame s) := by
  unfold todFrame
  split
  · exact ⟨rfl, rfl⟩
  · exact foldl_stepTod_still ..

@[simp] theorem tickReset_still : Still s (tickReset s) := by simp [tickReset]
@[simp] theorem distrustSecond_still : Still s (distrustSecond s) := by simp [distrustSecond]
@[simp] theorem secondFrame_still : Still s (secondFrame s) := by simp [secondFrame]
@[simp] theorem relayFrame_still : Still s (relayFrame s) := by simp [relayFrame]
@[simp] theorem pruneMoved_still : Still s (pruneMoved s) := by simp [pruneMoved]

@[simp] theorem changeMode_still (m : Mode) : Still s (changeMode m s) := by
  unfold changeMode
  split <;> simp

@[simp] theorem modeFrame_still : Still s (modeFrame s) := by
  unfold modeFrame
  split <;> simp

@[simp] theorem yieldFrame_still (m : State) : Still s (yieldFrame m s) := by simp [yieldFrame]
@[simp] theorem alignFrame_still : Still s (alignFrame s) := by simp [alignFrame]

@[simp] theorem solverFrame_still : Still s (solverFrame s) := by
  unfold solverFrame
  split <;> simp

@[simp] theorem bandFrame_still : Still s (bandFrame s) := by simp [bandFrame]
@[simp] theorem sendVbl_still (m : Nat × Byte × Bytes) : Still s (sendVbl s m) := by simp [sendVbl]
@[simp] theorem vblSends_still (l : Nat) : Still s (vblSends s l) := by simp [vblSends]
@[simp] theorem mateSends_still : Still s (mateSends s) := by simp [mateSends]
@[simp] theorem bulkSends_still : Still s (bulkSends s) := by simp [bulkSends]
@[simp] theorem sendStatus_still (b : Bool) : Still s (sendStatus b s) := by simp [sendStatus]
@[simp] theorem statusSends_still : Still s (statusSends s) := by simp [statusSends]
@[simp] theorem recordSends_still : Still s (recordSends s) := by simp [recordSends]
@[simp] theorem frameSends_still : Still s (frameSends s) := by simp [frameSends]
@[simp] theorem layerFrame_still : Still s (layerFrame s) := by simp [layerFrame]

@[simp] theorem runStep_still (x : StartStep) (due : State → Bool) (f : State → State) (s : State)
    (hf : ∀ s, Still s (f s)) : Still s (runStep x due f s) := by
  simp [runStep, hf]

@[simp] theorem holdOffEnds_still (t : Tier) (i : Nat) (l : Leg) : Still s (holdOffEnds t i l s) := by
  unfold holdOffEnds
  split <;> simp

@[simp] theorem wtrEnds_still (t : Tier) (i : Nat) : Still s (wtrEnds t i s) := by
  simp only [wtrEnds]
  repeat' split
  all_goals simp

end

end Sys2Proof.Proofs
end

section
/-! The operations that write the audit log or burn a fuse: one lemma for each, in the order of the model's files. -/
namespace Sys2Proof.Proofs
open Machine

/-- Nothing that `Forward` speaks of has been taken back since `b`. -/
@[simp] abbrev Ahead (b s : State) : Prop := FusesKept b.fuse s.fuse ∧ b.bel.auditSeq ≤ s.bel.auditSeq

@[simp] theorem fusesKept_refl (f : FuseSt) : FusesKept f f := ⟨Nat.le_refl _, id, id, id⟩

theorem fusesKept_trans {f g k : FuseSt} (h : FusesKept f g) (h' : FusesKept g k) : FusesKept f k := by
  obtain ⟨hr, hp, hf, ht⟩ := h
  obtain ⟨hr', hp', hf', ht'⟩ := h'
  exact ⟨Nat.le_trans hr hr', hp' ∘ hp, hf' ∘ hf, ht' ∘ ht⟩

@[simp] theorem fusesKept_ite (f : FuseSt) (c : Prop) [Decidable c] (x y : FuseSt) :
    FusesKept f (if c then x else y) ↔ if c then FusesKept f x else FusesKept f y := by
  split <;> rfl

@[simp] theorem le_ite_iff (n : Nat) (c : Prop) [Decidable c] (x y : Nat) :
    n ≤ (if c then x else y) ↔ if c then n ≤ x else n ≤ y := by
  split <;> rfl

section
variable {b s : State}

theorem Ahead.still {t : State} (h : Ahead b s) (hs : Still s t) : Ahead b t := by
  simpa only [Ahead, hs.1, hs.2] using h

@[simp] theorem foldl_ahead {α : Type} {f : State → α → State} (hf : ∀ s x, Ahead b s → Ahead b (f s x)) (l : List α)
    (h : Ahead b s) : Ahead b (l.foldl f s) :=
  List.foldlRecOn l f (motive := Ahead b) h fun _ ht x _ => hf _ x ht

variable (h : Ahead b s)
include h

-- Machine/Ops.lean.

@[simp] theorem auditAdd_ahead (a : Audit) : Ahead b (auditAdd a s) := by
  have hle : b.bel.auditSeq ≤ s.bel.auditSeq + 1 := Nat.le_succ_of_le h.2
  simp [auditAdd, h, hle]

-- Machine/Operands.lean.

theorem withRead_ahead {tok : CmdTok} {d : BitVec 128} {ok : Nat → Bool} {fs : Byte → List Field} {go : Bytes → State → State}
    (hgo : ∀ bs t, Ahead b t → Ahead b (go bs t)) : Ahead b (withRead tok d ok fs go s) := by
  unfold withRead
  split
  · simp [h]
  · exact hgo _ _ h

-- Machine/Selectors.lean.

@[simp] theorem removeExt_ahead (t : Tier) (i : Nat) (reported : Bool) : Ahead b (removeExt t i reported s) := by
  unfold removeExt
  split <;> simp [h]

@[simp] theorem stepSel_ahead (m : State) (t : Tier) (x : Nat × Word64) : Ahead b (stepSel m t s x) := by
  simp only [stepSel]
  repeat' split
  all_goals simp [h]

@[simp] theorem evalSelectors_ahead (m : State) : Ahead b (evalSelectors m s) := by
  have hall : ∀ t (l : List (Nat × Word64)) s, Ahead b s → Ahead b (l.foldl (stepSel m t) s) :=
    fun t l s hs => foldl_ahead (fun _ _ hs => stepSel_ahead hs ..) l hs
  unfold evalSelectors
  dsimp only
  split
  · exact hall _ _ _ (hall _ _ _ (hall _ _ _ h))
  · exact hall _ _ _ (hall _ _ _ h)

@[simp] theorem swapTier_ahead (old : Page) (t : Tier) : Ahead b (swapTier old t s) := by
  unfold swapTier
  refine foldl_ahead (fun s x hs => ?_) _ h
  dsimp only
  repeat' split
  all_goals simp [hs]

@[simp] theorem swapSelectors_ahead (old : Page) : Ahead b (swapSelectors old s) :=
  swapTier_ahead (swapTier_ahead (swapTier_ahead h _ _) _ _) _ _

-- Machine/Commit.lean.

@[simp] theorem liveChanged_ahead (before : State) : Ahead b (liveChanged before s) := by
  simp [liveChanged, h]

@[simp] theorem swapPage_ahead (j : CommitJob) : Ahead b (swapPage s j) := by
  simp [swapPage, h]

@[simp] theorem commitWrites_ahead (c : LateCommit) : Ahead b (commitWrites c s) := by
  simp [commitWrites, h]

@[simp] theorem recordSwap_ahead (j : CommitJob) : Ahead b (recordSwap j s) := by
  simp [recordSwap, h]

-- Machine/Effects.lean.

@[simp] theorem effectDone_ahead (own : Bool) (op : Byte) : Ahead b (effectDone own op s) := by
  simp [effectDone, h]

@[simp] theorem extDone_ahead (own : Bool) (kind idx : Nat) (req : Byte) : Ahead b (extDone own kind idx req s) := by
  simp [extDone, h]

@[simp] theorem applyExt_ahead (own : Bool) (o : ProtObj) (req : Byte) (chan : Nat) : Ahead b (applyExt own o req chan s) := by
  cases o <;> simp [applyExt, h]

@[simp] theorem applyEffect_ahead (own : Bool) (e : Effect) : Ahead b (applyEffect own e s) := by
  cases e <;> simp [applyEffect, h]

@[simp] theorem atOnceOrBoundary_ahead (tok : CmdTok) (e : Effect) (r : List Field) :
    Ahead b (atOnceOrBoundary tok e r s) := by
  simp [atOnceOrBoundary, h]

end

end Sys2Proof.Proofs
end

section
/-! The same of the protocols, the swap of a page, the release of a reset, an image and the copies of a page. -/
namespace Sys2Proof.Proofs
open Machine

section
variable {b s : State} (h : Ahead b s)
include h

-- Machine/Aps.lean.

@[simp] theorem outrankExt_ahead (ring : Bool) (g side : Nat) (gone : Bool) (st : Nat) :
    Ahead b (outrankExt ring g side gone st s) := by
  unfold outrankExt
  dsimp only
  split <;> simp [h]

@[simp] theorem linearStep_ahead (x : Nat × LinearCfg) : Ahead b (linearStep s x) := by
  simp [linearStep, h]

@[simp] theorem ringStep_ahead (x : Nat × RingCfg) : Ahead b (ringStep s x) := by
  simp [ringStep, h]

@[simp] theorem apsFrame_ahead : Ahead b (apsFrame s) := by
  have hlinear := fun l {t} (ht : Ahead b t) => foldl_ahead (f := linearStep) (fun _ x hs => linearStep_ahead hs x) l ht
  have hring := fun l {t} (ht : Ahead b t) => foldl_ahead (f := ringStep) (fun _ x hs => ringStep_ahead hs x) l ht
  have hnext : Ahead b (s.prot.rings.foldl (apsNext true) (s.prot.linear.foldl (apsNext false) s)) := by simp [h]
  simp [apsFrame, hring, hlinear, hnext]

-- Machine/LaneCmds.lean and Machine/CommitRows.lean.

@[simp] theorem configureBody_ahead (c : CmdEntry) (tok : CmdTok) : Ahead b (configureBody c tok s) := by
  unfold configureBody
  dsimp only
  split
  · simp [h]
  · split
    · simp [h]
    · split
      · refine withRead_ahead h fun bs t ht => ?_
        split <;> simp [ht]
      · simp [h]

@[simp] theorem commitSwap_ahead : Ahead b (commitSwap s) := by
  unfold commitSwap
  split
  next => exact h
  next j hj =>
    have hpage := swapPage_ahead h j
    dsimp only
    split
    · exact h
    · have hrest : ∀ t, Ahead b t → Ahead b (evalSelectors (tapCheck s (recordSwap j t)) (tapCheck s (recordSwap j t))) :=
        fun t ht => by simp [ht]
      refine (hrest _ ?_).still (afterSwap_still ..)
      split <;> simp [hpage]

-- Machine/Release.lean.

theorem raiseRollback_ahead : Ahead b (raiseRollback s) := by
  unfold raiseRollback
  dsimp only
  split
  next hlt =>
    obtain ⟨-, hlt⟩ := hlt
    exact ⟨fusesKept_trans h.1 ⟨Nat.le_of_lt hlt, id, id, id⟩, h.2⟩
  next => exact h

@[simp] theorem chooseImage_ahead : Ahead b (chooseImage s) := by
  have hr := raiseRollback_ahead h
  simp only [chooseImage]
  repeat' split
  all_goals simp [hr]

@[simp] theorem lateEvents_ahead : Ahead b (lateEvents s) := by
  have hcommits := fun l {t} (ht : Ahead b t) =>
    foldl_ahead (f := fun s c => commitWrites c s) (fun _ c hs => commitWrites_ahead hs c) l ht
  simp [lateEvents, hcommits, h]

@[simp] theorem enterMode_ahead (m : Mode) (sync : BitVec 3) : Ahead b (enterMode m sync s) := by
  simp [enterMode, h]

@[simp] theorem releaseSafe_ahead : Ahead b (releaseSafe s) := by
  simp [releaseSafe, h]

@[simp] theorem selfRestore_ahead (g : JFound) : Ahead b (selfRestore g s) := by
  simp [selfRestore, h]

@[simp] theorem adoptJournal_ahead (g : JFound) : Ahead b (adoptJournal g s) := by
  simp [adoptJournal, h]

@[simp] theorem decideMode_ahead : Ahead b (decideMode s) := by
  have hclear : Ahead b (removeTests s) := by simp [h]
  unfold decideMode
  dsimp only
  split
  next => simp [h]
  next => simp [h]
  next g _ =>
    have hjrn := adoptJournal_ahead hclear g
    split
    · simp [hjrn]
    · split
      · refine enterMode_ahead (selfRestore_ahead ?_ g) ..
        split <;> simp [hjrn]
      · simp [hjrn]

@[simp] theorem afterRom_ahead : Ahead b (afterRom s) := by
  simp [afterRom, h]

@[simp] theorem entryFrame_ahead : Ahead b (entryFrame s) := by
  simp [entryFrame, h]

@[simp] theorem stepRom_ahead : Ahead b (stepRom s) := by
  simp [stepRom, h]

@[simp] theorem stepXo_ahead : Ahead b (stepXo s) := by
  simp [stepXo, h]

@[simp] theorem stepFuse_ahead : Ahead b (stepFuse s) := by
  simp [stepFuse, h]

@[simp] theorem optionTry_ahead : Ahead b (optionTry s) := by
  unfold optionTry
  split <;> simp [h]

@[simp] theorem stepOption_ahead : Ahead b (stepOption s) := by
  simp [stepOption, h]

@[simp] theorem stepTrim_ahead : Ahead b (stepTrim s) := by
  simp [stepTrim, h]

@[simp] theorem coldRelease_ahead : Ahead b (coldRelease s) := by
  simp [coldRelease, h]

@[simp] theorem warmRelease_ahead : Ahead b (warmRelease s) := by
  simp [warmRelease, h]

-- Machine/ImageCmds.lean.

@[simp] theorem lifecycleField_ahead (p : Bytes) : Ahead b (lifecycleField p s) := by
  have hburnt : ∀ x, FusesKept b.fuse { s.fuse with custHash := x, field := true } :=
    fun x => fusesKept_trans h.1 ⟨Nat.le_refl _, id, fun _ => rfl, id⟩
  simp [lifecycleField, hburnt, h]

@[simp] theorem retire_ahead : Ahead b (retire s) := by
  have hburnt : FusesKept b.fuse { s.fuse with retired := true } :=
    fusesKept_trans h.1 ⟨Nat.le_refl _, id, id, fun _ => rfl⟩
  simp [retire, hburnt, h]

@[simp] theorem activate_ahead (tok : CmdTok) (hold : Bool) : Ahead b (activate tok hold s) := by
  simp only [activate]
  split <;> simp [h]

-- Machine/TwinRows.lean and Machine/GroupRows.lean.

@[simp] theorem putPage_ahead (p : Page) (fp : Word64) : Ahead b (putPage p fp s) := by
  simp [putPage, h]

@[simp] theorem pageRecord_ahead (kind : Nat) : Ahead b (pageRecord kind s) := by
  simp [pageRecord, h]

@[simp] theorem installImage_ahead : Ahead b (installImage s) := by
  unfold installImage
  split <;> simp [h]

@[simp] theorem enterSync_ahead : Ahead b (enterSync s) := by
  simp [enterSync, h]

@[simp] theorem forcedTakeover_ahead : Ahead b (forcedTakeover s) := by
  unfold forcedTakeover
  split
  · exact h
  · dsimp only
    split
    · exact h
    · split <;> simp [h]

@[simp] theorem pageRestore_ahead : Ahead b (pageRestore s) := by
  unfold pageRestore
  repeat' split
  all_goals simp [h]

@[simp] theorem putRecord_ahead (c : Cfg) (p : Option Page) (fp : Word64) : Ahead b (putRecord c p fp s) := by
  cases p <;> simp [putRecord, h]

-- Machine/HostRows.lean.

@[simp] theorem putInForce_ahead (x : Sched) : Ahead b (putInForce x s).2 := by
  unfold putInForce
  split <;> simp [h]

@[simp] theorem endSched_ahead (x : Sched) : Ahead b (endSched x s) := by
  unfold endSched
  dsimp only
  split <;> simp [h]

@[simp] theorem waitingDone_ahead (i : Nat) : Ahead b (waitingDone i s) := by
  unfold waitingDone
  repeat' split
  all_goals simp [h]

-- Machine/UpdateRows.lean.

@[simp] theorem confirmImage_ahead : Ahead b (confirmImage s) := by
  have hr := fun {t} (ht : Ahead b t) => raiseRollback_ahead ht
  simp [confirmImage, hr, h]

@[simp] theorem safeEntry_ahead : Ahead b (safeEntry s) := by
  simp [safeEntry, h]

end

section
variable {b : State}

theorem applyLater_ahead (rs : List (JRecord × List StagedWrite)) {s : State} (h : Ahead b s) : Ahead b (applyLater rs s) := by
  induction rs generalizing s with
  | nil => exact h
  | cons x rs ih =>
    unfold applyLater
    dsimp only
    split
    · simp [h]
    · refine ih ?_
      split <;> simp [h]

theorem groupApply_apply_ahead (rs : List JRecord) {s : State} (h : Ahead b s) : Ahead b (groupApply.apply rs s) := by
  induction rs generalizing s with
  | nil => exact h
  | cons r rs ih =>
    have hput := putRecord_ahead h r.cfg r.page r.fp
    unfold groupApply.apply
    dsimp only
    split
    · exact hput
    · exact ih hput

theorem dueEffect_ahead (fn : FN) (x : Sched) {a : List Sched × State} (h : Ahead b a.2) : Ahead b (dueEffect fn a x).2 := by
  unfold dueEffect
  split
  · exact putInForce_ahead h x
  · exact h

theorem dueEffects_ahead (fn : FN) (xs : List Sched) {a : List Sched × State} (h : Ahead b a.2) :
    Ahead b (xs.foldl (dueEffect fn) a).2 :=
  List.foldlRecOn xs (dueEffect fn) (motive := fun y => Ahead b y.2) h fun _ hy x _ => dueEffect_ahead fn x hy

variable {s : State} (h : Ahead b s)
include h

@[simp] theorem resyncInstall_ahead : Ahead b (resyncInstall s) := by
  have hlater := applyLater_ahead s.twin.later h
  unfold resyncInstall
  dsimp only
  split
  · exact h
  · refine enterSync_ahead ?_
    simp [hlater, h]

@[simp] theorem groupApply_ahead : Ahead b (groupApply s) := by
  unfold groupApply
  split
  · exact h
  · split
    · simp [h]
    · exact groupApply_apply_ahead _ h

@[simp] theorem dueFrame_ahead : Ahead b (dueFrame s) :=
  dueEffects_ahead (a := ([], s)) s.clk.fn s.host.sched h

-- Machine/Frame.lean.

@[simp] theorem selectorFrame_ahead (m : State) : Ahead b (selectorFrame m s) := by
  simp [selectorFrame, h]

@[simp] theorem effectFrame_ahead (m : State) : Ahead b (effectFrame m s) := by
  simp [effectFrame, h]

@[simp] theorem reportFrame_ahead : Ahead b (reportFrame s) := by
  simp [reportFrame, h]

@[simp] theorem beginFrame_ahead : Ahead b (beginFrame s) := by
  have hlayers : ∀ m t, Ahead b t → Ahead b (apsFrame (layerFrame (selectorFrame m t))) := fun m t ht => by simp [ht]
  have hrest : ∀ m t, Ahead b t →
      Ahead b (reportFrame (alignFrame (solverFrame (apsFrame (layerFrame (selectorFrame m t)))))) :=
    fun m t ht => by simp [hlayers m t ht]
  simp [beginFrame, hrest, h]

@[simp] theorem frameStart_ahead : Ahead b (frameStart s) := by
  simp [frameStart, h]

end

end Sys2Proof.Proofs
end

section
/-! Every row goes forward, and with it every step. -/
namespace Sys2Proof.Proofs
open Machine

section
variable {b s : State}

theorem Ahead.refl (s : State) : Ahead s s := ⟨fusesKept_refl _, Nat.le_refl _⟩

theorem runCmd_ahead {op : Byte} {row : Bool} {c : CmdEntry} {k : Checks} {body : CmdTok → State → State} (h : Ahead b s)
    (hb : ∀ tok t, Ahead b t → Ahead b (body tok t)) (hw : ∀ t, k.hold = some t → Ahead b t) :
    Ahead b (runCmd op row c k body s) := by
  have hbody : ∀ fs, Ahead b (drainBad s fs) := fun fs => by simp [h]
  unfold runCmd
  split
  · exact h
  · split
    · exact h
    · split
      · exact h
      · dsimp only
        split
        · simp [h]
        · split
          · exact h
          · split
            · exact hw _ ‹_›
            · simp [hb, h]

/-- The row answers a next state that takes nothing back. -/
def NextAhead (s : State) (o : Host.Outcome State Fault Refusal) : Prop := ∃ t, o = .next t ∧ Ahead s t

theorem finish_ahead {t : State} (h : Ahead b t) : NextAhead b (finish s t) :=
  ⟨_, rfl, h.still (irqEdge_still ..)⟩

/-- A command whose work is done at once goes forward where its body does. -/
theorem finish_runCmd_ahead {op : Byte} {row : Bool} {c : CmdEntry} {k : Checks} {body : CmdTok → State → State}
    (hk : k.hold = none) (hb : ∀ tok t, Ahead s t → Ahead s (body tok t)) : NextAhead s (finish s (runCmd op row c k body s)) :=
  finish_ahead (runCmd_ahead (.refl s) hb (by simp [hk]))

theorem finish_still {t : State} (h : Still s t) : NextAhead s (finish s t) := finish_ahead ((Ahead.refl s).still h)

theorem finish_runCmd_still {op : Byte} {row : Bool} {c : CmdEntry} {k : Checks} {body : CmdTok → State → State}
    (hk : k.hold = none) (hb : ∀ tok t, Still t (body tok t)) : NextAhead s (finish s (runCmd op row c k body s)) :=
  finish_still (runCmd_still _ _ _ _ _ _ hb (by simp [hk]))

end

theorem routeHold_still {s t : State} {c : CmdEntry} (h : routeHold s c = some t) : Still s t := by
  unfold routeHold at h
  split at h
  · cases h
  · split at h
    · cases h; exact ⟨rfl, rfl⟩
    · split at h
      · cases h; exact ⟨rfl, rfl⟩
      · cases h

theorem complete_still (tok : CmdTok) (st obj : Byte) (r : Word64) (s : State) : Still s (complete tok st obj r s) := ⟨rfl, rfl⟩

theorem todSet_ahead (c : CmdEntry) (s : State) : NextAhead s (exec (.todSet c) s) := by
  refine finish_runCmd_still rfl fun tok s => ?_
  extract_lets sec ns named fn ahead r
  split
  · exact ⟨rfl, rfl⟩
  · split
    · exact ⟨rfl, rfl⟩
    · split
      · exact ⟨rfl, rfl⟩
      · exact (stepTod_still ..).trans (complete_still ..)

theorem exec_command_ahead {c : Instr} {r : RingRow} (hr : ringRow c = some r) (s : State) : NextAhead s (exec c s) := by
  cases c <;> cases hr
  case routeCheck =>
    exact finish_still (runCmd_still _ _ _ _ _ _ (fun _ _ => routeBody_still ..) fun _ => routeHold_still)
  case laneConfigConfigure => exact finish_runCmd_ahead rfl fun tok t ht => configureBody_ahead ht ..
  case portConfigBind | portConfigMonitor | portConfigUnbind | portConfigTrace | prbsConfig =>
    exact finish_runCmd_ahead rfl fun tok t ht => by simp [ht]
  case imageActivate => exact finish_runCmd_ahead rfl fun tok t ht => by split <;> simp [ht]
  case vblRxBuffer | pmConfigPostBuffer =>
    refine finish_runCmd_still rfl fun tok s => ?_
    split
    · exact ⟨rfl, rfl⟩
    · split <;> simp
  case todSet => exact todSet_ahead ..
  all_goals exact finish_runCmd_still rfl (by simp)

end Sys2Proof.Proofs
end

section
/-! The happenings go forward, and with them every row and every step. -/
namespace Sys2Proof.Proofs
open Machine

theorem runStep_ahead {b s : State} (x : StartStep) (due : State → Bool) {f : State → State} (h : Ahead b s)
    (hf : ∀ t, Ahead b t → Ahead b (f t)) : Ahead b (runStep x due f s) := by
  have hdone : Ahead b (stepDone x (if due s then f s else s)) := by
    split
    · exact (hf s h).still (stepDone_still ..)
    · exact h.still (stepDone_still ..)
  unfold runStep
  split
  · exact h
  · dsimp only
    generalize stepDone x (if due s then f s else s) = u at hdone ⊢
    split
    · exact hdone.still (frameSends_still u)
    · exact hdone

theorem readTrim_ahead {b s : State} (h : Ahead b s) (ok : Bool) : Ahead b (readTrim ok s) := h

theorem exec_happening_ahead {c : Instr} (hr : ringRow c = none) (s : State) : NextAhead s (exec c s) := by
  have h : Ahead s s := .refl s
  cases c <;> cases hr
  case msixUnmask op => cases op <;> exact finish_still (by simp)
  case linkUnavailable why => cases why <;> exact finish_still (by simp)
  case linkRestored why => cases why <;> exact finish_still (by simp)
  case mateLinkDown => exact finish_still (by split <;> simp)
  case keyOverlapExpiry => exact finish_still (by split <;> simp)
  case frameStart => exact finish_ahead (frameStart_ahead h)
  case commitSwap => exact finish_ahead (runStep_ahead _ _ h fun _ => commitSwap_ahead)
  case forcedTakeover => exact finish_ahead (runStep_ahead _ _ h fun _ => forcedTakeover_ahead)
  case pageRestore => exact finish_ahead (runStep_ahead _ _ h fun _ => pageRestore_ahead)
  case trimLoadRetry ok =>
    refine finish_ahead ?_
    split
    · exact stepTrim_ahead (readTrim_ahead h ok)
    · exact h
  all_goals exact finish_ahead (by simp)

/-- Every row, in every state, answers a state that takes nothing back. -/
theorem exec_ahead (c : Instr) (s : State) : NextAhead s (exec c s) := by
  cases hr : ringRow c with
  | some r => exact exec_command_ahead hr s
  | none => exact exec_happening_ahead hr s

/-- Settles O41: the row at the front takes nothing back, and an empty queue leaves the state. -/
theorem stepGoesForward : Obligations.StepGoesForward := by
  intro s t ht
  cases hp : s.pending with
  | nil =>
    rw [step_of_empty hp] at ht
    cases ht
    exact Ahead.refl s
  | cons c rest =>
    rw [step_of_front hp] at ht
    obtain ⟨u, hu, hahead⟩ := exec_ahead c { s with pending := rest }
    rw [ht] at hu
    cases hu
    exact hahead

end Sys2Proof.Proofs
end
